-- ==== Sys2Proof/Machine/Codes.lean ====
section
/-! DEFINITION. The checksums of the device: CRC-8 of lines and hitch messages [11 R215; 20 R387], CRC-32 [04 R458]. -/

namespace Sys2Proof.Machine

/-- One step of CRC-8 with polynomial 0x07, most significant bit first [11 R215]. -/
def crc8Step (c : Nat) : Nat := if 0x80 ≤ c then ((c * 2) ^^^ 0x07) % 256 else c * 2

/-- CRC-8 of `bs`, from the value `c`; the initial value is 0 [11 R215]. -/
def crc8From (c : Nat) (bs : List Nat) : Nat :=
  match bs with
  | [] => c
  | b :: r => crc8From (Nat.repeat crc8Step 8 (c ^^^ b % 256)) r

/-- CRC-8 of `bs` [11 R215]. -/
def crc8 (bs : List Nat) : Nat := crc8From 0 bs

end Sys2Proof.Machine
end

