-- ==== Sys2Proof/Word.lean ====
section
/-! DEFINITION. The word types of the device and their plainest arithmetic. -/

namespace Sys2Proof

/-- A 32-bit register or bus word [00 R6]. -/
abbrev Word := BitVec 32

/-- A byte. -/
abbrev Byte := BitVec 8

/-- `b` as one bit. -/
def bit (b : Bool) : Nat := if b then 1 else 0

/-- The bits `lo` to `lo + n - 1` of `v` [00 R6]. -/
def bitsAt (v lo n : Nat) : Nat := (v >>> lo) % 2 ^ n

/-- Bit `i` of `v`. -/
def bitAt (v i : Nat) : Bool := v.testBit i

end Sys2Proof
end

