-- ==== Sys2Proof/Config.lean ====
section
/-! DEFINITION. What the spec leaves open: the free values, constants with no body. -/

namespace Sys2Proof

/-- Whether a value that a register or record shows in whole units is rounded up where the spec gives the exact value
and no rounding (log entry 6). -/
opaque Config.roundsUp : Rat → Bool

/-- What SR_OFS shows for an offset in 1/16 ns that does not fit its 16 bits (log entry 7). -/
opaque Config.offsetShown : Int → BitVec 16

/-- What weak fuse bits read at normal reference, and what a burn pulse that a reset stops leaves of its bits (log entry 10). -/
opaque Config.weakSense : Nat → BitVec 32

/-- Whether VPP (bit 0) and VIN33 (bit 1) lie within the burn window, as the comparators find them at each read of OT_WIN (log entry 69). -/
opaque Config.supplies : Nat → Fin 4

/-- The bytes that the TRNG gives, one for each draw (log entry 11). -/
opaque Config.trng : Nat → BitVec 8

/-- The nonce of a signature, one for each draw (log entry 11). -/
opaque Config.nonce : Nat → BitVec 256

/-- The monitor version, which the spec gives no number (log entry 13). -/
opaque Config.monVersion : BitVec 16

/-- How far TLT lies from the value it would have held, in ns plus one, after each exit from Fallow (log entry 14). -/
opaque Config.fallowSlip : Nat → Fin 3

/-- Where the edges of a clock lie in model time, in ns modulo its period, after each exit from Nap or Fallow (log entry 95). -/
opaque Config.clockPhase : Nat → Fin 1000

/-- The VCA code that CORE_VSTAT.VNOW shows, one for each read (log entry 15). -/
opaque Config.vcaCode : Nat → BitVec 6

/-- Whether interrupt source 8 is pending, for UA_STAT.FE plus twice UA_STAT.COIN (log entry 16). -/
opaque Config.uartSource : Nat → Bool

/-- What the core window reads in a plot that is FREE or LOADING, one for each read (log entry 102). -/
opaque Config.plotContents : Nat → BitVec 32

/-- The undefined values that CALLM leaves in w4 to w7 (log entry 17). -/
opaque Config.callmScratch : Nat → BitVec 32

end Sys2Proof
end

