-- ==== Sys2Proof/Machine/Regs.lean ====
section
/-! DEFINITION. Every register field the spec gives an address, under its register's and its own name: its address, its
place, its width, its access code and its reset value, as the register tables of the chapters give them. Fields that
the device computes from other state (depths, counters read through a latch) are not listed: reading them is
described with the blocks. -/

namespace Sys2Proof.Machine

/-- The access codes of Table SC-1 [00 R11]. `lk` fields follow the locked-write rule while their register is locked. -/
inductive Acc where
  | rw | ro | w1c | w1s | wo | lk
  deriving DecidableEq, Repr

/-- A register field: the address of its register, its lowest bit, its width, its access code and its reset value. -/
structure Fld where
  addr : Nat
  lo : Nat
  width : Nat
  acc : Acc
  rst : Nat
  deriving DecidableEq, Repr

/-- The number a field is held under. -/
def Fld.key (f : Fld) : Nat := f.addr * 32 + f.lo

def F.SYS_STRAP_BOOTSEL : Fld := ⟨0x40001040, 0, 1, .ro, 0⟩
def F.CK_CFG_DEEPEST : Fld := ⟨0x40000000, 2, 2, .lk, 3⟩
def F.CK_CFG_UNLKACT : Fld := ⟨0x40000000, 1, 1, .lk, 0⟩
def F.CK_CFG_RINGOK : Fld := ⟨0x40000000, 0, 1, .lk, 0⟩
def F.CK_STAT_XSTOP : Fld := ⟨0x40000004, 7, 1, .w1c, 0⟩
def F.CK_STAT_RLOSS : Fld := ⟨0x40000004, 6, 1, .w1c, 0⟩
def F.CK_STAT_UNLOCK : Fld := ⟨0x40000004, 5, 1, .w1c, 0⟩
def F.CK_STAT_HOLDOVER : Fld := ⟨0x40000004, 4, 1, .ro, 0⟩
def F.CK_STAT_RINGCLK : Fld := ⟨0x40000004, 3, 1, .ro, 0⟩
def F.CK_STAT_ROOT : Fld := ⟨0x40000004, 2, 1, .ro, 0⟩
def F.CK_STAT_XOK : Fld := ⟨0x40000004, 1, 1, .ro, 0⟩
def F.CK_STAT_PLLLOCK : Fld := ⟨0x40000004, 0, 1, .ro, 0⟩
def F.CK_ROOT_BUSY : Fld := ⟨0x40000008, 1, 1, .ro, 0⟩
def F.CK_ROOT_SEL : Fld := ⟨0x40000008, 0, 1, .rw, 0⟩
def F.CK_LADDER_AUTOHOLD : Fld := ⟨0x4000000C, 8, 1, .rw, 1⟩
def F.CK_LADDER_REQ : Fld := ⟨0x4000000C, 0, 3, .rw, 0⟩
def F.CK_LSTAT_WHY : Fld := ⟨0x40000010, 5, 3, .ro, 0⟩
def F.CK_LSTAT_REF : Fld := ⟨0x40000010, 4, 1, .w1c, 0⟩
def F.CK_LSTAT_LAST : Fld := ⟨0x40000010, 0, 3, .ro, 0⟩
def F.CK_WAKE_TMP : Fld := ⟨0x40000014, 7, 1, .ro, 1⟩
def F.CK_WAKE_EN : Fld := ⟨0x40000014, 0, 7, .rw, 127⟩
def F.CK_WSRC_DORM : Fld := ⟨0x40000018, 16, 1, .w1c, 0⟩
def F.CK_WSRC_ENCFAST : Fld := ⟨0x40000018, 8, 1, .w1c, 0⟩
def F.CK_WSRC_SRC : Fld := ⟨0x40000018, 0, 8, .w1c, 0⟩
def F.CK_WENC_THRESH : Fld := ⟨0x4000001C, 0, 16, .rw, 1⟩
def F.CK_TLTH_TLT : Fld := ⟨0x40000024, 0, 16, .ro, 0⟩
def F.CK_QEN_CAUSE : Fld := ⟨0x40000028, 0, 2, .rw, 3⟩
def F.SYS_RST_KEY : Fld := ⟨0x40001060, 0, 16, .rw, 0⟩
def F.SYS_RSTC_LOCKUP : Fld := ⟨0x40001044, 4, 1, .w1c, 0⟩
def F.SYS_RSTC_SOFT : Fld := ⟨0x40001044, 3, 1, .w1c, 0⟩
def F.SYS_RSTC_PIN : Fld := ⟨0x40001044, 2, 1, .w1c, 0⟩
def F.SYS_RSTC_BOR : Fld := ⟨0x40001044, 1, 1, .w1c, 0⟩
def F.SYS_RSTC_POR : Fld := ⟨0x40001044, 0, 1, .w1c, 0⟩
def F.SYS_BOOT_ABFAIL : Fld := ⟨0x40001048, 16, 16, .ro, 0⟩
def F.SYS_BOOT_ADVANCED : Fld := ⟨0x40001048, 7, 1, .ro, 0⟩
def F.SYS_BOOT_BAUDOK : Fld := ⟨0x40001048, 6, 1, .ro, 0⟩
def F.SYS_BOOT_SNSERR : Fld := ⟨0x40001048, 5, 1, .ro, 0⟩
def F.SYS_BOOT_SHV : Fld := ⟨0x40001048, 4, 1, .ro, 0⟩
def F.SYS_BOOT_LSTATE : Fld := ⟨0x40001048, 0, 3, .ro, 0⟩
def F.SYS_BOOTERR_CODE : Fld := ⟨0x4000104C, 0, 10, .ro, 0⟩
def F.SYS_BLEN_N : Fld := ⟨0x40001050, 0, 19, .ro, 0⟩
def F.OT_CMD_CODE : Fld := ⟨0x40002000, 0, 4, .rw, 0⟩
def F.OT_ADDR_CTR : Fld := ⟨0x40002004, 16, 4, .rw, 0⟩
def F.OT_ADDR_WORD : Fld := ⟨0x40002004, 0, 9, .rw, 0⟩
def F.OT_DATA_DATA : Fld := ⟨0x40002008, 0, 32, .rw, 0⟩
def F.OT_STAT_WEAK : Fld := ⟨0x4000200C, 12, 1, .w1c, 0⟩
def F.OT_STAT_COIN : Fld := ⟨0x4000200C, 11, 1, .w1c, 0⟩
def F.OT_STAT_CMDLOST : Fld := ⟨0x4000200C, 10, 1, .w1c, 0⟩
def F.OT_STAT_RETRIES : Fld := ⟨0x4000200C, 7, 3, .ro, 0⟩
def F.OT_STAT_ERR : Fld := ⟨0x4000200C, 3, 4, .ro, 0⟩
def F.OT_STAT_DONE : Fld := ⟨0x4000200C, 1, 1, .w1c, 0⟩
def F.OT_STAT_BUSY : Fld := ⟨0x4000200C, 0, 1, .ro, 0⟩
def F.OT_WIN_PEND : Fld := ⟨0x40002010, 4, 1, .ro, 0⟩
def F.OT_WIN_OK : Fld := ⟨0x40002010, 3, 1, .ro, 0⟩
def F.OT_WIN_TEMPOK : Fld := ⟨0x40002010, 2, 1, .ro, 0⟩
def F.OT_WIN_VINOK : Fld := ⟨0x40002010, 1, 1, .ro, 0⟩
def F.OT_WIN_VPPOK : Fld := ⟨0x40002010, 0, 1, .ro, 0⟩
def F.OT_FAIL_BITS : Fld := ⟨0x40002014, 0, 32, .ro, 0⟩
def F.OT_CNT_MH : Fld := ⟨0x40002018, 16, 10, .ro, 0⟩
def F.OT_CNT_NORM : Fld := ⟨0x40002018, 0, 10, .ro, 0⟩
def F.OT_LOCK_XLK : Fld := ⟨0x4000201C, 8, 8, .ro, 0⟩
def F.OT_LOCK_WLK : Fld := ⟨0x4000201C, 0, 8, .ro, 0⟩
def F.KY_CMD_CODE : Fld := ⟨0x40003000, 0, 4, .rw, 0⟩
def F.KY_STAT_PAIR : Fld := ⟨0x40003004, 16, 1, .ro, 0⟩
def F.KY_STAT_TRNGF : Fld := ⟨0x40003004, 15, 1, .ro, 0⟩
def F.KY_STAT_TESTROOT : Fld := ⟨0x40003004, 14, 1, .ro, 0⟩
def F.KY_STAT_CMDLOST : Fld := ⟨0x40003004, 13, 1, .w1c, 0⟩
def F.KY_STAT_REFILL : Fld := ⟨0x40003004, 12, 1, .w1c, 0⟩
def F.KY_STAT_KATTR : Fld := ⟨0x40003004, 9, 3, .ro, 0⟩
def F.KY_STAT_KFULL : Fld := ⟨0x40003004, 8, 1, .ro, 0⟩
def F.KY_STAT_ERR : Fld := ⟨0x40003004, 4, 4, .ro, 0⟩
def F.KY_STAT_DONE : Fld := ⟨0x40003004, 1, 1, .w1c, 0⟩
def F.KY_STAT_BUSY : Fld := ⟨0x40003004, 0, 1, .ro, 0⟩
def F.KY_ARG_CONFIRM : Fld := ⟨0x40003008, 0, 32, .rw, 0⟩
def F.KY_LC_UNLKFAIL : Fld := ⟨0x4000300C, 24, 8, .ro, 0⟩
def F.KY_LC_SEEDBAD : Fld := ⟨0x4000300C, 16, 1, .ro, 0⟩
def F.KY_LC_DBGEN : Fld := ⟨0x4000300C, 8, 1, .ro, 0⟩
def F.KY_LC_CODE : Fld := ⟨0x4000300C, 0, 8, .ro, 0⟩
def F.KY_PATH_W (q : Nat) : Fld := ⟨0x40003040 + 4 * q, 0, 32, .rw, 0⟩
def F.KY_BUF_W (q : Nat) : Fld := ⟨0x40003100 + 4 * q, 0, 32, .rw, 0⟩
def F.TP_STAT_CFULL : Fld := ⟨0x40004000, 9, 1, .ro, 0⟩
def F.TP_STAT_QPEND : Fld := ⟨0x40004000, 8, 1, .ro, 0⟩
def F.TP_STAT_DBG : Fld := ⟨0x40004000, 5, 1, .w1c, 0⟩
def F.TP_STAT_XSTOP : Fld := ⟨0x40004000, 4, 1, .w1c, 0⟩
def F.TP_STAT_TEMP : Fld := ⟨0x40004000, 3, 1, .w1c, 0⟩
def F.TP_STAT_VGL : Fld := ⟨0x40004000, 2, 1, .w1c, 0⟩
def F.TP_STAT_MESH : Fld := ⟨0x40004000, 1, 1, .w1c, 0⟩
def F.TP_STAT_LOOP : Fld := ⟨0x40004000, 0, 1, .w1c, 0⟩
def F.TP_LIVE_SRC : Fld := ⟨0x40004004, 0, 6, .ro, 0⟩
def F.CORE_ID_STEP : Fld := ⟨0xE0000000, 0, 8, .ro, 67⟩
def F.VBASE_BASE : Fld := ⟨0xE0000010, 9, 23, .rw, 524288⟩
def F.FETCH_MODE_XIPEN : Fld := ⟨0xE0000014, 1, 1, .rw, 0⟩
def F.FETCH_MODE_PQEN : Fld := ⟨0xE0000014, 0, 1, .rw, 1⟩
def F.IC_CTL_CLRST : Fld := ⟨0xE0000018, 3, 1, .w1s, 0⟩
def F.IC_CTL_INV : Fld := ⟨0xE0000018, 2, 1, .w1s, 0⟩
def F.IC_CTL_LOCK0 : Fld := ⟨0xE0000018, 1, 1, .rw, 0⟩
def F.IC_CTL_EN : Fld := ⟨0xE0000018, 0, 1, .rw, 1⟩
def F.IC_STAT_MISS : Fld := ⟨0xE000001C, 16, 16, .ro, 0⟩
def F.IC_STAT_HIT : Fld := ⟨0xE000001C, 0, 16, .ro, 0⟩
def F.CORE_VSET_AUTO : Fld := ⟨0xE0000020, 31, 1, .rw, 0⟩
def F.CORE_VSET_VMAX : Fld := ⟨0xE0000020, 24, 6, .rw, 55⟩
def F.CORE_VSET_VMIN : Fld := ⟨0xE0000020, 16, 6, .rw, 0⟩
def F.CORE_VSET_DOWN : Fld := ⟨0xE0000020, 11, 3, .rw, 0⟩
def F.CORE_VSET_DQ : Fld := ⟨0xE0000020, 10, 1, .rw, 1⟩
def F.CORE_VSET_DI : Fld := ⟨0xE0000020, 9, 1, .rw, 1⟩
def F.CORE_VSET_DW : Fld := ⟨0xE0000020, 8, 1, .rw, 1⟩
def F.CORE_VSET_VSET : Fld := ⟨0xE0000020, 0, 6, .rw, 35⟩
def F.CORE_VSTAT_TARGET : Fld := ⟨0xE0000024, 16, 6, .ro, 35⟩
def F.CORE_VSTAT_DEMAND : Fld := ⟨0xE0000024, 9, 1, .ro, 0⟩
def F.CORE_VSTAT_SETTLED : Fld := ⟨0xE0000024, 8, 1, .ro, 0⟩
def F.CORE_VSTAT_VNOW : Fld := ⟨0xE0000024, 0, 6, .ro, 0⟩
def F.CO_FCAUSE_IMP : Fld := ⟨0xE0000030, 4, 1, .w1c, 0⟩
def F.CO_FCAUSE_ENTRY : Fld := ⟨0xE0000030, 0, 4, .ro, 0⟩
def F.CO_FADDR_ADDR : Fld := ⟨0xE0000034, 0, 32, .ro, 0⟩
def F.CO_FPC_ADDR : Fld := ⟨0xE0000038, 0, 32, .ro, 0⟩
def F.CO_CALLN_IE0 : Fld := ⟨0xE000003C, 8, 1, .ro, 0⟩
def F.CO_CALLN_N : Fld := ⟨0xE000003C, 0, 8, .ro, 0⟩
def F.CO_ISWI_SWI : Fld := ⟨0xE0000048, 0, 4, .rw, 0⟩
def F.CO_IPRI_L0 (q : Nat) : Fld := ⟨0xE0000080 + 4 * q, 0, 3, .rw, 0⟩
def F.CO_IPRI_L1 (q : Nat) : Fld := ⟨0xE0000080 + 4 * q, 4, 3, .rw, 0⟩
def F.CO_IPRI_L2 (q : Nat) : Fld := ⟨0xE0000080 + 4 * q, 8, 3, .rw, 0⟩
def F.CO_IPRI_L3 (q : Nat) : Fld := ⟨0xE0000080 + 4 * q, 12, 3, .rw, 0⟩
def F.CO_IPRI_L4 (q : Nat) : Fld := ⟨0xE0000080 + 4 * q, 16, 3, .rw, 0⟩
def F.CO_IPRI_L5 (q : Nat) : Fld := ⟨0xE0000080 + 4 * q, 20, 3, .rw, 0⟩
def F.CO_IPRI_L6 (q : Nat) : Fld := ⟨0xE0000080 + 4 * q, 24, 3, .rw, 0⟩
def F.CO_IPRI_L7 (q : Nat) : Fld := ⟨0xE0000080 + 4 * q, 28, 3, .rw, 0⟩
def F.GUARD_LOCK_LOCK : Fld := ⟨0xE0000100, 0, 1, .wo, 0⟩
def F.GUARD_BASE_BASE (q : Nat) : Fld := ⟨0xE0000200 + 16 * q, 5, 27, .lk, 0⟩
def F.GUARD_LIM_LIM (q : Nat) : Fld := ⟨0xE0000204 + 16 * q, 5, 27, .lk, 0⟩
def F.GUARD_ATTR_EN (q : Nat) : Fld := ⟨0xE0000208 + 16 * q, 3, 1, .lk, 0⟩
def F.GUARD_ATTR_X (q : Nat) : Fld := ⟨0xE0000208 + 16 * q, 2, 1, .lk, 0⟩
def F.GUARD_ATTR_W (q : Nat) : Fld := ⟨0xE0000208 + 16 * q, 1, 1, .lk, 0⟩
def F.GUARD_ATTR_R (q : Nat) : Fld := ⟨0xE0000208 + 16 * q, 0, 1, .lk, 0⟩
def F.SYS_ID_DEVICE : Fld := ⟨0x40001000, 16, 16, .ro, 18438⟩
def F.SYS_ID_STEP : Fld := ⟨0x40001000, 0, 8, .ro, 67⟩
def F.SYS_SERL_SER : Fld := ⟨0x40001004, 0, 32, .ro, 0⟩
def F.SYS_SERH_SER : Fld := ⟨0x40001008, 0, 32, .ro, 0⟩
def F.SYS_LOCKV_MULTI : Fld := ⟨0x40001010, 31, 1, .w1c, 0⟩
def F.SYS_LOCKV_TAG : Fld := ⟨0x40001010, 0, 17, .w1c, 0⟩
def F.SYS_LOCKA_ADDR : Fld := ⟨0x40001014, 0, 32, .ro, 0⟩
def F.SYS_COIN_TAG : Fld := ⟨0x40001018, 0, 17, .w1c, 0⟩
def F.Q_CTL_IDLE (q : Nat) : Fld := ⟨0x40005000 + 4096 * q, 16, 8, .rw, 0⟩
def F.Q_CTL_CUT (q : Nat) : Fld := ⟨0x40005000 + 4096 * q, 8, 8, .rw, 0⟩
def F.Q_STAT_WM (q : Nat) : Fld := ⟨0x40005004 + 4096 * q, 9, 1, .ro, 0⟩
def F.Q_STAT_EVLOST (q : Nat) : Fld := ⟨0x40005004 + 4096 * q, 5, 1, .w1c, 0⟩
def F.Q_STAT_PKT (q : Nat) : Fld := ⟨0x40005004 + 4096 * q, 4, 1, .w1c, 0⟩
def F.Q_STAT_CUTR (q : Nat) : Fld := ⟨0x40005004 + 4096 * q, 3, 1, .w1c, 0⟩
def F.Q_STAT_LODN (q : Nat) : Fld := ⟨0x40005004 + 4096 * q, 2, 1, .w1c, 0⟩
def F.Q_STAT_HIUP (q : Nat) : Fld := ⟨0x40005004 + 4096 * q, 1, 1, .w1c, 0⟩
def F.Q_STAT_OVR (q : Nat) : Fld := ⟨0x40005004 + 4096 * q, 0, 1, .w1c, 0⟩
def F.Q_CMD_DROP (q : Nat) : Fld := ⟨0x40005008 + 4096 * q, 1, 1, .w1s, 0⟩
def F.Q_CMD_FLUSH (q : Nat) : Fld := ⟨0x40005008 + 4096 * q, 0, 1, .w1s, 0⟩
def F.Q_POP_WORD (q : Nat) : Fld := ⟨0x4000500C + 4096 * q, 0, 32, .ro, 0⟩
def F.Q_TAG_TMO (q : Nat) : Fld := ⟨0x40005010 + 4096 * q, 9, 1, .ro, 0⟩
def F.Q_TAG_COIN (q : Nat) : Fld := ⟨0x40005010 + 4096 * q, 8, 1, .w1c, 0⟩
def F.Q_TAG_SRC (q : Nat) : Fld := ⟨0x40005010 + 4096 * q, 5, 3, .ro, 0⟩
def F.Q_TAG_BRK (q : Nat) : Fld := ⟨0x40005010 + 4096 * q, 4, 1, .ro, 0⟩
def F.Q_TAG_EOP (q : Nat) : Fld := ⟨0x40005010 + 4096 * q, 3, 1, .ro, 0⟩
def F.Q_TAG_SOP (q : Nat) : Fld := ⟨0x40005010 + 4096 * q, 2, 1, .ro, 0⟩
def F.Q_TAG_VB (q : Nat) : Fld := ⟨0x40005010 + 4096 * q, 0, 2, .ro, 0⟩
def F.Q_TMO_TMO (q : Nat) : Fld := ⟨0x40005014 + 4096 * q, 0, 16, .rw, 1000⟩
def F.Q_WM_HI (q : Nat) : Fld := ⟨0x40005018 + 4096 * q, 16, 9, .rw, 192-96*q⟩
def F.Q_WM_LO (q : Nat) : Fld := ⟨0x40005018 + 4096 * q, 0, 9, .rw, 128-64*q⟩
def F.Q_IE_DATA (q : Nat) : Fld := ⟨0x4000501C + 4096 * q, 6, 1, .rw, 0⟩
def F.Q_IE_STAT (q : Nat) : Fld := ⟨0x4000501C + 4096 * q, 0, 6, .rw, 0⟩
def F.Q_LOST_EV (q : Nat) : Fld := ⟨0x40005020 + 4096 * q, 24, 8, .ro, 0⟩
def F.Q_LOST_PKTS (q : Nat) : Fld := ⟨0x40005020 + 4096 * q, 12, 12, .ro, 0⟩
def F.Q_LOST_WORDS (q : Nat) : Fld := ⟨0x40005020 + 4096 * q, 0, 12, .ro, 0⟩
def F.UA_CTL_LTMO : Fld := ⟨0x40007000, 8, 8, .rw, 0⟩
def F.UA_CTL_TXEN : Fld := ⟨0x40007000, 1, 1, .rw, 0⟩
def F.UA_CTL_RXEN : Fld := ⟨0x40007000, 0, 1, .rw, 0⟩
def F.UA_DIV_DIV : Fld := ⟨0x40007004, 0, 18, .rw, 208334⟩
def F.UA_STAT_EVCNT : Fld := ⟨0x40007008, 24, 8, .ro, 0⟩
def F.UA_STAT_CLREV : Fld := ⟨0x40007008, 5, 1, .w1s, 0⟩
def F.UA_STAT_COIN : Fld := ⟨0x40007008, 4, 1, .w1c, 0⟩
def F.UA_STAT_FE : Fld := ⟨0x40007008, 2, 1, .w1c, 0⟩
def F.UA_STAT_CTS : Fld := ⟨0x40007008, 1, 1, .ro, 0⟩
def F.UA_TX_DATA : Fld := ⟨0x4000700C, 0, 8, .rw, 0⟩
def F.SP_CTL_WTMO : Fld := ⟨0x40008000, 24, 8, .rw, 100⟩
def F.SP_CTL_PIVL : Fld := ⟨0x40008000, 16, 8, .rw, 10⟩
def F.SP_CTL_CTMO : Fld := ⟨0x40008000, 8, 8, .rw, 4⟩
def F.SP_CTL_EN : Fld := ⟨0x40008000, 0, 1, .rw, 1⟩
def F.SP_STAT_WTO : Fld := ⟨0x40008004, 7, 1, .w1c, 0⟩
def F.SP_STAT_GONE : Fld := ⟨0x40008004, 6, 1, .w1c, 0⟩
def F.SP_STAT_COIN : Fld := ⟨0x40008004, 5, 1, .w1c, 0⟩
def F.SP_STAT_BADENT : Fld := ⟨0x40008004, 4, 1, .w1c, 0⟩
def F.SP_STAT_CQFULL : Fld := ⟨0x40008004, 3, 1, .w1c, 0⟩
def F.SP_STAT_CBRK : Fld := ⟨0x40008004, 2, 1, .w1c, 0⟩
def F.SP_STAT_DDONE : Fld := ⟨0x40008004, 1, 1, .w1c, 0⟩
def F.SP_STAT_RUNEND : Fld := ⟨0x40008004, 0, 1, .w1c, 0⟩
def F.SP_CQC_CTRL : Fld := ⟨0x40008008, 0, 32, .rw, 0⟩
def F.SP_CQA_ADDR : Fld := ⟨0x4000800C, 0, 32, .rw, 0⟩
def F.SP_CQD_DATA : Fld := ⟨0x40008010, 0, 32, .rw, 0⟩
def F.SP_RXD_DATA : Fld := ⟨0x40008014, 0, 32, .ro, 0⟩
def F.SP_IE_RXDATA : Fld := ⟨0x40008018, 8, 1, .rw, 0⟩
def F.SP_IE_STAT : Fld := ⟨0x40008018, 0, 8, .rw, 0⟩
def F.SP_DISC_SELMASK : Fld := ⟨0x4000801C, 4, 4, .rw, 0⟩
def F.SP_DISC_WMAX : Fld := ⟨0x4000801C, 0, 2, .rw, 0⟩
def F.SP_SEL_GEN (q : Nat) : Fld := ⟨0x40008040 + 16 * q, 31, 1, .rw, 0⟩
def F.SP_SEL_XEN (q : Nat) : Fld := ⟨0x40008040 + 16 * q, 30, 1, .rw, 0⟩
def F.SP_SEL_ADDR4 (q : Nat) : Fld := ⟨0x40008040 + 16 * q, 28, 1, .rw, 0⟩
def F.SP_SEL_DESEL (q : Nat) : Fld := ⟨0x40008040 + 16 * q, 24, 4, .rw, 3⟩
def F.SP_SEL_RDLY (q : Nat) : Fld := ⟨0x40008040 + 16 * q, 22, 2, .rw, 0⟩
def F.SP_SEL_DIV (q : Nat) : Fld := ⟨0x40008040 + 16 * q, 16, 6, .rw, 3⟩
def F.SP_SEL_MCLK (q : Nat) : Fld := ⟨0x40008040 + 16 * q, 13, 3, .rw, 0⟩
def F.SP_SEL_DUM (q : Nat) : Fld := ⟨0x40008040 + 16 * q, 8, 5, .rw, 0⟩
def F.SP_SEL_RCMD (q : Nat) : Fld := ⟨0x40008040 + 16 * q, 0, 8, .rw, 3⟩
def F.SP_XWIN_EN (q : Nat) : Fld := ⟨0x40008044 + 16 * q, 31, 1, .rw, 0⟩
def F.SP_XWIN_BASE (q : Nat) : Fld := ⟨0x40008044 + 16 * q, 16, 12, .rw, 0⟩
def F.SP_XWIN_SIZEM1 (q : Nat) : Fld := ⟨0x40008044 + 16 * q, 0, 12, .rw, 0⟩
def F.SP_XDEV_SIZE (q : Nat) : Fld := ⟨0x40008048 + 16 * q, 16, 13, .ro, 0⟩
def F.SP_XDEV_DEV (q : Nat) : Fld := ⟨0x40008048 + 16 * q, 0, 12, .rw, 0⟩
def F.SP_ID_PRESENT (q : Nat) : Fld := ⟨0x4000804C + 16 * q, 31, 1, .ro, 0⟩
def F.SP_ID_SFDP (q : Nat) : Fld := ⟨0x4000804C + 16 * q, 30, 1, .ro, 0⟩
def F.SP_ID_ID (q : Nat) : Fld := ⟨0x4000804C + 16 * q, 0, 24, .ro, 0⟩
def F.SP_SCTL_MODE : Fld := ⟨0x40009000, 1, 1, .rw, 0⟩
def F.SP_SCTL_EN : Fld := ⟨0x40009000, 0, 1, .rw, 0⟩
def F.SP_SSTAT_ACTIVE : Fld := ⟨0x40009004, 4, 1, .ro, 0⟩
def F.SP_SSTAT_LONG : Fld := ⟨0x40009004, 3, 1, .w1c, 0⟩
def F.SP_SSTAT_OVF : Fld := ⟨0x40009004, 2, 1, .w1c, 0⟩
def F.SP_SSTAT_ABRT : Fld := ⟨0x40009004, 1, 1, .w1c, 0⟩
def F.SP_SCNT_DROPS : Fld := ⟨0x40009008, 16, 16, .ro, 0⟩
def F.SP_SCNT_ABORTS : Fld := ⟨0x40009008, 0, 16, .ro, 0⟩
def F.SP_STX_DATA : Fld := ⟨0x4000900C, 0, 8, .rw, 0⟩
def F.SP_SIE_STAT : Fld := ⟨0x40009010, 1, 3, .rw, 0⟩
def F.PE_CTL_COIN (q : Nat) : Fld := ⟨0x4000A000 + 32 * q, 24, 1, .w1c, 0⟩
def F.PE_CTL_OINIT (q : Nat) : Fld := ⟨0x4000A000 + 32 * q, 16, 4, .rw, 0⟩
def F.PE_CTL_INIT (q : Nat) : Fld := ⟨0x4000A000 + 32 * q, 8, 4, .rw, 0⟩
def F.PE_CTL_IE (q : Nat) : Fld := ⟨0x4000A000 + 32 * q, 4, 4, .rw, 0⟩
def F.PE_CTL_RUN (q : Nat) : Fld := ⟨0x4000A000 + 32 * q, 0, 1, .rw, 0⟩
def F.PE_DATA_STATE (q : Nat) : Fld := ⟨0x4000A004 + 32 * q, 16, 4, .ro, 0⟩
def F.PE_DATA_IN (q : Nat) : Fld := ⟨0x4000A004 + 32 * q, 8, 4, .rw, 0⟩
def F.PE_DATA_OUT (q : Nat) : Fld := ⟨0x4000A004 + 32 * q, 0, 4, .ro, 0⟩
def F.PE_INSEL_INV0 (q : Nat) : Fld := ⟨0x4000A008 + 32 * q, 7, 1, .lk, 0⟩
def F.PE_INSEL_SEL0 (q : Nat) : Fld := ⟨0x4000A008 + 32 * q, 0, 7, .lk, 0⟩
def F.PE_INSEL_INV1 (q : Nat) : Fld := ⟨0x4000A008 + 32 * q, 15, 1, .lk, 0⟩
def F.PE_INSEL_SEL1 (q : Nat) : Fld := ⟨0x4000A008 + 32 * q, 8, 7, .lk, 0⟩
def F.PE_INSEL_INV2 (q : Nat) : Fld := ⟨0x4000A008 + 32 * q, 23, 1, .lk, 0⟩
def F.PE_INSEL_SEL2 (q : Nat) : Fld := ⟨0x4000A008 + 32 * q, 16, 7, .lk, 0⟩
def F.PE_INSEL_INV3 (q : Nat) : Fld := ⟨0x4000A008 + 32 * q, 31, 1, .lk, 0⟩
def F.PE_INSEL_SEL3 (q : Nat) : Fld := ⟨0x4000A008 + 32 * q, 24, 7, .lk, 0⟩
def F.PE_OUTSEL_OD0 (q : Nat) : Fld := ⟨0x4000A00C + 32 * q, 5, 1, .lk, 0⟩
def F.PE_OUTSEL_EN0 (q : Nat) : Fld := ⟨0x4000A00C + 32 * q, 4, 1, .lk, 0⟩
def F.PE_OUTSEL_PIN0 (q : Nat) : Fld := ⟨0x4000A00C + 32 * q, 0, 4, .lk, 0⟩
def F.PE_OUTSEL_OD1 (q : Nat) : Fld := ⟨0x4000A00C + 32 * q, 13, 1, .lk, 0⟩
def F.PE_OUTSEL_EN1 (q : Nat) : Fld := ⟨0x4000A00C + 32 * q, 12, 1, .lk, 0⟩
def F.PE_OUTSEL_PIN1 (q : Nat) : Fld := ⟨0x4000A00C + 32 * q, 8, 4, .lk, 0⟩
def F.PE_OUTSEL_OD2 (q : Nat) : Fld := ⟨0x4000A00C + 32 * q, 21, 1, .lk, 0⟩
def F.PE_OUTSEL_EN2 (q : Nat) : Fld := ⟨0x4000A00C + 32 * q, 20, 1, .lk, 0⟩
def F.PE_OUTSEL_PIN2 (q : Nat) : Fld := ⟨0x4000A00C + 32 * q, 16, 4, .lk, 0⟩
def F.PE_OUTSEL_OD3 (q : Nat) : Fld := ⟨0x4000A00C + 32 * q, 29, 1, .lk, 0⟩
def F.PE_OUTSEL_EN3 (q : Nat) : Fld := ⟨0x4000A00C + 32 * q, 28, 1, .lk, 0⟩
def F.PE_OUTSEL_PIN3 (q : Nat) : Fld := ⟨0x4000A00C + 32 * q, 24, 4, .lk, 0⟩
def F.PE_CLK_DIV (q : Nat) : Fld := ⟨0x4000A010 + 32 * q, 0, 16, .lk, 0⟩
def F.PE_TMR_TCNT (q : Nat) : Fld := ⟨0x4000A014 + 32 * q, 16, 16, .ro, 0⟩
def F.PE_TMR_LIMIT (q : Nat) : Fld := ⟨0x4000A014 + 32 * q, 0, 16, .lk, 0⟩
def F.PE_STAT_RISE (q : Nat) : Fld := ⟨0x4000A018 + 32 * q, 0, 4, .w1c, 0⟩
def F.PE_CONF_PIN : Fld := ⟨0x4000A100, 0, 16, .w1c, 0⟩
def F.PE_PINS_LEVEL : Fld := ⟨0x4000A104, 0, 16, .ro, 0⟩
def F.EN_CFG_NAVG (q : Nat) : Fld := ⟨0x4000B000 + 64 * q, 16, 8, .rw, 16⟩
def F.EN_CFG_FILTER (q : Nat) : Fld := ⟨0x4000B000 + 64 * q, 8, 8, .rw, 0⟩
def F.EN_CFG_ZGATE (q : Nat) : Fld := ⟨0x4000B000 + 64 * q, 4, 1, .rw, 0⟩
def F.EN_CFG_INV (q : Nat) : Fld := ⟨0x4000B000 + 64 * q, 3, 1, .rw, 0⟩
def F.EN_CFG_TERM (q : Nat) : Fld := ⟨0x4000B000 + 64 * q, 2, 1, .rw, 0⟩
def F.EN_CFG_MODE (q : Nat) : Fld := ⟨0x4000B000 + 64 * q, 1, 1, .rw, 0⟩
def F.EN_BCFG_STOPT (q : Nat) : Fld := ⟨0x4000B004 + 64 * q, 16, 16, .rw, 10000⟩
def F.EN_BCFG_QB (q : Nat) : Fld := ⟨0x4000B004 + 64 * q, 9, 1, .rw, 1⟩
def F.EN_BCFG_CM (q : Nat) : Fld := ⟨0x4000B004 + 64 * q, 8, 1, .rw, 1⟩
def F.EN_BCFG_PLIM (q : Nat) : Fld := ⟨0x4000B004 + 64 * q, 0, 8, .rw, 48⟩
def F.EN_PH_POS (q : Nat) : Fld := ⟨0x4000B00C + 64 * q, 0, 16, .ro, 0⟩
def F.EN_STAT_LN (q : Nat) : Fld := ⟨0x4000B014 + 64 * q, 15, 1, .w1c, 0⟩
def F.EN_STAT_LF (q : Nat) : Fld := ⟨0x4000B014 + 64 * q, 14, 1, .w1c, 0⟩
def F.EN_STAT_LQ (q : Nat) : Fld := ⟨0x4000B014 + 64 * q, 13, 1, .w1c, 0⟩
def F.EN_STAT_BURSTS (q : Nat) : Fld := ⟨0x4000B014 + 64 * q, 12, 1, .w1c, 0⟩
def F.EN_STAT_START (q : Nat) : Fld := ⟨0x4000B014 + 64 * q, 11, 1, .w1c, 0⟩
def F.EN_STAT_ZCAP (q : Nat) : Fld := ⟨0x4000B014 + 64 * q, 10, 1, .w1c, 0⟩
def F.EN_STAT_REV (q : Nat) : Fld := ⟨0x4000B014 + 64 * q, 9, 1, .w1c, 0⟩
def F.EN_STAT_FROZEN (q : Nat) : Fld := ⟨0x4000B014 + 64 * q, 3, 1, .ro, 0⟩
def F.EN_STAT_BURST (q : Nat) : Fld := ⟨0x4000B014 + 64 * q, 2, 1, .ro, 0⟩
def F.EN_STAT_STOP (q : Nat) : Fld := ⟨0x4000B014 + 64 * q, 1, 1, .ro, 1⟩
def F.EN_STAT_DIR (q : Nat) : Fld := ⟨0x4000B014 + 64 * q, 0, 1, .ro, 0⟩
def F.EN_IE_IE (q : Nat) : Fld := ⟨0x4000B018 + 64 * q, 9, 7, .rw, 0⟩
def F.EN_ZPH_POS (q : Nat) : Fld := ⟨0x4000B020 + 64 * q, 0, 16, .ro, 0⟩
def F.EN_PSETL_POS (q : Nat) : Fld := ⟨0x4000B024 + 64 * q, 0, 32, .rw, 0⟩
def F.EN_PSETH_POS (q : Nat) : Fld := ⟨0x4000B028 + 64 * q, 0, 16, .rw, 0⟩
def F.EN_CMD_LOAD (q : Nat) : Fld := ⟨0x4000B02C + 64 * q, 0, 1, .w1s, 0⟩
def F.EN_CNT_REVS (q : Nat) : Fld := ⟨0x4000B030 + 64 * q, 16, 16, .ro, 0⟩
def F.EN_CNT_QERR (q : Nat) : Fld := ⟨0x4000B030 + 64 * q, 0, 16, .ro, 0⟩
def F.EN_RING_RSRC : Fld := ⟨0x4000B100, 0, 1, .rw, 0⟩
def F.EN_RPOSH_POS : Fld := ⟨0x4000B108, 0, 16, .ro, 0⟩
def F.SWF_CFG_MASK (q : Nat) : Fld := ⟨0x40010000 + 64 * q, 24, 8, .lk, 0⟩
def F.SWF_CFG_DIST (q : Nat) : Fld := ⟨0x40010000 + 64 * q, 18, 2, .lk, 0⟩
def F.SWF_CFG_FAULT (q : Nat) : Fld := ⟨0x40010000 + 64 * q, 16, 2, .lk, 0⟩
def F.SWF_CFG_CLASS (q : Nat) : Fld := ⟨0x40010000 + 64 * q, 14, 2, .lk, 0⟩
def F.SWF_CFG_PRI (q : Nat) : Fld := ⟨0x40010000 + 64 * q, 12, 2, .lk, 0⟩
def F.SWF_CFG_HEADEN (q : Nat) : Fld := ⟨0x40010000 + 64 * q, 11, 1, .lk, 0⟩
def F.SWF_CFG_HEAD (q : Nat) : Fld := ⟨0x40010000 + 64 * q, 8, 3, .lk, 0⟩
def F.SWF_CFG_BANK (q : Nat) : Fld := ⟨0x40010000 + 64 * q, 4, 3, .lk, 0⟩
def F.SWF_CFG_SRC (q : Nat) : Fld := ⟨0x40010000 + 64 * q, 0, 2, .lk, 0⟩
def F.SWF_ATL_AT (q : Nat) : Fld := ⟨0x40010004 + 64 * q, 0, 32, .lk, 0⟩
def F.SWF_ATH_AT (q : Nat) : Fld := ⟨0x40010008 + 64 * q, 0, 16, .lk, 0⟩
def F.SWF_EVERY_EVERY (q : Nat) : Fld := ⟨0x4001000C + 64 * q, 0, 32, .lk, 0⟩
def F.SWF_PAGE_CAP (q : Nat) : Fld := ⟨0x40010010 + 64 * q, 16, 12, .lk, 4095⟩
def F.SWF_PAGE_PAGESM1 (q : Nat) : Fld := ⟨0x40010010 + 64 * q, 8, 8, .lk, 0⟩
def F.SWF_PAGE_PAGE0 (q : Nat) : Fld := ⟨0x40010010 + 64 * q, 0, 8, .lk, 0⟩
def F.SWF_SLACK_SLACK (q : Nat) : Fld := ⟨0x40010014 + 64 * q, 0, 20, .lk, 2000⟩
def F.SW_CTL_EN : Fld := ⟨0x4000C000, 0, 1, .rw, 1⟩
def F.SW_HZN_HZN : Fld := ⟨0x4000C004, 0, 20, .rw, 100000⟩
def F.SW_FCMD_OP : Fld := ⟨0x4000C008, 16, 3, .rw, 0⟩
def F.SW_FCMD_F : Fld := ⟨0x4000C008, 0, 8, .rw, 0⟩
def F.SW_FSTAT_DONE : Fld := ⟨0x4000C00C, 8, 1, .w1c, 0⟩
def F.SW_FSTAT_ERR : Fld := ⟨0x4000C00C, 0, 3, .ro, 0⟩
def F.SW_MISS_COUNT : Fld := ⟨0x4000C010, 0, 32, .ro, 0⟩
def F.SW_DEFER_COUNT : Fld := ⟨0x4000C014, 0, 32, .ro, 0⟩
def F.SW_WDRAW_COUNT : Fld := ⟨0x4000C018, 0, 32, .ro, 0⟩
def F.SW_EV_FHL : Fld := ⟨0x4000C01C, 4, 1, .w1c, 0⟩
def F.SW_EV_DISPL : Fld := ⟨0x4000C01C, 3, 1, .w1c, 0⟩
def F.SW_EV_REV : Fld := ⟨0x4000C01C, 2, 1, .w1c, 0⟩
def F.SW_EV_FAULT : Fld := ⟨0x4000C01C, 1, 1, .w1c, 0⟩
def F.SW_EV_MISS : Fld := ⟨0x4000C01C, 0, 1, .w1c, 0⟩
def F.SW_IE_IE : Fld := ⟨0x4000C020, 0, 5, .rw, 0⟩
def F.SW_QEN_FHL : Fld := ⟨0x4000C024, 3, 1, .rw, 1⟩
def F.SW_QEN_REV : Fld := ⟨0x4000C024, 2, 1, .rw, 1⟩
def F.SW_QEN_FAULT : Fld := ⟨0x4000C024, 1, 1, .rw, 1⟩
def F.SW_QEN_MISS : Fld := ⟨0x4000C024, 0, 1, .rw, 1⟩
def F.SW_FHL_COUNT (q : Nat) : Fld := ⟨0x4000C040 + 4 * q, 0, 16, .ro, 0⟩
def F.DR_STAT_LASTK : Fld := ⟨0x4000D000, 16, 6, .ro, 0⟩
def F.DR_EV_WDRAW : Fld := ⟨0x4000D004, 2, 1, .w1c, 0⟩
def F.DR_EV_CANCEL : Fld := ⟨0x4000D004, 1, 1, .w1c, 0⟩
def F.DR_EV_FIRED : Fld := ⟨0x4000D004, 0, 1, .w1c, 0⟩
def F.DR_IE_IE : Fld := ⟨0x4000D008, 0, 3, .rw, 0⟩
def F.DR_FIRED_COUNT : Fld := ⟨0x4000D00C, 0, 32, .ro, 0⟩
def F.GR_CTL_PREF : Fld := ⟨0x4000E000, 2, 1, .rw, 1⟩
def F.GR_CTL_CPUWIN : Fld := ⟨0x4000E000, 1, 1, .rw, 0⟩
def F.GR_CTL_EN : Fld := ⟨0x4000E000, 0, 1, .rw, 1⟩
def F.GR_STAT_NOPLOT : Fld := ⟨0x4000E004, 2, 1, .w1c, 0⟩
def F.GR_STAT_COIN : Fld := ⟨0x4000E004, 0, 1, .w1c, 0⟩
def F.GR_LOOK_COUNTS : Fld := ⟨0x4000E008, 0, 24, .rw, 256⟩
def F.GR_LOOKT_NS : Fld := ⟨0x4000E00C, 0, 24, .rw, 1000000⟩
def F.GR_GUARD_NS : Fld := ⟨0x4000E010, 0, 24, .rw, 100000⟩
def F.GR_PTIDX_F : Fld := ⟨0x4000E014, 8, 8, .rw, 0⟩
def F.GR_PTIDX_PAGE : Fld := ⟨0x4000E014, 0, 8, .rw, 0⟩
def F.GR_CMD_OP : Fld := ⟨0x4000E01C, 16, 2, .rw, 0⟩
def F.GR_CMD_F : Fld := ⟨0x4000E01C, 8, 8, .rw, 0⟩
def F.GR_CMD_PAGE : Fld := ⟨0x4000E01C, 0, 8, .rw, 0⟩
def F.GR_CSTAT_DONE : Fld := ⟨0x4000E020, 8, 1, .w1c, 0⟩
def F.GR_CSTAT_ERR : Fld := ⟨0x4000E020, 4, 3, .ro, 0⟩
def F.GR_CSTAT_BUSY : Fld := ⟨0x4000E020, 1, 1, .ro, 0⟩
def F.GR_CNT_FAULTS : Fld := ⟨0x4000E028, 16, 16, .ro, 0⟩
def F.GR_CNT_FETCHES : Fld := ⟨0x4000E028, 0, 16, .ro, 0⟩
def F.GR_EV_SUBST : Fld := ⟨0x4000E02C, 4, 1, .w1c, 0⟩
def F.GR_EV_FAULT : Fld := ⟨0x4000E02C, 3, 1, .w1c, 0⟩
def F.GR_EV_LATE : Fld := ⟨0x4000E02C, 2, 1, .w1c, 0⟩
def F.GR_EV_ERR : Fld := ⟨0x4000E02C, 1, 1, .w1c, 0⟩
def F.GR_EV_DONE : Fld := ⟨0x4000E02C, 0, 1, .w1c, 0⟩
def F.GR_IE_IE : Fld := ⟨0x4000E030, 0, 5, .rw, 0⟩
def F.GR_QEN_FAULT : Fld := ⟨0x4000E034, 2, 1, .rw, 1⟩
def F.GR_QEN_LATE : Fld := ⟨0x4000E034, 1, 1, .rw, 1⟩
def F.GR_QEN_ERROR : Fld := ⟨0x4000E034, 0, 1, .rw, 1⟩
def F.GR_CUR_ADV (q : Nat) : Fld := ⟨0x4000E400 + 4 * q, 12, 1, .rw, 0⟩
def F.GR_CUR_SPANM1 (q : Nat) : Fld := ⟨0x4000E400 + 4 * q, 8, 3, .rw, 0⟩
def F.GR_CUR_START (q : Nat) : Fld := ⟨0x4000E400 + 4 * q, 0, 8, .rw, 0⟩
def F.LD_BCFG_VSHORT (q : Nat) : Fld := ⟨0x4000F000 + 32 * q, 16, 14, .rw, 6000⟩
def F.LD_BCFG_DEAD (q : Nat) : Fld := ⟨0x4000F000 + 32 * q, 0, 10, .rw, 200⟩
def F.LD_BSCN_SLEAD (q : Nat) : Fld := ⟨0x4000F004 + 32 * q, 16, 10, .rw, 0⟩
def F.LD_BSCN_ASCANEN (q : Nat) : Fld := ⟨0x4000F004 + 32 * q, 11, 1, .rw, 0⟩
def F.LD_BSCN_ASCAN (q : Nat) : Fld := ⟨0x4000F004 + 32 * q, 8, 3, .rw, 0⟩
def F.LD_BBST_BRISE (q : Nat) : Fld := ⟨0x4000F008 + 32 * q, 16, 10, .rw, 500⟩
def F.LD_BBST_BCAP (q : Nat) : Fld := ⟨0x4000F008 + 32 * q, 0, 12, .rw, 0⟩
def F.LD_BSTAT_BREG (q : Nat) : Fld := ⟨0x4000F00C + 32 * q, 10, 1, .ro, 0⟩
def F.LD_BSTAT_LIT (q : Nat) : Fld := ⟨0x4000F00C + 32 * q, 9, 1, .ro, 0⟩
def F.LD_BSTAT_FCAUSE (q : Nat) : Fld := ⟨0x4000F00C + 32 * q, 4, 3, .ro, 0⟩
def F.LD_BSTAT_STATE (q : Nat) : Fld := ⟨0x4000F00C + 32 * q, 0, 2, .ro, 1⟩
def F.LD_BCMD_OFF (q : Nat) : Fld := ⟨0x4000F010 + 32 * q, 1, 1, .w1s, 0⟩
def F.LD_BCMD_ON (q : Nat) : Fld := ⟨0x4000F010 + 32 * q, 0, 1, .w1s, 0⟩
def F.LD_EV_SCOVL : Fld := ⟨0x4000F400, 9, 1, .w1c, 0⟩
def F.LD_EV_XSCAN : Fld := ⟨0x4000F400, 8, 1, .w1c, 0⟩
def F.LD_EV_BFLT : Fld := ⟨0x4000F400, 0, 6, .w1c, 0⟩
def F.LD_IE_CH : Fld := ⟨0x4000F404, 16, 1, .rw, 0⟩
def F.LD_IE_EV : Fld := ⟨0x4000F404, 0, 10, .rw, 0⟩
def F.LD_QEN_CAUSE : Fld := ⟨0x4000F408, 0, 6, .rw, 63⟩
def F.LD_CFLT0_CH : Fld := ⟨0x4000F40C, 0, 32, .w1c, 0⟩
def F.LD_CFLT1_CH : Fld := ⟨0x4000F410, 0, 16, .w1c, 0⟩
def F.LD_SCSTAT_XCNT : Fld := ⟨0x4000F414, 16, 16, .ro, 0⟩
def F.LD_SCSTAT_OVL : Fld := ⟨0x4000F414, 8, 8, .w1c, 0⟩
def F.LD_CHCFG_DUTY (q : Nat) : Fld := ⟨0x40020000 + 16 * q, 16, 16, .rw, 0⟩
def F.LD_CHCFG_PGRP (q : Nat) : Fld := ⟨0x40020000 + 16 * q, 12, 3, .rw, 0⟩
def F.LD_CHCFG_CAP (q : Nat) : Fld := ⟨0x40020000 + 16 * q, 0, 12, .rw, 4095⟩
def F.LD_CHSTAT_REG (q : Nat) : Fld := ⟨0x40020004 + 16 * q, 5, 1, .ro, 0⟩
def F.LD_CHSTAT_STATE (q : Nat) : Fld := ⟨0x40020004 + 16 * q, 0, 2, .ro, 0⟩
def F.LD_CHCMD_OFF (q : Nat) : Fld := ⟨0x40020008 + 16 * q, 1, 1, .w1s, 0⟩
def F.LD_CHCMD_ON (q : Nat) : Fld := ⟨0x40020008 + 16 * q, 0, 1, .w1s, 0⟩
def F.LD_CHCNT_SHORTS (q : Nat) : Fld := ⟨0x4002000C + 16 * q, 16, 16, .ro, 0⟩
def F.LD_CHCNT_OPENS (q : Nat) : Fld := ⟨0x4002000C + 16 * q, 0, 16, .ro, 0⟩
def F.BD_BCFG_QLIM (q : Nat) : Fld := ⟨0x40018000 + 32 * q, 16, 16, .rw, 65535⟩
def F.BD_BCFG_SAG (q : Nat) : Fld := ⟨0x40018000 + 32 * q, 8, 7, .rw, 85⟩
def F.BD_BCFG_SBLANK (q : Nat) : Fld := ⟨0x40018000 + 32 * q, 0, 8, .rw, 10⟩
def F.BD_BTH_TMAX (q : Nat) : Fld := ⟨0x40018004 + 32 * q, 16, 8, .rw, 125⟩
def F.BD_BTH_TWARN (q : Nat) : Fld := ⟨0x40018004 + 32 * q, 0, 8, .rw, 110⟩
def F.BD_BBRS_BRS (q : Nat) : Fld := ⟨0x40018008 + 32 * q, 0, 12, .rw, 0⟩
def F.BD_BSAG_VREF (q : Nat) : Fld := ⟨0x40018010 + 32 * q, 16, 10, .ro, 0⟩
def F.BD_BSAG_TRIP (q : Nat) : Fld := ⟨0x40018010 + 32 * q, 13, 1, .ro, 0⟩
def F.BD_BSAG_NOREF (q : Nat) : Fld := ⟨0x40018010 + 32 * q, 12, 1, .ro, 1⟩
def F.BD_BSAG_VTH (q : Nat) : Fld := ⟨0x40018010 + 32 * q, 0, 10, .ro, 0⟩
def F.BD_BCNT_ABORTS (q : Nat) : Fld := ⟨0x40018014 + 32 * q, 16, 16, .ro, 0⟩
def F.BD_BCNT_TRIPS (q : Nat) : Fld := ⟨0x40018014 + 32 * q, 0, 16, .ro, 0⟩
def F.BD_CTL_RFOLLOW : Fld := ⟨0x400180C0, 0, 1, .rw, 0⟩
def F.BD_EV_RING : Fld := ⟨0x400180C4, 12, 1, .w1c, 0⟩
def F.BD_EV_BURST : Fld := ⟨0x400180C4, 11, 1, .w1c, 0⟩
def F.BD_EV_TAINT : Fld := ⟨0x400180C4, 10, 1, .w1c, 0⟩
def F.BD_EV_ABORT : Fld := ⟨0x400180C4, 9, 1, .w1c, 0⟩
def F.BD_EV_SAG : Fld := ⟨0x400180C4, 8, 1, .w1c, 0⟩
def F.BD_EV_QOVER : Fld := ⟨0x400180C4, 4, 1, .w1c, 0⟩
def F.BD_EV_HOT : Fld := ⟨0x400180C4, 3, 1, .w1c, 0⟩
def F.BD_EV_REFUSE : Fld := ⟨0x400180C4, 2, 1, .w1c, 0⟩
def F.BD_EV_DEFER : Fld := ⟨0x400180C4, 1, 1, .w1c, 0⟩
def F.BD_EV_DERATE : Fld := ⟨0x400180C4, 0, 1, .w1c, 0⟩
def F.BD_IE_HI : Fld := ⟨0x400180C8, 8, 5, .rw, 0⟩
def F.BD_IE_LO : Fld := ⟨0x400180C8, 0, 5, .rw, 0⟩
def F.BD_QEN_CAUSE : Fld := ⟨0x400180CC, 0, 4, .rw, 15⟩
def F.BD_TAMB_SRC : Fld := ⟨0x400180D0, 31, 1, .rw, 0⟩
def F.BD_TAMB_AMB : Fld := ⟨0x400180D0, 0, 16, .rw, 400⟩
def F.BD_RCFG_RCLIM : Fld := ⟨0x400180D4, 0, 8, .rw, 0⟩
def F.BD_ASKIP_COUNT : Fld := ⟨0x400180D8, 0, 32, .ro, 0⟩
def F.BD_ADC_CODE (q : Nat) : Fld := ⟨0x400180E0 + 4 * q, 0, 10, .ro, 0⟩
def F.BD_CLS_FLOOR (q : Nat) : Fld := ⟨0x40018100 + 4 * q, 16, 11, .rw, 512⟩
def F.BD_CLS_TDER (q : Nat) : Fld := ⟨0x40018100 + 4 * q, 4, 11, .rw, 768⟩
def F.BD_CLS_TACT (q : Nat) : Fld := ⟨0x40018100 + 4 * q, 2, 1, .rw, 0⟩
def F.BD_CLS_QACT (q : Nat) : Fld := ⟨0x40018100 + 4 * q, 0, 2, .rw, q⟩
def F.BD_TC_G_G2 (q : Nat) : Fld := ⟨0x40018400 + 16 * q, 16, 16, .rw, 0⟩
def F.BD_TC_G_G1 (q : Nat) : Fld := ⟨0x40018400 + 16 * q, 0, 16, .rw, 0⟩
def F.BD_TC_A1_A1 (q : Nat) : Fld := ⟨0x40018404 + 16 * q, 0, 24, .rw, 0⟩
def F.BD_TC_A2_A2 (q : Nat) : Fld := ⟨0x40018408 + 16 * q, 0, 24, .rw, 0⟩
def F.BD_FQ_QOCC (q : Nat) : Fld := ⟨0x40018800 + 4 * q, 0, 24, .rw, 0⟩
def F.HP_CTL_HITCH (q : Nat) : Fld := ⟨0x40019000 + 64 * q, 10, 1, .w1s, 0⟩
def F.HP_CTL_OFF (q : Nat) : Fld := ⟨0x40019000 + 64 * q, 9, 1, .w1s, 0⟩
def F.HP_CTL_ON (q : Nat) : Fld := ⟨0x40019000 + 64 * q, 8, 1, .w1s, 0⟩
def F.HP_CTL_XEN (q : Nat) : Fld := ⟨0x40019000 + 64 * q, 2, 1, .rw, 1⟩
def F.HP_CTL_ARMEN (q : Nat) : Fld := ⟨0x40019000 + 64 * q, 1, 1, .rw, 1⟩
def F.HP_CTL_AUTO (q : Nat) : Fld := ⟨0x40019000 + 64 * q, 0, 1, .rw, 0⟩
def F.HP_STAT_LCAUSE (q : Nat) : Fld := ⟨0x40019004 + 64 * q, 16, 3, .ro, 0⟩
def F.HP_STAT_CRCE (q : Nat) : Fld := ⟨0x40019004 + 64 * q, 15, 1, .w1c, 0⟩
def F.HP_STAT_NOLIGHT (q : Nat) : Fld := ⟨0x40019004 + 64 * q, 14, 1, .w1c, 0⟩
def F.HP_STAT_PERIOD (q : Nat) : Fld := ⟨0x40019004 + 64 * q, 13, 1, .w1c, 0⟩
def F.HP_STAT_BYE (q : Nat) : Fld := ⟨0x40019004 + 64 * q, 12, 1, .w1c, 0⟩
def F.HP_STAT_HITCH (q : Nat) : Fld := ⟨0x40019004 + 64 * q, 11, 1, .w1c, 0⟩
def F.HP_STAT_EXPMISS (q : Nat) : Fld := ⟨0x40019004 + 64 * q, 10, 1, .w1c, 0⟩
def F.HP_STAT_XCOIN (q : Nat) : Fld := ⟨0x40019004 + 64 * q, 9, 1, .w1c, 0⟩
def F.HP_STAT_COIN (q : Nat) : Fld := ⟨0x40019004 + 64 * q, 8, 1, .w1c, 0⟩
def F.HP_STAT_HOLD (q : Nat) : Fld := ⟨0x40019004 + 64 * q, 7, 1, .ro, 0⟩
def F.HP_STAT_IDV (q : Nat) : Fld := ⟨0x40019004 + 64 * q, 6, 1, .ro, 0⟩
def F.HP_STAT_PRSRAW (q : Nat) : Fld := ⟨0x40019004 + 64 * q, 4, 1, .ro, 0⟩
def F.HP_STAT_PRES (q : Nat) : Fld := ⟨0x40019004 + 64 * q, 3, 1, .ro, 0⟩
def F.HP_STAT_STATE (q : Nat) : Fld := ⟨0x40019004 + 64 * q, 0, 2, .ro, 0⟩
def F.HP_IE_IE (q : Nat) : Fld := ⟨0x40019008 + 64 * q, 10, 6, .rw, 0⟩
def F.HP_IDL_ID (q : Nat) : Fld := ⟨0x4001900C + 64 * q, 0, 32, .ro, 0⟩
def F.HP_IDH_ID (q : Nat) : Fld := ⟨0x40019010 + 64 * q, 0, 32, .ro, 0⟩
def F.HP_LAT_LAT (q : Nat) : Fld := ⟨0x40019014 + 64 * q, 0, 32, .ro, 0⟩
def F.HP_PER_PERIOD (q : Nat) : Fld := ⟨0x40019018 + 64 * q, 0, 32, .ro, 0⟩
def F.HP_WIN_WINDOW (q : Nat) : Fld := ⟨0x4001901C + 64 * q, 0, 32, .ro, 0⟩
def F.HP_TCFG_TWID (q : Nat) : Fld := ⟨0x40019020 + 64 * q, 16, 16, .rw, 1000⟩
def F.HP_TCFG_SKEW (q : Nat) : Fld := ⟨0x40019020 + 64 * q, 0, 10, .rw, 0⟩
def F.HP_XCFG_XDLY (q : Nat) : Fld := ⟨0x40019024 + 64 * q, 0, 10, .rw, 0⟩
def F.HP_EXPT_EXPT (q : Nat) : Fld := ⟨0x40019028 + 64 * q, 0, 32, .rw, 0⟩
def F.HP_HCFG_SILN (q : Nat) : Fld := ⟨0x40019030 + 64 * q, 16, 4, .rw, 3⟩
def F.HP_HCFG_PIVL (q : Nat) : Fld := ⟨0x40019030 + 64 * q, 8, 8, .rw, 10⟩
def F.HP_HCFG_RWIN (q : Nat) : Fld := ⟨0x40019030 + 64 * q, 0, 8, .rw, 100⟩
def F.HP_CNT_CRCE (q : Nat) : Fld := ⟨0x40019034 + 64 * q, 24, 8, .ro, 0⟩
def F.HP_CNT_TLOST (q : Nat) : Fld := ⟨0x40019034 + 64 * q, 16, 8, .ro, 0⟩
def F.HP_CNT_ASTALE (q : Nat) : Fld := ⟨0x40019034 + 64 * q, 8, 8, .ro, 0⟩
def F.HP_CNT_SUPP (q : Nat) : Fld := ⟨0x40019034 + 64 * q, 0, 8, .ro, 0⟩
def F.HP_XCNT_CHECKS (q : Nat) : Fld := ⟨0x40019038 + 64 * q, 16, 16, .ro, 0⟩
def F.HP_XCNT_MISSES (q : Nat) : Fld := ⟨0x40019038 + 64 * q, 0, 16, .ro, 0⟩
def F.HP_POLICY_ANY : Fld := ⟨0x40019800, 0, 6, .rw, 0⟩
def F.HP_QEN_CAUSE : Fld := ⟨0x40019804, 0, 5, .rw, 31⟩
def F.SR_CTL_LEAVE : Fld := ⟨0x4001A000, 11, 1, .w1s, 0⟩
def F.SR_CTL_JOIN : Fld := ⟨0x4001A000, 10, 1, .w1s, 0⟩
def F.SR_CTL_DOWN : Fld := ⟨0x4001A000, 9, 1, .w1s, 0⟩
def F.SR_CTL_UP : Fld := ⟨0x4001A000, 8, 1, .w1s, 0⟩
def F.SR_CTL_AUTOJ : Fld := ⟨0x4001A000, 1, 1, .rw, 1⟩
def F.SR_CTL_EN : Fld := ⟨0x4001A000, 0, 1, .rw, 0⟩
def F.SR_STAT_FULL : Fld := ⟨0x4001A004, 15, 1, .w1c, 0⟩
def F.SR_STAT_COIN : Fld := ⟨0x4001A004, 14, 1, .w1c, 0⟩
def F.SR_STAT_ALIGNED : Fld := ⟨0x4001A004, 13, 1, .ro, 0⟩
def F.SR_STAT_MASTER : Fld := ⟨0x4001A004, 12, 1, .ro, 0⟩
def F.SR_STAT_STATE : Fld := ⟨0x4001A004, 8, 3, .ro, 0⟩
def F.SR_STAT_ADDRV : Fld := ⟨0x4001A004, 4, 1, .ro, 0⟩
def F.SR_STAT_ADDR : Fld := ⟨0x4001A004, 0, 4, .ro, 0⟩
def F.SR_CFG_EWD : Fld := ⟨0x4001A008, 0, 8, .rw, 3⟩
def F.SR_MEM_MEM : Fld := ⟨0x4001A00C, 1, 15, .ro, 0⟩
def F.SR_DLY_D : Fld := ⟨0x4001A010, 0, 16, .ro, 0⟩
def F.SR_LINK_LINK : Fld := ⟨0x4001A014, 0, 16, .ro, 0⟩
def F.SR_LOOP_L : Fld := ⟨0x4001A018, 0, 16, .ro, 0⟩
def F.SR_OFS_E : Fld := ⟨0x4001A01C, 0, 16, .ro, 0⟩
def F.SR_CNT_CERR : Fld := ⟨0x4001A020, 16, 16, .ro, 0⟩
def F.SR_CNT_TSEQ : Fld := ⟨0x4001A020, 8, 8, .ro, 0⟩
def F.SR_CNT_TLOST : Fld := ⟨0x4001A020, 0, 8, .ro, 0⟩
def F.SR_EV_TSEQ : Fld := ⟨0x4001A024, 8, 1, .w1c, 0⟩
def F.SR_EV_MASTER : Fld := ⟨0x4001A024, 6, 1, .w1c, 0⟩
def F.SR_EV_REFUSED : Fld := ⟨0x4001A024, 5, 1, .w1c, 0⟩
def F.SR_EV_LEAVE : Fld := ⟨0x4001A024, 4, 1, .w1c, 0⟩
def F.SR_EV_JOIN : Fld := ⟨0x4001A024, 3, 1, .w1c, 0⟩
def F.SR_EV_BREAK : Fld := ⟨0x4001A024, 2, 1, .w1c, 0⟩
def F.SR_EV_DOWN : Fld := ⟨0x4001A024, 1, 1, .w1c, 0⟩
def F.SR_EV_UP : Fld := ⟨0x4001A024, 0, 1, .w1c, 0⟩
def F.SR_IE_T : Fld := ⟨0x4001A028, 8, 1, .rw, 0⟩
def F.SR_IE_IE : Fld := ⟨0x4001A028, 0, 7, .rw, 0⟩
def F.SR_QEN_CAUSE : Fld := ⟨0x4001A02C, 0, 7, .rw, 127⟩

/-- Index of address `a` in an array of `n` registers of stride `st` from `base`. -/
def arrIdx? (a base st n : Nat) : Option Nat :=
  if base ≤ a ∧ (a - base) % st = 0 ∧ (a - base) / st < n then some ((a - base) / st) else none

/-- The fields held in the block at 0x40000000. -/
def fldsOf_40000 (a : Nat) : List Fld :=
  ([F.CK_CFG_DEEPEST,
    F.CK_CFG_UNLKACT,
    F.CK_CFG_RINGOK,
    F.CK_STAT_XSTOP,
    F.CK_STAT_RLOSS,
    F.CK_STAT_UNLOCK,
    F.CK_STAT_HOLDOVER,
    F.CK_STAT_RINGCLK,
    F.CK_STAT_ROOT,
    F.CK_STAT_XOK,
    F.CK_STAT_PLLLOCK,
    F.CK_ROOT_BUSY,
    F.CK_ROOT_SEL,
    F.CK_LADDER_AUTOHOLD,
    F.CK_LADDER_REQ,
    F.CK_LSTAT_WHY,
    F.CK_LSTAT_REF,
    F.CK_LSTAT_LAST,
    F.CK_WAKE_TMP,
    F.CK_WAKE_EN,
    F.CK_WSRC_DORM,
    F.CK_WSRC_ENCFAST,
    F.CK_WSRC_SRC,
    F.CK_WENC_THRESH,
    F.CK_TLTH_TLT,
    F.CK_QEN_CAUSE] : List Fld).filter (fun f => f.addr = a)

/-- The fields held in the block at 0x40001000. -/
def fldsOf_40001 (a : Nat) : List Fld :=
  ([F.SYS_STRAP_BOOTSEL,
    F.SYS_RST_KEY,
    F.SYS_RSTC_LOCKUP,
    F.SYS_RSTC_SOFT,
    F.SYS_RSTC_PIN,
    F.SYS_RSTC_BOR,
    F.SYS_RSTC_POR,
    F.SYS_BOOT_ABFAIL,
    F.SYS_BOOT_ADVANCED,
    F.SYS_BOOT_BAUDOK,
    F.SYS_BOOT_SNSERR,
    F.SYS_BOOT_SHV,
    F.SYS_BOOT_LSTATE,
    F.SYS_BOOTERR_CODE,
    F.SYS_BLEN_N,
    F.SYS_ID_DEVICE,
    F.SYS_ID_STEP,
    F.SYS_SERL_SER,
    F.SYS_SERH_SER,
    F.SYS_LOCKV_MULTI,
    F.SYS_LOCKV_TAG,
    F.SYS_LOCKA_ADDR,
    F.SYS_COIN_TAG] : List Fld).filter (fun f => f.addr = a)

/-- The fields held in the block at 0x40002000. -/
def fldsOf_40002 (a : Nat) : List Fld :=
  ([F.OT_CMD_CODE,
    F.OT_ADDR_CTR,
    F.OT_ADDR_WORD,
    F.OT_DATA_DATA,
    F.OT_STAT_WEAK,
    F.OT_STAT_COIN,
    F.OT_STAT_CMDLOST,
    F.OT_STAT_RETRIES,
    F.OT_STAT_ERR,
    F.OT_STAT_DONE,
    F.OT_STAT_BUSY,
    F.OT_WIN_PEND,
    F.OT_WIN_OK,
    F.OT_WIN_TEMPOK,
    F.OT_WIN_VINOK,
    F.OT_WIN_VPPOK,
    F.OT_FAIL_BITS,
    F.OT_CNT_MH,
    F.OT_CNT_NORM,
    F.OT_LOCK_XLK,
    F.OT_LOCK_WLK] : List Fld).filter (fun f => f.addr = a)

/-- The fields held in the block at 0x40003000. -/
def fldsOf_40003 (a : Nat) : List Fld :=
  ([F.KY_CMD_CODE,
    F.KY_STAT_PAIR,
    F.KY_STAT_TRNGF,
    F.KY_STAT_TESTROOT,
    F.KY_STAT_CMDLOST,
    F.KY_STAT_REFILL,
    F.KY_STAT_KATTR,
    F.KY_STAT_KFULL,
    F.KY_STAT_ERR,
    F.KY_STAT_DONE,
    F.KY_STAT_BUSY,
    F.KY_ARG_CONFIRM,
    F.KY_LC_UNLKFAIL,
    F.KY_LC_SEEDBAD,
    F.KY_LC_DBGEN,
    F.KY_LC_CODE] : List Fld).filter (fun f => f.addr = a)
  ++ (match arrIdx? a 0x40003040 4 16 with | some q => [F.KY_PATH_W q] | none => [])
  ++ (match arrIdx? a 0x40003100 4 64 with | some q => [F.KY_BUF_W q] | none => [])

/-- The fields held in the block at 0x40004000. -/
def fldsOf_40004 (a : Nat) : List Fld :=
  ([F.TP_STAT_CFULL,
    F.TP_STAT_QPEND,
    F.TP_STAT_DBG,
    F.TP_STAT_XSTOP,
    F.TP_STAT_TEMP,
    F.TP_STAT_VGL,
    F.TP_STAT_MESH,
    F.TP_STAT_LOOP,
    F.TP_LIVE_SRC] : List Fld).filter (fun f => f.addr = a)

/-- The fields held in the block at 0x40005000. -/
def fldsOf_40005 (a : Nat) : List Fld :=
  (match arrIdx? a 0x40005000 4096 2 with | some q => [F.Q_CTL_IDLE q, F.Q_CTL_CUT q] | none => [])
  ++ (match arrIdx? a 0x40005004 4096 2 with | some q => [F.Q_STAT_WM q, F.Q_STAT_EVLOST q, F.Q_STAT_PKT q, F.Q_STAT_CUTR q, F.Q_STAT_LODN q, F.Q_STAT_HIUP q, F.Q_STAT_OVR q] | none => [])
  ++ (match arrIdx? a 0x40005008 4096 2 with | some q => [F.Q_CMD_DROP q, F.Q_CMD_FLUSH q] | none => [])
  ++ (match arrIdx? a 0x4000500C 4096 2 with | some q => [F.Q_POP_WORD q] | none => [])
  ++ (match arrIdx? a 0x40005010 4096 2 with | some q => [F.Q_TAG_TMO q, F.Q_TAG_COIN q, F.Q_TAG_SRC q, F.Q_TAG_BRK q, F.Q_TAG_EOP q, F.Q_TAG_SOP q, F.Q_TAG_VB q] | none => [])
  ++ (match arrIdx? a 0x40005014 4096 2 with | some q => [F.Q_TMO_TMO q] | none => [])
  ++ (match arrIdx? a 0x40005018 4096 2 with | some q => [F.Q_WM_HI q, F.Q_WM_LO q] | none => [])
  ++ (match arrIdx? a 0x4000501C 4096 2 with | some q => [F.Q_IE_DATA q, F.Q_IE_STAT q] | none => [])
  ++ (match arrIdx? a 0x40005020 4096 2 with | some q => [F.Q_LOST_EV q, F.Q_LOST_PKTS q, F.Q_LOST_WORDS q] | none => [])

/-- The fields held in the block at 0x40007000. -/
def fldsOf_40007 (a : Nat) : List Fld :=
  ([F.UA_CTL_LTMO,
    F.UA_CTL_TXEN,
    F.UA_CTL_RXEN,
    F.UA_DIV_DIV,
    F.UA_STAT_EVCNT,
    F.UA_STAT_CLREV,
    F.UA_STAT_COIN,
    F.UA_STAT_FE,
    F.UA_STAT_CTS,
    F.UA_TX_DATA] : List Fld).filter (fun f => f.addr = a)

/-- The fields held in the block at 0x40008000. -/
def fldsOf_40008 (a : Nat) : List Fld :=
  ([F.SP_CTL_WTMO,
    F.SP_CTL_PIVL,
    F.SP_CTL_CTMO,
    F.SP_CTL_EN,
    F.SP_STAT_WTO,
    F.SP_STAT_GONE,
    F.SP_STAT_COIN,
    F.SP_STAT_BADENT,
    F.SP_STAT_CQFULL,
    F.SP_STAT_CBRK,
    F.SP_STAT_DDONE,
    F.SP_STAT_RUNEND,
    F.SP_CQC_CTRL,
    F.SP_CQA_ADDR,
    F.SP_CQD_DATA,
    F.SP_RXD_DATA,
    F.SP_IE_RXDATA,
    F.SP_IE_STAT,
    F.SP_DISC_SELMASK,
    F.SP_DISC_WMAX] : List Fld).filter (fun f => f.addr = a)
  ++ (match arrIdx? a 0x40008040 16 4 with | some q => [F.SP_SEL_GEN q, F.SP_SEL_XEN q, F.SP_SEL_ADDR4 q, F.SP_SEL_DESEL q, F.SP_SEL_RDLY q, F.SP_SEL_DIV q, F.SP_SEL_MCLK q, F.SP_SEL_DUM q, F.SP_SEL_RCMD q] | none => [])
  ++ (match arrIdx? a 0x40008044 16 4 with | some q => [F.SP_XWIN_EN q, F.SP_XWIN_BASE q, F.SP_XWIN_SIZEM1 q] | none => [])
  ++ (match arrIdx? a 0x40008048 16 4 with | some q => [F.SP_XDEV_SIZE q, F.SP_XDEV_DEV q] | none => [])
  ++ (match arrIdx? a 0x4000804C 16 4 with | some q => [F.SP_ID_PRESENT q, F.SP_ID_SFDP q, F.SP_ID_ID q] | none => [])

/-- The fields held in the block at 0x40009000. -/
def fldsOf_40009 (a : Nat) : List Fld :=
  ([F.SP_SCTL_MODE,
    F.SP_SCTL_EN,
    F.SP_SSTAT_ACTIVE,
    F.SP_SSTAT_LONG,
    F.SP_SSTAT_OVF,
    F.SP_SSTAT_ABRT,
    F.SP_SCNT_DROPS,
    F.SP_SCNT_ABORTS,
    F.SP_STX_DATA,
    F.SP_SIE_STAT] : List Fld).filter (fun f => f.addr = a)

/-- The fields held in the block at 0x4000A000. -/
def fldsOf_4000A (a : Nat) : List Fld :=
  ([F.PE_CONF_PIN,
    F.PE_PINS_LEVEL] : List Fld).filter (fun f => f.addr = a)
  ++ (match arrIdx? a 0x4000A000 32 8 with | some q => [F.PE_CTL_COIN q, F.PE_CTL_OINIT q, F.PE_CTL_INIT q, F.PE_CTL_IE q, F.PE_CTL_RUN q] | none => [])
  ++ (match arrIdx? a 0x4000A004 32 8 with | some q => [F.PE_DATA_STATE q, F.PE_DATA_IN q, F.PE_DATA_OUT q] | none => [])
  ++ (match arrIdx? a 0x4000A008 32 8 with | some q => [F.PE_INSEL_INV0 q, F.PE_INSEL_SEL0 q, F.PE_INSEL_INV1 q, F.PE_INSEL_SEL1 q, F.PE_INSEL_INV2 q, F.PE_INSEL_SEL2 q, F.PE_INSEL_INV3 q, F.PE_INSEL_SEL3 q] | none => [])
  ++ (match arrIdx? a 0x4000A00C 32 8 with | some q => [F.PE_OUTSEL_OD0 q, F.PE_OUTSEL_EN0 q, F.PE_OUTSEL_PIN0 q, F.PE_OUTSEL_OD1 q, F.PE_OUTSEL_EN1 q, F.PE_OUTSEL_PIN1 q, F.PE_OUTSEL_OD2 q, F.PE_OUTSEL_EN2 q, F.PE_OUTSEL_PIN2 q, F.PE_OUTSEL_OD3 q, F.PE_OUTSEL_EN3 q, F.PE_OUTSEL_PIN3 q] | none => [])
  ++ (match arrIdx? a 0x4000A010 32 8 with | some q => [F.PE_CLK_DIV q] | none => [])
  ++ (match arrIdx? a 0x4000A014 32 8 with | some q => [F.PE_TMR_TCNT q, F.PE_TMR_LIMIT q] | none => [])
  ++ (match arrIdx? a 0x4000A018 32 8 with | some q => [F.PE_STAT_RISE q] | none => [])

/-- The fields held in the block at 0x4000B000. -/
def fldsOf_4000B (a : Nat) : List Fld :=
  ([F.EN_RING_RSRC,
    F.EN_RPOSH_POS] : List Fld).filter (fun f => f.addr = a)
  ++ (match arrIdx? a 0x4000B000 64 2 with | some q => [F.EN_CFG_NAVG q, F.EN_CFG_FILTER q, F.EN_CFG_ZGATE q, F.EN_CFG_INV q, F.EN_CFG_TERM q, F.EN_CFG_MODE q] | none => [])
  ++ (match arrIdx? a 0x4000B004 64 2 with | some q => [F.EN_BCFG_STOPT q, F.EN_BCFG_QB q, F.EN_BCFG_CM q, F.EN_BCFG_PLIM q] | none => [])
  ++ (match arrIdx? a 0x4000B00C 64 2 with | some q => [F.EN_PH_POS q] | none => [])
  ++ (match arrIdx? a 0x4000B014 64 2 with | some q => [F.EN_STAT_LN q, F.EN_STAT_LF q, F.EN_STAT_LQ q, F.EN_STAT_BURSTS q, F.EN_STAT_START q, F.EN_STAT_ZCAP q, F.EN_STAT_REV q, F.EN_STAT_FROZEN q, F.EN_STAT_BURST q, F.EN_STAT_STOP q, F.EN_STAT_DIR q] | none => [])
  ++ (match arrIdx? a 0x4000B018 64 2 with | some q => [F.EN_IE_IE q] | none => [])
  ++ (match arrIdx? a 0x4000B020 64 2 with | some q => [F.EN_ZPH_POS q] | none => [])
  ++ (match arrIdx? a 0x4000B024 64 2 with | some q => [F.EN_PSETL_POS q] | none => [])
  ++ (match arrIdx? a 0x4000B028 64 2 with | some q => [F.EN_PSETH_POS q] | none => [])
  ++ (match arrIdx? a 0x4000B02C 64 2 with | some q => [F.EN_CMD_LOAD q] | none => [])
  ++ (match arrIdx? a 0x4000B030 64 2 with | some q => [F.EN_CNT_REVS q, F.EN_CNT_QERR q] | none => [])

/-- The fields held in the block at 0x4000C000. -/
def fldsOf_4000C (a : Nat) : List Fld :=
  ([F.SW_CTL_EN,
    F.SW_HZN_HZN,
    F.SW_FCMD_OP,
    F.SW_FCMD_F,
    F.SW_FSTAT_DONE,
    F.SW_FSTAT_ERR,
    F.SW_MISS_COUNT,
    F.SW_DEFER_COUNT,
    F.SW_WDRAW_COUNT,
    F.SW_EV_FHL,
    F.SW_EV_DISPL,
    F.SW_EV_REV,
    F.SW_EV_FAULT,
    F.SW_EV_MISS,
    F.SW_IE_IE,
    F.SW_QEN_FHL,
    F.SW_QEN_REV,
    F.SW_QEN_FAULT,
    F.SW_QEN_MISS] : List Fld).filter (fun f => f.addr = a)
  ++ (match arrIdx? a 0x4000C040 4 6 with | some q => [F.SW_FHL_COUNT q] | none => [])

/-- The fields held in the block at 0x4000D000. -/
def fldsOf_4000D (a : Nat) : List Fld :=
  ([F.DR_STAT_LASTK,
    F.DR_EV_WDRAW,
    F.DR_EV_CANCEL,
    F.DR_EV_FIRED,
    F.DR_IE_IE,
    F.DR_FIRED_COUNT] : List Fld).filter (fun f => f.addr = a)

/-- The fields held in the block at 0x4000E000. -/
def fldsOf_4000E (a : Nat) : List Fld :=
  ([F.GR_CTL_PREF,
    F.GR_CTL_CPUWIN,
    F.GR_CTL_EN,
    F.GR_STAT_NOPLOT,
    F.GR_STAT_COIN,
    F.GR_LOOK_COUNTS,
    F.GR_LOOKT_NS,
    F.GR_GUARD_NS,
    F.GR_PTIDX_F,
    F.GR_PTIDX_PAGE,
    F.GR_CMD_OP,
    F.GR_CMD_F,
    F.GR_CMD_PAGE,
    F.GR_CSTAT_DONE,
    F.GR_CSTAT_ERR,
    F.GR_CSTAT_BUSY,
    F.GR_CNT_FAULTS,
    F.GR_CNT_FETCHES,
    F.GR_EV_SUBST,
    F.GR_EV_FAULT,
    F.GR_EV_LATE,
    F.GR_EV_ERR,
    F.GR_EV_DONE,
    F.GR_IE_IE,
    F.GR_QEN_FAULT,
    F.GR_QEN_LATE,
    F.GR_QEN_ERROR] : List Fld).filter (fun f => f.addr = a)
  ++ (match arrIdx? a 0x4000E400 4 256 with | some q => [F.GR_CUR_ADV q, F.GR_CUR_SPANM1 q, F.GR_CUR_START q] | none => [])

/-- The fields held in the block at 0x4000F000. -/
def fldsOf_4000F (a : Nat) : List Fld :=
  ([F.LD_EV_SCOVL,
    F.LD_EV_XSCAN,
    F.LD_EV_BFLT,
    F.LD_IE_CH,
    F.LD_IE_EV,
    F.LD_QEN_CAUSE,
    F.LD_CFLT0_CH,
    F.LD_CFLT1_CH,
    F.LD_SCSTAT_XCNT,
    F.LD_SCSTAT_OVL] : List Fld).filter (fun f => f.addr = a)
  ++ (match arrIdx? a 0x4000F000 32 6 with | some q => [F.LD_BCFG_VSHORT q, F.LD_BCFG_DEAD q] | none => [])
  ++ (match arrIdx? a 0x4000F004 32 6 with | some q => [F.LD_BSCN_SLEAD q, F.LD_BSCN_ASCANEN q, F.LD_BSCN_ASCAN q] | none => [])
  ++ (match arrIdx? a 0x4000F008 32 6 with | some q => [F.LD_BBST_BRISE q, F.LD_BBST_BCAP q] | none => [])
  ++ (match arrIdx? a 0x4000F00C 32 6 with | some q => [F.LD_BSTAT_BREG q, F.LD_BSTAT_LIT q, F.LD_BSTAT_FCAUSE q, F.LD_BSTAT_STATE q] | none => [])
  ++ (match arrIdx? a 0x4000F010 32 6 with | some q => [F.LD_BCMD_OFF q, F.LD_BCMD_ON q] | none => [])

/-- The fields held in the block at 0x40010000. -/
def fldsOf_40010 (a : Nat) : List Fld :=
  (match arrIdx? a 0x40010000 64 256 with | some q => [F.SWF_CFG_MASK q, F.SWF_CFG_DIST q, F.SWF_CFG_FAULT q, F.SWF_CFG_CLASS q, F.SWF_CFG_PRI q, F.SWF_CFG_HEADEN q, F.SWF_CFG_HEAD q, F.SWF_CFG_BANK q, F.SWF_CFG_SRC q] | none => [])
  ++ (match arrIdx? a 0x40010004 64 256 with | some q => [F.SWF_ATL_AT q] | none => [])
  ++ (match arrIdx? a 0x40010008 64 256 with | some q => [F.SWF_ATH_AT q] | none => [])
  ++ (match arrIdx? a 0x4001000C 64 256 with | some q => [F.SWF_EVERY_EVERY q] | none => [])
  ++ (match arrIdx? a 0x40010010 64 256 with | some q => [F.SWF_PAGE_CAP q, F.SWF_PAGE_PAGESM1 q, F.SWF_PAGE_PAGE0 q] | none => [])
  ++ (match arrIdx? a 0x40010014 64 256 with | some q => [F.SWF_SLACK_SLACK q] | none => [])

/-- The fields held in the block at 0x40018000. -/
def fldsOf_40018 (a : Nat) : List Fld :=
  ([F.BD_CTL_RFOLLOW,
    F.BD_EV_RING,
    F.BD_EV_BURST,
    F.BD_EV_TAINT,
    F.BD_EV_ABORT,
    F.BD_EV_SAG,
    F.BD_EV_QOVER,
    F.BD_EV_HOT,
    F.BD_EV_REFUSE,
    F.BD_EV_DEFER,
    F.BD_EV_DERATE,
    F.BD_IE_HI,
    F.BD_IE_LO,
    F.BD_QEN_CAUSE,
    F.BD_TAMB_SRC,
    F.BD_TAMB_AMB,
    F.BD_RCFG_RCLIM,
    F.BD_ASKIP_COUNT] : List Fld).filter (fun f => f.addr = a)
  ++ (match arrIdx? a 0x40018000 32 6 with | some q => [F.BD_BCFG_QLIM q, F.BD_BCFG_SAG q, F.BD_BCFG_SBLANK q] | none => [])
  ++ (match arrIdx? a 0x40018004 32 6 with | some q => [F.BD_BTH_TMAX q, F.BD_BTH_TWARN q] | none => [])
  ++ (match arrIdx? a 0x40018008 32 6 with | some q => [F.BD_BBRS_BRS q] | none => [])
  ++ (match arrIdx? a 0x40018010 32 6 with | some q => [F.BD_BSAG_VREF q, F.BD_BSAG_TRIP q, F.BD_BSAG_NOREF q, F.BD_BSAG_VTH q] | none => [])
  ++ (match arrIdx? a 0x40018014 32 6 with | some q => [F.BD_BCNT_ABORTS q, F.BD_BCNT_TRIPS q] | none => [])
  ++ (match arrIdx? a 0x400180E0 4 8 with | some q => [F.BD_ADC_CODE q] | none => [])
  ++ (match arrIdx? a 0x40018100 4 4 with | some q => [F.BD_CLS_FLOOR q, F.BD_CLS_TDER q, F.BD_CLS_TACT q, F.BD_CLS_QACT q] | none => [])
  ++ (match arrIdx? a 0x40018400 16 48 with | some q => [F.BD_TC_G_G2 q, F.BD_TC_G_G1 q] | none => [])
  ++ (match arrIdx? a 0x40018404 16 48 with | some q => [F.BD_TC_A1_A1 q] | none => [])
  ++ (match arrIdx? a 0x40018408 16 48 with | some q => [F.BD_TC_A2_A2 q] | none => [])
  ++ (match arrIdx? a 0x40018800 4 256 with | some q => [F.BD_FQ_QOCC q] | none => [])

/-- The fields held in the block at 0x40019000. -/
def fldsOf_40019 (a : Nat) : List Fld :=
  ([F.HP_POLICY_ANY,
    F.HP_QEN_CAUSE] : List Fld).filter (fun f => f.addr = a)
  ++ (match arrIdx? a 0x40019000 64 6 with | some q => [F.HP_CTL_HITCH q, F.HP_CTL_OFF q, F.HP_CTL_ON q, F.HP_CTL_XEN q, F.HP_CTL_ARMEN q, F.HP_CTL_AUTO q] | none => [])
  ++ (match arrIdx? a 0x40019004 64 6 with | some q => [F.HP_STAT_LCAUSE q, F.HP_STAT_CRCE q, F.HP_STAT_NOLIGHT q, F.HP_STAT_PERIOD q, F.HP_STAT_BYE q, F.HP_STAT_HITCH q, F.HP_STAT_EXPMISS q, F.HP_STAT_XCOIN q, F.HP_STAT_COIN q, F.HP_STAT_HOLD q, F.HP_STAT_IDV q, F.HP_STAT_PRSRAW q, F.HP_STAT_PRES q, F.HP_STAT_STATE q] | none => [])
  ++ (match arrIdx? a 0x40019008 64 6 with | some q => [F.HP_IE_IE q] | none => [])
  ++ (match arrIdx? a 0x4001900C 64 6 with | some q => [F.HP_IDL_ID q] | none => [])
  ++ (match arrIdx? a 0x40019010 64 6 with | some q => [F.HP_IDH_ID q] | none => [])
  ++ (match arrIdx? a 0x40019014 64 6 with | some q => [F.HP_LAT_LAT q] | none => [])
  ++ (match arrIdx? a 0x40019018 64 6 with | some q => [F.HP_PER_PERIOD q] | none => [])
  ++ (match arrIdx? a 0x4001901C 64 6 with | some q => [F.HP_WIN_WINDOW q] | none => [])
  ++ (match arrIdx? a 0x40019020 64 6 with | some q => [F.HP_TCFG_TWID q, F.HP_TCFG_SKEW q] | none => [])
  ++ (match arrIdx? a 0x40019024 64 6 with | some q => [F.HP_XCFG_XDLY q] | none => [])
  ++ (match arrIdx? a 0x40019028 64 6 with | some q => [F.HP_EXPT_EXPT q] | none => [])
  ++ (match arrIdx? a 0x40019030 64 6 with | some q => [F.HP_HCFG_SILN q, F.HP_HCFG_PIVL q, F.HP_HCFG_RWIN q] | none => [])
  ++ (match arrIdx? a 0x40019034 64 6 with | some q => [F.HP_CNT_CRCE q, F.HP_CNT_TLOST q, F.HP_CNT_ASTALE q, F.HP_CNT_SUPP q] | none => [])
  ++ (match arrIdx? a 0x40019038 64 6 with | some q => [F.HP_XCNT_CHECKS q, F.HP_XCNT_MISSES q] | none => [])

/-- The fields held in the block at 0x4001A000. -/
def fldsOf_4001A (a : Nat) : List Fld :=
  ([F.SR_CTL_LEAVE,
    F.SR_CTL_JOIN,
    F.SR_CTL_DOWN,
    F.SR_CTL_UP,
    F.SR_CTL_AUTOJ,
    F.SR_CTL_EN,
    F.SR_STAT_FULL,
    F.SR_STAT_COIN,
    F.SR_STAT_ALIGNED,
    F.SR_STAT_MASTER,
    F.SR_STAT_STATE,
    F.SR_STAT_ADDRV,
    F.SR_STAT_ADDR,
    F.SR_CFG_EWD,
    F.SR_MEM_MEM,
    F.SR_DLY_D,
    F.SR_LINK_LINK,
    F.SR_LOOP_L,
    F.SR_OFS_E,
    F.SR_CNT_CERR,
    F.SR_CNT_TSEQ,
    F.SR_CNT_TLOST,
    F.SR_EV_TSEQ,
    F.SR_EV_MASTER,
    F.SR_EV_REFUSED,
    F.SR_EV_LEAVE,
    F.SR_EV_JOIN,
    F.SR_EV_BREAK,
    F.SR_EV_DOWN,
    F.SR_EV_UP,
    F.SR_IE_T,
    F.SR_IE_IE,
    F.SR_QEN_CAUSE] : List Fld).filter (fun f => f.addr = a)

/-- The fields held in the block at 0x40020000. -/
def fldsOf_40020 (a : Nat) : List Fld :=
  (match arrIdx? a 0x40020000 16 48 with | some q => [F.LD_CHCFG_DUTY q, F.LD_CHCFG_PGRP q, F.LD_CHCFG_CAP q] | none => [])
  ++ (match arrIdx? a 0x40020004 16 48 with | some q => [F.LD_CHSTAT_REG q, F.LD_CHSTAT_STATE q] | none => [])
  ++ (match arrIdx? a 0x40020008 16 48 with | some q => [F.LD_CHCMD_OFF q, F.LD_CHCMD_ON q] | none => [])
  ++ (match arrIdx? a 0x4002000C 16 48 with | some q => [F.LD_CHCNT_SHORTS q, F.LD_CHCNT_OPENS q] | none => [])

/-- The fields held in the block at 0xE0000000. -/
def fldsOf_E0000 (a : Nat) : List Fld :=
  ([F.CORE_ID_STEP,
    F.VBASE_BASE,
    F.FETCH_MODE_XIPEN,
    F.FETCH_MODE_PQEN,
    F.IC_CTL_CLRST,
    F.IC_CTL_INV,
    F.IC_CTL_LOCK0,
    F.IC_CTL_EN,
    F.IC_STAT_MISS,
    F.IC_STAT_HIT,
    F.CORE_VSET_AUTO,
    F.CORE_VSET_VMAX,
    F.CORE_VSET_VMIN,
    F.CORE_VSET_DOWN,
    F.CORE_VSET_DQ,
    F.CORE_VSET_DI,
    F.CORE_VSET_DW,
    F.CORE_VSET_VSET,
    F.CORE_VSTAT_TARGET,
    F.CORE_VSTAT_DEMAND,
    F.CORE_VSTAT_SETTLED,
    F.CORE_VSTAT_VNOW,
    F.CO_FCAUSE_IMP,
    F.CO_FCAUSE_ENTRY,
    F.CO_FADDR_ADDR,
    F.CO_FPC_ADDR,
    F.CO_CALLN_IE0,
    F.CO_CALLN_N,
    F.CO_ISWI_SWI,
    F.GUARD_LOCK_LOCK] : List Fld).filter (fun f => f.addr = a)
  ++ (match arrIdx? a 0xE0000080 4 8 with | some q => [F.CO_IPRI_L0 q, F.CO_IPRI_L1 q, F.CO_IPRI_L2 q, F.CO_IPRI_L3 q, F.CO_IPRI_L4 q, F.CO_IPRI_L5 q, F.CO_IPRI_L6 q, F.CO_IPRI_L7 q] | none => [])
  ++ (match arrIdx? a 0xE0000200 16 8 with | some q => [F.GUARD_BASE_BASE q] | none => [])
  ++ (match arrIdx? a 0xE0000204 16 8 with | some q => [F.GUARD_LIM_LIM q] | none => [])
  ++ (match arrIdx? a 0xE0000208 16 8 with | some q => [F.GUARD_ATTR_EN q, F.GUARD_ATTR_X q, F.GUARD_ATTR_W q, F.GUARD_ATTR_R q] | none => [])

/-- The fields held at register address `a`, none where no register stands [09 R178, R179]. -/
def fldsAt (a : Nat) : List Fld :=
  match a / 0x1000 with
  | 0x40000 => fldsOf_40000 a
  | 0x40001 => fldsOf_40001 a
  | 0x40002 => fldsOf_40002 a
  | 0x40003 => fldsOf_40003 a
  | 0x40004 => fldsOf_40004 a
  | 0x40005 => fldsOf_40005 a
  | 0x40006 => fldsOf_40005 a
  | 0x40007 => fldsOf_40007 a
  | 0x40008 => fldsOf_40008 a
  | 0x40009 => fldsOf_40009 a
  | 0x4000A => fldsOf_4000A a
  | 0x4000B => fldsOf_4000B a
  | 0x4000C => fldsOf_4000C a
  | 0x4000D => fldsOf_4000D a
  | 0x4000E => fldsOf_4000E a
  | 0x4000F => fldsOf_4000F a
  | 0x40010 => fldsOf_40010 a
  | 0x40011 => fldsOf_40010 a
  | 0x40012 => fldsOf_40010 a
  | 0x40013 => fldsOf_40010 a
  | 0x40018 => fldsOf_40018 a
  | 0x40019 => fldsOf_40019 a
  | 0x4001A => fldsOf_4001A a
  | 0x40020 => fldsOf_40020 a
  | 0xE0000 => fldsOf_E0000 a
  | _ => []

end Sys2Proof.Machine
end

