-- ==== Sys2Proof/Machine/Tab.lean ====
section
/-! DEFINITION. A table held as plain data: a list of keys and values with strictly rising keys, in which no
entry equals the value an absent key reads as, so that equal tables are equal data. -/

namespace Sys2Proof.Machine

/-- A table from numbers to values. -/
abbrev Tab (α : Type) := List (Nat × α)

/-- The value under `k`, if listed. -/
def Tab.get? {α : Type} (t : Tab α) (k : Nat) : Option α :=
  match t with
  | [] => none
  | (j, v) :: r => if j = k then some v else Tab.get? r k

/-- The value under `k`, or `d` where it is not listed. -/
def Tab.getD {α : Type} (t : Tab α) (k : Nat) (d : α) : α := (Tab.get? t k).getD d

/-- `t` with `v` under `k`, in its place among rising keys. -/
def Tab.put {α : Type} (t : Tab α) (k : Nat) (v : α) : Tab α :=
  match t with
  | [] => [(k, v)]
  | (j, u) :: r =>
    if k < j then (k, v) :: (j, u) :: r
    else if j = k then (k, v) :: r
    else (j, u) :: Tab.put r k v

/-- `t` with nothing listed under `k`. -/
def Tab.erase {α : Type} (t : Tab α) (k : Nat) : Tab α := t.filter (fun e => e.1 ≠ k)

/-- `t` with the value `v` under `k`, where an absent key reads as `d`: writing `d` removes the entry. -/
def Tab.setD {α : Type} [DecidableEq α] (t : Tab α) (k : Nat) (d v : α) : Tab α :=
  if v = d then Tab.erase t k else Tab.put t k v

/-- The keys of `t` rise strictly. -/
def Tab.rising {α : Type} : Tab α → Bool
  | [] => true
  | [_] => true
  | (j, _) :: (k, v) :: r => decide (j < k) && Tab.rising ((k, v) :: r)

/-- The keys of `t` below which `p` holds of the value, in order. -/
def Tab.keysWhere {α : Type} (t : Tab α) (p : Nat → α → Bool) : List Nat :=
  (t.filter (fun e => p e.1 e.2)).map Prod.fst

end Sys2Proof.Machine
end

