-- ==== Sys2Proof/Machine/Device.lean ====
section
/-! DEFINITION. The device's state, block by block, as plain data, and `Dev`, which holds all of it. -/

namespace Sys2Proof.Machine

/-! ### Queues and host UART [10, 11] -/

/-- A stored queue word with its tag [10 R195]. `vb` is 0 for four valid bytes. -/
structure QWord where
  data : Nat
  vb : Nat
  sop : Bool
  eop : Bool
  brk : Bool
  src : Nat
  deriving DecidableEq, Repr

/-- A pop that waits for a word: the far load it serves, if any, and the end of its timeout in model time [10 R197]. -/
structure QWait where
  load : Option Nat
  deadline : Nat
  deriving DecidableEq, Repr

/-- One ingress queue [10 R188-R202]. `src` is the source that holds the write side (0 none); `nDone` and `nStored`
count the words of its packet completed and stored so far; `openIn` those of them still queued; `seen` says its words
are visible; `broken` and `discard` follow R198 and R199; `hold` is the one-word holding place; `staged` holds whole
packets waiting in the sources' staging buffers, oldest first, header byte first; `left` the bytes not yet written of the staged packet that
holds the write side, one of which is written in each FCLK cycle [10 R190]. -/
structure Queue where
  words : List QWord := []
  half : List Nat := []
  src : Nat := 0
  nDone : Nat := 0
  nStored : Nat := 0
  openIn : Nat := 0
  seen : Bool := false
  broken : Bool := false
  discard : Bool := false
  hold : Option QWord := none
  lastSrc : Nat := 0
  waits : List QWait := []
  lastPop : Nat := 0
  staged : List (Nat × List Nat) := []
  left : List Nat := []
  deriving DecidableEq, Repr

/-- What met a queue in an FCLK cycle, for a command that meets it there too [10 R204]: the cycle; the queue and its fields as they stood before;
their tie record; the pop, with the far load it serves; the word pushed, by its bytes and whether it ends its packet. -/
structure QCycle where
  cyc : Nat
  was : Queue
  flds : List Nat
  coin : Bool
  pop : Option (Option Nat)
  push : Option (List Nat × Bool)
  deriving DecidableEq, Repr

/-- What Qn_STAT.WM, HIUP and LODN read at the start of an FCLK cycle in which the depth changed [10 R204]. -/
structure QMark where
  cyc : Nat
  wm : Bool
  hiup : Bool
  lodn : Bool
  deriving DecidableEq, Repr

/-- The host UART [11 R190, R206, R220]: received characters waiting for Q0's write side, whether the last character
was a CR, the time of the last byte of the open packet, the end of the line timeout, the transmit buffer, the bytes
sent so far on UTX (the last one), the wait of R39. In `rx` 0x11A is the end that the line timeout gives a line. -/
structure Uart where
  rx : List Nat := []
  lastCr : Bool := false
  lastNs : Nat := 0
  lineEnd : Option Nat := none
  tx : List Nat := []
  utx : Nat := 0
  wakeDrop : Bool := false
  deriving DecidableEq, Repr

/-! ### Cartil core [07, 08] -/

/-- A far load issued and not yet returned [07 R145, R146]: its number, address, destination, width in bytes, sign
extension, whether its access has reached the block, and its result when known. -/
structure FarLoad where
  id : Nat
  addr : Nat
  dst : Nat
  width : Nat
  sgn : Bool
  reached : Bool
  res : Option Nat
  deriving DecidableEq, Repr

/-- A store posted in the write buffer [07 R147]: its place in program order, address, width in bytes, data. -/
structure Posted where
  id : Nat
  addr : Nat
  width : Nat
  data : Nat
  deriving DecidableEq, Repr

/-- The Cartil core [07]: w1-w15 where they are not 0, pc and STAT; whether image code runs (else the monitor), whether WAIT holds it, whether the debug
path has halted it; the far loads outstanding and the next number in program order; the write buffer, oldest first; the far accesses
that failed and await their report, with their load's number; the cache lines under 2 * set + way, with their line address and bytes, the way of each set used
last plus one, and the line buffer; whether the present fetch has been counted as a miss; whether a VCA change is awaited by SYNC; whether a
full write buffer or a third far load stalls the core; the address of a BUSI report that has arrived and waits for the registers of the frame; the
code VCA settled at last (log entry 82). -/
structure Cpu where
  w : Tab Nat := []
  pc : Nat := 0
  n : Bool := false
  z : Bool := false
  c : Bool := false
  v : Bool := false
  ie : Bool := false
  level : Nat := 0
  image : Bool := false
  waiting : Bool := false
  halted : Bool := false
  loads : List FarLoad := []
  nextLoad : Nat := 0
  wb : List Posted := []
  fails : List (Nat × Option Nat) := []
  cache : Tab (Nat × List Nat) := []
  used : Tab Nat := []
  line : Option (Nat × List Nat) := none
  missed : Bool := false
  vwait : Bool := false
  stalled : Bool := false
  busi : Option Nat := none
  vcaAt : Nat := 35
  deriving DecidableEq, Repr

/-! ### Clocks and the power ladder [03] -/

/-- The ladder states, the reset ladder up to the monitor, and the exit from Fallow [03 R47, Table CK-7; 04 R67]. -/
inductive Ladder where
  | resetting | run | hold | nap | fallow | dormant | waking
  deriving DecidableEq, Repr

/-- The steps of the reset ladder at which it can wait: XCLK valid, PLL lock, RESETN high, OTP sensing; then the monitor runs [04 Table
BU-2, R67]. -/
inductive BootStep where
  | xclk | pll | resetn | sense | up
  deriving DecidableEq, Repr

/-- The clock and ladder block [03]: the ladder state and the step of the reset ladder; whether RESETN is low, XCLK runs, VIN33 is
browned out; the PLL's relock after a reference change; a ladder request with its target and the end of its quiesce timer, and whether a
wake source asserted since; model time and TLT at sleep entry; whether BOOTSEL is to be sampled; the end of holdover; whether the host receivers are open; whether the device is silent
until XCLK returns; `phase` and `aphase`: what model time lacks of the last edge of PCLK (and so of FCLK) and of ACLK, modulo their
periods [03 R460]. -/
structure Ck where
  ladder : Ladder := .resetting
  boot : BootStep := .xclk
  resetLow : Bool := false
  xrun : Bool := false
  brown : Bool := false
  ask : Option (Nat × Nat) := none
  woken : Bool := false
  sleepNs : Nat := 0
  sleepTlt : Nat := 0
  resample : Bool := true
  holdEnd : Option Nat := none
  host : Bool := false
  silent : Bool := false
  phase : Nat := 0
  aphase : Nat := 0
  deriving DecidableEq, Repr

/-! ### Furrows and the Drill [16] -/

/-- The furrow states of Table SW-2 [16 R309]. -/
inductive FState where
  | fallow | ready | sown | held | faulted
  deriving DecidableEq, Repr

/-- A page that an occurrence will read, with the set moment it is wanted by [17 R336]; `late` says that it belongs to
an armed slot. -/
structure Need where
  page : Nat
  deadline : Nat
  armed : Bool
  deriving DecidableEq, Repr

/-- What a furrow holds beside its configuration words [16 R303-R324]. `next` is NEXT and `more` says that it names a
point not yet armed, fired or skipped; `wasAhead` that NEXT has been ahead; `rebase` that a configuration write has moved its trigger points;
the hold causes BUDGET, SLOTS and the wait of HEAD for a headland [20 R396]; `deferred` lists the points
already counted as deferred; `pass` is the miss cause of points passed since the last evaluation (0 exempt, 1 slack,
2 hold, 3 unlock); the latched high words of NEXT and LAST; the furrow's needs. -/
structure Furrow where
  state : FState := .fallow
  next : Nat := 0
  nextH : Nat := 0
  more : Bool := false
  wasAhead : Bool := false
  rebase : Bool := false
  offp : Bool := false
  budget : Bool := false
  slots : Bool := false
  headWait : Bool := false
  fcause : Nat := 0
  miss : Nat := 0
  defer : Nat := 0
  occ : Nat := 0
  last : Nat := 0
  lastH : Nat := 0
  deferred : List Nat := []
  pass : Nat := 1
  needs : List Need := []
  deriving DecidableEq, Repr

/-- Slot states [16 R318]; a FREE slot is one not listed. -/
inductive SlotSt where
  | free | armed | set | firing
  deriving DecidableEq, Repr

/-- A pattern step [17 Table GR-2]. -/
structure Step where
  width : Nat := 0
  level : Nat := 0
  scan : Nat := 0
  scanEn : Bool := false
  chmask : Nat := 0
  gap : Nat := 0
  trg : Bool := false
  last : Bool := false
  boost : Bool := false
  blevel : Nat := 0
  rsvd : Nat := 0
  deriving DecidableEq, Repr

/-- A Drill slot [16 R318] and the occurrence it runs. `pages` are the virtual pages of its span and `plots` the plots
taken at the set moment; `q` is the charge booked in nC; `step` counts the steps of the occurrence, `start` is the
model time at which the present or next step starts, `pulse` says that its pulse is on, `cur` is that step and `prev`
the one before; `ext` is the pulse's extension; `deliv` the delivered charge in nC; the causes and the verdict of
R374-R376; `tripped` says the comparator tripped in this pulse; `trigs` lists the steps whose trigger was
driven, with the model time of each, `supp` those whose trigger was suppressed; `born` the model time of its arming; `last` the start and the end of the pulse before. -/
structure Slot where
  st : SlotSt := .free
  f : Nat := 0
  tfire : Nat := 0
  fireH : Nat := 0
  tset : Nat := 0
  pos : Nat := 0
  lead : Nat := 0
  rev : Bool := false
  bank : Nat := 0
  pages : List Nat := []
  plots : List Nat := []
  sub : Bool := false
  scale : Nat := 1024
  q : Rat := 0
  step : Nat := 0
  start : Nat := 0
  pulse : Bool := false
  cur : Step := {}
  prev : Option Step := none
  ext : Nat := 0
  deliv : Rat := 0
  sag : Bool := false
  burst : Bool := false
  ring : Bool := false
  followed : Bool := false
  verdict : Option Nat := none
  tripped : Bool := false
  trigs : List (Nat × Nat) := []
  supp : List Nat := []
  born : Nat := 0
  last : Option (Nat × Nat) := none
  deriving DecidableEq, Repr

/-- Something light-altering, or a return to service, that waits for a headland [01 R20; 18 R358; 20 R396]: the fields
under the keys take the values that one write gave them, a channel or bank goes out of or returns to service, a plot is released, a
furrow's HEAD cause clears, a select returns. -/
inductive Change where
  | fields (l : List (Nat × Nat))
  | chanOn (c : Nat)
  | chanOff (c : Nat)
  | bankOn (b : Nat)
  | bankOff (b : Nat)
  | release (plot : Nat)
  | headBack (f : Nat)
  | selBack (n b : Nat)
  deriving DecidableEq, Repr

/-- A pending change and the banks whose headland it waits for. -/
structure Pending where
  banks : List Nat
  change : Change
  deriving DecidableEq, Repr

/-- The Sower and the Drill: furrows and slots that differ from their reset value, the pending changes, since when each bank
waits without a headland, the banks forcing one, which puts the hold cause FORCE on their furrows, and whether a ladder entry, an unlock or a reference change holds
arming. -/
structure Sower where
  furrows : Tab Furrow := []
  slots : Tab Slot := []
  pend : List Pending := []
  waitSince : Tab Nat := []
  forcing : List Nat := []
  frozen : Bool := false
  deriving DecidableEq, Repr

/-! ### Granary and Gleaner [17] -/

/-- Plot states [17 Table GR-1]. -/
inductive PlotSt where
  | free | loading | resident
  deriving DecidableEq, Repr

/-- A plot: its state, flags, page, the count of its last loading or claim, and the model time at which its page became resident. CLAIMS and USE
follow the slots. -/
structure Plot where
  st : PlotSt := .free
  pin : Bool := false
  rsv : Bool := false
  keep : Bool := false
  f : Nat := 0
  page : Nat := 0
  stamp : Nat := 0
  came : Nat := 0
  deriving DecidableEq, Repr

/-- A page table entry [17 R333]. -/
structure Pte where
  v : Bool := false
  err : Bool := false
  sel : Nat := 0
  addr : Nat := 0
  deriving DecidableEq, Repr

/-- An active fetch: a place of the Gleaner [17 R337]. A command fetch carries no deadline. -/
structure Fetch where
  f : Nat
  page : Nat
  plot : Nat
  deadline : Option Nat
  onBus : Bool
  deriving DecidableEq, Repr

/-- A GR command that waits for a plot or a place [17 Table GR-9]. -/
structure GrCmd where
  op : Nat
  f : Nat
  page : Nat
  deriving DecidableEq, Repr

/-- The Granary and the Gleaner. -/
structure Granary where
  plots : Tab Plot := []
  pte : Tab Pte := []
  places : List Fetch := []
  waiting : Option GrCmd := none
  stamp : Nat := 0
  deriving DecidableEq, Repr

/-! ### LED channels and the Reckoner [18, 19] -/

/-- A sink: the code it drives (0 off), since when, and the code times ns driven in the present ACLK tick. -/
structure Sink where
  code : Nat := 0
  since : Nat := 0
  acc : Nat := 0
  deriving DecidableEq, Repr

/-- A bank's outputs: the booster code driven and since when; the scan lines it asserts; the line it last released
and when; the channels of its aiming pulse with their ends and its start; whether VLSb is sensed; whether its present gap has been no headland of 2 µs
yet; the slot whose occurrence a trip or another cause ended last, as it stood before, and when [09 R457]. -/
structure BankOut where
  boost : Nat := 0
  boostSince : Nat := 0
  lines : List Nat := []
  released : Option (Nat × Nat) := none
  aim : List (Nat × Nat) := []
  aimStart : Nat := 0
  sensed : Bool := false
  short : Bool := false
  cut : Option (Nat × Nat × Slot) := none
  deriving DecidableEq, Repr

/-- The LED block: sinks, bank outputs, when each scan line was asserted, the last aiming period started, and the
VGD supplies found low [23 R450]. -/
structure Led where
  sinks : Tab Sink := []
  banks : Tab BankOut := []
  lineSince : Tab Nat := []
  aimPeriod : Nat := 0
  vgdLow : List Nat := []
  deriving DecidableEq, Repr

/-- The Reckoner: the charge ledger of each bank, 32 windows from w_now - 15 on, in nC; the present window; the two
poles of each channel in K; the channels at or above TMAX; the times of the ring's last code errors. -/
structure Reckoner where
  ledger : Tab (List Rat) := []
  wNow : Nat := 0
  x1 : Tab Rat := []
  x2 : Tab Rat := []
  hot : List Nat := []
  errs : List Nat := []
  disturbedEnd : Nat := 0
  deriving DecidableEq, Repr

/-! ### Head ports [20] -/

/-- A queued ARMN or DISARM: the frame number modulo 65 536, and the slot it was armed in with the trigger's TLT. -/
structure Notice where
  disarm : Bool
  frame : Nat
  slot : Nat
  trig : Nat
  deriving DecidableEq, Repr

/-- An exposure check under way or due: furrow, start of the step as TLT, end of its window in model time (none while
the pulse is on) [20 R384]. -/
structure Check where
  f : Nat
  slot : Nat
  tlt : Nat
  stop : Option Nat
  deriving DecidableEq, Repr

/-- What a port awaits after a message that requires a reply [20 R386, R393]. -/
inductive Await where
  | none | ident | ack | poll
  deriving DecidableEq, Repr

/-- A head port [20]. `trig` is the trigger pin, `trigEnd` its end, `lastTrig` the time of the last assertion driven;
`checks` the exposure checks; `taints` the queued TAINT payloads; `notices` the ARMN queue; `flowDue` says that a HOLD is
due because the port has become ON; `param`, `hello`, `bye`, `poll` are messages waiting, with the end of BYE's wait and the
time a POLL falls due; `tries` of the present discovery step and `due`, the time its next message may leave; `await` with
the end of the reply window; `silent` counts polls without a valid reply; `lineIdle` the time since which the line idles;
`sent` the bytes last sent; `raw` says that PRSNn is low, since `rawSince`; `changed` that the head recorded by the hitch
differs from the one before; `old` the LAT, PERIOD and WINDOW recorded before the hitch [20 R393]; `was` the time of the last change that a reply
or a leaving made, and whether the port was ON and its LAT before that FCLK cycle [09 R457]. -/
structure Head where
  trig : Bool := false
  trigEnd : Int := 0
  lastTrig : Option Int := none
  checks : List Check := []
  taints : List (List Nat) := []
  notices : List Notice := []
  flowDue : Bool := false
  param : Bool := false
  hello : Bool := false
  bye : Bool := false
  byeEnd : Nat := 0
  poll : Bool := false
  pollDue : Nat := 0
  tries : Nat := 0
  due : Nat := 0
  await : Await := .none
  windowEnd : Nat := 0
  silent : Nat := 0
  lineIdle : Nat := 0
  sent : List Nat := []
  raw : Bool := false
  rawSince : Nat := 0
  changed : Bool := false
  old : Option (Nat × Nat × Nat) := none
  was : Option (Nat × Bool × Nat) := none
  deriving DecidableEq, Repr

/-! ### Encoders [15] -/

/-- A glitch filter [15 R287]: the level it has accepted; the level of the last sample, and the model time of the first sample that agreed on it. -/
structure Glitch where
  acc : Bool := true
  raw : Bool := true
  since : Nat := 0
  deriving DecidableEq, Repr

/-- An encoder input [15]. `a`, `b` and `z` are its glitch filters; `ready` and `zready` say that accepted levels have been loaded; `edges` are the
edge times held, newest first; `counts` the TLT values of the counts and `qerrs` the model times of the quadrature errors of the last µs; `cm` the
common-mode excursion; `onset` and `clear` the times that bound the freeze; the captured Z position; the Nap entry position; `upd` is one more than
the µs of TLT of the last velocity update, and `updAt` its model time; `net` the model time of the last count and what the counts of its FCLK cycle
add up to; `zAt` the model time of the last accepted rise of Z, with the captured position and ZCAP before it. -/
structure Enc where
  a : Glitch := {}
  b : Glitch := {}
  z : Glitch := {}
  ready : Bool := false
  zready : Bool := false
  pos : Nat := 0
  te : Nat := 0
  vel : Int := 0
  any : Bool := false
  edges : List Nat := []
  lastEdge : Option Nat := none
  counts : List Nat := []
  qerrs : List Nat := []
  cm : Bool := false
  onset : Nat := 0
  clear : Option Nat := none
  zpos : Nat := 0
  napPos : Nat := 0
  upd : Nat := 0
  updAt : Nat := 0
  net : Nat × Int := (0, 0)
  zAt : Option (Nat × Nat × Nat) := none
  deriving DecidableEq, Repr

/-! ### Pin engines [14] -/

/-- What a tick of a pin engine found: its model time and pads, STATE, OUT, TCNT, RISE, the latches, the inputs of the tick before, whether there was
none, and when it was due. It counts in the tick's own FCLK cycle only [14 R273, R280]. -/
structure EngineWas where
  since : Nat
  pads : Nat
  state : Nat
  out : Nat
  tcnt : Nat
  rise : Nat
  fire : Bool
  taint : Bool
  prev : Nat
  first : Bool
  next : Nat
  deriving DecidableEq, Repr

/-- What the ticks of the present FCLK cycle sample, as it stood at its start: LIT0 to LIT5, TRG0 to TRG5, HOLD and the engines' DATA.IN, four
bits each [14 R273, R280]. -/
structure PeSeen where
  lits : Nat := 0
  trgs : Nat := 0
  hold : Bool := false
  ins : Nat := 0
  deriving DecidableEq, Repr

/-- A pin engine [14]: its table (an entry not listed is 0), the latches of FIRE and TAINT, the inputs sampled at the last
tick, whether no tick has followed the start, the time of the next one, what the last tick found, and when RUN was cleared. -/
structure Engine where
  lut : Tab Nat := []
  fire : Bool := false
  taint : Bool := false
  prev : Nat := 0
  first : Bool := true
  next : Nat := 0
  was : Option EngineWas := none
  stopAt : Option Nat := none
  deriving DecidableEq, Repr

/-! ### Sync ring [21] -/

/-- A cell [21 Table SR-2]: source, type, ARG, DATA. -/
structure Cell where
  src : Nat
  typ : Nat
  arg : Nat
  data : Nat
  deriving DecidableEq, Repr

/-- A line being gathered from TUN or TUNR cells of one source: the sequence number expected next and the characters [21
R417, R418]. -/
structure Gather where
  src : Nat
  reply : Bool
  seq : Nat
  chars : List Nat
  deriving DecidableEq, Repr

/-- The steps of a ring-up [21 R406]. -/
inductive UpStep where
  | none | discovery | measure | loop | delays | align
  deriving DecidableEq, Repr

/-- An epoch [21 Table SR-1]: E, position, velocity and flags. -/
structure Epoch where
  e : Nat := 0
  pos : Nat := 0
  vel : Int := 0
  stop : Bool := true
  up : Bool := false
  rhl : Bool := false
  busy : Bool := false
  deriving DecidableEq, Repr

/-- The sync ring [21]. `taints`, `ctrl` and `lines` are this device's cells waiting for an empty one; `held` the cells the
master sends again; `last` the last epoch taken and `watchdog` the end of its watchdog; `rpos` the ring position kept while
not UP, `shownPos` and `shownVel` those of the last 1 µs update; `small` and `large` count consecutive epochs within 1 ns
and beyond 8 ns; `loaded` says that TLT was loaded since the last DLY or admission, `haveD` that D was given; `join` that a
JOIN is outstanding and `admitted` that its headland has come. For the master: the step of ring-up with its end, the number
of members, the link measured now, the links measured, whether the ring was full, the members found aligned, the members
that asked to join, the answer of ring-up (0 OK, 86, 87), the next epoch number to send, epochs with UP at 0 still to send.
`gather` holds lines arriving; `sentEpoch` and `sentCell` what last left SYO; `busyBack` the BUSY bit of the last epoch
returned. -/
structure Ring where
  taints : List Cell := []
  ctrl : List Cell := []
  lines : List Cell := []
  held : List Cell := []
  last : Epoch := {}
  rpos : Rat := 0
  shownPos : Nat := 0
  shownVel : Int := 0
  watchdog : Option Nat := none
  small : Nat := 0
  large : Nat := 0
  loaded : Bool := false
  haveD : Bool := false
  join : Bool := false
  admitted : Bool := false
  step : UpStep := .none
  stepEnd : Nat := 0
  members : Nat := 0
  linkNow : Nat := 0
  linksD : List Nat := []
  full : Bool := false
  aligned : List Nat := []
  joins : List Nat := []
  answer : Option Nat := none
  gather : List Gather := []
  sentEpoch : Option Epoch := none
  sentCell : Option Cell := none
  busyBack : Bool := false
  nextE : Nat := 0
  downLeft : Nat := 0
  deriving DecidableEq, Repr

/-! ### Serial memory port and serial slave port [13] -/

/-- A command-queue entry: control word, address, write data [13 R254]. With `own` at `some n` it stands for a whole run of the interpreter's
entries that carries `n` data bytes [22 R423] (log entry 90). -/
structure CqEntry where
  ctrl : Nat
  addr : Nat
  data : Nat
  own : Option Nat
  deriving DecidableEq, Repr

/-- What a transfer on the bus is [13 R253]: a page read, an XIP line fill, a discovery read, a write-wait poll, an entry of a
command-queue run. -/
inductive Xfer where
  | page (f g : Nat)
  | fill (line : Nat)
  | disc (sel stage : Nat)
  | poll (sel : Nat)
  | run (e : CqEntry)
  deriving DecidableEq, Repr

/-- The transfer on the bus: what it is, its select, its rank as OWNER shows it, the model times its select falls and its clocks end, its MSCK period in
ns, and the bytes it sends, in order: opcode, address, data [13 R252, R255, R258]. -/
structure BusOp where
  op : Xfer
  sel : Nat
  owner : Nat
  start : Nat
  stop : Nat
  period : Nat
  sends : List Nat
  deriving DecidableEq, Repr

/-- A run that waits for its continuation: its last entry, the end of the continue timeout, its MSCK period [13 R256]. -/
structure Held where
  last : CqEntry
  stop : Nat
  period : Nat
  deriving DecidableEq, Repr

/-- A select in write-wait: its start, the number of the next poll, whether a poll waits [13 R257]. -/
structure WriteWait where
  start : Nat
  k : Nat
  due : Bool
  deriving DecidableEq, Repr

/-- Discovery under way: the selects left, the present one first, the stage of its reads, the table's address, and how many entries of the command
queue were there before it [13 R262]. -/
structure Discover where
  sels : List Nat
  stage : Nat
  table : Nat
  before : Nat
  deriving DecidableEq, Repr

/-- The serial memory port and the slave port [13]. `cq` is the command queue, `rx` the receive FIFO; `bus` the transfer under
way; `held` a run that waits for its continuation; `lost` the push last refused for a full queue, with its model time and CQFULL before it; `feed` the
interpreter's runs that have found no room in the queue; `ww` the selects in
write-wait; `disc` discovery; `fill` the XIP line that is wanted; `rose` when each select last rose; `out` the selects out of
service, by bank; of the slave port: SSSN low, whether the frame was accepted at its fall, the mode taken there, whether a staging buffer was free, the
outbound length latched, the outbound bytes, whether the frame that woke the device is under way. -/
structure Serial where
  cq : List CqEntry := []
  rx : List Nat := []
  bus : Option BusOp := none
  held : Option Held := none
  lost : Option (Nat × CqEntry × Bool) := none
  feed : List CqEntry := []
  ww : Tab WriteWait := []
  disc : Option Discover := none
  fill : Option Nat := none
  rose : Tab Nat := []
  out : List (Nat × Nat) := []
  active : Bool := false
  taken : Bool := false
  mode : Bool := false
  room : Bool := false
  lat : Nat := 0
  tx : List Nat := []
  wakeDrop : Bool := false
  deriving DecidableEq, Repr

/-! ### OTP array [05] -/

/-- Who asked for an OTP job: image code, the tamper latch, the key engine, boot ROM code, and the ROM interpreter for a verb [05 R96-R98]. -/
inductive OtOwner where
  | sw | latch | ky | rom | verb
  deriving DecidableEq, Repr

/-- A word burn under way [05 R101]: the word (512 is the lock word), its target, the bits still failing, the pulses ended and
the start of the present one. -/
structure Pulse where
  word : Nat
  target : Nat
  failing : Nat
  tries : Nat
  start : Nat
  deriving DecidableEq, Repr

/-- A job asked of the OTP engine: its owner, its code of Table OT-3 (16 is the seed burn of PERSO, 17 the RETIRED bead), and
its operands. `seed` holds the words of code 16. -/
structure OtReq where
  owner : OtOwner
  code : Nat
  word : Nat := 0
  ctr : Nat := 0
  data : Nat := 0
  seed : List Nat := []
  deriving DecidableEq, Repr

/-- The job under way: what was asked, the word burns left, the present one, the words it touched, its ERR so far, whether an
alarm ends it, whether the second RETIRED bead was taken, whether a pulse of it was cut, what its end writes: RETRIES, OT_FAIL, OT_DATA, WEAK,
OT_CNT. -/
structure OtJob where
  req : OtReq
  tasks : List (Nat × Nat) := []
  cur : Option Pulse := none
  err : Nat := 0
  abort : Bool := false
  second : Bool := false
  cut : Bool := false
  retries : Option Nat := none
  fail : Option Nat := none
  data : Option Nat := none
  weak : Bool := false
  count : Option Nat := none
  deriving DecidableEq, Repr

/-- The OTP array [05 R89]: of each word that holds a burned bit, the bits burned strongly and the bits burned weakly; the
shadows that are not 0; the job under way and those that wait; whether an onset came during a latch burn. Word 512 is the lock word. The fuses A and B of a bit are folded into one state of the bit
(log entry 86). -/
structure Otp where
  fuses : Tab (Nat × Nat) := []
  shadow : Tab Nat := []
  job : Option OtJob := none
  wait : List OtReq := []
  again : Bool := false
  deriving DecidableEq, Repr

/-! ### Keys and tamper [06] -/

/-- A key command under way: its code, the ERR it ends with, the buffer it leaves, the KREG it fills, the pair it loads, from a handle or not; `burns`
says that it waits for the OTP engine, `rom` that a KEY verb issued it. -/
structure KyJob where
  code : Nat
  err : Nat := 0
  buf : Option (List Nat) := none
  fill : Option (Nat × List Nat) := none
  load : Option Nat := none
  hand : Bool := false
  burns : Bool := false
  rom : Bool := false
  deriving DecidableEq, Repr

/-- The key engine and the JTAG port [06]. KREG is `kx` next to its mask `km`, 32 bytes each; its attribute is KY_STAT.KATTR and
0 when it is empty. `pair` is the scalar of the loaded pair, and `hand` says that it was loaded through its handle; `dr` is the UNLOCK data register
[06 Table KY-17]; `chal` the challenge kept; `verify` the result of a signature
check under way; `ir` the JTAG instruction that acts. -/
structure Keys where
  kx : List Nat := List.replicate 32 0
  km : List Nat := List.replicate 32 0
  pair : Option Nat := none
  hand : Bool := false
  dr : Nat := 0
  chal : Option (List Nat) := none
  verify : Option Bool := none
  ir : Nat := 1
  job : Option KyJob := none
  deriving DecidableEq, Repr

/-! ### The monitor and the interpreter [04, 11, 12] -/

/-- Where a line came from: the host path (1 UART, 2 slave, 3 tunnel), its tag in machine form, the member to answer on the ring; whether it was a
record frame, whose tag is echoed in both modes [04 R84]. -/
structure Ctx where
  path : Nat := 1
  tag : Option Nat := none
  member : Nat := 0
  frame : Bool := false
  deriving DecidableEq, Repr

/-- A verb in progress and what it waits for: an OTP job, a key command, a ladder entry, a head's hitching, ring-up,
a ledger save or load, the rollback burns of START, the RESET and POWER dormant whose OK is leaving, with the bytes of the UART's buffer up to its
end. `arg` is the word, counter or slot of an OTP or KEY object. -/
inductive Long where
  | otp (obj arg : Nat)
  | key (obj arg : Nat)
  | power (target : Nat)
  | head (p : Nat) (shows : Bool)
  | ringUp
  | save
  | load
  | start
  | leave (dormant : Bool) (left : Nat)
  deriving DecidableEq, Repr

/-- A line sent through the ring: whom its answers go to, whether the device added the tag, the member, the tag awaited; the end of the
wait, once its last cell has left; whether its final line has arrived; whether the wait has run out [11 R225-R227]. -/
structure Tunnel where
  ctx : Ctx
  own : Bool
  member : Nat
  tag : Nat
  stop : Option Nat
  came : Bool
  dead : Bool
  deriving DecidableEq, Repr

/-- A line being taken from Q0 [11 R188, R212]: its source code, PART or REPLY, the address of the member that sent it; whether its first word was
lost; its text, edited in console mode on the UART; whether it overflowed, holds a 0x1A. -/
structure Taken where
  src : Nat
  flag : Bool
  raddr : Nat
  lost : Bool
  text : List Nat
  overflow : Bool
  sub : Bool
  deriving DecidableEq, Repr

/-- The interpreter [11, 12]: machine mode on the UART and on the slave path; the event path; the event store; lines written whole that
wait for room, with their path; the line being taken from Q0; the verb in progress, and its answer when it is ready: data lines and error; the tunnelled
line awaited; the registered verbs and the one that is open; the event
names turned off; the scales of E0 and E1 in thousandths of a count per mm; the SYS_LOCKV bits that have risen by no verb and are not yet reported; the tag the device gives next to a
console line it tunnels. -/
structure Interp where
  machU : Bool := false
  machS : Bool := false
  evPath : Nat := 0
  evMember : Nat := 0
  store : List (List Nat) := []
  out : List (Nat × Nat × List Nat) := []
  taken : Option Taken := none
  wait : Option (Ctx × Long) := none
  answer : Option (List (List Nat) × Nat) := none
  tun : Option Tunnel := none
  names : List (List Nat) := []
  opened : Option (Nat × Ctx) := none
  off : List Nat := []
  scale0 : Nat := 0
  scale1 : Nat := 0
  rose : List Nat := []
  ownTag : Nat := 0
  deriving DecidableEq, Repr

/-- The image record received so far [04 R81]: its header bytes; the ciphertext stands in program RAM. -/
structure Boot where
  header : List Nat := []
  cfgLocked : Bool := false
  guardLocked : Bool := false
  deriving DecidableEq, Repr

/-! ### The configuration ledger [22] -/

/-- A commit under way [22 R435]: its slot (0 A, 1 B), SEQ, body, and the operations left: an opcode of R423 with its flash address and the number of its data
bytes; whether the read-back has been asked for; whether a write-wait of MSS0 has run out. -/
structure Commit where
  slot : Nat
  seq : Nat
  body : List Nat
  ops : List (Nat × Nat × Nat)
  back : Bool
  wto : Bool
  deriving DecidableEq, Repr

/-- The slots are being read for a load [22 R427, R429]: the one of the first LINE call, or of LEDGER LOAD; what slots A and B hold. -/
structure LedgerRead where
  auto : Bool
  a : List Nat
  b : List Nat
  deriving DecidableEq, Repr

/-- The ledger as the interpreter knows it: the standing slot and its SEQ; the last selection with its SEQ, LEN and the slots found valid;
whether the automatic load is done; the reading of the slots and the commit under way. -/
structure Ledger where
  standing : Option Nat := none
  seq : Nat := 0
  sel : Option Nat := none
  selSeq : Nat := 0
  selLen : Nat := 0
  validA : Bool := false
  validB : Bool := false
  loaded : Bool := false
  read : Option LedgerRead := none
  commit : Option Commit := none
  deriving DecidableEq, Repr

/-- The device. `ns` counts model time in ns, `draws` the free values drawn, `rd` holds what the last read returned; `regs` the register fields that
differ from their reset value, `com` the committed values of light-altering fields that wait for a headland; `seen` what the pin engines sample in the present FCLK cycle, `gpWas` the
changes of driven GP pins in the last three: time, pin, what was driven before; then the blocks, and memory. -/
structure Dev where
  ns : Nat := 0
  tlt : Nat := 0
  draws : Nat := 0
  rd : Nat := 0
  regs : Tab Nat := []
  q0 : Queue := {}
  q1 : Queue := {}
  qp : Tab QCycle := []
  qm : Tab QMark := []
  ua : Uart := {}
  co : Cpu := {}
  ck : Ck := {}
  sw : Sower := {}
  gr : Granary := {}
  ld : Led := {}
  bd : Reckoner := {}
  hp : Tab Head := []
  en : Tab Enc := []
  pe : Tab Engine := []
  seen : PeSeen := {}
  gpWas : List (Nat × Nat × Option Bool) := []
  sr : Ring := {}
  com : Tab Nat := []
  sp : Serial := {}
  ot : Otp := {}
  ky : Keys := {}
  st : Interp := {}
  bt : Boot := {}
  lg : Ledger := {}
  mem : List Host.Cell := []
  deriving DecidableEq, Repr

end Sys2Proof.Machine
end

