-- ==== Sys2Proof/Machine/Ops.lean ====
section
/-! DEFINITION. The named operations over registers, time, free values and memory that every block uses. -/

namespace Sys2Proof.Machine

/-! ### Register fields [00 R11, R12] -/

/-- The value of field `f`: what is listed, else its reset value. -/
def Dev.r (d : Dev) (f : Fld) : Nat := Tab.getD d.regs f.key f.rst

/-- Field `f` is not zero. -/
def Dev.b (d : Dev) (f : Fld) : Bool := decide (d.r f ≠ 0)

/-- Field `f` takes the low bits of `v` that it holds. -/
def Dev.w (d : Dev) (f : Fld) (v : Nat) : Dev :=
  { d with regs := Tab.setD d.regs f.key f.rst (v % 2 ^ f.width) }

/-- The one-bit field `f` is set. -/
def Dev.set (d : Dev) (f : Fld) : Dev := d.w f 1

/-- Field `f` is cleared. -/
def Dev.clr (d : Dev) (f : Fld) : Dev := d.w f 0

/-- Field `f` counts one more and stops at its largest value. -/
def Dev.inc (d : Dev) (f : Fld) : Dev := d.w f (min (d.r f + 1) (2 ^ f.width - 1))

/-- Field `f` counts one more and wraps. -/
def Dev.incWrap (d : Dev) (f : Fld) : Dev := d.w f (d.r f + 1)

/-- Bit `i` of field `f` is set. -/
def Dev.orBit (d : Dev) (f : Fld) (i : Nat) : Dev := d.w f (d.r f ||| 2 ^ i)

/-- Bit `i` of field `f` is cleared. -/
def Dev.clrBit (d : Dev) (f : Fld) (i : Nat) : Dev := if bitAt (d.r f) i then d.w f (d.r f - 2 ^ i) else d

/-! ### The tags, the coincidence record and the locked-write record [09 R183-R186] -/

/-- The tag numbers of Table AS-5. -/
def Tag.ck : Nat := 0
def Tag.sys : Nat := 1
def Tag.ot : Nat := 2
def Tag.ky : Nat := 3
def Tag.tp : Nat := 4
def Tag.qu : Nat := 5
def Tag.ua : Nat := 6
def Tag.sp : Nat := 7
def Tag.pe : Nat := 8
def Tag.en : Nat := 9
def Tag.sw : Nat := 10
def Tag.gr : Nat := 11
def Tag.ld : Nat := 12
def Tag.bd : Nat := 13
def Tag.hp : Nat := 14
def Tag.sr : Nat := 15
def Tag.co : Nat := 16

/-- A tie is recorded in the SYS_COIN bit of tag `t` [09 R186]. -/
def Dev.coin (d : Dev) (t : Nat) : Dev := d.orBit F.SYS_COIN_TAG t

/-- LOCKED_WRITE: a violation against a target of tag `t` at register address `a`: the tag's SYS_LOCKV bit is set;
SYS_LOCKA is loaded where every tag bit was 0, else MULTI is set [09 R183]; a bit that rises is due for an `!LOCKV` line [12 R251]. -/
def Dev.lockV (d : Dev) (t a : Nat) : Dev :=
  let d' := if d.r F.SYS_LOCKV_TAG = 0 then d.w F.SYS_LOCKA_ADDR a else d.set F.SYS_LOCKV_MULTI
  let d' := if bitAt (d.r F.SYS_LOCKV_TAG) t then d' else { d' with st := { d'.st with rose := d'.st.rose ++ [t] } }
  d'.orBit F.SYS_LOCKV_TAG t

/-! ### Time -/

/-- TLT counts modulo 2 ^ 48 [00 R8]. -/
def tltMod : Nat := 2 ^ 48

/-- `a - b` as the signed distance of two 48-bit values [16 R306]. -/
def sd (a b : Nat) : Int :=
  let x := (a + tltMod - b % tltMod) % tltMod
  if x < 2 ^ 47 then (x : Int) else (x : Int) - 2 ^ 48

/-- `p` is ahead of `x`: their distance modulo 2 ^ 48 lies between 1 and 2 ^ 47 - 1 [16 R306]. -/
def aheadOf (p x : Nat) : Bool := decide (0 < sd p x)

/-- The TLT value `t` is reached. -/
def Dev.reached (d : Dev) (t : Nat) : Bool := decide (sd t d.tlt ≤ 0)

/-- The model time at which TLT is, was or will be `t`, while it counts ns for ns. -/
def Dev.nsOf (d : Dev) (t : Nat) : Nat := ((d.ns : Int) + sd t d.tlt).toNat

/-- The number of the FCLK cycle of 4 ns in which model time `t` falls [03 R44, R460]. -/
def Dev.fclk (d : Dev) (t : Nat) : Nat := (t + d.ck.phase) / 4

/-- The number of the PCLK cycle of 8 ns in which model time `t` falls. -/
def Dev.pclk (d : Dev) (t : Nat) : Nat := (t + d.ck.phase) / 8

/-- The number of the ACLK cycle of 1 µs in which model time `t` falls. -/
def Dev.aclk (d : Dev) (t : Nat) : Nat := (t + d.ck.aphase) / 1000

/-- A cycle count `c` puts an event at model time `now` against the deadline `t`: the two fall in one cycle, and the event wins [09 R185]. -/
def Dev.ties (d : Dev) (c : Dev → Nat → Nat) (t : Nat) : Bool := decide (c d t = c d d.ns)

/-- The cycle of the deadline `t` is over: its expiry has taken effect [09 R185]. -/
def Dev.over (d : Dev) (c : Dev → Nat → Nat) (t : Nat) : Bool := decide (c d t < c d d.ns)

/-! ### The ladder state [03 R47] -/

/-- The device is in Run or Hold: every clock runs. -/
def Dev.awake (d : Dev) : Bool := decide (d.ck.ladder = .run ∨ d.ck.ladder = .hold)

/-- The device is in Nap or Fallow, or on its way out of one. -/
def Dev.asleep (d : Dev) : Bool := decide (d.ck.ladder = .nap ∨ d.ck.ladder = .fallow ∨ d.ck.ladder = .waking)

/-- ACLK runs: from the PLL, and with the PLL off from XCLK [03 Tables CK-1, CK-2, R41, R48]. -/
def aclkRuns (d : Dev) : Bool :=
  match d.ck.ladder with
  | .run => true
  | .hold => true
  | .nap => true
  | .fallow => d.ck.xrun
  | .waking => d.b F.CK_STAT_PLLLOCK || d.ck.xrun
  | .resetting => d.b F.CK_STAT_PLLLOCK
  | .dormant => false

/-- What time TLT has reached: in Nap and Fallow the sleep counter counts on for it [03 R59]. -/
def Dev.timeNow (d : Dev) : Nat :=
  if d.asleep then (d.ck.sleepTlt + (if d.ck.xrun then d.ns - d.ck.sleepNs else 0)) % tltMod else d.tlt

/-! ### Free values -/

/-- The number of the next draw of a free value, and the device that has counted it. -/
def Dev.draw (d : Dev) : Nat × Dev := (d.draws, { d with draws := d.draws + 1 })

/-! ### Bytes -/

/-- The number that `bs` spell, least significant byte first [00 R7]. -/
def le (bs : List Nat) : Nat :=
  match bs with
  | [] => 0
  | b :: r => b % 256 + 256 * le r

/-- The `n` low bytes of `v`, least significant byte first [00 R7]. -/
def leBytes (n v : Nat) : List Nat :=
  match n with
  | 0 => []
  | n + 1 => v % 256 :: leBytes n (v / 256)

/-! ### Memory: one list of cells, an unlisted byte reads 0 -/

/-- What a byte that nothing has written reads as. DESIGN CHOICE (log entry 2). -/
def memDefault : Byte := 0

/-- The byte at address `a`. -/
def Dev.byte (d : Dev) (a : Nat) : Byte := Tab.getD d.mem a memDefault

/-- The byte at address `a` becomes `v`. -/
def Dev.setByte (d : Dev) (a : Nat) (v : Byte) : Dev := { d with mem := Tab.setD d.mem a memDefault v }

/-- The `n` bytes from address `a` on, as a number [00 R7]. -/
def Dev.load (d : Dev) (n a : Nat) : Nat :=
  match n with
  | 0 => 0
  | n + 1 => (d.byte a).toNat + 256 * d.load n (a + 1)

/-- The `n` low bytes of `v` are stored from address `a` on [00 R7]. -/
def Dev.store (d : Dev) (n a v : Nat) : Dev :=
  match n with
  | 0 => d
  | n + 1 => (d.setByte a (BitVec.ofNat 8 v)).store n (a + 1) (v / 256)

/-- The bytes `bs` are stored from address `a` on. -/
def Dev.storeBytes (d : Dev) (a : Nat) (bs : List Nat) : Dev :=
  match bs with
  | [] => d
  | b :: r => (d.setByte a (BitVec.ofNat 8 b)).storeBytes (a + 1) r

/-- Every byte of addresses `a` to `a + n - 1` reads as unwritten. -/
def Dev.clearMem (d : Dev) (a n : Nat) : Dev :=
  { d with mem := d.mem.filter fun c => decide (c.1 < a) || decide (a + n ≤ c.1) }

/-- The memory's canonical form: addresses strictly rising, no entry equal to what an unlisted address reads as. -/
def Memory.wf (m : List Host.Cell) : Bool := Tab.rising m && m.all (fun c => c.2 ≠ memDefault)

/-! ### The core's outstanding far loads [07 R145, R148] -/

/-- Far load `n` gets the result `v`. -/
def Dev.loadResult (d : Dev) (n v : Nat) : Dev :=
  { d with co := { d.co with loads := d.co.loads.map fun l => if l.id = n then { l with res := some v } else l } }

/-- The access of far load `n` has reached its block. -/
def Dev.loadReached (d : Dev) (n : Nat) : Dev :=
  { d with co := { d.co with loads := d.co.loads.map fun l => if l.id = n then { l with reached := true } else l } }

/-- Two codes of VCA lie within 20 mV of each other [07 R140]. -/
def nearCode (a b : Nat) : Bool := decide (a ≤ b + 2 ∧ b ≤ a + 2)

/-- The throttle target moves to code `t`: SETTLED stays as it is where the code VCA settled at and the target before lie within 20 mV of `t`,
else VCA has to settle [07 R139, R140] (log entry 82). -/
def Dev.aimAt (d : Dev) (t : Nat) : Dev :=
  if d.r F.CORE_VSTAT_TARGET = t then d
  else if nearCode t d.co.vcaAt && nearCode t (d.r F.CORE_VSTAT_TARGET) then d.w F.CORE_VSTAT_TARGET t
  else (d.w F.CORE_VSTAT_TARGET t).clr F.CORE_VSTAT_SETTLED

end Sys2Proof.Machine
end

