-- ==== Sys2Proof/Machine/Crypto.lean ====
section
/-! DEFINITION. The algorithms that the spec names and does not lay down: SHA-256, HMAC-SHA-256, AES-256-GCM, ECDSA over
P-256 and base64, as FIPS 180-4, FIPS 198-1, FIPS 197, SP 800-38D, FIPS 186 and RFC 4648 write them. PRESUMED (log
entry 9). Byte strings are lists of numbers below 256. -/

namespace Sys2Proof.Machine

/-- The number that `bs` spell, most significant byte first. -/
def be (bs : List Nat) : Nat := le bs.reverse

/-- The `n` low bytes of `v`, most significant byte first. -/
def beBytes (n v : Nat) : List Nat := (leBytes n v).reverse

/-- `xs` cut into pieces of `n`, at most `fuel` of them. -/
def pieces (n : Nat) (fuel : Nat) (xs : List Nat) : List (List Nat) :=
  match fuel with
  | 0 => []
  | k + 1 => if xs = [] then [] else xs.take n :: pieces n k (xs.drop n)

/-! ### SHA-256 -/

/-- The `k`-th root of `v`, rounded down, its `n` low bits found one by one over the higher bits `r`. -/
def rootOf (k v n r : Nat) : Nat :=
  match n with
  | 0 => r
  | n + 1 => rootOf k v n (if (r + 2 ^ n) ^ k ≤ v then r + 2 ^ n else r)

/-- The first `n` primes; 311 is the 64th. -/
def firstPrimes (n : Nat) : List Nat :=
  ((List.range 312).filter fun p => decide (2 ≤ p) && (List.range 18).all fun q => decide (q < 2 ∨ p ≤ q ∨ p % q ≠ 0)).take n

/-- The first 32 bits of the fraction of the `k`-th root of each of the first `n` primes: FIPS 180-4 has its round constants from the cube roots of
64 primes and its first chaining value from the square roots of 8. -/
def rootWords (k n : Nat) : List Nat := (firstPrimes n).map fun p => rootOf k (p * 2 ^ (32 * k)) 40 0 % 2 ^ 32

/-- The round constants of SHA-256. -/
def shaK : List Nat := rootWords 3 64

/-- The chaining value that SHA-256 begins with. -/
def shaInit : List Word := (rootWords 2 8).map (BitVec.ofNat 32)

/-- The message schedule carried on by `n` words; `w` holds the last 16, oldest first. -/
def shaSchedule (n : Nat) (w : List Word) : List Word :=
  match n with
  | 0 => w
  | n + 1 =>
    let a := w.getD 1 0
    let b := w.getD 14 0
    let s0 := a.rotateRight 7 ^^^ a.rotateRight 18 ^^^ (a >>> 3)
    let s1 := b.rotateRight 17 ^^^ b.rotateRight 19 ^^^ (b >>> 10)
    let x := w.getD 0 0 + s0 + w.getD 9 0 + s1
    w.headD 0 :: shaSchedule n (w.tail ++ [x])

/-- One round on the eight working words. -/
def shaRound (v : List Word) (kw : Nat × Word) : List Word :=
  match v with
  | [a, b, c, d, e, f, g, h] =>
    let s1 := e.rotateRight 6 ^^^ e.rotateRight 11 ^^^ e.rotateRight 25
    let ch := (e &&& f) ^^^ (~~~e &&& g)
    let t1 := h + s1 + ch + BitVec.ofNat 32 kw.1 + kw.2
    let s0 := a.rotateRight 2 ^^^ a.rotateRight 13 ^^^ a.rotateRight 22
    let mj := (a &&& b) ^^^ (a &&& c) ^^^ (b &&& c)
    [t1 + (s0 + mj), a, b, c, d + t1, e, f, g]
  | w => w

/-- One block of 64 bytes. -/
def shaBlock (h : List Word) (block : List Nat) : List Word :=
  let w := (pieces 4 16 block).map fun b => BitVec.ofNat 32 (be b)
  let v := (shaK.zip (shaSchedule 48 w)).foldl shaRound h
  List.zipWith (· + ·) h v

/-- The message with its padding. -/
def shaPad (m : List Nat) : List Nat :=
  let z := (119 - m.length % 64) % 64
  m ++ [0x80] ++ List.replicate z 0 ++ beBytes 8 (8 * m.length)

/-- SHA-256. -/
def sha256 (m : List Nat) : List Nat :=
  let p := shaPad m
  ((pieces 64 (p.length / 64) p).foldl shaBlock shaInit).flatMap fun w => beBytes 4 w.toNat

/-- HMAC-SHA-256. -/
def hmac (key m : List Nat) : List Nat :=
  let k := if 64 < key.length then sha256 key else key
  let k := k ++ List.replicate (64 - k.length) 0
  sha256 (k.map (· ^^^ 0x5c) ++ sha256 (k.map (· ^^^ 0x36) ++ m))

/-! ### AES-256-GCM -/

/-- Multiplication by x in the field of AES. -/
def aesX (b : Nat) : Nat := if 0x80 ≤ b then (b * 2 ^^^ 0x1b) % 256 else b * 2

/-- Multiplication in the field of AES, over the `n` low bits of `b`. -/
def aesMul (n a b : Nat) : Nat :=
  match n with
  | 0 => 0
  | n + 1 => (if b % 2 = 1 then a else 0) ^^^ aesMul n (aesX a) (b / 2)

/-- `r` times the squares of `a` that `n` squarings give: seven of them and `r` = 1 give the power 254, the inverse of `a`. -/
def aesInv (n a r : Nat) : Nat :=
  match n with
  | 0 => r
  | n + 1 => aesInv n (aesMul 8 a a) (aesMul 8 r (aesMul 8 a a))

/-- The byte `b` rotated left by `k`. -/
def rotByte (b k : Nat) : Nat := (b * 2 ^ k + b / 2 ^ (8 - k)) % 256

/-- The substitution of AES: the inverse, then the affine map. -/
def aesSub (b : Nat) : Nat :=
  let i := aesInv 7 b 1
  i ^^^ rotByte i 1 ^^^ rotByte i 2 ^^^ rotByte i 3 ^^^ rotByte i 4 ^^^ 0x63

/-- The substitution as a table. -/
def aesBox : List Nat := (List.range 256).map aesSub

/-- Each byte of `bs` substituted. -/
def subBytes (box bs : List Nat) : List Nat := bs.map fun b => box.getD b 0

/-- `n` words of the key schedule after those of `w`, which holds the last eight words, oldest first; `i` counts them and `rc`
is the round constant. -/
def aesExpand (box : List Nat) (n i rc : Nat) (w : List (List Nat)) : List (List Nat) :=
  match n with
  | 0 => []
  | n + 1 =>
    let t := w.getLastD []
    let u :=
      if i % 8 = 0 then List.zipWith (· ^^^ ·) (subBytes box (t.drop 1 ++ t.take 1)) [rc, 0, 0, 0]
      else if i % 8 = 4 then subBytes box t else t
    let x := List.zipWith (· ^^^ ·) (w.headD []) u
    x :: aesExpand box n (i + 1) (if i % 8 = 0 then aesX rc else rc) (w.tail ++ [x])

/-- The round keys of a 32-byte key. -/
def aesKeys (key : List Nat) : List (List Nat) :=
  let box := aesBox
  let k := pieces 4 8 key
  pieces 16 15 (k ++ aesExpand box 52 0 1 k).flatten

/-- The rows of a state shifted. -/
def shiftRows (s : List Nat) : List Nat := (List.range 16).map fun i => s.getD ((5 * i) % 16) 0

/-- A column mixed. -/
def mixColumn (c : List Nat) : List Nat :=
  match c with
  | [a, b, x, y] =>
    [aesX a ^^^ aesX b ^^^ b ^^^ x ^^^ y, a ^^^ aesX b ^^^ aesX x ^^^ x ^^^ y,
     a ^^^ b ^^^ aesX x ^^^ aesX y ^^^ y, aesX a ^^^ a ^^^ b ^^^ x ^^^ aesX y]
  | c => c

/-- The columns of a state mixed. -/
def mixColumns (s : List Nat) : List Nat := (pieces 4 4 s).flatMap mixColumn

/-- The rounds left, with the round keys of each. -/
def aesRounds (box : List Nat) (ks : List (List Nat)) (s : List Nat) : List Nat :=
  match ks with
  | [] => s
  | [k] => List.zipWith (· ^^^ ·) (shiftRows (subBytes box s)) k
  | k :: ks => aesRounds box ks (List.zipWith (· ^^^ ·) (mixColumns (shiftRows (subBytes box s))) k)

/-- AES of one block under the round keys `ks`. -/
def aesBlock (ks : List (List Nat)) (s : List Nat) : List Nat :=
  match ks with
  | [] => s
  | k :: r => aesRounds aesBox r (List.zipWith (· ^^^ ·) s k)

/-- Multiplication in the field of GCM; `y` is used from its highest bit on. -/
def gcmMul (n : Nat) (x y : Nat) : Nat :=
  match n with
  | 0 => 0
  | n + 1 => (if bitAt y n then x else 0) ^^^ gcmMul n (if x % 2 = 1 then x / 2 ^^^ (0xe1 <<< 120) else x / 2) y

/-- A string filled with zeros to whole blocks. -/
def pad16 (bs : List Nat) : List Nat := bs ++ List.replicate ((16 - bs.length % 16) % 16) 0

/-- GHASH of additional data and ciphertext. -/
def ghash (h : Nat) (aad ct : List Nat) : Nat :=
  let m := pad16 aad ++ pad16 ct ++ beBytes 8 (8 * aad.length) ++ beBytes 8 (8 * ct.length)
  (pieces 16 (m.length / 16) m).foldl (fun y b => gcmMul 128 (y ^^^ be b) h) 0

/-- The counter mode of GCM over blocks of text; `c` is the counter of the first. -/
def gcmCtr (ks : List (List Nat)) (iv : List Nat) (c : Nat) (blocks : List (List Nat)) : List Nat :=
  match blocks with
  | [] => []
  | b :: r => List.zipWith (· ^^^ ·) b (aesBlock ks (iv ++ beBytes 4 c)) ++ gcmCtr ks iv (c + 1) r

/-- The text under the counter mode, which encrypts and decrypts. -/
def gcmText (key iv text : List Nat) : List Nat := gcmCtr (aesKeys key) iv 2 (pieces 16 (text.length / 16 + 1) text)

/-- The tag of a ciphertext. -/
def gcmTag (key iv aad ct : List Nat) : List Nat :=
  let ks := aesKeys key
  let h := be (aesBlock ks (List.replicate 16 0))
  List.zipWith (· ^^^ ·) (beBytes 16 (ghash h aad ct)) (aesBlock ks (iv ++ beBytes 4 1))

/-! ### P-256 -/

/-- The prime of P-256. -/
def pP : Nat := 0xffffffff00000001000000000000000000000000ffffffffffffffffffffffff
/-- The order of its group. -/
def pN : Nat := 0xffffffff00000000ffffffffffffffffbce6faada7179e84f3b9cac2fc632551
/-- Its coefficient b. -/
def pB : Nat := 0x5ac635d8aa3a93e7b3ebbd55769886bc651d06b0cc53b0f63bce3c3e27d2604b
/-- Its base point. -/
def pG : Nat × Nat :=
  (0x6b17d1f2e12c4247f8bce6e563a440f277037d812deb33a0f4a13945d898c296,
   0x4fe342e2fe1a7f9b8ee7eb4a7c0f9e162bce33576b315ececbb6406837bf51f5)

/-- `a` to the power of the `n` low bits of `e`, modulo `m`. -/
def powMod (n m a e : Nat) : Nat :=
  match n with
  | 0 => 1
  | n + 1 => (if e % 2 = 1 then a else 1) * powMod n m (a * a % m) (e / 2) % m

/-- The inverse of `a` modulo the prime `m`. -/
def invMod (m a : Nat) : Nat := powMod 256 m (a % m) (m - 2)

/-- The sum of two points; no value is the point at infinity. -/
def ecAdd (p q : Option (Nat × Nat)) : Option (Nat × Nat) :=
  match p, q with
  | none, q => q
  | p, none => p
  | some (x1, y1), some (x2, y2) =>
    if x1 = x2 ∧ (y1 + y2) % pP = 0 then none
    else
      let l :=
        if x1 = x2 then (3 * x1 * x1 + (pP - 3)) * invMod pP (2 * y1) % pP
        else (y2 + pP - y1) * invMod pP (x2 + pP - x1) % pP
      let x := (l * l + 2 * pP - x1 - x2) % pP
      some (x, (l * (x1 + pP - x) + pP - y1) % pP)

/-- The multiple of a point by the `n` low bits of `k`. -/
def ecMul (n : Nat) (p : Option (Nat × Nat)) (k : Nat) : Option (Nat × Nat) :=
  match n with
  | 0 => none
  | n + 1 => ecAdd (if k % 2 = 1 then p else none) (ecMul n (ecAdd p p) (k / 2))

/-- A point lies on the curve. -/
def onCurve (p : Nat × Nat) : Bool :=
  decide (p.1 < pP) && decide (p.2 < pP) && decide (p.2 * p.2 % pP = (p.1 * p.1 * p.1 + (pP - 3) * p.1 + pB) % pP)

/-- The point that 64 bytes X then Y name, if it lies on the curve. -/
def ecPoint (b : List Nat) : Option (Nat × Nat) :=
  let p := (be (b.take 32), be ((b.drop 32).take 32))
  if b.length = 64 ∧ onCurve p then some p else none

/-- A point as 64 bytes, X then Y. -/
def ecBytes (p : Option (Nat × Nat)) : List Nat :=
  beBytes 32 (match p with | some q => q.1 | none => 0) ++ beBytes 32 (match p with | some q => q.2 | none => 0)

/-- The public key of a scalar. -/
def ecPub (d : Nat) : List Nat := ecBytes (ecMul 256 (some pG) d)

/-- The signature r then s of a digest under scalar `d` with the nonce `k`. -/
def ecSign (d k : Nat) (digest : List Nat) : List Nat :=
  let k := k % (pN - 1) + 1
  let r := (match ecMul 256 (some pG) k with | some (x, _) => x | none => 0) % pN
  let s := invMod pN k * (be digest + r * d) % pN
  beBytes 32 r ++ beBytes 32 s

/-- The signature holds for the digest under the public key. -/
def ecVerify (pub digest sig : List Nat) : Bool :=
  let r := be (sig.take 32)
  let s := be ((sig.drop 32).take 32)
  match ecPoint pub with
  | none => false
  | some q =>
    if r = 0 ∨ s = 0 ∨ pN ≤ r ∨ pN ≤ s ∨ sig.length ≠ 64 then false
    else
      let w := invMod pN s
      match ecAdd (ecMul 256 (some pG) (be digest * w % pN)) (ecMul 256 (some q) (r * w % pN)) with
      | some (x, _) => decide (x % pN = r)
      | none => false

/-! ### CRC-32 [00 R458] and base64 -/

/-- `n` steps of the reflected CRC-32 register. -/
def crc32Steps (n c : Nat) : Nat :=
  match n with
  | 0 => c
  | n + 1 => crc32Steps n (if c % 2 = 1 then c / 2 ^^^ 0xEDB88320 else c / 2)

/-- CRC-32 [00 R458]. -/
def crc32 (bs : List Nat) : Nat := (bs.foldl (fun c b => crc32Steps 8 (c ^^^ b)) 0xFFFFFFFF) ^^^ 0xFFFFFFFF

/-- The value of a base64 character. -/
def b64Value (c : Nat) : Option Nat :=
  if 65 ≤ c ∧ c ≤ 90 then some (c - 65)
  else if 97 ≤ c ∧ c ≤ 122 then some (c - 71)
  else if 48 ≤ c ∧ c ≤ 57 then some (c + 4)
  else if c = 43 then some 62
  else if c = 47 then some 63
  else none

/-- The bytes of one group of four characters; `last` says that padding may stand in it. -/
def b64Group (last : Bool) (g : List Nat) : Option (List Nat) :=
  match g with
  | [a, b, c, e] =>
    match b64Value a, b64Value b, b64Value c, b64Value e with
    | some x, some y, some z, some w => some (beBytes 3 (x * 2 ^ 18 + y * 2 ^ 12 + z * 64 + w))
    | some x, some y, some z, none => if last ∧ e = 61 then some (beBytes 2 ((x * 2 ^ 12 + y * 64 + z) / 4)) else none
    | some x, some y, none, none => if last ∧ c = 61 ∧ e = 61 then some (beBytes 1 ((x * 64 + y) / 16)) else none
    | _, _, _, _ => none
  | _ => none

/-- The bytes that groups of four characters spell. -/
def b64Groups (gs : List (List Nat)) : Option (List Nat) :=
  match gs with
  | [] => some []
  | [g] => b64Group true g
  | g :: r =>
    match b64Group false g, b64Groups r with
    | some x, some y => some (x ++ y)
    | _, _ => none

/-- The bytes of a base64 string. -/
def b64Decode (s : List Nat) : Option (List Nat) := b64Groups (pieces 4 (s.length / 4 + 1) s)

/-- The base64 character of a value. -/
def b64Char (v : Nat) : Nat :=
  if v < 26 then v + 65 else if v < 52 then v + 71 else if v < 62 then v - 4 else if v = 62 then 43 else 47

/-- The base64 form of a byte string. -/
def b64Encode (bs : List Nat) : List Nat :=
  (pieces 3 (bs.length / 3 + 1) bs).flatMap fun g =>
    let v := be (g ++ List.replicate (3 - g.length) 0)
    ((List.range (g.length + 1)).map fun i => b64Char (v / 64 ^ (3 - i) % 64)) ++ List.replicate (3 - g.length) 61

end Sys2Proof.Machine
end

