-- ==== Sys2Proof/Machine/Queue.lean ====
section
/-! DEFINITION. The ingress queues Q0 and Q1 [10] and the receive and transmit sides of the host UART [11 R206, R220]. -/

namespace Sys2Proof.Machine

/-- The capacity of queue `i` in words [10 R188]. -/
def qCap (i : Fin 2) : Nat := if i = 0 then 256 else 128

/-- Queue `i`. -/
def Dev.q (d : Dev) (i : Fin 2) : Queue := if i = 0 then d.q0 else d.q1

/-- `d` with queue `i` changed by `f`. -/
def Dev.onQ (d : Dev) (i : Fin 2) (f : Queue → Queue) : Dev :=
  if i = 0 then { d with q0 := f d.q0 } else { d with q1 := f d.q1 }

/-- Depth in stored words; the half-packed word and the holding place are not counted [10 R198]. -/
def qDepth (q : Queue) : Nat := q.words.length

/-- The cut-through threshold in force; in Q1 a value above 128 acts as 128 [10 Table QU-6]. -/
def qCut (d : Dev) (i : Fin 2) : Nat := min (d.r (F.Q_CTL_CUT i.val)) (qCap i)

/-- Number of stored words that may be popped [10 R196]: all, but for those of an open packet not yet visible. -/
def qVisible (q : Queue) : Nat :=
  if q.src ≠ 0 ∧ q.seen = false then q.words.length - q.openIn else q.words.length

/-- The open packet meets the CUT condition for the first time: CUTR is set and its words are visible [10 R196]. -/
def qCutCheck (i : Fin 2) (d : Dev) : Dev :=
  let q := d.q i
  if q.src ≠ 0 ∧ q.seen = false ∧ qCut d i ≠ 0 ∧ qCut d i ≤ q.nStored then
    (d.onQ i fun q => { q with seen := true }).set (F.Q_STAT_CUTR i.val)
  else d

/-- The queue is full while no word of the open packet is visible: all of them become visible [10 R196]. -/
def qFullCheck (i : Fin 2) (d : Dev) : Dev :=
  let q := d.q i
  if q.src ≠ 0 ∧ q.seen = false ∧ q.openIn ≠ 0 ∧ qDepth q = qCap i then
    (d.onQ i fun q => { q with seen := true }).set (F.Q_STAT_CUTR i.val)
  else d

/-- The tag of a popped word is latched into Qn_TAG with TMO clear [10 R195, R197]. -/
def qLatchTag (i : Fin 2) (w : QWord) (d : Dev) : Dev :=
  ((((((d.w (F.Q_TAG_VB i.val) w.vb).w (F.Q_TAG_SOP i.val) (bit w.sop)).w (F.Q_TAG_EOP i.val) (bit w.eop)).w
    (F.Q_TAG_BRK i.val) (bit w.brk)).w (F.Q_TAG_SRC i.val) w.src).w (F.Q_TAG_TMO i.val) 0)

/-- Word `w` goes to a pop: its tag is latched, its data is the pop's result, and a word that resolved in the timeout's
own FCLK cycle is recorded as a tie [10 R197; 09 R186]. -/
def qDeliver (i : Fin 2) (load : Option Nat) (tie : Bool) (w : QWord) (d : Dev) : Dev :=
  let d := qLatchTag i w d
  let d := d.onQ i fun q => { q with lastPop := w.data }
  let d := if tie then (d.set (F.Q_TAG_COIN i.val)).coin Tag.qu else d
  match load with
  | none => d
  | some n => d.loadResult n w.data

/-- The oldest word leaves the queue. -/
def qTake (q : Queue) : Queue :=
  { q with words := q.words.tail, openIn := min q.openIn (q.words.length - 1) }

/-- Qn_STAT.WM for depth now, by HI, LO and the state before [10 R201]. -/
def qWmNext (hi lo depth : Nat) (was : Bool) : Bool :=
  if hi = 0 then false
  else if lo < hi then (if hi ≤ depth then true else if depth ≤ lo then false else was)
  else decide (hi ≤ depth)

/-- The marks of queue `i` as they stood when the present FCLK cycle began. -/
def qMarkOf (i : Fin 2) (d : Dev) : QMark :=
  match Tab.get? d.qm i.val with
  | some m => if m.cyc = d.fclk d.ns then m else ⟨d.fclk d.ns, d.b (F.Q_STAT_WM i.val), d.b (F.Q_STAT_HIUP i.val), d.b (F.Q_STAT_LODN i.val)⟩
  | none => ⟨d.fclk d.ns, d.b (F.Q_STAT_WM i.val), d.b (F.Q_STAT_HIUP i.val), d.b (F.Q_STAT_LODN i.val)⟩

/-- The watermark condition follows the depth: HIUP when it sets, LODN when it clears. What the depth did inside one FCLK cycle counts as one
change [10 R201, R202, R204]. -/
def qWatermark (i : Fin 2) (d : Dev) : Dev :=
  let m := qMarkOf i d
  let now := qWmNext (min (d.r (F.Q_WM_HI i.val)) (qCap i)) (min (d.r (F.Q_WM_LO i.val)) (qCap i)) (qDepth (d.q i)) m.wm
  if now = d.b (F.Q_STAT_WM i.val) then d
  else
    let d := { d.w (F.Q_STAT_WM i.val) (bit now) with qm := Tab.put d.qm i.val m }
    if now = m.wm then
      (d.w (F.Q_STAT_HIUP i.val) (bit (m.hiup && d.b (F.Q_STAT_HIUP i.val)))).w (F.Q_STAT_LODN i.val) (bit (m.lodn && d.b (F.Q_STAT_LODN i.val)))
    else if now then d.set (F.Q_STAT_HIUP i.val) else d.set (F.Q_STAT_LODN i.val)

/-- A word in the holding place enters the queue at the first free slot; its packet may meet the CUT condition by it [10 R196,
R198]. -/
def qUnhold (i : Fin 2) (d : Dev) : Dev :=
  match (d.q i).hold with
  | none => d
  | some w =>
    if qDepth (d.q i) < qCap i then
      let q := d.q i
      let d := (d.onQ i fun q => { q with words := q.words ++ [w], hold := none }).set (F.Q_STAT_PKT i.val)
      if q.seen = false ∧ qCut d i ≠ 0 ∧ qCut d i ≤ q.nStored + 1 then d.set (F.Q_STAT_CUTR i.val) else d
    else d

/-- A pop that timed out returns 0; Qn_TAG reads 0 but for TMO and the sticky COIN [10 Table QU-10]. -/
def qTimedOut (i : Fin 2) (load : Option Nat) (d : Dev) : Dev :=
  let d := (qLatchTag i ⟨0, 0, false, false, false, 0⟩ d).set (F.Q_TAG_TMO i.val)
  let d := d.onQ i fun q => { q with lastPop := 0 }
  match load with
  | none => d
  | some n => d.loadResult n 0

/-- Waiting pops take the words that have become visible, oldest pop first, but for one whose timeout has expired in an earlier FCLK cycle, which
returns 0; a slot freed takes the word of the holding place [10 R197, R204; 09 R185]. -/
def qServe (i : Fin 2) (n : Nat) (d : Dev) : Dev :=
  match n with
  | 0 => d
  | n + 1 =>
    match (d.q i).waits, (d.q i).words with
    | p :: ps, w :: _ =>
      if qVisible (d.q i) = 0 then d
      else if d.over Dev.fclk p.deadline then qServe i n (qTimedOut i p.load (d.onQ i fun q => { q with waits := ps }))
      else
        let d := d.onQ i fun q => { qTake q with waits := ps }
        qServe i n (qUnhold i (qDeliver i p.load (d.ties Dev.fclk p.deadline) w d))
    | _, _ => d

/-- What follows any change of a queue: visibility by a full queue and by CUT, the holding place, the waiting pops and
the watermark. -/
def qSettle (i : Fin 2) (d : Dev) : Dev :=
  let d := qCutCheck i (qFullCheck i (qUnhold i d))
  qWatermark i (qServe i (d.q i).waits.length d)

/-- A word is lost: one that finds the queue full sets OVR and breaks its packet; a later one of a broken packet is counted [10 R198]. -/
def qLose (i : Fin 2) (d : Dev) : Dev :=
  let d := if qDepth (d.q i) < qCap i then d else d.set (F.Q_STAT_OVR i.val)
  let d := d.inc (F.Q_LOST_WORDS i.val)
  let d := if (d.q i).broken then d else d.inc (F.Q_LOST_PKTS i.val)
  d.onQ i fun q => { q with broken := true }

/-- The packet that holds the write side ends. -/
def qClose (q : Queue) : Queue :=
  { q with src := 0, half := [], nDone := 0, nStored := 0, openIn := 0, seen := false, broken := false, discard := false }

/-- The word that `bytes` make, unused bytes 0x00 [10 R189]. -/
def qMake (q : Queue) (bytes : List Nat) (eop : Bool) : QWord :=
  { data := le bytes, vb := bytes.length % 4, sop := decide (q.nDone = 0), eop := eop, brk := eop && q.broken,
    src := q.src }

/-- A packed word is pushed. It goes straight to a waiting pop of an empty queue when it is visible on storing, is stored, waits in the holding
place (an EOP word), or is lost [10 R189, R198, R204]. -/
def qPush (i : Fin 2) (bytes : List Nat) (eop : Bool) (d : Dev) : Dev :=
  let q := d.q i
  let w := qMake q bytes eop
  let d := d.onQ i fun q => { q with nDone := q.nDone + 1, half := [] }
  if q.broken && !eop then qSettle i (qLose i d)
  else if qDepth q < qCap i then
    let d := d.onQ i fun q =>
      { q with words := q.words ++ [w], nStored := q.nStored + 1, openIn := if eop then 0 else q.openIn + 1 }
    let d := qCutCheck i d
    let d := if eop then (d.onQ i qClose).set (F.Q_STAT_PKT i.val) else d
    qSettle i d
  else if eop then qSettle i (d.onQ i fun q => { qClose q with hold := some w, nStored := q.nStored, seen := q.seen })
  else qSettle i (qLose i d)

/-- The fields of queue `i` that a push or a pop can write. -/
def qFields (i : Nat) : List Fld :=
  [F.Q_STAT_OVR i, F.Q_STAT_HIUP i, F.Q_STAT_LODN i, F.Q_STAT_CUTR i, F.Q_STAT_PKT i, F.Q_STAT_WM i, F.Q_LOST_WORDS i, F.Q_LOST_PKTS i,
   F.Q_TAG_VB i, F.Q_TAG_SOP i, F.Q_TAG_EOP i, F.Q_TAG_BRK i, F.Q_TAG_SRC i, F.Q_TAG_TMO i, F.Q_TAG_COIN i]

/-- What has met queue `i` in the present FCLK cycle. -/
def qMet (i : Fin 2) (d : Dev) : Option QCycle :=
  match Tab.get? d.qp i.val with
  | some c => if c.cyc = d.fclk d.ns then some c else none
  | none => none

/-- Nothing has met queue `i` yet. -/
def qFresh (i : Fin 2) (d : Dev) : QCycle := ⟨d.fclk d.ns, d.q i, (qFields i.val).map d.r, bitAt (d.r F.SYS_COIN_TAG) Tag.qu, none, none⟩

/-- The push of `bytes` is noted: a second one of a cycle begins anew. -/
def qNotePush (i : Fin 2) (bytes : List Nat) (eop : Bool) (d : Dev) : Dev :=
  let c := match qMet i d with | some c => if c.push.isNone then c else qFresh i d | none => qFresh i d
  { d with qp := Tab.put d.qp i.val { c with push := some (bytes, eop) } }

/-- A word of the open packet is complete: it is pushed. -/
def qComplete (i : Fin 2) (bytes : List Nat) (eop : Bool) (d : Dev) : Dev := qPush i bytes eop (qNotePush i bytes eop d)

/-- One byte enters the open packet of queue `i`; `last` marks the packet's last byte [10 R189, R199, R200]. -/
def qByte (i : Fin 2) (last : Bool) (b : Nat) (d : Dev) : Dev :=
  if (d.q i).discard then (if last then d.onQ i qClose else d)
  else
    let bytes := (d.q i).half ++ [b % 256]
    if last || bytes.length = 4 then qComplete i bytes last d
    else d.onQ i fun q => { q with half := bytes }

/-- The write side is granted to source `s` [10 R194]. -/
def qOpen (i : Fin 2) (s : Nat) (d : Dev) : Dev :=
  d.onQ i fun q => { qClose q with src := s, lastSrc := s }

/-- The next byte of the staged packet that holds queue `i`'s write side is written, the last one ending it. -/
def qWriteNext (i : Fin 2) (d : Dev) : Dev :=
  match (d.q i).left with
  | [] => d
  | b :: bs => qByte i bs.isEmpty b (d.onQ i fun q => { q with left := bs })

/-- An FCLK cycle ends: into each queue the byte of the cycle is written [10 R190]. -/
def queueCycle (d : Dev) : Dev := if d.awake then qWriteNext 1 (qWriteNext 0 d) else d

/-- The header byte of a UART packet: SRC 1 [10 Table QU-2]. -/
def uartHeader : Nat := 0x20

/-- The character ends its line: CR, LF, or the end that the line timeout gives it. -/
def endsLine (c : Nat) : Bool := decide (c = 13 ∨ c = 10 ∨ c = 0x11A)

/-- A character of a UART line is written into the open packet; its last one ends it [10 R190]. -/
def uartWrite (c : Nat) (d : Dev) : Dev :=
  qByte 0 (endsLine c) (c % 256) { d with ua := { d.ua with lastNs := d.ns } }

/-- The line timeout runs anew from a character that arrives, if LTMO is not 0, and stops at the end of the line [11 R206]. -/
def lineEndAfter (c : Nat) (d : Dev) : Option Nat :=
  if endsLine c ∨ d.r F.UA_CTL_LTMO = 0 then none else some (d.ns + 1000000 * d.r F.UA_CTL_LTMO)

/-- A character arrives at the UART's write side. -/
def uartArrive (c : Nat) (d : Dev) : Dev :=
  { d with ua := { d.ua with rx := d.ua.rx ++ [c], lastCr := decide (c = 13), lineEnd := lineEndAfter c d } }

/-- The UART holds the write side: its waiting characters are written up to the end of the line. -/
def uartDrain (n : Nat) (d : Dev) : Dev :=
  match n with
  | 0 => d
  | n + 1 =>
    match d.ua.rx with
    | [] => d
    | c :: cs =>
      if d.q0.src = 1 then uartDrain n (uartWrite c { d with ua := { d.ua with rx := cs } }) else d

/-- Whether source `s` has a packet ready for queue `i`. -/
def qReady (d : Dev) (i : Fin 2) (s : Nat) : Bool :=
  (decide (i = 0) && decide (s = 1) && !d.ua.rx.isEmpty) || (d.q i).staged.any (fun p => p.1 = s)

/-- The next source in the cyclic order of SRC codes after the one last granted [10 R194]. -/
def qNextSrc (d : Dev) (i : Fin 2) : Option Nat :=
  ((List.range 8).map (fun k => ((d.q i).lastSrc + k) % 8 + 1)).find? (fun s => qReady d i s)

/-- The write side of queue `i` is free: no packet holds it and no EOP word waits in the holding place. -/
def qFree (q : Queue) : Bool := decide (q.src = 0) && q.hold.isNone

/-- The first staged packet of source `s` and the rest. -/
def stagedTake (l : List (Nat × List Nat)) (s : Nat) : Option (List Nat) × List (Nat × List Nat) :=
  match l with
  | [] => (none, [])
  | p :: r => if p.1 = s then (some p.2, r) else ((stagedTake r s).1, p :: (stagedTake r s).2)

/-- The write side goes to source `s`: a UART line opens with its header byte; another source's whole packet is written from now on, one byte in
each FCLK cycle [10 R190, R194]. -/
def qGrantTo (i : Fin 2) (s : Nat) (d : Dev) : Dev :=
  if i = 0 ∧ s = 1 then
    uartDrain d.ua.rx.length (qByte 0 false uartHeader (qOpen 0 1 d))
  else
    match (stagedTake (d.q i).staged s).1 with
    | none => d
    | some bs => (qOpen i s d).onQ i fun q => { q with staged := (stagedTake q.staged s).2, left := bs }

/-- WRITE_SIDE_GRANT: a free write side goes to the next source with a packet ready [10 R194]. -/
def writeSideGrant (i : Fin 2) (d : Dev) : Dev :=
  if qFree (d.q i) then
    match qNextSrc d i with
    | none => d
    | some s => qGrantTo i s d
  else d

/-- The UART asks for Q0's write side, or writes into the packet it has open. -/
def uartKick (d : Dev) : Dev :=
  if d.q0.src = 1 then uartDrain d.ua.rx.length d
  else if qFree d.q0 ∧ qNextSrc d 0 = some 1 then qGrantTo 0 1 d
  else d

/-- IDLE_CLOSE: a UART word that has received no further byte for IDLE µs is closed and pushed; the packet stays
open [10 R191]. -/
def idleClose (d : Dev) : Dev :=
  let idle := d.r (F.Q_CTL_IDLE 0)
  if d.q0.src = 1 ∧ d.q0.half ≠ [] ∧ d.q0.discard = false ∧ idle ≠ 0 ∧ d.over Dev.fclk (d.ua.lastNs + 1000 * idle) then
    qComplete 0 d.q0.half false d
  else d

/-- LINE_TIMEOUT: a UART packet open with no character for LTMO ms is ended by 0x1A as its last byte [11 R206]. -/
def lineTimeout (d : Dev) : Dev :=
  match d.ua.lineEnd with
  | none => d
  | some t => if d.over Dev.pclk t then uartKick (uartArrive 0x11A d) else d

/-- UART_CHARACTER: a received character, 0x1A in place of one whose stop bit is 0; an LF directly after a CR is discarded, as is the character
that woke the device, and one that comes while the receiver is closed. A timeout that has expired before it acts first [10 R190, R191; 11 R206;
02 R39; 03 R51; 09 R185]. -/
def uartCharacter (c : Byte) (stopOk : Bool) (d : Dev) : Dev :=
  if d.ua.wakeDrop then { d with ua := { d.ua with wakeDrop := false } }
  else if d.b F.UA_CTL_RXEN = false ∨ d.ck.host = false then d
  else
    let d := idleClose (lineTimeout d)
    let c := if stopOk then c.toNat else 0x1A
    let d := if stopOk then d else d.set F.UA_STAT_FE
    if c = 10 ∧ d.ua.lastCr then { d with ua := { d.ua with lastCr := false } }
    else uartKick (uartArrive c d)

/-- A pop that finds no visible word waits Qn_TMO µs; with Qn_TMO at 0 it returns at once with TMO set [10 R197]. -/
def qPopWait (i : Fin 2) (load : Option Nat) (d : Dev) : Dev :=
  let tmo := d.r (F.Q_TMO_TMO i.val)
  if tmo = 0 then qTimedOut i load d
  else d.onQ i fun q => { q with waits := q.waits ++ [⟨load, d.ns + 1000 * tmo⟩] }

/-- A pop takes the oldest visible word, or waits [10 R197]. -/
def qPopNow (i : Fin 2) (load : Option Nat) (d : Dev) : Dev :=
  let q := d.q i
  match q.waits, q.words with
  | [], w :: _ =>
    if qVisible q ≠ 0 then qSettle i (qDeliver i load false w (d.onQ i qTake))
    else qPopWait i load d
  | _, _ => qPopWait i load d

/-- The far loads that the pops of a cycle serve. -/
def QCycle.ids (c : QCycle) : List Nat := (c.was.waits.filterMap fun w => w.load) ++ (match c.pop with | some (some n) => [n] | _ => [])

/-- What a cycle did to queue `i` can be taken back: none of its words has left it for good. -/
def qUndoable (i : Fin 2) (c : QCycle) (d : Dev) : Bool :=
  decide (((d.q i).src = 0 ∨ (d.q i).src = c.was.src) ∧ (c.push = none ∨ c.was.src ≠ 0)) && c.ids.all fun n => d.co.loads.any fun l => decide (l.id = n)

/-- Queue `i`, its fields and the far loads it serves are as they were before the cycle `c`. -/
def qUndo (i : Fin 2) (c : QCycle) (d : Dev) : Dev :=
  let q := d.q i
  let d := d.onQ i fun _ => { c.was with staged := q.staged, left := q.left, half := if c.push.isNone then q.half else c.was.half }
  let d := ((qFields i.val).zip c.flds).foldl (fun d e => d.w e.1 e.2) d
  let d := if c.coin then d else d.clrBit F.SYS_COIN_TAG Tag.qu
  { d with co := { d.co with loads := d.co.loads.map fun l => if c.ids.contains l.id then { l with res := none } else l } }

/-- A pushed word meets the queue again after what comes first in its cycle. -/
def qPushAgain (i : Fin 2) (bytes : List Nat) (eop : Bool) (d : Dev) : Dev :=
  if (d.q i).discard then (if eop then d.onQ i qClose else d) else qPush i bytes eop d

/-- `g` comes before the pop and the push that have met queue `i` in this FCLK cycle [10 Table QU-5]. -/
def qBefore (i : Fin 2) (g : Dev → Dev) (d : Dev) : Dev :=
  match qMet i d with
  | none => g d
  | some c =>
    if qUndoable i c d then
      let d := g (qUndo i c d)
      let d := match c.pop with | some l => qPopNow i l d | none => d
      match c.push with | some p => qPushAgain i p.1 p.2 d | none => d
    else g d

/-- A pop reaches queue `i` for far load `load` (none: its word is discarded): it comes before the push of its FCLK cycle where that found the queue
full [10 R197, R204]. -/
def qPopFor (i : Fin 2) (load : Option Nat) (d : Dev) : Dev :=
  match qMet i d with
  | none => let c := qFresh i d; qPopNow i load { d with qp := Tab.put d.qp i.val { c with pop := some load } }
  | some c =>
    if c.pop.isSome then let c := qFresh i d; qPopNow i load { d with qp := Tab.put d.qp i.val { c with pop := some load } }
    else
      let d := if c.push.isSome ∧ qDepth c.was = qCap i then qBefore i (qPopNow i load) d else qPopNow i load d
      { d with qp := Tab.put d.qp i.val { c with pop := some load } }

/-- QUEUE_POP: a read of Qn_POP that no far load of the core waits on [10 R197]. -/
def queuePop (i : Fin 2) (d : Dev) : Dev := qPopFor i none d

/-- POP_TIMEOUT: the oldest waiting pop of queue `i` whose timeout has expired returns 0 with TMO set: the FCLK cycle of its end is over, in which a
word would still win [10 R197; 09 R185]. -/
def popTimeout (i : Fin 2) (d : Dev) : Dev :=
  match (d.q i).waits.find? fun p => d.awake && d.over Dev.fclk p.deadline with
  | none => d
  | some p => qTimedOut i p.load (d.onQ i fun q => { q with waits := q.waits.eraseP fun p => d.awake && d.over Dev.fclk p.deadline })

/-- The queue is emptied; the rest of an open packet is discarded as it arrives; a waiting pop goes on waiting [10 R199]. -/
def qEmpty (i : Fin 2) (d : Dev) : Dev :=
  qWatermark i (d.onQ i fun q =>
    { q with words := [], half := [], hold := none, openIn := 0, discard := decide (q.src ≠ 0) })

/-- QUEUE_FLUSH: in its FCLK cycle it comes first [10 R199, R204]. -/
def queueFlush (i : Fin 2) (d : Dev) : Dev := qBefore i (qEmpty i) d

/-- The stored words after the packet of the oldest one. -/
def dropPacket (ws : List QWord) : List QWord :=
  match ws with
  | [] => []
  | w :: r => if w.eop then r else dropPacket r

/-- The current packet is discarded: the packet of the oldest stored word, or with no word stored the open packet [10 R200]. -/
def qDropOne (i : Fin 2) (d : Dev) : Dev :=
  let q := d.q i
  if q.words.any (fun w => w.eop) then qSettle i (d.onQ i fun q => { q with words := dropPacket q.words })
  else
    qSettle i (d.onQ i fun q =>
      { q with words := [], half := [], hold := none, openIn := 0, discard := decide (q.src ≠ 0) })

/-- QUEUE_DROP: in its FCLK cycle it comes before a pop and a push [10 R200, R204]. -/
def queueDrop (i : Fin 2) (d : Dev) : Dev := qBefore i (qDropOne i) d

/-- A write of Qn_CMD: FLUSH and DROP written together act as FLUSH [10 R200]. -/
def qCmdWrite (i : Fin 2) (v : Nat) (d : Dev) : Dev :=
  if bitAt v 0 then queueFlush i d else if bitAt v 1 then queueDrop i d else d

/-- QN_LOST_CLEAR: a write of any value to Qn_LOST clears the three counts [10]. -/
def qnLostClear (i : Fin 2) (d : Dev) : Dev :=
  ((d.w (F.Q_LOST_EV i.val) 0).w (F.Q_LOST_PKTS i.val) 0).w (F.Q_LOST_WORDS i.val) 0

/-- A packet is put into source `s`'s staging buffer for queue `i`, header byte first [10 R190]. -/
def qStage (i : Fin 2) (s : Nat) (bytes : List Nat) (d : Dev) : Dev :=
  d.onQ i fun q => { q with staged := q.staged ++ [(s, bytes)] }

/-- The packets of source `s` in its staging buffer for queue `i`; one being written keeps its place to its last byte [10 R193]. -/
def stagedOf (d : Dev) (i : Fin 2) (s : Nat) : Nat :=
  ((d.q i).staged.filter (fun p => p.1 = s)).length + bit (decide ((d.q i).src = s) && !(d.q i).left.isEmpty)

/-- The event records waiting in the event generator. -/
def evStaged (d : Dev) : Nat := stagedOf d 1 7

/-- The twelve bytes of an event record [10 Table QU-4]. -/
def evBytes (tagn cause unit tlt arg : Nat) : List Nat :=
  [0xE0, tagn % 256, cause % 256, unit % 256] ++ leBytes 6 tlt ++ leBytes 2 arg

/-- Q1_EVENT_RECORD: a block writes an event record at TLT `tlt`; one that finds 16 staged is lost [10 R193]. -/
def evRecordAt (tagn cause unit tlt arg : Nat) (d : Dev) : Dev :=
  if evStaged d < 16 then qStage 1 7 (evBytes tagn cause unit tlt arg) d
  else (d.set (F.Q_STAT_EVLOST 1)).inc (F.Q_LOST_EV 1)

/-- An event record at the present TLT. -/
def evRecord (tagn cause unit arg : Nat) (d : Dev) : Dev := evRecordAt tagn cause unit d.tlt arg d

/-- The data source of queue `i` is pending [10 R203]. -/
def qDataPending (d : Dev) (i : Fin 2) : Bool :=
  d.b (F.Q_IE_DATA i.val) && decide (qVisible (d.q i) ≠ 0)

/-- Qn_STAT[5:0]. -/
def qSticky (d : Dev) (i : Fin 2) : Nat :=
  d.r (F.Q_STAT_OVR i.val) + 2 * d.r (F.Q_STAT_HIUP i.val) + 4 * d.r (F.Q_STAT_LODN i.val) +
    8 * d.r (F.Q_STAT_CUTR i.val) + 16 * d.r (F.Q_STAT_PKT i.val) + 32 * d.r (F.Q_STAT_EVLOST i.val)

/-- The status source of queue `i` is pending [10 R203]. -/
def qStatPending (d : Dev) (i : Fin 2) : Bool := decide (qSticky d i &&& d.r (F.Q_IE_STAT i.val) ≠ 0)

/-- The bits of Qn_STAT that follow the queue: DEPTH, HOLDW, OPEN, FULL [10 Table QU-7]. -/
def qStatLive (d : Dev) (i : Fin 2) : Nat :=
  let q := d.q i
  qDepth q * 2 ^ 16 + bit q.hold.isSome * 2 ^ 11 + bit (decide (q.src ≠ 0)) * 2 ^ 10 +
    bit (decide (qDepth q = qCap i)) * 2 ^ 8

/-! ### Transmit side -/

/-- Free bytes of the transmit buffer of 2 048 [11 R220]. -/
def txFree (d : Dev) : Nat := 2048 - d.ua.tx.length

/-- UA_TX_WRITE: the byte is appended to the transmit buffer, ignored while TXFREE is 0 [11 Table SL-9]. -/
def uaTxWrite (b : Byte) (d : Dev) : Dev :=
  if txFree d = 0 then d else { d with ua := { d.ua with tx := d.ua.tx ++ [b.toNat] } }

/-- UART_TRANSMIT: with CTSN at level `ctsn`, UTX begins the next character of the buffer unless CTSN is high or the
transmitter is off, and unless the device sleeps or is silent [11 R220; 02 R38; 03 R62]. -/
def uartTransmit (ctsn : Bool) (d : Dev) : Dev :=
  let d := d.w F.UA_STAT_CTS (bit !ctsn)
  if ctsn || !d.b F.UA_CTL_TXEN || !d.awake || d.ck.silent then d
  else match d.ua.tx with
    | [] => d
    | c :: cs => { d with ua := { d.ua with tx := cs, utx := c } }

/-- A write of UA_CTL: a zero LTMO stops the running line timeout at once [11 R206]. -/
def uaCtlWritten (d : Dev) : Dev :=
  if d.r F.UA_CTL_LTMO = 0 then { d with ua := { d.ua with lineEnd := none } } else d

/-- A write of UA_STAT.CLREV clears EVCNT [11 Table SL-8]. -/
def uaClrev (d : Dev) : Dev := d.w F.UA_STAT_EVCNT 0

end Sys2Proof.Machine
end

