-- ==== Sys2Proof/Machine/PinTick.lean ====
section
/-! DEFINITION. A tick of a pin engine: what its inputs see, the table, the state timer, and a tick taken anew for an event of its own FCLK
cycle [14]. -/

namespace Sys2Proof.Machine

/-- Pin engine `n`. -/
def Dev.eng (d : Dev) (n : Nat) : Engine := Tab.getD d.pe n {}

/-- Pin engine `n` changed by `g`. -/
def Dev.onG (d : Dev) (n : Nat) (g : Engine → Engine) : Dev := { d with pe := Tab.setD d.pe n {} (g (d.eng n)) }

/-- The fields SELk and INVk of engine `n`. -/
def peSel (n k : Nat) : Fld × Fld :=
  match k with
  | 0 => (F.PE_INSEL_SEL0 n, F.PE_INSEL_INV0 n)
  | 1 => (F.PE_INSEL_SEL1 n, F.PE_INSEL_INV1 n)
  | 2 => (F.PE_INSEL_SEL2 n, F.PE_INSEL_INV2 n)
  | _ => (F.PE_INSEL_SEL3 n, F.PE_INSEL_INV3 n)

/-- The fields PINk, ENk and ODk of engine `n`. -/
def peRoute (n k : Nat) : Fld × Fld × Fld :=
  match k with
  | 0 => (F.PE_OUTSEL_PIN0 n, F.PE_OUTSEL_EN0 n, F.PE_OUTSEL_OD0 n)
  | 1 => (F.PE_OUTSEL_PIN1 n, F.PE_OUTSEL_EN1 n, F.PE_OUTSEL_OD1 n)
  | 2 => (F.PE_OUTSEL_PIN2 n, F.PE_OUTSEL_EN2 n, F.PE_OUTSEL_OD2 n)
  | _ => (F.PE_OUTSEL_PIN3 n, F.PE_OUTSEL_EN3 n, F.PE_OUTSEL_OD3 n)

/-! ### GP pins [14 R274-R276] -/

/-- The outputs routed to GP pin `g`, the lowest engine and output first [14 R275]. -/
def gpRoutes (d : Dev) (g : Nat) : List (Nat × Nat) :=
  (List.range 8).flatMap fun n => ((List.range 4).filter fun k =>
    d.b (peRoute n k).2.1 && decide (d.r (peRoute n k).1 = g)).map fun k => (n, k)

/-- What the device drives on GP pin `g`: none for an input or a released open drain [14 R274, R275]. -/
def gpDriven (d : Dev) (g : Nat) : Option Bool :=
  match gpRoutes d g with
  | [] => none
  | (n, k) :: _ =>
    let v := bitAt (d.r (F.PE_DATA_OUT n)) k
    if d.b (peRoute n k).2.2 && v then none else some v

/-- The GP pins that engine `n` has a route to. -/
def gpPins (d : Dev) (n : Nat) : List Nat :=
  ((List.range 4).filter fun k => d.b (peRoute n k).2.1).map fun k => d.r (peRoute n k).1

/-- The device goes from `old` to `d`: of each of the pins `l` that it now drives otherwise, the time and what it drove before are kept for the
three FCLK cycles in which an input may still see it [14 R276]. -/
def gpNote (old : Dev) (l : List Nat) (d : Dev) : Dev :=
  let near := d.gpWas.filter fun e => decide (d.fclk d.ns < d.fclk e.1 + 3)
  { d with gpWas := ((l.filter fun g => gpDriven old g != gpDriven d g).map fun g => (d.ns, g, gpDriven old g)) ++ near }

/-- What the device drove on GP pin `g` at the end of the FCLK cycle `k` cycles ago. -/
def gpAgo (d : Dev) (g k : Nat) : Option Bool :=
  match (d.gpWas.filter fun e => decide (e.2.1 = g ∧ d.fclk d.ns < d.fclk e.1 + k)).getLast? with
  | some e => e.2.2
  | none => gpDriven d g

/-- The level of GP pin `g` that an input sees, with pad levels `pads`: what the device drove 3 and also 2 FCLK cycles before; else what the pads
give [14 R273, R276]. -/
def padSeen (d : Dev) (pads g : Nat) : Bool :=
  match gpAgo d g 3, gpAgo d g 2 with
  | some x, some y => if x = y then x else bitAt pads g
  | _, _ => bitAt pads g

/-- PE_PINS.LEVEL takes the synchronised levels; in Nap and Fallow GP inputs are not sampled [14 Table PE-10; 02 Table PN-7]. -/
def padsSampled (pads : Nat) (d : Dev) : Dev :=
  if d.awake then d.w F.PE_PINS_LEVEL ((List.range 16).foldl (fun m g => m + bit (padSeen d pads g) * 2 ^ g) 0) else d

/-! ### Inputs [14 R272, R273, R278] -/

/-- LITb: bank `b` is firing a pattern step with a non-empty CHMASK [14 Table PE-1]. -/
def litOf (d : Dev) (b : Nat) : Bool :=
  d.sw.slots.any fun e => decide (e.2.st = .firing ∧ e.2.bank = b ∧ e.2.cur.chmask ≠ 0) && e.2.pulse

/-- LIT0 to LIT5, TRG0 to TRG5, HOLD and the DATA.IN of the engines as they stand now: what the ticks of the FCLK cycle that begins sample [14 R273]. -/
def peLook (d : Dev) : PeSeen :=
  { lits := (List.range 6).foldl (fun m b => m + bit (litOf d b) * 2 ^ b) 0
    trgs := (List.range 6).foldl (fun m p => m + bit (Tab.getD d.hp p {}).trig * 2 ^ p) 0
    hold := d.b (F.Q_STAT_WM 1)
    ins := (List.range 8).foldl (fun m n => m + d.r (F.PE_DATA_IN n) * 16 ^ n) 0 }

/-- The signal that selector code `s` picks at a tick of engine `n`, with pads `pads` and TEXP taken as `texp`; a code not
listed is constant 0 [14 R272, Table PE-1]. -/
def peSignal (d : Dev) (n s pads : Nat) (texp : Bool) : Bool :=
  if s = 1 then true
  else if 0x10 ≤ s ∧ s < 0x20 then padSeen d pads (s - 0x10)
  else if 0x20 ≤ s ∧ s < 0x24 then bitAt d.seen.ins (4 * n + (s - 0x20))
  else if s = 0x28 then texp
  else if 0x30 ≤ s ∧ s < 0x36 then bitAt d.seen.lits (s - 0x30)
  else if 0x38 ≤ s ∧ s < 0x3E then bitAt d.seen.trgs (s - 0x38)
  else if s = 0x3E then (d.eng n).fire
  else if s = 0x3F then (d.eng n).taint
  else if s = 0x40 then d.seen.hold
  else false

/-- Selector code `s` is a constant [14 Table PE-1]. -/
def peConstant (s : Nat) : Bool :=
  !(decide ((0x10 ≤ s ∧ s < 0x24) ∨ s = 0x28 ∨ (0x30 ≤ s ∧ s < 0x36) ∨ (0x38 ≤ s ∧ s ≤ 0x40)))

/-- Input `k` of engine `n` as sampled, inverted where INVk is 1. -/
def peInput (d : Dev) (n pads : Nat) (texp : Bool) (k : Nat) : Bool :=
  peSignal d n (d.r (peSel n k).1) pads texp != d.b (peSel n k).2

/-- The four inputs as a number. -/
def peInputs (d : Dev) (n pads : Nat) (texp : Bool) : Nat :=
  (List.range 4).foldl (fun m k => m + bit (peInput d n pads texp k) * 2 ^ k) 0

/-- TEXP for a timer count `t` [14 R278]. -/
def texpAt (d : Dev) (n t : Nat) : Bool := d.b (F.PE_TMR_LIMIT n) && decide (d.r (F.PE_TMR_LIMIT n) ≤ t)

/-- The tick period of engine `n` in ns: DIV + 1 FCLK cycles [14 R277]. -/
def pePeriod (d : Dev) (n : Nat) : Nat := 4 * (d.r (F.PE_CLK_DIV n) + 1)

/-- Engine `n` runs, or RUN was cleared in this FCLK cycle, whose tick completes [14 R283]. -/
def peRuns (d : Dev) (n : Nat) : Bool :=
  d.b (F.PE_CTL_RUN n) || (match (d.eng n).stopAt with | some t => d.ties Dev.fclk t | none => false)

/-- A tick of engine `n` is due: Run or Hold, and its FCLK cycle has come [14 R277, R285]. -/
def tickDue (d : Dev) (n : Nat) : Bool := peRuns d n && d.awake && decide (d.fclk (d.eng n).next ≤ d.fclk d.ns)

/-- The timer count of the next tick. -/
def nextCount (d : Dev) (n : Nat) : Nat := min (d.r (F.PE_TMR_TCNT n) + 1) 65535

/-- The next tick is the first one in the state at which TEXP would be 1. -/
def expiresNow (d : Dev) (n : Nat) : Bool := texpAt d n (nextCount d n) && !texpAt d n (d.r (F.PE_TMR_TCNT n))

/-- An input other than the timer, whose selector is not a constant, differs from the previous tick [14 R279]. -/
def inputsChanged (d : Dev) (n pads : Nat) : Bool :=
  !(d.eng n).first && (List.range 4).any fun k =>
    let s := d.r (peSel n k).1
    decide (s ≠ 0x28) && !peConstant s && (peInput d n pads false k != bitAt (d.eng n).prev k)

/-! ### The tick [14 R271, R273, R278, R279, R281] -/

/-- What a tick of engine `n` with pads `pads` finds, kept for the rest of its FCLK cycle. -/
def peBefore (d : Dev) (n pads : Nat) : EngineWas :=
  let g := d.eng n
  { since := d.ns, pads := pads, state := d.r (F.PE_DATA_STATE n), out := d.r (F.PE_DATA_OUT n), tcnt := d.r (F.PE_TMR_TCNT n)
    rise := d.r (F.PE_STAT_RISE n), fire := g.fire, taint := g.taint, prev := g.prev, first := g.first, next := g.next }

/-- One tick of engine `n` with GP pad levels `pads`: the timer, the inputs, the table entry, state and outputs, rises, and
the tie of R279. -/
def peTick (n pads : Nat) (d : Dev) : Dev :=
  let old := d
  let was := peBefore d n pads
  let t := nextCount d n
  let tie := expiresNow d n && inputsChanged d n pads
  let texp := texpAt d n t && !tie
  let ins := peInputs d n pads texp
  let s := d.r (F.PE_DATA_STATE n)
  let out := d.r (F.PE_DATA_OUT n)
  let e := Tab.getD (d.eng n).lut (ins * 16 + s) 0
  let d := if tie then (d.set (F.PE_CTL_COIN n)).coin Tag.pe else d
  let d := (d.w (F.PE_DATA_STATE n) (e / 16)).w (F.PE_DATA_OUT n) (e % 16)
  let d := d.w (F.PE_TMR_TCNT n) (if e / 16 = s then t else 0)
  let d := d.w (F.PE_STAT_RISE n) (d.r (F.PE_STAT_RISE n) ||| (e % 16 &&& (15 - out)))
  let p := pePeriod d n
  gpNote old (gpPins d n)
    (d.onG n fun g => { g with fire := false, taint := false, prev := ins, first := false, next := g.next + p, was := some was })

/-- The engine's state before its last tick, if that tick fell in the present FCLK cycle. -/
def peTicked (d : Dev) (n : Nat) : Option EngineWas :=
  match (d.eng n).was with
  | some w => if d.ties Dev.fclk w.since then some w else none
  | none => none

/-- A pulse event comes, which `f` latches. A tick already taken in its FCLK cycle is taken anew with it: it falls in the cycle of that tick [14
R273]. -/
def pePulse (f : Engine → Engine) (n : Nat) (d : Dev) : Dev :=
  match peTicked d n with
  | none => d.onG n f
  | some w =>
    let d := ((d.w (F.PE_DATA_STATE n) w.state).w (F.PE_DATA_OUT n) w.out).w (F.PE_TMR_TCNT n) w.tcnt
    let d := d.w (F.PE_STAT_RISE n) w.rise
    peTick n w.pads (d.onG n fun g => f { g with fire := w.fire, taint := w.taint, prev := w.prev, first := w.first, next := w.next })

/-- TAINT meets every pin engine; in Nap and Fallow pulse events do not occur [14 R273, R285]. -/
def peTaint (d : Dev) : Dev :=
  if d.awake then (List.range 8).foldl (fun d n => pePulse (fun e => { e with taint := true }) n d) d else d

/-- FIRE meets every pin engine [14 R273, R285]. -/
def peFire (d : Dev) : Dev :=
  if d.awake then (List.range 8).foldl (fun d n => pePulse (fun e => { e with fire := true }) n d) d else d

end Sys2Proof.Machine
end

