-- ==== Sys2Proof/Machine/LightOps.lean ====
section
/-! DEFINITION. The operations that the light path shares: furrows, slots, plots, banks and ports as tables; committed
values and headlands [01 R20, R21]; misses and withdrawals [16]; sinks, scan lines and charge [18, 19]; what a port
queues for its head [20]; the end of an occurrence and its verdict [19 R376, R377]. -/

namespace Sys2Proof.Machine

/-! ### Access to the tables -/

/-- Furrow `f`. -/
def Dev.fu (d : Dev) (f : Nat) : Furrow := Tab.getD d.sw.furrows f {}

/-- Furrow `f` changed by `g`. -/
def Dev.onF (d : Dev) (f : Nat) (g : Furrow → Furrow) : Dev :=
  { d with sw := { d.sw with furrows := Tab.setD d.sw.furrows f {} (g (d.fu f)) } }

/-- Slot `k`. -/
def Dev.sl (d : Dev) (k : Nat) : Slot := Tab.getD d.sw.slots k {}

/-- Slot `k` changed by `g`. -/
def Dev.onS (d : Dev) (k : Nat) (g : Slot → Slot) : Dev :=
  { d with sw := { d.sw with slots := Tab.setD d.sw.slots k {} (g (d.sl k)) } }

/-- Plot `p`. -/
def Dev.pl (d : Dev) (p : Nat) : Plot := Tab.getD d.gr.plots p {}

/-- Plot `p` changed by `g`. -/
def Dev.onP (d : Dev) (p : Nat) (g : Plot → Plot) : Dev :=
  { d with gr := { d.gr with plots := Tab.setD d.gr.plots p {} (g (d.pl p)) } }

/-- The outputs of bank `b`. -/
def Dev.bo (d : Dev) (b : Nat) : BankOut := Tab.getD d.ld.banks b {}

/-- The outputs of bank `b` changed by `g`. -/
def Dev.onB (d : Dev) (b : Nat) (g : BankOut → BankOut) : Dev :=
  { d with ld := { d.ld with banks := Tab.setD d.ld.banks b {} (g (d.bo b)) } }

/-- Sink `c`. -/
def Dev.sink (d : Dev) (c : Nat) : Sink := Tab.getD d.ld.sinks c {}

/-- Sink `c` changed by `g`. -/
def Dev.onK (d : Dev) (c : Nat) (g : Sink → Sink) : Dev :=
  { d with ld := { d.ld with sinks := Tab.setD d.ld.sinks c {} (g (d.sink c)) } }

/-- Head port `p`. -/
def Dev.head (d : Dev) (p : Nat) : Head := Tab.getD d.hp p {}

/-- Head port `p` changed by `g`. -/
def Dev.onH (d : Dev) (p : Nat) (g : Head → Head) : Dev := { d with hp := Tab.setD d.hp p {} (g (d.head p)) }

/-- Encoder input `n`. -/
def Dev.enc (d : Dev) (n : Nat) : Enc := Tab.getD d.en n {}

/-- Encoder input `n` changed by `g`. -/
def Dev.onE (d : Dev) (n : Nat) (g : Enc → Enc) : Dev := { d with en := Tab.setD d.en n {} (g (d.enc n)) }

/-- `f` applied for every number of `l`, in order. -/
def forAll (l : List Nat) (f : Nat → Dev → Dev) (d : Dev) : Dev :=
  match l with
  | [] => d
  | n :: r => forAll r f (f n d)

/-- The slots for which `p` holds, in rising order. -/
def slotsIf (d : Dev) (p : Slot → Bool) : List Nat := (d.sw.slots.filter fun e => p e.2).map Prod.fst

/-- The slot is not FREE. -/
def Slot.busy (s : Slot) : Bool := decide (s.st ≠ .free)

/-- The armed slots of furrow `f`: those not FREE. -/
def slotsOf (d : Dev) (f : Nat) : List Nat := slotsIf d fun s => s.busy && decide (s.f = f)

/-- Slots not FREE, of 64. -/
def armedAll (d : Dev) : Nat := (slotsIf d Slot.busy).length

/-- What counts as an armed slot on the power ladder: the slots not FREE, and each bank in aiming mode [18 R360; 03 R49, R51]. -/
def armedLadder (d : Dev) : Nat := armedAll d + ((List.range 6).filter fun b => decide (d.r (F.LD_BSTAT_STATE b) = 2)).length

/-! ### Values last committed [01 R20; 16 R304; 18 R359] -/

/-- The committed value of a light-altering field: the old value while a new one is pending. -/
def Dev.cv (d : Dev) (f : Fld) : Nat := Tab.getD d.com f.key (d.r f)

/-- The committed bank of furrow `f`. -/
def fBank (d : Dev) (f : Nat) : Nat := d.cv (F.SWF_CFG_BANK f)

/-- The committed channel mask of furrow `f`. -/
def fMask (d : Dev) (f : Nat) : Nat := d.cv (F.SWF_CFG_MASK f)

/-- The pages of furrow `f`'s range [17 R333]. -/
def fRange (d : Dev) (f : Nat) : List Nat :=
  (List.range (d.cv (F.SWF_PAGE_PAGESM1 f) + 1)).map fun i => (d.cv (F.SWF_PAGE_PAGE0 f) + i) % 256

/-- EVERY of furrow `f`; below 1 000 for source time it acts as 1 000 [16 R305]. -/
def fEvery (d : Dev) (f : Nat) : Nat :=
  let e := d.r (F.SWF_EVERY_EVERY f)
  if d.r (F.SWF_CFG_SRC f) = 3 ∧ e ≠ 0 ∧ e < 1000 then 1000 else e

/-- AT of furrow `f`, 48 bits. -/
def fAt (d : Dev) (f : Nat) : Nat := d.r (F.SWF_ATL_AT f) + 2 ^ 32 * d.r (F.SWF_ATH_AT f)

/-- SLACK of furrow `f`; above 1 000 000 it acts as 1 000 000 [16 R305]. -/
def fSlack (d : Dev) (f : Nat) : Nat := min (d.r (F.SWF_SLACK_SLACK f)) 1000000

/-- DIST of furrow `f`: 0 mark, 1 compensate, 2 abort; 3 acts as mark [16 R305]. -/
def fDist (d : Dev) (f : Nat) : Nat := if d.r (F.SWF_CFG_DIST f) = 3 then 0 else d.r (F.SWF_CFG_DIST f)

/-- The head port of furrow `f`, if it uses one. -/
def fHead (d : Dev) (f : Nat) : Option Nat :=
  if d.b (F.SWF_CFG_HEADEN f) then some (d.r (F.SWF_CFG_HEAD f)) else none

/-- Port `p` is ON [20 Table HP-3]. -/
def portOn (d : Dev) (p : Nat) : Bool := decide (p < 6) && decide (d.r (F.HP_STAT_STATE p) = 2)

/-- Port `p` is ON as the Sower sees it: as it stood at the start of the present FCLK cycle [09 R457]. -/
def portSeen (d : Dev) (p : Nat) : Bool :=
  match (d.head p).was with
  | some (t, on, _) => if d.ties Dev.fclk t then on else portOn d p
  | none => portOn d p

/-- LAT of port `p` as the Sower sees it [09 R457]. -/
def latSeen (d : Dev) (p : Nat) : Nat :=
  match (d.head p).was with
  | some (t, _, l) => if d.ties Dev.fclk t then l else d.r (F.HP_LAT_LAT p)
  | none => d.r (F.HP_LAT_LAT p)

/-- Channel `c` is in service. -/
def chanIn (d : Dev) (c : Nat) : Bool := decide (d.r (F.LD_CHSTAT_STATE c) = 0)

/-- The channels of bank `b` named by the 8-bit mask `m`. -/
def chansOf (b m : Nat) : List Nat := ((List.range 8).filter fun j => bitAt m j).map fun j => 8 * b + j

/-- A tamper response holds light, trigger and ring outputs at their reset states [06 Table TP-2; 03 R62]. -/
def darkened (d : Dev) : Bool := decide (d.r F.SYS_BOOT_LSTATE = 5) || d.ck.silent

/-- The hold causes of furrow `f`, ST.HOLD: BANK, CHAN, HEAD, SEL, BUDGET, FORCE, SLOTS from bit 0 [16 R316]. -/
def holdBits (d : Dev) (f : Nat) : Nat :=
  let u := d.fu f
  let b := fBank d f
  bit (decide (d.r (F.LD_BSTAT_STATE b) = 1)) + 2 * bit ((chansOf b (fMask d f)).all fun c => !chanIn d c) +
    4 * bit (match fHead d f with | some p => !portSeen d p || u.headWait | none => false) +
    8 * bit ((fRange d f).any fun g => d.sp.out.contains ((Tab.getD d.gr.pte (256 * f + g) {}).sel, b) &&
      (Tab.getD d.gr.pte (256 * f + g) {}).v) +
    16 * bit u.budget + 32 * bit (d.sw.forcing.contains b) + 64 * bit u.slots

/-! ### Misses and deferrals [16 R313, R324] -/

/-- `f` counts saturate at 0xFFFF_FFFF. -/
def sat32 (n : Nat) : Nat := min n 0xFFFFFFFF

/-- Field `f` advances by `n` and saturates. -/
def Dev.addSat (d : Dev) (f : Fld) (n : Nat) : Dev := d.w f (min (d.r f + n) (2 ^ f.width - 1))

/-- `n` points of furrow `f` are missed with cause `c` (1 slack, 2 hold, 3 unlock): MISS, SW_MISS, SW_EV.MISS and one
Q1 record [16 R324, R325]. -/
def missAdd (f n c : Nat) (d : Dev) : Dev :=
  if n = 0 then d
  else
    let d := d.onF f fun u => { u with miss := sat32 (u.miss + n) }
    let d := (d.addSat F.SW_MISS_COUNT n).set F.SW_EV_MISS
    if d.b F.SW_QEN_MISS then evRecord Tag.sw c f (min n 0xFFFF) d else d

/-- Point `p` of furrow `f` counts as deferred, once per trigger point [16 R313]. -/
def deferPoint (f p : Nat) (d : Dev) : Dev :=
  if (d.fu f).deferred.contains p then d
  else
    (d.onF f fun u => { u with defer := sat32 (u.defer + 1), deferred := u.deferred ++ [p] }).addSat F.SW_DEFER_COUNT 1

/-! ### Headlands [01 R20, R21; 16 R322] -/

/-- The least distance in ns from now to the start of an ARMED or SET slot of bank `b`. -/
def nextStart (d : Dev) (b : Nat) : Option Int :=
  (d.sw.slots.filter fun e => decide ((e.2.st = .armed ∨ e.2.st = .set) ∧ e.2.bank = b)).foldl
    (fun m e => match m with
      | none => some (sd e.2.tfire d.tlt)
      | some x => some (min x (sd e.2.tfire d.tlt))) none

/-- An occurrence of bank `b` is FIRING. -/
def bankFiring (d : Dev) (b : Nat) : Bool := d.sw.slots.any fun e => decide (e.2.st = .firing ∧ e.2.bank = b)

/-- No occurrence fires on bank `b` and no aiming pulse drives it. -/
def bankDark (d : Dev) (b : Nat) : Bool := !bankFiring d b && (d.bo b).aim.isEmpty

/-- Bank `b` is in headland: after its last pulse end and before its next armed start less 2 µs [00 Glossary]. -/
def inHeadland (d : Dev) (b : Nat) : Bool :=
  bankDark d b && (match nextStart d b with | none => true | some x => decide (2000 < x))

/-- The time left of a bank's aiming gap: to the next period start, without setup [18 R360]. -/
def aimGapOk (d : Dev) (b : Nat) : Bool :=
  decide (d.r (F.LD_BSTAT_STATE b) ≠ 2) || decide (2000 ≤ 65536 - d.tlt % 65536)

/-- Bank `b` is in headland with at least 2 µs of it left [01 R20]. -/
def headlandOk (d : Dev) (b : Nat) : Bool :=
  bankDark d b && aimGapOk d b && (match nextStart d b with | none => true | some x => decide (4000 ≤ x))

/-- Bank `b` has pending changes. -/
def bankPend (d : Dev) (b : Nat) : Bool := d.sw.pend.any fun p => p.banks.contains b

/-- The members of channel `c`'s parallel group, by committed PGRP; values 5 to 7 act as 0 [18 R347]. -/
def groupOf (d : Dev) (c : Nat) : List Nat :=
  let g := d.cv (F.LD_CHCFG_PGRP c)
  if g = 0 ∨ 4 < g then [c]
  else (chansOf (c / 8) 0xFF).filter fun x => decide (d.cv (F.LD_CHCFG_PGRP x) = g)

/-- The committed aiming on-time of channel `c`: 1 to 99 acts as 100, above 63 536 as 63 536 [18 R360]. -/
def dutyOf (d : Dev) (c : Nat) : Nat :=
  let x := d.cv (F.LD_CHCFG_DUTY c)
  if x = 0 then 0 else min (max x 100) 63536

/-- The scan lines now asserted [18 R350]. -/
def assertedLines (d : Dev) : List Nat :=
  (List.range 8).filter fun r => d.ld.banks.any fun e => e.2.lines.contains r

/-- A committed value limited to a field's range [18 R359]. -/
def clampCv (d : Dev) (f : Fld) (lo hi : Nat) : Nat := min (max (d.cv f) lo) hi

/-- Bank `b` asserts scan line `r`; with another bank on a different line the overlap is recorded [18 R350]. -/
def assertLine (b r : Nat) (d : Dev) : Dev :=
  if (d.bo b).lines.contains r then d
  else
    let other := d.ld.banks.any fun e => decide (e.1 ≠ b) && e.2.lines.any (fun x => decide (x ≠ r))
    let d := if (assertedLines d).contains r then d
             else { d with ld := { d.ld with lineSince := Tab.put d.ld.lineSince r d.ns } }
    let d := d.onB b fun o => { o with lines := o.lines ++ [r] }
    if other then
      let d := (d.set F.LD_EV_XSCAN).inc F.LD_SCSTAT_XCNT
      if bitAt (d.r F.LD_QEN_CAUSE) 4 then
        evRecord Tag.ld 5 r ((d.ld.banks.filter fun e => !e.2.lines.isEmpty).foldl (fun m e => m + 2 ^ e.1) 0) d
      else d
    else d

/-- Bank `b` releases line `r` at model time `t`. -/
def releaseLine (b r t : Nat) (d : Dev) : Dev :=
  d.onB b fun o => { o with lines := o.lines.filter (· ≠ r), released := some (r, t) }

/-- Bank `b`'s aiming line follows ASCANEN, ASCAN and the AIM state [18 R360]. -/
def aimLine (b : Nat) (d : Dev) : Dev :=
  let r := d.cv (F.LD_BSCN_ASCAN b)
  if d.r (F.LD_BSTAT_STATE b) = 2 ∧ d.cv (F.LD_BSCN_ASCANEN b) = 1 ∧ darkened d = false then
    assertLine b r (forAll ((d.bo b).lines.filter (· ≠ r)) (fun x d => releaseLine b x d.ns d) d)
  else if bankFiring d b then d
  else forAll (d.bo b).lines (fun x d => releaseLine b x d.ns d) d

/-- Bank `b` in service is in aiming mode while a channel of it has a committed DUTY above 0 [18 R360]. -/
def aimRefresh (b : Nat) (d : Dev) : Dev :=
  let d := if d.r (F.LD_BSTAT_STATE b) = 1 then d
           else d.w (F.LD_BSTAT_STATE b) (if (chansOf b 0xFF).any fun c => dutyOf d c ≠ 0 then 2 else 0)
  aimLine b d

/-- SAG in percent: below 50 it acts as 50, above 99 as 99 [19 R370]. -/
def sagOf (d : Dev) (b : Nat) : Nat := clampCv d (F.BD_BCFG_SAG b) 50 99

/-- VTH = floor(VREF × SAG / 100) [19 R370]; the values 6 and 7 of CFG.BANK name no bank. -/
def vthRefresh (b : Nat) (d : Dev) : Dev :=
  if b < 6 then d.w (F.BD_BSAG_VTH b) (d.r (F.BD_BSAG_VREF b) * sagOf d b / 100) else d

/-- Sink `c` goes off at model time `t`; what it drove counts in the present ACLK tick. -/
def sinkOff (c t : Nat) (d : Dev) : Dev :=
  d.onK c fun k => { k with code := 0, since := t, acc := k.acc + k.code * (t - k.since) }

/-- Sink `c` drives `code` from model time `t` on. -/
def sinkOn (c code t : Nat) (d : Dev) : Dev :=
  (sinkOff c t d).onK c fun k => { k with code := code, since := t }

/-- USE: a slot in SET or FIRING reads plot `p` [17 Table GR-1]. -/
def useOf (d : Dev) (p : Nat) : Bool :=
  d.sw.slots.any fun e => decide (e.2.st = .set ∨ e.2.st = .firing) && e.2.plots.contains p

/-- The pending change `c` is discarded; a bank that nothing waits for any more has no wait to force. -/
def dropPend (c : Change) (d : Dev) : Dev :=
  if d.sw.pend.any fun x => decide (x.change = c) then
    let pend := d.sw.pend.filter fun x => decide (x.change ≠ c)
    { d with sw := { d.sw with pend := pend, waitSince := d.sw.waitSince.filter fun e => pend.any fun x => x.banks.contains e.1 } }
  else d

/-- A release of plot `p` that waits for a headland has nothing left to release: the page it was for is gone. -/
def dropRelease (p : Nat) (d : Dev) : Dev := dropPend (.release p) d

/-- Plot `p` is released: it holds no page [17 R334]. -/
def freePlot (p : Nat) (d : Dev) : Dev := dropRelease p (d.onP p fun x => { stamp := x.stamp })

/-- A later write of the field under `key` still waits. -/
def laterWaits (d : Dev) (key : Nat) : Bool :=
  d.sw.pend.any fun p => match p.change with | .fields l => l.any fun e => decide (e.1 = key) | _ => false

/-- The field under a key takes the value that a write gave it: its committed value stands apart from the one last written while a later write
waits [01 R20]. -/
def commitField (e : Nat × Nat) (d : Dev) : Dev :=
  { d with com := if laterWaits d e.1 then Tab.put d.com e.1 e.2 else Tab.erase d.com e.1 }

/-- A pending change takes effect [01 R20]. -/
def applyChange (c : Change) (d : Dev) : Dev :=
  match c with
  | .fields l => l.foldl (fun d e => commitField e d) d
  | .chanOn c => forAll (groupOf d c) (fun x d => d.w (F.LD_CHSTAT_STATE x) 0) d
  | .chanOff c => if chanIn d c then sinkOff c d.ns (d.w (F.LD_CHSTAT_STATE c) 1) else d
  | .bankOn b =>
    if d.r (F.LD_BSTAT_STATE b) = 1 then
      ((d.w (F.LD_BSTAT_STATE b) 0).onB b fun o => { o with sensed := true }).w (F.BD_BSAG_NOREF b) 1
    else d
  | .bankOff b =>
    if d.r (F.LD_BSTAT_STATE b) = 1 then d
    else (d.w (F.LD_BSTAT_STATE b) 1).w (F.LD_BSTAT_FCAUSE b) 1
  | .release p =>
    let d := freePlot p d
    { d with gr := { d.gr with places := d.gr.places.filter fun x => decide (x.plot ≠ p) } }
  | .headBack f =>
    match fHead d f with
    | some p => if portOn d p then d.onF f fun u => { u with headWait := false } else d
    | none => d.onF f fun u => { u with headWait := false }
  | .selBack n b =>
    if d.b (F.SP_SEL_GEN n) then { d with sp := { d.sp with out := d.sp.out.filter fun x => decide (x ≠ (n, b)) } } else d

/-- The pending changes all of whose banks are in a headland of at least 2 µs take effect together, in the order they
were written [01 R20]. -/
def commitReady (l : List Pending) (d : Dev) : Dev :=
  match l with
  | [] => d
  | p :: r => commitReady r (applyChange p.change d)

/-- Every listed furrow changed by `g`. -/
def mapFurrows (g : Nat → Furrow → Furrow) (d : Dev) : Dev :=
  let l := d.sw.furrows.map (fun e => (e.1, g e.1 e.2))
  { d with sw := { d.sw with furrows := l.filter (fun e => decide (e.2 ≠ {})) } }

/-- A forced headland has opened on bank `b`: FORCE clears, SW_FHLb counts it, SW_EV.FHL is set [16 R316, R322]. -/
def forcedDone (b : Nat) (d : Dev) : Dev :=
  if d.sw.forcing.contains b then
    let d := { d with sw := { d.sw with forcing := d.sw.forcing.filter (· ≠ b) } }
    let d := (d.inc (F.SW_FHL_COUNT b)).set F.SW_EV_FHL
    if d.b F.SW_QEN_FHL then evRecord Tag.sw 0x21 b (d.r (F.SW_FHL_COUNT b)) d else d
  else d

/-- A pending change can take effect: all of its banks are in a headland of at least 2 µs, and no SET or FIRING slot reads a plot to be released
[01 R20; 17 Collisions]. -/
def canCommit (d : Dev) (p : Pending) : Bool :=
  p.banks.all (headlandOk d) && (match p.change with | .release n => !useOf d n | _ => true)

/-- The commit at the start of a headland of bank `b` of at least 2 µs; a bank whose changes wait for another one too begins its wait anew
[01 R20, R21]. -/
def commitBank (b : Nat) (d : Dev) : Dev :=
  if headlandOk d b then
    let ready := d.sw.pend.filter fun p => p.banks.contains b && canCommit d p
    let d := { d with sw := { d.sw with pend := d.sw.pend.filter fun p => !(p.banks.contains b && canCommit d p) } }
    let d := commitReady ready d
    let d := vthRefresh b (aimRefresh b d)
    let d := if (d.bo b).short then d.onB b fun o => { o with short := false } else d
    let d := if (Tab.get? d.sw.waitSince b).isNone then d
             else { d with sw := { d.sw with waitSince := if bankPend d b then Tab.put d.sw.waitSince b d.ns else Tab.erase d.sw.waitSince b } }
    forcedDone b d
  else d

/-- An occurrence of bank `b` starts: where the gap before it was a headland of at least 2 µs, the wait of what is pending begins anew [01 R21]. -/
def gapEnds (b : Nat) (d : Dev) : Dev :=
  let d := if (d.bo b).short ∨ (Tab.get? d.sw.waitSince b).isNone then d
           else { d with sw := { d.sw with waitSince := Tab.put d.sw.waitSince b d.ns } }
  if bankPend d b then d.onB b fun o => { o with short := true } else d

/-- A change for the headlands of `banks` arrives: it commits at once where at least 2 µs of headland remain on each,
and waits otherwise [01 R20]. -/
def addChange (banks : List Nat) (c : Change) (d : Dev) : Dev :=
  let d := { d with sw := { d.sw with pend := d.sw.pend ++ [⟨banks, c⟩] } }
  let d := forAll banks (fun b d =>
    let d := if headlandOk d b ∨ (d.bo b).short then d else d.onB b fun o => { o with short := true }
    if (Tab.get? d.sw.waitSince b).isSome then d
    else { d with sw := { d.sw with waitSince := Tab.put d.sw.waitSince b d.ns } }) d
  forAll banks commitBank d

/-- The light-altering fields `l` are written together: their new values wait for the headlands of `banks`, and the committed values stand
meanwhile [01 R20; 18 R359]. -/
def writeLights (banks : List Nat) (l : List (Fld × Nat)) (d : Dev) : Dev :=
  let new := (l.map fun e => (e.1, e.2 % 2 ^ e.1.width)).filter fun e => decide (e.2 ≠ d.r e.1) || (Tab.get? d.com e.1.key).isSome
  if new.isEmpty then d
  else
    let d := new.foldl (fun d e =>
      (if (Tab.get? d.com e.1.key).isSome then d else { d with com := Tab.put d.com e.1.key (d.r e.1) }).w e.1 e.2) d
    addChange banks (.fields (new.map fun e => (e.1.key, e.2))) d

/-- One light-altering field is written. -/
def writeLight (banks : List Nat) (f : Fld) (v : Nat) (d : Dev) : Dev := writeLights banks [(f, v)] d

/-! ### What a port queues for its head [20 R389] -/

/-- The frame number of a fire time [19 R373]. -/
def frameOf (tfire : Nat) : Nat := tfire / 1000 % 2 ^ 32

/-- The ARMN `x` has not left by its trigger's assertion, in the same PCLK cycle too [20 R389, Collisions]. -/
def Notice.stale (d : Dev) (x : Notice) : Bool := !x.disarm && decide (d.pclk (d.nsOf x.trig) ≤ d.pclk d.ns)

/-- The stale ARMN messages of port `p` are discarded and counted [20 R389]. -/
def dropStale (p : Nat) (d : Dev) : Dev :=
  let n := ((d.head p).notices.filter (Notice.stale d)).length
  if n = 0 then d
  else (d.onH p fun h => { h with notices := h.notices.filter fun x => !x.stale d }).addSat (F.HP_CNT_ASTALE p) n

/-- An ARMN is queued; at eight the oldest ARMN is discarded and counted [20 R389]. -/
def queueArmn (p k tfire trig : Nat) (d : Dev) : Dev :=
  let d := dropStale p d
  if d.b (F.HP_CTL_ARMEN p) && portOn d p then
    let n : Notice := ⟨false, frameOf tfire % 65536, k, trig⟩
    let q := (d.head p).notices
    if q.length < 8 then d.onH p fun h => { h with notices := h.notices ++ [n] }
    else (d.onH p fun h => { h with notices := (h.notices.eraseP fun x => !x.disarm) ++ [n] }).inc (F.HP_CNT_ASTALE p)
  else d

/-- A DISARM is queued, or removes its ARMN where that is still queued [20 R389]. -/
def queueDisarm (p k tfire : Nat) (d : Dev) : Dev :=
  let d := dropStale p d
  if d.b (F.HP_CTL_ARMEN p) && portOn d p then
    let mine : Notice → Bool := fun x => !x.disarm && decide (x.slot = k)
    if (d.head p).notices.any mine then d.onH p fun h => { h with notices := h.notices.eraseP mine }
    else if (d.head p).notices.length < 8 then
      d.onH p fun h => { h with notices := h.notices ++ [⟨true, frameOf tfire % 65536, k, 0⟩] }
    else (d.onH p fun h => { h with notices := (h.notices.eraseP fun x => !x.disarm) ++
        [⟨true, frameOf tfire % 65536, k, 0⟩] }).inc (F.HP_CNT_ASTALE p)
  else d

/-- A TAINT message is queued while the port is ON; with four queued it is lost and counted [20 R389, R398]. -/
def queueTaint (p : Nat) (payload : List Nat) (d : Dev) : Dev :=
  if portOn d p then
    if (d.head p).taints.length < 4 then d.onH p fun h => { h with taints := h.taints ++ [payload] }
    else d.inc (F.HP_CNT_TLOST p)
  else d

/-- The TAINT payload of a slot with verdict code `v` [20 Table HP-2]. -/
def taintPayload (s : Slot) (v : Nat) : List Nat :=
  leBytes 4 (frameOf s.tfire) ++ [v + 4 * bit s.sag + 8 * bit s.burst + 16 * bit s.ring + 32 * bit s.followed, s.bank]

/-! ### Withdrawal and the freeing of slots [16 R307, R319] -/

/-- Furrow `f` holds no armed slot any more: it goes to FALLOW where an OFF waits or its single occurrence is done, else
to HELD or READY [16 Table SW-2, R308, R310]; entering FALLOW clears its KEEP [17 R340], and it needs
no page any more [17 R336]. -/
def furrowFreed (f : Nat) (d : Dev) : Dev :=
  let u := d.fu f
  if (slotsOf d f).isEmpty ∧ (u.state = .ready ∨ u.state = .sown ∨ u.state = .held) then
    if u.offp ∨ (fEvery d f = 0 ∧ u.more = false) then
      let d := d.onF f fun u => { u with state := .fallow, offp := false, needs := [] }
      { d with gr := { d.gr with plots := d.gr.plots.map fun e =>
          if e.2.f = f ∧ e.2.st ≠ .free then (e.1, { e.2 with keep := false, rsv := false }) else e } }
    else d.onF f fun u => { u with state := if holdBits d f ≠ 0 then .held else .ready }
  else d

/-- Slot `k` becomes FREE; its furrow and the bank's headland follow. -/
def freeSlot (k : Nat) (d : Dev) : Dev :=
  let s := d.sl k
  commitBank s.bank (furrowFreed s.f (d.onS k fun _ => {}))

/-- NEXT returns to the trigger point of a withdrawn occurrence if that point is before NEXT [16 R307]. -/
def nextReturns (f p : Nat) (d : Dev) : Dev :=
  d.onF f fun u =>
    if u.more = false ∨ aheadOf u.next p then { u with next := p, more := true, wasAhead := true } else u

/-- A driven trigger whose TRG step has not been delivered [20 R397]. -/
def undelivered (s : Slot) : List (Nat × Nat) :=
  s.trigs.filter fun x => decide (s.step < x.1) || (decide (x.1 = s.step) && !s.pulse)

/-- NO_LIGHT_TAINT: a trigger was driven for a TRG step that delivers no light: a TAINT with verdict 3, HPn_STAT.NOLIGHT
and a record; an occurrence with a verdict sends that verdict instead [20 R397]. -/
def noLight (s : Slot) (d : Dev) : Dev :=
  match fHead d s.f with
  | none => d
  | some p =>
    match undelivered s with
    | [] => d
    | (_, t) :: _ =>
      let d := d.set (F.HP_STAT_NOLIGHT p)
      let d := if s.verdict.isNone then queueTaint p (taintPayload s 3) d else d
      if bitAt (d.r F.HP_QEN_CAUSE) 4 then
        evRecordAt Tag.hp 5 p ((d.tlt + tltMod - (d.ns - t) % tltMod) % tltMod) s.f d
      else d

/-- An armed or set slot is withdrawn: freed before firing, counted in SW_WDRAW, its point given back to NEXT, its ARMN
withdrawn [16 R319; 20 R389, R397]. `def` says that it counts as deferred. -/
def withdraw (counts : Bool) (k : Nat) (d : Dev) : Dev :=
  let s := d.sl k
  let d := (d.addSat F.SW_WDRAW_COUNT 1).set F.DR_EV_WDRAW
  let d := if counts then deferPoint s.f s.pos d else d
  let d := nextReturns s.f s.pos d
  let d := match fHead d s.f with | some p => queueDisarm p k s.tfire d | none => d
  let d := noLight s d
  freeSlot k d

/-- Point `p` of furrow `f` has its final outcome: its deferral is counted no more [16 R324]. -/
def pointDone (f p : Nat) (d : Dev) : Dev := d.onF f fun u => { u with deferred := u.deferred.filter (fun x => x ≠ p) }

/-- A slot is freed unfired as a miss with cause `c` [16 R320, R321; 17 R339]; at its set moment, which is cause 1, its head gets a DISARM [20 R389]. -/
def missSlot (c k : Nat) (d : Dev) : Dev :=
  let s := d.sl k
  let d := pointDone s.f s.pos (missAdd s.f 1 c d)
  let d := match fHead d s.f with | some p => if c = 1 then queueDisarm p k s.tfire d else d | none => d
  let d := noLight s d
  freeSlot k d

/-- SLOT_WITHDRAWAL: a reversal or stop of position source `src`: every ARMED or SET slot bound to it at least 200 ns
from its fire time is withdrawn; a nearer one fires, flagged REV, and raises the REV cause [16 R319]. -/
def withdrawSource (src : Nat) (d : Dev) : Dev :=
  let mine := slotsIf d fun s => decide ((s.st = .armed ∨ s.st = .set) ∧ d.r (F.SWF_CFG_SRC s.f) = src)
  forAll mine (fun k d =>
    let s := d.sl k
    if s.busy = false then d
    else if 200 ≤ sd s.tfire d.tlt then withdraw false k d
    else
      let d := (d.onS k fun s => { s with rev := true }).set F.SW_EV_REV
      if d.b F.SW_QEN_REV then evRecord Tag.sw 0x20 s.f (sd s.tfire d.tlt).toNat d else d) d

/-! ### The charge ledger [19 R363-R365] -/

/-- The ledger of bank `b`: 32 windows. -/
def ledgerOf (d : Dev) (b : Nat) : List Rat := Tab.getD d.bd.ledger b (List.replicate 32 0)

/-- The place in the ledger of the window of TLT `t`. -/
def winIdx (d : Dev) (t : Nat) : Nat := min 31 ((15 + Int.fdiv (sd t (d.bd.wNow * 100000 % tltMod)) 100000).toNat)

/-- `q` nC are added to the window of TLT `t` on bank `b`, unless the ledger has dropped that window. -/
def book (b t : Nat) (q : Rat) (d : Dev) : Dev :=
  if q = 0 ∨ 15 + Int.fdiv (sd t (d.bd.wNow * 100000 % tltMod)) 100000 < 0 then d
  else
    let l := (ledgerOf d b).modify (winIdx d t) (fun x => x + q)
    { d with bd := { d.bd with ledger := Tab.setD d.bd.ledger b (List.replicate 32 0) l } }

/-- The sum of the 16 windows from place `i` on. -/
def spanSum (l : List Rat) (i : Nat) : Rat := ((l.drop i).take 16).foldl (· + ·) 0

/-- S_max: the largest span sum over the spans that contain the window of `t` [19 R365]. -/
def sMax (d : Dev) (b t : Nat) : Rat :=
  let i := winIdx d t
  ((List.range 17).filter fun s => decide (s ≤ i ∧ i < s + 16)).foldl (fun m s => max m (spanSum (ledgerOf d b) s)) 0

/-- The bank's limit in nC; QLIM 0 acts as 1 [19 R363, Table BD-5]. -/
def limitOf (d : Dev) (b : Nat) : Rat := 1000 * (max (d.cv (F.BD_BCFG_QLIM b)) 1 : Nat)

/-- The room in nC for a booking in the window of `t` [19 R365]. -/
def roomOf (d : Dev) (b t : Nat) : Rat := limitOf d b - sMax d b t

/-- An exact value shown in whole units: its floor, or one more where the spec leaves the rounding open. -/
def shown (x : Rat) : Int := if (x.floor : Rat) = x then x.floor else x.floor + (if Config.roundsUp x then 1 else 0)

/-! ### The pulse of an occurrence and its end -/

/-- The charge in nC of `code` driven for `t` ns: 50 µA per code [19 R364]. -/
def sinkCharge (code t : Nat) : Rat := (code * t : Nat) / (20000 : Rat)

/-- The charge in nC of a booster code for `t` ns; BRS 0 leaves it unbooked [19 R364]. -/
def boostCharge (d : Dev) (b code t : Nat) : Rat :=
  let brs := d.r (F.BD_BBRS_BRS b)
  if brs = 0 then 0 else (code * t : Nat) / (2 * brs : Rat)

/-- A sink of the pulse of slot `k` goes off at model time `t`, its charge delivered. -/
def pulseSinkOff (k t c : Nat) (d : Dev) : Dev :=
  let code := (d.sink c).code
  if code = 0 then d
  else sinkOff c t (d.onS k fun s => { s with deliv := s.deliv + sinkCharge code (t - s.start) })

/-- The booster of bank `b` is gated low at model time `t`. -/
def boostOff (k b t : Nat) (d : Dev) : Dev :=
  let code := (d.bo b).boost
  if code = 0 then d
  else (d.onS k fun s => { s with deliv := s.deliv + boostCharge d b code (t - s.start) }).onB b fun o => { o with boost := 0 }

/-- The open exposure check of slot `k` gets the end of its window. -/
def closeCheck (k t : Nat) (c : Check) : Check := if c.slot = k ∧ c.stop.isNone then { c with stop := some t } else c

/-- The pulse of slot `k` ends at model time `t`: sinks and booster off, and its exposure window closes [18 R348; 20
R384]. -/
def pulseStop (k t : Nat) (d : Dev) : Dev :=
  let s := d.sl k
  let d := boostOff k s.bank t (forAll (chansOf s.bank 0xFF) (pulseSinkOff k t) d)
  let d := d.w (F.LD_BSTAT_LIT s.bank) 0
  let d := match fHead d s.f with
    | some p => d.onH p fun h => { h with checks := h.checks.map (closeCheck k (t + d.r (F.HP_XCFG_XDLY p))) }
    | none => d
  d.onS k fun s => { s with pulse := false, step := s.step + 1, last := some (s.start, t) }

/-- BOOKING_UPDATE: at the occurrence's end its booking becomes the larger of booked and delivered charge [19 R364]. -/
def bookingUpdate (s : Slot) (d : Dev) : Dev :=
  if s.q < s.deliv then
    let d := (book s.bank s.tfire (s.deliv - s.q) d).set F.BD_EV_QOVER
    if bitAt (d.r F.BD_QEN_CAUSE) 3 then
      evRecordAt Tag.bd 4 s.f s.tfire (min 65535 (shown ((s.deliv - s.q) / 1000)).toNat) d
    else d
  else d

/-- The occurrence has met a cause. -/
def Slot.disturbed (s : Slot) : Bool := s.sag || s.burst || s.ring

/-- VERDICT: 0 marked, 1 compensated, 2 aborted; none where no cause was met [19 R376]. -/
def verdictOf (d : Dev) (s : Slot) (early : Bool) : Option Nat :=
  if s.verdict.isSome then s.verdict
  else if s.disturbed = false then none
  else if early then some 2
  else if fDist d s.f ≠ 1 ∨ s.burst ∨ s.ring then some 0
  else some 1

/-- One TAINT cell is queued for the ring; with eight queued it is lost and counted [21 R419]. -/
def ringTaint (s : Slot) (v : Nat) (d : Dev) : Dev :=
  if d.r F.SR_STAT_STATE = 2 then
    if d.sr.taints.length < 8 then
      { d with sr := { d.sr with taints := d.sr.taints ++ [⟨d.r F.SR_STAT_ADDR, 9,
        s.bank + 8 * v + 32 * bit s.sag + 64 * bit s.burst + 128 * bit s.ring, frameOf s.tfire⟩] } }
    else d.inc F.SR_CNT_TLOST
  else d

/-- TAINT_REPORT: a verdict goes to the pin engines, the head, the ring and Q1 [19 R377, R378]. -/
def taintReport (s : Slot) (v : Nat) (d : Dev) : Dev :=
  let d := peTaint (d.set F.BD_EV_TAINT)
  let d := match fHead d s.f with | some p => queueTaint p (taintPayload s v) d | none => d
  let d := if s.followed then d else ringTaint s v d
  if bitAt (d.r F.BD_QEN_CAUSE) 0 then
    evRecordAt Tag.bd 1 s.f s.tfire (s.bank + 8 * (match fHead d s.f with | some p => p | none => 7) + 64 * bit s.sag +
      128 * bit s.burst + 256 * bit s.ring + 512 * bit s.followed + 1024 * v) d
  else d

/-- OCCURRENCE_END: the occurrence of slot `k` ends at model time `t`; `early` for an end under R61, R323, R354, R374 or
R375. The lines are released, the verdict given and reported, the booking updated, the slot freed [17 R331; 18 R349;
19 R364, R376]. -/
def occEnd (early : Bool) (k t : Nat) (d : Dev) : Dev :=
  let d := if (d.sl k).pulse then pulseStop k t d else d
  let s := d.sl k
  let d := forAll (d.bo s.bank).lines (fun r d => releaseLine s.bank r t d) d
  let new := s.verdict.isNone
  let s := { s with verdict := verdictOf d s early }
  let d := bookingUpdate s d
  let d := match s.verdict with
    | some v => if new then taintReport s v d else d
    | none => d
  let d := noLight s d
  freeSlot k d

/-- An occurrence is ended as R61 ends one, counting in BD_EV.ABORT and BD_BCNT.ABORTS [19 R374]. -/
def abortOcc (k : Nat) (d : Dev) : Dev :=
  let s := d.sl k
  occEnd true k d.ns (((d.onB s.bank fun o => { o with cut := some (d.ns, k, s) }).set F.BD_EV_ABORT).inc (F.BD_BCNT_ABORTS s.bank))

end Sys2Proof.Machine
end

