-- ==== Sys2Proof/Machine/Otp.lean ====
section
/-! DEFINITION. The OTP array, its burn engine and its commands [05]. -/

namespace Sys2Proof.Machine

/-! ### The array [05 R89-R95]

The fuses A and B of a logical bit are not held apart: a bit is held as strong (margin-low reads it 1), weak or unburned, which is all that
any read or burn of the spec shows of the pair (log entry 86) [05 R89]. -/

/-- The OTP block under `g`. -/
def Dev.onOt (d : Dev) (g : Otp → Otp) : Dev := { d with ot := g d.ot }

/-- The job under way under `g`. -/
def Dev.onJob (d : Dev) (g : OtJob → OtJob) : Dev := d.onOt fun o => { o with job := o.job.map g }

/-- The lock word's place beside the 512 words. -/
def otLockWord : Nat := 512

/-- Word `w` at margin-low: the bits burned strongly [05 R96]. -/
def margl (d : Dev) (w : Nat) : Nat := (Tab.getD d.ot.fuses w (0, 0)).1

/-- Word `w` at margin-high: the bits burned at all. -/
def margh (d : Dev) (w : Nat) : Nat := (Tab.getD d.ot.fuses w (0, 0)).1 ||| (Tab.getD d.ot.fuses w (0, 0)).2

/-- The weak bits of word `w`. -/
def weakBits (d : Dev) (w : Nat) : Nat := margh d w &&& (0xFFFFFFFF ^^^ margl d w)

/-- Word `w` at normal reference; each weak bit reads a free value (log entry 10). -/
def normalRead (d : Dev) (w : Nat) : Nat × Dev :=
  if weakBits d w = 0 then (margl d w, d)
  else
    let (n, d) := d.draw
    (margl d w ||| (weakBits d w &&& (Config.weakSense n).toNat), d)

/-- A pulse leaves the bits `lo` of word `w` strong and the bits `hi` burned at least weakly. -/
def burnBits (w lo hi : Nat) (d : Dev) : Dev :=
  let s := margl d w ||| lo
  d.onOt fun o => { o with fuses := Tab.setD o.fuses w (0, 0) (s, (margh d w ||| lo ||| hi) &&& (0xFFFFFFFF ^^^ s)) }

/-- The shadow of word `w`. -/
def shadowOf (d : Dev) (w : Nat) : Nat := Tab.getD d.ot.shadow w 0

/-- OT_LOCK follows the lock word's shadow [05 R94]. -/
def shadowRegs (d : Dev) : Dev :=
  let l := shadowOf d otLockWord
  (d.w F.OT_LOCK_WLK (bitsAt l 0 8)).w F.OT_LOCK_XLK (bitsAt l 8 8)

/-- Word `w` is sensed into its shadow [05 R94]. -/
def resense (w : Nat) (d : Dev) : Dev :=
  let (v, d) := normalRead d w
  shadowRegs (d.onOt fun o => { o with shadow := Tab.setD o.shadow w 0 v })

/-- Every word is sensed into its shadow, and the serial is loaded, which reads 0 while SYS_BOOT.SNSERR is 1 [05 R94; 09 R187]. -/
def senseAll (d : Dev) : Dev :=
  let d := shadowRegs (forAll (d.ot.fuses.map Prod.fst) resense d)
  if d.b F.SYS_BOOT_SNSERR then d else (d.w F.SYS_SERL_SER (shadowOf d 0)).w F.SYS_SERH_SER (shadowOf d 1)

/-- WLK of region `n` is burned. -/
def wlk (d : Dev) (n : Nat) : Bool := bitAt (d.r F.OT_LOCK_WLK) n

/-- Region `n` reads 0: region 3, and one with its XLK burned [05 R92, R93]. -/
def readsZero (d : Dev) (n : Nat) : Bool := decide (n = 3) || bitAt (d.r F.OT_LOCK_XLK) n

/-- What a shadow read of word `w` returns [05 R92, R93, R95]. -/
def shadowRead (d : Dev) (w : Nat) : Nat := if w < otLockWord ∧ readsZero d (w / 64) then 0 else shadowOf d w

/-- Word `w` is reserved in Table OT-2. -/
def otReserved (w : Nat) : Bool :=
  decide ((3 ≤ w ∧ w ≤ 7) ∨ (16 ≤ w ∧ w ≤ 63) ∨ (169 ≤ w ∧ w ≤ 191) ∨ (200 ≤ w ∧ w ≤ 255) ∨ (281 ≤ w ∧ w ≤ 319)
    ∨ (321 ≤ w ∧ w ≤ 323) ∨ 512 ≤ w)

/-- Word `w` is a bead word. -/
def otBead (w : Nat) : Bool := decide ((128 ≤ w ∧ w ≤ 168) ∨ w = 280)

/-- The reserved bits of word `w` that a BURN may name [05 R90]. -/
def otReservedBits (w : Nat) : Nat := if w = 2 then 0xFFFFFF00 else if w = 320 then 0x7FFFF000 else 0

/-! ### Bead counters [05 R105-R107] -/

/-- How many bits of `v` are 1. -/
def popCount (v : Nat) : Nat := ((List.range 32).filter fun i => bitAt v i).length

/-- The words of counter `c` and the beads in each (Table OT-5). -/
def ctrWords (c : Nat) : List (Nat × Nat) :=
  if c = 0 then (List.range 16).map fun i => (128 + i, 0xFFFFFFFF)
  else if c = 1 then (List.range 8).map fun i => (144 + i, 0xFFFFFFFF)
  else if c < 10 then [(152 + 2 * (c - 2), 0xFFFFFFFF), (153 + 2 * (c - 2), 0xFFFFFFFF)]
  else if c = 10 then [(168, 0xF)]
  else if c < 14 then [(280, 2 ^ (c - 11))]
  else []

/-- The security count of counter `c` [05 R106]. -/
def securityCount (d : Dev) (c : Nat) : Nat := ((ctrWords c).map fun x => popCount (margh d x.1 &&& x.2)).sum

/-- The beads of counter `c`. -/
def beadCount (c : Nat) : Nat := ((ctrWords c).map fun x => popCount x.2).sum

/-- The counter has no bead left at margin-high. -/
def ctrFull (d : Dev) (c : Nat) : Bool := decide (beadCount c ≤ securityCount d c)

/-- The display count of counter `c` over the words `xs`, each read at normal reference [05 R106]. -/
def displayCount (xs : List (Nat × Nat)) (d : Dev) : Nat × Dev :=
  match xs with
  | [] => (0, d)
  | x :: r =>
    let (v, d) := normalRead d x.1
    let (n, d) := displayCount r d
    (popCount (v &&& x.2) + n, d)

/-- Some bead of counter `c` is weak. -/
def ctrWeak (d : Dev) (c : Nat) : Bool := (ctrWords c).any fun x => decide (weakBits d x.1 &&& x.2 ≠ 0)

/-- The lowest bead of counter `c` that reads 0 at margin-high: its word and its bit. -/
def nextBead (d : Dev) (c : Nat) : Option (Nat × Nat) :=
  (ctrWords c).findSome? fun x =>
    ((List.range 32).find? fun i => bitAt x.2 i && !bitAt (margh d x.1) i).map fun i => (x.1, 2 ^ i)

/-- Some word of counter `c` holds a weak bit: what an increment looks at [05 R107]. -/
def ctrWordsWeak (d : Dev) (c : Nat) : Bool := (ctrWords c).any fun x => decide (weakBits d x.1 ≠ 0)

/-- The word burns of an increment, in order, weak bits first: a word's weak mask is the whole word's [05 R107]. -/
def incTasks (d : Dev) (c : Nat) : List (Nat × Nat) :=
  match nextBead d c with
  | none => []
  | some (w, b) =>
    let weak := ((ctrWords c).map fun x => (x.1, weakBits d x.1)).filter fun x => decide (x.2 ≠ 0 ∧ x.1 ≠ w)
    weak ++ [(w, weakBits d w ||| b)]

/-! ### Life cycle [05 Table OT-5; 06 R127, R128] -/

/-- The life-cycle state: 0 BLANK, 1 PERSO, 2 FIELD, 3 RETIRED. -/
def lifeCycle (d : Dev) : Nat := min (securityCount d 10) 3

/-- The life-cycle code of a state (Table KY-1). -/
def lifeCode (s : Nat) : Nat := 0xB0 + s

/-- The test root is effective [06 R110]. -/
def testRooted (d : Dev) : Bool := decide (lifeCycle d = 0) || d.b F.KY_LC_DBGEN

/-- The registers that follow the counts: KY_LC.CODE, TP_STAT.CFULL and KY_STAT.TESTROOT. -/
def countRegs (d : Dev) : Dev :=
  ((d.w F.KY_LC_CODE (lifeCode (lifeCycle d))).w F.TP_STAT_CFULL (bit (ctrFull d 1))).w F.KY_STAT_TESTROOT (bit (testRooted d))

/-- KY_LC.SEEDBAD is taken [06 R128]. -/
def seedBadRefresh (d : Dev) : Dev :=
  let used := ((List.range 8).any fun i => decide (margh d (192 + i) ≠ 0)) || decide (margh d otLockWord &&& 0x808 ≠ 0)
  d.w F.KY_LC_SEEDBAD (bit (decide (lifeCycle d = 0) && used))

/-! ### The burn window [05 R99, Table OT-4] -/

/-- OT_WIN.OK follows its conditions. -/
def winOk (d : Dev) : Dev := d.w F.OT_WIN_OK (bit (d.b F.OT_WIN_VPPOK && d.b F.OT_WIN_VINOK && d.b F.OT_WIN_TEMPOK))

/-- The window is met. -/
def windowMet (d : Dev) : Bool := d.b F.OT_WIN_OK

/-! ### The engine [05 R96, R101-R103] -/

/-- ERR codes of Table OT-6. -/
def OtErr.window : Nat := 1
def OtErr.locked : Nat := 2
def OtErr.verify : Nat := 3
def OtErr.denied : Nat := 4
def OtErr.abort : Nat := 5
def OtErr.full : Nat := 6
def OtErr.range : Nat := 7

/-- The job ends with error `e` and burns nothing more. -/
def otFail (e : Nat) (d : Dev) : Dev := d.onJob fun j => { j with err := e, tasks := [], cur := none }

/-- The word burns `ts` of the job are taken up: one that needs nothing new ends at once; the first that needs a pulse gets it, if the
window is met [05 R101]. -/
def otTasks (ts : List (Nat × Nat)) (d : Dev) : Dev :=
  match ts with
  | [] => d.onJob fun j => { j with tasks := [], cur := none }
  | (w, t) :: r =>
    let failing := t &&& (0xFFFFFFFF ^^^ margl d w)
    if failing = 0 then otTasks r (resense w (d.onJob fun j => { j with retries := some 0, fail := some 0 }))
    else if windowMet d then
      d.onJob fun j => { j with tasks := r, cur := some ⟨w, t, failing, 0, d.ns⟩, retries := some 0, fail := some 0 }
    else otFail OtErr.window d

/-- The issuer or the life cycle denies the job [05 R97]. Image code is the issuer of no increment of a counter of Table OT-5 and of no
lock; a counter number the table does not have is left to its RANGE check [05 R105]. -/
def otDenied (d : Dev) (q : OtReq) : Bool :=
  let burns := decide (q.code = 4 ∨ q.code = 5 ∨ q.code = 6 ∨ q.code = 8)
  decide (q.owner ≠ .latch) &&
    ((burns && decide (lifeCycle d = 3)) ||
      (decide (q.owner = .sw) && (decide (q.code = 8) || (decide (q.code = 6) && decide (ctrWords q.ctr ≠ [])))))

/-- A BURN or REBURN of `target` with the checks of burn_cmd [05 R101]. -/
def burnCmd (w target : Nat) (d : Dev) : Dev :=
  if w / 64 = 3 ∨ wlk d (w / 64) then otFail OtErr.locked (d.lockV Tag.ot 0x40002000)
  else if otReserved w ∨ otBead w then otFail OtErr.range d
  else if target &&& otReservedBits w ≠ 0 then otFail OtErr.range d
  else otTasks [(w, target)] d

/-- An increment of counter `c` [05 R107]. -/
def incCmd (c : Nat) (d : Dev) : Dev :=
  if ctrWords c = [] then otFail OtErr.range d
  else if ctrFull d c then otFail OtErr.full d
  else if windowMet d = false then otFail OtErr.window d
  else otTasks (incTasks d c) (d.onJob fun j => { j with weak := ctrWordsWeak d c })

/-- The RETIRED bead is burned: the next one, and at a second try bead 3 [06 Table KY-8]. -/
def retireBead (second : Bool) (d : Dev) : Dev :=
  if second then otTasks [(168, (weakBits d 168 &&& 0xF) ||| 8)] d else incCmd 10 d

/-- The job asked for runs to its first pulse or to its end [05 Table OT-3]. A READ reports a weak bit only of a region with its XLK
burned [05 R92, Table OT-10]. -/
def otRun (q : OtReq) (d : Dev) : Dev :=
  if otDenied d q then otFail OtErr.denied d
  else
    let readOut (v : Nat) (d : Dev) : Dev :=
      d.onJob fun j => { j with data := some (if readsZero d (q.word / 64) then 0 else v) }
    match q.code with
    | 0 => d
    | 1 =>
      let (v, d) := normalRead d q.word
      readOut v (d.onJob fun j => { j with weak := bitAt (d.r F.OT_LOCK_XLK) (q.word / 64) && decide (weakBits d q.word ≠ 0) })
    | 2 => readOut (margl d q.word) (d.onJob fun j => { j with weak := decide (weakBits d q.word ≠ 0) })
    | 3 => readOut (margh d q.word) (d.onJob fun j => { j with weak := decide (weakBits d q.word ≠ 0) })
    | 4 => burnCmd q.word q.data d
    | 5 => burnCmd q.word (weakBits d q.word) d
    | 6 => incCmd q.ctr d
    | 7 => if ctrWords q.ctr = [] then otFail OtErr.range d else d.onJob fun j => { j with weak := ctrWeak d q.ctr }
    | 8 => if q.data / 2 ^ 16 ≠ 0 then otFail OtErr.range d else otTasks [(otLockWord, q.data)] d
    | 9 => senseAll d
    | 16 =>
      let words := (List.range 8).zip q.seed |>.map fun x => (192 + x.1, x.2)
      otTasks (words ++ [(otLockWord, 0x808)] ++ incTasks d 10) d
    | 17 => retireBead false d
    | _ => otFail OtErr.range d

/-- The engine starts the job asked for. -/
def otBegin (q : OtReq) (d : Dev) : Dev :=
  otRun q ((d.onOt fun o => { o with job := some { req := q } }).set F.OT_STAT_BUSY)

/-- The pending-burn latch is served if the engine is idle and the window is met [05 R98; 06 R133]. -/
def latchServe (d : Dev) : Dev :=
  if d.b F.OT_WIN_PEND = false ∨ d.ot.job.isSome ∨ windowMet d = false then d
  else if ctrFull d 1 then countRegs (d.clr F.OT_WIN_PEND)
  else otBegin { owner := .latch, code := 6, ctr := 1 } d

/-- A hardware request, or one of the ROM interpreter, starts now or waits for the engine, behind the pending-burn latch [05 R96, R98].
It leaves OT_CMD, OT_ADDR and OT_DATA alone but for a result (log entry 84). -/
def otAsk (q : OtReq) (d : Dev) : Dev :=
  let d := latchServe d
  if d.ot.job.isNone ∧ d.ot.wait = [] then otBegin q d else d.onOt fun o => { o with wait := o.wait ++ [q] }

/-- A write to OT_CMD, OT_ADDR or OT_DATA is lost while BUSY [05 R96]. -/
def otBusy (d : Dev) : Bool := d.b F.OT_STAT_BUSY

/-- A write of OT_CMD starts the command `code`; `rom` says that boot ROM code wrote it [05 R96, R97]. The pending-burn latch comes first,
and the command is then lost [05 R98]. -/
def otCommand (code : Nat) (rom : Bool) (d : Dev) : Dev :=
  let d := latchServe d
  if otBusy d then d.set F.OT_STAT_CMDLOST
  else
    otBegin ⟨if rom then .rom else .sw, code, d.r F.OT_ADDR_WORD, d.r F.OT_ADDR_CTR, d.r F.OT_DATA_DATA, []⟩ (d.w F.OT_CMD_CODE code)

/-- A word burn ends with its last verify: its shadow is sensed, and the job goes on, or ends [05 R101; 06 Table KY-8]. -/
def wordEnd (p : Pulse) (d : Dev) : Dev :=
  let d := resense p.word (d.onJob fun j => { j with cur := none, retries := some (p.tries - 1), fail := some p.failing })
  match d.ot.job with
  | none => d
  | some j =>
    if j.abort then otFail OtErr.abort d
    else if p.failing ≠ 0 then
      if j.req.code = 17 ∧ j.second = false then retireBead true (d.onJob fun j => { j with second := true })
      else otFail OtErr.verify d
    else otTasks j.tasks d

/-- The present pulse of the job. -/
def pulseNow (d : Dev) : Option Pulse := match d.ot.job with | some j => j.cur | none => none

/-- The pulse has been cut: no retry, ERR WINDOW [05 R100]. -/
def pulseCut (p : Pulse) (lo hi : Nat) (d : Dev) : Dev :=
  let d := burnBits p.word (lo &&& p.failing) (hi &&& p.failing) d
  let left := p.failing &&& (0xFFFFFFFF ^^^ margl d p.word)
  otFail OtErr.window (resense p.word (d.onJob fun j => { j with retries := some p.tries, fail := some left, cut := true }))

/-- A pulse whose window has been left is cut; what it leaves of its bits is free (log entry 10) [05 R100]. -/
def cutIfLeft (d : Dev) : Dev :=
  match pulseNow d with
  | none => d
  | some p =>
    if windowMet d then d
    else
      let (m, d) := d.draw
      let (n, d) := d.draw
      pulseCut p (Config.weakSense m).toNat (Config.weakSense n).toNat d

/-- The levels of VPP (bit 0) and VIN33 (bit 1) as their comparators give them [05 R99]. -/
def setWindow (v : Nat) (d : Dev) : Dev := cutIfLeft (winOk ((d.w F.OT_WIN_VPPOK (bit (bitAt v 0))).w F.OT_WIN_VINOK (bit (bitAt v 1))))

/-- TEMPOK follows the die temperature code: -20 to 85 °C at n / 4 - 64 °C [05 Table OT-4, R100; 19 R369]. -/
def tempWindow (code : Nat) (d : Dev) : Dev := cutIfLeft (winOk (d.w F.OT_WIN_TEMPOK (bit (decide (176 ≤ code) && decide (code ≤ 596)))))

/-- A read of OT_WIN finds the supplies as their comparators give them; no row carries that, so with no pulse under way each level is a
free value (log entry 69) [05 R99]. -/
def winSample (d : Dev) : Dev :=
  if (pulseNow d).isSome then d
  else
    let (n, d) := d.draw
    latchServe (setWindow (Config.supplies n).val d)

/-- BURN_PULSE_END: a pulse has lasted 50 µs; `lo` and `hi` are the bits its verify finds burned at margin-low and at
margin-high, `tie` says that the verify resolved in its deadline cycle [05 R101, R103]. -/
def burnPulseEnd (lo hi : Nat) (tie : Bool) (d : Dev) : Dev :=
  match pulseNow d with
  | none => d
  | some p =>
    if d.ns < p.start + 50000 then d
    else if windowMet d = false then pulseCut p lo hi d
    else
      let d := burnBits p.word (lo &&& p.failing) (hi &&& p.failing) d
      let d := if tie then (d.set F.OT_STAT_COIN).coin Tag.ot else d
      let q : Pulse := { p with failing := p.target &&& (0xFFFFFFFF ^^^ margl d p.word), tries := p.tries + 1, start := d.ns }
      let abort := match d.ot.job with | some j => j.abort | none => false
      if q.failing ≠ 0 ∧ q.tries < 5 ∧ abort = false then d.onJob fun j => { j with cur := some q }
      else wordEnd q d

/-- BURN_WINDOW_FALL: the conditions named by the bits of `w` (0 VPP, 1 VIN33, 2 temperature) fall; a pulse under way is cut, and
leaves its bits as `lo` and `hi` say [05 R100]. -/
def burnWindowFall (w lo hi : Nat) (d : Dev) : Dev :=
  let d := if bitAt w 0 then d.clr F.OT_WIN_VPPOK else d
  let d := if bitAt w 1 then d.clr F.OT_WIN_VINOK else d
  let d := if bitAt w 2 then d.clr F.OT_WIN_TEMPOK else d
  let d := winOk d
  match pulseNow d with
  | some p => if windowMet d then d else pulseCut p lo hi d
  | none => d

/-- The counts of a counter are written to OT_CNT [05 R106]. -/
def writeCounts (c : Nat) (d : Dev) : Dev :=
  let (n, d) := displayCount (ctrWords c) d
  (d.w F.OT_CNT_MH (securityCount d c)).w F.OT_CNT_NORM n

/-- What the end of the job `j` writes [05 R94, R96, R98]. An increment writes OT_CNT also where it ends FULL, WINDOW or VERIFY (log
entry 85). -/
def otFinish (j : OtJob) (d : Dev) : Dev :=
  let err := if j.abort ∧ j.req.owner ≠ .latch then OtErr.abort else j.err
  let d := match j.retries with | some n => d.w F.OT_STAT_RETRIES n | none => d
  let d := match j.fail with | some n => d.w F.OT_FAIL_BITS n | none => d
  let d := match j.data with | some n => if err = 0 then d.w F.OT_DATA_DATA n else d | none => d
  let d := if j.weak then d.set F.OT_STAT_WEAK else d
  let d := if j.req.code = 6 ∧ err = 0 then forAll ((ctrWords j.req.ctr).map Prod.fst) resense d else d
  let d := if (j.req.code = 6 ∨ j.req.code = 7) ∧ ctrWords j.req.ctr ≠ [] ∧ err ≠ OtErr.denied then writeCounts j.req.ctr d else d
  let d := (((d.w F.OT_STAT_ERR err).set F.OT_STAT_DONE).clr F.OT_STAT_BUSY)
  countRegs (d.onOt fun o => { o with job := none })

/-- The engine takes the next request that waits, unless the pending-burn latch comes first [05 R98]. -/
def otNext (d : Dev) : Dev :=
  if d.ot.job.isSome ∨ (d.b F.OT_WIN_PEND ∧ windowMet d) then d
  else
    match d.ot.wait with
    | [] => d
    | q :: r => otBegin q (d.onOt fun o => { o with wait := r })

/-- The pending-burn latch after its burn: set again by an onset that came during it [05 R98]. -/
def latchEnd (d : Dev) : Dev := (d.w F.OT_WIN_PEND (bit d.ot.again)).onOt fun o => { o with again := false }

/-- TAMPER_BEAD_BURN: with the engine idle and the window met the latch is served [05 R98; 06 R133]. -/
def tamperBeadBurn (win : Nat) (d : Dev) : Dev :=
  latchServe (setWindow win d)

/-- The pending interrupt of the block: a command completed [05 R96; 07 Table CO-5]. -/
def otPending (d : Dev) : Bool := d.b F.OT_STAT_DONE

/-- A reset stops a pulse: the bits it targeted are unburned, weak or sound, as free values say [05 Collisions; log entry 10]. -/
def otReset (d : Dev) : Dev :=
  match pulseNow d with
  | some p =>
    let (m, d) := d.draw
    let (n, d) := d.draw
    burnBits p.word (p.failing &&& (Config.weakSense m).toNat) (p.failing &&& (Config.weakSense n).toNat) d
  | none => d

end Sys2Proof.Machine
end

