-- ==== Sys2Proof/Machine/Keys.lean ====
section
/-! DEFINITION. The key engine, its commands, and the debug port [06 R110-R131]. -/

namespace Sys2Proof.Machine

/-! ### The TRNG, the key register and the buffer -/

/-- `n` bytes from the TRNG: free values (log entry 11). -/
def trng (n : Nat) (d : Dev) : List Nat × Dev :=
  match n with
  | 0 => ([], d)
  | n + 1 =>
    let (k, d) := d.draw
    let (r, d) := trng n d
    ((Config.trng k).toNat :: r, d)

/-- The keys block under `g`. -/
def Dev.onKy (d : Dev) (g : Keys → Keys) : Dev := { d with ky := g d.ky }

/-- Two byte strings added. -/
def xorBytes (a b : List Nat) : List Nat := List.zipWith (· ^^^ ·) a b

/-- The key that KREG holds. -/
def kregKey (d : Dev) : List Nat := xorBytes d.ky.kx d.ky.km

/-- KREG is full. -/
def kregFull (d : Dev) : Bool := d.b F.KY_STAT_KFULL

/-- KREG empties [06 R118]. -/
def kregClear (d : Dev) : Dev :=
  ((d.clr F.KY_STAT_KFULL).w F.KY_STAT_KATTR 0).onKy fun k => { k with kx := k.km }

/-- KREG fills with `key` and its attribute [06 R117]. -/
def kregFill (a : Nat) (key : List Nat) (d : Dev) : Dev :=
  ((d.set F.KY_STAT_KFULL).w F.KY_STAT_KATTR a).onKy fun k => { k with kx := xorBytes key k.km }

/-- The pair is discarded. -/
def pairDrop (d : Dev) : Dev := (d.clr F.KY_STAT_PAIR).onKy fun k => { k with pair := none, hand := false }

/-- A pair is loaded; `hand` says that it comes from its handle. -/
def pairLoad (s : Nat) (hand : Bool) (d : Dev) : Dev :=
  (d.set F.KY_STAT_PAIR).onKy fun k => { k with pair := some s, hand := hand }

/-- The bytes of KY_BUF. -/
def kyBuf (d : Dev) : List Nat := (List.range 64).flatMap fun i => leBytes 4 (d.r (F.KY_BUF_W i))

/-- KY_BUF takes the bytes `bs` at its start and keeps the rest. -/
def setKyBuf (bs : List Nat) (d : Dev) : Dev :=
  let all := bs ++ (kyBuf d).drop bs.length
  forAll (List.range 64) (fun i d => d.w (F.KY_BUF_W i) (le ((all.drop (4 * i)).take 4))) d

/-- KY_BUF is zeroed. -/
def zeroKyBuf (d : Dev) : Dev := forAll (List.range 64) (fun i d => d.w (F.KY_BUF_W i) 0) d

/-! ### Derivation [06 R110, R113-R115] -/

/-- ASCII bytes of a label. -/
def ascii (s : String) : List Nat := s.toList.map Char.toNat

/-- The test root [06 R110]. -/
def testRoot : List Nat := sha256 (ascii "Lanisum FD4806 test root")

/-- The bytes of OTP words `w` to `w + n - 1` as their shadows hold them. -/
def otpBytes (d : Dev) (w n : Nat) : List Nat := (List.range n).flatMap fun i => leBytes 4 (shadowOf d (w + i))

/-- The effective root [06 R110]. -/
def effectiveRoot (d : Dev) : List Nat := if testRooted d then testRoot else otpBytes d 192 8

/-- A path element: label, attribute, slot. -/
structure PathEl where
  label : List Nat
  attr : Nat
  slot : Nat
  deriving DecidableEq, Repr

/-- The derivation code of an attribute (Table KY-1). -/
def derivCode (a : Nat) : Nat := if a = 2 then 1 else a

/-- The KDF input of an element [06 Table KY-1], in life-cycle code `lc`. -/
def kdfInput (d : Dev) (lc : Nat) (e : PathEl) : List Nat :=
  [0, 0, 0, 1] ++ e.label ++ [0, derivCode e.attr, lc, e.slot]
    ++ beBytes 2 (if e.slot = 0xFF then 0 else securityCount d (2 + e.slot)) ++ [0, 0, 1, 0]

/-- The key at the end of a path, in life-cycle code `lc` [06 R113]. -/
def pathKeyIn (d : Dev) (lc : Nat) (p : List PathEl) : List Nat :=
  p.foldl (fun k e => hmac k (kdfInput d lc e)) (effectiveRoot d)

/-- The key at the end of a path. -/
def pathKey (d : Dev) (p : List PathEl) : List Nat := pathKeyIn d (lifeCode (lifeCycle d)) p

/-- The path "image" [06 Table KY-2]. -/
def imagePath : List PathEl := [⟨ascii "image", 2, 0⟩]

/-- The scalar rule [06 R115]. -/
def scalarOf (key : List Nat) : Nat :=
  let t (j : Nat) : List Nat := hmac key (beBytes 4 j ++ ascii "scalar" ++ [0, 0, 0, 1, 0x40])
  be ((t 1 ++ t 2).take 40) % (pN - 1) + 1

/-- The identity scalar IDK [06 R115]. -/
def idkScalar (d : Dev) : Nat := scalarOf (pathKey d [⟨ascii "idk", 4, 1⟩])

/-- The key that pairs derive from, and the key that wraps their handles [06 R124]. -/
def pairScalar (d : Dev) (s : List Nat) : Nat := scalarOf (hmac (pathKey d [⟨ascii "pairk", 4, 2⟩]) s)

/-- The key at path pairw. -/
def pairWrapKey (d : Dev) : List Nat := pathKey d [⟨ascii "pairw", 3, 2⟩]

/-- The reserved labels [06 Table KY-2]. -/
def reservedLabels : List (List Nat) := ["image", "idk", "pairw", "pairk", "escrow", "scalar"].map ascii

/-- Record `e` of KY_PATH. -/
def pathRecord (d : Dev) (e : Nat) : List Nat := (List.range 4).flatMap fun i => leBytes 4 (d.r (F.KY_PATH_W (4 * e + i)))

/-- The element that a record holds. -/
def recordEl (r : List Nat) : PathEl := ⟨(r.take 12).takeWhile (· ≠ 0), r.getD 12 0, r.getD 13 0⟩

/-- The elements of KY_PATH. -/
def pathEls (d : Dev) : List PathEl :=
  (((List.range 4).map (pathRecord d)).takeWhile fun r => r.headD 0 ≠ 0).map recordEl

/-- A label byte, a slot and a reserved label that R114 allows. -/
def elOk (e : PathEl) : Bool :=
  e.label.all (fun c => decide (0x21 ≤ c ∧ c ≤ 0x7E)) && decide (e.slot < 8 ∨ e.slot = 0xFF) && !reservedLabels.contains e.label

/-- The path in KY_PATH, if R114 accepts it with a last attribute among `attrs` (Table KY-3). -/
def customerPath (attrs : List Nat) (d : Dev) : Option (List PathEl) :=
  let p := pathEls d
  let ok := decide (p ≠ []) && p.all elOk && p.dropLast.all (fun e => decide (e.attr = 4))
    && (match p.getLast? with | some e => attrs.contains e.attr | none => false)
  if ok then some p else none

/-! ### Signers [04 R78] -/

/-- The key hash of signer slot `s`. -/
def signerHash (d : Dev) (s : Nat) : List Nat := otpBytes d (256 + 8 * s) 8

/-- Signer slot `s` is usable [04 R78]. -/
def signerUsable (d : Dev) (s : Nat) : Bool :=
  decide (s < 3) && (signerHash d s).any (fun b => decide (b ≠ 0)) && decide (securityCount d (11 + s) = 0)

/-- The public key belongs to a usable signer slot. -/
def signerOf (d : Dev) (pub : List Nat) : Option Nat :=
  (List.range 3).find? fun s => signerUsable d s && decide (sha256 pub = signerHash d s)

/-- The serial as 8 bytes [05 Table OT-2]. -/
def serialBytes (d : Dev) : List Nat := otpBytes d 0 2

/-! ### Commands [06 R120-R128] -/

/-- ERR codes of Table KY-12. -/
def KyErr.attr : Nat := 1
def KyErr.empty : Nat := 2
def KyErr.path : Nat := 3
def KyErr.trng : Nat := 4
def KyErr.denied : Nat := 5
def KyErr.abort : Nat := 6
def KyErr.auth : Nat := 7
def KyErr.state : Nat := 8
def KyErr.otp : Nat := 9
def KyErr.locked : Nat := 10

/-- The running command changes under `g`. -/
def Dev.onKj (d : Dev) (g : KyJob → KyJob) : Dev := d.onKy fun k => { k with job := k.job.map g }

/-- The command ends with error `e`. -/
def kyFail (e : Nat) (d : Dev) : Dev :=
  d.onKj fun j => { j with err := e, buf := none, fill := none, load := none, burns := false }

/-- The command will leave `bs` at the start of KY_BUF. -/
def kyOut (bs : List Nat) (d : Dev) : Dev := d.onKj fun j => { j with buf := some bs }

/-- A fill command while KREG is full [06 R117]. -/
def kyRefill (d : Dev) : Dev := kyFail KyErr.locked ((d.set F.KY_STAT_REFILL).lockV Tag.ky 0x40003000)

/-- DERIVE [06 R117]. -/
def kyDerive (d : Dev) : Dev :=
  if kregFull d then kyRefill d
  else
    match customerPath [1, 2] d with
    | none => kyFail KyErr.path d
    | some p => d.onKj fun j => { j with fill := some ((p.getLast?.map PathEl.attr).getD 0, pathKey d p) }

/-- UNWRAP [06 R123]. -/
def kyUnwrap (d : Dev) : Dev :=
  if kregFull d then kyRefill d
  else
    match customerPath [3] d with
    | none => kyFail KyErr.path d
    | some p =>
      let b := kyBuf d
      let a := b.headD 0
      let iv := (b.drop 1).take 12
      let ct := (b.drop 13).take 32
      let key := pathKey d p
      if ¬(a = 1 ∨ a = 2) then kyFail KyErr.attr d
      else if gcmTag key iv [a] ct ≠ (b.drop 45).take 16 then kyFail KyErr.auth d
      else d.onKj fun j => { j with fill := some (a, gcmText key iv ct) }

/-- A text encrypted with an IV from the TRNG: the IV, the ciphertext, the tag. -/
def gcmSeal (key aad text : List Nat) (d : Dev) : (List Nat × List Nat × List Nat) × Dev :=
  let (iv, d) := trng 12 d
  let ct := gcmText key iv text
  ((iv, ct, gcmTag key iv aad ct), d)

/-- WRAPKEY [06 R123]. -/
def kyWrapkey (d : Dev) : Dev :=
  match customerPath [3] d with
  | none => kyFail KyErr.path d
  | some p =>
    let b := kyBuf d
    let a := b.headD 0
    if ¬(a = 1 ∨ a = 2) then kyFail KyErr.attr d
    else if d.b F.KY_STAT_TRNGF then kyFail KyErr.trng d
    else
      let ((iv, ct, tag), d) := gcmSeal (pathKey d p) [a] ((b.drop 1).take 32) d
      kyOut ([a] ++ iv ++ ct ++ tag) d

/-- ENCRYPT and DECRYPT of the record of Table KY-5 [06 R122]. -/
def kyGcm (encrypts : Bool) (d : Dev) : Dev :=
  let b := kyBuf d
  let a := le ((b.drop 28).take 2)
  let n := le ((b.drop 30).take 2)
  let aad := (b.drop 32).take a
  let text := (b.drop (32 + a)).take n
  if kregFull d = false then kyFail KyErr.empty d
  else if d.r F.KY_STAT_KATTR ≠ (if encrypts then 1 else 2) then kyFail KyErr.attr d
  else if 224 < a + n then kyFail KyErr.path d
  else if encrypts then
    if d.b F.KY_STAT_TRNGF then kyFail KyErr.trng d
    else
      let ((iv, ct, tag), d) := gcmSeal (kregKey d) aad text d
      kyOut (iv ++ tag ++ (b.drop 28).take (4 + a) ++ ct) d
  else
    let iv := b.take 12
    if gcmTag (kregKey d) iv aad text ≠ (b.drop 12).take 16 then kyFail KyErr.auth d
    else kyOut (b.take (32 + a) ++ gcmText (kregKey d) iv text) d

/-- CLEAR [06 R118]. -/
def kyClear (d : Dev) : Dev := kregClear d

/-- GENPAIR [06 R124]. -/
def kyGenpair (d : Dev) : Dev :=
  if d.b F.KY_STAT_TRNGF then kyFail KyErr.trng d
  else
    let (s, d) := trng 32 d
    let ((iv, ct, tag), d) := gcmSeal (pairWrapKey d) (ascii "PAIR") s d
    let x := pairScalar d s
    (kyOut (iv ++ ct ++ tag ++ ((kyBuf d).drop 60).take 4 ++ ecPub x) d).onKj fun j => { j with load := some x }

/-- LOADPAIR [06 R124]: the public key stands where GENPAIR writes it (log entry 12). -/
def kyLoadpair (d : Dev) : Dev :=
  let b := kyBuf d
  let iv := b.take 12
  let ct := (b.drop 12).take 32
  let key := pairWrapKey d
  if gcmTag key iv (ascii "PAIR") ct ≠ (b.drop 44).take 16 then kyFail KyErr.auth d
  else
    let x := pairScalar d (gcmText key iv ct)
    (kyOut (b.take 64 ++ ecPub x) d).onKj fun j => { j with load := some x, hand := true }

/-- A signature by scalar `x` with a free nonce (log entry 11). -/
def signWith (x : Nat) (digest : List Nat) (d : Dev) : List Nat × Dev :=
  let (n, d) := d.draw
  (ecSign x (Config.nonce n).toNat digest, d)

/-- SIGN; without a pair it ends with EMPTY (log entry 12). -/
def kySign (d : Dev) : Dev :=
  match d.ky.pair with
  | none => kyFail KyErr.empty d
  | some x =>
    let (s, d) := signWith x ((kyBuf d).take 32) d
    kyOut s d

/-- The pair that an attestation states: one made by GENPAIR and loaded through its handle [06 R131]. -/
def statedPair (d : Dev) : Option Nat := if d.ky.hand then d.ky.pair else none

/-- The attestation message for a nonce [06 Table KY-10]. -/
def attestMessage (d : Dev) (nonce : List Nat) : List Nat :=
  ascii "FATT" ++ [0x43, 1, lifeCode (lifeCycle d),
    bit (testRooted d) + 2 * bit (d.b F.TP_STAT_DBG || d.b F.TP_STAT_XSTOP || d.b F.TP_STAT_TEMP || d.b F.TP_STAT_VGL
      || d.b F.TP_STAT_MESH || d.b F.TP_STAT_LOOP)]
    ++ serialBytes d ++ nonce ++ leBytes 2 (securityCount d 0) ++ leBytes 2 (securityCount d 1)
    ++ (List.range 8).map (fun s => securityCount d (2 + s))
    ++ [if (statedPair d).isSome then 3 else 0, 0, 0, 0] ++ ecPub (idkScalar d)
    ++ (match statedPair d with | some x => ecPub x | none => List.replicate 64 0)

/-- ATTEST [06 R131]. -/
def kyAttest (d : Dev) : Dev :=
  let m := attestMessage d ((kyBuf d).take 32)
  let (s, d) := signWith (idkScalar d) (sha256 m) d
  kyOut (m ++ s) d

/-- ESCROW [06 R125]. -/
def kyEscrow (d : Dev) : Dev :=
  let pub := (kyBuf d).take 64
  let lc := bitsAt (d.r F.KY_ARG_CONFIRM) 4 8
  let life := lifeCycle d
  match ecPoint pub with
  | none => kyFail KyErr.state d
  | some q =>
    if (signerOf d pub).isNone ∨ ¬(life = 1 ∨ life = 2) ∨ ¬(lc = lifeCode life ∨ lc = 0xB2) then kyFail KyErr.state d
    else if d.b F.KY_STAT_TRNGF then kyFail KyErr.trng d
    else
      let (eb, d) := trng 32 d
      let e := be eb % (pN - 1) + 1
      let z := (ecBytes (ecMul 256 (some q) e)).take 32
      let t := hmac z ([0, 0, 0, 1] ++ ascii "escrow" ++ [0] ++ serialBytes d ++ [lc, 0, 0, 1, 0])
      let ((iv, ct, tag), d) := gcmSeal t (serialBytes d ++ [lc]) (pathKeyIn d lc imagePath) d
      kyOut (ecPub e ++ iv ++ ct ++ tag) d

/-- KREG and the pair go before the first burn, and the burn is asked for [06 R126, R127]. -/
def kyBurn (q : OtReq) (d : Dev) : Dev := otAsk q ((pairDrop (kregClear d)).onKj fun j => { j with burns := true })

/-- INVAL [06 R126]. -/
def kyInval (d : Dev) : Dev := kyBurn { owner := .ky, code := 6, ctr := 2 + bitsAt (d.r F.KY_ARG_CONFIRM) 0 3 } d

/-- PERSO [06 Table KY-8, R128]. -/
def kyPerso (d : Dev) : Dev :=
  let blank := (List.range 8).all fun i => decide (margh d (192 + i) = 0)
  if lifeCycle d ≠ 0 ∨ d.b F.KY_LC_SEEDBAD ∨ blank = false ∨ margh d otLockWord &&& 0x808 ≠ 0 ∨ d.b F.KY_STAT_TRNGF then
    kyFail KyErr.state d
  else
    let (s, d) := trng 32 d
    kyBurn { owner := .ky, code := 16, seed := (pieces 4 8 s).map le } d

/-- FIELD [06 Table KY-8]. -/
def kyField (d : Dev) : Dev :=
  if lifeCycle d ≠ 1 ∨ margh d otLockWord &&& 3 ≠ 3 ∨ (List.range 3).all (fun s => !signerUsable d s) then kyFail KyErr.state d
  else kyBurn { owner := .ky, code := 6, ctr := 10 } d

/-- RETIRE [06 Table KY-8]. -/
def kyRetire (d : Dev) : Dev :=
  if lifeCycle d ≠ 2 ∨ d.r F.KY_ARG_CONFIRM ≠ shadowOf d 0 then kyFail KyErr.state d
  else kyBurn { owner := .ky, code := 17 } d

/-- What the command of each code does when it starts (Table KY-4). -/
def kyRun (code : Nat) (d : Dev) : Dev :=
  match code with
  | 0 => d
  | 1 => kyDerive d
  | 2 => kyUnwrap d
  | 3 => kyWrapkey d
  | 4 => kyGcm true d
  | 5 => kyGcm false d
  | 6 => kyClear d
  | 7 => kyGenpair d
  | 8 => kyLoadpair d
  | 9 => kySign d
  | 10 => kyAttest d
  | 11 => kyEscrow d
  | 12 => kyInval d
  | 13 => kyPerso d
  | 14 => kyField d
  | _ => kyRetire d

/-- A write of KY_CMD starts the command `code`, with `run` its work; `rom` says that a KEY verb issued it [06 R120]. -/
def kyStart (code : Nat) (rom : Bool) (run : Dev → Dev) (d : Dev) : Dev :=
  if d.b F.KY_STAT_BUSY then d.set F.KY_STAT_CMDLOST
  else run (((d.w F.KY_CMD_CODE code).set F.KY_STAT_BUSY).onKy fun k => { k with job := some { code := code, rom := rom } })

/-- A write of KY_CMD. -/
def kyCommand (code : Nat) (d : Dev) : Dev := kyStart code false (kyRun code) d

/-- What the end of a key command writes [06 R120]. -/
def kyFinish (j : KyJob) (d : Dev) : Dev :=
  let d := match j.buf with | some b => setKyBuf b d | none => d
  let d := match j.fill with | some (a, k) => kregFill a k d | none => d
  let d := match j.load with | some s => pairLoad s j.hand d | none => d
  let d := if j.err ≠ 0 ∧ j.err ≠ KyErr.locked then zeroKyBuf d else d
  (((d.w F.KY_STAT_ERR j.err).set F.KY_STAT_DONE).clr F.KY_STAT_BUSY).onKy fun k => { k with job := none }

/-- The OTP engine has ended a job of the key engine with error `e` [06 R126, R128]. -/
def kyBurned (e : Nat) (d : Dev) : Dev :=
  seedBadRefresh (d.onKj fun j =>
    { j with burns := false, err := if j.err ≠ 0 then j.err else if e = 0 then 0 else if e = OtErr.abort then KyErr.abort else KyErr.otp })

/-- The block's interrupt is pending. -/
def kyPending (d : Dev) : Bool := d.b F.KY_STAT_DONE

/-! ### KREG emptied under a command, and the re-mask [06 R111, R112, R119] -/

/-- KREG is cleared by an event, and a command that is running ends with `e`, except one that burns. -/
def kregLost (e : Nat) (d : Dev) : Dev :=
  kregClear (match d.ky.job with
    | some j => if j.burns ∨ j.code = 0 ∨ j.code = 6 then d else kyFail e d
    | none => d)

/-- KREG_REMASK: an ACLK millisecond tick: the mask is drawn anew; where the TRNG cannot draw, KREG is cleared [06 R112, R119]. -/
def kregRemask (d : Dev) : Dev :=
  if aclkRuns d = false ∨ d.ck.ladder = .resetting then d
  else if d.b F.KY_STAT_TRNGF then kregLost KyErr.empty d
  else
    let (m, d) := trng 32 d
    d.onKy fun k => { k with kx := xorBytes (xorBytes k.kx k.km) m, km := m }

/-- TRNG_HEALTH_FAIL [06 R112]. -/
def trngHealthFail (d : Dev) : Dev := d.set F.KY_STAT_TRNGF

/-- TRNG_HEALTH_RECOVER [06 R112]. -/
def trngHealthRecover (d : Dev) : Dev := d.clr F.KY_STAT_TRNGF

/-! ### Debug [06 R111, R129, R130] -/

/-- The debug path becomes enabled [06 R111]. -/
def debugEnable (d : Dev) : Dev := countRegs (pairDrop (kregLost KyErr.empty (d.set F.KY_LC_DBGEN)))

/-- JTAG instruction codes (Table KY-9). -/
def Jtag.bypass : Nat := 31
def Jtag.extest : Nat := 0
def Jtag.unlock : Nat := 8
def Jtag.dbgacc : Nat := 9

/-- The instruction that acts when `ir` is loaded [06 R129]. -/
def jtagActs (d : Dev) (ir : Nat) : Nat :=
  let l := lifeCycle d
  if ir = 1 ∨ ir = 2 then ir
  else if ir = Jtag.unlock then (if l = 3 then Jtag.bypass else ir)
  else if ir = Jtag.extest ∨ ir = Jtag.dbgacc then (if l < 2 ∨ (l = 2 ∧ d.b F.KY_LC_DBGEN) then ir else Jtag.bypass)
  else Jtag.bypass

/-- Loading `ir` is a debug attach in FIELD [06 R129]. -/
def debugAttach (d : Dev) (ir : Nat) : Bool :=
  decide (ir = Jtag.extest ∨ ir = Jtag.dbgacc) && decide (lifeCycle d = 2) && !d.b F.KY_LC_DBGEN

/-- The instruction register takes `ir`; DBGACC in BLANK and PERSO enables the debug path. -/
def jtagLoad (ir : Nat) (d : Dev) : Dev :=
  let d' := d.onKy fun k => { k with ir := jtagActs d ir }
  if ir = Jtag.dbgacc ∧ lifeCycle d < 2 ∧ d.b F.KY_LC_DBGEN = false then debugEnable d' else d'

/-- UNLOCK_CAPTURE: a fresh challenge is presented in the CHAL bits of the data register and kept; the other fields capture 0 [06 R130, Table KY-17].
DESIGN CHOICE [log 92]: it is drawn while TRNGF is 1 too. -/
def unlockCapture (d : Dev) : Dev :=
  if d.ky.ir ≠ Jtag.unlock then d
  else
    let (c, d) := trng 32 d
    d.onKy fun k => { k with chal := some c, dr := le c * 2 ^ 2 }

/-- UNLOCK_UPDATE: the data register holds `v` after the shifts; SLOT, KEY and SIG are taken from it and checked against the challenge kept [06 R130,
Table KY-17]. -/
def unlockUpdate (v : Nat) (d : Dev) : Dev :=
  if d.ky.ir ≠ Jtag.unlock then d
  else
    let slot := bitsAt v 0 2
    let key := leBytes 64 (bitsAt v 258 512)
    let sig := leBytes 64 (bitsAt v 770 512)
    let d := d.onKy fun k => { k with dr := v }
    let ok := match d.ky.chal with
      | none => false
      | some c =>
        signerUsable d slot && decide (sha256 key = signerHash d slot)
          && ecVerify key (sha256 (ascii "FDBG" ++ serialBytes d ++ c)) sig
    d.onKy fun k => { k with verify := some ok }

/-- UNLOCK_VERIFY_DONE: success enables the debug path, failure discards the challenge and counts [06 R130]. DESIGN CHOICE [log 92]: a success keeps
the challenge. -/
def unlockVerifyDone (d : Dev) : Dev :=
  match d.ky.verify with
  | none => d
  | some ok =>
    let d := d.onKy fun k => { k with verify := none, chal := if ok then k.chal else none }
    if ok then (if d.b F.KY_LC_DBGEN then d else debugEnable d) else d.inc F.KY_LC_UNLKFAIL

end Sys2Proof.Machine
end

