-- ==== Sys2Proof/Machine/Granary.lean ====
section
/-! DEFINITION. Pattern memory: plots, page tables, pins, the Gleaner's needs and fetches, the core window [17]. -/

namespace Sys2Proof.Machine

/-- The page table entry of page `g` of furrow `f` [17 R333]. -/
def Dev.pte (d : Dev) (f g : Nat) : Pte := Tab.getD d.gr.pte (256 * f + g) {}

/-- The page table entry of page `g` of furrow `f` becomes `e`. -/
def Dev.setPte (d : Dev) (f g : Nat) (e : Pte) : Dev :=
  { d with gr := { d.gr with pte := Tab.setD d.gr.pte (256 * f + g) {} e } }

/-- The plot that holds page `g` of furrow `f`, LOADING or RESIDENT [17 R327]. -/
def plotOf (d : Dev) (f g : Nat) : Option Nat :=
  (d.gr.plots.find? fun e => decide (e.2.st ≠ .free ∧ e.2.f = f ∧ e.2.page = g)).map Prod.fst

/-- The plot in which page `g` of furrow `f` is RESIDENT. -/
def residentOf (d : Dev) (f g : Nat) : Option Nat :=
  (d.gr.plots.find? fun e => decide (e.2.st = .resident ∧ e.2.f = f ∧ e.2.page = g)).map Prod.fst

/-- CLAIMS: the armed slots whose occurrence names the page of plot `p` [17 Table GR-1]. -/
def claimsOf (d : Dev) (p : Nat) : Nat :=
  let x := d.pl p
  if x.st = .free then 0 else ((slotsOf d x.f).filter fun k => (d.sl k).pages.contains x.page).length

/-- The number of plots pinned. -/
def pinCount (d : Dev) : Nat := (d.gr.plots.filter fun e => e.2.pin).length

/-- Plot `p` may be evicted: RESIDENT with PIN, RSV, KEEP and USE 0 and CLAIMS 0 [17 R335]. -/
def evictable (d : Dev) (p : Nat) : Bool :=
  let x := d.pl p
  decide (x.st = .resident) && !x.pin && !x.rsv && !x.keep && !useOf d p && decide (claimsOf d p = 0)

/-- PLOT_EVICTION: the plot chosen for a page: the lowest FREE one, else the qualifying RESIDENT one longest since it
was loaded or claimed, the lowest-numbered on a tie [17 R335]. -/
def choosePlot (d : Dev) : Option Nat :=
  match (List.range 512).find? fun p => decide ((d.pl p).st = .free) with
  | some p => some p
  | none =>
    (d.gr.plots.filter fun e => evictable d e.1).foldl (fun m e => match m with
      | none => some e.1
      | some p => if e.2.stamp < (d.pl p).stamp then some e.1 else some p) none

/-- The next stamp of a loading or claim. -/
def Dev.tickStamp (d : Dev) : Dev := { d with gr := { d.gr with stamp := d.gr.stamp + 1 } }

/-- Plot `p` is assigned to page `g` of furrow `f` for a fetch: LOADING; the page it held stops being resident. -/
def assignPlot (p f g : Nat) (pin : Bool) (d : Dev) : Dev :=
  let d := if (d.pl p).st = .resident then dropRelease p d else d
  (d.onP p fun _ => { st := .loading, pin := pin, f := f, page := g, stamp := d.gr.stamp }).tickStamp

/-- The needs of every furrow that still lack a plot: neither RESIDENT nor LOADING, and no ERR [17 R336]. -/
def openNeeds (d : Dev) : List (Nat × Need) :=
  d.sw.furrows.flatMap fun e =>
    (e.2.needs.filter fun n => (plotOf d e.1 n.page).isNone && !(d.pte e.1 n.page).err).map fun n => (e.1, n)

/-- The need of earliest deadline. -/
def firstNeed (d : Dev) : Option (Nat × Need) :=
  (openNeeds d).foldl (fun m x => match m with
    | none => some x
    | some y => if sd x.2.deadline y.2.deadline < 0 then some x else some y) none

/-- The deadline lies within GR_GUARD ns of the present TLT [17 R337]. -/
def urgent (d : Dev) (t : Nat) : Bool := decide (sd t d.tlt ≤ d.r F.GR_GUARD_NS)

/-- Some need is urgent. -/
def anyUrgent (d : Dev) : Bool := (openNeeds d).any fun x => urgent d x.2.deadline

/-- The active fetch not yet on the bus of latest deadline. -/
def latestFetch (d : Dev) : Option Fetch :=
  (d.gr.places.filter fun x => !x.onBus && x.deadline.isSome).foldl (fun m x => match m with
    | none => some x
    | some y => if 0 < sd (x.deadline.getD 0) (y.deadline.getD 0) then some x else some y) none

/-- The need takes a plot and a place. -/
def takePlace (f : Nat) (n : Need) (d : Dev) : Dev :=
  match choosePlot d with
  | none => d.set F.GR_STAT_NOPLOT
  | some p =>
    let d := assignPlot p f n.page false d
    { d with gr := { d.gr with places := d.gr.places ++ [⟨f, n.page, p, some n.deadline, false⟩] } }

/-- A GR command completes with error code `e` [17 Table GR-9]. -/
def grDone (e : Nat) (d : Dev) : Dev :=
  let d := ((d.w F.GR_CSTAT_ERR e).set F.GR_CSTAT_DONE).w F.GR_CSTAT_BUSY 0
  { d with gr := { d.gr with waiting := none } }

/-- A waiting PIN or FETCH takes a place where its page is still wanted; it then completes [17 R337]. -/
def commandPlace (c : GrCmd) (d : Dev) : Dev :=
  match plotOf d c.f c.page with
  | some p =>
    let d := if c.op = 1 then d.onP p fun x => { x with pin := true } else d
    if c.op = 1 ∧ !(d.gr.places.any fun x => decide (x.plot = p)) ∧ (d.pl p).st = .loading then
      grDone 0 { d with gr := { d.gr with places := d.gr.places ++ [⟨c.f, c.page, p, none, false⟩] } }
    else grDone 0 d
  | none =>
    match choosePlot d with
    | none => d.set F.GR_STAT_NOPLOT
    | some p =>
      let d := assignPlot p c.f c.page (decide (c.op = 1)) d
      grDone 0 { d with gr := { d.gr with places := d.gr.places ++ [⟨c.f, c.page, p, none, false⟩] } }

/-- The Gleaner fills its eight places: a waiting command while no need is urgent, else the need of earliest deadline; a
need earlier than an active fetch not yet on the bus takes that fetch's place [17 R337]. -/
def gleanerFill (n : Nat) (d : Dev) : Dev :=
  match n with
  | 0 => d
  | n + 1 =>
    if d.b F.GR_CTL_EN = false then d
    else if d.gr.places.length < 8 ∧ d.gr.waiting.isSome ∧ anyUrgent d = false then
      match d.gr.waiting with
      | some c =>
        let e := commandPlace c d
        if e.gr.waiting.isSome then e else gleanerFill n e
      | none => d
    else
      match firstNeed d with
      | none => d
      | some (f, x) =>
        if d.gr.places.length < 8 then
          let e := takePlace f x d
          if e.gr.places.length = d.gr.places.length then e else gleanerFill n e
        else
          match latestFetch d with
          | none => d
          | some y =>
            if sd x.deadline (y.deadline.getD 0) < 0 then
              let d := freePlot y.plot d
              gleanerFill n (takePlace f x { d with gr := { d.gr with places := d.gr.places.erase y } })
            else d

/-- Eight places and as many displacements bound one filling. -/
def gleaner (d : Dev) : Dev := gleanerFill 16 d

/-- The place of page `g` of furrow `f`. -/
def placeOf (d : Dev) (f g : Nat) : Option Fetch := d.gr.places.find? fun x => decide (x.f = f ∧ x.page = g)

/-- The place of a fetch becomes free. -/
def dropPlace (x : Fetch) (d : Dev) : Dev := { d with gr := { d.gr with places := d.gr.places.erase x } }

/-- PAGE_ARRIVAL: the fetch's last byte is written: the plot is RESIDENT, RSV where it is still a need of an unarmed
point, the fetch counted, GR_EV.DONE; in the FCLK cycle of its deadline the tie is recorded [17 R338]. -/
def pageArrival (f g : Nat) (bytes : List Nat) (d : Dev) : Dev :=
  match placeOf d f g with
  | none => d
  | some x =>
    if x.onBus = false then d
    else
      let d := d.storeBytes (0x30000000 + 1024 * x.plot) (bytes.take 1024)
      let mine := (slotsOf d f).filter fun k => decide ((d.sl k).st = .armed) && (d.sl k).pages.contains g
      let need := (d.fu f).needs.any fun n => decide (n.page = g) && !n.armed
      let tie := (mine.map fun k => (d.sl k).tset).any (fun t => d.ties Dev.fclk (d.nsOf t)) ||
        (match x.deadline with | some t => d.ties Dev.fclk (d.nsOf t) | none => false)
      let d := (d.onP x.plot fun p => { p with st := .resident, rsv := need, stamp := d.gr.stamp, came := d.ns }).tickStamp
      let d := (dropPlace x d).inc F.GR_CNT_FETCHES
      let d := d.set F.GR_EV_DONE
      let d := if tie then (d.set F.GR_STAT_COIN).coin Tag.gr else d
      gleaner d

/-- PAGE_FETCH_FAILED: the plot returns to FREE, the entry's ERR is set, GR_EV.ERR and an ERROR record follow
[17 R338, R341]. -/
def pageFetchFailed (f g : Nat) (d : Dev) : Dev :=
  match placeOf d f g with
  | none => d
  | some x =>
    let d := dropPlace x (freePlot x.plot d)
    let d := (d.setPte f g { d.pte f g with err := true }).set F.GR_EV_ERR
    let d := if d.b F.GR_QEN_ERROR then evRecord Tag.gr 2 f (g + 768) d else d
    gleaner d

/-- The bank that CFG.BANK of furrow `f` names. -/
def bankNamed (d : Dev) (f : Nat) : Nat := d.r (F.SWF_CFG_BANK f)

/-- GR_PTE_WRITE: the entry named by GR_PTIDX is written and its ERR cleared: a page replacement waits for a headland, a
clearing of V follows the locked-write rule unless the furrow is FALLOW, and then releases the plot at once; `map` is PAGE MAP, which releases the
plot of a resident page in any case [17 R334; 12 R242]. -/
def ptePut (map : Bool) (f g : Nat) (v : Bool) (sel addr : Nat) (d : Dev) : Dev :=
  let old := d.pte f g
  if old.v = true ∧ v = false ∧ (d.fu f).state ≠ .fallow then d.lockV Tag.gr 0x4000E018
  else
    let d := d.setPte f g ⟨v, false, sel % 4, addr % 2 ^ 18⟩
    match plotOf d f g with
    | none => d
    | some p =>
      if v = false then
        let d := match placeOf d f g with | some x => dropPlace x d | none => d
        freePlot p d
      else if old.v = true ∧ (map = true ∨ old.sel ≠ sel % 4 ∨ old.addr ≠ addr % 2 ^ 18) then
        addChange [bankNamed d f] (.release p) d
      else d

/-- A write of the word `w` to GR_PTE. -/
def grPteWrite (w : Nat) (d : Dev) : Dev :=
  ptePut false (d.r F.GR_PTIDX_F) (d.r F.GR_PTIDX_PAGE) (bitAt w 31) (bitsAt w 24 2) (bitsAt w 0 18) d

/-- The entry of page `g` of furrow `f` as GR_PTE shows it [17 Table GR-8]. -/
def pteValue (d : Dev) (f g : Nat) : Nat :=
  let e := d.pte f g
  bit e.v * 2 ^ 31 + bit ((plotOf d f g).any fun p => (d.pl p).pin) * 2 ^ 30 + bit e.err * 2 ^ 29 + e.sel * 2 ^ 24 + e.addr

/-- GR_PTE as read. -/
def pteWord (d : Dev) : Nat := pteValue d (d.r F.GR_PTIDX_F) (d.r F.GR_PTIDX_PAGE)

/-- Select `n` has a device [13 R262]. -/
def selPresent (d : Dev) (n : Nat) : Bool := d.b (F.SP_ID_PRESENT n)

/-- The checks of a PIN or FETCH: 1 unmapped, 4 no device on the select [17 Table GR-9]. -/
def pageCheck (d : Dev) (f g : Nat) : Nat :=
  let e := d.pte f g
  if e.v = false then 1 else if selPresent d e.sel = false then 4 else 0

/-- GR_CMD_PIN: the page is held against eviction; at 384 pins it is refused; a page not held gets a plot at once and a
command fetch [17 R335]. -/
def grPin (f g : Nat) (d : Dev) : Dev :=
  let e := pageCheck d f g
  if d.gr.waiting.isSome then d
  else if e ≠ 0 then grDone e d
  else
    match plotOf d f g with
    | some p =>
      if (d.pl p).pin then grDone 0 d
      else if 384 ≤ pinCount d then grDone 2 d
      else grDone 0 (d.onP p fun x => { x with pin := true })
    | none =>
      if 384 ≤ pinCount d then grDone 2 d
      else
        let d := match choosePlot d with
          | some p => assignPlot p f g true d
          | none => d.set F.GR_STAT_NOPLOT
        let d := { d.w F.GR_CSTAT_BUSY 1 with gr := { d.gr with waiting := some ⟨1, f, g⟩ } }
        gleaner d

/-- GR_CMD_UNPIN: PIN clears and the page stays resident [17 R335]. -/
def grUnpin (f g : Nat) (d : Dev) : Dev :=
  if d.gr.waiting.isSome then d
  else match plotOf d f g with
    | some p => grDone 0 (d.onP p fun x => { x with pin := false })
    | none => grDone (if (d.pte f g).v then 0 else 1) d

/-- GR_CMD_FETCH: a command fetch, done at once where the page is held [17 R337, Table GR-9]. -/
def grFetch (f g : Nat) (d : Dev) : Dev :=
  let e := pageCheck d f g
  if d.gr.waiting.isSome then d
  else if e ≠ 0 then grDone e d
  else match plotOf d f g with
    | some _ => grDone 0 d
    | none => gleaner { d.w F.GR_CSTAT_BUSY 1 with gr := { d.gr with waiting := some ⟨3, f, g⟩ } }

/-- A write of GR_CMD: ignored while BUSY; else the fields are written and the command starts [17 Table GR-9]. -/
def grCmd (op f g : Nat) (d : Dev) : Dev :=
  if d.gr.waiting.isSome then d
  else
    let d := ((d.w F.GR_CMD_OP op).w F.GR_CMD_F f).w F.GR_CMD_PAGE g
    if op = 1 then grPin f g d else if op = 2 then grUnpin f g d else if op = 3 then grFetch f g d else d

/-- GR_CNT_CLEAR: a write of GR_CNT clears both counts [17 Table GR-10]. -/
def grCntClear (d : Dev) : Dev := (d.w F.GR_CNT_FAULTS 0).w F.GR_CNT_FETCHES 0

/-- The core reaches plot `p` through the window: CPUWIN set, unpinned, not used by the Drill [01 R19; 17 R342]. -/
def windowOpen (d : Dev) (p : Nat) : Bool := d.b F.GR_CTL_CPUWIN && !(d.pl p).pin && !useOf d p

/-- A read through the window at address `a`: the stored word of a RESIDENT plot; what a FREE or LOADING one holds is undefined, a free value (log entry
102); 0 where the plot is not reached [01 R19; 17 R342]. -/
def windowRead (a : Nat) (d : Dev) : Dev :=
  let p := (a - 0x30000000) / 1024
  if windowOpen d p = false then { d with rd := 0 }
  else if (d.pl p).st = .resident then { d with rd := d.load 4 a }
  else
    let (n, d) := d.draw
    { d with rd := (Config.plotContents n).toNat }

/-- A write through the window: stored, else ignored [01 R19]. -/
def windowWrite (a v : Nat) (d : Dev) : Dev := if windowOpen d ((a - 0x30000000) / 1024) then d.store 4 a v else d

/-- Step `s` of the page in plot `p` [17 R327, Table GR-2]. -/
def stepAt (d : Dev) (p s : Nat) : Step :=
  let v := d.load 16 (0x30000000 + 1024 * p + 16 * s)
  { width := bitsAt v 0 24, level := bitsAt v 24 12, scan := bitsAt v 36 3, scanEn := bitAt v 39, chmask := bitsAt v 40 8,
    gap := bitsAt v 48 16, trg := bitAt v 64, last := bitAt v 65, boost := bitAt v 66, blevel := bitsAt v 67 12,
    rsvd := bitsAt v 79 49 }

/-- GR_PLOTp as read [17 Table GR-13]. -/
def plotWord (d : Dev) (p : Nat) : Nat :=
  let x := d.pl p
  (match x.st with | .free => 0 | .loading => 1 | .resident => 2) * 2 ^ 30 + bit x.pin * 2 ^ 29 + bit (useOf d p) * 2 ^ 28 +
    bit x.rsv * 2 ^ 27 + bit x.keep * 2 ^ 26 + claimsOf d p * 2 ^ 16 + x.f * 2 ^ 8 + x.page

end Sys2Proof.Machine
end

