-- ==== Sys2Proof/Machine/Reckoner.lean ====
section
/-! DEFINITION. The Reckoner: admission, the thermal estimate, the monitor ADC, sag and compensation [19]. -/

namespace Sys2Proof.Machine

/-- A 16-bit value as signed. -/
def signed (n v : Nat) : Int := if v < 2 ^ (n - 1) then (v : Int) else (v : Int) - 2 ^ n

/-- TAMB in °C: the die temperature n / 4 - 64, or AMB in 1/16 °C [19 R366, Table BD-2]. -/
def tamb (d : Dev) : Rat :=
  if d.b F.BD_TAMB_SRC then (signed 16 (d.r F.BD_TAMB_AMB) : Rat) / 16
  else (d.r (F.BD_ADC_CODE 7) : Rat) / 4 - 64

/-- The estimate of channel `c` in °C [19 R366]. -/
def testOf (d : Dev) (c : Nat) : Rat := tamb d + Tab.getD d.bd.x1 c 0 + Tab.getD d.bd.x2 c 0

/-- BD_TCc.TEST: the estimate in signed 1/16 °C [19 Table BD-15]. -/
def testWord (d : Dev) (c : Nat) : Nat := ((shown (testOf d c * 16)) % 65536).toNat

/-- What the Reckoner answers to a candidate [19 R367]. -/
inductive Admit where
  | at (scale : Nat) (q : Rat)
  | defer
  | refuse
  deriving DecidableEq, Repr

/-- A scale setting limited to 512 to 1 024 [19 Table BD-1]. -/
def scaleSetting (v : Nat) : Nat := min (max v 512) 1024

/-- ADMISSION of furrow `f` at fire time `t` [19 R367]: the answer; nothing is booked here. -/
def admitAt (d : Dev) (f t : Nat) : Admit :=
  let b := fBank d f
  let k := d.r (F.SWF_CFG_CLASS f)
  let hs := ((chansOf b (fMask d f)).filter (chanIn d)).map (testOf d)
  let hot : Rat → Bool := fun x => hs.any fun h => decide (x ≤ h)
  let qocc := d.r (F.BD_FQ_QOCC f)
  let qact := d.r (F.BD_CLS_QACT k)
  if hot (d.r (F.BD_BTH_TMAX b)) then (if d.r (F.BD_CLS_TACT k) = 0 then .defer else .refuse)
  else
    let s := if hot (d.r (F.BD_BTH_TWARN b)) then scaleSetting (d.r (F.BD_CLS_TDER k)) else 1024
    let q : Rat := (qocc * s / 1024 : Nat)
    let room := roomOf d b t
    if qocc = 0 ∨ q ≤ room then .at s q
    else
      let s2 := ((room * 1024 / qocc).floor).toNat
      if qact ≤ 1 ∧ scaleSetting (d.r (F.BD_CLS_FLOOR k)) ≤ s2 then .at s2 (qocc * s2 / 1024 : Nat)
      else if qact = 0 ∨ qact = 2 then .defer else .refuse

/-- What an answer records: DERATE with its record, DEFER, REFUSE; an admission books its charge [19 R364, R367]. -/
def admitNote (f t : Nat) (a : Admit) (d : Dev) : Dev :=
  match a with
  | .at s q =>
    let d := book (fBank d f) t q d
    if s < 1024 then
      let d := d.set F.BD_EV_DERATE
      if bitAt (d.r F.BD_QEN_CAUSE) 1 then evRecordAt Tag.bd 2 f t s d else d
    else d
  | .defer => d.set F.BD_EV_DEFER
  | .refuse => d.set F.BD_EV_REFUSE

/-- CHARGE_WINDOW_ROLL: at a window boundary the oldest window is dropped and an empty one opens, in Nap and Fallow too [19 R363, R380]. -/
def windowRoll (d : Dev) : Dev :=
  let w := d.timeNow / 100000
  if w = d.bd.wNow then d
  else
    let n := if d.bd.wNow < w then w - d.bd.wNow else (w + tltMod / 100000 + 1 - d.bd.wNow)
    let roll : List Rat → List Rat := fun l => (l.drop n) ++ List.replicate (min n 32) 0
    let led := (d.bd.ledger.map (fun e => (e.1, roll e.2))).filter (fun e => decide (e.2 ≠ List.replicate 32 0))
    { d with bd := { d.bd with wNow := w, ledger := led } }

/-- One pole after a tick: x + (a / 2^24) (g / 100 u - x) [19 R366]. -/
def pole (x : Rat) (a g : Nat) (u : Rat) : Rat := x + (a : Rat) / 16777216 * ((g : Rat) / 100 * u - x)

/-- HOT_CROSSING: channel `c`'s estimate rises through its bank's TMAX [19 R379]. -/
def hotCheck (c : Nat) (d : Dev) : Dev :=
  let isHot := decide ((d.r (F.BD_BTH_TMAX (c / 8)) : Rat) ≤ testOf d c)
  let was := d.bd.hot.contains c
  if isHot && !was then
    let d := { d with bd := { d.bd with hot := d.bd.hot ++ [c] } }
    let d := d.set F.BD_EV_HOT
    if bitAt (d.r F.BD_QEN_CAUSE) 2 then
      evRecord Tag.bd 3 c ((shown (testOf d c)) % 65536).toNat d
    else d
  else if !isHot && was then { d with bd := { d.bd with hot := d.bd.hot.filter (· ≠ c) } }
  else d

/-- The estimate of channel `c` at an ACLK tick: its mean current over the tick drives the two poles [19 R366]. -/
def thermalChannel (c : Nat) (d : Dev) : Dev :=
  let k := d.sink c
  let u : Rat := (k.acc + k.code * (d.ns - k.since) : Nat) / (20000000 : Rat)
  let d := d.onK c fun k => { k with acc := 0, since := if k.code = 0 then 0 else d.ns }
  let x1 := pole (Tab.getD d.bd.x1 c 0) (d.r (F.BD_TC_A1_A1 c)) (d.r (F.BD_TC_G_G1 c)) u
  let x2 := pole (Tab.getD d.bd.x2 c 0) (d.r (F.BD_TC_A2_A2 c)) (d.r (F.BD_TC_G_G2 c)) u
  hotCheck c { d with bd := { d.bd with x1 := Tab.setD d.bd.x1 c 0 x1, x2 := Tab.setD d.bd.x2 c 0 x2 } }

/-- THERMAL_UPDATE: every channel's estimate at an ACLK tick, in Run, Hold, Nap and Fallow [19 R366; 03 R41, R48]. -/
def thermalUpdate (d : Dev) : Dev :=
  if aclkRuns d = false ∨ d.ck.ladder = .resetting then d
  else forAll (List.range 48) thermalChannel d

/-- VREF_UPDATE: a VLS sample of a bank in headland and not aiming is its new reference, the first one in service ending NOREF [19 R370]. -/
def vrefUpdate (b code : Nat) (d : Dev) : Dev :=
  if inHeadland d b ∧ d.r (F.LD_BSTAT_STATE b) ≠ 2 then
    let d := d.w (F.BD_BSAG_VREF b) code
    vthRefresh b (if d.r (F.LD_BSTAT_STATE b) = 1 then d else d.w (F.BD_BSAG_NOREF b) 0)
  else d

/-- ADC_SAMPLE: channel `i` gives `code`; VLSb is not sensed from Nap downward nor before the bank first returns, and nothing is in Dormant or in
reset [19 R369; 02 Table PN-7; 03 R47]. -/
def adcSample (i code : Nat) (d : Dev) : Dev :=
  if d.ck.ladder = .dormant ∨ d.ck.ladder = .resetting ∨ (i < 6 ∧ ((d.bo i).sensed = false ∨ d.awake = false)) then d
  else
    let d := d.w (F.BD_ADC_CODE i) code
    if i < 6 then vrefUpdate i (d.r (F.BD_ADC_CODE i)) d else if i = 7 then tempWindow (d.r (F.BD_ADC_CODE i)) d else d

/-- The FIRING slot of bank `b`. -/
def firingOn (d : Dev) (b : Nat) : Option Nat := (slotsIf d fun s => decide (s.st = .firing ∧ s.bank = b)).head?

/-- SBLANK of bank `b` in ns, as committed [19 R371]. -/
def blankNs (d : Dev) (b : Nat) : Nat := 10 * d.cv (F.BD_BCFG_SBLANK b)

/-- The comparator is active in the pulse of slot `s`, or was to the end of one that ended in this TCLK cycle [19 R371]. -/
def comparing (d : Dev) (s : Slot) : Bool :=
  if s.pulse then decide (s.start + blankNs d s.bank ≤ d.ns)
  else match s.last with | some (a, e) => decide (e = d.ns ∧ a + blankNs d s.bank ≤ e) | none => false

/-- SAG_TRIP: the active comparator of bank `b` trips: the occurrence gets the cause sag, and its policy applies
[19 R371, R374]. -/
def sagTrip (b : Nat) (d : Dev) : Dev :=
  match firingOn d b with
  | none => d
  | some k =>
    let s := d.sl k
    if comparing d s = false ∨ d.b (F.BD_BSAG_NOREF b) ∨ (d.b (F.BD_BSAG_TRIP b) ∧ s.tripped) then d
    else
      let d := ((d.set (F.BD_BSAG_TRIP b)).set F.BD_EV_SAG).inc (F.BD_BCNT_TRIPS b)
      let d := d.onS k fun s => { s with sag := true, tripped := true }
      if fDist d s.f = 2 then abortOcc k d else d

/-- SAG_CLEAR: VLSb has risen above VTH + 2 codes [19 R371]. -/
def sagClear (b : Nat) (d : Dev) : Dev := d.w (F.BD_BSAG_TRIP b) 0

/-- COMPENSATION_FAIL: the short time of the pulse of bank `b` reaches floor(WIDTH / 4) with a driven sink still out of
regulation: ABORT follows at once [19 R375]. -/
def compensationFail (b : Nat) (d : Dev) : Dev :=
  match firingOn d b with
  | none => d
  | some k =>
    let s := d.sl k
    if s.pulse ∧ s.sag ∧ fDist d s.f = 1 ∧ s.start + s.cur.width / 4 ≤ d.ns then abortOcc k d else d

/-- An occurrence FIRING takes the cause burst or ring: BD_EV follows, and ABORT ends it [19 R372, R374]. -/
def disturb (isRing : Bool) (k : Nat) (d : Dev) : Dev :=
  let d := d.set (if isRing then F.BD_EV_RING else F.BD_EV_BURST)
  let d := d.onS k fun s => if isRing then { s with ring := true } else { s with burst := true }
  if fDist d (d.sl k).f = 2 then abortOcc k d else d

/-- The ring is disturbed: more than RCLIM code errors within the last 1 µs, and for 2 µs after [19 R372]. -/
def ringDisturbed (d : Dev) : Bool :=
  decide (d.r F.BD_RCFG_RCLIM < (d.bd.errs.filter fun t => decide (d.ns < t + 1000)).length) ||
    decide (d.ns < d.bd.disturbedEnd)

/-- Every occurrence FIRING of a furrow bound to source `src` takes the cause. -/
def disturbSource (isRing : Bool) (src : Nat) (d : Dev) : Dev :=
  forAll (slotsIf d fun s => decide (s.st = .firing ∧ d.r (F.SWF_CFG_SRC s.f) = src)) (disturb isRing) d

/-- BD_BCNT_CLEAR: a write of BD_BCNTb clears both counts. -/
def bdBcntClear (b : Nat) (d : Dev) : Dev := (d.w (F.BD_BCNT_ABORTS b) 0).w (F.BD_BCNT_TRIPS b) 0

/-- BD_ASKIP_CLEAR: a write of BD_ASKIP clears it. -/
def bdAskipClear (d : Dev) : Dev := d.w F.BD_ASKIP_COUNT 0

/-- BD_BQb.NOW: the windows w_now - 15 to w_now, in µC [19 Table BD-8]. -/
def bqNow (d : Dev) (b : Nat) : Nat := min 65535 (shown (spanSum (ledgerOf (windowRoll d) b) 0 / 1000)).toNat

/-- BD_BQb.PEAK: the largest span sum over the ledger, in µC [19 Table BD-8]. -/
def bqPeak (d : Dev) (b : Nat) : Nat :=
  min 65535 (shown (((List.range 17).foldl (fun m s => max m (spanSum (ledgerOf (windowRoll d) b) s)) 0) / 1000)).toNat

end Sys2Proof.Machine
end

