-- ==== Sys2Proof/Machine/Sower.lean ====
section
/-! DEFINITION. The Sower: trigger points, projection, evaluation, arming, commands and configuration of furrows [16], and
the needs each evaluation forms [17 R336]. -/

namespace Sys2Proof.Machine

/-! ### Position sources [15 R301; 21 R411] -/

/-- The position source as the encoder input it reads on this device: E0, E1, or on the master the input RSRC. -/
def inputOf (d : Dev) (src : Nat) : Option Nat :=
  if src < 2 then some src
  else if src = 2 ∧ d.b F.SR_STAT_MASTER then some (d.r F.EN_RING_RSRC) else none

/-- This device takes its ring position from the epochs: a member that is UP [21 R411]. -/
def followsEpochs (d : Dev) : Bool := !d.b F.SR_STAT_MASTER && decide (d.r F.SR_STAT_STATE = 2)

/-- The ring position of a member at the present TLT: the last epoch's position advanced by its velocity [15 R301]. -/
def epochPos (d : Dev) : Rat :=
  (d.sr.last.pos : Rat) + (d.sr.last.vel : Rat) * ((sd d.tlt (d.sr.last.e * 1000 % tltMod) : Int) : Rat) / 65536000

/-- The present value that source `src` compares trigger points with [16 R306]. -/
def presentOf (d : Dev) (src : Nat) : Nat :=
  if src = 3 then d.tlt
  else match inputOf d src with
    | some n => (d.enc n).pos
    | none =>
      if followsEpochs d then ((epochPos d).floor % (2 ^ 48 : Int)).toNat else ((d.sr.rpos).floor % (2 ^ 48 : Int)).toNat

/-- Position, edge time and velocity of a position source that moves forward; none when it is stopped, reversed or has
no velocity [16 R311]. -/
def motionOf (d : Dev) (src : Nat) : Option (Nat × Nat × Nat) :=
  match inputOf d src with
  | some n =>
    let e := d.enc n
    if d.b (F.EN_STAT_STOP n) ∨ d.b (F.EN_STAT_DIR n) ∨ e.vel ≤ 0 then none else some (e.pos, e.te, e.vel.toNat)
  | none =>
    if followsEpochs d = false ∨ d.sr.last.stop ∨ d.sr.last.vel ≤ 0 then none
    else some (d.sr.last.pos, d.sr.last.e * 1000 % tltMod, d.sr.last.vel.toNat)

/-- `a / b` rounded to the nearest integer, halves up. -/
def roundDiv (a b : Nat) : Nat := (2 * a + b) / (2 * b)

/-- The fire time of trigger point `p` of furrow `f`, and its distance in ns from now: T = te + round(d × 65 536 000 / v), or T = P for source time [16 R311]. The
distance is not taken modulo 2 ^ 48, so that a point far away, or not ahead, stays beyond the horizon. -/
def fireTime (d : Dev) (f p : Nat) : Option (Nat × Int) :=
  let src := d.r (F.SWF_CFG_SRC f)
  if src = 3 then some (p, sd p d.tlt)
  else match motionOf d src with
    | none => none
    | some (x, te, v) =>
      let w := roundDiv ((p + tltMod - x) % tltMod * 65536000) v
      some ((te + w) % tltMod, sd te d.tlt + (w : Int))

/-- The fire time of trigger point `p` of furrow `f`. -/
def project (d : Dev) (f p : Nat) : Option Nat := (fireTime d f p).map Prod.fst

/-! ### Trigger points [16 R306, R307] -/

/-- The first P_k ahead of `x`; with EVERY 0 the only one, P_0. -/
def firstAhead (d : Dev) (f x : Nat) : Nat :=
  let a := fAt d f
  let e := fEvery d f
  if e = 0 ∨ aheadOf a x then a else (a + ((x + tltMod - a) % tltMod / e + 1) * e) % tltMod

/-- NEXT of furrow `f` becomes the first point ahead, and nothing before it is counted [16 R307]. -/
def renext (f : Nat) (d : Dev) : Dev :=
  let x := presentOf d (d.r (F.SWF_CFG_SRC f))
  let p := firstAhead d f x
  let seen := aheadOf p x || decide (d.r (F.SWF_CFG_SRC f) = 3)
  d.onF f fun u => { u with next := p, more := true, wasAhead := seen, rebase := false, deferred := [] }

/-- NEXT advances to the following point; a single occurrence has none [16 R307, R308]. -/
def nextPoint (f : Nat) (d : Dev) : Dev :=
  d.onF f fun u =>
    { u with next := if fEvery d f = 0 then u.next else (u.next + fEvery d f) % tltMod, more := decide (fEvery d f ≠ 0) }

/-- The point that NEXT names is skipped: NEXT advances, and the point has its final outcome [16 R313, R324]. -/
def skipPoint (f : Nat) (d : Dev) : Dev := nextPoint f (pointDone f (d.fu f).next d)

/-- Furrows bound to source `src` that are in READY, SOWN or HELD. -/
def boundTo (d : Dev) (src : Nat) : List Nat :=
  (d.sw.furrows.filter fun e => decide (d.r (F.SWF_CFG_SRC e.1) = src ∧
    (e.2.state = .ready ∨ e.2.state = .sown ∨ e.2.state = .held))).map Prod.fst

/-- Some furrow bound to source `src` is SOWN. -/
def anySown (d : Dev) (src : Nat) : Bool :=
  d.sw.furrows.any fun e => decide (d.r (F.SWF_CFG_SRC e.1) = src ∧ e.2.state = .sown)

/-- A position load or jump, or forward travel resumed: the furrows of the source take their first point ahead. -/
def renextSource (src : Nat) (d : Dev) : Dev := forAll (boundTo d src) renext d

/-! ### The moments of an occurrence [16 R312] -/

/-- The lead of furrow `f`: LAT + SKEW of its head port, or 0 [20 R381]. -/
def leadOf (d : Dev) (f : Nat) : Nat :=
  match fHead d f with
  | some p => latSeen d p + d.r (F.HP_TCFG_SKEW p)
  | none => 0

/-- T_set = T - L - 1 000. -/
def setMoment (t lead : Nat) : Nat := (t + tltMod - (lead + 1000) % tltMod) % tltMod

/-- The arming deadline D = min(T - SLACK, T_set). -/
def armDeadline (d : Dev) (f t : Nat) : Nat :=
  (t + tltMod - max (fSlack d f) (leadOf d f + 1000) % tltMod) % tltMod

/-- The arming horizon: below 10 000 it acts as 10 000, above 1 000 000 as 1 000 000 [16 Table SW-8]. -/
def horizon (d : Dev) : Nat := min (max (d.r F.SW_HZN_HZN) 10000) 1000000

/-- An unlock holds arming: until the relock, and with UNLKACT until UNLOCK is cleared [03 R61]. -/
def unlockHold (d : Dev) : Bool := (d.awake && !d.b F.CK_STAT_PLLLOCK) || (d.b F.CK_STAT_UNLOCK && d.b F.CK_CFG_UNLKACT)

/-- The cause of a miss for points that pass from now on: unlock while one holds arming, hold while a ladder entry freezes it, else slack
[16 R321, Table SW-3]. -/
def passCause (d : Dev) : Nat := if unlockHold d then 3 else if d.sw.frozen then 2 else 1

/-- The points that pass from now on count with cause `c`; 0 exempts them. -/
def passAs (c : Nat) (d : Dev) : Dev := mapFurrows (fun _ u => if u.state = .fallow then u else { u with pass := c }) d

/-- SW_CTL.FROZEN: arming frozen by a ladder entry or an unlock hold [16 R315]. -/
def swFrozen (d : Dev) : Bool := d.sw.frozen || unlockHold d

/-- The Sower arms nothing: SW_CTL.EN 0, a freeze, or a reference change [16 R315; 03 R42]. -/
def armingStopped (d : Dev) : Bool := !d.b F.SW_CTL_EN || swFrozen d || d.b F.CK_ROOT_BUSY

/-! ### The cursor and the needs [17 R333, R336] -/

/-- The start offset in force: above PAGESM1 it acts as 0. -/
def startOf (d : Dev) (f : Nat) : Nat :=
  let s := d.r (F.GR_CUR_START f)
  if d.cv (F.SWF_PAGE_PAGESM1 f) < s then 0 else s

/-- The span in pages from offset `s`, cut off at the end of the range. -/
def spanFrom (d : Dev) (f s : Nat) : Nat := min (d.r (F.GR_CUR_SPANM1 f) + 1) (d.cv (F.SWF_PAGE_PAGESM1 f) + 1 - s)

/-- The pages of an occurrence that starts at offset `s`. -/
def pagesFrom (d : Dev) (f s : Nat) : List Nat :=
  (List.range (spanFrom d f s)).map fun i => (d.cv (F.SWF_PAGE_PAGE0 f) + s + i) % 256

/-- The offset after one arming: with ADV at 1 it advances by the span, modulo the page count. -/
def advance (d : Dev) (f s : Nat) : Nat :=
  if d.b (F.GR_CUR_ADV f) then (s + spanFrom d f s) % (d.cv (F.SWF_PAGE_PAGESM1 f) + 1) else s

/-- The point lies within the lookahead [17 R336]. -/
def inLook (d : Dev) (f p : Nat) : Bool :=
  if d.r (F.SWF_CFG_SRC f) = 3 then decide (sd p d.tlt ≤ d.r F.GR_LOOKT_NS)
  else decide ((p + tltMod - presentOf d (d.r (F.SWF_CFG_SRC f))) % tltMod ≤ d.r F.GR_LOOK_COUNTS)

/-- The needs of the next `n` unarmed points from `p` on, with the cursor at offset `s`. -/
def lookNeeds (d : Dev) (f n p s : Nat) : List Need :=
  match n with
  | 0 => []
  | n + 1 =>
    if inLook d f p then
      match project d f p with
      | none => []
      | some t =>
        (pagesFrom d f s).map (fun g => ⟨g, setMoment t (leadOf d f), false⟩) ++
          (if fEvery d f = 0 then [] else lookNeeds d f n ((p + fEvery d f) % tltMod) (advance d f s))
    else []

/-- The needs an evaluation forms: the pages of armed slots, and with PREF the spans of the next points [17 R336]. -/
def needsOf (d : Dev) (f : Nat) : List Need :=
  let mine := (slotsOf d f).filter fun k => decide ((d.sl k).st = .armed)
  let held := mine.flatMap fun k => (d.sl k).pages.map fun g => (⟨g, (d.sl k).tset, true⟩ : Need)
  if d.b F.GR_CTL_PREF ∧ (d.fu f).more ∧ (d.fu f).offp = false then
    held ++ lookNeeds d f (4 - (slotsOf d f).length) (d.fu f).next (startOf d f)
  else held

/-- The furrow's needs are replaced; RSV clears on pages no longer needed; the Gleaner fills its places [17 R336]. -/
def formNeeds (f : Nat) (d : Dev) : Dev :=
  let ns := needsOf d f
  let d := d.onF f fun u => { u with needs := ns }
  let plots := d.gr.plots.map fun e =>
    if e.2.rsv ∧ e.2.f = f ∧ !(ns.any fun n => decide (n.page = e.2.page)) then (e.1, { e.2 with rsv := false }) else e
  gleaner { d with gr := { d.gr with plots := plots } }

/-! ### Evaluation [16 R313] -/

/-- The claim of pages `gs` of furrow `f`: RSV clears and the plots count as claimed now [17 R335, R336]. -/
def claimPages (f : Nat) (gs : List Nat) (d : Dev) : Dev :=
  forAll gs (fun g d => match plotOf d f g with
    | some p => (d.onP p fun x => { x with rsv := false, stamp := d.gr.stamp }).tickStamp
    | none => d) d

/-- The lowest-numbered FREE slot. -/
def freeSlotNo (d : Dev) : Option Nat := (List.range 64).find? fun k => !(d.sl k).busy

/-- The Sower arms an occurrence of furrow `f` for point `p` at fire time `t`: slot, claim, ARMN, cursor, NEXT [16 R313]. -/
def armSlot (f p t scale : Nat) (q : Rat) (d : Dev) : Dev :=
  match freeSlotNo d with
  | none => d
  | some k =>
    let lead := leadOf d f
    let s := startOf d f
    let pages := pagesFrom d f s
    let d := d.onS k fun _ =>
      { st := .armed, f := f, tfire := t, tset := setMoment t lead, pos := p, lead := lead, bank := fBank d f
        pages := pages, scale := scale, q := q, born := d.ns }
    let d := claimPages f pages d
    let d := if d.b (F.GR_CUR_ADV f) then d.w (F.GR_CUR_START f) (advance d f s) else d
    let d := match fHead d f with
      | some h => queueArmn h k t ((t + tltMod - lead % tltMod) % tltMod) d
      | none => d
    let d := { d with ck := { d.ck with ladder := if d.ck.ladder = .hold then .run else d.ck.ladder } }
    (nextPoint f d).onF f fun u => { u with state := .sown }

/-- The slots that a displacement may take: of each other furrow the latest armed, not yet set. -/
def victims (d : Dev) (f : Nat) : List Nat :=
  (slotsIf d fun s => decide (s.st = .armed ∧ s.f ≠ f)).filter fun k =>
    (slotsIf d fun s => decide (s.st = .armed ∧ s.f = (d.sl k).f)).all fun j =>
      decide (j = k) || decide (sd (d.sl j).tfire (d.sl k).tfire < 0) ||
        (decide ((d.sl j).tfire = (d.sl k).tfire) && decide (j < k))

/-- The pair (furrow, fire time) `a` yields before `b`: lower priority, then later fire time, then higher number [16 R317]. -/
def yields (d : Dev) (a b : Nat × Nat) : Bool :=
  let pa := d.r (F.SWF_CFG_PRI a.1)
  let pb := d.r (F.SWF_CFG_PRI b.1)
  decide (pa < pb) || (decide (pa = pb) && (decide (0 < sd a.2 b.2) || (decide (a.2 = b.2) && decide (b.1 < a.1))))

/-- DISPLACEMENT: the victim's slot, none where the candidate itself is the victim [16 R317]. -/
def victimOf (d : Dev) (f t : Nat) : Option Nat :=
  (victims d f).foldl (fun m k =>
    let best := match m with | none => (f, t) | some j => ((d.sl j).f, (d.sl j).tfire)
    if yields d ((d.sl k).f, (d.sl k).tfire) best then some k else m) none

/-- The Reckoner's answer on the candidate, which sees the ledger after the roll of a boundary in this cycle, and what follows; `next` is the rest
of the loop [16 R313; 19 R367, Collisions]. -/
def decideCand (next : Dev × Nat × Nat → Dev × Nat × Nat) (f p t dl : Nat) (x : Dev × Nat × Nat) : Dev × Nat × Nat :=
  let (d, a, b) := x
  let d := windowRoll d
  let r := admitAt d f t
  let d := admitNote f t r d
  match r with
  | .defer => ((deferPoint f p d).onF f fun u => { u with budget := true }, a, b)
  | .refuse => next (skipPoint f d, a, b + 1)
  | .at s q =>
    let d := if d.ties Dev.fclk (d.nsOf dl) then d.coin Tag.sw else d
    next (armSlot f p t s q d, a, b)

/-- The evaluation's loop over the points of furrow `f`: `a` counts points skipped past their deadline, `b` points
refused [16 R313]. -/
def evalLoop (n f : Nat) (x : Dev × Nat × Nat) : Dev × Nat × Nat :=
  match n with
  | 0 => x
  | n + 1 =>
    let (d, a, b) := x
    let p := (d.fu f).next
    if 4 ≤ (slotsOf d f).length ∨ (d.fu f).more = false then x
    else match fireTime d f p with
      | none => x
      | some (t, far) =>
        let dl := armDeadline d f t
        if (horizon d : Int) < far ∨ (d.r (F.SWF_CFG_SRC f) ≠ 3 ∧ aheadOf p (presentOf d (d.r (F.SWF_CFG_SRC f))) = false) then x
        else if d.over Dev.fclk (d.nsOf dl) then evalLoop n f (skipPoint f d, a + 1, b)
        else if d.ck.ladder = .hold ∧ far < 1000 then evalLoop n f (skipPoint f d, a + 1, b)
        else if holdBits d f ≠ 0 then (deferPoint f p d, a, b)
        else
          let full := decide (64 ≤ armedAll d)
          match (if full then victimOf d f t else none) with
          | none =>
            if full then ((deferPoint f p d).onF f fun u => { u with slots := true }, a, b)
            else decideCand (evalLoop n f) f p t dl (d, a, b)
          | some k => decideCand (evalLoop n f) f p t dl (withdraw true k (d.set F.SW_EV_DISPL), a, b)

/-- More points than one evaluation can meet: the loop ends at the horizon long before. -/
def pointsBound : Nat := 281474976710656

/-- The number of points of furrow `f` passed while NEXT held them [16 R313]. -/
def passedCount (d : Dev) (f : Nat) : Nat :=
  let u := d.fu f
  let x := presentOf d (d.r (F.SWF_CFG_SRC f))
  if u.more = false ∨ aheadOf u.next x ∨ (fEvery d f = 0 ∧ u.wasAhead = false) then 0
  else if fEvery d f = 0 then 1 else (x + tltMod - u.next) % tltMod / fEvery d f + 1

/-- Points passed unarmed are skipped as misses, with one record; those passed in sleep are exempt [16 R313, R321; 03 R53]. -/
def skipPassed (f : Nat) (d : Dev) : Dev :=
  let n := passedCount d f
  let u := d.fu f
  let d := if n = 0 ∨ u.pass = 0 then d else missAdd f n u.pass d
  let x := presentOf d (d.r (F.SWF_CFG_SRC f))
  d.onF f fun u => { u with
    next := (u.next + n * fEvery d f) % tltMod, more := u.more && !(decide (n ≠ 0) && decide (fEvery d f = 0)), pass := passCause d,
    deferred := if n = 0 then u.deferred else u.deferred.filter fun p => !(decide (p = u.next) || aheadOf p u.next) || aheadOf p x,
    wasAhead := u.wasAhead || aheadOf u.next x }

/-- An armed slot that is not yet set is reprojected; beyond the horizon, or with its source stopped or reversed, it is
withdrawn [16 R314]. -/
def reproject (k : Nat) (d : Dev) : Dev :=
  let s := d.sl k
  if s.st ≠ .armed then d
  else match fireTime d s.f s.pos with
    | none => withdraw false k d
    | some (t, far) =>
      if (horizon d : Int) < far then withdraw false k d
      else d.onS k fun s => { s with tfire := t, tset := setMoment t s.lead }

/-- A furrow bound to a position source that does not move forward. -/
def noMotion (d : Dev) (f : Nat) : Bool :=
  decide (d.r (F.SWF_CFG_SRC f) ≠ 3) && (motionOf d (d.r (F.SWF_CFG_SRC f))).isNone

/-- An evaluation ends before its loop: a furrow without slots whose occurrence is done goes to FALLOW, and one that is HELD with no cause left to READY
[16 Table SW-2, R308]; a READY furrow stays READY. -/
def settleStill (f : Nat) (d : Dev) : Dev :=
  let u := d.fu f
  if u.state = .ready ∧ (fEvery d f ≠ 0 ∨ u.more) then d else furrowFreed f d

/-- One evaluation of furrow `f` by the sweep or the refill lane [16 R313]; none from Nap downward [03 R53]. Where it arms nothing, it forms the
needs of the furrow [17 R336]. -/
def evaluate (f : Nat) (d : Dev) : Dev :=
  let u := d.fu f
  if d.ck.ladder ≠ .run ∧ d.ck.ladder ≠ .hold then d
  else if u.state = .fallow ∨ u.state = .faulted then d
  else if u.offp ∨ armingStopped d then formNeeds f d
  else
    let d := d.onF f fun u => { u with budget := false, slots := false }
    let d := if u.rebase then renext f d else d
    let d := forAll (slotsOf d f) reproject d
    let d := skipPassed f d
    if noMotion d f then formNeeds f (settleStill f d)
    else
      let (d, a, b) := evalLoop pointsBound f (d, 0, 0)
      let d := missAdd f b 2 (missAdd f a 1 d)
      let d := if (slotsOf d f).isEmpty then furrowFreed f d else d.onF f fun u => { u with state := .sown }
      formNeeds f d

/-- FURROW_EVALUATION: the sweep reaches furrow `f`. -/
def furrowEvaluation (f : Nat) (d : Dev) : Dev := evaluate f d

/-- REFILL_EVALUATION: the refill lane evaluates the furrow of a slot just freed [16 R313]. -/
def refillEvaluation (f : Nat) (d : Dev) : Dev := evaluate f d

/-! ### Commands [16 R310] -/

/-- The result of a furrow command in SW_FSTAT. -/
def furrowResult (e : Nat) (d : Dev) : Dev := (d.w F.SW_FSTAT_ERR e).set F.SW_FSTAT_DONE

/-- The checks of an ON in their order: 1 ARG, 2 PLOT, 3 AIMING [16 R305, R310]. -/
def onCheck (d : Dev) (f : Nat) : Nat :=
  let b := d.r (F.SWF_CFG_BANK f)
  if 5 < b ∨ d.r (F.SWF_CFG_MASK f) = 0 then 1
  else if ((List.range (d.r (F.SWF_PAGE_PAGESM1 f) + 1)).any fun i =>
      !(d.pte f ((d.r (F.SWF_PAGE_PAGE0 f) + i) % 256)).v) then 2
  else if d.r (F.LD_BSTAT_STATE b) = 2 then 3 else 0

/-- ON: FALLOW or FAULTED goes to READY after its checks; in any other state it cancels a pending OFF [16 R310]. -/
def furrowOn (f : Nat) (d : Dev) : Dev :=
  let u := d.fu f
  if u.state = .fallow ∨ u.state = .faulted then
    let e := onCheck d f
    if e ≠ 0 then furrowResult e d
    else
      let d := d.onF f fun u => { u with state := .ready, offp := false, fcause := 0, pass := passCause d, deferred := [] }
      furrowResult 0 (renext f d)
  else furrowResult 0 (d.onF f fun u => { u with offp := false })

/-- OFF: no occurrence is armed from then on, and the furrow enters FALLOW when its last slot is freed [16 R310]. -/
def furrowOff (f : Nat) (d : Dev) : Dev :=
  let u := d.fu f
  if u.state = .fallow ∨ u.state = .faulted then furrowResult 0 d
  else furrowResult 0 (furrowFreed f (d.onF f fun u => { u with offp := true }))

/-- CLRCNT zeroes MISS, DEFER and OCC [16 R310]. -/
def furrowClr (f : Nat) (d : Dev) : Dev := furrowResult 0 (d.onF f fun u => { u with miss := 0, defer := 0, occ := 0 })

/-- A write of SW_FCMD: the fields are written and the command executes; other codes are ignored [16 Table SW-9]. -/
def fcmdWrite (op f : Nat) (d : Dev) : Dev :=
  let d := (d.w F.SW_FCMD_OP op).w F.SW_FCMD_F f
  if op = 1 then furrowOn f d else if op = 2 then furrowOff f d else if op = 3 then furrowClr f d else d

/-! ### Configuration [16 R303, R304] -/

/-- The fields of configuration word `i` of furrow `f`. -/
def cfgFields (f i : Nat) : List Fld :=
  match i with
  | 0 => [F.SWF_CFG_MASK f, F.SWF_CFG_DIST f, F.SWF_CFG_FAULT f, F.SWF_CFG_CLASS f, F.SWF_CFG_PRI f, F.SWF_CFG_HEADEN f,
          F.SWF_CFG_HEAD f, F.SWF_CFG_BANK f, F.SWF_CFG_SRC f]
  | 1 => [F.SWF_ATL_AT f]
  | 2 => [F.SWF_ATH_AT f]
  | 3 => [F.SWF_EVERY_EVERY f]
  | 4 => [F.SWF_PAGE_CAP f, F.SWF_PAGE_PAGESM1 f, F.SWF_PAGE_PAGE0 f]
  | 5 => [F.SWF_SLACK_SLACK f]
  | _ => []

/-- The fields of furrow `f` that are light-altering [16 R304]. -/
def cfgLight (f : Nat) : List Fld :=
  [F.SWF_CFG_MASK f, F.SWF_CFG_BANK f, F.SWF_PAGE_CAP f, F.SWF_PAGE_PAGESM1 f, F.SWF_PAGE_PAGE0 f]

/-- The fields `l` take their values together, light-altering ones through the headland rule. -/
def spreadAll (light : List Fld) (banks : List Nat) (l : List (Fld × Nat)) (d : Dev) : Dev :=
  writeLights banks (l.filter fun e => light.contains e.1) ((l.filter fun e => !light.contains e.1).foldl (fun d e => d.w e.1 e.2) d)

/-- The fields that the word `w` holds, with their values. -/
def wordFields (fs : List Fld) (w : Nat) : List (Fld × Nat) := fs.map fun x => (x, bitsAt w x.lo x.width)

/-- The word `w` is spread over fields. -/
def spread (light : List Fld) (banks : List Nat) (w : Nat) (fs : List Fld) (d : Dev) : Dev := spreadAll light banks (wordFields fs w) d

/-- A change of FAULT policy clears the furrow's KEEP [17 R340]. -/
def clearKeep (f : Nat) (d : Dev) : Dev :=
  let plots := d.gr.plots.map fun e => if e.2.f = f then (e.1, { e.2 with keep := false }) else e
  { d with gr := { d.gr with plots := plots } }

/-- The banks whose headland new values of furrow `f` wait for: the one that CFG.BANK names after the write; while BANK itself changes the old ones
too [16 R304] (log entry 83). -/
def cfgBanks (d : Dev) (f new : Nat) : List Nat := [fBank d f, d.r (F.SWF_CFG_BANK f), new].dedup

/-- Words `l` of furrow `f`'s configuration, each a place and a value, are written together; while the furrow is SOWN the locked-write rule applies;
light-altering values wait for headlands; the new points are seen at the next evaluation; a furrow that names another port waits for no return of
the one before [16 R303, R304; 12 R240; 20 R396]. -/
def furrowWords (f : Nat) (l : List (Nat × Nat)) (d : Dev) : Dev :=
  if (d.fu f).state = .sown then forAll (l.map Prod.fst) (fun i d => d.lockV Tag.sw (0x40010000 + 64 * f + 4 * i)) d
  else
    let policy := d.r (F.SWF_CFG_FAULT f)
    let src := d.r (F.SWF_CFG_SRC f)
    let port := fHead d f
    let new := match l.find? fun e => decide (e.1 = 0) with | some e => bitsAt e.2 4 3 | none => d.r (F.SWF_CFG_BANK f)
    let d := spreadAll (cfgLight f) (cfgBanks d f new) (l.flatMap fun e => wordFields (cfgFields f e.1) e.2) d
    let d := if d.r (F.SWF_CFG_FAULT f) ≠ policy then clearKeep f d else d
    let d := if fHead d f ≠ port then d.onF f fun u => { u with headWait := false } else d
    let moved := l.any fun e => decide (e.1 = 1 ∨ e.1 = 2 ∨ e.1 = 3)
    if (moved ∨ d.r (F.SWF_CFG_SRC f) ≠ src) ∧ ((d.fu f).state = .ready ∨ (d.fu f).state = .held) then
      d.onF f fun u => { u with rebase := true }
    else d

/-- FURROW_CONFIG_WRITE: word `i` of furrow `f`'s configuration is written. -/
def furrowConfigWrite (f i w : Nat) (d : Dev) : Dev := furrowWords f [(i, w)] d

/-- ST.PEND: light-altering values of furrow `f` wait [16 Table SW-6]. -/
def furrowPend (d : Dev) (f : Nat) : Bool := (cfgLight f).any fun x => (Tab.get? d.com x.key).isSome

/-- The code of a furrow state. -/
def FState.code (s : FState) : Nat :=
  match s with | .fallow => 0 | .ready => 1 | .sown => 2 | .held => 3 | .faulted => 4

/-- ST as read [16 Table SW-6]. -/
def furrowSt (d : Dev) (f : Nat) : Nat :=
  let u := d.fu f
  u.fcause * 2 ^ 16 + holdBits d f * 2 ^ 8 + bit (furrowPend d f) * 2 ^ 7 + bit u.offp * 2 ^ 6 +
    (slotsOf d f).length * 2 ^ 3 + u.state.code

/-- FURROW_NEXT_READ: the read of NEXTL latches NEXTH. -/
def furrowNextRead (f : Nat) (d : Dev) : Dev := d.onF f fun u => { u with nextH := u.next / 2 ^ 32 }

/-- FURROW_LAST_READ: the read of LASTL latches LASTH. -/
def furrowLastRead (f : Nat) (d : Dev) : Dev := d.onF f fun u => { u with lastH := u.last / 2 ^ 32 }

/-- DR_TFIRE_READ: the read of a slot's +0x00 latches [15:0] of +0x04. -/
def drTfireRead (k : Nat) (d : Dev) : Dev := d.onS k fun s => { s with fireH := s.tfire / 2 ^ 32 }

/-- SW_HL: FORCING, PEND and INHL of each bank [16 Table SW-12]. -/
def swHl (d : Dev) : Nat :=
  (List.range 6).foldl (fun m b => m + bit (d.sw.forcing.contains b) * 2 ^ (16 + b) + bit (bankPend d b) * 2 ^ (8 + b) +
    bit (inHeadland d b) * 2 ^ b) 0

/-- FORCED_HEADLAND: bank `b` has waited 10 ms without a headland of 2 µs: FORCE on its furrows, its ARMED slots that are not
set are withdrawn and count as deferred, SET slots fire [16 R322; 01 R21]. -/
def forcedHeadland (b : Nat) (d : Dev) : Dev :=
  match Tab.get? d.sw.waitSince b with
  | none => d
  | some t =>
    if d.ns < t + 10000000 ∨ d.sw.forcing.contains b ∨ bankPend d b = false ∨ headlandOk d b then d
    else
      let d := { d with sw := { d.sw with forcing := d.sw.forcing ++ [b] } }
      commitBank b (forAll (slotsIf d fun s => decide (s.st = .armed ∧ s.bank = b)) (withdraw true) d)

/-- HEADLAND_COMMIT: a headland of bank `b` of at least 2 µs opens [01 R20]. -/
def headlandCommit (b : Nat) (d : Dev) : Dev := commitBank b d

end Sys2Proof.Machine
end

