-- ==== Sys2Proof/Machine/Drill.lean ====
section
/-! DEFINITION. The Drill: the set moment and page faults, firing, pattern steps, pulse ends, pattern faults [16 R318-R323;
17 R330-R341; 18 R348]. -/

namespace Sys2Proof.Machine

/-- The FAULT policy of furrow `f`: 0 skip, 1 fallback, 2 last; 3 acts as skip [16 R305]. -/
def policyOf (d : Dev) (f : Nat) : Nat := if d.r (F.SWF_CFG_FAULT f) = 3 then 0 else d.r (F.SWF_CFG_FAULT f)

/-- The substitute page of furrow `f` that is resident, with its plot [17 Table GR-3]. -/
def substituteOf (d : Dev) (f : Nat) : Option (Nat × Nat) :=
  if policyOf d f = 1 then
    (residentOf d f (d.cv (F.SWF_PAGE_PAGE0 f))).map fun p => (d.cv (F.SWF_PAGE_PAGE0 f), p)
  else if policyOf d f = 2 then
    (d.gr.plots.find? fun e => decide (e.2.st = .resident ∧ e.2.f = f) && e.2.keep).map fun e => (e.2.page, e.1)
  else none

/-- A page fault on page `g` is late: the page LOADING or its need waiting for a place [17 Table GR-4]. -/
def faultLate (d : Dev) (f g : Nat) : Bool :=
  (plotOf d f g).isSome ||
    (!(d.pte f g).err && ((d.fu f).needs.any fun n => decide (n.page = g)) &&
      (decide (8 ≤ d.gr.places.length) || (choosePlot d).isSome))

/-- PAGE_FAULT: the occurrence of slot `k` meets page `g` not resident at its set moment: the count, the event and its
record, then the furrow's policy [17 R339, R341]. Without a substitute it acts as SKIP, which is the policy that the record names. DEDUCED [log 79]. -/
def pageFault (k g : Nat) (d : Dev) : Dev :=
  let f := (d.sl k).f
  let late := faultLate d f g
  let d := (d.inc F.GR_CNT_FAULTS).set (if late then F.GR_EV_LATE else F.GR_EV_FAULT)
  let d := if d.b (if late then F.GR_QEN_LATE else F.GR_QEN_FAULT) then
      evRecord Tag.gr (if late then 1 else 3) f (g + 256 * (if (substituteOf d f).isSome then policyOf d f else 0)) d else d
  match substituteOf d f with
  | some (h, p) => d.onS k fun s => { s with st := .set, pages := [h], plots := [p], sub := true }
  | none => missSlot 1 k d

/-- Page `g` of furrow `f` became resident no later than in the FCLK cycle of model time `t` [17 R338; 09 R185]. -/
def residentBy (d : Dev) (f t g : Nat) : Option Nat := (residentOf d f g).filter fun p => decide (d.fclk (d.pl p).came ≤ d.fclk t)

/-- SLOT_SET: slot `k` reaches its set moment: the Drill takes the plots of its span, or meets a page fault once the FCLK cycle of the set moment is
over, in which a page may still arrive [17 R338, R339; 09 R185]. -/
def slotSet (k : Nat) (d : Dev) : Dev :=
  let s := d.sl k
  if s.st ≠ .armed ∨ d.reached s.tset = false then d
  else
    match s.pages.find? fun g => (residentBy d s.f (d.nsOf s.tset) g).isNone with
    | some g => if d.over Dev.fclk (d.nsOf s.tset) then pageFault k g d else d
    | none => d.onS k fun s => { s with st := .set, plots := s.pages.filterMap (residentOf d s.f) }

/-- Another SET slot of the bank shares the fire time and fires instead: of higher priority, or of equal priority and a
lower furrow number [16 R320]. -/
def outranked (d : Dev) (k : Nat) : Bool :=
  let s := d.sl k
  d.sw.slots.any fun e =>
    decide (e.1 ≠ k ∧ e.2.st = .set ∧ e.2.bank = s.bank ∧ e.2.tfire = s.tfire) &&
      (decide (d.r (F.SWF_CFG_PRI s.f) < d.r (F.SWF_CFG_PRI e.2.f)) ||
        (decide (d.r (F.SWF_CFG_PRI s.f) = d.r (F.SWF_CFG_PRI e.2.f)) && decide (e.2.f < s.f)))

/-- The start page of an occurrence fired from its own pages under policy LAST receives KEEP [17 R340]. -/
def keepStart (k : Nat) (d : Dev) : Dev :=
  let s := d.sl k
  if policyOf d s.f = 2 ∧ s.sub = false then
    match s.plots.head? with
    | some p => (clearKeep s.f d).onP p fun x => { x with keep := true }
    | none => d
  else d

/-- The causes an occurrence takes at its fire time: its source's freeze, or a disturbed ring [19 R372]. -/
def fireCauses (k : Nat) (d : Dev) : Dev :=
  let src := d.r (F.SWF_CFG_SRC (d.sl k).f)
  let d := match inputOf d src with
    | some n => if d.b (F.EN_STAT_FROZEN n) then disturb false k d else d
    | none => d
  if src = 2 ∧ ringDisturbed d ∧ (d.sl k).st = .firing then disturb true k d else d

/-- SLOT_FIRE: slot `k` reaches its fire time: its occurrence starts, unless another one of the bank is FIRING or takes
the same time with precedence: then it is freed unfired as a miss with cause hold [16 R318, R320, R324]. -/
def slotFire (k : Nat) (d : Dev) : Dev :=
  let s := d.sl k
  if s.st ≠ .set ∨ d.reached s.tfire = false ∨ darkened d then d
  else if bankFiring d s.bank ∨ outranked d k then missSlot 2 k (d.set F.DR_EV_CANCEL)
  else
    let start := d.ns - (sd d.tlt s.tfire).toNat
    let d := d.onS k fun s => { s with st := .firing, start := start, step := 0, pulse := false, prev := none }
    let d := gapEnds s.bank d
    let d := pointDone s.f s.pos (d.onF s.f fun u => { u with occ := sat32 (u.occ + 1), last := s.tfire })
    let d := ((d.addSat F.DR_FIRED_COUNT 1).set F.DR_EV_FIRED).w F.DR_STAT_LASTK k
    let d := if s.sub then d.set F.GR_EV_SUBST else d
    fireCauses k (keepStart k (peFire d))

/-- DEAD of bank `b`, committed, 50 to 1 000 ns [18 R359]. -/
def deadOf (d : Dev) (b : Nat) : Nat := clampCv d (F.LD_BCFG_DEAD b) 50 1000

/-- A step that the Drill declares invalid [17 R332]. -/
def stepInvalid (d : Dev) (b : Nat) (prev : Option Step) (x : Step) : Bool :=
  decide (x.width < 100) || decide (x.rsvd ≠ 0) ||
    (match prev with
      | some y => x.scanEn && y.scanEn && decide (x.scan ≠ y.scan) && decide (y.gap < deadOf d b)
      | none => false)

/-- PATTERN_FAULT: the occurrence of slot `k` ends at once, the furrow becomes FAULTED with cause `c`, its other slots are
freed and counted in SW_WDRAW, and the FAULT cause is raised [16 R323]. -/
def patternFault (c k : Nat) (d : Dev) : Dev :=
  let s := d.sl k
  let page := (s.pages[s.step / 64]?).getD 0
  let d := occEnd true k d.ns d
  let d := forAll (slotsOf d s.f) (withdraw false) d
  let d := d.onF s.f fun u => { u with state := .faulted, offp := false, fcause := c, needs := [] }
  let d : Dev := { d with gr := { d.gr with plots := d.gr.plots.map fun e =>
    if e.2.f = s.f ∧ e.2.st ≠ .free then (e.1, { e.2 with rsv := false }) else e } }
  let d := d.set F.SW_EV_FAULT
  if d.b F.SW_QEN_FAULT then
    if c = 1 then evRecord Tag.sw 0x10 s.f (page * 64 + s.step % 64) d
    else evRecord Tag.sw 0x11 s.f (d.cv (F.SWF_PAGE_PAGESM1 s.f) + 1) d
  else d

/-- The code a lit channel is driven at: floor(min(LEVEL, CFG.CAP, the channel's cap) × SCALE / 1 024) [17 R330]. -/
def chanCode (d : Dev) (s : Slot) (x : Step) (c : Nat) : Nat :=
  min x.level (min (d.cv (F.SWF_PAGE_CAP s.f)) (d.cv (F.LD_CHCFG_CAP c))) * s.scale / 1024

/-- The VGD supply of bank `b`: 0 for banks 0 to 2, 1 for banks 3 to 5 [18; 23 R450]. -/
def vgdOf (b : Nat) : Nat := b / 3

/-- The booster code of a step: floor(min(BLEVEL, BCAP) × SCALE / 1 024), above 4000 as 4000 [18 R352]. -/
def boostCode (d : Dev) (s : Slot) (x : Step) : Nat :=
  min 4000 (min x.blevel (d.cv (F.LD_BBST_BCAP s.bank)) * s.scale / 1024)

/-- The step at place `i` of the occurrence of slot `k`; none beyond its span. -/
def occStep (d : Dev) (k i : Nat) : Option Step :=
  match ((d.sl k).plots)[i / 64]? with
  | some p => some (stepAt d p (i % 64))
  | none => none

/-- A scan line may be asserted by bank `b` now: its other line was released at least DEAD ago [18 R349]. -/
def deadPast (d : Dev) (b r : Nat) : Bool :=
  match (d.bo b).released with
  | some (x, t) => decide (x = r) || decide (t + deadOf d b ≤ d.ns)
  | none => true

/-- The channels that the step lights: CHMASK AND CFG.MASK, in service, on a bank in service [17 R330; 18 R348]. -/
def litChans (d : Dev) (s : Slot) (x : Step) : List Nat :=
  if d.r (F.LD_BSTAT_STATE s.bank) = 1 then []
  else (chansOf s.bank (x.chmask &&& fMask d s.f)).filter fun c => chanIn d c && decide (chanCode d s x c ≠ 0)

/-- PATTERN_STEP_START: the next step of the occurrence of slot `k` starts: an invalid one is a pattern fault; else its
channels, booster and scan line are driven and its exposure check begins [17 R331, R332; 18 R348; 20 R384]. -/
def patternStepStart (k : Nat) (d : Dev) : Dev :=
  let s := d.sl k
  if s.st ≠ .firing ∨ s.pulse ∨ d.ns < s.start then d
  else match occStep d k s.step with
    | none => patternFault 2 k d
    | some x =>
      if stepInvalid d s.bank s.prev x then patternFault 1 k d
      else
        let lit := litChans d s x
        let bank := decide (d.r (F.LD_BSTAT_STATE s.bank) ≠ 1)
        let d := forAll lit (fun c d => sinkOn c (chanCode d s x c) s.start d) d
        let boosted := x.boost && bank && !d.ld.vgdLow.contains (vgdOf s.bank)
        let d := if boosted then
            d.onB s.bank fun o => { o with boost := boostCode d s x, boostSince := s.start } else d
        let d := if bank then d.set (F.LD_BSTAT_LIT s.bank) else d
        let d := if x.scanEn && bank && deadPast d s.bank x.scan then assertLine s.bank x.scan d else d
        let d := match fHead d s.f with
          | some p =>
            if x.trg ∧ (s.trigs.any fun e => decide (e.1 = s.step)) ∧ d.b (F.HP_CTL_XEN p) ∧ (lit ≠ [] ∨ (boosted ∧ (d.bo s.bank).boost ≠ 0)) then
              let t := (d.tlt + tltMod - (d.ns - s.start) % tltMod) % tltMod
              d.onH p fun h => { h with checks := h.checks ++ [(⟨s.f, k, t, none⟩ : Check)] }
            else d
          | none => d
        d.onS k fun s => { s with pulse := true, cur := x, ext := 0, tripped := false }

/-- The extension of the present pulse for a short time `short`: under COMPENSATE after a trip, at most
floor(WIDTH / 4) [19 R375]. -/
def extension (d : Dev) (s : Slot) (short : Nat) : Nat :=
  if s.sag ∧ fDist d s.f = 1 then min short (s.cur.width / 4) else 0

/-- PULSE_END: the pulse of slot `k` ends at its start plus WIDTH plus its extension: sinks, booster and scan line go off;
the LAST step ends the occurrence, another one is followed by the next step after GAP, and the end of the span without
LAST is a pattern fault [17 R331; 18 R348, R349; 16 R323]. -/
def pulseEnd (k short : Nat) (d : Dev) : Dev :=
  let s := d.sl k
  let ext := extension d s short
  let t := s.start + s.cur.width + ext
  if s.st ≠ .firing ∨ s.pulse = false ∨ d.ns < t then d
  else
    let d := pulseStop k t d
    if s.cur.last then occEnd false k t d
    else
      match occStep d k (s.step + 1) with
      | none => patternFault 2 k d
      | some y =>
        let keepLine := y.scanEn && s.cur.scanEn && decide (y.scan = s.cur.scan)
        let d := if s.cur.scanEn && !keepLine then releaseLine s.bank s.cur.scan t d else d
        d.onS k fun s => { s with start := t + s.cur.gap, prev := some s.cur, ext := ext }

/-- Every occurrence in flight and every aiming pulse ends: sinks off, boosters low, lines released, triggers to 0
[03 R61]. -/
def endAllLight (d : Dev) : Dev :=
  let d := forAll (slotsIf d fun s => decide (s.st = .firing)) (fun k d => occEnd true k d.ns d) d
  let d := forAll (List.range 6) (fun b d =>
    forAll ((d.bo b).aim.map Prod.fst) (fun c d => sinkOff c d.ns d)
      ((d.w (F.LD_BSTAT_LIT b) 0).onB b fun o => { o with aim := [] })) d
  forAll (List.range 6) (fun p d => d.onH p fun h => { h with trig := false }) d

/-- The scan lines that the banks `l` assert are released. -/
def releaseLines (l : List Nat) (d : Dev) : Dev :=
  forAll l (fun b d => forAll (d.bo b).lines (fun r d => releaseLine b r d.ns d) d) d

/-- All light and trigger outputs go to their reset states: every scan line is released too [03 R62; 06 Table TP-2]. -/
def lightOff (d : Dev) : Dev := releaseLines (List.range 6) (endAllLight d)

/-- Every armed slot is cancelled, each occurrence a miss with cause `c` [16 R321]. -/
def cancelAll (c : Nat) (d : Dev) : Dev :=
  forAll (slotsIf d fun s => decide (s.st = .armed ∨ s.st = .set)) (missSlot c) d

/-- SW_COUNT_CLEAR: a write of SW_MISS, SW_DEFER or SW_WDRAW clears the count written. -/
def swCountClear (i : Nat) (d : Dev) : Dev :=
  if i = 0 then d.w F.SW_MISS_COUNT 0 else if i = 1 then d.w F.SW_DEFER_COUNT 0 else d.w F.SW_WDRAW_COUNT 0

/-- SW_FHL_CLEAR: a write of SW_FHLb clears it. -/
def swFhlClear (b : Nat) (d : Dev) : Dev := d.w (F.SW_FHL_COUNT b) 0

/-- DR_FIRED_CLEAR: a write of DR_FIRED clears it. -/
def drFiredClear (d : Dev) : Dev := d.w F.DR_FIRED_COUNT 0

/-- The code of a slot state. -/
def SlotSt.code (s : SlotSt) : Nat := match s with | .free => 0 | .armed => 1 | .set => 2 | .firing => 3

/-- Word `i` of slot `k` as read [16 Table DR-1]. -/
def slotWord (d : Dev) (k i : Nat) : Nat :=
  let s := d.sl k
  match i with
  | 0 => s.tfire % 2 ^ 32
  | 1 => bit s.rev * 2 ^ 27 + s.st.code * 2 ^ 24 + s.f * 2 ^ 16 + s.fireH
  | 2 => s.tset % 2 ^ 32
  | 3 => s.tset / 2 ^ 32
  | 4 => s.pos % 2 ^ 32
  | 5 => s.pos / 2 ^ 32
  | 6 => (s.plots.head?).getD 0 * 2 ^ 16 + s.scale
  | _ => 0

/-- DR_STAT: SETN and ARMED follow the slots [16 Table DR-2]. -/
def drStatLive (d : Dev) : Nat :=
  (slotsIf d fun s => decide (s.st = .set ∨ s.st = .firing)).length * 2 ^ 8 + armedAll d

end Sys2Proof.Machine
end

