-- ==== Sys2Proof/Machine/Led.lean ====
section
/-! DEFINITION. The LED channels, boosters and scan lines: faults, returns, aiming [18]. -/

namespace Sys2Proof.Machine

/-- SLEAD of bank `b`, at most 1 000 ns [18 R359]. -/
def sleadOf (d : Dev) (b : Nat) : Nat := clampCv d (F.LD_BSCN_SLEAD b) 0 1000

/-- The start of step `i` of the occurrence of slot `k` in model time: the steps before it take WIDTH and GAP [17 R331]. -/
def stepStart (d : Dev) (k i : Nat) : Int :=
  let s := d.sl k
  let base : Int := if s.st = .firing then s.start else d.nsOf s.tfire
  let add : Int → Nat → Int := fun t j => match occStep d k (s.step + j) with
    | some x => t + x.width + x.gap
    | none => t
  (List.range (i - s.step)).foldl add base

/-- The bank of slot `k` asserts the line of the occurrence's next step from its start less SLEAD on, not
before DEAD has passed since it released another line, and for step 0 not while another occurrence of the bank is
FIRING [18 R349]. -/
def lineAssert (k : Nat) (d : Dev) : Dev :=
  let s := d.sl k
  if (s.st ≠ .set ∧ s.st ≠ .firing) ∨ (s.st = .set ∧ bankFiring d s.bank) ∨ d.r (F.LD_BSTAT_STATE s.bank) = 1 ∨ darkened d then d
  else match occStep d k s.step with
    | none => d
    | some x =>
      if x.scanEn ∧ stepStart d k s.step - sleadOf d s.bank ≤ d.ns ∧ deadPast d s.bank x.scan then
        assertLine s.bank x.scan d
      else d

/-- SCAN_ASSERT: the scan line of slot `k`'s next step is asserted. A trip that ended the occurrence in this TCLK cycle does not keep the line from
its assertion; it then goes off with the rest [18 R349; 09 R457]. -/
def scanAssert (k : Nat) (d : Dev) : Dev :=
  match (List.range 6).findSome? fun b => (d.bo b).cut.filter fun x => decide (x.1 = d.ns ∧ x.2.1 = k) with
  | some (_, _, s) => releaseLines [s.bank] ((lineAssert k (d.onS k fun _ => s)).onS k fun _ => d.sl k)
  | none => lineAssert k d

/-- SCAN_OVERLOAD: line `r` asserted for 200 ns or longer stays above 1.0 V: its OVL bit, SCOVL and a record; it stays
asserted [18 R351]. -/
def scanOverload (r : Nat) (d : Dev) : Dev :=
  if (assertedLines d).contains r ∧ (Tab.getD d.ld.lineSince r 0) + 200 ≤ d.ns then
    let d := (d.orBit F.LD_SCSTAT_OVL r).set F.LD_EV_SCOVL
    if bitAt (d.r F.LD_QEN_CAUSE) 5 then evRecord Tag.ld 6 r 0 d else d
  else d

/-- The furrow that a pulse of bank `b` belongs to, 0xFFFF for an aiming pulse [18 Table LD-1]. -/
def pulseOwner (d : Dev) (b : Nat) : Nat := match firingOn d b with | some k => (d.sl k).f | none => 0xFFFF

/-- Bank `b`'s last aiming pulse has ended: the gap is a headland [18 R360]. -/
def aimGap (b : Nat) (d : Dev) : Dev := if (d.bo b).aim.isEmpty then commitBank b (d.w (F.LD_BSTAT_LIT b) 0) else d

/-- Channel `c` goes out of service in state `st` (2 OPEN, 3 SHORT), its sink off; a pending OFF of it is discarded [18 R357, R358]. -/
def chanDown (c st : Nat) (d : Dev) : Dev :=
  let d := match firingOn d (c / 8) with
    | some k => if (d.sl k).pulse then pulseSinkOff k d.ns c d else d
    | none => d
  let d := sinkOff c d.ns d
  let d := d.onB (c / 8) fun o => { o with aim := o.aim.filter fun x => x.1 ≠ c }
  dropPend (.chanOff c) (if chanIn d c then d.w (F.LD_CHSTAT_STATE c) st else d)

/-- A fault of channel `c`: it and every member of its parallel group go out of service, members not found open read
SHORT; its fault bit, its count and a record [18 R347, R357]. -/
def chanFault (opens : List Nat) (st c : Nat) (d : Dev) : Dev :=
  let owner := pulseOwner d (c / 8)
  let aimed := !(d.bo (c / 8)).aim.isEmpty
  let mates := (groupOf d c).filter (· ≠ c)
  let d := chanDown c st d
  let d := forAll mates (fun x d => chanDown x (if opens.contains x then 2 else 3) d) d
  let d := if c < 32 then d.orBit F.LD_CFLT0_CH c else d.orBit F.LD_CFLT1_CH (c - 32)
  let d := d.inc (if st = 2 then F.LD_CHCNT_OPENS c else F.LD_CHCNT_SHORTS c)
  let d := if bitAt (d.r F.LD_QEN_CAUSE) (st - 2) then evRecord Tag.ld (st - 1) c owner d else d
  if aimed then aimGap (c / 8) d else d

/-- The start of the pulse that drives bank `b` now, and whether its comparator has tripped in it or is tripped still [18 R355]. -/
def pulseOn (d : Dev) (b : Nat) : Option (Nat × Bool) :=
  match firingOn d b with
  | some k => if (d.sl k).pulse then some ((d.sl k).start, (d.sl k).tripped || d.b (F.BD_BSAG_TRIP b)) else none
  | none => if (d.bo b).aim.isEmpty then none else some ((d.bo b).aimStart, d.b (F.BD_BSAG_TRIP b))

/-- RISE_WINDOW_END: 100 ns after the start of bank `b`'s pulse: `reg` are the sinks in regulation, `low` those whose pin
is below 0.25 V. A driven sink's REG follows; one of code 40 or more that is low and out of regulation is open, unless
the comparator tripped in the pulse [18 R346, R355, R357]. -/
def riseWindowEnd (b reg low : Nat) (d : Dev) : Dev :=
  match pulseOn d b with
  | none => d
  | some (start, tripped) =>
    if d.ns < start + 100 then d
    else
      let on := (chansOf b 0xFF).filter fun c => (d.sink c).code ≠ 0
      let d := forAll on (fun c d => d.w (F.LD_CHSTAT_REG c) (bit (bitAt reg (c % 8)))) d
      let opens := if tripped then [] else on.filter fun c =>
        decide (40 ≤ (d.sink c).code) && !bitAt reg (c % 8) && bitAt low (c % 8)
      forAll opens (chanFault opens 2) d

/-- SHORT_DETECTED: channel `c`'s pin has stayed above VSHORT for 50 ns since the rise window of its pulse ended [18 R356, R357]. -/
def shortDetected (c : Nat) (d : Dev) : Dev :=
  match pulseOn d (c / 8) with
  | none => d
  | some (start, _) => if (d.sink c).code = 0 ∨ d.ns < start + 150 then d else chanFault [] 3 c d

/-- A booster fault of bank `b` (2 open, 3 overcurrent): the occurrence ends, the bank goes fallow, BFLT and a record
[18 R354]. -/
def boosterFault (b cause : Nat) (d : Dev) : Dev :=
  let owner := pulseOwner d b
  let d := match firingOn d b with
    | some k => occEnd true k d.ns d
    | none => d
  let d := (d.w (F.LD_BSTAT_STATE b) 1).w (F.LD_BSTAT_FCAUSE b) cause
  let d := dropPend (.bankOff b) d
  let d := d.orBit F.LD_EV_BFLT b
  if bitAt (d.r F.LD_QEN_CAUSE) cause then evRecord Tag.ld (cause + 1) b owner d else d

/-- BRISE of bank `b`, 100 to 1 000 ns [18 R359]. -/
def briseOf (d : Dev) (b : Nat) : Nat := clampCv d (F.LD_BBST_BRISE b) 100 1000

/-- The gates of bank `b` are held low by an undervoltage of its VGD supply [23 R450]. -/
def gateHeld (d : Dev) (b : Nat) : Bool := d.ld.vgdLow.contains (vgdOf b)

/-- The setpoint of bank `b`'s booster in the pulse of slot `k`. -/
def boostGoal (d : Dev) (b k : Nat) : Nat := if gateHeld d b ∧ (d.sl k).cur.boost then boostCode d (d.sl k) (d.sl k).cur else (d.bo b).boost

/-- The booster pulse of bank `b` that is checked: code at least 200, with its slot [18 R354]. -/
def boostPulse (d : Dev) (b : Nat) : Option Nat :=
  match firingOn d b with
  | some k => if (d.sl k).pulse ∧ 200 ≤ boostGoal d b k then some k else none
  | none => none

/-- BOOSTER_CHECK: at the earlier of start plus BRISE and the pulse end, with `sense` µV across Rs: below 25 % of the
setpoint it is open, as with a gate held low; else BREG says whether it is at least 90 % [18 R354; 23 R450]. -/
def boosterCheck (b sense : Nat) (d : Dev) : Dev :=
  match boostPulse d b with
  | none => d
  | some k =>
    let s := d.sl k
    let goal := 50 * boostGoal d b k
    if d.ns < s.start + min (briseOf d b) s.cur.width then d
    else if gateHeld d b ∨ 4 * sense < goal then boosterFault b 2 d
    else d.w (F.LD_BSTAT_BREG b) (bit (decide (9 * goal ≤ 10 * sense)))

/-- VGD_UNDERVOLTAGE: supply `i` is low, and the gates of its boosters are held low [23 R450]. -/
def vgdUndervoltage (i : Nat) (d : Dev) : Dev :=
  let d := { d with ld := { d.ld with vgdLow := if d.ld.vgdLow.contains i then d.ld.vgdLow else d.ld.vgdLow ++ [i] } }
  forAll [3 * i, 3 * i + 1, 3 * i + 2] (fun b d => match firingOn d b with | some k => boostOff k b d.ns d | none => d) d

/-- VGD_UNDERVOLTAGE_END: supply `i` is back above its undervoltage level. -/
def vgdUndervoltageEnd (i : Nat) (d : Dev) : Dev := { d with ld := { d.ld with vgdLow := d.ld.vgdLow.filter (· ≠ i) } }

/-- BOOSTER_OVERCURRENT: `sense` µV exceed 1.5 × the setpoint + 10 mV, or 250 mV, for 50 ns [18 R354]. -/
def boosterOvercurrent (b sense : Nat) (d : Dev) : Dev :=
  match boostPulse d b with
  | none => d
  | some _ =>
    if gateHeld d b = false ∧ (3 * (50 * (d.bo b).boost) + 20000 < 2 * sense ∨ 250000 < sense) then boosterFault b 3 d else d

/-- LD_CHCMD_ON: an out-of-service channel returns at its bank's next headland [18 R358]. -/
def chanOnCmd (c : Nat) (d : Dev) : Dev := if chanIn d c then d else addChange [c / 8] (.chanOn c) d

/-- LD_CHCMD_OFF: a channel in service goes out of service at its bank's next headland [18 R358]. -/
def chanOffCmd (c : Nat) (d : Dev) : Dev := if chanIn d c then addChange [c / 8] (.chanOff c) d else d

/-- A write of LD_CHCMDc: both bits together are ignored [18 R358]. -/
def chCmdWrite (c v : Nat) (d : Dev) : Dev :=
  if bitAt v 0 && bitAt v 1 then d else if bitAt v 0 then chanOnCmd c d else if bitAt v 1 then chanOffCmd c d else d

/-- LD_BCMD_ON: a fallow bank returns at its next headland [18 R358]. -/
def bankOnCmd (b : Nat) (d : Dev) : Dev :=
  if d.r (F.LD_BSTAT_STATE b) = 1 then addChange [b] (.bankOn b) d else d

/-- LD_BCMD_OFF: a bank in service goes fallow at its next headland [18 R358]. -/
def bankOffCmd (b : Nat) (d : Dev) : Dev :=
  if d.r (F.LD_BSTAT_STATE b) = 1 then d else addChange [b] (.bankOff b) d

/-- A write of LD_BCMDb: both bits together are ignored [18 R358]. -/
def bCmdWrite (b v : Nat) (d : Dev) : Dev :=
  if bitAt v 0 && bitAt v 1 then d else if bitAt v 0 then bankOnCmd b d else if bitAt v 1 then bankOffCmd b d else d

/-- LD_CHCNT_CLEAR: a write of LD_CHCNTc clears both counts. -/
def chCntClear (c : Nat) (d : Dev) : Dev := (d.w (F.LD_CHCNT_SHORTS c) 0).w (F.LD_CHCNT_OPENS c) 0

/-- AIMING_ADMISSION of channel `c` at the period start `t` (TLT), model time `n`: driven at its CAP code for DUTY ns, or
skipped for the period and counted [18 R360; 19 R368]. -/
def aimChannel (t n c : Nat) (d : Dev) : Dev :=
  let b := c / 8
  let code := d.cv (F.LD_CHCFG_CAP c)
  let q := sinkCharge code (dutyOf d c)
  if (d.r (F.BD_BTH_TMAX b) : Rat) ≤ testOf d c ∨ roomOf d b t < q then d.incWrap F.BD_ASKIP_COUNT
  else
    let d := sinkOn c code n (book b t q d)
    (d.set (F.LD_BSTAT_LIT b)).onB b fun o => { o with aim := o.aim ++ [(c, n + dutyOf d c)], aimStart := n }

/-- AIMING_PERIOD_START: at a TLT multiple of 65 536 every channel in service with DUTY above 0 of a bank in aiming mode
starts its pulse; none while the PLL is unlocked [18 R360]. -/
def aimingPeriodStart (d : Dev) : Dev :=
  let p := d.tlt / 65536
  if d.ld.aimPeriod = p + 1 ∨ unlockHold d ∨ darkened d ∨ (d.ck.ladder ≠ .run ∧ d.ck.ladder ≠ .hold) then d
  else
    let d := windowRoll { d with ld := { d.ld with aimPeriod := p + 1 } }
    let n := d.ns - d.tlt % 65536
    let cs := (List.range 48).filter fun c =>
      decide (d.r (F.LD_BSTAT_STATE (c / 8)) = 2 ∧ dutyOf d c ≠ 0) && chanIn d c
    forAll cs (aimChannel (p * 65536) n) d

/-- AIMING_PULSE_END: channel `c`'s aiming pulse has lasted DUTY ns; the bank's last one opens its headland [18 R360]. -/
def aimingPulseEnd (c : Nat) (d : Dev) : Dev :=
  let b := c / 8
  match (d.bo b).aim.find? fun x => decide (x.1 = c) with
  | none => d
  | some (_, t) =>
    if d.ns < t then d
    else
      aimGap b ((sinkOff c t d).onB b fun o => { o with aim := o.aim.filter fun x => x.1 ≠ c })

/-- The banks and bits of an LD register that are light-altering, written through the headland rule [18 R359]. -/
def bankFields (b : Nat) : List Fld :=
  [F.LD_BCFG_VSHORT b, F.LD_BCFG_DEAD b, F.LD_BSCN_SLEAD b, F.LD_BSCN_ASCANEN b, F.LD_BSCN_ASCAN b, F.LD_BBST_BRISE b,
   F.LD_BBST_BCAP b, F.BD_BCFG_QLIM b, F.BD_BCFG_SAG b, F.BD_BCFG_SBLANK b]

/-- The light-altering fields of channel `c` [18 R359]. -/
def chanFields (c : Nat) : List Fld := [F.LD_CHCFG_DUTY c, F.LD_CHCFG_PGRP c, F.LD_CHCFG_CAP c]

/-- LD_CHSTATc.PEND [18 Table LD-11]. -/
def chanPend (d : Dev) (c : Nat) : Bool :=
  ((chanFields c).any fun x => (Tab.get? d.com x.key).isSome) ||
    d.sw.pend.any fun p => decide (p.change = .chanOn c) || decide (p.change = .chanOff c)

/-- LD_BSTATb.PEND [18 Table LD-5]. -/
def bankUnitPend (d : Dev) (b : Nat) : Bool :=
  ((bankFields b).any fun x => (Tab.get? d.com x.key).isSome) ||
    d.sw.pend.any fun p => decide (p.change = .bankOn b) || decide (p.change = .bankOff b)

end Sys2Proof.Machine
end

