-- ==== Sys2Proof/Machine/Head.lean ====
section
/-! DEFINITION. The head ports: triggers, exposure checks, presence, the sideband, hitching and leaving service [20]. -/

namespace Sys2Proof.Machine

/-- HPn_LEAD [20 R381]. -/
def hpLead (d : Dev) (p : Nat) : Nat := (d.r (F.HP_LAT_LAT p) + d.r (F.HP_TCFG_SKEW p)) % 2 ^ 32

/-- The furrows whose head port is `p`. -/
def furrowsOf (d : Dev) (p : Nat) : List Nat := (List.range 256).filter fun f => decide (fHead d f = some p)

/-! ### Triggers and exposure [20 R382-R384] -/

/-- The ARMN messages of slot `k` still queued at port `p` are stale: discarded and counted [20 R389]. -/
def armnStale (p k : Nat) (d : Dev) : Dev :=
  let mine : Notice → Bool := fun x => !x.disarm && decide (x.slot = k)
  if (d.head p).notices.any mine then
    (d.onH p fun h => { h with notices := h.notices.filter fun x => !mine x }).addSat (F.HP_CNT_ASTALE p)
      ((d.head p).notices.filter mine).length
  else d

/-- A trigger of port `p` at model time `t` is suppressed: nothing driven, PERIOD, SUPP and a record [20 R383]. -/
def triggerSuppress (p k i : Nat) (t : Int) (d : Dev) : Dev :=
  let d := d.onS k fun s => { s with supp := s.supp ++ [i] }
  let d := (d.set (F.HP_STAT_PERIOD p)).inc (F.HP_CNT_SUPP p)
  if bitAt (d.r F.HP_QEN_CAUSE) 3 then
    evRecordAt Tag.hp 4 p (((d.tlt : Int) + (t - d.ns)) % (tltMod : Int)).toNat (d.sl k).f d
  else d

/-- The trigger of port `p` is driven for step `i` of slot `k` from model time `t` on [20 R382]. -/
def triggerDrive (p k i : Nat) (t : Int) (d : Dev) : Dev :=
  let w := max (d.r (F.HP_TCFG_TWID p)) 100
  (d.onH p fun h => { h with trig := true, trigEnd := t + w, lastTrig := some t }).onS k fun s =>
    { s with trigs := s.trigs ++ [(i, t.toNat)] }

/-- TRIGGER_ASSERT: the trigger of step `i` of the occurrence of slot `k` reaches its time, the step's start less the lead:
its ARMN, not started, is stale; less than PERIOD after the port's previous trigger it is suppressed, else driven [20 R382,
R383, R389]. -/
def triggerAssert (k i : Nat) (d : Dev) : Dev :=
  let s := d.sl k
  match fHead d s.f, occStep d k i with
  | some p, some x =>
    let t := stepStart d k i - s.lead
    if (s.st ≠ .set ∧ s.st ≠ .firing) ∨ x.trg = false ∨ (s.trigs.any fun e => decide (e.1 = i)) ∨ s.supp.contains i ∨ (d.ns : Int) < t ∨
        portOn d p = false ∨ i < s.step ∨ darkened d then d
    else
      let d := armnStale p k d
      match (d.head p).lastTrig with
      | some u => if t < u + d.r (F.HP_PER_PERIOD p) then triggerSuppress p k i t d else triggerDrive p k i t d
      | none => triggerDrive p k i t d
  | _, _ => d

/-- TRIGGER_END: the trigger returns to 0 after TWID ns [20 R382]. -/
def triggerEnd (p : Nat) (d : Dev) : Dev :=
  if (d.head p).trig ∧ (d.head p).trigEnd ≤ d.ns then d.onH p fun h => { h with trig := false } else d

/-- A checked step is a miss: EXPMISS, MISSES and a record; `partly` says that EXP was 1 in some cycle [20 R384]. -/
def exposureMiss (p : Nat) (c : Check) (partly : Bool) (d : Dev) : Dev :=
  let d := (d.set (F.HP_STAT_EXPMISS p)).inc (F.HP_XCNT_MISSES p)
  if bitAt (d.r F.HP_QEN_CAUSE) 0 then evRecordAt Tag.hp 1 p c.tlt (c.f + 256 * bit partly) d else d

/-- EXPOSURE_CHECK: the window of port `p`'s oldest check has ended; `cover` says in how many of its TCLK cycles EXP was 1
(0 none, 1 some, 2 all), `tie` that EXP rose in its first cycle, which counts as covered and is recorded [20 R384; 09
R186]. -/
def exposureCheck (p cover : Nat) (tie : Bool) (d : Dev) : Dev :=
  match (d.head p).checks with
  | [] => d
  | c :: r =>
    match c.stop with
    | none => d
    | some t =>
      if d.ns < t then d
      else
        let d := (d.onH p fun h => { h with checks := r }).inc (F.HP_XCNT_CHECKS p)
        if tie then (d.set (F.HP_STAT_XCOIN p)).coin Tag.hp
        else if 2 ≤ cover then d
        else exposureMiss p c (decide (cover = 1)) d

/-! ### Hitching [20 R393] -/

/-- A hitch of port `p` ends: HITCH and a record of kind `kind` (0 join, 1 changed, 2 refused) [20 R393, R399]. -/
def hitchEvent (p kind : Nat) (d : Dev) : Dev :=
  let d := d.set (F.HP_STAT_HITCH p)
  if bitAt (d.r F.HP_QEN_CAUSE) 1 then evRecord Tag.hp 2 p (kind + 16 * d.r (F.HP_STAT_LCAUSE p)) d else d

/-- Nothing of discovery or service waits at port `p`. -/
def hitchQuiet (p : Nat) (d : Dev) : Dev :=
  d.onH p fun h => { h with hello := false, param := false, poll := false, await := .none, tries := 0, due := 0, silent := 0,
                            changed := false }

/-- What the Sower saw of port `p` before this FCLK cycle is kept, ahead of a change [09 R457]. -/
def headNote (p : Nat) (d : Dev) : Dev :=
  match (d.head p).was with
  | some (t, _, _) =>
    if d.ties Dev.fclk t then d else d.onH p fun h => { h with was := some (d.ns, portOn d p, d.r (F.HP_LAT_LAT p)) }
  | none => d.onH p fun h => { h with was := some (d.ns, portOn d p, d.r (F.HP_LAT_LAT p)) }

/-- LAT, PERIOD and WINDOW of port `p` as they were recorded before the hitch under way [20 R393]. -/
def hitchRestore (p : Nat) (d : Dev) : Dev :=
  match (d.head p).old with
  | some (lat, per, win) =>
    (((d.w (F.HP_LAT_LAT p) lat).w (F.HP_PER_PERIOD p) per).w (F.HP_WIN_WINDOW p) win).onH p fun h => { h with old := none }
  | none => d

/-- Discovery of port `p` starts with its first HELLO. -/
def hitchStart (p : Nat) (d : Dev) : Dev :=
  ((hitchQuiet p (hitchRestore p d)).w (F.HP_STAT_STATE p) 1).onH p fun h => { h with hello := true, bye := false }

/-- HITCH_REFUSE: the port goes to FALLOW with LCAUSE `c`; LAT, PERIOD and WINDOW are as they were before; the ID of an accepted IDENT stays
recorded. DEDUCED [log 87] [20 R393]. -/
def hitchRefuse (p c : Nat) (d : Dev) : Dev :=
  let d := hitchRestore p d
  hitchEvent p 2 (((hitchQuiet p d).w (F.HP_STAT_STATE p) 3).w (F.HP_STAT_LCAUSE p) c)

/-- The port becomes ON: polls begin, HOLD is due, and each furrow naming it waits for its bank's next headland with the
hold cause HEAD [20 R391, R392, R396]. -/
def hitchDone (p : Nat) (d : Dev) : Dev :=
  let kind := bit (d.head p).changed
  let d := (headNote p d).onH p fun h => { h with old := none }
  let d := (hitchQuiet p d).w (F.HP_STAT_STATE p) 2
  let d := d.onH p fun h => { h with flowDue := true, pollDue := d.ns + 1000000 * max (d.r (F.HP_HCFG_PIVL p)) 1 }
  let fs := furrowsOf d p
  let d := forAll fs (fun f d => d.onF f fun u => { u with headWait := true }) d
  let d := forAll fs (fun f d => addChange [fBank d f] (.headBack f) d) d
  hitchEvent p kind d

/-! ### Leaving service [20 R395] -/

/-- The staging buffer of port `p` is dropped [20 R395]. -/
def dropStaging (p : Nat) (d : Dev) : Dev :=
  d.onQ 1 fun q => { q with staged := q.staged.filter fun x => x.1 ≠ p + 1 }

/-- LEAVE_SERVICE: port `p` leaves service for state `st` with LCAUSE `c`: its queues and staging are dropped, its trigger
is 0, the ARMED slots of its furrows are withdrawn and count as deferred, SET and FIRING ones go on without trigger or
check [20 R395]. A slot armed in this FCLK cycle stands as made [09 R457]. -/
def leaveService (p st c : Nat) (d : Dev) : Dev :=
  let d := ((hitchQuiet p (headNote p d)).w (F.HP_STAT_STATE p) st).w (F.HP_STAT_LCAUSE p) c
  let d := dropStaging p (d.onH p fun h =>
    { h with notices := [], taints := [], flowDue := false, trig := false, checks := [], bye := false })
  let d := forAll (slotsIf d fun s => decide (s.st = .armed ∧ fHead d s.f = some p) && !d.ties Dev.fclk s.born) (withdraw true) d
  if 1 ≤ c ∧ c ≤ 3 then
    let d := d.set (F.HP_STAT_BYE p)
    if bitAt (d.r F.HP_QEN_CAUSE) 2 then evRecord Tag.hp 3 p c d else d
  else d

/-! ### Presence [20 R385] -/

/-- PRSN_CHANGE: PRSNn changes level and its debouncing restarts; `low` is the new level. Where the port's clock stands, PRSRAW follows once it runs
again. -/
def prsnChange (p : Nat) (low : Bool) (d : Dev) : Dev :=
  if p < 6 then
    (if d.awake then d.w (F.HP_STAT_PRSRAW p) (bit low) else d).onH p fun h => { h with raw := low, rawSince := d.ns }
  else d

/-- The ports' clocks run again: PRSRAW shows the pins, debouncing restarts, and ARMN messages that are stale by now are discarded [20 R385, R400]. -/
def headsResume (d : Dev) : Dev :=
  forAll (List.range 6) (fun p d =>
    dropStale p ((d.w (F.HP_STAT_PRSRAW p) (bit (d.head p).raw)).onH p fun h => if h = {} then h else { h with rawSince := d.ns })) d

/-- PRESENCE_DEBOUNCE: PRSNn has held its level for 10 ms in Run or Hold, and PRES follows: hitching starts under AUTO, a
port ON leaves service as removed, a hitch is abandoned [20 R385, R393, R395]. -/
def presenceDebounce (p : Nat) (d : Dev) : Dev :=
  let h := d.head p
  if p ≥ 6 ∨ d.awake = false ∨ h.raw = d.b (F.HP_STAT_PRES p) ∨ d.ns < h.rawSince + 10000000 then d
  else
    let d := d.w (F.HP_STAT_PRES p) (bit h.raw)
    if h.raw then if d.b (F.HP_CTL_AUTO p) then hitchStart p d else d.w (F.HP_STAT_STATE p) 3
    else if portOn d p then leaveService p 0 1 d
    else (hitchQuiet p (hitchRestore p d)).w (F.HP_STAT_STATE p) 0

/-! ### Sending [20 R386-R392] -/

/-- The HOLD or GO that port `p` has queued: the Q1 watermark condition where it differs from the state last sent, or a
HOLD due at becoming ON [20 R391]. -/
def flowQueued (d : Dev) (p : Nat) : Option Bool :=
  let wm := d.b (F.Q_STAT_WM 1)
  if portOn d p = false then none
  else if wm ≠ d.b (F.HP_STAT_HOLD p) ∨ (wm ∧ (d.head p).flowDue) then some wm else none

/-- Port `p`'s staging buffer is occupied [20 R390]. -/
def stagingFull (d : Dev) (p : Nat) : Bool := decide (stagedOf d 1 (p + 1) ≠ 0)

/-- The message types in the order in which a port sends them [20 R389]. -/
inductive Msg where
  | taint | disarm | armn | hold | go | param | hello | bye | poll
  deriving DecidableEq, Repr

/-- Message `m` of port `p` is ready. -/
def msgReady (d : Dev) (p : Nat) (m : Msg) : Bool :=
  let h := d.head p
  match m with
  | .taint => !h.taints.isEmpty
  | .disarm => h.notices.any fun x => x.disarm
  | .armn => h.notices.any fun x => !x.disarm && !x.stale d
  | .hold => decide (flowQueued d p = some true)
  | .go => decide (flowQueued d p = some false)
  | .param => h.param && decide (h.due ≤ d.ns)
  | .hello => h.hello && decide (h.due ≤ d.ns)
  | .bye => h.bye && !d.over Dev.pclk h.byeEnd
  | .poll => h.poll && portOn d p && !stagingFull d p

/-- The first ready message of port `p`. -/
def firstMsg (d : Dev) (p : Nat) : Option Msg :=
  [.taint, .disarm, .armn, .hold, .go, .param, .hello, .bye, .poll].find? (msgReady d p)

/-- A message may start: Run or Hold, the line idle for 2 µs, no reply awaited [20 R386, R400]. -/
def lineFree (d : Dev) (p : Nat) : Bool :=
  d.awake && decide (p < 6) && decide ((d.head p).await = .none) && decide ((d.head p).lineIdle + 2000 ≤ d.ns)

/-- The bytes of a message: TYPE, LEN, payload, CRC-8 [20 R387]. -/
def msgBytes (typ : Nat) (payload : List Nat) : List Nat :=
  let m := typ :: payload.length :: payload
  m ++ [crc8 m]

/-- The message is sent, 10 µs a character; `a` is the reply awaited, within RWIN µs of its end [20 R386]. -/
def transmit (p typ : Nat) (payload : List Nat) (a : Await) (d : Dev) : Dev :=
  let m := msgBytes typ payload
  let stop := d.ns + 10000 * m.length
  d.onH p fun h => { h with sent := m, lineIdle := stop, await := a, windowEnd := stop + 1000 * max (d.r (F.HP_HCFG_RWIN p)) 1 }

/-- `send` runs where message `m` is the first ready one and may start. -/
def sendWhen (p : Nat) (m : Msg) (send : Dev → Dev) (d : Dev) : Dev :=
  if lineFree d p ∧ firstMsg d p = some m then send d else d

/-- SEND_HELLO: port number and protocol version; IDENT is awaited. -/
def sendHello (p : Nat) (d : Dev) : Dev :=
  sendWhen p .hello (fun d => (transmit p 1 [p, 1] .ident d).onH p fun h =>
    { h with hello := false, tries := h.tries + 1, due := d.ns + 1000000 }) d

/-- SEND_PARAM: EXPT; ACK is awaited. -/
def sendParam (p : Nat) (d : Dev) : Dev :=
  sendWhen p .param (fun d => (transmit p 2 (leBytes 4 (d.r (F.HP_EXPT_EXPT p))) .ack d).onH p fun h =>
    { h with param := false, tries := h.tries + 1, due := d.ns + 1000000 }) d

/-- The first notice of the wanted kind. -/
def firstNotice (d : Dev) (p : Nat) (dis : Bool) : Option Notice := (d.head p).notices.find? fun x => decide (x.disarm = dis)

/-- SEND_ARMN: the oldest ARMN that is not stale leaves. -/
def sendArmn (p : Nat) (d : Dev) : Dev :=
  sendWhen p .armn (fun d => match firstNotice d p false with
    | some x => (transmit p 3 (leBytes 2 x.frame) .none d).onH p fun h => { h with notices := h.notices.erase x }
    | none => d) (dropStale p d)

/-- SEND_DISARM: the oldest DISARM leaves. -/
def sendDisarm (p : Nat) (d : Dev) : Dev :=
  sendWhen p .disarm (fun d => match firstNotice d p true with
    | some x => (transmit p 4 (leBytes 2 x.frame) .none d).onH p fun h => { h with notices := h.notices.erase x }
    | none => d) d

/-- SEND_TAINT: the oldest TAINT leaves. -/
def sendTaint (p : Nat) (d : Dev) : Dev :=
  sendWhen p .taint (fun d => match (d.head p).taints with
    | x :: r => (transmit p 5 x .none d).onH p fun h => { h with taints := r }
    | [] => d) d

/-- SEND_HOLD: HOLD leaves and is the state last sent. -/
def sendHold (p : Nat) (d : Dev) : Dev :=
  sendWhen p .hold (fun d => ((transmit p 6 [] .none d).set (F.HP_STAT_HOLD p)).onH p fun h => { h with flowDue := false }) d

/-- SEND_GO: GO leaves and is the state last sent. -/
def sendGo (p : Nat) (d : Dev) : Dev :=
  sendWhen p .go (fun d => ((transmit p 7 [] .none d).clr (F.HP_STAT_HOLD p)).onH p fun h => { h with flowDue := false }) d

/-- SEND_POLL: POLL leaves; the next one falls due PIVL ms after its reply window. -/
def sendPoll (p : Nat) (d : Dev) : Dev :=
  sendWhen p .poll (fun d => (transmit p 8 [] .poll d).onH p fun h =>
    { h with poll := false, pollDue := h.windowEnd + 1000000 * max (d.r (F.HP_HCFG_PIVL p)) 1 }) d

/-- SEND_BYE: BYE leaves, and the port leaves service by command [20 R395]. -/
def sendBye (p : Nat) (d : Dev) : Dev :=
  sendWhen p .bye (fun d => leaveService p 3 4 (transmit p 9 [] .none d)) d

/-- BYE_START_TIMEOUT: BYE could not start within 1 ms, whose last PCLK cycle is over: it is dropped, and the port leaves service by command [20 R395]. -/
def byeStartTimeout (p : Nat) (d : Dev) : Dev :=
  if (d.head p).bye ∧ d.over Dev.pclk (d.head p).byeEnd then leaveService p 3 4 d else d

/-! ### Receiving [20 R386-R390] -/

/-- The payload length of a head's message type; none where the type is not one of Table HP-1. -/
def lenOk (typ len : Nat) : Bool :=
  match typ with
  | 0x01 => decide (len = 2)
  | 0x02 => decide (len = 4)
  | 0x03 => decide (len = 2)
  | 0x04 => decide (len = 2)
  | 0x05 => decide (len = 6)
  | 0x06 => decide (len = 0)
  | 0x07 => decide (len = 0)
  | 0x08 => decide (len = 0)
  | 0x09 => decide (len = 0)
  | 0x81 => decide (len = 20)
  | 0x82 => decide (len = 1)
  | 0x83 => decide (1 ≤ len ∧ len ≤ 61)
  | 0x89 => decide (len = 1)
  | _ => false

/-- A well-formed message: its type and payload [20 R387]. -/
def parseMsg (m : List Nat) : Option (Nat × List Nat) :=
  match m with
  | typ :: len :: r =>
    if len ≤ 61 ∧ r.length = len + 1 ∧ lenOk typ len ∧ crc8 (typ :: len :: r.take len) = r.getD len 0 then
      some (typ, r.take len)
    else none
  | _ => none

/-- MESSAGE_DISCARD: a broken or malformed message: CRCE and its count; it counts as no reply [20 R387]. -/
def msgDiscard (p : Nat) (d : Dev) : Dev := (d.set (F.HP_STAT_CRCE p)).inc (F.HP_CNT_CRCE p)

/-- MESSAGE_GAP_TIMEOUT: more than 20 µs of idle within a message end it as broken [20 R386, R387]. -/
def messageGapTimeout (p : Nat) (d : Dev) : Dev :=
  if p < 6 ∧ d.awake then (msgDiscard p d).onH p fun h => { h with lineIdle := d.ns } else d

/-- HEAD_STAGING: the message enters the staging buffer on its way into Q1: the header byte, then all but the CRC [20
R390]. -/
def stageMsg (p : Nat) (typ : Nat) (payload : List Nat) (d : Dev) : Dev :=
  qStage 1 (p + 1) ((32 * (p + 1) + 8 * ((payload.length + 1) / 16)) :: typ :: payload.length :: payload) (dropStaging p d)

/-- REPLY_WINDOW_EXPIRY: no reply began within RWIN, whose last PCLK cycle is over: discovery tries again or is refused (6 no IDENT, 7 no ACK); a POLL
without reply counts, and SILN of them make the head silent [20 R392, R393, R395]. -/
def replyWindowExpiry (p : Nat) (d : Dev) : Dev :=
  let h := d.head p
  if h.await = .none ∨ d.over Dev.pclk h.windowEnd = false then d
  else
    let d := d.onH p fun h => { h with await := .none }
    match h.await with
    | .none => d
    | .ident => if h.tries < 4 then d.onH p fun h => { h with hello := true } else hitchRefuse p 6 d
    | .ack =>
      if d.r (F.HP_STAT_STATE p) = 1 then
        if h.tries < 4 then d.onH p fun h => { h with param := true } else hitchRefuse p 7 d
      else d.onH p fun h => { h with tries := 0 }
    | .poll =>
      if max (d.r (F.HP_HCFG_SILN p)) 1 ≤ h.silent + 1 then leaveService p 3 3 d
      else d.onH p fun h => { h with silent := h.silent + 1 }

/-- A message of type `typ` has been received, its first start bit `age` ns ago: a malformed one is discarded; a reply that
began within the window is taken by `act`, its tie with the window's end recorded; one that began in a later PCLK cycle finds the window expired, and
another counts as no reply [20 R386-R388; 09 R185]. -/
def receive (p typ age : Nat) (m : List Nat) (fits : Await → Bool) (act : Await → List Nat → Dev → Dev) (d : Dev) : Dev :=
  if p ≥ 6 ∨ d.awake = false then d
  else
    let d := d.onH p fun h => { h with lineIdle := d.ns }
    match parseMsg m with
    | none => msgDiscard p d
    | some (t, payload) =>
      let h := d.head p
      if h.await ≠ .none ∧ d.pclk h.windowEnd < d.pclk (d.ns - age) then replyWindowExpiry p d
      else if t ≠ typ ∨ fits h.await = false then d
      else
        let d := if d.pclk (d.ns - age) = d.pclk h.windowEnd then (d.set (F.HP_STAT_COIN p)).coin Tag.hp else d
        act h.await payload (d.onH p fun h => { h with await := .none })

/-- RECEIVE_IDENT: the head is recorded and PARAM follows, or the hitch is refused: 5 for another head, 7 for a lead above
500 000 ns [20 R393]. -/
def receiveIdent (p age : Nat) (m : List Nat) (d : Dev) : Dev :=
  receive p 0x81 age m (fun a => decide (a = .ident)) (fun _ pl d =>
    let d := stageMsg p 0x81 pl d
    let idl := le (pl.take 4)
    let idh := le ((pl.drop 4).take 4)
    let lat := le ((pl.drop 8).take 4)
    let other := decide (idl ≠ d.r (F.HP_IDL_ID p) ∨ idh ≠ d.r (F.HP_IDH_ID p)) && d.b (F.HP_STAT_IDV p)
    if other && !bitAt (d.r F.HP_POLICY_ANY) p then hitchRefuse p 5 d
    else if 500000 < lat + d.r (F.HP_TCFG_SKEW p) then hitchRefuse p 7 d
    else
      let d := (headNote p d).onH p fun h =>
        { h with old := some (d.r (F.HP_LAT_LAT p), d.r (F.HP_PER_PERIOD p), d.r (F.HP_WIN_WINDOW p)) }
      let d := ((d.w (F.HP_IDL_ID p) idl).w (F.HP_IDH_ID p) idh).w (F.HP_LAT_LAT p) lat
      let d := (d.w (F.HP_PER_PERIOD p) (le ((pl.drop 12).take 4))).w (F.HP_WIN_WINDOW p) (le ((pl.drop 16).take 4))
      (d.set (F.HP_STAT_IDV p)).onH p fun h => { h with tries := 0, due := d.ns, param := true, changed := other }) d

/-- RECEIVE_ACK: it completes a hitch or refuses it, answers a PARAM of a port ON, or a POLL [20 R388, R392, R393]. -/
def receiveAck (p age : Nat) (m : List Nat) (d : Dev) : Dev :=
  receive p 0x82 age m (fun a => decide (a = .ack ∨ a = .poll)) (fun a pl d =>
    let ok := decide (pl = [0])
    if a = .poll then d.onH p fun h => { h with silent := 0 }
    else if d.r (F.HP_STAT_STATE p) = 1 then if ok then hitchDone p d else hitchRefuse p 7 d
    else
      let d := d.onH p fun h => { h with tries := 0 }
      if ok then d else d.w (F.HP_STAT_LCAUSE p) 7) d

/-- RECEIVE_NOTE: a NOTE answers a POLL and is staged for Q1 [20 R390, R391]. -/
def receiveNote (p age : Nat) (m : List Nat) (d : Dev) : Dev :=
  receive p 0x83 age m (fun a => decide (a = .poll)) (fun _ pl d =>
    stageMsg p 0x83 pl (d.onH p fun h => { h with silent := 0 })) d

/-- RECEIVE_HEAD_BYE: the port leaves service, and the head's BYE is staged for Q1 [20 R390, R395]. -/
def receiveHeadBye (p age : Nat) (m : List Nat) (d : Dev) : Dev :=
  receive p 0x89 age m (fun a => decide (a = .poll)) (fun _ pl d => stageMsg p 0x89 pl (leaveService p 3 2 d)) d

/-- POLL_INTERVAL_EXPIRY: PIVL ms after the last reply window a POLL falls due [20 R392]. -/
def pollIntervalExpiry (p : Nat) (d : Dev) : Dev :=
  if portOn d p ∧ (d.head p).poll = false ∧ (d.head p).pollDue ≤ d.ns ∧ d.awake ∧ (d.head p).await ≠ .poll then
    d.onH p fun h => { h with poll := true }
  else d

/-! ### Commands [20 R393-R395, Table HP-5] -/

/-- HP_CTL_ON: a FALLOW port is hitched. -/
def hpOn (p : Nat) (d : Dev) : Dev :=
  if p < 6 ∧ d.r (F.HP_STAT_STATE p) = 3 then hitchStart p d else d

/-- HP_CTL_OFF: a port ON sends BYE first and leaves service then, not at a headland (log entry 88); a hitch is abandoned with LCAUSE 4 [20 R395]. -/
def hpOff (p : Nat) (d : Dev) : Dev :=
  if d.r (F.HP_STAT_STATE p) = 1 then ((hitchQuiet p (hitchRestore p d)).w (F.HP_STAT_STATE p) 3).w (F.HP_STAT_LCAUSE p) 4
  else if portOn d p ∧ (d.head p).bye = false then
    d.onH p fun h => { h with bye := true, byeEnd := d.ns + 1000000 }
  else d

/-- HP_CTL_HITCH: discovery is rerun; a port ON leaves service first; an ABSENT one changes nothing. -/
def hpHitch (p : Nat) (d : Dev) : Dev :=
  if p ≥ 6 ∨ d.r (F.HP_STAT_STATE p) = 0 then d
  else hitchStart p (if portOn d p then leaveService p 3 4 d else d)

/-- A write of HPn_CTL: the settings are written, then the commands act in the order of their bits. -/
def hpCtlWrite (p v : Nat) (d : Dev) : Dev :=
  let d := ((d.w (F.HP_CTL_XEN p) (bitsAt v 2 1)).w (F.HP_CTL_ARMEN p) (bitsAt v 1 1)).w (F.HP_CTL_AUTO p) (bitsAt v 0 1)
  let d := if bitAt v 8 then hpOn p d else d
  let d := if bitAt v 9 then hpOff p d else d
  if bitAt v 10 then hpHitch p d else d

/-- HP_EXPT_WRITE: EXPT is written, and a port ON queues a PARAM [20 R393]. -/
def hpExptWrite (p v : Nat) (d : Dev) : Dev :=
  let d := d.w (F.HP_EXPT_EXPT p) v
  if portOn d p then d.onH p fun h => { h with param := true, due := d.ns } else d

/-- HP_CNT_CLEAR: a write of HPn_CNT clears its four counts. -/
def hpCntClear (p : Nat) (d : Dev) : Dev :=
  (((d.w (F.HP_CNT_CRCE p) 0).w (F.HP_CNT_TLOST p) 0).w (F.HP_CNT_ASTALE p) 0).w (F.HP_CNT_SUPP p) 0

/-- HP_XCNT_CLEAR: a write of HPn_XCNT clears both counts. -/
def hpXcntClear (p : Nat) (d : Dev) : Dev := (d.w (F.HP_XCNT_CHECKS p) 0).w (F.HP_XCNT_MISSES p) 0

/-- HPn_STAT[15:10]. -/
def hpSticky (d : Dev) (p : Nat) : Nat :=
  d.r (F.HP_STAT_EXPMISS p) + 2 * d.r (F.HP_STAT_HITCH p) + 4 * d.r (F.HP_STAT_BYE p) + 8 * d.r (F.HP_STAT_PERIOD p) +
    16 * d.r (F.HP_STAT_NOLIGHT p) + 32 * d.r (F.HP_STAT_CRCE p)

/-- Source 31 + `p` is pending [20 Registers]. -/
def hpPending (d : Dev) (p : Nat) : Bool := decide (hpSticky d p &&& d.r (F.HP_IE_IE p) ≠ 0)

end Sys2Proof.Machine
end

