-- ==== Sys2Proof/Machine/Encoder.lean ====
section
/-! DEFINITION. The encoder inputs: decoding, position, velocity, Z capture, bursts and the freeze, position loads, and the
ring position registers [15]. -/

namespace Sys2Proof.Machine

/-- The furrow sources that read input `n`: itself, and on the master the ring source where RSRC names it [15 R301]. -/
def sourcesOf (d : Dev) (n : Nat) : List Nat :=
  if d.b F.SR_STAT_MASTER ∧ d.r F.EN_RING_RSRC = n then [n, 2] else [n]

/-- EN_CFGn.FILTER. -/
def encFilter (d : Dev) (n : Nat) : Nat := d.r (F.EN_CFG_FILTER n)

/-- NAVG; 0 acts as 1 [15 R294]. -/
def navgOf (d : Dev) (n : Nat) : Nat := max (d.r (F.EN_CFG_NAVG n)) 1

/-- STOPT in ns; 0 acts as 1 µs [15 R294]. -/
def stopNs (d : Dev) (n : Nat) : Nat := 1000 * max (d.r (F.EN_BCFG_STOPT n)) 1

/-- The quadrature code of A and B along the forward cycle 00, 10, 11, 01. -/
def quadCode (a b : Bool) : Nat :=
  match a, b with
  | false, false => 0
  | true, false => 1
  | true, true => 2
  | false, true => 3

/-- Table EN-1: +1, -1, 0, or none for a quadrature error. -/
def quadStep (a b a' b' : Bool) : Option Int :=
  match (quadCode a' b' + 4 - quadCode a b) % 4 with
  | 0 => some 0
  | 1 => some 1
  | 3 => some (-1)
  | _ => none

/-- The TLT values of `l` that lie within the last 1 µs of TLT [15 R298]. -/
def lastMicro (d : Dev) (l : List Nat) : List Nat := l.filter fun t => decide (0 ≤ sd d.timeNow t ∧ sd d.timeNow t < 1000)

/-- The model times of `l` that lie within the last 1 µs. -/
def lastMicroNs (d : Dev) (l : List Nat) : List Nat := l.filter fun t => decide (d.ns < t + 1000)

/-! ### The glitch filter [15 R287, R300] -/

/-- The inputs are sampled: at FCLK in Run and Hold, at XCLK in Nap [15 Table EN-2; 03 R41]. -/
def encSampled (d : Dev) : Bool := d.awake || (decide (d.ck.ladder = .nap) && d.ck.xrun)

/-- The number of the sample taken at model time `t`. -/
def sampleNo (d : Dev) (t : Nat) : Nat := if d.awake then d.fclk t else t / 40

/-- The filter takes a sample of level `v`: a level is accepted once FILTER + 1 consecutive samples agree on it, by FILTER as it stands now. -/
def Glitch.sample (d : Dev) (n : Nat) (v : Bool) (g : Glitch) : Glitch :=
  let since := if v = g.raw then g.since else d.ns
  { acc := if encFilter d n ≤ sampleNo d d.ns - sampleNo d since then v else g.acc, raw := v, since := since }

/-- The accepted level is loaded from the pin. -/
def Glitch.load (d : Dev) (v : Bool) : Glitch := { acc := v, raw := v, since := d.ns }

/-- A quadrature error: LQ, QERR, and its time [15 R290]. -/
def quadratureError (n : Nat) (d : Dev) : Dev :=
  ((d.set (F.EN_STAT_LQ n)).inc (F.EN_CNT_QERR n)).onE n fun e => { e with qerrs := d.ns :: lastMicroNs d e.qerrs }

/-- REVERSAL: REV, REVS, the history holds only this count, and the slots of the input's sources are withdrawn; a velocity update of the same FCLK
cycle sees the cleared history and writes 0 [15 R296, Collisions; 16 R319]. -/
def reversal (n t : Nat) (d : Dev) : Dev :=
  let frozen := d.b (F.EN_STAT_FROZEN n)
  let d := ((d.set (F.EN_STAT_REV n)).inc (F.EN_CNT_REVS n)).onE n fun e =>
    { e with edges := [t], vel := if e.upd ≠ 0 ∧ d.ties Dev.fclk e.updAt ∧ frozen = false then 0 else e.vel }
  forAll (sourcesOf d n) withdrawSource d

/-- One count of sign `c` on input `n`: the position, its edge time, the history, a reversal, the end of STOP [15
R289-R296]; forward travel that resumes moves NEXT [16 R307]. -/
def encCount (n : Nat) (c : Int) (d : Dev) : Dev :=
  let t := (d.timeNow + tltMod - (encFilter d n + 2) * 4) % tltMod
  let e := d.enc n
  let back := decide (c < 0)
  let turn := e.any && (d.b (F.EN_STAT_DIR n) != back)
  let d := d.w (F.EN_STAT_DIR n) (bit back)
  let d := d.onE n fun e =>
    { e with pos := (((e.pos : Int) + c) % (tltMod : Int)).toNat, te := t, any := true, lastEdge := some t,
             edges := (t :: e.edges).take (navgOf d n + 1), counts := d.timeNow :: lastMicro d e.counts,
             net := (d.ns, (if d.ties Dev.fclk e.net.1 then e.net.2 else 0) + c) }
  let d := if d.b (F.EN_STAT_STOP n) then (d.clr (F.EN_STAT_STOP n)).set (F.EN_STAT_START n) else d
  let d := if turn then reversal n t d else d
  if turn && !back then forAll (sourcesOf d n) renextSource d else d

/-- An accepted rise of Z captures the position, with ZGATE only while the accepted A and B are 1 [15 R297]. -/
def zTake (n : Nat) (d : Dev) : Dev :=
  let e := d.enc n
  if d.b (F.EN_CFG_ZGATE n) ∧ ¬(e.a.acc ∧ e.b.acc) then d
  else (d.set (F.EN_STAT_ZCAP n)).onE n fun e => { e with zpos := e.pos }

/-- A or B of input `n` has changed: a rise of Z accepted in the same FCLK cycle is judged again, with the change and its count [15 R297]. -/
def zAgain (n : Nat) (d : Dev) : Dev :=
  match (d.enc n).zAt with
  | none => d
  | some (t, pos, cap) =>
    if d.ties Dev.fclk t then zTake n ((d.w (F.EN_STAT_ZCAP n) cap).onE n fun e => { e with zpos := pos }) else d

/-- QUADRATURE_COUNT: the samples of A and B of input `n` are `a` and `b`, and its decoder compares what the filters accept with the levels before;
the first ones after a reset, a Dormant or a Fallow exit are loaded without a count; in Fallow and Dormant, and in Nap without XCLK, nothing is
sampled [15 R287, R289, R300; 03 R41]. In Nap, more than 5 counts in 1 µs set LN [15 R300]. -/
def quadratureCount (n : Nat) (a b : Bool) (d : Dev) : Dev :=
  if encSampled d = false then d
  else if (d.enc n).ready = false then d.onE n fun e => { e with a := .load d a, b := .load d b, ready := true }
  else
    let e := d.enc n
    let fa := e.a.sample d n a
    let fb := e.b.sample d n b
    let d := d.onE n fun e => { e with a := fa, b := fb }
    match quadStep e.a.acc e.b.acc fa.acc fb.acc with
    | none => zAgain n (quadratureError n d)
    | some c =>
      if c = 0 then d
      else
        zAgain n <|
          let d := encCount n (if d.b (F.EN_CFG_INV n) then -c else c) d
          if d.ck.ladder = .nap ∧ 5 < (lastMicro d (d.enc n).counts).length then d.set (F.EN_STAT_LN n) else d

/-- The nearest integer, halves away from zero, of a value not negative. -/
def nearest (x : Rat) : Int := (x + 1 / 2).floor

/-- The estimate of R294 at `t` from the edge times `es`, newest first, in counts per µs. -/
def velMag (t : Nat) (es : List Nat) : Rat :=
  match es.head?, es.getLast? with
  | some e0, some ek =>
    if es.length < 2 then 0
    else
      let a : Rat := (1000 * (es.length - 1) : Nat) / (sd e0 ek : Rat)
      let u := sd t e0
      if u ≤ 0 then a else min a (1000 / (u : Rat))
  | _, _ => 0

/-- STOP of input `n` is set: velocity 0, the history cleared; on its setting the sources' slots are withdrawn [15 R294; 16
R319]. -/
def encStop (n : Nat) (d : Dev) : Dev :=
  let was := d.b (F.EN_STAT_STOP n)
  let d := (d.set (F.EN_STAT_STOP n)).onE n fun e => { e with vel := 0, edges := [] }
  if was then d else forAll (sourcesOf d n) withdrawSource d

/-- The ring registers of a member show its position and velocity at the last 1 µs update [15 R301]. -/
def ringShown (d : Dev) : Dev :=
  if followsEpochs d then
    { d with sr := { d.sr with shownPos := ((epochPos d).floor % (tltMod : Int)).toNat, shownVel := d.sr.last.vel } }
  else d

/-- FREEZE_END: 2 µs after the burst last cleared, or 20 µs after the onset that began the freeze; the history is cleared
[15 R299]. -/
def freezeEnd (n : Nat) (d : Dev) : Dev :=
  let e := d.enc n
  let due := decide (e.onset + 20000 ≤ d.ns) || (match e.clear with | some t => decide (t + 2000 ≤ d.ns) | none => false)
  if d.b (F.EN_STAT_FROZEN n) ∧ due then
    (d.clr (F.EN_STAT_FROZEN n)).onE n fun e => { e with edges := [], clear := none }
  else d

/-- VELOCITY_UPDATE: the update of input `n` for the last multiple of 1 000 of TLT, once; a freeze that is due to end has ended [15 R294, R299]. -/
def velocityUpdate (n : Nat) (d : Dev) : Dev :=
  let d := freezeEnd n d
  let e := d.enc n
  if d.awake = false ∨ e.upd = d.tlt / 1000 + 1 then d
  else
    let t := d.tlt / 1000 * 1000
    let d := ringShown (d.onE n fun e => { e with upd := d.tlt / 1000 + 1, updAt := d.ns })
    if d.b (F.EN_STAT_FROZEN n) then d
    else
      let recent := match e.lastEdge with
        | some x => decide (-(stopNs d n : Int) ≤ sd x t)
        | none => false
      if recent then
        let m := nearest (velMag t (e.edges.take (navgOf d n + 1)) * 65536)
        d.onE n fun e => { e with vel := if d.b (F.EN_STAT_DIR n) then -m else m }
      else encStop n d

/-- The burst condition of input `n` [15 R298]. -/
def inBurst (d : Dev) (n : Nat) : Bool :=
  let e := d.enc n
  (d.b (F.EN_BCFG_PLIM n) && decide (d.r (F.EN_BCFG_PLIM n) < (lastMicro d e.counts).length)) ||
    (!d.b (F.EN_CFG_MODE n) && d.b (F.EN_BCFG_CM n) && e.cm) ||
    (d.b (F.EN_BCFG_QB n) && !(lastMicroNs d e.qerrs).isEmpty)

/-- BURST_ONSET: input `n` enters burst (`cm` says that its common-mode voltage has been out of range for 20 ns): BURST,
BURSTS, the freeze begins or its end is cancelled, and the sources' occurrences in flight take the cause burst [15 R298,
R299; 19 R372]. -/
def burstOnset (n : Nat) (cm : Bool) (d : Dev) : Dev :=
  let d := d.onE n fun e => { e with cm := cm }
  if d.awake = false ∨ inBurst d n = false ∨ d.b (F.EN_STAT_BURST n) then d
  else
    let d := freezeEnd n ((d.set (F.EN_STAT_BURST n)).set (F.EN_STAT_BURSTS n))
    let d := if d.b (F.EN_STAT_FROZEN n) then d.onE n fun e => { e with clear := none }
      else (d.set (F.EN_STAT_FROZEN n)).onE n fun e => { e with onset := d.ns, clear := none }
    forAll (sourcesOf d n) (disturbSource false) d

/-- BURST_CLEAR: the burst condition of input `n` no longer holds, its common mode being back in range [15 R298, R299]. -/
def burstClear (n : Nat) (d : Dev) : Dev :=
  let d := d.onE n fun e => { e with cm := false }
  if inBurst d n ∨ d.b (F.EN_STAT_BURST n) = false then d
  else (d.clr (F.EN_STAT_BURST n)).onE n fun e => { e with clear := some d.ns }

/-- Z_CAPTURE: the sample of Z of input `n` is `z`; a rise that its filter accepts captures the position [15 R287, R297]. -/
def zCapture (n : Nat) (z : Bool) (d : Dev) : Dev :=
  if encSampled d = false then d
  else if (d.enc n).zready = false then d.onE n fun e => { e with z := .load d z, zready := true }
  else
    let e := d.enc n
    let f := e.z.sample d n z
    let d := d.onE n fun e => { e with z := f }
    if f.acc && !e.z.acc then zTake n (d.onE n fun e => { e with zAt := some (d.ns, e.zpos, d.r (F.EN_STAT_ZCAP n)) }) else d

/-- Some furrow bound to input `n` is SOWN. -/
def inputSown (d : Dev) (n : Nat) : Bool := anySown d n

/-- POSITION_LOAD: EN_CMDn.LOAD loads EN_PSETn and clears the lost-count marks, unless a furrow bound to the input is SOWN:
then it is a locked write; a count of the same FCLK cycle is applied after the load. NEXT of the bound furrows becomes the first point ahead
[15 R293, R300; 16 R307]. -/
def positionLoad (n : Nat) (d : Dev) : Dev :=
  if inputSown d n then d.lockV Tag.en (0x4000B02C + 0x40 * n)
  else
    let p := d.r (F.EN_PSETL_POS n) + 2 ^ 32 * d.r (F.EN_PSETH_POS n)
    let on : Int := if d.ties Dev.fclk (d.enc n).net.1 then (d.enc n).net.2 else 0
    let d := d.onE n fun e => { e with pos := ((Int.ofNat p + on) % (tltMod : Int)).toNat }
    let d := ((d.clr (F.EN_STAT_LQ n)).clr (F.EN_STAT_LN n)).clr (F.EN_STAT_LF n)
    forAll (sourcesOf d n) renextSource d

/-- EN_POSITION_READ: position[31:0] is returned and position[47:32] latched [15 R292]. -/
def enPositionRead (n : Nat) (d : Dev) : Dev :=
  { d.w (F.EN_PH_POS n) ((d.enc n).pos / 2 ^ 32) with rd := (d.enc n).pos % 2 ^ 32 }

/-- EN_ZCAPTURE_READ: the captured position[31:0] is returned and [47:32] latched [15 R297]. -/
def enZcaptureRead (n : Nat) (d : Dev) : Dev :=
  { d.w (F.EN_ZPH_POS n) ((d.enc n).zpos / 2 ^ 32) with rd := (d.enc n).zpos % 2 ^ 32 }

/-- EN_RPOS: the master's RSRC input; on a member the position of the last update, kept while it is not UP; 0 with the ring
DOWN [15 R301; 21 R411]. -/
def ringPosition (d : Dev) : Nat :=
  if d.r F.SR_STAT_STATE = 0 then 0
  else if d.b F.SR_STAT_MASTER then (d.enc (d.r F.EN_RING_RSRC)).pos else d.sr.shownPos

/-- EN_RVEL: the master's RSRC input; on a member that of the last update, 0 while it is not UP [15 R301; 21 R411]. -/
def ringVelocity (d : Dev) : Int :=
  if d.r F.SR_STAT_STATE = 0 then 0
  else if d.b F.SR_STAT_MASTER then (d.enc (d.r F.EN_RING_RSRC)).vel
  else if followsEpochs d then d.sr.shownVel else 0

/-- EN_RING_POSITION_READ: the ring position[31:0] is returned and [47:32] latched [15 R301]. -/
def enRingPositionRead (d : Dev) : Dev :=
  { d.w F.EN_RPOSH_POS (ringPosition d / 2 ^ 32) with rd := ringPosition d % 2 ^ 32 }

/-- EN_CNT_CLEAR: a write of EN_CNTn clears both counts. -/
def enCntClear (n : Nat) (d : Dev) : Dev := (d.w (F.EN_CNT_REVS n) 0).w (F.EN_CNT_QERR n) 0

/-- EN_VELn as a word. -/
def velWord (v : Int) : Nat := (v % (2 ^ 32 : Int)).toNat

/-- EN_STATn[15:9]. -/
def enSticky (d : Dev) (n : Nat) : Nat :=
  d.r (F.EN_STAT_REV n) + 2 * d.r (F.EN_STAT_ZCAP n) + 4 * d.r (F.EN_STAT_START n) + 8 * d.r (F.EN_STAT_BURSTS n) +
    16 * d.r (F.EN_STAT_LQ n) + 32 * d.r (F.EN_STAT_LF n) + 64 * d.r (F.EN_STAT_LN n)

/-- Source 20 + `n` is pending. -/
def enPending (d : Dev) (n : Nat) : Bool := decide (enSticky d n &&& d.r (F.EN_IE_IE n) ≠ 0)

end Sys2Proof.Machine
end

