-- ==== Sys2Proof/Machine/Ring.lean ====
section
/-! DEFINITION. The sync ring: epochs, cells, ring-up, alignment, headlands, leaving and joining, breaks, tunnelled lines and
taint cells [21]. -/

namespace Sys2Proof.Machine

/-! ### Small parts -/

/-- The ring block changed by `g`. -/
def Dev.onR (d : Dev) (g : Ring → Ring) : Dev := { d with sr := g d.sr }

/-- SR_STAT.STATE: 0 DOWN, 1 RINGUP, 2 UP, 3 BREAK, 4 LEFT, 5 JOINING. -/
def srState (d : Dev) : Nat := d.r F.SR_STAT_STATE

/-- This device is master. -/
def isMaster (d : Dev) : Bool := d.b F.SR_STAT_MASTER

/-- This device's ring address. -/
def ringAddr (d : Dev) : Nat := d.r F.SR_STAT_ADDR

/-- An SR event of cause `c` about `unit`: its SR_EV bit and its record [21 R420]. -/
def srEvent (c : Nat) (f : Fld) (unit : Nat) (d : Dev) : Dev :=
  let d := d.set f
  if bitAt (d.r F.SR_QEN_CAUSE) (c - 1) then evRecord Tag.sr c unit (2 * d.r F.SR_MEM_MEM) d else d

/-- A control cell of this device waits to leave. -/
def queueCtrl (typ arg data : Nat) (d : Dev) : Dev := d.onR fun s => { s with ctrl := s.ctrl ++ [⟨ringAddr d, typ, arg, data⟩] }

/-- The device repeats or drives the ring: EN in Run or Hold [21 R402]. -/
def ringLive (d : Dev) : Bool := d.b F.SR_CTL_EN && d.awake && !darkened d

/-- BUSY: a slot SET or FIRING, or a bank LIT [21 R412]. -/
def ringBusy (d : Dev) : Bool :=
  (d.sw.slots.any fun e => decide (e.2.st = .set ∨ e.2.st = .firing)) || (List.range 6).any fun b => d.b (F.LD_BSTAT_LIT b)

/-- The priority order of a device's own cells [21 R405]: TAINT, then the control cells by type, then lines. -/
def nextCtrl (l : List Cell) : Option Cell := [1, 2, 3, 4, 5, 6, 7, 8].findSome? fun t => l.find? fun c => decide (c.typ = t)

/-- The 100 ms for a tunnelled line's answer begin where its forwarding ends: its last cell has left, or the ring no longer stands [11 R227] (log entry
101). -/
def tunnelSent (d : Dev) : Dev :=
  match d.st.tun with
  | none => d
  | some t =>
    if t.stop.isSome ∨ d.sr.lines.any (fun c => decide (c.typ = 10)) then d
    else { d with st := { d.st with tun := some { t with stop := some (d.ns + 100000000) } } }

/-- The next cell of this device, and the device without it. -/
def takeCell (d : Dev) : Option Cell × Dev :=
  match d.sr.taints with
  | c :: r => (some c, d.onR fun s => { s with taints := r })
  | [] =>
    match nextCtrl d.sr.ctrl with
    | some c => (some c, d.onR fun s => { s with ctrl := s.ctrl.erase c })
    | none =>
      match d.sr.lines with
      | c :: r => (some c, tunnelSent (d.onR fun s => { s with lines := r }))
      | [] => (none, d)

/-- An empty cell passes and takes this device's next cell [21 R405]. -/
def fillCell (d : Dev) : Dev :=
  match takeCell d with
  | (some c, d) => d.onR fun s => { s with sentCell := some c }
  | (none, d) => d.onR fun s => { s with sentCell := none }

/-- The EWD watchdog starts again [21 R415]. -/
def kickWatchdog (d : Dev) : Dev := d.onR fun s => { s with watchdog := some (d.ns + 1000 * max (d.r F.SR_CFG_EWD) 1) }

/-- A member that stops being UP: its ring source stops, its last projected position stays, and its slots are withdrawn
[21 R411]. -/
def ringStops (d : Dev) : Dev :=
  if followsEpochs d then
    let p := epochPos d
    withdrawSource 2 (d.onR fun s => { s with rpos := p, shownPos := (p.floor % (tltMod : Int)).toNat, shownVel := 0 })
  else d

/-- This device's state becomes `st`; a line of its own that is being forwarded goes no further once the ring is down or broken. -/
def setState (st : Nat) (d : Dev) : Dev :=
  let d := d.w F.SR_STAT_STATE st
  if st = 2 then d else tunnelSent (d.onR fun s => { s with lines := s.lines.filter fun c => decide (c.typ ≠ 10) })

/-- A member enters BREAK [21 R410, R415]. -/
def enterBreak (d : Dev) : Dev :=
  let d := setState 3 (ringStops d)
  srEvent 3 F.SR_EV_BREAK (ringAddr d) (d.onR fun s => { s with watchdog := none, join := false, admitted := false })

/-- A member goes DOWN and clears its address [21 R416]. -/
def memberDown (d : Dev) : Dev :=
  let a := ringAddr d
  let d := setState 0 (ringStops d)
  let d := ((d.clr F.SR_STAT_ADDRV).w F.SR_STAT_ADDR 0).clr F.SR_STAT_ALIGNED
  let d := d.onR fun s => { s with watchdog := none, haveD := false, loaded := false, join := false, admitted := false, ctrl := [] }
  srEvent 2 F.SR_EV_DOWN a d

/-! ### Ring-up on the master [21 R406] -/

/-- A step of ring-up fails: DOWN again, answer 086. -/
def ringFail (d : Dev) : Dev :=
  let d := ((setState 0 d).clr F.SR_STAT_MASTER).clr F.SR_STAT_ADDRV
  d.onR fun s => { s with step := .none, answer := some 86, ctrl := [] }

/-- The master measures link `j`: a MEAS cell leaves, within 4 µs. -/
def measureLink (j : Nat) (d : Dev) : Dev :=
  queueCtrl 2 j 0 (d.onR fun s => { s with step := .measure, linkNow := j, stepEnd := d.ns + 4000 })

/-- D of member `k` in 1/16 ns: the links from the master to it and 64 ns for each repeater between. -/
def delayOf (links : List Nat) (k : Nat) : Nat := (links.take k).sum + 1024 * (k - 1)

/-- DLY cells go to every member. -/
def sendDelays (d : Dev) : Dev :=
  let d := d.onR fun s => { s with step := .delays, stepEnd := d.ns + 2000 * s.members }
  forAll (List.range d.sr.members) (fun i d => queueCtrl 4 (i + 1) (delayOf d.sr.linksD (i + 1)) d) d

/-- After the last link: the loop check, skipped after FULL. -/
def afterLinks (d : Dev) : Dev :=
  if d.sr.full then sendDelays d else d.onR fun s => { s with step := .loop, stepEnd := d.ns + 2000 }

/-- A link delay is known; the next link follows. -/
def linkDone (v : Nat) (d : Dev) : Dev :=
  let d := d.onR fun s => { s with linksD := s.linksD ++ [v] }
  if d.sr.linkNow < d.sr.members then measureLink (d.sr.linkNow + 1) d else afterLinks d

/-- The ring is up: the answer is OK, or 087 after FULL. -/
def ringUpDone (d : Dev) : Dev :=
  let d := (setState 2 d).onR fun s => { s with step := .none, answer := some (if s.full then 87 else 0) }
  srEvent 1 F.SR_EV_UP 0 (kickWatchdog d)

/-- Ring-up begins: this device is master with address 0, and a DISC cell leaves. -/
def ringUp (d : Dev) : Dev :=
  let d := ((setState 1 d).set F.SR_STAT_MASTER).set F.SR_STAT_ADDRV
  let d := (d.w F.SR_STAT_ADDR 0).w F.SR_MEM_MEM 0
  let d := d.onR fun s =>
    { s with step := .discovery, stepEnd := d.ns + 4000, members := 0, linksD := [], full := false, aligned := [], answer := none,
             ctrl := [], held := [], joins := [], downLeft := 0, nextE := d.tlt / 1000 }
  queueCtrl 1 1 0 d

/-- The loop check on the master's own epoch: within 0.1 ns for each device and one more of the links and 64 ns for each
repeater. -/
def loopCheck (l : Int) (d : Dev) : Dev :=
  let m := d.sr.members
  let want : Int := ((d.sr.linksD.sum + 1024 * m : Nat) : Int)
  let d := d.w F.SR_LOOP_L (l % 65536).toNat
  if 10 * (l - want).natAbs ≤ 16 * (m + 2) then sendDelays d else ringFail d

/-- The progress of ring-up that time brings: a step past its bound fails; the DLY cells sent, alignment begins. -/
def ringUpTick (d : Dev) : Dev :=
  match d.sr.step with
  | .none => d
  | .align => d
  | .delays =>
    if (d.sr.ctrl.all fun c => decide (c.typ ≠ 4)) then d.onR fun s => { s with step := .align, stepEnd := d.ns + 100000 }
    else if d.sr.stepEnd < d.ns then ringFail d else d
  | _ => if d.sr.stepEnd < d.ns then ringFail d else d

/-! ### Epochs [21 R404, R408, R415] -/

/-- The velocity an epoch carries: EN_VELn limited to 24 bits. -/
def epochVel (v : Int) : Int := min (max v (-8388608)) 8388607

/-- EPOCH_SEND: at every multiple of 1 000 of TLT the master, while the ring is up or coming up, sends one epoch and one
cell; with UP at 0 for the 8 epochs of a RING DOWN. A master that does not drive the ring sends none, and its ring-up fails at
its step's bound [21 R404-R406, R412, R416]. -/
def epochSend (d : Dev) : Dev :=
  let e := d.tlt / 1000
  if isMaster d ∧ ringLive d = false then ringUpTick d
  else if ringLive d = false ∨ (isMaster d = false ∧ d.sr.downLeft = 0) ∨ e < d.sr.nextE then d
  else
    let d := ringUpTick d
    let n := d.r F.EN_RING_RSRC
    let busy := ringBusy d
    let up := isMaster d && decide (srState d ≠ 1 ∨ d.sr.step = .align)
    let rhl := decide (e % 100 = 0) && !busy && !d.sr.busyBack
    let x : Epoch := { e := e % 2 ^ 40, pos := (d.enc n).pos, vel := epochVel (d.enc n).vel, stop := d.b (F.EN_STAT_STOP n)
                       up := up, rhl := rhl, busy := busy }
    let d := d.onR fun s => { s with sentEpoch := some x, nextE := e + 1, downLeft := s.downLeft - 1 }
    match d.sr.held with
    | c :: r => d.onR fun s => { s with held := r, sentCell := some c }
    | [] => fillCell d

/-- The bytes of an epoch but its CRC [21 Table SR-1]. -/
def epochBytes (x : Epoch) : List Nat :=
  (0xE0 + 8 * bit x.busy + 4 * bit x.rhl + 2 * bit x.up + bit x.stop) :: leBytes 5 x.e ++ leBytes 6 x.pos ++
    leBytes 3 (x.vel % 16777216).toNat

/-- The epoch that 16 bytes spell, if they are well formed [21 Table SR-1]. -/
def parseEpoch (m : List Nat) : Option Epoch :=
  match m with
  | f :: r =>
    if m.length = 16 ∧ f / 16 = 0xE ∧ crc8 (m.take 15) = m.getD 15 0 then
      some { e := le (r.take 5), pos := le ((r.drop 5).take 6), vel := signed 24 (le ((r.drop 11).take 3)), stop := bitAt f 0
             up := bitAt f 1, rhl := bitAt f 2, busy := bitAt f 3 }
    else none
  | [] => none

/-- CODE_ERROR: `n` invalid characters: counted, and fed to the ring disturbance; one that makes the ring disturbed gives
the occurrences in flight of ring furrows the cause ring [21 R403; 19 R372]. -/
def codeErrors (n : Nat) (d : Dev) : Dev :=
  if n = 0 then d
  else
    let was := ringDisturbed d
    let d := d.addSat F.SR_CNT_CERR n
    let errs := List.replicate n d.ns ++ d.bd.errs.filter fun t => decide (d.ns < t + 1000)
    let stop := match errs[d.r F.BD_RCFG_RCLIM]? with
      | some t => t + 3000
      | none => d.bd.disturbedEnd
    let d := { d with bd := { d.bd with errs := errs, disturbedEnd := stop } }
    if ringDisturbed d && !was then disturbSource true 2 d else d

/-- SR_OFS shows the offset `e` in 1/16 ns. -/
def showOffset (e : Int) (d : Dev) : Dev :=
  d.w F.SR_OFS_E (if -32768 ≤ e ∧ e ≤ 32767 then (e % 65536).toNat else (Config.offsetShown e).toNat)

/-- The member's TLT moves by `k` ns. -/
def moveTlt (k : Int) (d : Dev) : Dev := { d with tlt := (((d.tlt : Int) + k) % (tltMod : Int)).toNat }

/-- The TLT load of R408 for the offset `e`: within 0.5 ns; time furrows take their first point ahead; the ledgers keep
their contents relative to the present window. -/
def tltLoad (e : Int) (d : Dev) : Dev :=
  let d := moveTlt ((e + 8) / 16) d
  let d := { d with bd := { d.bd with wNow := d.tlt / 100000 } }
  renextSource 3 (d.onR fun s => { s with loaded := true, small := 0, large := 0 })

/-- A member is aligned after 8 epochs within 1 ns: ALIGNED is set. -/
def alignedNow (d : Dev) : Bool := decide (8 ≤ d.sr.small)

/-- A member sends ALIGNED and is UP; its ring position takes up the epoch's [21 R406, R414]. -/
def becomesUp (d : Dev) : Dev :=
  let was := decide (srState d = 2)
  let d := queueCtrl 5 0 0 ((setState 2 d).onR fun s => { s with join := false, admitted := false })
  if was then d else renextSource 2 (srEvent 1 F.SR_EV_UP (ringAddr d) d)

/-- The member takes the master's time from an epoch with offset `e` in 1/16 ns [21 R408-R410]. -/
def takeTime (e : Int) (up : Bool) (d : Dev) : Dev :=
  if d.sr.haveD = false then d
  else if d.sr.loaded = false then
    if up ∧ (srState d = 1 ∨ d.sr.admitted) ∧ armedAll d = 0 then tltLoad e d else d
  else
    let d := d.onR fun s => { s with small := if e.natAbs < 16 then s.small + 1 else 0, large := if 128 < e.natAbs then s.large + 1 else 0 }
    let d := if 8 ≤ e then moveTlt 1 d else if e ≤ -8 then moveTlt (-1) d else d
    if d.b F.SR_STAT_ALIGNED ∧ 4 ≤ d.sr.large then
      enterBreak ((d.clr F.SR_STAT_ALIGNED).onR fun s => { s with loaded := false, small := 0, large := 0 })
    else if alignedNow d ∧ d.b F.SR_STAT_ALIGNED = false then
      let d := d.set F.SR_STAT_ALIGNED
      if srState d = 1 ∨ d.sr.admitted then becomesUp d else d
    else d

/-- A JOIN outstanding is admitted at an epoch with RHL at 1 after it was sent: an aligned member goes straight on [21
R414]. -/
def headlandAdmit (d : Dev) : Dev :=
  if d.sr.join ∧ (d.sr.ctrl.all fun c => decide (c.typ ≠ 6)) then
    if d.b F.SR_STAT_ALIGNED then becomesUp d
    else d.onR fun s => { s with admitted := true, loaded := false, join := false }
  else d

/-- A member sends JOIN [21 R413]. -/
def sendJoin (d : Dev) : Dev :=
  let d := queueCtrl 6 0 0 (d.onR fun s => { s with join := true, admitted := false })
  if srState d = 2 then d else setState 5 d

/-- The epoch's position is out of reach of counting since the last one, at most one count in each FCLK cycle. -/
def ringJump (old x : Epoch) : Bool := decide (250 * (max ((x.e + 2 ^ 40 - old.e) % 2 ^ 40) 1 : Nat) < (sd x.pos old.pos).natAbs)

/-- A member that is UP follows the epoch: a stop, a reversal and a resumed forward travel act as on an input [21 R411]. -/
def followEpoch (x : Epoch) (d : Dev) : Dev :=
  let old := d.sr.last
  let d := d.onR fun s => { s with last := x }
  if followsEpochs d = false then d
  else
    let turned := decide ((0 < old.vel ∧ x.vel < 0) ∨ (old.vel < 0 ∧ 0 < x.vel))
    let d := if turned ∨ (x.stop ∧ old.stop = false) then withdrawSource 2 d else d
    if (turned ∧ 0 < x.vel) ∨ ringJump old x then renextSource 2 d else d

/-- A valid epoch at a member: UP at 0 after UP takes it DOWN; else its position, its joining and its time follow. `e` is the
offset in 1/16 ns. -/
def memberEpoch (x : Epoch) (e : Int) (d : Dev) : Dev :=
  if d.sr.last.up ∧ x.up = false ∧ d.b F.SR_STAT_ADDRV then memberDown (d.onR fun s => { s with last := x })
  else
    let d := kickWatchdog d
    let d := showOffset e (followEpoch x d)
    let d := if srState d = 3 ∧ d.b F.SR_CTL_AUTOJ ∧ d.b F.SR_STAT_ADDRV then sendJoin d else d
    takeTime e x.up (if x.rhl then headlandAdmit d else d)

/-- A repeater forwards an epoch with BUSY set while it is busy itself [21 R402, R412]. -/
def forwardEpoch (x : Epoch) (d : Dev) : Dev :=
  let busy := x.busy || ringBusy d
  d.onR fun s => { s with sentEpoch := some { x with busy := busy } }

/-- A returning epoch at the master: its BUSY bit is kept, the loop is checked in ring-up, and a BROKEN ring is UP again with
ROLL [21 R406, R412, R415]. -/
def masterEpoch (x : Epoch) (l : Int) (d : Dev) : Dev :=
  let d := kickWatchdog (d.onR fun s => { s with busyBack := x.busy })
  if d.sr.step = .loop then loopCheck l d
  else if srState d = 3 then srEvent 1 F.SR_EV_UP 0 (queueCtrl 8 0 0 (setState 2 d))
  else d

/-- The epoch watchdog runs: not during ring-up, nor where there is no ring [21 R407, R415]. -/
def watching (d : Dev) : Bool := ringLive d && decide (srState d ≠ 1 ∧ srState d ≠ 0)

/-- EPOCH_WATCHDOG_EXPIRY: no valid epoch for EWD µs, to the end of the last FCLK cycle: a member enters BREAK; the master enters BROKEN and clears SR_MEM [21
R415; 09 R185]. Suspended during ring-up [21 R407]. -/
def epochWatchdogExpiry (d : Dev) : Dev :=
  match d.sr.watchdog with
  | none => d
  | some t =>
    if d.over Dev.fclk t = false ∨ watching d = false then d
    else if isMaster d then
      let d := ((setState 3 d).onR fun s => { s with watchdog := none }).w F.SR_MEM_MEM 0
      srEvent 3 F.SR_EV_BREAK 0 d
    else if srState d = 4 then d
    else enterBreak d

/-- EPOCH_RECEIVE: the 16 bytes of an epoch whose comma arrived at the present TLT and `frac` sixteenths, with `errs` code
errors in it; the cell behind it is empty where `empty`. A frame with a code error or a wrong CRC is discarded; an epoch in
its watchdog's own FCLK cycle wins, and one in a later cycle finds it expired [21 R403, R408, R415; 09 R185]. -/
def epochReceive (m : List Nat) (frac errs : Nat) (empty : Bool) (d : Dev) : Dev :=
  if ringLive d = false then d
  else
    let d := codeErrors errs d
    match (if errs = 0 then parseEpoch m else none) with
    | none => d
    | some x =>
      let d := epochWatchdogExpiry d
      let tie := watching d && (match d.sr.watchdog with | some t => d.ties Dev.fclk t | none => false)
      let d := if tie then (d.set F.SR_STAT_COIN).coin Tag.sr else d
      let late : Int := 16 * sd d.tlt (1000 * x.e % tltMod) + frac
      if isMaster d then masterEpoch x late d
      else
        let d := forwardEpoch x d
        let d := if d.b F.SR_STAT_ADDRV then memberEpoch x ((d.r F.SR_DLY_D : Int) - late) d else d
        if empty then fillCell d else d

/-! ### Cells [21 R405-R419] -/

/-- The cell is one of this device's own, returned. -/
def ownCell (d : Dev) (src : Nat) : Bool := d.b F.SR_STAT_ADDRV && decide (src = ringAddr d)

/-- What every cell does on arrival: one of this device's own is emptied; another the master holds for its next slot and a repeater sends on, whether
it takes it or not [21 R402, R405]. -/
def holdCell (c : Cell) (d : Dev) : Dev :=
  if isMaster d then if ownCell d c.src then d else d.onR fun s => { s with held := s.held ++ [c] }
  else d.onR fun s => { s with sentCell := if ownCell d c.src then none else some c }

/-- CELL_DISC: at the master it returns with NEXT, the number of members and one more; another device that is DOWN or in BREAK takes NEXT as its
address, or with NEXT at 16 sets ARG bit 7. One in RINGUP whose master starts again is DOWN, as a ring-up that failed leaves it. DEDUCED [log 89]
[21 R406, R416]. -/
def cellDisc (src arg : Nat) (d : Dev) : Dev :=
  if ringLive d = false then d
  else if isMaster d then
    if d.sr.step = .discovery ∧ src = 0 then
      let d := if bitAt arg 7 then d.set F.SR_STAT_FULL else d
      measureLink 0 (d.onR fun s => { s with members := arg % 128 - 1, full := bitAt arg 7 })
    else d
  else if srState d ≠ 0 ∧ srState d ≠ 1 ∧ srState d ≠ 3 then holdCell ⟨src, 1, arg, 0⟩ d
  else
    let d := if srState d = 3 then srEvent 7 F.SR_EV_MASTER (ringAddr d) d else d
    if arg % 128 = 16 then d.onR fun s => { s with sentCell := some ⟨src, 1, arg % 128 + 128, 0⟩ }
    else
      let d := ((setState 1 d).set F.SR_STAT_ADDRV).w F.SR_STAT_ADDR arg
      (d.clr F.SR_STAT_ALIGNED).onR fun s =>
        { s with sentCell := some ⟨src, 1, arg + 1, 0⟩, ctrl := [], haveD := false, loaded := false, join := false, admitted := false, last := {} }

/-- CELL_MEAS: device `arg` measures its output link as `link` sixteenths of a ns, and reports it in an MRES cell; the master
its own [21 R407]. -/
def cellMeas (src arg link : Nat) (d : Dev) : Dev :=
  if ringLive d = false then d
  else if isMaster d then
    if d.sr.step = .measure ∧ d.sr.linkNow = 0 ∧ arg = 0 ∧ src = 0 then linkDone (link % 65536) (d.w F.SR_LINK_LINK link) else d
  else
    let d := holdCell ⟨src, 2, arg, 0⟩ d
    if d.b F.SR_STAT_ADDRV ∧ arg = ringAddr d then queueCtrl 3 0 (link % 65536) (d.w F.SR_LINK_LINK link) else d

/-- CELL_MRES: a member's link delay reaches the master [21 R407]. -/
def cellMres (src data : Nat) (d : Dev) : Dev :=
  if ringLive d = false then d
  else
    let d := holdCell ⟨src, 3, 0, data⟩ d
    if isMaster d ∧ d.sr.step = .measure ∧ src = d.sr.linkNow ∧ src ≠ 0 then linkDone data d else d

/-- CELL_DLY: a member takes its D [21 R406]. -/
def cellDly (src arg data : Nat) (d : Dev) : Dev :=
  if ringLive d = false then d
  else
    let d := holdCell ⟨src, 4, arg, data⟩ d
    if isMaster d = false ∧ d.b F.SR_STAT_ADDRV ∧ arg = ringAddr d then
      (d.w F.SR_DLY_D data).onR fun s => { s with haveD := true, loaded := false, small := 0, large := 0 }
    else d

/-- The master's SR_MEM bit of member `k` becomes `v`. -/
def setMember (k : Nat) (v : Bool) (d : Dev) : Dev :=
  if k = 0 ∨ 15 < k then d else if v then d.orBit F.SR_MEM_MEM (k - 1) else d.clrBit F.SR_MEM_MEM (k - 1)

/-- CELL_ALIGNED: member `src` is aligned: its SR_MEM bit is set; the last one awaited ends ring-up; later it has joined [21
R406, R414]. -/
def cellAligned (src : Nat) (d : Dev) : Dev :=
  if ringLive d = false then d
  else
    let d := holdCell ⟨src, 5, 0, 0⟩ d
    if isMaster d = false ∨ src = 0 then d
    else
      let d := (setMember src true d).onR fun s => { s with aligned := s.aligned ++ [src], joins := s.joins.filter (· ≠ src) }
      if d.sr.step = .align then
        if (List.range d.sr.members).all fun i => d.sr.aligned.contains (i + 1) then ringUpDone d else d
      else srEvent 4 F.SR_EV_JOIN src d

/-- ALIGNMENT_TIMEOUT: the 100 µs end: each member not aligned is left out with a refused record, and the ring is up [21
R406]. -/
def alignmentTimeout (d : Dev) : Dev :=
  if d.sr.step = .align ∧ d.sr.stepEnd ≤ d.ns then
    let left := ((List.range d.sr.members).map (· + 1)).filter fun k => !d.sr.aligned.contains k
    ringUpDone (forAll left (srEvent 6 F.SR_EV_REFUSED) d)
  else d

/-- CELL_JOIN: a member asks the master for the next ring headland [21 R414]. -/
def cellJoin (src : Nat) (d : Dev) : Dev :=
  if ringLive d = false then d
  else
    let d := holdCell ⟨src, 6, 0, 0⟩ d
    if isMaster d ∧ src ≠ 0 ∧ d.sr.joins.contains src = false then d.onR fun s => { s with joins := s.joins ++ [src] } else d

/-- CELL_LEAVE: the master clears the member's SR_MEM bit [21 R413]. -/
def cellLeave (src : Nat) (d : Dev) : Dev :=
  if ringLive d = false then d
  else
    let d := holdCell ⟨src, 7, 0, 0⟩ d
    if isMaster d ∧ src ≠ 0 then srEvent 5 F.SR_EV_LEAVE src (setMember src false d) else d

/-- CELL_ROLL: a member holding an address sends JOIN [21 R413]. -/
def cellRoll (d : Dev) : Dev :=
  if ringLive d = false ∨ isMaster d then d
  else
    let d := holdCell ⟨0, 8, 0, 0⟩ d
    if d.b F.SR_STAT_ADDRV = false ∨ srState d = 1 then d else sendJoin d

/-- A slot of a ring furrow with frame number `frame` takes the cause ring and the verdict MARKED, and is reported, unless it
has a verdict [19 R378]. -/
def followTaint (frame k : Nat) (d : Dev) : Dev :=
  let s := d.sl k
  if d.r (F.SWF_CFG_SRC s.f) = 2 ∧ frameOf s.tfire = frame ∧ s.verdict = none then
    let d := (d.onS k fun s => { s with ring := true, followed := true, verdict := some 0 }).set F.BD_EV_RING
    taintReport (d.sl k) 0 d
  else d

/-- CELL_TAINT: another member's taint is handed to the follow rule, with RFOLLOW at 1 [21 R419; 19 R378]. -/
def cellTaint (src arg data : Nat) (d : Dev) : Dev :=
  if ringLive d = false then d
  else
    let d := holdCell ⟨src, 9, arg, data⟩ d
    if ownCell d src then d
    else if d.b F.BD_CTL_RFOLLOW then forAll (slotsIf d Slot.busy) (followTaint data) d else d

/-- A line cell out of sequence: the open line is discarded, TSEQ is set and counted [21 R417]. -/
def seqError (src : Nat) (d : Dev) : Dev :=
  ((d.onR fun s => { s with gather := s.gather.filter fun g => decide (g.src ≠ src) }).set F.SR_EV_TSEQ).inc F.SR_CNT_TSEQ

/-- The characters of a line cell; unused ones are 0. -/
def cellChars (data : Nat) : List Nat := (leBytes 4 data).filter (· ≠ 0)

/-- A complete line is written into Q0: header with SRC 3, REPLY and the source address, the characters, CR [21 R417, R418;
10 Table QU-2]. -/
def lineToQueue (src : Nat) (reply : Bool) (chars : List Nat) (d : Dev) : Dev :=
  qStage 0 3 ((0x60 + 16 * bit reply + src) :: chars ++ [13]) d

/-- The cell's characters join the open line of `src`; on LAST the line goes to Q0; beyond 256 bytes it is discarded. -/
def gatherAdd (src : Nat) (reply : Bool) (seq : Nat) (isLast : Bool) (chars : List Nat) (d : Dev) : Dev :=
  let d := d.onR fun s => { s with gather := s.gather.filter fun g => decide (g.src ≠ src) }
  if 256 < chars.length then d
  else if isLast then lineToQueue src reply chars d
  else d.onR fun s => { s with gather := s.gather ++ [⟨src, reply, (seq + 1) % 4, chars⟩] }

/-- A TUN or TUNR cell for this device: FIRST opens a line, the next number extends it, anything else is out of sequence [21
R417]. -/
def gatherCell (src : Nat) (reply : Bool) (arg data : Nat) (d : Dev) : Dev :=
  let seq := arg / 64
  let chars := cellChars data
  match d.sr.gather.find? fun g => decide (g.src = src) with
  | some g =>
    if bitAt arg 4 then gatherAdd src reply seq (bitAt arg 5) chars (seqError src d)
    else if g.seq = seq ∧ g.reply = reply then gatherAdd src reply seq (bitAt arg 5) (g.chars ++ chars) d
    else seqError src d
  | none => if bitAt arg 4 then gatherAdd src reply seq (bitAt arg 5) chars d else d

/-- A line cell arrives; one for this device is gathered. -/
def lineCell (typ src arg data : Nat) (d : Dev) : Dev :=
  if ringLive d = false then d
  else
    let d := holdCell ⟨src, typ, arg, data⟩ d
    if d.b F.SR_STAT_ADDRV ∧ ownCell d src = false ∧ arg % 16 = ringAddr d then gatherCell src (decide (typ = 11)) arg data d else d

/-- CELL_TUN: four characters of a tunnelled line [21 R417]. -/
def cellTun (src arg data : Nat) (d : Dev) : Dev := lineCell 10 src arg data d

/-- CELL_TUNR: four characters of an answer or event line returned [21 R418]. -/
def cellTunr (src arg data : Nat) (d : Dev) : Dev := lineCell 11 src arg data d

/-- The cells of a line, four characters each, numbered from `i`. -/
def lineCells (src typ dst : Nat) (i n : Nat) (chars : List Nat) : List Cell :=
  match n with
  | 0 => []
  | n + 1 =>
    let isLast := decide (chars.length ≤ 4)
    let c : Cell := ⟨src, typ, dst + 16 * bit (decide (i = 0)) + 32 * bit isLast + 64 * (i % 4), le (chars.take 4)⟩
    if isLast then [c] else c :: lineCells src typ dst (i + 1) n (chars.drop 4)

/-- A line is queued as TUN (10) or TUNR (11) cells for device `dst` [21 R417, R418]. -/
def queueLine (typ dst : Nat) (chars : List Nat) (d : Dev) : Dev :=
  d.onR fun s => { s with lines := s.lines ++ lineCells (ringAddr d) typ dst 0 (chars.length + 1) chars }

/-! ### Requests [21 R406, R413, R416] -/

/-- UP: on a device whose ring is DOWN ring-up begins; 086 else. The Bool says that it was accepted. -/
def reqUp (d : Dev) : Bool × Dev := if srState d = 0 ∧ isMaster d = false then (true, ringUp d) else (false, d)

/-- DOWN on the master: 8 epochs with UP at 0, then commas only. -/
def reqDown (d : Dev) : Bool × Dev :=
  if isMaster d then
    let d := ((setState 0 d).clr F.SR_STAT_MASTER).clr F.SR_STAT_ADDRV
    let d := d.onR fun s => { s with downLeft := 8, step := .none, watchdog := none, held := [], ctrl := [] }
    (true, (srEvent 2 F.SR_EV_DOWN 0 d).w F.SR_MEM_MEM 0)
  else (false, d)

/-- JOIN: a LEFT or broken member with an address sends JOIN. -/
def reqJoin (d : Dev) : Bool × Dev :=
  if isMaster d ∨ d.b F.SR_STAT_ADDRV = false then (false, d)
  else if srState d = 4 ∨ srState d = 3 then (true, sendJoin d) else (true, d)

/-- A member sends LEAVE and is LEFT [21 R413]. -/
def ringLeave (d : Dev) : Dev :=
  if isMaster d ∨ d.b F.SR_STAT_ADDRV = false ∨ srState d = 4 ∨ srState d = 0 then d
  else setState 4 (queueCtrl 7 0 0 ((ringStops d).onR fun s =>
    { s with join := false, admitted := false, ctrl := s.ctrl.filter fun c => decide (c.typ ≠ 6) }))

/-- The LEAVE cell that a member sends before a commanded state or a soft reset stops it [21 R413]. -/
def leaveCell (d : Dev) : Option Cell :=
  if ringLive d = false ∨ isMaster d ∨ d.b F.SR_STAT_ADDRV = false ∨ srState d = 4 ∨ srState d = 0 then none else some ⟨ringAddr d, 7, 0, 0⟩

/-- A member about to stop leaves, its LEAVE cell being the last it sends [21 R413]. -/
def ringQuit (d : Dev) : Dev :=
  match leaveCell d with
  | none => ringLeave d
  | some c => (ringLeave d).onR fun s => { s with sentCell := some c, ctrl := s.ctrl.filter fun x => decide (x.typ ≠ 7) }

/-- LEAVE: refused on the master; a device with no address has nothing to leave and is not refused [21 R416]. DEDUCED [log 78]. -/
def reqLeave (d : Dev) : Bool × Dev := if isMaster d then (false, d) else (true, ringLeave d)

/-- SR_CTL_UP. -/
def srUp (d : Dev) : Dev := (reqUp d).2

/-- SR_CTL_DOWN. -/
def srDown (d : Dev) : Dev := (reqDown d).2

/-- SR_CTL_JOIN. -/
def srJoin (d : Dev) : Dev := (reqJoin d).2

/-- SR_CTL_LEAVE. -/
def srLeave (d : Dev) : Dev := (reqLeave d).2

/-- A write of SR_CTL: the settings, then the requests in the order of their bits. -/
def srCtlWrite (v : Nat) (d : Dev) : Dev :=
  let d := (d.w F.SR_CTL_AUTOJ (bitsAt v 1 1)).w F.SR_CTL_EN (bitsAt v 0 1)
  let d := if bitAt v 8 then srUp d else d
  let d := if bitAt v 9 then srDown d else d
  let d := if bitAt v 10 then srJoin d else d
  if bitAt v 11 then srLeave d else d

/-- SR_CNT_CLEAR: a write of SR_CNT clears its three counts. -/
def srCntClear (d : Dev) : Dev := ((d.w F.SR_CNT_CERR 0).w F.SR_CNT_TSEQ 0).w F.SR_CNT_TLOST 0

/-- Source 37 is pending. -/
def srPending (d : Dev) : Bool :=
  decide ((d.r F.SR_EV_UP + 2 * d.r F.SR_EV_DOWN + 4 * d.r F.SR_EV_BREAK + 8 * d.r F.SR_EV_JOIN + 16 * d.r F.SR_EV_LEAVE +
    32 * d.r F.SR_EV_REFUSED + 64 * d.r F.SR_EV_MASTER) &&& d.r F.SR_IE_IE ≠ 0)

/-- Source 38 is pending. -/
def srSeqPending (d : Dev) : Bool := d.b F.SR_EV_TSEQ && d.b F.SR_IE_T

end Sys2Proof.Machine
end

