-- ==== Sys2Proof/Machine/Cache.lean ====
section
/-! DEFINITION. The instruction cache of the XIP window, its line buffer and its counts [07 R142, R143]. -/

namespace Sys2Proof.Machine

/-- The address lies in the XIP window [09 Table AS-1]. -/
def inXip (a : Nat) : Bool := decide (0x60000000 ≤ a ∧ a < 0x70000000)

/-- The line that holds address `a`: 32 bytes. -/
def lineAt (a : Nat) : Nat := a / 32 * 32

/-- The set of address `a`, of 128. -/
def setAt (a : Nat) : Nat := a / 32 % 128

/-- The way of the cache that holds the line of `a`, while the cache is enabled. -/
def wayOf (d : Dev) (a : Nat) : Option Nat :=
  if d.b F.IC_CTL_EN then
    [0, 1].find? fun w => match Tab.get? d.co.cache (2 * setAt a + w) with | some x => decide (x.1 = lineAt a) | none => false
  else none

/-- The line buffer holds the word of `a`: while its line is being filled, the bytes that have come. -/
def lineHit (d : Dev) (a : Nat) : Bool :=
  match d.co.line with | some x => decide (x.1 = lineAt a ∧ a % 32 / 4 * 4 + 4 ≤ x.2.length) | none => false

/-- The bytes of the line of `a`, from the line buffer or a way of the cache. -/
def lineBytes (d : Dev) (a : Nat) : Option (List Nat) :=
  if lineHit d a then d.co.line.map Prod.snd
  else (wayOf d a).bind fun w => (Tab.get? d.co.cache (2 * setAt a + w)).map Prod.snd

/-- Way `w` of the set of `a` is the one used last. -/
def wayUsed (w a : Nat) (d : Dev) : Dev := { d with co := { d.co with used := Tab.put d.co.used (setAt a) (w + 1) } }

/-- A hit is counted, and its way is the one used last; one that the line buffer serves leaves the set's bit as it is. DESIGN CHOICE [log 91]. -/
def cacheHit (a : Nat) (d : Dev) : Dev :=
  let d := d.inc F.IC_STAT_HIT
  if lineHit d a then d else match wayOf d a with | some w => wayUsed w a d | none => d

/-- The way a new line takes: way 1 with LOCK0, else the one not used last. -/
def wayFor (d : Dev) (a : Nat) : Nat :=
  if d.b F.IC_CTL_LOCK0 then 1 else if Tab.getD d.co.used (setAt a) 0 = 1 then 1 else 0

/-- The line `bs` of address `a` enters the cache, where it is enabled. -/
def cacheInsert (a : Nat) (bs : List Nat) (d : Dev) : Dev :=
  if d.b F.IC_CTL_EN then
    let w := wayFor d a
    wayUsed w a { d with co := { d.co with cache := Tab.put d.co.cache (2 * setAt a + w) (lineAt a, bs) } }
  else d

/-- The `n` bytes at address `a` of the line `bs`, as a number. -/
def lineValue (bs : List Nat) (n a : Nat) : Nat := le ((bs.drop (a % 32)).take n)

/-- The bytes `bs` of the line at `a` are in the line buffer and serve the far loads that wait for one of its words [07 R142]. -/
def lineServes (a : Nat) (bs : List Nat) (d : Dev) : Dev :=
  { d with co := { d.co with line := some (a, bs), loads := d.co.loads.map fun l =>
      if l.reached && l.res.isNone && !d.co.fails.any (fun x => decide (x.2 = some l.id)) && decide (lineAt l.addr = a) && inXip l.addr && decide (l.addr % 32 / 4 * 4 + 4 ≤ bs.length) then
        { l with res := some (lineValue bs l.width l.addr) }
      else l } }

/-- A filled line is in the line buffer, serves the far loads that wait for it, and enters the cache. -/
def lineArrives (a : Nat) (bs : List Nat) (d : Dev) : Dev := lineServes a bs (cacheInsert a bs d)

/-- IC_INVALIDATE: both ways and the line buffer are emptied; INV reads 1 until that is done [07 Table CO-14]. -/
def icInvalidate (d : Dev) : Dev :=
  let d := d.set F.IC_CTL_INV
  { d with co := { d.co with cache := [], used := [], line := none } }

/-- CACHE_INVALIDATION_DONE: INV reads 0. -/
def icInvalidated (d : Dev) : Dev := d.clr F.IC_CTL_INV

/-- IC_STAT_CLEAR: a write of IC_CTL.CLRST clears both counts. -/
def icStatClear (d : Dev) : Dev := (d.w F.IC_STAT_MISS 0).w F.IC_STAT_HIT 0

end Sys2Proof.Machine
end

