-- ==== Sys2Proof/Machine/PinEngine.lean ====
section
/-! DEFINITION. The pin engines' commands: ticks, starting and stopping, routes and the exchange with the core [14]. -/

namespace Sys2Proof.Machine

/-- ENGINE_TICK: engine `n` ticks with GP pad levels `pads`. -/
def engineTick (n pads : Nat) (d : Dev) : Dev :=
  let d := padsSampled pads d
  if tickDue d n then peTick n pads d else d

/-- PE_TIMER_EXPIRY: the tick at which the timer reaches LIMIT and TEXP becomes 1 [14 R278, R279]. -/
def peTimerExpiry (n pads : Nat) (d : Dev) : Dev :=
  let d := padsSampled pads d
  if tickDue d n ∧ expiresNow d n then peTick n pads d else d

/-- ENGINE_START: RUN goes from 0 to 1: STATE, OUT, the timer and the latches are set; the first tick follows DIV + 1 cycles
later [14 R283]. -/
def engineStart (n : Nat) (d : Dev) : Dev :=
  if d.b (F.PE_CTL_RUN n) then d
  else
    let old := d
    let d := (d.set (F.PE_CTL_RUN n)).w (F.PE_DATA_STATE n) (d.r (F.PE_CTL_INIT n))
    let d := (d.w (F.PE_DATA_OUT n) (d.r (F.PE_CTL_OINIT n))).w (F.PE_TMR_TCNT n) 0
    let p := pePeriod d n
    gpNote old (gpPins d n) (d.onG n fun g =>
      { g with fire := false, taint := false, prev := 0, first := true, next := d.ns + p, was := none, stopAt := none })

/-- ENGINE_STOP: RUN is written to 0; a tick of this FCLK cycle still completes; everything else keeps its value [14 R283]. -/
def engineStop (n : Nat) (d : Dev) : Dev :=
  if d.b (F.PE_CTL_RUN n) then (d.clr (F.PE_CTL_RUN n)).onG n fun g => { g with stopAt := some d.ns } else d

/-- A write of PEn_CTL: COIN by one, the settings, then start or stop. -/
def peCtlWrite (n v : Nat) (d : Dev) : Dev :=
  let d := if bitAt v 24 then d.clr (F.PE_CTL_COIN n) else d
  let d := ((d.w (F.PE_CTL_OINIT n) (bitsAt v 16 4)).w (F.PE_CTL_INIT n) (bitsAt v 8 4)).w (F.PE_CTL_IE n) (bitsAt v 4 4)
  if bitAt v 0 then engineStart n d else engineStop n d

/-- PE_DATA_IN_WRITE: the core-written inputs; the ticks sample them from the next FCLK cycle on [14 R280]. -/
def peDataInWrite (n v : Nat) (d : Dev) : Dev := d.w (F.PE_DATA_IN n) v

/-- PEn_DATA as read: in the FCLK cycle of a tick STATE, OUT and TEXP as they stood before it [14 R280]. -/
def peDataWord (d : Dev) (n : Nat) : Nat :=
  let (s, o, t) := match peTicked d n with
    | some w => (w.state, w.out, w.tcnt)
    | none => (d.r (F.PE_DATA_STATE n), d.r (F.PE_DATA_OUT n), d.r (F.PE_TMR_TCNT n))
  s * 2 ^ 16 + d.r (F.PE_DATA_IN n) * 2 ^ 8 + bit (texpAt d n t) * 2 ^ 4 + o

/-- The PE_CONF bit of every pin with more than one route is set [14 R275]. -/
def peConflicts (d : Dev) : Dev :=
  forAll (List.range 16) (fun g d => if 1 < (gpRoutes d g).length then d.orBit F.PE_CONF_PIN g else d) d

/-- PEn_OUTSEL has been written, as `w` writes it: pins change what they carry, and conflicts are noted [14 R275, R276]. -/
def peRouted (n : Nat) (w : Dev → Dev) (d : Dev) : Dev :=
  let d' := w d
  peConflicts (gpNote d (gpPins d n ++ gpPins d' n).eraseDups d')

/-- A write of word `j` of engine `n`'s table, locked while RUN is 1 [14 R282]. -/
def peLutWrite (n j v : Nat) (d : Dev) : Dev :=
  if d.b (F.PE_CTL_RUN n) then d.lockV Tag.pe (0x4000A800 + 0x100 * n + 4 * j)
  else
    d.onG n fun g => { g with lut := (List.range 4).foldl (fun t i => Tab.setD t (4 * j + i) 0 (v / 256 ^ i % 256)) g.lut }

/-- Word `j` of engine `n`'s table. -/
def peLutWord (d : Dev) (n j : Nat) : Nat := le ((List.range 4).map fun i => Tab.getD (d.eng n).lut (4 * j + i) 0)

/-- Source 12 + `n` is pending [14 R281]. -/
def pePending (d : Dev) (n : Nat) : Bool := decide (d.r (F.PE_STAT_RISE n) &&& d.r (F.PE_CTL_IE n) ≠ 0)

end Sys2Proof.Machine
end

