-- ==== Sys2Proof/Machine/SerialPort.lean ====
section
/-! DEFINITION. The serial memory port: the command queue, arbitration, transfers and their ends, the continue flag,
write-wait, discovery, XIP windows; and the serial slave port [13; 01 R16-R18]. -/

namespace Sys2Proof.Machine

/-- The serial ports changed by `g`. -/
def Dev.onSp (d : Dev) (g : Serial → Serial) : Dev := { d with sp := g d.sp }

/-! ### Control words [13 Table SP-1] -/

/-- CONT. -/
def CqEntry.cont (e : CqEntry) : Bool := bitAt e.ctrl 31
/-- SEL. -/
def CqEntry.sel (e : CqEntry) : Nat := bitsAt e.ctrl 29 2
/-- WIP. -/
def CqEntry.wip (e : CqEntry) : Bool := bitAt e.ctrl 28
/-- NB; 0 means 4; a run of the interpreter's carries the bytes of all its entries. -/
def CqEntry.nb (e : CqEntry) : Nat :=
  match e.own with
  | some n => n
  | none => if bitsAt e.ctrl 24 3 = 0 then 4 else bitsAt e.ctrl 24 3
/-- The entry reads. -/
def CqEntry.reads (e : CqEntry) : Bool := decide (bitsAt e.ctrl 22 2 = 1)

/-- Lines of a field coded as DW: one, two, four. -/
def lines (x : Nat) : Nat := 2 ^ x

/-- The clocks of an entry: opcode, address, mode, dummy, data [13 R255]. -/
def CqEntry.clocks (e : CqEntry) : Nat :=
  (if bitAt e.ctrl 27 then 8 else 0) +
    (match bitsAt e.ctrl 8 2 with | 1 => 24 / lines (bitsAt e.ctrl 10 2) | 2 => 32 / lines (bitsAt e.ctrl 10 2) | _ => 0) +
    bitsAt e.ctrl 17 3 + bitsAt e.ctrl 12 5 + (if bitsAt e.ctrl 22 2 = 0 then 0 else 8 * e.nb / lines (bitsAt e.ctrl 20 2))

/-- The bytes of address `a`, the most significant of `n` first [13 R255]. -/
def addrBytes (n a : Nat) : List Nat := (leBytes n a).reverse

/-- What an entry sends: its opcode, its address with the most significant byte first, and byte `k` of its write data, bits [8k + 7:8k], as the
`k`-th [13 R255]. -/
def CqEntry.sends (e : CqEntry) : List Nat :=
  (if bitAt e.ctrl 27 then [bitsAt e.ctrl 0 8] else []) ++
    (match bitsAt e.ctrl 8 2 with | 1 => addrBytes 3 e.addr | 2 => addrBytes 4 e.addr | _ => []) ++
    (if bitsAt e.ctrl 22 2 = 2 then leBytes e.nb e.data else [])

/-- A control word with a reserved code [13 R254]. -/
def cqReserved (w : Nat) : Bool :=
  decide (4 < bitsAt w 24 3) || decide (bitsAt w 22 2 = 3) || decide (bitsAt w 20 2 = 3) || decide (bitsAt w 10 2 = 3) ||
    decide (bitsAt w 8 2 = 3)

/-! ### Selects [13 R252, R258-R261] -/

/-- The MSCK period of select `n` in ns [13 R252]. -/
def msck (d : Dev) (n : Nat) : Nat := 16 * (d.r (F.SP_SEL_DIV n) + 1)

/-- The clocks of a read of `n` bytes with select `s`'s read command [13 Table SP-2]. -/
def readClocks (d : Dev) (s n : Nat) : Nat :=
  let a4 := d.b (F.SP_SEL_ADDR4 s)
  let x := d.r (F.SP_SEL_MCLK s) + d.r (F.SP_SEL_DUM s)
  let a := 8 + (if a4 then 32 else 24)
  match d.r (F.SP_SEL_RCMD s) with
  | 0x3B => a + x + 4 * n
  | 0x6B => a + x + 2 * n
  | 0xEB => 8 + (if a4 then 8 else 6) + x + 2 * n
  | _ => a + x + 8 * n

/-- What a read of select `s` at device address `a` sends [13 R258, Table SP-2]. -/
def readSends (d : Dev) (s a : Nat) : List Nat := d.r (F.SP_SEL_RCMD s) :: addrBytes (if d.b (F.SP_SEL_ADDR4 s) then 4 else 3) a

/-- The bytes of select `n` from `a` on lie within its memory: below 16 MB with 3-byte addresses, and below SIZE [13
R259]. -/
def withinSel (d : Dev) (n a len : Nat) : Bool :=
  (d.b (F.SP_SEL_ADDR4 n) || decide (a + len ≤ 0x1000000)) &&
    (decide (d.r (F.SP_XDEV_SIZE n) = 0) || decide (a + len ≤ 65536 * d.r (F.SP_XDEV_SIZE n)))

/-- The select and device address that serve XIP offset `o`, the lowest-numbered first [13 R259]. -/
def xipSelect (d : Dev) (o : Nat) : Option (Nat × Nat) :=
  ((List.range 4).find? fun n =>
    let base := 65536 * d.r (F.SP_XWIN_BASE n)
    d.b (F.SP_XWIN_EN n) && d.b (F.SP_SEL_XEN n) && decide (base ≤ o ∧ o < base + 65536 * (d.r (F.SP_XWIN_SIZEM1 n) + 1))).map
    fun n => (n, o - 65536 * d.r (F.SP_XWIN_BASE n) + 65536 * d.r (F.SP_XDEV_DEV n))

/-- An XIP access at address `a` has a serving select within its bounds [13 R259; 09 R181]. -/
def xipMapped (d : Dev) (a : Nat) : Bool :=
  match xipSelect d (a - 0x60000000) with
  | some (n, x) => withinSel d n x 1
  | none => false

/-- The fill of the line at `a` is on the bus. -/
def fillOn (d : Dev) (a : Nat) : Bool := match d.sp.bus with | some o => decide (o.op = .fill a) | none => false

/-- An XIP access at `a` that needs a line fill can have it: EN is 1 and a select serves it [13 R259, R462]. -/
def fillable (d : Dev) (a : Nat) : Bool := xipMapped d a && d.b F.SP_CTL_EN

/-- The far load `l` waits for an XIP line. -/
def waitsLine (d : Dev) (l : FarLoad) : Bool :=
  l.reached && l.res.isNone && inXip l.addr && !d.co.fails.any fun x => decide (x.2 = some l.id)

/-- The line that the next waiting far load wants from the XIP window. -/
def nextFill (d : Dev) : Option Nat := (d.co.loads.find? (waitsLine d)).map fun l => lineAt l.addr

/-- Far loads whose line can no longer be filled fail under R181, unless its fill is on the bus, which runs to its end; another line is then asked
for [13 R259, R462]. -/
def xipRecheck (d : Dev) : Dev :=
  let bad := d.co.loads.filter fun l => waitsLine d l && !fillOn d (lineAt l.addr) && !fillable d l.addr
  let d := { d with co := { d.co with fails := d.co.fails ++ bad.map fun (l : FarLoad) => (l.addr, some l.id) } }
  match d.sp.fill with
  | none => d
  | some a => if fillOn d a || fillable d a then d else d.onSp fun s => { s with fill := nextFill d }

/-- GEN of select `n` clears, and furrows with pages on it hold; a return that still waits is void [13 R261]. -/
def genOut (n : Nat) (d : Dev) : Dev :=
  let d := forAll (List.range 6) (fun b d => dropPend (.selBack n b) d) d
  (d.clr (F.SP_SEL_GEN n)).onSp fun s =>
    { s with out := (List.range 6).foldl (fun l b => if l.contains (n, b) then l else l ++ [(n, b)]) s.out }

/-- Select `n` goes out of service: GEN and XEN clear [13 R257, R261, R262]. -/
def selOut (n : Nat) (d : Dev) : Dev := xipRecheck ((genOut n d).clr (F.SP_SEL_XEN n))

/-- Select `n` returns: at each bank's next headland [13 R261]. -/
def selReturn (n : Nat) (d : Dev) : Dev :=
  forAll (List.range 6) (fun b d => if d.sp.out.contains (n, b) then addChange [b] (.selBack n b) d else d) d

/-- A read command of Table SP-2. -/
def rcmdOk (v : Nat) : Bool := decide (v = 0x03 ∨ v = 0x0B ∨ v = 0x3B ∨ v = 0x6B ∨ v = 0xEB)

/-- A write of SP_SELn: RCMD only takes a command of Table SP-2; GEN cleared takes the select out of service for the furrows,
set returns it [13 R258, R261]. -/
def spSelWrite (n v : Nat) (d : Dev) : Dev :=
  let was := d.b (F.SP_SEL_GEN n)
  let d := (d.w (F.SP_SEL_XEN n) (bitsAt v 30 1)).w (F.SP_SEL_ADDR4 n) (bitsAt v 28 1)
  let d := ((d.w (F.SP_SEL_DESEL n) (bitsAt v 24 4)).w (F.SP_SEL_RDLY n) (bitsAt v 22 2)).w (F.SP_SEL_DIV n) (bitsAt v 16 6)
  let d := (d.w (F.SP_SEL_MCLK n) (bitsAt v 13 3)).w (F.SP_SEL_DUM n) (bitsAt v 8 5)
  let d := if rcmdOk (v % 256) then d.w (F.SP_SEL_RCMD n) v else d
  xipRecheck (if bitAt v 31 then (if was then d else selReturn n (d.set (F.SP_SEL_GEN n))) else if was then genOut n d else d)

/-- Select `n` is in write-wait. -/
def inWait (d : Dev) (n : Nat) : Bool := (Tab.get? d.sp.ww n).isSome

/-! ### The command queue [13 R254-R256] -/

/-- No transfer is on the bus: a run that waits for its continuation still holds it [13 R253, R256; 03 R49, R51]. -/
def busIdle (d : Dev) : Bool := d.sp.bus.isNone && d.sp.held.isNone

/-- Entry `e` may start: a read waits while the receive FIFO is full; the interpreter takes its own words from it at once [13 R255]. -/
def entryReady (d : Dev) (e : CqEntry) : Bool := !e.reads || e.own.isSome || decide (d.sp.rx.length < 16)

/-- The oldest entry of the command queue that may be granted: those pushed during discovery wait until it ends [13 R262]. -/
def oldestRun (d : Dev) : Option CqEntry :=
  match d.sp.disc with
  | some x => if x.before = 0 then none else d.sp.cq.head?
  | none => d.sp.cq.head?

/-- The interpreter's runs enter the queue while it has room. -/
def cqFeed (d : Dev) : Dev :=
  d.onSp fun s => { s with cq := s.cq ++ s.feed.take (16 - s.cq.length), feed := s.feed.drop (16 - s.cq.length) }

/-- The oldest entry is removed to start it; a push of this PCLK cycle that found the queue full is judged after that removal [13 R254]. -/
def cqTake (d : Dev) : Dev :=
  let d := d.onSp fun s => { s with cq := s.cq.tail, disc := s.disc.map fun x => { x with before := x.before - 1 } }
  cqFeed (match d.sp.lost with
    | some (t, e, was) =>
      if d.ties Dev.pclk t then (d.w F.SP_STAT_CQFULL (bit was)).onSp fun s => { s with cq := s.cq ++ [e], lost := none } else d
    | none => d)

/-- The operation `op` of rank `owner` takes the bus on select `n` for `clocks` clocks of `period`, and sends `sends`: it asserts the select, holds it
one period longer than its clocks, and waits for its deselect time [13 R252]. -/
def takeBus (op : Xfer) (n owner clocks period : Nat) (sends : List Nat) (d : Dev) : Dev :=
  let free := match Tab.get? d.sp.rose n with
    | some t => t + (d.r (F.SP_SEL_DESEL n) + 1) * msck d n
    | none => 0
  d.onSp fun s => { s with bus := some ⟨op, n, owner, max d.ns free, max d.ns free + (clocks + 1) * period, period, sends⟩, held := none }

/-- The bus is free again; select `n` rose at model time `t`. -/
def freeBus (n t : Nat) (d : Dev) : Dev :=
  d.onSp fun s => { s with bus := none, held := none, rose := Tab.put s.rose n t }

/-- WRITE_WAIT_ENTRY: select `n` enters write-wait at model time `t`, or starts it again [13 R257]. -/
def writeWaitEnter (n t : Nat) (d : Dev) : Dev := d.onSp fun s => { s with ww := Tab.put s.ww n ⟨t, 1, false⟩ }

/-- A command-queue run ends with entry `e` at model time `t`: RUNEND, the bus is free, and with WIP write-wait follows [13 R256, R257]. -/
def runEnd (e : CqEntry) (brk : Bool) (t : Nat) (d : Dev) : Dev :=
  let d := (freeBus e.sel t d).set F.SP_STAT_RUNEND
  let d := if brk then d.set F.SP_STAT_CBRK else d
  if e.wip then writeWaitEnter e.sel t d else d

/-- The oldest entry starts at model time `t` as the continuation of `e`, on the held select with the run's own period, or ends the run where it names
another select [13 R256; 13 Collisions]. -/
def continueRun (e : CqEntry) (period t : Nat) (d : Dev) : Dev :=
  match oldestRun d with
  | none => d
  | some c =>
    if c.sel ≠ e.sel then runEnd e true t d
    else if entryReady d c then
      (cqTake d).onSp fun s => { s with bus := some ⟨.run c, c.sel, 4, t, t + c.clocks * period, period, c.sends⟩, held := none }
    else d

/-- CONTINUE_TIMEOUT: no continuation could start within CTMO µs: the select is released and the run ends with CBRK, once the PCLK cycle of the timeout
is over [13 R256; 09 R185]. -/
def continueTimeout (d : Dev) : Dev :=
  match d.sp.held with
  | none => d
  | some h => if d.over Dev.pclk h.stop then runEnd h.last true h.stop d else d

/-- A held run goes on if its continuation can start, EN being 1; in the timeout's own PCLK cycle it wins and the tie is
recorded [13 R256, R462; 09 R185]. -/
def heldTry (d : Dev) : Dev :=
  match d.sp.held with
  | none => d
  | some h =>
    if d.b F.SP_CTL_EN = false then d
    else
      let d' := continueRun h.last h.period d.ns d
      if d'.sp.held.isSome then d
      else if d.ties Dev.pclk h.stop then (d'.set F.SP_STAT_COIN).coin Tag.sp else d'

/-- CQ_PUSH: a write of the control word to SP_CQC pushes an entry with SP_CQA and SP_CQD, refused at 16 entries (CQFULL) or
for a reserved code (BADENT) [13 R254]. -/
def cqPush (ctrl : Nat) (d : Dev) : Dev :=
  let d := continueTimeout (d.w F.SP_CQC_CTRL ctrl)
  let e : CqEntry := ⟨ctrl, d.r F.SP_CQA_ADDR, d.r F.SP_CQD_DATA, none⟩
  let full := decide (16 ≤ d.sp.cq.length)
  if cqReserved ctrl then (if full then d.set F.SP_STAT_CQFULL else d).set F.SP_STAT_BADENT
  else if full then (d.set F.SP_STAT_CQFULL).onSp fun s => { s with lost := some (d.ns, e, d.b F.SP_STAT_CQFULL) }
  else heldTry (d.onSp fun s => { s with cq := s.cq ++ [e] })

/-- SP_RXD_POP: a read of SP_RXD takes the oldest word; an empty FIFO returns 0 [13 R255]. -/
def spRxdPop (d : Dev) : Dev :=
  let d := continueTimeout d
  match d.sp.rx with
  | [] => { d with rd := 0 }
  | w :: r => heldTry { d.onSp fun s => { s with rx := r } with rd := w }

/-! ### Arbitration [01 R16-R18; 13 R257, R260, R462] -/

/-- A fetch of the page fails under R260: GEN at 0, no device, or its last byte beyond the bounds; an entry's ADDR counts 1 024 bytes [17 Table
GR-8]. -/
def fetchBad (d : Dev) (x : Fetch) : Bool :=
  let e := d.pte x.f x.page
  !d.b (F.SP_SEL_GEN e.sel) || !selPresent d e.sel || !withinSel d e.sel (1024 * e.addr) 1024

/-- PAGE_FETCH_FAILED: an active fetch that R260 fails [13 R260; 17 R338]. -/
def fetchFailed (f g : Nat) (d : Dev) : Dev :=
  match placeOf d f g with
  | none => d
  | some x => if x.onBus = false ∧ fetchBad d x then pageFetchFailed f g d else d

/-- The fetch presented to the port: the earliest deadline, command fetches last, none whose select is in write-wait [17
R337]. -/
def presented (d : Dev) : Option Fetch :=
  let l := d.gr.places.filter fun x => !x.onBus && !inWait d (d.pte x.f x.page).sel
  match (l.filter fun x => x.deadline.isSome).foldl (fun m x => match m with
    | none => some x
    | some y => if sd (x.deadline.getD 0) (y.deadline.getD 0) < 0 then some x else some y) (none : Option Fetch) with
  | some x => some x
  | none => l.find? fun x => x.deadline.isNone

/-- The fetch goes on the bus as rank `owner`, or fails without a transfer. -/
def grantFetch (owner : Nat) (x : Fetch) (d : Dev) : Dev :=
  if fetchBad d x then pageFetchFailed x.f x.page d
  else
    let e := d.pte x.f x.page
    let s := e.sel
    let d := { d with gr := { d.gr with places := d.gr.places.map fun y => if y = x then { y with onBus := true } else y } }
    takeBus (.page x.f x.page) s owner (readClocks d s 1024) (msck d s) (readSends d s (1024 * e.addr)) d

/-- The wanted XIP line can be filled now; its select and device address. -/
def fillNow (d : Dev) : Option (Nat × Nat) :=
  match d.sp.fill with
  | some a =>
    match xipSelect d (a - 0x60000000) with
    | some (n, x) => if inWait d n then none else some (n, x)
    | none => none
  | none => none

/-- The fill of the wanted line from device address `x` of select `n` goes on the bus. -/
def grantFill (n x : Nat) (d : Dev) : Dev :=
  takeBus (.fill (d.sp.fill.getD 0)) n 2 (readClocks d n 32) (msck d n) (readSends d n x) d

/-- What a discovery read sends: 9Fh, or 5Ah with its address [13 R262]. -/
def discSends (x : Discover) : List Nat := if x.stage = 0 then [0x9F] else 0x5A :: addrBytes 3 x.table

/-- The clocks of a discovery read: 3 bytes after 9Fh, or 16 bytes after 5Ah, address and 8 dummy clocks [13 R262]. -/
def discClocks (stage : Nat) : Nat := if stage = 0 then 32 else 8 + 24 + 8 + 128

/-- The lowest-numbered select whose poll waits. -/
def pollNow (d : Dev) : Option Nat := (d.sp.ww.find? fun e => e.2.due).map Prod.fst

/-- The oldest command-queue run starts, if its first entry may. -/
def grantRun (d : Dev) : Dev :=
  match oldestRun d with
  | none => d
  | some e => if entryReady d e then takeBus (.run e) e.sel 4 e.clocks (msck d e.sel) e.sends (cqTake d) else d

/-- The discovery read that can be granted: none while its select is in write-wait [13 R257, R262]. -/
def discNow (d : Dev) : Option (Nat × Discover) :=
  match d.sp.disc with
  | some x => match x.sels with
    | n :: _ => if inWait d n then none else some (n, x)
    | [] => none
  | none => none

/-- Rank 4: a poll, a discovery read, the oldest run [01 R18]. -/
def grantFourth (d : Dev) : Dev :=
  match pollNow d with
  | some n =>
    let d := d.onSp fun s => { s with ww := s.ww.map fun e => if e.1 = n then (e.1, { e.2 with due := false }) else e }
    takeBus (.poll n) n 4 16 (msck d n) [0x05] d
  | none =>
    match discNow d with
    | some (n, x) => takeBus (.disc n x.stage) n 4 (discClocks x.stage) 64 (discSends x) d
    | none => grantRun d

/-- TRANSFER_GRANT: with the bus free and EN at 1 the highest-ranked request is granted: an urgent fetch, an XIP fill, a
prefetch, rank 4 [01 R16; 13 R462]. -/
def transferGrant (d : Dev) : Dev :=
  if d.awake = false ∨ d.b F.SP_CTL_EN = false ∨ d.sp.bus.isSome ∨ d.sp.held.isSome then d
  else
    match presented d, fillNow d with
    | some x, none => grantFetch (if (match x.deadline with | some t => urgent d t | none => false) then 1 else 3) x d
    | some x, some (n, a) => if (match x.deadline with | some t => urgent d t | none => false) then grantFetch 1 x d else grantFill n a d
    | none, some (n, a) => grantFill n a d
    | none, none => grantFourth d

/-! ### Discovery [13 R262] -/

/-- The select is handled: the next one follows, or DDONE. -/
def discNext (d : Dev) : Dev :=
  match d.sp.disc with
  | none => d
  | some x =>
    match x.sels.tail with
    | [] => (d.onSp fun s => { s with disc := none }).set F.SP_STAT_DDONE
    | r => d.onSp fun s => { s with disc := some ⟨r, 0, 0, x.before⟩ }

/-- The next read of the present select. -/
def discStage (stage table : Nat) (d : Dev) : Dev :=
  d.onSp fun s => { s with disc := s.disc.map fun x => { x with stage := stage, table := table } }

/-- Select `n` has lost or changed its memory. -/
def selGone (n : Nat) (d : Dev) : Dev := selOut n (d.set F.SP_STAT_GONE)

/-- The 9Fh bytes of select `n`. -/
def discId (n : Nat) (bs : List Nat) (d : Dev) : Dev :=
  let id := le (bs.take 3)
  let old := d.r (F.SP_ID_ID n)
  let was := d.b (F.SP_ID_PRESENT n)
  let d := d.w (F.SP_ID_ID n) id
  if id = 0 ∨ id = 0xFFFFFF then
    let d := if was then selGone n d else d
    discNext (((d.clr (F.SP_ID_PRESENT n)).clr (F.SP_ID_SFDP n)).w (F.SP_XDEV_SIZE n) 0)
  else
    let d := if was ∧ id ≠ old then selGone n d else d
    discStage 1 0 (d.set (F.SP_ID_PRESENT n))

/-- The SFDP header of select `n`: the table's place by parameter header 0. PRESUMED places of JESD216 (log entry 8). -/
def discHeader (n : Nat) (h : List Nat) (d : Dev) : Dev :=
  if h.take 4 = [0x53, 0x46, 0x44, 0x50] then discStage 2 (le ((h.drop 12).take 3)) (d.set (F.SP_ID_SFDP n))
  else discNext ((d.clr (F.SP_ID_SFDP n)).w (F.SP_XDEV_SIZE n) 0)

/-- The density in 64 KB units that dword 2 gives, at most 4 096. PRESUMED places of JESD216 (log entry 8). -/
def densityUnits (w : Nat) : Nat :=
  let bits : Rat := if bitAt w 31 then (if 64 < w % 2 ^ 31 then (2 ^ 64 : Nat) else (2 ^ (w % 2 ^ 31) : Nat)) else (w + 1 : Nat)
  min 4096 (shown (bits / 524288)).toNat

/-- Dwords 1 to 4 of the basic flash parameter table set select `n`'s read command, clocks, address size and memory size.
PRESUMED places of JESD216 (log entry 8). -/
def discTable (n : Nat) (t : List Nat) (d : Dev) : Dev :=
  let w1 := le (t.take 4)
  let w3 := le ((t.drop 8).take 4)
  let w4 := le ((t.drop 12).take 4)
  let wide := d.r F.SP_DISC_WMAX
  let (cmd, m, u) :=
    if bitAt w1 21 ∧ 2 ≤ wide then (0xEB, bitsAt w3 5 3, bitsAt w3 0 5)
    else if bitAt w1 22 ∧ 2 ≤ wide then (0x6B, bitsAt w3 21 3, bitsAt w3 16 5)
    else if bitAt w1 16 ∧ 1 ≤ wide then (0x3B, bitsAt w4 5 3, bitsAt w4 0 5)
    else (0x0B, 0, 8)
  let d := ((d.w (F.SP_SEL_RCMD n) cmd).w (F.SP_SEL_MCLK n) m).w (F.SP_SEL_DUM n) u
  let d := (d.w (F.SP_SEL_ADDR4 n) (bit (decide (bitsAt w1 17 2 = 2)))).w (F.SP_XDEV_SIZE n) (densityUnits (le ((t.drop 4).take 4)))
  discNext d

/-- DISCOVER_SELECT: a read of discovery gives its bytes. -/
def discRead (n stage : Nat) (bs : List Nat) (d : Dev) : Dev :=
  match stage with
  | 0 => discId n bs d
  | 1 => discHeader n bs d
  | _ => discTable n bs d

/-- DISCOVERY_START: a write of SP_DISC, ignored while DBUSY: a non-zero SELMASK starts discovery of its selects in
ascending order [13 R262]. -/
def discoveryStart (mask wmax : Nat) (d : Dev) : Dev :=
  if d.sp.disc.isSome then d
  else
    let d := (d.w F.SP_DISC_SELMASK mask).w F.SP_DISC_WMAX wmax
    let l := (List.range 4).filter fun n => bitAt mask n
    if l.isEmpty then d else d.onSp fun s => { s with disc := some ⟨l, 0, 0, s.cq.length⟩ }

/-! ### The ends of transfers -/

/-- The XIP line `bs` at address `a` has come: it serves the far loads that wait for it, and the next wanted line is asked
for [07 R142]. -/
def fillDone (a : Nat) (bs : List Nat) (d : Dev) : Dev :=
  let d := lineArrives a bs d
  d.onSp fun s => { s with fill := nextFill d }

/-- The end of select `n`'s write-wait, started at `w.start`. -/
def waitLimit (d : Dev) (w : WriteWait) : Nat := w.start + 1000000 * d.r F.SP_CTL_WTMO

/-- WRITE_WAIT_TIMEOUT: after WTMO ms, once the PCLK cycle of the limit is over, write-wait ends, WTO is set and the select goes out of service; a
ledger commit on it fails [13 R257; 09 R185; 22 R435]. -/
def writeWaitTimeout (n : Nat) (d : Dev) : Dev :=
  match Tab.get? d.sp.ww n with
  | none => d
  | some w =>
    if d.r F.SP_CTL_WTMO = 0 ∨ d.over Dev.pclk (waitLimit d w) = false then d
    else
      let d := selOut n ((d.onSp fun s => { s with ww := Tab.erase s.ww n }).set F.SP_STAT_WTO)
      if n = 0 then { d with lg := { d.lg with commit := d.lg.commit.map fun c => { c with wto := true } } } else d

/-- A poll's status byte: bit 0 at 0 ends write-wait, in the limit's own cycle as a tie [13 R257; 09 R185]. -/
def pollRead (n : Nat) (bs : List Nat) (d : Dev) : Dev :=
  let d := writeWaitTimeout n d
  match Tab.get? d.sp.ww n with
  | none => d
  | some w =>
    if bitAt (bs.headD 1) 0 then d
    else
      let d := d.onSp fun s => { s with ww := Tab.erase s.ww n }
      if d.r F.SP_CTL_WTMO ≠ 0 ∧ d.ties Dev.pclk (waitLimit d w) then (d.set F.SP_STAT_COIN).coin Tag.sp
      else d

/-- An entry's phases, of MSCK period `period`, end at model time `t`: a read's bytes enter the receive FIFO; with CONT the run goes on or waits [13
R255, R256]. -/
def entryEnd (e : CqEntry) (period t : Nat) (bs : List Nat) (d : Dev) : Dev :=
  let d := if e.reads ∧ e.own = none then d.onSp fun s => { s with rx := s.rx ++ [le (bs.take e.nb)] } else d
  if e.cont then
    let d := d.onSp fun s => { s with bus := none, held := some ⟨e, t + 1000 * max (d.r F.SP_CTL_CTMO) 1, period⟩ }
    let d' := continueRun e period t d
    if d'.sp.held.isSome then d else d'
  else runEnd e false t d

/-- TRANSFER_END: the clocks of the transfer, or of the run's present entry, have ended; `bs` are the bytes it read [01 R17;
13 R253]. -/
def transferEnd (bs : List Nat) (d : Dev) : Dev :=
  match d.sp.bus with
  | none => d
  | some o =>
    if d.ns < o.stop then d
    else
      match o.op with
      | .page f g => freeBus o.sel o.stop (pageArrival f g bs d)
      | .fill a => if d.sp.fill = some a then fillDone a bs (freeBus o.sel o.stop d) else freeBus o.sel o.stop d
      | .disc n s => xipRecheck (discRead n s bs (freeBus o.sel o.stop d))
      | .poll n => pollRead n bs (freeBus o.sel o.stop d)
      | .run e => entryEnd e o.period o.stop bs d

/-- PAGE_ARRIVAL: the last byte of the fetch on the bus is written into its plot [17 R338]. -/
def pageArrives (f g : Nat) (bs : List Nat) (d : Dev) : Dev :=
  match d.sp.bus with
  | some o => if o.op = .page f g ∧ o.stop ≤ d.ns then pageArrival f g bs d else d
  | none => d

/-- The clocks of one byte of read data with select `s`'s read command [13 Table SP-2]. -/
def byteClocks (d : Dev) (s : Nat) : Nat :=
  match d.r (F.SP_SEL_RCMD s) with | 0x3B => 4 | 0x6B => 2 | 0xEB => 2 | _ => 8

/-- XIP_LINE_FILL_DONE: the fill on the bus completes and the line enters the cache; with fewer than 32 bytes, the first bytes of the line are in the
line buffer, which serves the words it has [07 R142]. -/
def xipFillDone (bs : List Nat) (d : Dev) : Dev :=
  match d.sp.bus with
  | some o =>
    match o.op with
    | .fill a =>
      if d.sp.fill ≠ some a then d
      else if 32 ≤ bs.length then (if o.stop ≤ d.ns then fillDone a bs d else d)
      else if o.stop ≤ d.ns + (32 - bs.length) * byteClocks d o.sel * o.period then lineServes a bs d else d
    | _ => d
  | none => d

/-! ### Write-wait [13 R257] -/

/-- POLL_DUE: the poll of select `n` falls due; it is not requested while one waits or is on the bus, nor with EN at 0. -/
def pollDue (n : Nat) (d : Dev) : Dev :=
  match Tab.get? d.sp.ww n with
  | none => d
  | some w =>
    if d.ns < w.start + 1000 * (w.k * max (d.r F.SP_CTL_PIVL) 1) then d
    else
      let busy := w.due || (match d.sp.bus with | some o => decide (o.op = .poll n) | none => false)
      d.onSp fun s => { s with ww := Tab.put s.ww n ⟨w.start, w.k + 1, w.due || (!busy && d.b F.SP_CTL_EN)⟩ }

/-- A write of SP_CTL: a held run goes on once EN is 1; with EN at 0 an XIP access that waits for a fill fails [13 R256, R462]. -/
def spCtlWritten (d : Dev) : Dev := xipRecheck (heldTry (continueTimeout d))

/-- The interpreter pushes runs of its own; they wait while the queue is full [22 R423]. -/
def ownRuns (l : List CqEntry) (d : Dev) : Dev := heldTry (cqFeed (d.onSp fun s => { s with feed := s.feed ++ l }))

/-- A run of the interpreter's waits or is on the bus. -/
def ownPending (d : Dev) : Bool :=
  (d.sp.cq ++ d.sp.feed).any (fun e => e.own.isSome) ||
    (match d.sp.bus with | some o => (match o.op with | .run e => e.own.isSome | _ => false) | none => false)

/-- SP_STAT's live bits [13 Table SP-4]. -/
def spStatLive (d : Dev) : Nat :=
  let b := match d.sp.bus with | some o => o.owner | none => if d.sp.held.isSome then 4 else 0
  d.sp.cq.length * 2 ^ 22 + d.sp.rx.length * 2 ^ 17 + bit d.sp.disc.isSome * 2 ^ 16 +
    (List.range 4).foldl (fun m n => m + bit (inWait d n) * 2 ^ (12 + n)) 0 + bit (decide (b ≠ 0)) * 2 ^ 11 + b * 2 ^ 8

/-- SP_STAT[7:0]. -/
def spSticky (d : Dev) : Nat :=
  d.r F.SP_STAT_RUNEND + 2 * d.r F.SP_STAT_DDONE + 4 * d.r F.SP_STAT_CBRK + 8 * d.r F.SP_STAT_CQFULL +
    16 * d.r F.SP_STAT_BADENT + 32 * d.r F.SP_STAT_COIN + 64 * d.r F.SP_STAT_GONE + 128 * d.r F.SP_STAT_WTO

/-- Source 9 is pending. -/
def spPending (d : Dev) : Bool :=
  decide (spSticky d &&& d.r F.SP_IE_STAT ≠ 0) || (d.b F.SP_IE_RXDATA && !d.sp.rx.isEmpty)

/-! ### The slave port [13 R265-R270] -/

/-- The staging buffers in use. -/
def slaveStaged (d : Dev) : Nat := stagedOf d 0 2

/-- SSSN_FALL: a frame begins: the mode, a free staging buffer and the outbound length are taken. With EN at 0, or asleep, the frame is not accepted;
a device silent under R62 sends nothing [13 R265, R266, R269; 02 R39; 03 R62]. -/
def sssnFall (d : Dev) : Dev :=
  if (d.awake || d.asleep) = false ∨ d.sp.active then d
  else
    let on := d.b F.SP_SCTL_EN && d.awake
    (d.set F.SP_SSTAT_ACTIVE).onSp fun s =>
      { s with active := true, taken := on, mode := d.b F.SP_SCTL_MODE, room := decide (slaveStaged d < 2)
               lat := if on && !d.ck.silent then min 255 s.tx.length else 0 }

/-- The outbound bytes shifted out whole leave the buffer: a length byte comes first [13 R269]. -/
def outboundSent (whole : Nat) (d : Dev) : Dev := d.onSp fun s => { s with tx := s.tx.drop (min s.lat (whole - 1)) }

/-- The frame's bit count: `extra` bits in an incomplete last byte. -/
def frameBits (bs : List Nat) (extra : Nat) : Nat := if extra = 0 then 8 * bs.length else 8 * (bs.length - 1) + extra

/-- What the frame's bits leave in the staging buffer: its bytes, the bits of an incomplete last byte right-aligned there, the first received highest
[13 R268]. The operand holds them as they came, from bit 7 down. -/
def frameBytes (bs : List Nat) (extra : Nat) : List Nat :=
  if extra = 0 then bs else bs.dropLast ++ [bs.getLastD 0 / 2 ^ (8 - extra)]

/-- A frame forms its packet [13 R266, R268]. -/
def slavePacket (part : Bool) (bs : List Nat) (bits : Nat) (d : Dev) : Dev :=
  qStage 0 2 ((0x40 + 16 * bit part) :: bs ++ (if part then leBytes 2 bits else [])) d

/-- SLAVE_FRAME: SSSN rises after `bs`, its last byte holding `extra` bits where that is not 0: the frame enters Q0 as one
packet, or is dropped (no buffer, too long) or aborted (COMMIT, inside a byte); with EN at 0 it is not accepted [13 R265-R269]. The bytes shifted out leave the
outbound buffer whatever becomes of the frame. DEDUCED [log 80]. The release of a frame whose fall came in Nap ends the discard of R39. -/
def slaveFrame (bs : List Nat) (extra : Nat) (d : Dev) : Dev :=
  if d.sp.active = false then d.onSp fun s => { s with wakeDrop := false }
  else
    let bits := frameBits bs extra
    let d := outboundSent (bits / 8) ((d.clr F.SP_SSTAT_ACTIVE).onSp fun s => { s with active := false })
    if d.sp.wakeDrop then d.onSp fun s => { s with wakeDrop := false }
    else if d.sp.taken = false ∨ d.b F.SP_SCTL_EN = false ∨ bits = 0 then d
    else if d.sp.room = false then (d.set F.SP_SSTAT_OVF).inc F.SP_SCNT_DROPS
    else if 1016 < bs.length then (d.set F.SP_SSTAT_LONG).inc F.SP_SCNT_DROPS
    else
      let d := if extra = 0 then d else (d.set F.SP_SSTAT_ABRT).inc F.SP_SCNT_ABORTS
      if extra ≠ 0 ∧ d.sp.mode = false then d else slavePacket d.sp.mode (frameBytes bs extra) bits d

/-- SP_STX_WRITE: a byte joins the outbound buffer of 1 024, ignored while it is full [13 R269, Table SP-14]. -/
def spStxWrite (b : Nat) (d : Dev) : Dev :=
  if 1024 ≤ d.sp.tx.length then d else d.onSp fun s => { s with tx := s.tx ++ [b % 256] }

/-- SP_SCNT_CLEAR: a write of SP_SCNT clears both counts. -/
def spScntClear (d : Dev) : Dev := (d.w F.SP_SCNT_DROPS 0).w F.SP_SCNT_ABORTS 0

/-- SP_SSTAT's live bits. -/
def spSstatLive (d : Dev) : Nat := (1024 - d.sp.tx.length) * 2 ^ 16

/-- Source 10 is pending. -/
def slavePending (d : Dev) : Bool :=
  decide ((d.r F.SP_SSTAT_ABRT + 2 * d.r F.SP_SSTAT_OVF + 4 * d.r F.SP_SSTAT_LONG) &&& d.r F.SP_SIE_STAT ≠ 0)

end Sys2Proof.Machine
end

