-- ==== Sys2Proof/Machine/Line.lean ====
section
/-! DEFINITION. What the interpreter sends: fields, response lines, event lines, and their way to the host paths [11 R207, R212-R220;
12 R231, R250]. -/

namespace Sys2Proof.Machine

/-- The interpreter under `g`. -/
def Dev.onSt (d : Dev) (g : Interp → Interp) : Dev := { d with st := g d.st }

/-! ### Fields [00 R4; 12 R231] -/

/-- The decimal digits of a number. -/
def dec (n : Nat) : List Nat := (Nat.toDigits 10 n).map Char.toNat

/-- A decimal number with its sign. -/
def sdec (n : Int) : List Nat := if n < 0 then 45 :: dec n.natAbs else dec n.natAbs

/-- A hex digit in upper case. -/
def hexDigit (n : Nat) : Nat := if n < 10 then n + 48 else n + 55

/-- `n` hex digits of `v`. -/
def hexDigits (n v : Nat) : List Nat := ((List.range n).map fun i => hexDigit (v / 16 ^ i % 16)).reverse

/-- A number in hexadecimal: 0x, and an underscore every four digits from the right [00 R4]. -/
def hexN (n v : Nat) : List Nat :=
  let ds := ((List.range n).flatMap fun i => (if i ≠ 0 ∧ i % 4 = 0 then [95] else []) ++ [hexDigit (v / 16 ^ i % 16)]).reverse
  [48, 120] ++ ds

/-- Words joined by single spaces. -/
def spaced (ws : List (List Nat)) : List Nat := [32].intercalate ws

/-- Words joined by commas. -/
def commas (ws : List (List Nat)) : List Nat := [44].intercalate ws

/-- The field `k=v`. -/
def kv (k : String) (v : List Nat) : List Nat := ascii k ++ 61 :: v

/-- The field `k=` with a decimal number. -/
def kn (k : String) (v : Nat) : List Nat := kv k (dec v)

/-- A data line of the fields given. -/
def dataLine (ws : List (List Nat)) : List Nat := spaced ([61] :: ws)

/-- A number of three digits. -/
def dec3 (n : Nat) : List Nat := [n / 100 % 10 + 48, n / 10 % 10 + 48, n % 10 + 48]

/-- The names of the error codes [12 Table SV-1; 04 Table BU-7]. -/
def errNames : List (Nat × String) :=
  [(1, "SYNTAX"), (2, "UNKNOWN"), (3, "AMBIGUOUS"), (4, "LENGTH"), (5, "CHECKSUM"), (6, "TAG"), (7, "NUMBER"), (8, "RANGE"),
   (9, "UNIT"), (10, "ARGUMENT"), (11, "CHARACTER"), (12, "BROKEN"), (20, "BUSY"), (22, "LADDER"), (23, "TIMEOUT"),
   (40, "WINDOW"), (41, "VERIFY"), (42, "DENIED"), (43, "LOCKED"), (44, "ABORT"), (45, "FULL"), (46, "WORD"), (50, "ATTR"),
   (51, "EMPTY"), (52, "PATH"), (53, "TRNG"), (54, "AUTH"), (55, "KSTATE")]
  ++ [(60, "NOIMAGE"), (61, "MAGIC"), (62, "STEP"), (63, "HEADER"), (64, "SIGNER"), (65, "SIGNATURE"), (66, "ROLLBACK"),
   (67, "DECRYPT"), (68, "TARGET"), (69, "OFFSET"), (70, "CHUNK"), (71, "STATE"), (72, "LIFECYCLE"), (73, "QUARANTINE"),
   (74, "ADVANCE"), (75, "NOMEMBER"), (76, "TUNNEL"), (80, "FSTATE"), (81, "PINLIMIT"), (82, "PLOT"), (83, "FALLOW"),
   (84, "AIMING"), (85, "HEADID"), (86, "RINGSTATE"), (87, "RINGFULL"), (88, "SERMEM"), (89, "LEDGER")]

/-- The name of error `e`. -/
def errName (e : Nat) : List Nat := match errNames.find? (fun x => x.1 = e) with | some x => ascii x.2 | none => []

/-- The final line for error `e`; 0 is OK [11 R216]. -/
def finalText (e : Nat) : List Nat := if e = 0 then ascii "OK" else ascii "ER " ++ dec3 e ++ 32 :: errName e

/-! ### The host paths -/

/-- The path that BOOTSEL selects. -/
def bootPath (d : Dev) : Nat := if d.b F.SYS_STRAP_BOOTSEL then 2 else 1

/-- The path takes lines in machine form [11 R222, R226]. -/
def machineOn (d : Dev) (path : Nat) : Bool :=
  if path = 1 then d.st.machU else if path = 2 then d.st.machS else true

/-- Bytes for the UART's and the slave's transmit side go to it, or wait whole while it has no room [11 R220; 04 R84]. -/
def sendBytes (path : Nat) (bs : List Nat) (d : Dev) : Dev :=
  if path = 1 then { d with ua := { d.ua with tx := d.ua.tx ++ bs } } else d.onSp fun s => { s with tx := s.tx ++ bs }

/-- The transmit side of a path has room for `n` bytes. -/
def hasRoom (d : Dev) (path n : Nat) : Bool :=
  if path = 1 then decide (d.ua.tx.length + n ≤ 2048) else if path = 2 then decide (d.sp.tx.length + n ≤ 1024) else true

/-- The lines waiting leave, in order, while there is room; `n` bounds them. -/
def flushN (n : Nat) (d : Dev) : Dev :=
  match n with
  | 0 => d
  | n + 1 =>
    match d.st.out with
    | [] => d
    | (p, m, bs) :: r =>
      if d.ck.silent then d
      else if p = 3 then flushN n (queueLine 11 m bs (d.onSt fun s => { s with out := r }))
      else if hasRoom d p bs.length then flushN n (sendBytes p bs (d.onSt fun s => { s with out := r }))
      else d

/-- The lines waiting leave. -/
def flushOut (d : Dev) : Dev := flushN d.st.out.length d

/-- Bytes are put in line for a path: whole lines end in CR LF on the host paths [11 R207]. -/
def queueOut (path member : Nat) (bs : List Nat) (d : Dev) : Dev :=
  flushOut (d.onSt fun s => { s with out := s.out ++ [(path, member, bs)] })

/-- CR and LF. -/
def crlf : List Nat := [13, 10]

/-- A line in machine form: its suffix follows [11 R214]. -/
def suffixed (l : List Nat) : List Nat := l ++ 42 :: hexDigits 2 (crc8 l)

/-- The tag as it stands in a line [11 R216]. -/
def tagText (t : Option Nat) : List Nat := 35 :: (match t with | some v => hexDigits 4 v | none => ascii "----")

/-- The member prefix that a tunnelled line's answer carries [11 R226]. -/
def memberText (d : Dev) (path : Nat) : List (List Nat) := if path = 3 then [64 :: dec (ringAddr d)] else []

/-- A line of a response as it leaves, without its terminator, in the form of the path it answers [11 Table SL-3, R216, R226; 04 R84]. -/
def lineForm (c : Ctx) (text : List Nat) (d : Dev) : List Nat :=
  if machineOn d c.path then suffixed (spaced ([tagText c.tag] ++ memberText d c.path ++ [text]))
  else spaced ((if c.frame then [tagText c.tag] else []) ++ [text])

/-- One line of a response leaves; on the ring it carries no terminator. -/
def sendLine (c : Ctx) (text : List Nat) (d : Dev) : Dev :=
  let l := lineForm c text d
  queueOut c.path c.member (if c.path = 3 then l else l ++ crlf) d

/-- The prompt `FD> ` of console mode on the UART path [11 R212]. -/
def prompt (path : Nat) (d : Dev) : Dev :=
  if path = 1 ∧ machineOn d 1 = false then queueOut 1 0 (ascii "FD> ") d else d

/-! ### Event lines [11 R217, R218; 12 R249-R251] -/

/-- The event names, in the order of Table SV-10. -/
def eventNames : List String :=
  ["TAINT", "EXPMISS", "MISS", "FAULT", "HITCH", "BYE", "TAMPER", "LOCKV", "RING", "GLEAN", "OTP", "LEDGER"]

/-- A response is open: event lines wait [11 R217]. -/
def responding (d : Dev) : Bool := d.st.wait.isSome || d.st.opened.isSome || d.st.tun.isSome

/-- The event path [11 R218]. -/
def eventPath (d : Dev) : Nat := if d.st.evPath = 0 then bootPath d else d.st.evPath

/-- The partial line of the console on the UART, as typed so far. -/
def partialText (d : Dev) : List Nat := match d.st.taken with | some t => if t.src = 1 then t.text else [] | none => []

/-- An event line as it leaves on path `p`; one relayed for a member (it begins `!`) as it came [11 R217, R226, R228]. -/
def eventForm (p : Nat) (text : List Nat) (d : Dev) : List Nat :=
  let ws := if text.head? = some 33 then [text]
            else match text.splitOn 32 with | n :: r => [33 :: n] ++ memberText d p ++ r | [] => []
  if machineOn d p then suffixed (spaced ws) else spaced ws

/-- An event line whole, with its path and member; in console mode on the UART it stands between a CR LF and the prompt with the partial line
[11 R217]. -/
def eventBytes (text : List Nat) (d : Dev) : Nat × Nat × List Nat :=
  let p := eventPath d
  let l := eventForm p text d
  if p = 3 then (p, d.st.evMember, l)
  else if machineOn d p ∨ p = 2 then (p, 0, l ++ crlf)
  else (1, 0, crlf ++ l ++ crlf ++ ascii "FD> " ++ partialText d)

/-- The line can leave now: no response is open, no line waits before it, and its path has room for it whole [11 R217, R220]. -/
def eventFits (text : List Nat) (d : Dev) : Bool :=
  !responding d && d.st.out.isEmpty && !d.ck.silent && hasRoom d (eventBytes text d).1 (eventBytes text d).2.2.length

/-- An event line leaves on the event path. -/
def sendEvent (text : List Nat) (d : Dev) : Dev := queueOut (eventBytes text d).1 (eventBytes text d).2.1 (eventBytes text d).2.2 d

/-- The line is longer than a line may be in the form it would leave in: its path has changed its mode since it was taken, or is the ring
[11 R207]. -/
def eventLong (text : List Nat) (d : Dev) : Bool := decide (240 < (eventForm (eventPath d) text d).length)

/-- The events held leave, oldest first, while they can; one that has become too long is lost and counted (log entry 100); `n` bounds them. -/
def flushEventsN (n : Nat) (d : Dev) : Dev :=
  match n with
  | 0 => d
  | n + 1 =>
    match d.st.store with
    | [] => d
    | t :: r =>
      if eventFits t d then
        let d := d.onSt fun s => { s with store := r }
        flushEventsN n (if eventLong t d then d.inc F.UA_STAT_EVCNT else sendEvent t d)
      else d

/-- The events held leave, oldest first, while they can. -/
def flushEvents (d : Dev) : Dev := flushEventsN d.st.store.length d

/-- An event line is held; one that finds 16 held is lost and counted [11 R218]. -/
def holdEvent (text : List Nat) (d : Dev) : Dev :=
  if 16 ≤ d.st.store.length then d.inc F.UA_STAT_EVCNT else d.onSt fun s => { s with store := s.store ++ [text] }

/-- An event line is taken while the interpreter runs: sent at once where it can, or held. -/
def takeEvent (text : List Nat) (d : Dev) : Dev := flushEvents (holdEvent text d)

/-- The interpreter runs of its own: before START and in quarantine; after START it runs only in the image's calls [11 R223]. -/
def runsAlone (d : Dev) : Bool := decide (d.r F.SYS_BOOT_LSTATE ≠ 4)

/-- What waits to leave goes on, where the interpreter runs of its own. -/
def pumpOut (d : Dev) : Dev := if runsAlone d then flushEvents (flushOut d) else d

/-- The event name at place `i` of Table SV-10 is turned on; TAMPER always is [12 R249]. -/
def eventOn (d : Dev) (i : Nat) : Bool := !d.st.off.contains i

/-- A monitor line of event name `i` with its fields: after START it waits for the image's next call [11 R223]. -/
def monitorEvent (i : Nat) (ws : List (List Nat)) (d : Dev) : Dev :=
  if eventOn d i then pumpOut (holdEvent (spaced (ascii (eventNames.getD i "") :: ws)) d) else d

/-! ### Responses -/

/-- A response, whose code of Table BU-7 SYS_BOOTERR keeps: its data lines, then its final line; the prompt and the events that waited follow [11 R212, R216, R217]. -/
def respond (c : Ctx) (dataLines : List (List Nat)) (e : Nat) (d : Dev) : Dev :=
  let d := if (60 ≤ e ∧ e ≤ 74) ∨ e = 43 then d.w F.SYS_BOOTERR_CODE e else d
  let d := dataLines.foldl (fun d l => sendLine c l d) d
  flushEvents (prompt c.path (sendLine c (finalText e) d))

/-- The response of the verb in progress; it is no longer in progress. -/
def answerNow (dataLines : List (List Nat)) (e : Nat) (d : Dev) : Dev :=
  match d.st.wait with
  | some (c, _) => respond c dataLines e (d.onSt fun s => { s with wait := none, answer := none })
  | none => d

/-- The verb in progress has its answer: the monitor sends it; after START the next LINE call does [11 R223]. -/
def finishVerb (dataLines : List (List Nat)) (e : Nat) (d : Dev) : Dev :=
  if runsAlone d then answerNow dataLines e d
  else d.onSt fun s => { s with answer := if s.wait.isSome then some (dataLines, e) else none }

/-- The verb goes on later. -/
def waitVerb (c : Ctx) (l : Long) (d : Dev) : Dev := d.onSt fun s => { s with wait := some (c, l) }

/-- A byte of the UART's buffer has left: the OK of a RESET comes nearer. -/
def byteLeft (d : Dev) : Dev :=
  match d.st.wait with
  | some (c, .leave x n) => d.onSt fun s => { s with wait := some (c, .leave x (n - 1)) }
  | _ => d

/-- UART_TRANSMIT, then lines that waited for room. -/
def uartSend (ctsn : Bool) (d : Dev) : Dev :=
  let d' := uartTransmit ctsn d
  pumpOut (if d'.ua.tx.length < d.ua.tx.length then byteLeft d' else d')

end Sys2Proof.Machine
end

