-- ==== Sys2Proof/Machine/Clock.lean ====
section
/-! DEFINITION. Resets, the tamper response, the clocks and the power ladder [03; 04 R65-R67; 06 R132-R136]. -/

namespace Sys2Proof.Machine

/-- The clock block under `g`. -/
def Dev.onCk (d : Dev) (g : Ck → Ck) : Dev := { d with ck := g d.ck }

/-! ### Memory regions [09 Table AS-1] -/

def progBase : Nat := 0x10000000
def progSize : Nat := 0x40000
def dataBase : Nat := 0x20000000
def dataSize : Nat := 0x20000
def keepBase : Nat := 0x28000000
def keepSize : Nat := 0x4000
def monBase : Nat := 0x2001E000

/-- The memory with nothing left but keep RAM. -/
def keepOnly (d : Dev) : List Host.Cell := d.mem.filter fun c => decide (keepBase ≤ c.1 ∧ c.1 < keepBase + keepSize)

/-! ### Resets [04 R65, R66] -/

/-- `d` takes the values that fields `fs` have in `old`. -/
def keepFields (old : Dev) (fs : List Fld) (d : Dev) : Dev := fs.foldl (fun d f => d.w f (old.r f)) d

/-- The tamper latches, QPEND, the pending-burn latch and the live sources. -/
def tamperFields : List Fld :=
  [F.TP_STAT_QPEND, F.TP_STAT_DBG, F.TP_STAT_XSTOP, F.TP_STAT_TEMP, F.TP_STAT_VGL, F.TP_STAT_MESH, F.TP_STAT_LOOP, F.TP_LIVE_SRC,
   F.OT_WIN_PEND]

/-- CK_WAKE and CK_WSRC. -/
def wakeFields : List Fld := [F.CK_WAKE_EN, F.CK_WSRC_DORM, F.CK_WSRC_ENCFAST, F.CK_WSRC_SRC]

/-- The UART's rate. -/
def rateFields : List Fld := [F.UA_DIV_DIV, F.SYS_BOOT_BAUDOK]

/-- SYS_RSTC. -/
def causeFields : List Fld := [F.SYS_RSTC_POR, F.SYS_RSTC_BOR, F.SYS_RSTC_PIN, F.SYS_RSTC_SOFT, F.SYS_RSTC_LOCKUP]

/-- Every register at its reset value but the fields `fs`; the fuses, the levels at the pins and, if `ram`, keep RAM stay; a burn pulse
stops. -/
def baseReset (fs : List Fld) (ram : Bool) (d : Dev) : Dev :=
  let d := otReset d
  let heads := d.hp.foldl (fun t e => Tab.setD t e.1 {} ({ raw := e.2.raw, rawSince := d.ns } : Head)) []
  keepFields d fs
    { ns := d.ns, draws := d.draws, hp := heads, ot := { fuses := d.ot.fuses }, mem := if ram then keepOnly d else [],
      ck := { resetLow := d.ck.resetLow, xrun := d.ck.xrun, brown := d.ck.brown } }

/-- The reset ladder begins: with XCLK running step 3 takes no time [04 R67]. -/
def ladderBegin (sample : Bool) (d : Dev) : Dev :=
  let d := d.onCk fun c => { c with ladder := .resetting, boot := if c.xrun then .pll else .xclk, resample := sample }
  d.w F.CK_STAT_XOK (bit d.ck.xrun)

/-- A reset by the sources whose SYS_RSTC bits `m` has (0 POR, 1 BOR, 2 pin, 3 soft, 4 lockup), of which the highest rank rules [04 R65, R66, Table
BU-1]. -/
def resetBy (m : Nat) (d : Dev) : Dev :=
  let hard := bitAt m 0 || bitAt m 1
  let pin := bitAt m 2
  let fs := if hard then [] else if pin then tamperFields ++ causeFields
    else tamperFields ++ causeFields ++ wakeFields ++ rateFields ++ [F.SYS_STRAP_BOOTSEL]
  let d := baseReset fs (!hard) d
  let d := (List.range 5).foldl (fun d i => if bitAt m i then d.set (causeFields.getD i F.SYS_RSTC_POR) else d) d
  let d := d.onCk fun c => { c with resetLow := c.resetLow || pin, xrun := c.xrun && !hard, brown := bitAt m 1 && !bitAt m 0 }
  ladderBegin (hard || pin) d

/-- POWER_ON_RESET; `also` names sources that assert in the same handshake. -/
def powerOnReset (also : Nat) (d : Dev) : Dev := resetBy (also ||| 1) d

/-- BROWN_OUT_RESET. -/
def brownOutReset (also : Nat) (d : Dev) : Dev := resetBy (also ||| 2) d

/-- PIN_RESET. -/
def pinReset (also : Nat) (d : Dev) : Dev := resetBy (also ||| 4) d

/-- SOFT_RESET: a ring member sends LEAVE before it, unless a source of a higher rank rules [21 R413]. -/
def softReset (also : Nat) (d : Dev) : Dev :=
  let cell := leaveCell d
  let t := resetBy (also ||| 8) d
  if also % 8 = 0 then t.onR fun s => { s with sentCell := cell } else t

/-- The lockup reset of a double fault [07 R158]. -/
def lockupReset (d : Dev) : Dev := resetBy 16 d

/-- TAP_RESET: the JTAG TAP alone, whose instruction becomes IDCODE [04 R66]. -/
def tapReset (d : Dev) : Dev := d.onKy fun k => { k with ir := 1 }

/-! ### Tamper [06 R132-R136] -/

/-- The latch of tamper source `s`. -/
def tamperLatch (s : Nat) : Fld :=
  [F.TP_STAT_LOOP, F.TP_STAT_MESH, F.TP_STAT_VGL, F.TP_STAT_TEMP, F.TP_STAT_XSTOP, F.TP_STAT_DBG].getD s F.TP_STAT_LOOP

/-- The owner of the OTP engine's job. -/
def otOwner (d : Dev) : Option OtOwner := d.ot.job.map fun j => j.req.owner

/-- A key command in progress aborts, KY_BUF is zeroed and KREG cleared [06 R135]. One that burns ends with its pulse. -/
def keyAbort (d : Dev) : Dev :=
  let d := match d.ky.job with
    | some j => if j.burns ∧ otOwner d = some .ky then d else kyFail KyErr.abort d
    | none => d
  kregClear (zeroKyBuf d)

/-- A command of the OTP engine ends after its present pulse; requests that wait for it are dropped [05 Table OT-6]. -/
def otAbort (d : Dev) : Dev :=
  (d.onJob fun j => if j.req.owner = .latch then j else { j with abort := true }).onOt fun o => { o with wait := [] }

/-- One bead for an onset: held by the pending-burn latch until the engine serves it; none with TMPC full [06 R133; 05 R98]. -/
def beadDue (d : Dev) : Dev :=
  if ctrFull d 1 then d.set F.TP_STAT_CFULL
  else if otOwner d = some .latch then d.onOt fun o => { o with again := true }
  else d.set F.OT_WIN_PEND

/-- The sources in `m` alarm in one handshake: their latches and the aborts; where the alarm, the OR of all sources, goes from clear to set, QPEND and
one bead [06 R132-R135, Collisions]. -/
def tamperDetect (m : Nat) (d : Dev) : Dev :=
  let onset := decide (d.r F.TP_LIVE_SRC = 0)
  let d := forAll ((List.range 6).filter fun s => bitAt m s) (fun s d => (d.set (tamperLatch s)).orBit F.TP_LIVE_SRC s) d
  let d := otAbort (keyAbort d)
  if onset then beadDue (d.set F.TP_STAT_QPEND) else d

/-- The TP_STAT latches as one number. -/
def tamperBits (d : Dev) : Nat := ((List.range 6).map fun s => d.r (tamperLatch s) * 2 ^ s).sum

/-- The tamper entry of the core: the monitor runs, and what the core had under way is dropped [07 R158]. DESIGN CHOICE [log 94]: a queue pop whose load
is dropped goes on waiting in its queue. -/
def tamperEntry (d : Dev) : Dev :=
  ((d.w F.CORE_VSET_AUTO 0).w F.CORE_VSET_VSET 35).aimAt 35 |> fun d =>
    { d with co := { d.co with image := false, waiting := false, halted := false, stalled := false, loads := [], wb := [], fails := [], busi := none, ie := false,
                               level := 8 } }

/-- The interpreter's work on the ledger is dropped with the image it served. DESIGN CHOICE [log 96]. -/
def ledgerDrop (d : Dev) : Dev :=
  { d.onSp (fun s => { s with cq := s.cq.filter fun e => e.own.isNone, feed := [] }) with lg := { d.lg with read := none, commit := none } }

/-- Quarantine is entered: QPEND clears, program RAM and data RAM below the monitor's are zeroed, the load is gone, `!TAMPER` is sent
[06 R134, R136; 04 R88]. -/
def enterQuarantine (d : Dev) : Dev :=
  let d := (lightOff (tamperEntry d)).clr F.TP_STAT_QPEND
  let d := (d.clearMem progBase progSize).clearMem dataBase (monBase - dataBase)
  let d := ledgerDrop ((kregClear d).onSt fun s => { s with wait := none, answer := none, taken := none, opened := none, tun := none })
  let d := ((d.w F.SYS_BOOT_LSTATE 5).w F.SYS_BLEN_N 0)
  let d := { d with bt := { d.bt with header := [] } }
  monitorEvent 6 [kv "latch" (hexN 2 (tamperBits d)), kn "count" (securityCount d 1)] d

/-- The image has started. -/
def started (d : Dev) : Bool := decide (d.r F.SYS_BOOT_LSTATE = 4)

/-! ### The ladder -/

/-- The answer of POWER that waits ends with `why` [12 R236]. -/
def powerAnswer (why : Nat) (d : Dev) : Dev :=
  match d.st.wait with
  | some (_, .power _) => if why = 0 then finishVerb [] 0 d else finishVerb [dataLine [kn "why" why]] 22 d
  | _ => d

/-- A request is refused with cause `why` [03 R51]. -/
def ladderRefuse (why : Nat) (d : Dev) : Dev :=
  let d := ((d.w F.CK_LADDER_REQ 0).set F.CK_LSTAT_REF).w F.CK_LSTAT_WHY why
  let d := { (d.onCk fun c => { c with ask := none, woken := false }) with sw := { d.sw with frozen := false } }
  powerAnswer why d

/-- The entry checks that need no quiesce: 0, or the cause that refuses target `t` [03 R51, Table CK-3]. -/
def ladderCheck (t : Nat) (d : Dev) : Nat :=
  if d.r F.CK_CFG_DEEPEST + 1 < t then 2
  else if armedLadder d ≠ 0 then 1
  else if isMaster d ∧ d.r F.SR_MEM_MEM ≠ 0 then 3
  else 0

/-- A request for target `t` (2 Nap, 3 Fallow, 4 Dormant): arming freezes, the checks are made, the quiesce timer starts [03 R51]. -/
def ladderRequest (t : Nat) (d : Dev) : Dev :=
  if d.awake = false ∨ d.ck.ask.isSome ∨ ¬(t = 2 ∨ t = 3 ∨ t = 4) then d
  else
    let d := passAs 2 { d.w F.CK_LADDER_REQ t with sw := { d.sw with frozen := true } }
    let why := ladderCheck t d
    if why ≠ 0 then ladderRefuse why d
    else d.onCk fun c => { c with ask := some (t, d.ns + 1000000), woken := false }

/-- What a request waits for: the serial bus idle, fetches done, sideband messages done, the core in WAIT or the monitor waiting. -/
def quiesced (d : Dev) : Bool :=
  busIdle d && d.gr.places.isEmpty && (List.range 6).all (fun p => lineFree d p) && (d.co.waiting || !d.co.image)

/-- What encoder `n` keeps on entry to state `t` [03 R54, R55; 15 R300]. -/
def encoderSleep (t n : Nat) (d : Dev) : Dev :=
  d.onE n fun e => if t = 2 then { e with napPos := e.pos } else { e with ready := false, zready := false }

/-- The device enters state `t`; in Dormant XCLK is off, and in Nap and Fallow VCA stands at 0.55 V [03 R47, R48, R51-R53, Table CK-2]. DESIGN CHOICE [log
97]: CK_LSTAT.LAST is 0 after Dormant, which keeps no register of the CK block but CK_WAKE and CK_WSRC. -/
def enterSleep (t : Nat) (d : Dev) : Dev :=
  let d := ringQuit d
  if t = 4 then
    let sent := d.sr.sentCell
    let d := (baseReset (tamperFields ++ wakeFields ++ [F.SYS_STRAP_BOOTSEL]) true d).onR fun s => { s with sentCell := sent }
    d.onCk fun c => { c with ladder := .dormant, boot := .xclk, resample := false, xrun := false }
  else
    let d := (d.w F.CK_LADDER_REQ 0).w F.CK_LSTAT_LAST t
    let d := if t = 3 then d.clr F.CK_STAT_PLLLOCK else d
    let d := { (if 2 < d.r F.CORE_VSTAT_TARGET then d.clr F.CORE_VSTAT_SETTLED else d) with co := { d.co with vcaAt := 0 } }
    let d := d.onCk fun c =>
      { c with ladder := if t = 2 then .nap else .fallow, ask := none, woken := false, host := false, sleepNs := d.ns, sleepTlt := d.tlt }
    forAll (List.range 2) (encoderSleep t) d

/-- QUIESCE_TIMEOUT: the ACLK cycle of the timer's end is over [03 R51; 09 R185]. -/
def quiesceTimeout (d : Dev) : Dev :=
  match d.ck.ask with
  | some (_, stop) => if d.over Dev.aclk stop then ladderRefuse 5 d else d
  | none => d

/-- LADDER_ENTRY: quiesce completes, and the state is entered unless a wake source asserted or an enabled interrupt came (`irq`) since the
freeze; completion in the quiesce timer's last cycle counts as in time [03 R51; 09 Table AS-4]. -/
def ladderEntry (irq : Bool) (d : Dev) : Dev :=
  match d.ck.ask with
  | none => d
  | some (t, stop) =>
    if d.over Dev.aclk stop then quiesceTimeout d
    else if quiesced d = false then d
    else
      let d := if d.ties Dev.aclk stop then d.coin Tag.ck else d
      if d.ck.woken ∨ irq then ladderRefuse 4 d else enterSleep t d

/-- HOLD_ENTRY [03 R49]. -/
def holdEntry (d : Dev) : Dev :=
  if d.ck.ladder = .run ∧ d.b F.CK_LADDER_AUTOHOLD ∧ armedLadder d = 0 ∧ d.co.waiting ∧ busIdle d
      ∧ (List.range 6).all (fun p => lineFree d p) then
    (d.w F.CK_LSTAT_LAST 1).onCk fun c => { c with ladder := .hold }
  else d

/-- HOLD_EXIT: a condition of R49 no longer holds. -/
def holdExit (d : Dev) : Dev :=
  if d.ck.ladder = .hold ∧ (d.b F.CK_LADDER_AUTOHOLD = false ∨ armedLadder d ≠ 0 ∨ d.co.waiting = false ∨ busIdle d = false
      ∨ (List.range 6).any (fun p => !lineFree d p)) then
    d.onCk fun c => { c with ladder := .run }
  else d

/-- The timers of the queues, the serial port and the ring, whose clocks stood still for `dt` [03 Table CK-2]. -/
def resumeBlocks (dt : Nat) (d : Dev) : Dev :=
  let later (q : Queue) : Queue := { q with waits := q.waits.map fun w => { w with deadline := w.deadline + dt } }
  let d := { d with q0 := later d.q0, q1 := later d.q1 }
  let d := d.onSp fun s => { s with ww := s.ww.map fun (e : Nat × WriteWait) => (e.1, { e.2 with start := e.2.start + dt }) }
  d.onR fun s => { s with watchdog := s.watchdog.map (· + dt), stepEnd := s.stepEnd + dt }

/-- What a block's timers did not count in sleep is added to them, and what sleep ends begins anew; the poll and retry timers of the head ports
stop in sleep [14 R285; 20 R385, R400]. -/
def resumeTimers (dt : Nat) (d : Dev) : Dev :=
  let d := resumeBlocks dt d
  let d := { d with pe := d.pe.map fun (e : Nat × Engine) => (e.1, { e.2 with next := e.2.next + dt }) }
  let d := { d with ua := { d.ua with lineEnd := d.ua.lineEnd.map (· + dt) } }
  let d := forAll (d.hp.map Prod.fst) (fun p d => d.onH p fun h =>
    { h with rawSince := d.ns, pollDue := h.pollDue + dt, due := h.due + dt, byeEnd := h.byeEnd + dt }) d
  let d := forAll (List.range 2) (fun n d => d.onE n fun e => { e with edges := [], counts := [], qerrs := [] }) d
  passAs 0 d

/-- XCLK has stopped or returned in sleep: the sleep counter takes what it counted up to now, and nothing while XCLK stood still [03 R57, R59]. -/
def sleepCount (d : Dev) : Dev :=
  let dt := d.ns - d.ck.sleepNs
  (resumeTimers dt d).onCk fun c => { c with sleepTlt := if c.xrun then c.sleepTlt + dt else c.sleepTlt, sleepNs := d.ns }

/-- The least code of the automatic throttle. -/
def vMin (d : Dev) : Nat := min (d.r F.CORE_VSET_VMIN) 55

/-- The largest code of the automatic throttle. -/
def vMax (d : Dev) : Nat := max (vMin d) (min (d.r F.CORE_VSET_VMAX) 55)

/-- The setting of CORE_VSET takes effect on the target where no demand is looked at: the manual code, or the automatic range [07 R139, R140]. -/
def vsetApply (d : Dev) : Dev :=
  d.aimAt (if d.b F.CORE_VSET_AUTO then min (max (d.r F.CORE_VSTAT_TARGET) (vMin d)) (vMax d) else min (d.r F.CORE_VSET_VSET) 55)

/-- The clocks that stood still run again, each with a phase of its own (log entry 95) [03 R460]. -/
def clocksResume (d : Dev) : Dev :=
  let (m, d) := d.draw
  let (n, d) := d.draw
  d.onCk fun c => { c with phase := (Config.clockPhase m).val % 8, aphase := (Config.clockPhase n).val }

/-- Nap or Fallow ends: TLT is loaded from the sleep counter, the clocks take up their phases, the host paths open, a write of CORE_VSET made in sleep
takes effect, the Sower resumes; a tamper wake ends in quarantine [03 R53, R59, R460, Tables CK-6, CK-7; 06 Table TP-2; 07 R140]. -/
def leaveSleep (slip : Int) (d : Dev) : Dev :=
  let dt := d.ns - d.ck.sleepNs
  let d := { d with tlt := (((d.ck.sleepTlt + dt : Nat) + slip) % (tltMod : Int)).toNat }
  let d := resumeTimers dt (clocksResume (d.onCk fun c => { c with ladder := .run, host := true }))
  let d := vsetApply (headsResume { d with sw := { d.sw with frozen := false } })
  if d.b F.TP_STAT_QPEND then enterQuarantine d else powerAnswer 0 d

/-- A wake source has asserted in the state the device is in: the exit of that state begins [03 Tables CK-6 to CK-8]. -/
def exitSleep (d : Dev) : Dev :=
  match d.ck.ladder with
  | .nap => if d.ck.xrun then leaveSleep 0 d else d.onCk fun c => { c with ladder := .waking }
  | .fallow => d.onCk fun c => { c with ladder := .waking }
  | .dormant => ladderBegin false (d.set F.CK_WSRC_DORM)
  | _ => d

/-- WAKE: the sources in `m` assert (Table CK-4); enabled ones wake a sleeping device, and are seen by a request that quiesces. The URX
character and the slave frame that wake are discarded [03 R51, R55, R56; 02 R39]. -/
def wake (m : Nat) (d : Dev) : Dev :=
  let en := m &&& (d.r F.CK_WAKE_EN ||| 0x80)
  let motion := if d.ck.ladder = .fallow then en else en &&& 0xF3
  match d.ck.ladder with
  | .nap | .fallow | .dormant =>
    if motion = 0 then d
    else
      let d := d.w F.CK_WSRC_SRC (d.r F.CK_WSRC_SRC ||| motion)
      let d := if bitAt motion 4 ∧ d.ck.ladder ≠ .dormant then { d with ua := { d.ua with wakeDrop := true } } else d
      let d := if bitAt motion 5 ∧ d.ck.ladder ≠ .dormant then d.onSp fun s => { s with wakeDrop := true } else d
      let d := if bitAt motion 2 then d.set (F.EN_STAT_LF 0) else d
      let d := if bitAt motion 3 then d.set (F.EN_STAT_LF 1) else d
      exitSleep d
  | .waking => d.w F.CK_WSRC_SRC (d.r F.CK_WSRC_SRC ||| en)
  | .run | .hold => if d.ck.ask.isSome ∧ en ≠ 0 then d.onCk fun c => { c with woken := true } else d
  | .resetting => d

/-- NAP_MOTION_WAKE: input `n` has moved by THRESH counts since Nap entry [03 R54]. -/
def napMotionWake (n : Nat) (d : Dev) : Dev :=
  let e := d.enc n
  if d.ck.ladder = .nap ∧ bitAt (d.r F.CK_WAKE_EN) (2 + n) ∧ max (d.r F.CK_WENC_THRESH) 1 ≤ (sd e.pos e.napPos).natAbs then
    exitSleep (d.orBit F.CK_WSRC_SRC (2 + n))
  else d

/-- NAP_RATE_WAKE: input `n` exceeds 4 Mcounts/s: more than 4 counts in the last µs [03 R54]. -/
def napRateWake (n : Nat) (d : Dev) : Dev :=
  if d.ck.ladder = .nap ∧ bitAt (d.r F.CK_WAKE_EN) (2 + n) ∧ 4 < (lastMicro d (d.enc n).counts).length then
    exitSleep ((d.orBit F.CK_WSRC_SRC (2 + n)).set F.CK_WSRC_ENCFAST)
  else d

/-- CK_TLTL_READ [03 R60]. -/
def ckTltlRead (d : Dev) : Dev := { d.w F.CK_TLTH_TLT (d.tlt / 2 ^ 32) with rd := d.tlt % 2 ^ 32 }

/-! ### The response to an alarm by where it meets the device [06 Table TP-2] -/

/-- What follows the detection of an alarm: while XCLK is stopped the outputs go dark and the core is in the monitor, and quarantine comes with its
return [06 Table TP-2; 03 R62]. -/
def tamperRespond (d : Dev) : Dev :=
  match d.ck.ladder with
  | .resetting | .waking => d
  | .nap | .fallow | .dormant => exitSleep (d.orBit F.CK_WSRC_SRC 7)
  | .run | .hold =>
    if d.r F.SYS_BOOT_LSTATE = 5 then d else if d.ck.silent then tamperEntry (lightOff d) else enterQuarantine d

/-- XCLK stands still: XSTOP is set; in Run and Hold every host path is silent until it returns, and a PLL that refers to it holds its frequency [03
R57, R62, R463]. -/
def xclkHalt (d : Dev) : Dev :=
  let d := if d.asleep then sleepCount d else d
  let d := (d.onCk fun c => { c with xrun := false, silent := c.silent || d.awake }).clr F.CK_STAT_XOK
  let d := if d.awake ∨ d.asleep then d.set F.CK_STAT_XSTOP else d
  if d.awake ∧ d.r F.CK_ROOT_SEL = 0 then d.set F.CK_STAT_HOLDOVER else d

/-- The sources in `m` alarm: one of the TMP inputs is a wake source too, which a request that quiesces sees [03 R51, R56]. -/
def alarm (m : Nat) (d : Dev) : Dev :=
  let d := tamperRespond (tamperDetect m d)
  if m &&& 3 ≠ 0 ∧ d.awake ∧ d.ck.ask.isSome then d.onCk fun c => { c with woken := true } else d

/-- The sources of Table TP-1 in `m` alarm in one handshake; a stop of XCLK is one in Run and Hold only, and while XCLK already stands
still it is none [06 R132, R135; 03 R62, R459]. -/
def tamperAlarm (m : Nat) (d : Dev) : Dev :=
  let stops := bitAt m 4 && d.ck.xrun
  let live := if bitAt m 4 && !(stops && d.awake) then m - 16 else m
  let d := if stops then xclkHalt d else d
  if live = 0 then d else alarm live d

/-- XCLK_STOP [03 R62, R463]. -/
def xclkStop (d : Dev) : Dev := tamperAlarm 16 d

/-- XCLK_RETURN: the source no longer alarms, the device that was silent speaks and, unless it is there, enters quarantine; the PLL relocks to XCLK. In
Dormant XCLK is off [03 R62, R463]. -/
def xclkReturn (d : Dev) : Dev :=
  if d.ck.xrun ∨ d.ck.ladder = .dormant then d
  else
    let d := if d.asleep then sleepCount d else d
    let d := ((d.onCk fun c => { c with xrun := true }).set F.CK_STAT_XOK).clrBit F.TP_LIVE_SRC 4
    if d.ck.silent = false then d
    else
      let d := d.onCk fun c => { c with silent := false }
      if d.r F.SYS_BOOT_LSTATE = 5 then flushEvents (flushOut d) else enterQuarantine d

/-- The sources in `m` stop alarming; that of XCLK ends with XCLK_RETURN [06 R132, R133]. -/
def tamperEnd (m : Nat) (d : Dev) : Dev :=
  forAll ((List.range 6).filter fun s => bitAt m s && !(s == 4 && !d.ck.xrun)) (fun s d => d.clrBit F.TP_LIVE_SRC s) d

/-- TAMPER_ALARM_CLEAR: every source stops alarming [06 R133]. -/
def tamperAlarmClear (d : Dev) : Dev := tamperEnd 63 d

/-- TAMPER_ALARM: the sources in `m` are those that alarm now; one that alarmed before and is not among them has stopped (log entry 108) [06 R132]. -/
def tamperFound (m : Nat) (d : Dev) : Dev := tamperEnd (63 - m) (tamperAlarm m d)

/-- JTAG_INSTRUCTION_UPDATE: the instruction register takes `ir`; a debug attach in FIELD is an alarm. In Dormant the TAP is in reset [06 R129; 02
R38]. -/
def jtagInstructionUpdate (ir : Nat) (d : Dev) : Dev :=
  if d.ck.ladder = .dormant then d
  else
    let attach := debugAttach d ir
    let d := jtagLoad ir d
    if attach then tamperAlarm 32 d else d

/-! ### Clocks -/

/-- XCLK_VALID: the root is valid; a reset or exit ladder that waits for it goes on [03 R57; 04 R67]. -/
def xclkValid (d : Dev) : Dev :=
  if d.ck.ladder = .resetting ∧ d.ck.boot = .xclk then
    (d.onCk fun c => { c with xrun := true, boot := .pll, brown := false }).set F.CK_STAT_XOK
  else if d.ck.ladder = .waking then ((if d.ck.xrun then d else sleepCount d).onCk fun c => { c with xrun := true }).set F.CK_STAT_XOK
  else d

/-- BOOTSEL is latched where it is to be sampled, and OTP sensing begins [02 R35; 04 Table BU-2]. -/
def bootLatch (sel : Bool) (d : Dev) : Dev :=
  let d := if d.ck.resample then d.w F.SYS_STRAP_BOOTSEL (bit sel) else d
  d.onCk fun c => { c with boot := .sense }

/-- PLL_LOCK, with BOOTSEL at level `sel`: in the reset ladder TLT 0 falls on an edge of every clock [03 R460], and it goes on to sensing, or waits for
RESETN; Fallow exit completes; a relock after an
unlock, a reference change or a holdover ends [03 R42, R59, R61, R63; 04 R67]. -/
def pllLock (sel : Bool) (d : Dev) : Dev :=
  match d.ck.ladder with
  | .resetting =>
    if d.ck.boot = .pll ∧ d.ck.xrun then
      let d := { d.set F.CK_STAT_PLLLOCK with tlt := 0 }
      let d := headsResume (d.onCk fun c => { c with phase := (8 - d.ns % 8) % 8, aphase := (1000 - d.ns % 1000) % 1000 })
      if d.ck.resetLow then d.onCk fun c => { c with boot := .resetn } else bootLatch sel d
    else d
  | .waking =>
    if d.ck.xrun then
      let napped := d.b F.CK_STAT_PLLLOCK
      let (n, d) := d.draw
      leaveSleep (if napped then 0 else ((Config.fallowSlip n).val : Int) - 1) (d.set F.CK_STAT_PLLLOCK)
    else d
  | .run | .hold =>
    if d.ck.xrun = false ∧ d.r F.CK_ROOT_SEL = 0 then d
    else
      let d := ((d.set F.CK_STAT_PLLLOCK).clr F.CK_ROOT_BUSY).w F.CK_STAT_ROOT (d.r F.CK_ROOT_SEL)
      if d.ck.holdEnd.isSome then d else d.clr F.CK_STAT_HOLDOVER
  | _ => d

/-- RESETN_RELEASE: RESETN rises, with BOOTSEL at level `sel`; a ladder paused at step 4 resumes [04 R67]. -/
def resetnRelease (sel : Bool) (d : Dev) : Dev :=
  let d := d.onCk fun c => { c with resetLow := false }
  if d.ck.ladder = .resetting ∧ d.ck.boot = .resetn then bootLatch sel d else d

/-- An event record of the CK block [03 R64]. -/
def ckRecord (cause arg : Nat) (d : Dev) : Dev := if bitAt (d.r F.CK_QEN_CAUSE) (cause - 1) then evRecord Tag.ck cause 0 arg d else d

/-- PLL_UNLOCK: light ends, every armed slot is cancelled as a miss, a record is written; the loss of XCLK as its reference is no unlock [03 R61,
R463]. -/
def pllUnlock (d : Dev) : Dev :=
  if d.awake = false ∨ d.b F.CK_STAT_PLLLOCK = false ∨ (d.ck.xrun = false ∧ d.r F.CK_ROOT_SEL = 0) then d
  else
    let n := (slotsIf d fun s => decide (s.st = .armed ∨ s.st = .set)).length
    let d := (d.set F.CK_STAT_UNLOCK).clr F.CK_STAT_PLLLOCK
    let d := releaseLines ((List.range 6).filter fun b => decide (d.r (F.LD_BSTAT_STATE b) ≠ 2)) (endAllLight d)
    passAs 3 (ckRecord 1 n (cancelAll 3 d))

/-- RING_CLOCK_LOSS [03 R63]. -/
def ringClockLoss (d : Dev) : Dev :=
  let d := d.clr F.CK_STAT_RINGCLK
  if d.awake ∧ d.r F.CK_ROOT_SEL = 1 ∧ d.ck.holdEnd.isNone then
    ckRecord 2 0 (((d.set F.CK_STAT_RLOSS).set F.CK_STAT_HOLDOVER).onCk fun c => { c with holdEnd := some (d.ns + 20000) })
  else d

/-- RING_CLOCK_RETURN [03 R42]. -/
def ringClockReturn (d : Dev) : Dev := d.set F.CK_STAT_RINGCLK

/-- HOLDOVER_END: SEL reads 0 and the PLL relocks to XCLK [03 R63]. -/
def holdoverEnd (d : Dev) : Dev :=
  match d.ck.holdEnd with
  | some t =>
    if t ≤ d.ns then (((d.w F.CK_ROOT_SEL 0).set F.CK_ROOT_BUSY).clr F.CK_STAT_HOLDOVER).onCk fun c => { c with holdEnd := none } else d
  | none => d

/-- CK_ROOT_SEL_WRITE: 1 needs RINGOK and a recovered clock; a change needs no armed slot [03 R42]. -/
def ckRootSelWrite (v : Nat) (d : Dev) : Dev :=
  if v = d.r F.CK_ROOT_SEL ∨ (v = 1 ∧ ¬(d.b F.CK_CFG_RINGOK ∧ d.b F.CK_STAT_RINGCLK)) ∨ armedAll d ≠ 0 then d
  else ((d.w F.CK_ROOT_SEL v).set F.CK_ROOT_BUSY).onCk fun c => { c with holdEnd := none }

/-- Source 0 is pending: a ladder refusal or a wake [03 R461]. -/
def ckPending (d : Dev) : Bool :=
  d.b F.CK_LSTAT_REF || d.b F.CK_WSRC_SRC || d.b F.CK_WSRC_ENCFAST || d.b F.CK_WSRC_DORM

/-- Source 1 is pending: a clock fault. -/
def ckFaultPending (d : Dev) : Bool := d.b F.CK_STAT_XSTOP || d.b F.CK_STAT_RLOSS || d.b F.CK_STAT_UNLOCK

end Sys2Proof.Machine
end

