-- ==== Sys2Proof/Machine/Boot.lean ====
section
/-! DEFINITION. From sensing to the monitor, the image record, START and the entry of the image [04]. -/

namespace Sys2Proof.Machine

/-! ### Sensing and the monitor's entry [04 R67-R70] -/

/-- The monitor opens the host port that BOOTSEL selects [02 R35; 04 R73, R83]: the slave port in COMMIT mode; the UART once its rate is known. -/
def openHost (d : Dev) : Dev :=
  let d := d.onCk fun c => { c with host := true }
  if bootPath d = 2 then (d.set F.SP_SCTL_EN).clr F.SP_SCTL_MODE
  else if d.b F.SYS_BOOT_BAUDOK then (d.set F.UA_CTL_RXEN).set F.UA_CTL_TXEN
  else d

/-- OTP_SENSE_DONE: the shadows are filled, or sensing failed (`ok` false); the tamper sources in `alarms` are found alarming; the monitor
enters and clears program RAM and data RAM; with an alarm or QPEND it enters quarantine [04 R68-R70; 06 R133, R134]. -/
def otpSenseDone (ok : Bool) (alarms : Nat) (d : Dev) : Dev :=
  if d.ck.ladder ≠ .resetting ∨ d.ck.boot ≠ .sense then d
  else
    let d := if ok then seedBadRefresh (countRegs ((senseAll d).set F.SYS_BOOT_SHV))
      else ((d.set F.SYS_BOOT_SNSERR).w F.SYS_ID_DEVICE 0).w F.SYS_ID_STEP 0
    let d := if alarms % 64 = 0 then d else tamperDetect (alarms % 64) d
    let d := (d.clearMem progBase progSize).clearMem dataBase dataSize
    let d := openHost (d.onCk fun c => { c with ladder := .run, boot := .up })
    if d.b F.TP_STAT_QPEND ∨ d.r F.TP_LIVE_SRC ≠ 0 then enterQuarantine d else d

/-- The life-cycle state as the monitor takes it: RETIRED after a sense error [04 R68]. -/
def monitorLife (d : Dev) : Nat := if d.b F.SYS_BOOT_SNSERR then 3 else lifeCycle d

/-- AUTOBAUD_CHARACTER: `t` is the measured interval of nine bit times in sixteenths of a PCLK period, `c` the character re-sampled at the nearest
setting, `stop` its stop bit; a valid CR fixes the rate, is echoed and prompted [04 R71, R72]. -/
def autobaudCharacter (t c : Nat) (stop : Bool) (d : Dev) : Dev :=
  if d.ck.ladder ≠ .run ∨ d.ck.host = false ∨ started d ∨ bootPath d = 2 ∨ d.b F.SYS_BOOT_BAUDOK then d
  else
    let n := (2 * t + 9) / 18
    let inRange := decide (9408 * t ≤ 18000000000 ∧ 18000000000 ≤ 12240000 * t)
    let near := decide (98 * 9 * n ≤ 100 * t ∧ 100 * t ≤ 102 * 9 * n ∧ 160 ≤ n)
    if inRange ∧ near ∧ c = 13 ∧ stop then
      let d := (((d.w F.UA_DIV_DIV n).set F.SYS_BOOT_BAUDOK).set F.UA_CTL_RXEN).set F.UA_CTL_TXEN
      prompt 1 (queueOut 1 0 crlf d)
    else d.w F.SYS_BOOT_ABFAIL (min (d.r F.SYS_BOOT_ABFAIL + 1) 255)

/-! ### The image record [04 R76-R82] -/

/-- The `n` bytes at offset `o` of the header, least significant first. -/
def hdr (h : List Nat) (o n : Nat) : Nat := le ((h.drop o).take n)

/-- The bytes at offset `o` of the header. -/
def hdrBytes (h : List Nat) (o n : Nat) : List Nat := (h.drop o).take n

/-- Header check 3 [04 R82, Table BU-4, R77]. -/
def headerOk (h : List Nat) : Bool :=
  let ld := hdr h 16 4
  let n := hdr h 20 4
  let e := hdr h 24 4
  decide (hdr h 124 4 = crc32 (h.take 124)) && decide (hdr h 5 1 = 1) && decide (hdr h 15 1 = 0)
    && (hdrBytes h 64 60).all (fun b => decide (b = 0)) && decide (hdr h 6 2 < 32) && decide (hdr h 12 2 ≤ 512)
    && decide (ld % 4 = 0 ∧ progBase ≤ ld) && decide (n % 4 = 0 ∧ 4 ≤ n ∧ n ≤ 262144) && decide (ld + n ≤ progBase + progSize)
    && decide (e % 4 = 0 ∧ ld ≤ e ∧ e < ld + n)

/-- The signer of the header is accepted [04 R78]. -/
def signerOk (d : Dev) (h : List Nat) : Bool :=
  let s := hdr h 14 1
  let pub := hdrBytes h 128 64
  if s = 0xFF then decide (monitorLife d < 2) && decide (pub = ecBytes (some pG))
  else signerUsable d s && decide (sha256 pub = signerHash d s)

/-- The checks of a complete header, in order: 0 or the code of the first that fails [04 R82]. -/
def headerCheck (d : Dev) (h : List Nat) : Nat :=
  let target := hdrBytes h 56 8
  if h.take 4 ≠ [0x46, 0x4C, 0x49, 0x4D] then 61
  else if hdr h 4 1 ≠ 0x43 then 62
  else if headerOk h = false then 63
  else if (if target.all (fun b => decide (b = 0)) then decide (monitorLife d ≠ 0) else decide (target ≠ serialBytes d)) then 68
  else if signerOk d h = false then 64
  else if hdr h 12 2 < securityCount d 0 then 66
  else 0

/-- The load is empty. -/
def loadEmpty (d : Dev) : Dev :=
  { (d.w F.SYS_BOOT_LSTATE 0).w F.SYS_BLEN_N 0 with bt := { d.bt with header := [] } }

/-- SYS_BOOT.LSTATE and SYS_BLEN follow the bytes received. -/
def loadCount (n : Nat) (d : Dev) : Dev :=
  let len := hdr d.bt.header 20 4
  let st := if n = 0 then 0 else if n < 256 then 1 else if n < 256 + len then 2 else 3
  (d.w F.SYS_BLEN_N n).w F.SYS_BOOT_LSTATE st

/-- The `n` record bytes from offset `o` on as stored. -/
def recordBytes (d : Dev) (o n : Nat) : List Nat :=
  (List.range n).map fun i =>
    if o + i < 256 then d.bt.header.getD (o + i) 0 else (d.byte (hdr d.bt.header 16 4 + (o + i - 256))).toNat

/-- A chunk of the record at offset `o`: the answer's code, 0 for OK [04 R81, R82]. -/
def loadChunk (o : Nat) (bs : List Nat) (d : Dev) : Nat × Dev :=
  let n := d.r F.SYS_BLEN_N
  if o = n then
    let h := if n < 256 then d.bt.header ++ bs.take (256 - n) else d.bt.header
    let body := if n < 256 then bs.drop (256 - n) else bs
    if h.length < 256 then (0, loadCount (n + bs.length) { d with bt := { d.bt with header := h } })
    else
      let bad := if n < 256 then headerCheck d h else 0
      if bad ≠ 0 then (bad, loadEmpty d)
      else if 256 + hdr h 20 4 < n + bs.length then (69, d)
      else
        let d := { d with bt := { d.bt with header := h } }
        (0, loadCount (n + bs.length) (d.storeBytes (hdr h 16 4 + (if n < 256 then 0 else n - 256)) body))
  else if o + bs.length ≤ n ∧ recordBytes d o bs.length = bs then (0, d)
  else (69, d)

/-! ### START [04 R85, R86; 07 Table CO-8] -/

/-- START fails with code `e`: program RAM zeroed, KREG cleared, the load empty. -/
def startFail (e : Nat) (d : Dev) : Dev :=
  finishVerb [] e (loadEmpty (kregClear (d.clearMem progBase progSize)))

/-- Guard region `n` covers `lo` to `hi` with no permission. -/
def guardSet (n lo hi : Nat) (d : Dev) : Dev :=
  let d := ((d.w (F.GUARD_BASE_BASE n) (lo / 32)).w (F.GUARD_LIM_LIM n) (hi / 32)).set (F.GUARD_ATTR_EN n)
  ((d.clr (F.GUARD_ATTR_X n)).clr (F.GUARD_ATTR_W n)).clr (F.GUARD_ATTR_R n)

/-- The guard regions that START programs, and GUARD_LOCK. -/
def guardStart (d : Dev) : Dev :=
  let d := guardSet 0 0 0xFFFF d
  let d := guardSet 1 monBase 0x2001FFFF d
  let d := guardSet 2 keepBase 0x280003FF d
  let d := guardSet 3 0x40003000 0x40004FFF d
  { d.set F.GUARD_LOCK_LOCK with bt := { d.bt with guardLocked := true } }

/-- The image is entered [04 R86]. -/
def enterImage (d : Dev) : Dev :=
  let h := d.bt.header
  let cause := ((List.range 5).map fun i => d.r (causeFields.getD i F.SYS_RSTC_POR) * 2 ^ i).sum
  let w : Tab Nat := Tab.setD (Tab.setD (Tab.setD [] 1 0 (hdr h 8 4)) 2 0 cause) 14 0 monBase
  let d := { d with co := { w := w, pc := hdr h 24 4, image := true } }
  (((d.w F.CORE_VSET_AUTO 0).w F.CORE_VSET_VSET 35).aimAt 35).w F.SYS_BOOT_LSTATE 4

/-- The last steps of START: keep RAM, CK_CFG, the guards, OK, the image. -/
def startEnd (d : Dev) : Dev :=
  let fl := hdr d.bt.header 6 2
  let d := if bitAt fl 4 then d.clearMem keepBase keepSize else d
  let d := ((d.w F.CK_CFG_DEEPEST (bitsAt fl 2 2)).w F.CK_CFG_UNLKACT (bitsAt fl 1 1)).w F.CK_CFG_RINGOK (bitsAt fl 0 1)
  enterImage (finishVerb [] 0 (guardStart { d with bt := { d.bt with cfgLocked := true } }))

/-- The rollback beads of ADVANCE: the next one is asked for, or START ends. -/
def startBeads (d : Dev) : Dev :=
  if d.b F.SYS_BOOT_ADVANCED ∧ securityCount d 0 < hdr d.bt.header 12 2 then
    otAsk { owner := .verb, code := 6, ctr := 0 } d
  else startEnd d

/-- START after its refusals: the signature, the rollback count, the key, the decryption, the beads; the verb is in progress for
`c`. DESIGN CHOICE [log 98]: a START that is refused is no START for SYS_BOOT.ADVANCED. -/
def startRun (c : Ctx) (advance : Bool) (d : Dev) : Dev :=
  let d := waitVerb c .start (d.w F.SYS_BOOT_ADVANCED (bit advance))
  let h := d.bt.header
  let n := hdr h 20 4
  let ct := recordBytes d 256 n
  if ecVerify (hdrBytes h 128 64) (sha256 (h.take 192 ++ ct)) (hdrBytes h 192 64) = false then startFail 65 d
  else if hdr h 12 2 < securityCount d 0 then startFail 66 d
  else
    let key := pathKey d imagePath
    let iv := hdrBytes h 28 12
    if gcmTag key iv (h.take 28) ct ≠ hdrBytes h 40 16 then startFail 67 d
    else startBeads (kregClear (d.storeBytes (hdr h 16 4) (gcmText key iv ct)))

/-- START's refusals: 0, or the code [04 R85]. -/
def startRefuse (d : Dev) (advance : Bool) : Nat :=
  if d.r F.SYS_BOOT_LSTATE ≠ 3 then 60
  else if advance ∧ monitorLife d = 0 then 72
  else if advance ∧ windowMet d = false then 74
  else 0

/-- A rollback bead's increment has ended with OT error `e`. -/
def startGoesOn (e : Nat) (d : Dev) : Dev := if e = 0 then startBeads d else startFail 74 d

end Sys2Proof.Machine
end

