-- ==== Sys2Proof/Machine/Bus.lean ====
section
/-! DEFINITION. The interrupt sources, the throttle, and a read or a write of a register as its block takes it: by the access codes of its
fields, and by what its chapter says beyond them [00 R11, R12; 07; 09]. -/

namespace Sys2Proof.Machine

/-! ### Interrupt sources [07 R151, Table CO-5] -/

/-- Source 8: its condition is not stated; it is a free function of UA_STAT's bits FE and COIN (log entry 16). -/
def uaPending (d : Dev) : Bool := Config.uartSource (d.r F.UA_STAT_FE + 2 * d.r F.UA_STAT_COIN)

/-- Source 22 is pending [16 Registers]. -/
def swPending (d : Dev) : Bool :=
  decide ((d.r F.SW_EV_MISS + 2 * d.r F.SW_EV_FAULT + 4 * d.r F.SW_EV_REV + 8 * d.r F.SW_EV_DISPL) &&& (d.r F.SW_IE_IE % 16) ≠ 0)

/-- Source 23 is pending [16 Registers]. -/
def fhlPending (d : Dev) : Bool := d.b F.SW_EV_FHL && bitAt (d.r F.SW_IE_IE) 4

/-- Source 24 is pending [16 Registers]. -/
def drPending (d : Dev) : Bool :=
  decide ((d.r F.DR_EV_FIRED + 2 * d.r F.DR_EV_CANCEL + 4 * d.r F.DR_EV_WDRAW) &&& d.r F.DR_IE_IE ≠ 0)

/-- GR_EV as a number. -/
def grEv (d : Dev) : Nat :=
  d.r F.GR_EV_DONE + 2 * d.r F.GR_EV_ERR + 4 * d.r F.GR_EV_LATE + 8 * d.r F.GR_EV_FAULT + 16 * d.r F.GR_EV_SUBST

/-- LD_EV as a number. -/
def ldEv (d : Dev) : Nat := d.r F.LD_EV_BFLT + 256 * d.r F.LD_EV_XSCAN + 512 * d.r F.LD_EV_SCOVL

/-- BD_EV[4:0]. -/
def bdEvLo (d : Dev) : Nat :=
  d.r F.BD_EV_DERATE + 2 * d.r F.BD_EV_DEFER + 4 * d.r F.BD_EV_REFUSE + 8 * d.r F.BD_EV_HOT + 16 * d.r F.BD_EV_QOVER

/-- BD_EV[12:8]. -/
def bdEvHi (d : Dev) : Nat :=
  d.r F.BD_EV_SAG + 2 * d.r F.BD_EV_ABORT + 4 * d.r F.BD_EV_TAINT + 8 * d.r F.BD_EV_BURST + 16 * d.r F.BD_EV_RING

/-- Source `s` is pending [07 Table CO-5]. -/
def irqPending (d : Dev) (s : Nat) : Bool :=
  if s = 0 then ckPending d else if s = 1 then ckFaultPending d
  else if s = 2 then otPending d else if s = 3 then kyPending d
  else if s = 4 then qDataPending d 0 else if s = 5 then qStatPending d 0
  else if s = 6 then qDataPending d 1 else if s = 7 then qStatPending d 1
  else if s = 8 then uaPending d else if s = 9 then spPending d else if s = 10 then slavePending d
  else if s = 11 then d.b F.SYS_LOCKV_TAG || d.b F.SYS_LOCKV_MULTI
  else if s < 20 then pePending d (s - 12) else if s < 22 then enPending d (s - 20)
  else if s = 22 then swPending d else if s = 23 then fhlPending d else if s = 24 then drPending d
  else if s = 25 then decide (grEv d &&& d.r F.GR_IE_IE % 4 ≠ 0)
  else if s = 26 then decide (grEv d &&& (d.r F.GR_IE_IE / 4 * 4) ≠ 0)
  else if s = 27 then d.b F.LD_IE_CH && (d.b F.LD_CFLT0_CH || d.b F.LD_CFLT1_CH)
  else if s = 28 then decide (ldEv d &&& d.r F.LD_IE_EV ≠ 0)
  else if s = 29 then decide (bdEvLo d &&& d.r F.BD_IE_LO ≠ 0)
  else if s = 30 then decide (bdEvHi d &&& d.r F.BD_IE_HI ≠ 0)
  else if s < 37 then hpPending d (s - 31)
  else if s = 37 then srPending d else if s = 38 then srSeqPending d
  else if 60 ≤ s ∧ s < 64 then bitAt (d.r F.CO_ISWI_SWI) (s - 60) else false

/-- The level field of source `s` [07 Table CO-23]. -/
def irqLevelFld (s : Nat) : Fld :=
  match s % 8 with
  | 0 => F.CO_IPRI_L0 (s / 8)
  | 1 => F.CO_IPRI_L1 (s / 8)
  | 2 => F.CO_IPRI_L2 (s / 8)
  | 3 => F.CO_IPRI_L3 (s / 8)
  | 4 => F.CO_IPRI_L4 (s / 8)
  | 5 => F.CO_IPRI_L5 (s / 8)
  | 6 => F.CO_IPRI_L6 (s / 8)
  | _ => F.CO_IPRI_L7 (s / 8)

/-- The level of source `s`. -/
def irqLevel (d : Dev) (s : Nat) : Nat := d.r (irqLevelFld s)

/-- The pending source at the highest level above `lv`, the lowest number within it, with its level [07 R151]. -/
def irqAbove (d : Dev) (lv : Nat) : Option (Nat × Nat) :=
  (List.range 64).foldl (fun o s =>
    let l := irqLevel d s
    if decide (max lv (match o with | some x => x.2 | none => 0) < l) && irqPending d s then some (s, l) else o) none

/-- CO_IPEND0 (`j` 0) or CO_IPEND1 as read. -/
def ipendWord (d : Dev) (j : Nat) : Nat := (List.range 32).foldl (fun m b => m + bit (irqPending d (32 * j + b)) * 2 ^ b) 0

/-! ### The throttle [07 R139, R140] -/

/-- Queue `i` holds at least its high watermark. -/
def overMark (d : Dev) (i : Fin 2) : Bool :=
  d.b (F.Q_WM_HI i.val) && decide (min (d.r (F.Q_WM_HI i.val)) (qCap i) ≤ qDepth (d.q i))

/-- Demand: the terms DI, DQ and DW that are enabled [07 R139]. -/
def demandNow (d : Dev) : Bool :=
  (d.b F.CORE_VSET_DI && (irqAbove d d.co.level).isSome) || (d.b F.CORE_VSET_DQ && (overMark d 0 || overMark d 1)) ||
    (d.b F.CORE_VSET_DW && d.co.stalled)

/-- The target of R139 is evaluated; `tick` says that an ACLK tick does it. -/
def throttle (tick : Bool) (d : Dev) : Dev :=
  let dem := demandNow d
  let d := d.w F.CORE_VSTAT_DEMAND (bit dem)
  if d.b F.CORE_VSET_AUTO = false then d.aimAt (min (d.r F.CORE_VSET_VSET) 55)
  else
    let t := d.r F.CORE_VSTAT_TARGET
    let t := if dem then vMax d else if tick && d.co.waiting then max (vMin d) (t - (d.r F.CORE_VSET_DOWN + 1)) else t
    d.aimAt (min (max t (vMin d)) (vMax d))

/-- THROTTLE_TICK: the target is evaluated at an ACLK tick in automatic mode, in Nap and Fallow too. -/
def throttleTick (d : Dev) : Dev := if d.b F.CORE_VSET_AUTO && aclkRuns d then throttle true d else d

/-- DEMAND_CHANGE: demand follows its terms, and the automatic target with it. -/
def demandChange (d : Dev) : Dev := throttle false d

/-- CORE_VSET_WRITE: the settings are written and the target is evaluated; a change is what SYNC waits for. A write in a sleep state is kept and
takes effect at its exit [07 R139, R140, R150]. -/
def vsetWrite (v : Nat) (d : Dev) : Dev :=
  let fs := [F.CORE_VSET_AUTO, F.CORE_VSET_VMAX, F.CORE_VSET_VMIN, F.CORE_VSET_DOWN, F.CORE_VSET_DQ, F.CORE_VSET_DI, F.CORE_VSET_DW,
             F.CORE_VSET_VSET]
  let d := fs.foldl (fun d f => d.w f (bitsAt v f.lo f.width)) d
  if d.asleep then d
  else
    let d := throttle false d
    { d with co := { d.co with vwait := !d.b F.CORE_VSTAT_SETTLED } }

/-- VCA_SETTLED: VCA lies within 20 mV of the target [07 R140]. -/
def vcaSettled (d : Dev) : Dev :=
  let d := d.set F.CORE_VSTAT_SETTLED
  { d with co := { d.co with vwait := false, vcaAt := d.r F.CORE_VSTAT_TARGET } }

/-! ### Writes -/

/-- Field `f` takes its bits of the word `v` by its access code; locks are kept by the registers that have them [00 R11, R12]. -/
def fieldWrite (v : Nat) (f : Fld) (d : Dev) : Dev :=
  let x := bitsAt v f.lo f.width
  match f.acc with
  | .rw | .lk | .wo => d.w f x
  | .w1c => d.w f (d.r f &&& (x ^^^ (2 ^ f.width - 1)))
  | .ro | .w1s => d

/-- The word `v` is written to the register at `a`, field by field. -/
def plainWrite (a v : Nat) (d : Dev) : Dev := (fldsAt a).foldl (fun d f => fieldWrite v f d) d

/-- A write in the CK block: CK_CFG is locked after START; REQ takes 0, 2, 3, 4 [03; 04 R85]. -/
def ckWrite (a v : Nat) (d : Dev) : Dev :=
  match a % 0x1000 with
  | 0x000 => if d.bt.cfgLocked then d.lockV Tag.ck a else plainWrite a v d
  | 0x008 => ckRootSelWrite (v % 2) d
  | 0x00C =>
    let d := d.w F.CK_LADDER_AUTOHOLD (bitsAt v 8 1)
    let q := v % 8
    if d.ck.ask.isSome ∨ ¬(q = 0 ∨ q = 2 ∨ q = 3 ∨ q = 4) then d else d.w F.CK_LADDER_REQ q
  | _ => plainWrite a v d

/-- A write in the SYS block: 0x5EB0 to SYS_RST is a soft reset [04 R65]. -/
def sysWrite (a v : Nat) (d : Dev) : Dev :=
  if a % 0x1000 = 0x060 then (if v % 65536 = 0x5EB0 then softReset 0 d else d) else plainWrite a v d

/-- A write in the OT block; OT_CMD, OT_ADDR and OT_DATA are lost while BUSY [05 R96]. -/
def otWrite (a v : Nat) (d : Dev) : Dev :=
  match a % 0x1000 with
  | 0x000 => otCommand (v % 16) false d
  | 0x004 | 0x008 => if otBusy d then d.set F.OT_STAT_CMDLOST else plainWrite a v d
  | _ => plainWrite a v d

/-- A write in the KY block; KY_CMD, KY_PATH, KY_ARG and KY_BUF are lost while BUSY; bytes 14 and 15 of a path record are 0 [06 R114,
R120]. -/
def kyWrite (a v : Nat) (d : Dev) : Dev :=
  let o := a % 0x1000
  if o = 0 then kyCommand (v % 16) d
  else if o = 4 ∨ o = 0xC then plainWrite a v d
  else if d.b F.KY_STAT_BUSY then (if (fldsAt a).isEmpty then d else d.set F.KY_STAT_CMDLOST)
  else plainWrite a (if 0x40 ≤ o ∧ o < 0x80 ∧ o % 16 = 12 then v % 65536 else v) d

/-- A write in queue `i`'s block [10]. -/
def quWrite (i : Fin 2) (a v : Nat) (d : Dev) : Dev :=
  match a % 0x1000 with
  | 0x000 => qBefore i (fun d => qSettle i (plainWrite a v d)) d
  | 0x018 => qSettle i (plainWrite a v d)
  | 0x008 => qCmdWrite i v d
  | 0x020 => qnLostClear i d
  | _ => plainWrite a v d

/-- A write in the UA block [11]. -/
def uaWrite (a v : Nat) (d : Dev) : Dev :=
  match a % 0x1000 with
  | 0x000 => uaCtlWritten (plainWrite a v d)
  | 0x008 => let d := plainWrite a v d; if bitAt v 5 then uaClrev d else d
  | 0x00C => uaTxWrite (BitVec.ofNat 8 v) d
  | _ => plainWrite a v d

/-- A write in the SP master block [13]. -/
def spWrite (a v : Nat) (d : Dev) : Dev :=
  let o := a % 0x1000
  if o = 0x000 then spCtlWritten (plainWrite a v d)
  else if o = 0x008 then cqPush v d
  else if o = 0x01C then discoveryStart (bitsAt v 4 4) (v % 4) d
  else if 0x040 ≤ o ∧ o < 0x080 ∧ o % 16 = 0 then spSelWrite ((o - 0x40) / 16) v d
  else if 0x040 ≤ o ∧ o < 0x080 then xipRecheck (plainWrite a v d)
  else plainWrite a v d

/-- A write in the slave port's block [13]. -/
def slaveWrite (a v : Nat) (d : Dev) : Dev :=
  match a % 0x1000 with
  | 0x008 => spScntClear d
  | 0x00C => spStxWrite v d
  | _ => plainWrite a v d

/-- A write in the PE block: INSEL, OUTSEL, CLK, LIMIT and the table are locked while RUN is 1 [14 R282]. -/
def peWrite (a v : Nat) (d : Dev) : Dev :=
  let o := a % 0x1000
  let n := o / 0x20
  if 0x800 ≤ o then peLutWrite ((o - 0x800) / 0x100) (o % 0x100 / 4) v d
  else if 0x100 ≤ o then plainWrite a v d
  else match o % 0x20 with
    | 0x00 => peCtlWrite n v d
    | 0x04 => peDataInWrite n (bitsAt v 8 4) d
    | 0x18 => plainWrite a v d
    | r => if (r = 0x08 ∨ r = 0x0C ∨ r = 0x10 ∨ r = 0x14) ∧ d.b (F.PE_CTL_RUN n) then d.lockV Tag.pe a
           else if r = 0x0C then peRouted n (plainWrite a v) d else plainWrite a v d

/-- A write in the EN block [15]. -/
def enWrite (a v : Nat) (d : Dev) : Dev :=
  let o := a % 0x1000
  let n := o / 0x40
  if 0x80 ≤ o then plainWrite a v d
  else match o % 0x40 with
    | 0x2C => if bitAt v 0 then positionLoad n d else d
    | 0x30 => enCntClear n d
    | _ => plainWrite a v d

/-- A write in the SW block [16]. -/
def swWrite (a v : Nat) (d : Dev) : Dev :=
  let o := a % 0x1000
  if o = 0x008 then fcmdWrite (bitsAt v 16 3) (v % 256) d
  else if o = 0x010 ∨ o = 0x014 ∨ o = 0x018 then swCountClear ((o - 0x010) / 4) d
  else if 0x040 ≤ o ∧ o < 0x058 then swFhlClear ((o - 0x040) / 4) d
  else plainWrite a v d

/-- A write in the DR block [16]. -/
def drWrite (a v : Nat) (d : Dev) : Dev := if a % 0x1000 = 0x00C then drFiredClear d else plainWrite a v d

/-- A write in the GR block [17]. -/
def grWrite (a v : Nat) (d : Dev) : Dev :=
  match a % 0x1000 with
  | 0x000 => gleaner (plainWrite a v d)
  | 0x018 => grPteWrite v d
  | 0x01C => grCmd (bitsAt v 16 2) (bitsAt v 8 8) (v % 256) d
  | 0x028 => grCntClear d
  | _ => plainWrite a v d

/-- A write in the furrow table [16 R303]. -/
def furrowWrite (a v : Nat) (d : Dev) : Dev :=
  let o := a - 0x40010000
  if o % 64 / 4 < 6 then furrowConfigWrite (o / 64) (o % 64 / 4) v d else d

/-- A write in the LD block: a bank's settings wait for a headland; XSCAN by one clears XCNT too [18 R359, Table LD-9]. -/
def ldWrite (a v : Nat) (d : Dev) : Dev :=
  let o := a % 0x1000
  let b := o / 0x20
  if o < 0xC0 then
    (if o % 0x20 = 0x10 then bCmdWrite b v d
     else if o % 0x20 < 0x0C then spread (bankFields b) [b] v (fldsAt a) d else plainWrite a v d)
  else
    let d := plainWrite a v d
    if o = 0x400 ∧ bitAt v 8 then d.w F.LD_SCSTAT_XCNT 0 else d

/-- A write in the channel array [18]. -/
def chWrite (a v : Nat) (d : Dev) : Dev :=
  let c := a % 0x1000 / 16
  if 48 ≤ c then d
  else match a % 16 with
    | 0 => spread (chanFields c) [c / 8] v (fldsAt a) d
    | 8 => chCmdWrite c v d
    | 12 => chCntClear c d
    | _ => d

/-- A write in the BD block: QLIM, SAG and SBLANK wait for a headland [19 R370]. -/
def bdWrite (a v : Nat) (d : Dev) : Dev :=
  let o := a % 0x1000
  let b := o / 0x20
  if o < 0xC0 ∧ o % 0x20 = 0 then spread (bankFields b) [b] v (fldsAt a) d
  else if o < 0xC0 ∧ o % 0x20 = 0x14 then bdBcntClear b d
  else if o = 0xD8 then bdAskipClear d
  else plainWrite a v d

/-- A write in the HP block [20]. -/
def hpWrite (a v : Nat) (d : Dev) : Dev :=
  let o := a % 0x1000
  let p := o / 0x40
  if 0x180 ≤ o then plainWrite a v d
  else match o % 0x40 with
    | 0x00 => hpCtlWrite p v d
    | 0x28 => hpExptWrite p v d
    | 0x34 => hpCntClear p d
    | 0x38 => hpXcntClear p d
    | _ => plainWrite a v d

/-- A write in the SR block [21]. -/
def srWrite (a v : Nat) (d : Dev) : Dev :=
  match a % 0x1000 with
  | 0x000 => srCtlWrite v d
  | 0x020 => srCntClear d
  | _ => plainWrite a v d

/-- A write in the core control space: guard regions 0-3 and GUARD_LOCK are locked once GUARD_LOCK is set [07 R159; 09 R183, R184]. -/
def coreWrite (a v : Nat) (d : Dev) : Dev :=
  let o := a % 0x1000
  if o = 0x018 then
    let d := (d.w F.IC_CTL_LOCK0 (bitsAt v 1 1)).w F.IC_CTL_EN (bitsAt v 0 1)
    let d := if bitAt v 2 then icInvalidate d else d
    if bitAt v 3 then icStatClear d else d
  else if o = 0x020 then vsetWrite v d
  else if o = 0x100 then
    if d.b F.GUARD_LOCK_LOCK then d.lockV Tag.co a
    else if bitAt v 0 then { d.set F.GUARD_LOCK_LOCK with bt := { d.bt with guardLocked := true } } else d
  else if 0x200 ≤ o ∧ o < 0x240 ∧ d.b F.GUARD_LOCK_LOCK then d.lockV Tag.co a
  else plainWrite a v d

/-- The 32-bit write of `v` at address `a` is performed by its block; an address with no register ignores it [09 R179, R182, R183]. -/
def busWrite (a v : Nat) (d : Dev) : Dev :=
  match a / 0x1000 with
  | 0x40000 => ckWrite a v d
  | 0x40001 => sysWrite a v d
  | 0x40002 => otWrite a v d
  | 0x40003 => kyWrite a v d
  | 0x40004 => plainWrite a v d
  | 0x40005 => quWrite 0 a v d
  | 0x40006 => quWrite 1 a v d
  | 0x40007 => uaWrite a v d
  | 0x40008 => spWrite a v d
  | 0x40009 => slaveWrite a v d
  | 0x4000A => peWrite a v d
  | 0x4000B => enWrite a v d
  | 0x4000C => swWrite a v d
  | 0x4000D => drWrite a v d
  | 0x4000E => grWrite a v d
  | 0x4000F => ldWrite a v d
  | 0x40010 | 0x40011 | 0x40012 | 0x40013 => furrowWrite a v d
  | 0x40018 => bdWrite a v d
  | 0x40019 => hpWrite a v d
  | 0x4001A => srWrite a v d
  | 0x40020 => chWrite a v d
  | 0xE0000 => coreWrite a v d
  | _ => if 0x30000000 ≤ a ∧ a < 0x30080000 then windowWrite a v d else d

/-! ### Reads -/

/-- The word that the fields at `a` make; W1S bits read 0, but for IC_CTL.INV [00 R12; 07 Table CO-14]. -/
def plainRead (d : Dev) (a : Nat) : Nat :=
  (fldsAt a).foldl (fun m f => if f.acc = .w1s ∧ f ≠ F.IC_CTL_INV then m else m + d.r f * 2 ^ f.lo) 0

/-- Words +0x18 to +0x34 of furrow `f` as read [16 Table SW-6]. -/
def furrowWord (d : Dev) (f i : Nat) : Nat :=
  let u := d.fu f
  match i with
  | 6 => u.next % 2 ^ 32
  | 7 => u.nextH
  | 8 => furrowSt d f
  | 9 => u.miss
  | 10 => u.defer
  | 11 => u.occ
  | 12 => u.last % 2 ^ 32
  | 13 => u.lastH
  | _ => 0

/-- The bits of a register that follow the device's state, beside those held in fields. -/
def liveRead (d : Dev) (a : Nat) : Nat :=
  let o := a % 0x1000
  match a / 0x1000 with
  | 0x40005 => if o = 4 then qStatLive d 0 else 0
  | 0x40006 => if o = 4 then qStatLive d 1 else 0
  | 0x40007 => if o = 8 then min (txFree d) 2048 * 2 ^ 8 + bit d.ua.tx.isEmpty else 0
  | 0x40008 => if o = 4 then spStatLive d else 0
  | 0x40009 => if o = 4 then spSstatLive d else 0
  | 0x4000A =>
    if 0x800 ≤ o then peLutWord d ((o - 0x800) / 0x100) (o % 0x100 / 4) else 0
  | 0x4000B =>
    if o < 0x80 ∧ o % 0x40 = 0x10 then velWord (d.enc (o / 0x40)).vel else if o = 0x10C then velWord (ringVelocity d) else 0
  | 0x4000C => if o = 0 then bit (swFrozen d) * 2 else if o = 0x28 then swHl d else 0
  | 0x4000D => if o = 0 then drStatLive d else 0
  | 0x4000E =>
    if o = 4 then d.gr.places.length * 2 ^ 16 else if o = 0x18 then pteWord d else if o = 0x24 then pinCount d
    else if 0x800 ≤ o then plotWord d ((o - 0x800) / 4) else 0
  | 0x4000F =>
    if o < 0xC0 ∧ o % 0x20 = 0x0C then bit (bankUnitPend d (o / 0x20)) * 2 ^ 8
    else if o = 0x414 then (assertedLines d).foldl (fun m r => m ||| 2 ^ r) 0 else 0
  | 0x40010 | 0x40011 | 0x40012 | 0x40013 => furrowWord d ((a - 0x40010000) / 64) ((a - 0x40010000) % 64 / 4)
  | 0x40014 | 0x40015 | 0x40016 | 0x40017 =>
    if a < 0x40014800 then slotWord d ((a - 0x40014000) / 32) ((a - 0x40014000) % 32 / 4) else 0
  | 0x40018 =>
    if o < 0xC0 ∧ o % 0x20 = 0x0C then bqPeak d (o / 0x20) * 2 ^ 16 + bqNow d (o / 0x20)
    else if 0x400 ≤ o ∧ o < 0x700 ∧ o % 16 = 12 then testWord d ((o - 0x400) / 16) else 0
  | 0x40019 => if o < 0x180 ∧ o % 0x40 = 0x2C then hpLead d (o / 0x40) else 0
  | 0x40020 => if o < 0x300 ∧ o % 16 = 4 then bit (chanPend d (o / 16)) * 16 else 0
  | 0xE0000 => if o = 0x40 then ipendWord d 0 else if o = 0x44 then ipendWord d 1 else 0
  | _ => 0

/-- VNOW: the measured VCA code is not fixed by the spec; it is a free value (log entry 15). -/
def vnowRead (d : Dev) : Dev :=
  let (n, d) := d.draw
  { d with rd := plainRead d 0xE0000024 + (Config.vcaCode n).toNat }

/-- The 32-bit read of address `a` is performed by its block; what it returns stands in `rd` [09 R179, R182]. -/
def busRead (a : Nat) (d : Dev) : Dev :=
  let o := a % 0x1000
  if a = 0x40000020 then ckTltlRead d
  else if a = 0x40008014 then spRxdPop d
  else if a = 0x4000B008 ∨ a = 0x4000B048 then enPositionRead (o / 0x40) d
  else if a = 0x4000B01C ∨ a = 0x4000B05C then enZcaptureRead (o / 0x40) d
  else if a = 0x4000B104 then enRingPositionRead d
  else if a = 0x40002010 then
    let d := winSample d
    { d with rd := plainRead d a }
  else if a = 0xE0000024 then vnowRead d
  else if a = 0x4000700C ∨ a = 0x4000900C ∨ a = 0x40001060 then { d with rd := 0 }
  else if 0x4000A000 ≤ a ∧ a < 0x4000A100 ∧ a % 0x20 = 4 then { d with rd := peDataWord d (o / 0x20) }
  else if 0x40010000 ≤ a ∧ a < 0x40014000 ∧ a % 64 = 0x18 then
    furrowNextRead ((a - 0x40010000) / 64) { d with rd := liveRead d a }
  else if 0x40010000 ≤ a ∧ a < 0x40014000 ∧ a % 64 = 0x30 then
    furrowLastRead ((a - 0x40010000) / 64) { d with rd := liveRead d a }
  else if 0x40014000 ≤ a ∧ a < 0x40014800 ∧ a % 32 = 0 then
    drTfireRead ((a - 0x40014000) / 32) { d with rd := liveRead d a }
  else if 0x30000000 ≤ a ∧ a < 0x30080000 then windowRead a d
  else if 0x70000000 ≤ a ∧ a ≤ 0x70000800 then { d with rd := shadowRead d ((a - 0x70000000) / 4) }
  else { d with rd := plainRead d a + liveRead d a }

end Sys2Proof.Machine
end

