-- ==== Sys2Proof/Machine/Operands.lean ====
section
/-! DEFINITION. The operand forms of the Cartil instructions: general registers, immediates, effective addresses, shifts, bit fields, branch
conditions and targets, quotients [08 R161-R173]. -/

namespace Sys2Proof.Machine

/-- General register `r`; w0 reads 0 [08 R161]. -/
def Dev.wr (d : Dev) (r : Nat) : Word := if r = 0 then 0 else BitVec.ofNat 32 (Tab.getD d.co.w r 0)

/-- General register `r` takes `v`; a result for w0 is discarded [08 R161]. -/
def Dev.setW (r : Nat) (v : Word) (d : Dev) : Dev :=
  if r = 0 then d else { d with co := { d.co with w := Tab.setD d.co.w r 0 v.toNat } }

/-- sext(imm). -/
def sext (imm : BitVec 16) : Word := imm.signExtend 32

/-- zext(imm). -/
def zext (imm : BitVec 16) : Word := imm.zeroExtend 32

/-- The effective address a + sext(imm) [08 R170]. -/
def eaImm (d : Dev) (a : Nat) (imm : BitVec 16) : Nat := (d.wr a + sext imm).toNat

/-- The effective address a + 4b [08 R170]. -/
def eaIdx (d : Dev) (a b : Nat) : Nat := (d.wr a + 4 * d.wr b).toNat

/-- a << n, zero fill [08 Table IS-6]. -/
def shl (a : Word) (n : Nat) : Word := a <<< (n % 32)

/-- u(a) >> n, zero fill. -/
def shr (a : Word) (n : Nat) : Word := a >>> (n % 32)

/-- s(a) >> n, sign fill. -/
def sar (a : Word) (n : Nat) : Word := a.sshiftRight (n % 32)

/-- a rotated right by n. -/
def ror (a : Word) (n : Nat) : Word := a.rotateRight (n % 32)

/-- SHI: imm[6:5] names the shift, imm[4:0] the amount [08 Table IS-7]. -/
def shiftBy (a : Word) (imm : Nat) : Word :=
  match imm / 32 % 4 with
  | 0 => shl a imm
  | 1 => shr a imm
  | 2 => sar a imm
  | _ => ror a imm

/-- mask(w): the w low bits are 1. -/
def maskW (w : Nat) : Word := BitVec.ofNat 32 (2 ^ w - 1)

/-- EXTU [08 Table IS-8]. -/
def extu (a : Word) (lsb w : Nat) : Word := (a >>> lsb) &&& maskW w

/-- EXTS: bits [31:w] take bit w - 1. -/
def exts (a : Word) (lsb w : Nat) : Word := (extu a lsb w <<< (32 - w)).sshiftRight (32 - w)

/-- INS. -/
def insW (d a : Word) (lsb w : Nat) : Word := (d &&& ~~~(maskW w <<< lsb)) ||| ((a &&& maskW w) <<< lsb)

/-- POPC. -/
def popc (a : Word) : Word := BitVec.ofNat 32 (((List.range 32).filter fun i => a.getLsbD i).length)

/-- CLZ: 32 for 0. -/
def clz (a : Word) : Word := BitVec.ofNat 32 (if a = 0 then 32 else 31 - Nat.log2 a.toNat)

/-- REVB. -/
def revb (a : Word) : Word := a.extractLsb' 0 8 ++ a.extractLsb' 8 8 ++ a.extractLsb' 16 8 ++ a.extractLsb' 24 8

/-- SEXB. -/
def sexb (a : Word) : Word := (a.extractLsb' 0 8).signExtend 32

/-- SEXH. -/
def sexh (a : Word) : Word := (a.extractLsb' 0 16).signExtend 32

/-- The 64-bit product, unsigned [08 R169]. -/
def mulU (a b : Word) : Nat := a.toNat * b.toNat

/-- The 64-bit product, signed. -/
def mulS (a b : Word) : Nat := (a.toInt * b.toInt % (2 ^ 64 : Int)).toNat

/-- The unsigned quotient; a zero divisor gives 0xFFFFFFFF [08 R169]. -/
def divU (a b : Word) : Word := if b = 0 then 0xFFFFFFFF else BitVec.ofNat 32 (a.toNat / b.toNat)

/-- The unsigned remainder; a zero divisor gives the dividend. -/
def remU (a b : Word) : Word := if b = 0 then a else BitVec.ofNat 32 (a.toNat % b.toNat)

/-- The signed quotient, truncated toward zero; the most negative number by -1 gives itself. -/
def divS (a b : Word) : Word := if b = 0 then 0xFFFFFFFF else BitVec.ofInt 32 (Int.tdiv a.toInt b.toInt)

/-- The signed remainder, with the sign of the dividend. -/
def remS (a b : Word) : Word := if b = 0 then a else BitVec.ofInt 32 (Int.tmod a.toInt b.toInt)

/-- The condition of code `c` [08 R165, Table IS-5]; code 15 has none. -/
def condTrue (c : Nat) (k : Cpu) : Bool :=
  match c with
  | 0 => true
  | 1 => k.z
  | 2 => !k.z
  | 3 => k.c
  | 4 => !k.c
  | 5 => k.c && !k.z
  | 6 => !k.c || k.z
  | 7 => k.n == k.v
  | 8 => k.n != k.v
  | 9 => !k.z && (k.n == k.v)
  | 10 => k.z || (k.n != k.v)
  | 11 => k.n
  | 12 => !k.n
  | 13 => k.v
  | 14 => !k.v
  | _ => false

/-- The target of a branch by `n` bits of displacement, in words from the branch itself [08 R173]. -/
def branchTo (pc : Nat) {n : Nat} (disp : BitVec n) : Nat := (BitVec.ofNat 32 pc + 4 * disp.signExtend 32).toNat

/-- The value of a loaded datum of `n` bytes, sign- or zero-extended [08 Table IS-10]. -/
def extendLoad (n : Nat) (sgn : Bool) (v : Nat) : Word :=
  if sgn then (if n = 1 then (BitVec.ofNat 8 v).signExtend 32 else (BitVec.ofNat 16 v).signExtend 32) else BitVec.ofNat 32 (v % 256 ^ n)

end Sys2Proof.Machine
end

