-- ==== Sys2Proof/Machine/Flags.lean ====
section
/-! DEFINITION. The condition flags and the instructions' flag computations; STAT as a word [08 R164; 07 Table CO-10]. -/

namespace Sys2Proof.Machine

/-- x + y + cin as a 33-bit sum: its word and its carry [08 R164]. -/
def addWith (x y : Word) (cin : Bool) : Nat := x.toNat + y.toNat + bit cin

/-- The word of the sum. -/
def addSum (x y : Word) (cin : Bool) : Word := BitVec.ofNat 32 (addWith x y cin)

/-- N, Z, C and V of add_flags(x, y, cin) [08 R164]. -/
def addFlags (x y : Word) (cin : Bool) (d : Dev) : Dev :=
  let r := addSum x y cin
  { d with co := { d.co with n := r.msb, z := decide (r = 0), c := decide (2 ^ 32 ≤ addWith x y cin),
                             v := (x.msb == y.msb) && (r.msb != x.msb) } }

/-- N and Z of ANDS; C and V keep their value. -/
def andFlags (r : Word) (d : Dev) : Dev := { d with co := { d.co with n := r.msb, z := decide (r = 0) } }

/-- STAT [07 Table CO-10]. -/
def statWord (k : Cpu) : Nat :=
  bit k.n * 2 ^ 31 + bit k.z * 2 ^ 30 + bit k.c * 2 ^ 29 + bit k.v * 2 ^ 28 + bit k.ie * 2 ^ 8 + k.level % 16

/-- N, Z, C, V and IE are taken from the word `v`; LEVEL is unchanged [08 Table IS-12]. -/
def setStat (v : Word) (d : Dev) : Dev :=
  { d with co := { d.co with n := v.getLsbD 31, z := v.getLsbD 30, c := v.getLsbD 29, v := v.getLsbD 28, ie := v.getLsbD 8 } }

end Sys2Proof.Machine
end

