-- ==== Sys2Proof/Machine/Cartil.lean ====
section
/-! DEFINITION. The Cartil core: fetch and its checks, the scoreboard and the write buffer, exceptions and interrupts, guard regions, and the
shapes of its instructions [07; 08; 09 R177-R182]. An instruction that stalls leaves the device as it is, but for what the stall itself sets
off: it has not started [07 R156]. -/

namespace Sys2Proof.Machine

/-- The core changed by `g`. -/
def Dev.onCo (d : Dev) (g : Cpu → Cpu) : Dev := { d with co := g d.co }

/-! ### Regions and guards [07 R142, R144, R159; 09 R177-R181] -/

/-- Address `a` lies in program RAM. -/
def inProg (a : Nat) : Bool := decide (progBase ≤ a ∧ a < progBase + progSize)

/-- Address `a` lies in near RAM: program, data or keep RAM. -/
def inRam (a : Nat) : Bool :=
  inProg a || decide (dataBase ≤ a ∧ a < dataBase + dataSize) || decide (keepBase ≤ a ∧ a < keepBase + keepSize)

/-- The address lies in far space [07 Table CO-3]. -/
def isFar (a : Nat) : Bool := decide (0x30000000 ≤ a ∧ a < 0x50000000) || decide (0x60000000 ≤ a ∧ a < 0x80000000)

/-- A register of the core control space stands at `a` [08 R176]. -/
def coreReg (a : Nat) : Bool :=
  decide (a / 0x1000 = 0xE0000) && (!(fldsAt a).isEmpty || decide (a = 0xE0000040 ∨ a = 0xE0000044))

/-- The kinds of access that a guard region permits or denies. -/
inductive Perm where
  | r | w | x
  deriving DecidableEq, Repr

/-- The lowest-numbered enabled guard region that contains `a` decides; with none the access is permitted [07 R159]. -/
def guardOk (d : Dev) (p : Perm) (a : Nat) : Bool :=
  match (List.range 8).find? fun n =>
    d.b (F.GUARD_ATTR_EN n) && decide (32 * d.r (F.GUARD_BASE_BASE n) ≤ a ∧ a < 32 * d.r (F.GUARD_LIM_LIM n) + 32) with
  | none => true
  | some n => match p with
    | .r => d.b (F.GUARD_ATTR_R n)
    | .w => d.b (F.GUARD_ATTR_W n)
    | .x => d.b (F.GUARD_ATTR_X n)

/-- What the checks 1 to 3 of Table AS-3 make of a data access of `n` bytes: 0, or the entry of Table CO-7 it raises [09 R180, R182]. -/
def dataFault (d : Dev) (write : Bool) (n a : Nat) : Nat :=
  if a % n ≠ 0 then 2
  else if guardOk d (if write then .w else .r) a = false then 4
  else if isFar a then (if inXip a && !d.b F.FETCH_MODE_XIPEN then 5 else 0)
  else if inRam a then 0
  else if a < 0x10000 then (if write then 5 else 0)
  else if n = 4 ∧ coreReg a then 0 else 5

/-- A block or array of the peripheral space stands at `a` [09 Table AS-2]. -/
def inBlocks (a : Nat) : Bool := decide (0x40000000 ≤ a ∧ a < 0x4001B000) || decide (0x40020000 ≤ a ∧ a < 0x40021000)

/-- A far access of `n` bytes fails, once issued [09 R181; 13 R259, R462]. -/
def farFails (d : Dev) (write : Bool) (n a : Nat) : Bool :=
  if a < 0x40000000 then decide (n ≠ 4) || decide (0x30080000 ≤ a)
  else if a < 0x50000000 then decide (n ≠ 4) || !inBlocks a
  else if inXip a then write || !xipMapped d a || ((lineBytes d a).isNone && !d.b F.SP_CTL_EN)
  else write || decide (n ≠ 4) || decide (0x70000800 < a)

/-! ### The scoreboard and the write buffer [07 R145-R149] -/

/-- Register `r` is busy; w0 never is [07 R145; 08 R172]. -/
def busyReg (d : Dev) (r : Nat) : Bool := decide (r ≠ 0) && d.co.loads.any fun l => decide (l.dst = r)

/-- The registers that a frame holds [07 Table CO-6]. -/
def frameRegs : List Nat := [1, 2, 3, 4, 5, 6, 7, 15]

/-- A register that a frame holds is busy. -/
def frameBusy (d : Dev) : Bool := frameRegs.any (busyReg d)

/-- The near stores that are posted, done in order: what a near load reads [07 R148]. -/
def forwarded (d : Dev) : Dev :=
  d.co.wb.foldl (fun m p => if inRam p.addr then m.store p.width p.addr p.data else m) d

/-- The stores posted to core control registers, done in order: what a load of one reads, by the access codes of its fields [07 R148, R149; 00 R11,
R12]. -/
def forwardedRegs (d : Dev) : Dev :=
  d.co.wb.foldl (fun m p => if p.addr / 0x1000 = 0xE0000 then busWrite p.addr p.data m else m) d

/-- A near load of `n` bytes at address `a` sees the stores that are posted; a register of the core control space reads as its posted stores will leave
it [07 R148; log entry 81]. -/
def nearLoad (d : Dev) (n a : Nat) : Dev :=
  if a / 0x1000 = 0xE0000 then { busRead a d with rd := (busRead a (forwardedRegs d)).rd }
  else { d with rd := (forwarded d).load n a }

/-- An XIP line is asked for, unless one is already. -/
def wantLine (a : Nat) (d : Dev) : Dev := if d.sp.fill.isSome then d else d.onSp fun s => { s with fill := some (lineAt a) }

/-- The access of the far load `l` reaches its block [07 R148; 09 R181]. -/
def reach (l : FarLoad) (d : Dev) : Dev :=
  let d := d.onCo fun k => { k with loads := k.loads.map fun x => if x.id = l.id then { x with reached := true } else x }
  if farFails d false l.width l.addr then d.onCo fun k => { k with fails := k.fails ++ [(l.addr, some l.id)] }
  else if inXip l.addr then
    match lineBytes d l.addr with
    | some bs => cacheHit l.addr (d.loadResult l.id (lineValue bs l.width l.addr))
    | none => wantLine l.addr (d.inc F.IC_STAT_MISS)
  else if l.addr = 0x4000500C then qPopFor 0 (some l.id) d
  else if l.addr = 0x4000600C then qPopFor 1 (some l.id) d
  else
    let d := busRead l.addr d
    d.loadResult l.id d.rd

/-- The far load `l` reads the tag register of a queue of which an earlier pop still waits: the tag is that pop's [10 R195]. -/
def tagWaits (d : Dev) (l : FarLoad) : Bool :=
  decide (l.addr = 0x40005010 ∨ l.addr = 0x40006010) && d.co.loads.any fun x => x.reached && x.res.isNone && decide (x.addr + 4 = l.addr)

/-- Far accesses reach their blocks in program order: a far load once every earlier far store is accepted [07 R148]. -/
def pump (n : Nat) (d : Dev) : Dev :=
  match n with
  | 0 => d
  | n + 1 =>
    match d.co.loads.find? fun l => !l.reached with
    | none => d
    | some l => if tagWaits d l || d.co.wb.any fun p => isFar p.addr && decide (p.id < l.id) then d else pump n (reach l d)

/-- WRITE_BUFFER_DRAIN: the oldest posted store is done: near memory, a core control register, or its block takes it [07 R147, R149]. -/
def writeBufferDrain (d : Dev) : Dev :=
  match d.co.wb with
  | [] => d
  | p :: r =>
    let d := d.onCo fun k => { k with wb := r }
    if inRam p.addr then d.store p.width p.addr p.data
    else if isFar p.addr then
      pump 2 (if farFails d true p.width p.addr then d.onCo fun k => { k with fails := k.fails ++ [(p.addr, none)] }
              else busWrite p.addr p.data d)
    else busWrite p.addr p.data d

/-! ### Entry to handlers [07 R152-R158] -/

/-- Address `a` is executable memory: program RAM, or the XIP window while it is enabled [07 R142]. -/
def executable (d : Dev) (a : Nat) : Bool := inProg a || (inXip a && d.b F.FETCH_MODE_XIPEN)

/-- The vector of entry `e`: none where it is not in program RAM or points outside executable memory [07 R152]. DESIGN CHOICE [log 99]: a store that is
still posted is not seen. -/
def vectorOf (d : Dev) (e : Nat) : Option Nat :=
  let a := d.r F.VBASE_BASE * 512 + 4 * e
  if inProg a ∧ inProg (a + 3) then (if executable d (d.load 4 a) then some (d.load 4 a) else none) else none

/-- The handler at vector `e` starts at level `lv` [07 R153, R155]; a bad vector is a double fault [07 R158]. -/
def startHandler (e lv : Nat) (d : Dev) : Dev :=
  match vectorOf d e with
  | none => lockupReset d
  | some t => d.onCo fun k => { k with pc := t, level := lv, waiting := false, missed := false, stalled := false }

/-- A frame can be written below `sp`: aligned, in near RAM that image code may write [07 R153]. -/
def frameOk (d : Dev) (p : Perm) (base : Nat) : Bool :=
  decide (base % 4 = 0) && (List.range 10).all fun i => inRam (base + 4 * i) && guardOk d p (base + 4 * i)

/-- The words of the frame [07 Table CO-6], with `pc` to resume. -/
def frameWords (d : Dev) (pc : Nat) : List Nat := frameRegs.map (fun r => (d.wr r).toNat) ++ [pc, statWord d.co]

/-- Entry: the frame is written below sp, sp falls by 40, and the handler of vector `e` starts at level `lv`; a frame that cannot be written is a
double fault [07 R149, R153, R158]. -/
def enterHandler (pc e lv : Nat) (d : Dev) : Dev :=
  let sp := (d.wr 14 - 40).toNat
  if frameOk d .w sp then
    startHandler e lv (((d.storeBytes sp ((frameWords d pc).flatMap (leBytes 4))).setW 14 (BitVec.ofNat 32 sp)))
  else lockupReset d

/-- TAKING AN EXCEPTION: entry `e` of Table CO-7 with `pc` stacked and, where an address is involved, `addr`. At level 8 it is a double fault; entry
waits for busy registers [07 R153, R157, R158]. -/
def raise (e pc : Nat) (addr : Option Nat) (d : Dev) : Dev :=
  if 8 ≤ d.co.level then lockupReset d
  else if frameBusy d then d
  else
    let d := ((d.w F.CO_FCAUSE_ENTRY e).w F.CO_FCAUSE_IMP (bit (decide (e = 6)))).w F.CO_FPC_ADDR pc
    let d := match addr with | some a => d.w F.CO_FADDR_ADDR a | none => d
    enterHandler pc e 8 d

/-- BUSI is taken for a report that has arrived, once the registers of the frame are not busy [07 R153, R157]. -/
def busiEnter (d : Dev) : Dev :=
  match d.co.busi with
  | none => d
  | some a => if frameBusy d then d else raise 6 d.co.pc (some a) (d.onCo fun k => { k with busi := none })

/-- FAR_LOAD_RETURN: the oldest far load whose word has come writes its register and clears its busy bit [07 R144]; a load of a tag, and a BUSI, that
waited for it go on. -/
def farLoadReturn (d : Dev) : Dev :=
  match d.co.loads.find? fun l => l.res.isSome with
  | none => d
  | some l =>
    busiEnter (pump 2 ((d.setW l.dst (extendLoad l.width l.sgn (l.res.getD 0))).onCo fun k =>
      { k with loads := k.loads.filter fun x => x.id ≠ l.id }))

/-- The source that is taken at this instruction boundary, with its level [07 R151; 08 R175]. -/
def irqNow (d : Dev) : Option (Nat × Nat) := if d.co.ie then irqAbove d d.co.level else none

/-- Image code can run: the core is awake, neither in the monitor nor halted. -/
def imageRuns (d : Dev) : Bool := d.co.image && !d.co.halted && d.awake && !darkened d

/-- INTERRUPT_ENTRY: an eligible source is taken at the boundary, once the registers of the frame are not busy [07 R151-R154]. -/
def interruptEntry (d : Dev) : Dev :=
  if imageRuns d then
    match irqNow d with
    | none => d
    | some (s, l) => if frameBusy d ∨ d.co.busi.isSome then d else enterHandler d.co.pc (16 + s) l d
  else d

/-- The load of a failed far access gives its register 0, which is no longer busy; the next far load may then reach its block [07 R157]. -/
def loadFailed (l : Option Nat) (d : Dev) : Dev :=
  match l with
  | none => d
  | some n =>
    let dst := ((d.co.loads.find? fun x => decide (x.id = n)).map FarLoad.dst).getD 0
    pump 2 ((d.setW dst 0).onCo fun k => { k with loads := k.loads.filter fun x => x.id ≠ n })

/-- BUSI_REPORT: a block reports a far access that failed, and BUSI follows at the instruction now due, which waits with it for the registers of the
frame; at level 8 it is a double fault at once [07 R157, R158; 09 R181]. -/
def busiReport (d : Dev) : Dev :=
  if imageRuns d ∧ d.co.busi = none then
    match d.co.fails with
    | [] => d
    | (a, l) :: r =>
      let d := loadFailed l (d.onCo fun k => { k with fails := r, busi := some a })
      if 8 ≤ d.co.level then lockupReset d else busiEnter d
  else d

/-- WAIT_WAKE: a source pending above LEVEL ends WAIT; a ladder request that quiesces has seen it [07 R141; 03 R51]. -/
def waitWake (d : Dev) : Dev :=
  if imageRuns d ∧ d.co.waiting ∧ (irqAbove d d.co.level).isSome then
    (d.onCo fun k => { k with waiting := false }).onCk fun c => { c with woken := c.woken || c.ask.isSome }
  else d

/-! ### Issue [07 R142, R145, R156] -/

/-- The next instruction due is at `pc`. -/
def goTo (t : Nat) (d : Dev) : Dev := d.onCo fun k => { k with pc := t }

/-- The instruction after this one is due. -/
def advancePc (d : Dev) : Dev := goTo ((d.co.pc + 4) % 2 ^ 32) d

/-- The word at pc is delivered: what its fetch counts. -/
def fetched (d : Dev) : Dev :=
  let d := if inXip d.co.pc ∧ d.co.missed = false then cacheHit d.co.pc d else d
  d.onCo fun k => { k with missed := false, stalled := false }

/-- An XIP miss asks for the line; the core waits for it. -/
def fetchMiss (d : Dev) : Dev :=
  let d := if d.co.missed then d else (d.inc F.IC_STAT_MISS).onCo fun k => { k with missed := true }
  wantLine d.co.pc d

/-- The instruction due is fetched and, unless an interrupt or a BUSI is taken first, WAIT holds the core, or its fetch fails or misses, `act` runs
[07 R142, R151, R157]. -/
def fetch (act : Dev → Dev) (d : Dev) : Dev :=
  let pc := d.co.pc
  if imageRuns d = false ∨ d.co.waiting ∨ d.co.busi.isSome ∨ (irqNow d).isSome then d
  else if pc % 4 ≠ 0 then raise 2 pc (some pc) d
  else if executable d pc = false ∨ guardOk d .x pc = false then raise 3 pc (some pc) d
  else if inProg pc ∨ (lineBytes d pc).isSome then act (fetched d)
  else if xipMapped d pc ∧ d.b F.SP_CTL_EN then fetchMiss d
  else raise 6 pc (some pc) d

/-- An instruction that reads or writes the registers `regs`: it stalls while one of them is busy [07 R145]. -/
def instr (regs : List Nat) (act : Dev → Dev) (d : Dev) : Dev :=
  fetch (fun e => if regs.any (busyReg e) then d else act e) d

/-- An instruction that stalls on a full write buffer or at the issue of a third far load: demand term DW [07 R139]. -/
def stall (d : Dev) : Dev := d.onCo fun k => { k with stalled := true }

/-- UNDEF at the present instruction. -/
def undef (d : Dev) : Dev := raise 1 d.co.pc none d

/-! ### The shapes of the instructions -/

/-- Register `t` takes `v`, flags as `fl` sets them, and the next instruction is due [08 R166]. -/
def result (regs : List Nat) (t : Nat) (v : Dev → Word) (fl : Dev → Dev → Dev) (d : Dev) : Dev :=
  instr (t :: regs) (fun e => advancePc ((fl e e).setW t (v e))) d

/-- No flag changes. -/
def noFlags (_ : Dev) (d : Dev) : Dev := d

/-- d = a op b, no flags. -/
def aluRR (op : Word → Word → Word) (t a b : Nat) (d : Dev) : Dev := result [a, b] t (fun e => op (e.wr a) (e.wr b)) noFlags d

/-- d = op(a), no flags. -/
def aluR (op : Word → Word) (t a : Nat) (d : Dev) : Dev := result [a] t (fun e => op (e.wr a)) noFlags d

/-- d = add_flags(a, y, cin) [08 R164]. -/
def aluAdd (regs : List Nat) (t a : Nat) (y : Dev → Word) (cin : Dev → Bool) (d : Dev) : Dev :=
  result (a :: regs) t (fun e => addSum (e.wr a) (y e) (cin e)) (fun e k => addFlags (e.wr a) (y e) (cin e) k) d

/-- A double-word result: the low word to `t`, then the high word to `u` [08 R169]. -/
def mulLong (op : Word → Word → Nat) (t u a b : Nat) (d : Dev) : Dev :=
  instr [t, u, a, b] (fun e =>
    let p := op (e.wr a) (e.wr b)
    advancePc ((e.setW t (BitVec.ofNat 32 p)).setW u (BitVec.ofNat 32 (p / 2 ^ 32)))) d

/-- A load of `n` bytes at the address that `ea` computes: its checks, then the near value at once, or the issue of a far load, which a third
one outstanding holds [07 R144, R146; 08 R170-R172; 09 R182]. -/
def loadInstr (regs : List Nat) (ea : Dev → Nat) (n : Nat) (sgn : Bool) (t : Nat) (d : Dev) : Dev :=
  instr (t :: regs) (fun e =>
    let a := ea e
    let f := dataFault e false n a
    if f ≠ 0 then raise f e.co.pc (some a) e
    else if isFar a then
      if 2 ≤ e.co.loads.length then stall d
      else
        let e := e.onCo fun k => { k with loads := k.loads ++ [⟨k.nextLoad, a, t, n, sgn, false, none⟩], nextLoad := k.nextLoad + 1 }
        pump 2 (advancePc e)
    else
      let e := nearLoad e n a
      advancePc (e.setW t (extendLoad n sgn e.rd))) d

/-- A store of the `n` low bytes of register `s`: its checks, then it is posted, unless four are [07 R147; 08 R170, R171; 09 R182]. -/
def storeInstr (regs : List Nat) (ea : Dev → Nat) (n s : Nat) (d : Dev) : Dev :=
  instr (s :: regs) (fun e =>
    let a := ea e
    let f := dataFault e true n a
    if f ≠ 0 then raise f e.co.pc (some a) e
    else if 4 ≤ e.co.wb.length then stall d
    else
      advancePc (e.onCo fun k =>
        { k with wb := k.wb ++ [⟨k.nextLoad, a, n, (e.wr s).toNat % 256 ^ n⟩], nextLoad := k.nextLoad + 1 })) d

/-- The address of core control register number `c` [08 R176]. -/
def crAddr (c : Nat) : Nat := 0xE0000000 + 4 * c

/-! ### Control flow and system instructions -/

/-- B: a taken branch goes to its target; code 15 is UNDEF [08 R165, R173]. -/
def branch (cond : Nat) (disp : BitVec 22) (d : Dev) : Dev :=
  fetch (fun e =>
    if cond = 15 then undef e
    else if condTrue cond e.co then goTo (branchTo e.co.pc disp) e else advancePc e) d

/-- CALL: lk takes the next address [08 R173]. -/
def callTo (disp : BitVec 26) (d : Dev) : Dev :=
  instr [15] (fun e =>
    let t := branchTo e.co.pc disp
    goTo t (e.setW 15 (BitVec.ofNat 32 (e.co.pc + 4)))) d

/-- JR and CALLR: the target is register `a`, and must be 4-aligned; with `link` lk takes the next address [08 R173]. -/
def jumpReg (link : Bool) (a : Nat) (d : Dev) : Dev :=
  instr (if link then [a, 15] else [a]) (fun e =>
    let t := (e.wr a).toNat
    if t % 4 ≠ 0 then raise 2 e.co.pc (some t) e
    else goTo t (if link then e.setW 15 (BitVec.ofNat 32 (e.co.pc + 4)) else e)) d

/-- SYNC completes: the write buffer and the far loads done, invalidation finished, and a manual throttle change settled [07 R150]. -/
def syncDone (d : Dev) : Bool :=
  d.co.wb.isEmpty && d.co.loads.isEmpty && !d.b F.IC_CTL_INV && (!d.co.vwait || d.b F.CORE_VSET_AUTO)

/-- SYNC: it waits, or the next instruction is due [07 R150]. -/
def syncInstr (d : Dev) : Dev :=
  fetch (fun e => if syncDone e then advancePc (e.onCo fun k => { k with vwait := false }) else d) d

/-- WAIT: the core stops; a source already pending ends it at once; with CK_LADDER.REQ set the ladder procedure is entered [07 R141; 03 R51]. -/
def waitInstr (d : Dev) : Dev :=
  fetch (fun e =>
    let e := (advancePc e).onCo fun k => { k with waiting := true }
    let e := if e.b F.CK_LADDER_REQ then ladderRequest (e.r F.CK_LADDER_REQ) e else e
    waitWake e) d

/-- The frame's word at offset `o`, by a near load. -/
def frameWord (d : Dev) (o : Nat) : Nat := (forwarded d).load 4 ((d.wr 14).toNat + o)

/-- The frame is unstacked [07 R155]. -/
def unstack (d : Dev) : Dev :=
  let v := fun o => frameWord d o
  let st := BitVec.ofNat 32 (v 36)
  let e := (List.range 8).foldl (fun e i => e.setW (frameRegs.getD i 0) (BitVec.ofNat 32 (v (4 * i)))) d
  let e := setStat st (e.setW 14 (d.wr 14 + 40))
  e.onCo fun k => { k with pc := v 32, level := v 36 % 16 }

/-- RETI: UNDEF at level 0; it chains to a source eligible at the stacked level and IE, else it unstacks; a frame that cannot be read is a double
fault [07 R155, R158; 08 Table IS-12]. -/
def retiInstr (d : Dev) : Dev :=
  instr [14] (fun e =>
    if e.co.level = 0 then undef e
    else if frameOk e .r (e.wr 14).toNat = false then lockupReset e
    else
      let st := frameWord e 36
      match if bitAt st 8 then irqAbove e (st % 16) else none with
      | some (s, l) => startHandler (16 + s) l e
      | none => if frameBusy e then d else unstack e) d

/-- BRK: with the debug path enabled the core halts, with the next instruction due; else the exception BRK [08 Table IS-12]. -/
def brkInstr (d : Dev) : Dev :=
  fetch (fun e =>
    if e.b F.KY_LC_DBGEN then advancePc (e.onCo fun k => { k with halted := true }) else raise 8 e.co.pc none e) d

/-! ### CALLM [07 R160] -/

/-- The undefined value that a service leaves in register `r`: a free value (log entry 17). -/
def scratch (r : Nat) (d : Dev) : Dev :=
  let (n, d) := d.draw
  d.setW r (Config.callmScratch n)

/-- The results of a service: w1 and, where it gives them, w2; the rest of w2 to w7 is not defined. -/
def results (r1 : Nat) (r2 : Option Nat) (d : Dev) : Dev :=
  let d := forAll [2, 3, 4, 5, 6, 7] scratch d
  let d := match r2 with | some v => d.setW 2 (BitVec.ofNat 32 v) | none => d
  d.setW 1 (BitVec.ofNat 32 r1)

/-- Every posted store is done: the loads and stores of a service come after them in program order [07 R147, R148]. -/
def drainAll (n : Nat) (d : Dev) : Dev :=
  match n with
  | 0 => d
  | n + 1 => drainAll n (writeBufferDrain d)

/-- CALLM n: lk and CO_CALLN are written, IE clears, the service `svc` runs to its end, IE is restored and the core returns to lk; a service, or a
posted store before it, that leaves the image does not return [07 R160]. -/
def callm (n : Nat) (svc : Dev → Dev) (d : Dev) : Dev :=
  instr frameRegs (fun e =>
    let ret := (e.co.pc + 4) % 2 ^ 32
    let e := ((e.setW 15 (BitVec.ofNat 32 ret)).w F.CO_CALLN_N n).w F.CO_CALLN_IE0 (bit e.co.ie)
    let e := drainAll 4 (e.onCo fun k => { k with ie := false })
    let e := if e.co.image then svc e else e
    if e.co.image then goTo ret (e.onCo fun k => { k with ie := e.b F.CO_CALLN_IE0 }) else e) d

/-- The `n` bytes from `a` on are near RAM with permission `p` for image code. -/
def blockOk (d : Dev) (p : Perm) (a n : Nat) : Bool :=
  decide (n ≤ 256) && (List.range n).all fun i => inRam (a + i) && guardOk d p (a + i)

/-- The `n` bytes of near RAM from `a` on. -/
def ramBytes (d : Dev) (a n : Nat) : List Nat := (List.range n).map fun i => (d.byte (a + i)).toNat

/-- The KY_PATH words take 64 bytes. -/
def setKyPath (bs : List Nat) (d : Dev) : Dev :=
  forAll (List.range 16) (fun i d => d.w (F.KY_PATH_W i) (le ((bs.drop (4 * i)).take 4) % (if i % 4 = 3 then 65536 else 2 ^ 32))) d

/-- CALLM_INFO [07 Table CO-9]. -/
def svcInfo (d : Dev) : Dev := results Config.monVersion.toNat (some (plainRead d 0x40001048)) d

/-- CALLM_KEYGO [07 Table CO-9; 06 R121]. -/
def svcKeygo (d : Dev) : Dev :=
  let code := (d.wr 1).toNat % 16
  let pathAt := (d.wr 2).toNat
  let buf := (d.wr 3).toNat
  let n := (d.wr 4).toNat
  if 12 ≤ code then results 5 none d
  else if d.b F.KY_STAT_BUSY then results 0x10 none d
  else if (pathAt ≠ 0 ∧ blockOk d .r pathAt 64 = false) ∨ blockOk d .r buf n = false then results 0x11 none d
  else
    let m := d
    let old := kyBuf d
    let arg := (d.wr 5).toNat
    let d := if pathAt = 0 then d else setKyPath (ramBytes m pathAt 64) d
    let d := setKyBuf (ramBytes m buf n ++ old.drop n) d
    results 0 none (kyCommand code (d.w F.KY_ARG_CONFIRM arg))

/-- CALLM_KEYEND [07 Table CO-9]. -/
def svcKeyend (d : Dev) : Dev :=
  let buf := (d.wr 2).toNat
  let n := (d.wr 3).toNat
  let st := bitsAt (plainRead d 0x40003004) 8 9
  if d.b F.KY_STAT_BUSY then results 0x10 (some st) d
  else if blockOk d .w buf n = false then results 0x11 (some st) d
  else results (d.r F.KY_STAT_ERR) (some st) (d.storeBytes buf ((kyBuf d).take n))

/-- CALLM_TAMPER [07 Table CO-9]. -/
def svcTamper (d : Dev) : Dev := results (plainRead d 0x40004000) (some (plainRead d 0x40004004)) d

/-- CALLM 8 to 255 [07 Table CO-9]. -/
def svcUnused (d : Dev) : Dev := results 0xFFFFFFFF none d

/-! ### The pattern window [01 R19] -/

/-- PATTERN_WINDOW_ACCESS: a read (its word in `rd`) or a write of a word of a plot through the window. -/
def patternWindow (write : Bool) (o v : Nat) (d : Dev) : Dev :=
  let a := 0x30000000 + o % 0x80000 / 4 * 4
  if write then busWrite a v d else busRead a d

end Sys2Proof.Machine
end

