-- ==== Sys2Proof/Machine/Text.lean ====
section
/-! DEFINITION. Stolelle lines as text: tokens, numbers and units, names and their abbreviations, and the forms of the verbs' arguments
[11 R205-R211; 12 R229]. Characters are ASCII codes. -/

namespace Sys2Proof.Machine

/-! ### Characters and tokens [11 R208, R209] -/

/-- A separator: space or tab. -/
def isSep (c : Nat) : Bool := decide (c = 32 ∨ c = 9)

/-- The character in upper case. -/
def upC (c : Nat) : Nat := if 97 ≤ c ∧ c ≤ 122 then c - 32 else c

/-- The text in upper case. -/
def upper (t : List Nat) : List Nat := t.map upC

/-- The text is `s`, in any case. -/
def isWord (s : String) (t : List Nat) : Bool := decide (upper t = upper (ascii s))

/-- A decimal digit. -/
def isDigit (c : Nat) : Bool := decide (48 ≤ c ∧ c ≤ 57)

/-- A letter. -/
def isLetter (c : Nat) : Bool := decide (65 ≤ upC c ∧ upC c ≤ 90)

/-- The value of a hex digit. -/
def hexVal (c : Nat) : Option Nat :=
  if isDigit c then some (c - 48) else if 65 ≤ upC c ∧ upC c ≤ 70 then some (upC c - 55) else none

/-- What the scan of a line holds: the tokens found, the present one, and the length of an open quoted string. -/
structure Scan where
  done : List (List Nat)
  cur : List Nat
  quote : Option Nat
  bad : Bool
  deriving DecidableEq, Repr

/-- One character of the scan. -/
def scanChar (s : Scan) (c : Nat) : Scan :=
  match s.quote with
  | some n =>
    if c = 34 then { s with cur := s.cur ++ [c], quote := none, bad := s.bad || decide (64 < n) }
    else { s with cur := s.cur ++ [c], quote := some (n + 1), bad := s.bad || decide (c = 42) }
  | none =>
    if c = 34 then { s with cur := s.cur ++ [c], quote := some 0 }
    else if c = 42 then { s with cur := s.cur ++ [c], bad := true }
    else if isSep c then (if s.cur.isEmpty then s else { s with done := s.done ++ [s.cur], cur := [] })
    else { s with cur := s.cur ++ [c] }

/-- The tokens of a line; none is SYNTAX: an unclosed or overlong quote, or a `*`. -/
def tokens (t : List Nat) : Option (List (List Nat)) :=
  let s := t.foldl scanChar ⟨[], [], none, false⟩
  if s.bad ∨ s.quote.isSome then none else some (if s.cur.isEmpty then s.done else s.done ++ [s.cur])

/-- A token cut at its first `=`, if it has one. -/
def cutEq (t : List Nat) : Option (List Nat × List Nat) :=
  if t.contains 61 then some (t.takeWhile (· ≠ 61), (t.dropWhile (· ≠ 61)).tail) else none

/-- The positional tokens and the arguments, in order; none is SYNTAX: a positional token after an argument, or nothing beside an `=`. -/
def splitArgs (ts : List (List Nat)) : Option (List (List Nat) × List (List Nat × List Nat)) :=
  let pos := ts.takeWhile fun t => !t.contains 61
  let args := (ts.dropWhile fun t => !t.contains 61).map cutEq
  if args.all fun a => match a with | some (k, v) => !k.isEmpty && !v.isEmpty | none => false
  then some (pos, args.filterMap id) else none

/-! ### Numbers and units [11 R210, Table SL-1] -/

/-- The dimension of a numeric argument: none, a time in ns or in ms, a current in DAC codes, a voltage in mV, a position with its scale in
thousandths of a count per mm (0 none), thousandths of a plain number. -/
inductive Dim where
  | plain | ns | ms | code | mv | pos (scale : Nat) | milli
  deriving DecidableEq, Repr

/-- What one of a unit is in the base unit of a dimension, as a numerator and a denominator: none is a wrong unit, or mm with no scale. -/
def unitOf (m : Dim) (u : List Nat) : Option (Nat × Nat) :=
  match m with
  | .plain => if u = [] then some (1, 1) else none
  | .milli => if u = [] then some (1000, 1) else none
  | .ns => if u = [] ∨ isWord "ns" u then some (1, 1) else if isWord "us" u then some (1000, 1) else if isWord "ms" u then some (1000000, 1) else none
  | .ms => if u = [] ∨ isWord "ms" u then some (1, 1) else if isWord "us" u then some (1, 1000) else if isWord "ns" u then some (1, 1000000) else none
  | .code => if u = [] then some (1, 1) else if isWord "ma" u then some (20, 1) else none
  | .mv => if u = [] ∨ isWord "mv" u then some (1, 1) else if isWord "v" u then some (1000, 1) else none
  | .pos sc => if u = [] ∨ isWord "counts" u then some (1, 1) else if isWord "mm" u ∧ sc ≠ 0 then some (sc, 1000) else none

/-- The text is one of the units of Table SL-1, or empty. -/
def isUnit (u : List Nat) : Bool :=
  u.isEmpty || ["ns", "us", "ms", "ma", "mv", "v", "counts", "mm"].any fun x => isWord x u

/-- The number that decimal digits spell. -/
def digits (t : List Nat) : Nat := t.foldl (fun n c => 10 * n + (c - 48)) 0

/-- The number that hex digits spell. -/
def hexDigitsVal (t : List Nat) : Nat := t.foldl (fun n c => 16 * n + (hexVal c).getD 0) 0

/-- Hex digits with their separators, `n` characters at most, and the unit after them: the longest run of digits that leaves a unit, whose first letter
may be a hex digit (`0x10counts`). -/
def hexCut (n : Nat) (run rest : List Nat) : Option (List Nat × List Nat) :=
  match n with
  | 0 => none
  | n + 1 =>
    let hs := run.take (n + 1)
    let u := run.drop (n + 1) ++ rest
    if hs.head? ≠ some 95 ∧ hs.getLast? ≠ some 95 ∧ isUnit u then some (hs.filter (· ≠ 95), u) else hexCut n run rest

/-- A number as written: its sign, its digits as a numerator over a power of ten, and its unit; none where it is malformed. -/
def readNumber (t : List Nat) : Option (Bool × Nat × Nat × List Nat) :=
  match t with
  | 48 :: x :: r =>
    if x = 120 then
      let run := r.takeWhile fun c => (hexVal c).isSome || decide (c = 95)
      (hexCut run.length run (r.drop run.length)).map fun h => (false, hexDigitsVal h.1, 1, h.2)
    else readDecimal false (48 :: x :: r)
  | 45 :: r => readDecimal true r
  | _ => readDecimal false t
where
  /-- A decimal number after its sign. -/
  readDecimal (neg : Bool) (t : List Nat) : Option (Bool × Nat × Nat × List Nat) :=
    let a := t.takeWhile isDigit
    let r := t.dropWhile isDigit
    let b := if r.head? = some 46 then r.tail.takeWhile isDigit else []
    let u := if r.head? = some 46 then r.tail.dropWhile isDigit else r
    if a.isEmpty ∨ (r.head? = some 46 ∧ b.isEmpty) ∨ isUnit u = false then none
    else some (neg, digits (a ++ b), 10 ^ b.length, u)

/-- A quotient rounded to the nearest, halves away from zero. -/
def roundAway (a b : Nat) : Nat := (2 * a + b) / (2 * b)

/-- The value of a numeric argument in its base unit, or the error NUMBER or UNIT. -/
def numberIn (m : Dim) (t : List Nat) : Except Nat Int :=
  match readNumber t with
  | none => .error 7
  | some (neg, a, b, u) =>
    if (2 ^ 64 - 1) * b < a then .error 7
    else match unitOf m u with
      | none => .error 9
      | some (p, q) =>
        let v := roundAway (a * p) (b * q)
        .ok (if neg then -(v : Int) else (v : Int))

/-! ### Forms [12 R229] -/

/-- What a key takes: a number with its dimension and range, a word of a list, a number or a word, base64 text of a decoded length, a text taken as
it is. -/
inductive Kind where
  | num (m : Dim) (lo hi : Int)
  | word (ws : List String)
  | numOr (m : Dim) (lo hi : Int) (w : String)
  | b64 (n : Nat)
  | text
  deriving DecidableEq, Repr

/-- The value of an argument: a number, the place of a word in its list, or bytes. -/
inductive Val where
  | int (v : Int)
  | word (i : Nat)
  | bytes (bs : List Nat)
  deriving DecidableEq, Repr

/-- A key of a form; `need` says that it must be given. -/
structure Key where
  name : String
  kind : Kind
  need : Bool
  deriving DecidableEq, Repr

/-- The form of a verb with its object: the ranges of its positional numbers, and its keys. -/
structure Form where
  pos : List (Int × Int)
  keys : List Key
  deriving DecidableEq, Repr

/-- The number error of an argument's text, 0 for none. -/
def numErr (k : Kind) (t : List Nat) : Nat :=
  match k with
  | .num m _ _ => match numberIn m t with | .error e => e | .ok _ => 0
  | .numOr m _ _ w => if isWord w t then 0 else match numberIn m t with | .error e => e | .ok _ => 0
  | _ => 0

/-- The first error that is not 0. -/
def firstErr (l : List Nat) : Nat := (l.find? (· ≠ 0)).getD 0

/-- Check 7 of a form's numbers, in the order of the line [11 Table SL-4]. -/
def formNumbers (f : Form) (pos : List (List Nat)) (args : List (List Nat × List Nat)) : Nat :=
  firstErr ((pos.zip f.pos).map (fun (x : List Nat × Int × Int) => numErr (.num .plain 0 0) x.1) ++
    args.map fun (a : List Nat × List Nat) =>
      match f.keys.find? fun k => isWord k.name a.1 with | some k => numErr k.kind a.2 | none => 0)

/-- Thousandths: the number itself, before it is rounded to them, is 0 or from 0.001 to 1 000 000 [12 R247]. -/
def milliOk (m : Dim) (t : List Nat) : Bool :=
  match m, readNumber t with
  | .milli, some (_, a, b, _) => decide (a = 0) || (decide (b ≤ 1000 * a) && decide (a ≤ 1000000 * b))
  | _, _ => true

/-- The value of an argument's text, or RANGE or ARGUMENT. -/
def readVal (k : Kind) (t : List Nat) : Except Nat Val :=
  match k with
  | .num m lo hi =>
    match numberIn m t with
    | .error e => .error e
    | .ok v => if lo ≤ v ∧ v ≤ hi ∧ milliOk m t then .ok (.int v) else .error 8
  | .numOr m lo hi w =>
    if isWord w t then .ok (.word 0)
    else match numberIn m t with
      | .error e => .error e
      | .ok v => if lo ≤ v ∧ v ≤ hi then .ok (.int v) else .error 8
  | .word ws => match ws.findIdx? fun w => isWord w t with | some i => .ok (.word i) | none => .error 8
  | .b64 n => match b64Decode t with | some bs => if bs.length = n then .ok (.bytes bs) else .error 10 | none => .error 10
  | .text => .ok (.bytes t)

/-- The error of a value, 0 for none. -/
def valErr (x : Except Nat Val) : Nat := match x with | .error e => e | .ok _ => 0

/-- Two arguments have one key. -/
def repeated (args : List (List Nat × List Nat)) : Bool :=
  match args with
  | [] => false
  | a :: r => r.any (fun b => decide (upper b.1 = upper a.1)) || repeated r

/-- Check 10 of a form: ARGUMENT for a wrong count of positional tokens, a key unknown, repeated or missing, then what its values give [11 Table
SL-4; 12 R229]. -/
def formArgs (f : Form) (pos : List (List Nat)) (args : List (List Nat × List Nat)) : Nat :=
  if pos.length ≠ f.pos.length ∨ repeated args ∨ args.any (fun a => !f.keys.any fun k => isWord k.name a.1)
      ∨ f.keys.any (fun k => k.need && !args.any fun a => isWord k.name a.1) then 10
  else
    let ps := (pos.zip f.pos).map fun (x : List Nat × Int × Int) => valErr (readVal (.num .plain x.2.1 x.2.2) x.1)
    let as := args.map fun (a : List Nat × List Nat) =>
      match f.keys.find? fun k => isWord k.name a.1 with | some k => valErr (readVal k.kind a.2) | none => 0
    firstErr ((ps ++ as).filter (· = 10) ++ ps ++ as)

/-- The checked values of a line. -/
structure Args where
  pos : List Int
  keys : List (String × Val)
  deriving DecidableEq, Repr

/-- The values of a line that has passed its checks. -/
def formVals (f : Form) (pos : List (List Nat)) (args : List (List Nat × List Nat)) : Args :=
  { pos := pos.map fun t => match numberIn .plain t with | .ok v => v | .error _ => 0
    keys := args.filterMap fun (a : List Nat × List Nat) =>
      (f.keys.find? fun k => isWord k.name a.1).bind fun k =>
        match readVal k.kind a.2 with | .ok v => some (k.name, v) | .error _ => none }

/-- The value of key `k`, if given. -/
def Args.get? (a : Args) (k : String) : Option Val := (a.keys.find? fun x => x.1 = k).map Prod.snd

/-- Key `k` is given. -/
def Args.has (a : Args) (k : String) : Bool := (a.get? k).isSome

/-- The number of key `k`; 0 where it is not given. -/
def Args.num (a : Args) (k : String) : Nat := match a.get? k with | some (.int v) => v.toNat | some (.word i) => i | _ => 0

/-- The bytes of key `k`. -/
def Args.bytes (a : Args) (k : String) : List Nat := match a.get? k with | some (.bytes b) => b | _ => []

/-- Key `k` is given with its word in place of a number. -/
def Args.isW (a : Args) (k : String) : Bool := match a.get? k with | some (.word _) => true | _ => false

/-- Positional number `i`. -/
def Args.p (a : Args) (i : Nat) : Nat := (a.pos.getD i 0).toNat

/-! ### Verb names [11 R211, R222] -/

/-- The built-in verbs. -/
def verbNames : List String :=
  ["HELLO", "IDENT", "STATUS", "MODE", "LOAD", "START", "OTP", "POWER", "RESET", "SET", "GET", "FURROW", "PAGE", "CHAN", "BANK", "HEAD",
   "RING", "ENC", "LEDGER", "KEY", "TRACE"]

/-- A verb: built in, by its place in the list, or registered, by its index. -/
inductive VerbRef where
  | builtin (i : Nat)
  | registered (i : Nat)
  deriving DecidableEq, Repr

/-- The verbs a name can stand for, with their names. -/
def allVerbs (d : Dev) : List (VerbRef × List Nat) :=
  (List.range 21).map (fun i => (.builtin i, ascii (verbNames.getD i ""))) ++
    (List.range d.st.names.length).map fun i => (.registered i, upper (d.st.names.getD i []))

/-- The verb that a token names, or UNKNOWN or AMBIGUOUS [11 R211]. -/
def resolve (d : Dev) (t : List Nat) : Except Nat VerbRef :=
  let t := upper t
  match (allVerbs d).find? fun x => decide (x.2 = t) with
  | some x => .ok x.1
  | none =>
    if (t.filter isLetter).length < 3 then .error 2
    else match (allVerbs d).filter fun x => decide (x.2.take t.length = t) with
      | [] => .error 2
      | [x] => .ok x.1
      | _ => .error 3

end Sys2Proof.Machine
end

