-- ==== Sys2Proof/Machine/Ledger.lean ====
section
/-! DEFINITION. The configuration ledger: its runs on MSS0, slots and records, selection, loading in two passes, and the commit of a save [22]. -/

namespace Sys2Proof.Machine

/-- The ledger changed by `g`. -/
def Dev.onLg (d : Dev) (g : Ledger → Ledger) : Dev := { d with lg := g d.lg }

/-! ### Slots [22 R422, R424-R426] -/

/-- The first byte of slot `s` (0 A, 1 B) on MSS0. -/
def slotBase (d : Dev) (s : Nat) : Nat :=
  let w := shadowOf d 320
  65536 * ((if bitAt w 31 then bitsAt w 0 12 else 0) + s)

/-- `n` bytes at offset `o` of a slot as a number; what was not read counts as erased. -/
def slotLe (t : List Nat) (o n : Nat) : Nat := le ((List.range n).map fun i => t.getD (o + i) 0xFF)

/-- SEQ. -/
def slotSeq (t : List Nat) : Nat := slotLe t 8 4

/-- LEN. -/
def slotLen (t : List Nat) : Nat := slotLe t 12 4

/-- The body of a slot. -/
def slotBody (t : List Nat) : List Nat := (t.drop 32).take (slotLen t)

/-- A record: TYPE, INDEX and payload. -/
structure Rec where
  typ : Nat
  idx : Nat
  load : List Nat
  deriving DecidableEq, Repr

/-- The records of a body, which they fill exactly; `n` bounds them. -/
def records (n : Nat) (b : List Nat) : Option (List Rec) :=
  match n with
  | 0 => if b.isEmpty then some [] else none
  | n + 1 =>
    if b.isEmpty then some []
    else
      let p := le ((b.drop 2).take 2)
      let whole := 4 + (p + 3) / 4 * 4
      if b.length < 4 ∨ b.length < whole then none
      else (records n (b.drop whole)).map fun r => ⟨b.getD 0 0, b.getD 1 0, (b.drop 4).take p⟩ :: r

/-- A record of known TYPE has its INDEX and PLEN in range [22 Table LG-2]. -/
def recOk (r : Rec) : Bool :=
  let n := r.load.length
  match r.typ with
  | 1 => decide (r.idx = 0 ∧ n = 64)
  | 2 => decide (r.idx = 0 ∧ n = 80)
  | 3 => decide (r.idx < 2 ∧ n = 12)
  | 4 => decide (r.idx < 6 ∧ n = 28)
  | 5 => decide (r.idx < 48 ∧ n = 20)
  | 6 => decide (r.idx < 6 ∧ n = 20)
  | 7 => decide (n = 36)
  | 8 => decide (n % 8 = 0)
  | 9 => decide (r.idx = 0 ∧ n ≤ 15356)
  | _ => true

/-- The records of a slot's body. -/
def slotRecords (t : List Nat) : Option (List Rec) := records (slotLen t / 4) (slotBody t)

/-- What the checks of R426 find. -/
inductive SlotCheck where
  | valid | empty | crc | step
  deriving DecidableEq, Repr

/-- The checks of a slot's header: checks 1 to 3 of R426, and whether it is empty. -/
def headCheck (t : List Nat) : SlotCheck :=
  let h := (List.range 32).map fun i => t.getD i 0xFF
  if h.all fun b => decide (b = 0xFF) then .empty
  else if h.take 4 ≠ [0x46, 0x4C, 0x44, 0x47] then .crc
  else if h.getD 4 0 ≠ 0x43 then .step
  else if crc32 (h.take 28) ≠ slotLe t 28 4 ∨ h.getD 5 0 ≠ 1 ∨ slotLe t 6 2 ≠ 0 ∨ slotLe t 20 8 ≠ 0
      ∨ slotLen t % 4 ≠ 0 ∨ 65504 < slotLen t then .crc
  else .valid

/-- The checks of a slot, in order [22 R426]. -/
def slotCheck (t : List Nat) : SlotCheck :=
  if headCheck t ≠ .valid then headCheck t
  else if crc32 (slotBody t) ≠ slotLe t 16 4 then .crc
  else match slotRecords t with
    | some rs => if rs.all recOk then .valid else .crc
    | none => .crc

/-! ### Runs on MSS0 [22 R423] (log entry 90) -/

/-- The control word of a run on MSS0: opcode `op`, its address where `adr`, its data bytes read (`dir` 1) or written (2), write-wait after it [13 Table
SP-1]. -/
def ownCtrl (d : Dev) (op : Nat) (adr : Bool) (dir : Nat) (wip : Bool) : Nat :=
  bit wip * 2 ^ 28 + 2 ^ 27 + dir * 2 ^ 22 + (if adr then (if d.b (F.SP_SEL_ADDR4 0) then 2 else 1) * 2 ^ 8 else 0) + op

/-- The reads of `n` bytes from address `a` on, at most 256 bytes a run. -/
def readRuns (d : Dev) (a n : Nat) : List CqEntry :=
  (List.range ((n + 255) / 256)).map fun i => ⟨ownCtrl d 0x03 true 1 false, a + 256 * i, 0, some (min 256 (n - 256 * i))⟩

/-- The reads of slot `s`, which holds `t`: its header, and its body where the header passes its checks. -/
def slotReads (d : Dev) (s : Nat) (t : List Nat) : List CqEntry :=
  readRuns d (slotBase d s) 32 ++ (if headCheck t = .valid then readRuns d (slotBase d s + 32) (slotLen t) else [])

/-- Both slots are read: `a` and `b` are what they hold. -/
def readSlots (auto : Bool) (a b : List Nat) (d : Dev) : Dev :=
  ownRuns (slotReads d 0 a ++ slotReads d 1 b) (d.onLg fun l => { l with read := some ⟨auto, a, b⟩ })

/-! ### Selection [22 R427, R428] -/

/-- The slot chosen. -/
def chooseSlot (a b : List Nat) : Option Nat :=
  let va := decide (slotCheck a = .valid)
  let vb := decide (slotCheck b = .valid)
  if va && vb then
    let x := (slotSeq b + 2 ^ 32 - slotSeq a) % 2 ^ 32
    some (if 1 ≤ x ∧ x ≤ 2 ^ 31 - 1 then 1 else 0)
  else if va then some 0 else if vb then some 1 else none

/-- The name of a slot. -/
def slotName (s : Option Nat) : List Nat := match s with | some 0 => ascii "a" | some _ => ascii "b" | none => ascii "none"

/-- An `!LEDGER` line. -/
def ledgerEvent (s : Option Nat) (cause : String) (seq : Nat) (d : Dev) : Dev :=
  monitorEvent 11 [kv "slot" (slotName s), kv "cause" (ascii cause), kn "seq" seq] d

/-- The line of a slot that is neither empty nor valid. -/
def slotEvent (s : Nat) (t : List Nat) (d : Dev) : Dev :=
  match slotCheck t with
  | .crc => ledgerEvent (some s) "crc" (slotSeq t) d
  | .step => ledgerEvent (some s) "step" (slotSeq t) d
  | _ => d

/-- SLOT_SELECTION: `a` and `b` are what the slots hold: the standing slot is chosen, and the lines of R428 follow. -/
def selectSlots (a b : List Nat) (d : Dev) : Dev :=
  let s := chooseSlot a b
  let t := match s with | some 0 => a | _ => b
  let d := d.onLg fun l =>
    { l with standing := s, seq := if s.isSome then slotSeq t else 0, sel := s, selSeq := if s.isSome then slotSeq t else 0,
             selLen := if s.isSome then slotLen t else 0, validA := decide (slotCheck a = .valid), validB := decide (slotCheck b = .valid) }
  let d := slotEvent 1 b (slotEvent 0 a d)
  if s.isNone then ledgerEvent none "default" 0 d else d

/-- The selection with SP_ID0.PRESENT at 0: none [22 R430]. -/
def selectNone (d : Dev) : Dev :=
  ledgerEvent none "default" 0 (d.onLg fun l =>
    { l with standing := none, seq := 0, sel := none, selSeq := 0, selLen := 0, validA := false, validB := false })

/-! ### Loading [22 R429-R432] -/

/-- Payload word `i` of a record. -/
def Rec.w (r : Rec) (i : Nat) : Nat := le ((r.load.drop (4 * i)).take 4)

/-- The registers of a GLOBAL record; CK_LADDER and GR_CTL are among them with one field each. -/
def globalRegs : List Nat :=
  [0x4000C004, 0xE0000020, 0x40005018, 0x40006018, 0x40007000, 0x4000000C, 0x40000014, 0x40019800, 0x4000E000, 0x4000E008, 0x4000E00C,
   0x4000E010, 0x400180C0, 0x400180D4, 0x400180D0, 0x40018100, 0x40018104, 0x40018108, 0x4001810C, 0x4000B100]

/-- A GLOBAL word goes to its register. -/
def globalWrite (a v : Nat) (d : Dev) : Dev :=
  if a = 0x4000000C then d.w F.CK_LADDER_AUTOHOLD (bitsAt v 8 1)
  else if a = 0x4000E000 then d.w F.GR_CTL_PREF (bitsAt v 2 1)
  else busWrite a v d

/-- The words of a record go to the registers `as`, in order. -/
def writeAll (as : List Nat) (r : Rec) (i : Nat) (d : Dev) : Dev :=
  match as with
  | [] => d
  | a :: t => writeAll t r (i + 1) (busWrite a (r.w i) d)

/-- The registers of a BANK record. -/
def bankRegs (b : Nat) : List Nat :=
  [0x4000F000 + 32 * b, 0x4000F004 + 32 * b, 0x4000F008 + 32 * b, 0x40018000 + 32 * b, 0x40018004 + 32 * b, 0x40018008 + 32 * b]

/-- The registers of a CHAN record. -/
def chanRegs (c : Nat) : List Nat := [0x40020000 + 16 * c, 0x40018400 + 16 * c, 0x40018404 + 16 * c, 0x40018408 + 16 * c]

/-- The registers of a HEAD record after HPn_CTL. -/
def headRegs (p : Nat) : List Nat := [0x40019020, 0x40019024, 0x40019028, 0x40019030].map (· + 64 * p)

/-- The registers of a FURROW record. -/
def furrowRegs (f : Nat) : List Nat := (List.range 6).map (fun i => 0x40010000 + 64 * f + 4 * i) ++ [0x4000E400 + 4 * f, 0x40018800 + 4 * f]

/-- The pages of furrow `f` that are mapped, in order. -/
def mappedPages (d : Dev) (f : Nat) : List Nat := (List.range 256).filter fun g => (d.pte f g).v

/-- The entries of a PAGE record: page and GR_PTE value. -/
def pageEntries (r : Rec) : List (Nat × Nat) := (List.range (r.load.length / 8)).map fun i => (r.w (2 * i) % 256, r.w (2 * i + 1))

/-- The settings of one record [22 R431]. -/
def applyRecord (d : Dev) (r : Rec) : Dev :=
  match r.typ with
  | 2 => (globalRegs.zipIdx).foldl (fun d (x : Nat × Nat) => globalWrite x.1 (r.w x.2) d) d
  | 3 =>
    let d := busWrite (0x4000B004 + 64 * r.idx) (r.w 1) (busWrite (0x4000B000 + 64 * r.idx) (r.w 0) d)
    d.onSt fun s => if r.idx = 0 then { s with scale0 := r.w 2 } else { s with scale1 := r.w 2 }
  | 4 => writeAll (bankRegs r.idx) r 0 d
  | 5 => writeAll (chanRegs r.idx) r 0 d
  | 6 => writeAll (headRegs r.idx) r 1 (busWrite (0x40019000 + 64 * r.idx) (r.w 0 % 8) d)
  | 7 => writeAll (furrowRegs r.idx) r 0 (forAll (mappedPages d r.idx) (fun g d => ptePut false r.idx g false 0 0 d) d)
  | 8 => (pageEntries r).foldl (fun d (x : Nat × Nat) => ptePut false r.idx x.1 (bitAt x.2 31) (bitsAt x.2 24 2) (bitsAt x.2 0 18) d) d
  | 9 => (d.store 4 0x28000400 r.load.length).storeBytes 0x28000404 r.load
  | _ => d

/-- The actions of the second pass, one kind of record after the other [22 R431]. -/
def applyActions (rs : List Rec) (d : Dev) : Dev :=
  let d := rs.foldl (fun d r => if r.typ = 4 then (if bitAt (r.w 6) 0 then bankOnCmd r.idx d else bankOffCmd r.idx d) else d) d
  let d := rs.foldl (fun d r => if r.typ = 5 ∧ bitAt (r.w 4) 0 then chanOffCmd r.idx d else d) d
  let d := rs.foldl (fun d r => if r.typ = 8 then
    (pageEntries r).foldl (fun d (x : Nat × Nat) => if bitAt x.2 30 then grCmd 1 r.idx x.1 d else d) d else d) d
  rs.foldl (fun d r => if r.typ = 7 ∧ bitAt (r.w 8) 0 then fcmdWrite 1 r.idx d else d) d

/-- The furrow that a FURROW or PAGE record names is not FALLOW. -/
def recBusy (d : Dev) (r : Rec) : Bool := (decide (r.typ = 7) || decide (r.typ = 8)) && decide ((d.fu r.idx).state ≠ .fallow)

/-- The records are applied in two passes. -/
def applyRecords (rs : List Rec) (d : Dev) : Dev := applyActions rs (rs.foldl applyRecord d)

/-- The records of the slot chosen from `a` and `b`. -/
def chosenRecords (a b : List Nat) : List Rec :=
  match chooseSlot a b with
  | none => []
  | some s => (slotRecords (if s = 0 then a else b)).getD []

/-- The automatic load of the first LINE call after START: it reads the slots, and when they have been read it selects and applies; the records of a
furrow that is not FALLOW are skipped [22 R429, R430, R432]. -/
def ledgerAutoload (a b : List Nat) (d : Dev) : Dev :=
  match d.lg.read with
  | none => if selPresent d 0 then readSlots true a b d else selectNone (d.onLg fun l => { l with loaded := true })
  | some r =>
    if ownPending d then d
    else
      let d := d.onLg fun l => { l with loaded := true, read := none }
      applyRecords ((chosenRecords r.a r.b).filter fun r => !recBusy d r) (selectSlots r.a r.b d)

/-- The data line of LEDGER SHOW [12 R248; 22 R429]. -/
def ledgerLine (d : Dev) : List Nat :=
  let v := match d.lg.validA, d.lg.validB with
    | true, true => "a,b" | true, false => "a" | false, true => "b" | false, false => "none"
  dataLine [ascii "ledger", kv "slot" (slotName d.lg.sel), kn "seq" d.lg.selSeq, kn "len" d.lg.selLen, kv "valid" (ascii v)]

/-- LEDGER LOAD's checks: 0, or the error [22 R430; 12 R248]. -/
def loadRefuse (d : Dev) : Nat := if d.lg.commit.isSome then 20 else if selPresent d 0 = false then 88 else 0

/-- LEDGER LOAD begins to read the slots; the verb is in progress for `c`. -/
def loadStart (c : Ctx) (a b : List Nat) (d : Dev) : Dev := readSlots false a b (waitVerb c .load d)

/-- The slots have been read for LEDGER LOAD: its data lines, its error, the device after it [22 R431, R432; 12 R248]. -/
def ledgerLoaded (r : LedgerRead) (d : Dev) : List (List Nat) × Nat × Dev :=
  let d := d.onLg fun l => { l with read := none }
  if (chosenRecords r.a r.b).any (recBusy d) then ([], 80, d)
  else
    let d := applyRecords (chosenRecords r.a r.b) (selectSlots r.a r.b d)
    ([ledgerLine d], 0, d)

/-! ### Saving [22 R434, R435] -/

/-- A record as bytes: its head, its payload, padded with 0x00. -/
def recBytes (typ idx : Nat) (load : List Nat) : List Nat :=
  [typ, idx] ++ leBytes 2 load.length ++ load ++ List.replicate ((4 - load.length % 4) % 4) 0

/-- The register words as payload. -/
def regWords (d : Dev) (as : List Nat) : List Nat := as.flatMap fun a => leBytes 4 (plainRead d a)

/-- The payload of the GLOBAL record. -/
def globalWords (d : Dev) : List Nat :=
  globalRegs.flatMap fun a => leBytes 4
    (if a = 0x4000000C then d.r F.CK_LADDER_AUTOHOLD * 256 else if a = 0x4000E000 then d.r F.GR_CTL_PREF * 4 else plainRead d a)

/-- Furrow `f` has a record: its configuration differs from reset, or a page of it is mapped. -/
def furrowKept (d : Dev) (f : Nat) : Bool :=
  d.regs.any (fun e => decide (32 * (0x40010000 + 64 * f) ≤ e.1 ∧ e.1 < 32 * (0x40010018 + 64 * f)))
    || d.gr.pte.any fun e => decide (e.1 / 256 = f) && e.2.v

/-- The FURROW record's FLAGS: READY, SOWN or HELD with OFFP at 0. -/
def furrowFlag (d : Dev) (f : Nat) : Nat :=
  bit (decide ((d.fu f).state = .ready ∨ (d.fu f).state = .sown ∨ (d.fu f).state = .held) && !(d.fu f).offp)

/-- The identity public key, X then Y, each big-endian [12 R235]. -/
def idkPublic (d : Dev) : List Nat := ecPub (idkScalar d)

/-- The body of a save. -/
def saveBody (d : Dev) : List Nat :=
  let fs := (List.range 256).filter (furrowKept d)
  let img := d.load 4 0x28000400
  recBytes 1 0 (idkPublic d) ++ recBytes 2 0 (globalWords d)
  ++ (List.range 2).flatMap (fun e => recBytes 3 e
      (regWords d [0x4000B000 + 64 * e, 0x4000B004 + 64 * e] ++ leBytes 4 (if e = 0 then d.st.scale0 else d.st.scale1)))
  ++ (List.range 6).flatMap (fun b => recBytes 4 b (regWords d (bankRegs b) ++ leBytes 4 (bit (decide (d.r (F.LD_BSTAT_STATE b) ≠ 1)))))
  ++ (List.range 48).flatMap (fun c => recBytes 5 c (regWords d (chanRegs c) ++ leBytes 4 (bit !chanIn d c)))
  ++ (List.range 6).flatMap (fun p => recBytes 6 p (leBytes 4 (plainRead d (0x40019000 + 64 * p) % 8) ++ regWords d (headRegs p)))
  ++ fs.flatMap (fun f => recBytes 7 f (regWords d (furrowRegs f) ++ leBytes 4 (furrowFlag d f)))
  ++ fs.flatMap (fun f => recBytes 8 f ((mappedPages d f).flatMap fun g => leBytes 4 g ++ leBytes 4 (pteValue d f g)))
  ++ (if 1 ≤ img ∧ img ≤ 15356 then recBytes 9 0 ((List.range img).map fun i => (d.byte (0x28000404 + i)).toNat) else [])

/-- The header of a slot. -/
def slotHeader (seq : Nat) (body : List Nat) : List Nat :=
  let h := [0x46, 0x4C, 0x44, 0x47, 0x43, 1, 0, 0] ++ leBytes 4 seq ++ leBytes 4 body.length ++ leBytes 4 (crc32 body) ++ List.replicate 8 0
  h ++ leBytes 4 (crc32 h)

/-- The erases and programs of a commit, the header last: opcode, address, number of data bytes [22 R435]. -/
def commitOps (base len : Nat) : List (Nat × Nat × Nat) :=
  let pages := (List.range ((32 + len + 255) / 256)).map fun i =>
    if i = 0 then (0x02, base + 32, min 224 len) else (0x02, base + 256 * i, min 256 (32 + len - 256 * i))
  (List.range ((32 + len + 4095) / 4096)).map (fun i => (0x20, base + 4096 * i, 0)) ++ (if len = 0 then [] else pages) ++ [(0x02, base, 32)]

/-- LEDGER SAVE's checks: 0, or the error [22 R434]. -/
def saveRefuse (d : Dev) : Nat :=
  if d.lg.commit.isSome then 20 else if selPresent d 0 = false then 88 else if 65504 < (saveBody d).length then 89 else 0

/-- LEDGER SAVE begins its commit; the verb is in progress for `c`. -/
def saveStart (c : Ctx) (d : Dev) : Dev :=
  let body := saveBody d
  let t := match d.lg.standing with | some 0 => 1 | _ => 0
  let seq := if d.lg.standing.isSome then (d.lg.seq + 1) % 2 ^ 32 else 1
  waitVerb c .save (d.onLg fun l => { l with commit := some ⟨t, seq, body, commitOps (slotBase d t) body.length, false, false⟩ })

/-- The bytes of the slot that a commit writes. -/
def Commit.bytes (c : Commit) : List Nat := slotHeader c.seq c.body ++ c.body

/-- The runs of one operation of a commit: 06h, then the erase or the program, which ends with WIP [22 R423]. -/
def opRuns (d : Dev) (c : Commit) (x : Nat × Nat × Nat) : List CqEntry :=
  [⟨ownCtrl d 0x06 false 0 false, 0, 0, some 0⟩,
   ⟨ownCtrl d x.1 true (if x.2.2 = 0 then 0 else 2) true, x.2.1, le ((c.bytes.drop (x.2.1 % 65536)).take x.2.2), some x.2.2⟩]

/-- The commit ends in failure. -/
def commitFail (c : Commit) (d : Dev) : Dev :=
  ledgerEvent (some c.slot) "write" c.seq (finishVerb [] 89 (d.onLg fun l => { l with commit := none }))

/-- The commit's slot stands. -/
def commitDone (c : Commit) (d : Dev) : Dev :=
  finishVerb [] 0 (d.onLg fun l => { l with commit := none, standing := some c.slot, seq := c.seq })

/-- LEDGER_COMMIT_STEP: once the runs of the step before have ended and MSS0 has left write-wait, the next erase, program or read-back is asked of
the port; the bytes read back are `back`. `good` is false where a transfer has failed; a write-wait that ran out fails the commit too [22 R435]. -/
def ledgerCommitStep (good : Bool) (back : List Nat) (d : Dev) : Dev :=
  match d.lg.commit with
  | none => d
  | some c =>
    if d.awake = false then d
    else if c.wto then commitFail c d
    else if inWait d 0 ∨ ownPending d then d
    else if good = false then commitFail c d
    else match c.ops with
      | x :: r => ownRuns (opRuns d c x) (d.onLg fun l => { l with commit := some { c with ops := r } })
      | [] =>
        if c.back = false then
          ownRuns (readRuns d (slotBase d c.slot) c.bytes.length) (d.onLg fun l => { l with commit := some { c with back := true } })
        else if back.take c.bytes.length = c.bytes ∧ slotCheck back = .valid then commitDone c d
        else commitFail c d

end Sys2Proof.Machine
end

