-- ==== Sys2Proof/Machine/Done.lean ====
section
/-! DEFINITION. The ends of OTP and key commands, and what they answer to the verb that issued them [05 R96, R98; 06 R120; 12 R234, R238,
R239]. -/

namespace Sys2Proof.Machine

/-! ### OTP verbs [12 R234, R238, Table SV-2, Table SV-6] -/

/-- The counters of Table OT-5, by number. -/
def ctrNames : List String :=
  ["rbk", "tmpc", "kgen0", "kgen1", "kgen2", "kgen3", "kgen4", "kgen5", "kgen6", "kgen7", "lcyc", "rev0", "rev1", "rev2"]

/-- The name of counter `c`. -/
def ctrName (c : Nat) : List Nat := ascii (ctrNames.getD c "")

/-- The code of Table SV-2 for OT_STAT.ERR; 0 is OK. -/
def otCode (e : Nat) : Nat := [0, 40, 43, 41, 42, 44, 45, 46].getD e 46

/-- The OTP objects, by the number that the verb in progress keeps. -/
def Obj.margin : Nat := 1
def Obj.check : Nat := 2
def Obj.burn : Nat := 3
def Obj.reburn : Nat := 4
def Obj.revoke : Nat := 5
def Obj.lock : Nat := 6
def Obj.sense : Nat := 7

/-- A word number as a field: `lock` for the lock word. -/
def wordText (w : Nat) : List Nat := if w = otLockWord then ascii "lock" else dec w

/-- The data lines of an OTP verb that has ended in OK; `weak` says that its command found a weak bead. -/
def otpLines (obj arg : Nat) (weak : Bool) (d : Dev) : List (List Nat) :=
  let counts := [kv "ctr" (ctrName arg), kn "mh" (d.r F.OT_CNT_MH), kn "norm" (d.r F.OT_CNT_NORM)]
  match obj with
  | 2 => [dataLine (counts ++ [kn "weak" (bit weak)])]
  | 3 | 4 => [dataLine [kn "retries" (d.r F.OT_STAT_RETRIES)]]
  | 5 => [dataLine counts]
  | 6 => [dataLine [kv "lock" (hexN 4 (shadowOf d otLockWord))]]
  | _ => []

/-- The line before VERIFY and before a WINDOW that cut a pulse. -/
def otpFailLines (obj e : Nat) (cut : Bool) (d : Dev) : List (List Nat) :=
  if (obj = Obj.burn ∨ obj = Obj.reburn ∨ obj = Obj.revoke) ∧ (e = OtErr.verify ∨ (e = OtErr.window ∧ cut)) then
    [dataLine [kn "retries" (d.r F.OT_STAT_RETRIES), kv "fail" (hexN 8 (d.r F.OT_FAIL_BITS))]]
  else []

/-- The line of OTP MARGIN: the word at the three references, and its weak bits; 0 where reads return 0 [05 R92, R93]. -/
def marginLine (w : Nat) (d : Dev) : List Nat × Dev :=
  let (n, d) := normalRead d w
  let x (v : Nat) : List Nat := hexN 8 (if readsZero d (w / 64) then 0 else v)
  (dataLine [kv "word" (wordText w), kv "norm" (x n), kv "low" (x (margl d w)), kv "high" (x (margh d w)), kv "weak" (x (weakBits d w))], d)

/-- A weak bead that an OTP verb found is reported [12 Table SV-10]. -/
def weakEvent (obj arg : Nat) (weak : Bool) (d : Dev) : Dev :=
  if (obj = Obj.check ∨ obj = Obj.revoke) ∧ weak then
    monitorEvent 10 [kv "ctr" (ctrName arg), kv "cause" (ascii "weak"), kn "mh" (d.r F.OT_CNT_MH), kn "norm" (d.r F.OT_CNT_NORM)] d
  else d

/-- The verb in progress learns that its OTP job ended with ERR `e`; `weak` says that the job found a weak bit. -/
def otpVerbEnd (e : Nat) (cut weak : Bool) (d : Dev) : Dev :=
  match d.st.wait with
  | some (_, .start) => startGoesOn e d
  | some (_, .otp obj arg) =>
    if e ≠ 0 then weakEvent obj arg weak (finishVerb (otpFailLines obj e cut d) (otCode e) d)
    else if obj = Obj.margin then let (l, d) := marginLine arg d; finishVerb [l] 0 d
    else weakEvent obj arg weak (finishVerb (otpLines obj arg weak d) 0 d)
  | _ => d

/-! ### The end of an OTP command -/

/-- The job is at its end: no word burn is left. -/
def otEnded (j : OtJob) : Bool := j.cur.isNone && j.tasks.isEmpty

/-- The latch's burn has ended: `!OTP` reports the bead [05 R98; 12 Table SV-10]. -/
def latchDone (e : Nat) (d : Dev) : Dev :=
  let d := latchEnd d
  if e = 0 then
    monitorEvent 10 [kv "ctr" (ctrName 1), kv "cause" (ascii "burned"), kn "mh" (d.r F.OT_CNT_MH), kn "norm" (d.r F.OT_CNT_NORM)] d
  else d

/-- A violation that a verb caused is not due for an `!LOCKV` line [12 R251]. -/
def byVerb (act : Dev → Dev) (d : Dev) : Dev := (act d).onSt fun s => { s with rose := d.st.rose }

/-- The engine takes its next request; what a verb's request violates, the verb answers. -/
def otTakeNext (d : Dev) : Dev :=
  match d.ot.wait with
  | q :: _ => if q.owner = .verb then byVerb otNext d else otNext d
  | [] => otNext d

/-- OT_COMMAND_DONE: the command under way ends; who issued it learns the result, and the engine takes its next request [05 R96, R98]. -/
def otCommandDone (d : Dev) : Dev :=
  match d.ot.job with
  | none => d
  | some j =>
    if otEnded j = false then d
    else
      let d := otFinish j d
      let e := d.r F.OT_STAT_ERR
      otTakeNext (match j.req.owner with
        | .latch => latchDone e d
        | .ky => kyBurned e d
        | .verb => otpVerbEnd e j.cut j.weak d
        | _ => d)

/-! ### The end of a key command [06 R120; 12 R239] -/

/-- The code of Table SV-2 for KY_STAT.ERR; 0 is OK. -/
def kyCode (e : Nat) : Nat := [0, 50, 51, 52, 53, 42, 44, 54, 55, 45, 43].getD e 45

/-- The data lines of a KEY verb that has ended in OK [12 Table SV-7]. -/
def keyLines (obj arg : Nat) (d : Dev) : List (List Nat) :=
  let out := kyBuf d
  match obj with
  | 10 => [dataLine [kv "att0" (b64Encode (out.take 128))], dataLine [kv "att1" (b64Encode (out.drop 128))]]
  | 11 => [dataLine [kv "escrow" (b64Encode (out.take 124))]]
  | 12 => [dataLine [kn "slot" arg, kn "gen" (securityCount d (2 + arg))]]
  | _ => []

/-- KY_COMMAND_DONE: the command under way ends; a KEY verb takes its output and zeroes KY_BUF. -/
def kyCommandDone (d : Dev) : Dev :=
  match d.ky.job with
  | none => d
  | some j =>
    if j.burns then d
    else
      let d := kyFinish j d
      if j.rom then
        let e := d.r F.KY_STAT_ERR
        match d.st.wait with
        | some (_, .key obj arg) => zeroKyBuf (finishVerb (if e = 0 then keyLines obj arg d else []) (kyCode e) d)
        | _ => zeroKyBuf d
      else d

end Sys2Proof.Machine
end

