-- ==== Sys2Proof/Machine/Verb.lean ====
section
/-! DEFINITION. How a verb is described and handled: its form, whether it is allowed now, its execution [11 R219, R222; 12 R229, R230], and
the session verbs [04 R74-R88; 12 R235-R237]. -/

namespace Sys2Proof.Machine

/-! ### The description of a verb -/

/-- A line after its verb: positional tokens and arguments. -/
structure Toks where
  pos : List (List Nat)
  args : List (List Nat × List Nat)
  deriving DecidableEq, Repr

/-- A verb with its object: whether it is OTP READ, the form of what is left of the line, a check beyond the form, what it does. -/
structure Handler where
  form : Form
  toks : Toks
  check : Args → Nat := fun _ => 0
  act : Ctx → Args → Dev → Dev

/-- A handler of lines with no operands. -/
def plainHandler (t : Toks) (act : Ctx → Dev → Dev) : Handler := { form := ⟨[], []⟩, toks := t, act := fun c _ d => act c d }

/-- The first positional token is the object `s`; the rest of the line. -/
def objIs (s : String) (t : Toks) : Option Toks :=
  match t.pos with
  | x :: r => if isWord s x then some { t with pos := r } else none
  | [] => none

/-- The answer OK with its data lines. -/
def okWith (ls : List (List Nat)) (c : Ctx) (d : Dev) : Dev := respond c ls 0 d

/-- The answer OK. -/
def ok (c : Ctx) (d : Dev) : Dev := respond c [] 0 d

/-- The answer ER. -/
def er (e : Nat) (c : Ctx) (d : Dev) : Dev := respond c [] e d

/-- Names by number, for a field. -/
def nameOf (ns : List String) (i : Nat) : List Nat := ascii (ns.getD i "")

/-- A word of register fields: `w` with field `f` at `v`. -/
def putField (w : Nat) (f : Fld) (v : Nat) : Nat := w - bitsAt w f.lo f.width * 2 ^ f.lo + v % 2 ^ f.width * 2 ^ f.lo

/-- A field is written as software would write it: its register with the other fields as they read. -/
def editField (f : Fld) (v : Nat) (d : Dev) : Dev := busWrite f.addr (putField (plainRead d f.addr) f v) d

/-! ### HELLO, IDENT, STATUS, MODE [12 Tables SV-3, SV-4] -/

/-- The name of a life-cycle state. -/
def lifeName (s : Nat) : List Nat := nameOf ["blank", "perso", "field", "retired"] s

/-- HELLO. -/
def doHello (c : Ctx) (d : Dev) : Dev :=
  okWith [dataLine [ascii "fd4806", kv "step" (hexN 2 0x43), kv "mon" (hexN 4 Config.monVersion.toNat),
    kv "img" (if started d then hexN 8 (hdr d.bt.header 8 4) else ascii "none")]] c d

/-- IDENT. -/
def doIdent (c : Ctx) (d : Dev) : Dev :=
  let serial := if d.b F.SYS_BOOT_SNSERR then 0 else shadowOf d 1 * 2 ^ 32 + shadowOf d 0
  let idk := if d.b F.SYS_BOOT_SNSERR then List.replicate 88 65 else b64Encode (idkPublic d)
  okWith [dataLine [kv "serial" (hexN 16 serial), kv "step" (hexN 2 0x43), kv "lc" (lifeName (monitorLife d)), kv "idk" idk]] c d

/-- The counts of the counters `cs` as mh/norm. -/
def countPairs (cs : List Nat) (d : Dev) : List (List Nat) × Dev :=
  match cs with
  | [] => ([], d)
  | c :: r =>
    let (n, d) := displayCount (ctrWords c) d
    let (l, d) := countPairs r d
    ((dec (securityCount d c) ++ 47 :: dec n) :: l, d)

/-- The `= beads` line. -/
def beadsLine (d : Dev) : List Nat × Dev :=
  let (a, d) := countPairs [0, 1, 10] d
  let (g, d) := countPairs [2, 3, 4, 5, 6, 7, 8, 9] d
  (dataLine [ascii "beads", kv "rbk" (a.getD 0 []), kv "tmpc" (a.getD 1 []), kv "lc" (a.getD 2 []),
    kv "rev" (commas ((List.range 3).map fun i => dec (securityCount d (11 + i)))), kv "kgen" (commas g)], d)

/-- The names of the reset causes set. -/
def causeNames (d : Dev) : List (List Nat) :=
  ((List.range 5).filter fun i => d.b (causeFields.getD i F.SYS_RSTC_POR)).map (nameOf ["por", "bor", "pin", "soft", "lockup"])

/-- The lines of STATUS that follow START: the measured VCA is a free value (log entry 15). -/
def startedLines (d : Dev) : List (List Nat) × Dev :=
  let (n, d) := d.draw
  ([dataLine [ascii "core", kn "vca" (550 + 10 * (Config.vcaCode n).toNat), kn "target" (550 + 10 * d.r F.CORE_VSTAT_TARGET),
      kn "auto" (d.r F.CORE_VSET_AUTO)],
    dataLine [ascii "record", kv "lockv" (hexN 8 (plainRead d 0x40001010)), kv "locka" (hexN 8 (d.r F.SYS_LOCKA_ADDR)),
      kv "coin" (hexN 8 (plainRead d 0x40001018))]], d)

/-- STATUS. -/
def doStatus (c : Ctx) (d : Dev) : Dev :=
  let (beads, d) := beadsLine d
  let (extra, d) := if started d then startedLines d else ([], d)
  okWith ([
    dataLine [ascii "load", kv "state" (nameOf ["empty", "header", "body", "complete", "started", "quarantine"] (d.r F.SYS_BOOT_LSTATE)),
      kn "n" (d.r F.SYS_BLEN_N), kn "err" (d.r F.SYS_BOOTERR_CODE)],
    dataLine [ascii "reset", kv "cause" (commas (causeNames d)), kn "abfail" (d.r F.SYS_BOOT_ABFAIL)],
    beads,
    dataLine [ascii "tamper", kv "latch" (hexN 2 (tamperBits d)), kn "count" (securityCount d 1), kn "qpend" (d.r F.TP_STAT_QPEND)],
    dataLine [ascii "ladder", kv "last" (nameOf ["none", "hold", "nap", "fallow", "dormant"] (d.r F.CK_LSTAT_LAST)),
      kn "ref" (d.r F.CK_LSTAT_REF), kn "why" (d.r F.CK_LSTAT_WHY)]] ++ extra) c d

/-- MODE: its own answer uses the old mode [11 R222]. -/
def doMode (machine : Bool) (c : Ctx) (d : Dev) : Dev :=
  let d' := ok c d
  if c.path = 1 then d'.onSt fun s => { s with machU := machine } else if c.path = 2 then d'.onSt fun s => { s with machS := machine } else d'

/-! ### LOAD and START [04 R80-R85] -/

/-- LOAD off= d=. -/
def doLoad (c : Ctx) (off : Nat) (text : List Nat) (d : Dev) : Dev :=
  match b64Decode text with
  | some bs =>
    if text.length < 4 ∨ 192 < text.length ∨ bs = [] then er 70 c d
    else
      let (e, d) := loadChunk off bs d
      respond c [] e d
  | none => er 70 c d

/-- LOAD ABORT. -/
def doLoadAbort (c : Ctx) (d : Dev) : Dev := ok c (loadEmpty d)

/-- START, with ADVANCE or without. -/
def doStart (adv : Bool) (c : Ctx) (d : Dev) : Dev :=
  let e := startRefuse d adv
  if e ≠ 0 then er e c d else startRun c adv d

/-! ### POWER and RESET [12 R236; 04 R65] -/

/-- The verb's OK is sent, and the verb waits for it to leave; on the UART the bytes up to its end are counted [04 R65; 12 R236]. -/
def okLeaves (dormant : Bool) (c : Ctx) (d : Dev) : Dev :=
  waitVerb c (.leave dormant (d.ua.tx.length + (lineForm c (finalText 0) d).length + 2)) (ok c d)

/-- POWER: Nap and Fallow are requested at once and answered after the wake; Dormant is requested when the OK has left. -/
def doPower (t : Nat) (c : Ctx) (d : Dev) : Dev :=
  let why := ladderCheck t d
  if why ≠ 0 then respond c [dataLine [kn "why" why]] 22 d
  else if d.ck.ask.isSome then er 20 c d
  else if t = 4 then okLeaves true c d
  else ladderRequest t (waitVerb c (.power t) d)

/-- RESET: the soft reset follows the OK. -/
def doReset (c : Ctx) (d : Dev) : Dev := okLeaves false c d

/-- What was sent on a path has left it. -/
def hasLeft (path : Nat) (d : Dev) : Bool :=
  if path = 1 then d.ua.tx.isEmpty else if path = 2 then d.sp.tx.isEmpty else d.sr.lines.isEmpty

/-- DORMANT_REQUEST: the OK to POWER dormant has left, and entry is requested; a refusal sends no line [12 R236]. -/
def dormantRequest (d : Dev) : Dev :=
  match d.st.wait with
  | some (c, .leave true _) =>
    if hasLeft c.path d ∧ d.st.out = [] then flushEvents (ladderRequest 4 (d.onSt fun s => { s with wait := none })) else d
  | _ => d

/-- The OK to RESET has left UTX, or has been placed in the slave's outbound buffer; what stands behind it is lost [04 Collisions]. -/
def okGone (path left : Nat) (d : Dev) : Bool :=
  if path = 1 then decide (left = 0) else if path = 2 then true else d.sr.lines.isEmpty

/-- SOFT_RESET by the RESET verb, once its OK has left; `also` names what else resets at the same time. -/
def resetByVerb (also : Nat) (d : Dev) : Dev :=
  match d.st.wait with
  | some (c, .leave false n) => if okGone c.path n d ∧ d.st.out = [] then softReset also d else d
  | _ => d

/-! ### SET and GET [12 R237, Table SV-5] -/

/-- A parameter: its name, what it takes, its field, the value written for the value given, the text of the value held. -/
structure Param where
  name : String
  kind : Kind
  fld : Fld
  code : Nat → Nat := id
  shows : Nat → List Nat := dec

/-- A voltage parameter: a 10 mV code above 550 mV, rounded down. -/
def voltParam (n : String) (f : Fld) : Param := ⟨n, .num .mv 550 1100, f, fun v => (v - 550) / 10, fun k => dec (550 + 10 * k)⟩

/-- Table SV-5. -/
def params : List Param :=
  [⟨"horizon", .num .ns 10000 1000000, F.SW_HZN_HZN, id, dec⟩,
   ⟨"throttle", .word ["manual", "auto"], F.CORE_VSET_AUTO, id, fun k => nameOf ["manual", "auto"] k⟩,
   voltParam "vset" F.CORE_VSET_VSET, voltParam "vmin" F.CORE_VSET_VMIN, voltParam "vmax" F.CORE_VSET_VMAX,
   ⟨"q0hi", .num .plain 0 256, F.Q_WM_HI 0, id, dec⟩, ⟨"q0lo", .num .plain 0 256, F.Q_WM_LO 0, id, dec⟩,
   ⟨"q1hi", .num .plain 0 128, F.Q_WM_HI 1, id, dec⟩, ⟨"q1lo", .num .plain 0 128, F.Q_WM_LO 1, id, dec⟩,
   ⟨"ltmo", .num .ms 0 255, F.UA_CTL_LTMO, id, dec⟩,
   ⟨"autohold", .word ["off", "on"], F.CK_LADDER_AUTOHOLD, id, fun k => nameOf ["off", "on"] k⟩,
   ⟨"wake", .num .plain 0 127, F.CK_WAKE_EN, id, fun k => hexN 2 k⟩]

/-- The parameter's line. -/
def paramLine (d : Dev) (p : Param) : List Nat := dataLine [kv p.name (p.shows (d.r p.fld))]

/-- SET name=value. -/
def setHandler (t : Toks) : Handler :=
  { form := ⟨[], params.map fun p => ⟨p.name, p.kind, false⟩⟩, toks := t
    check := fun a => if a.keys.length = 1 then 0 else 10
    act := fun c a d =>
      match params.find? fun p => a.has p.name with
      | some p => ok c (editField p.fld (p.code (a.num p.name)) d)
      | none => er 10 c d }

/-- GET name, GET all. -/
def getHandler (t : Toks) : Option Handler :=
  match t.pos with
  | [x] =>
    if isWord "all" x then some (plainHandler { t with pos := [] } fun c d => okWith (params.map (paramLine d)) c d)
    else (params.find? fun p => isWord p.name x).map fun p => plainHandler { t with pos := [] } fun c d => okWith [paramLine d p] c d
  | _ => none

end Sys2Proof.Machine
end

