-- ==== Sys2Proof/Machine/VerbLight.lean ====
section
/-! DEFINITION. The light verbs: FURROW, PAGE, CHAN, BANK [12 R240-R244, Tables SV-8, SV-9]. -/

namespace Sys2Proof.Machine

/-- A key with a plain number. -/
def numKey (n : String) (lo hi : Int) (need : Bool := false) : Key := ⟨n, .num .plain lo hi, need⟩

/-- A key with a word of a list. -/
def wordKey (n : String) (ws : List String) (need : Bool := false) : Key := ⟨n, .word ws, need⟩

/-- The field `k=` with 0 or 1. -/
def kb (k : String) (b : Bool) : List Nat := kn k (bit b)

/-! ### FURROW -/

/-- The sources by code. -/
def srcNames : List String := ["e0", "e1", "ring", "time"]

/-- The FAULT policies by code. -/
def faultNames : List String := ["skip", "fallback", "last"]

/-- The DIST policies by code. -/
def distNames : List String := ["mark", "compensate", "abort"]

/-- The source that `at` and `every` are read for: the one of the same line, else the furrow's [12 Table SV-8]. -/
def lineSource (d : Dev) (f : Nat) (t : Toks) : Nat :=
  match t.args.find? fun a => isWord "src" a.1 with
  | some a => (srcNames.findIdx? fun w => isWord w a.2).getD (d.r (F.SWF_CFG_SRC f))
  | none => d.r (F.SWF_CFG_SRC f)

/-- The dimension of `at` and `every`: ns for time, else counts, with the scale of E1 for E1 and that of E0 for E0 and the ring [15 R302]. -/
def sourceDim (d : Dev) (src : Nat) : Dim := if src = 3 then .ns else .pos (if src = 1 then d.st.scale1 else d.st.scale0)

/-- The keys of Table SV-8. -/
def furrowKeys (m : Dim) : List Key :=
  [wordKey "src" srcNames, ⟨"at", .num m 0 (2 ^ 48 - 1), false⟩, ⟨"every", .num m 0 (2 ^ 32 - 1), false⟩, numKey "bank" 0 5,
   numKey "mask" 0 255, ⟨"head", .numOr .plain 0 5 "none", false⟩, numKey "page0" 0 255, numKey "pages" 1 256, ⟨"cap", .num .code 0 4095, false⟩,
   numKey "pri" 0 3, numKey "class" 0 3, wordKey "fault" faultNames, wordKey "dist" distNames, ⟨"slack", .num .ns 0 1000000, false⟩]

/-- RANGE beyond single keys: page0 + pages, and a time furrow's `every`. -/
def furrowCheck (d : Dev) (f src : Nat) (a : Args) : Nat :=
  let p0 := if a.has "page0" then a.num "page0" else d.r (F.SWF_PAGE_PAGE0 f)
  let n := if a.has "pages" then a.num "pages" else d.r (F.SWF_PAGE_PAGESM1 f) + 1
  if (a.has "page0" ∨ a.has "pages") ∧ 256 < p0 + n then 8
  else if src = 3 ∧ a.has "every" ∧ a.num "every" ≠ 0 ∧ a.num "every" < 1000 then 8
  else 0

/-- The fields that the keys given write, each with its word and its value. -/
def furrowEdits (f : Nat) (a : Args) : List (Nat × Fld × Nat) :=
  let e (k : String) (i : Nat) (x : Fld) (v : Nat) : List (Nat × Fld × Nat) := if a.has k then [(i, x, v)] else []
  e "src" 0 (F.SWF_CFG_SRC f) (a.num "src") ++ e "bank" 0 (F.SWF_CFG_BANK f) (a.num "bank") ++ e "mask" 0 (F.SWF_CFG_MASK f) (a.num "mask")
  ++ (if a.isW "head" then [(0, F.SWF_CFG_HEADEN f, 0)]
      else e "head" 0 (F.SWF_CFG_HEADEN f) 1 ++ e "head" 0 (F.SWF_CFG_HEAD f) (a.num "head"))
  ++ e "pri" 0 (F.SWF_CFG_PRI f) (a.num "pri") ++ e "class" 0 (F.SWF_CFG_CLASS f) (a.num "class")
  ++ e "fault" 0 (F.SWF_CFG_FAULT f) (a.num "fault") ++ e "dist" 0 (F.SWF_CFG_DIST f) (a.num "dist")
  ++ e "at" 1 (F.SWF_ATL_AT f) (a.num "at" % 2 ^ 32) ++ e "at" 2 (F.SWF_ATH_AT f) (a.num "at" / 2 ^ 32)
  ++ e "every" 3 (F.SWF_EVERY_EVERY f) (a.num "every") ++ e "page0" 4 (F.SWF_PAGE_PAGE0 f) (a.num "page0")
  ++ e "pages" 4 (F.SWF_PAGE_PAGESM1 f) (a.num "pages" - 1) ++ e "cap" 4 (F.SWF_PAGE_CAP f) (a.num "cap")
  ++ e "slack" 5 (F.SWF_SLACK_SLACK f) (a.num "slack")

/-- Configuration word `i` with the edits made. -/
def furrowEdited (d : Dev) (f i : Nat) (es : List (Nat × Fld × Nat)) : Nat :=
  es.foldl (fun w (x : Nat × Fld × Nat) => if x.1 = i then putField w x.2.1 x.2.2 else w) (plainRead d (0x40010000 + 64 * f + 4 * i))

/-- FURROW SET: the words that the keys touch are written, all of them or none [12 R240]. -/
def doFurrowSet (f : Nat) (c : Ctx) (a : Args) (d : Dev) : Dev :=
  let es := furrowEdits f a
  let is := (List.range 6).filter fun i => es.any fun x => decide (x.1 = i)
  if (d.fu f).state = .sown then er 43 c (furrowConfigWrite f (is.headD 0) 0 d)
  else ok c (furrowWords f (is.map fun i => (i, furrowEdited d f i es)) d)

/-- FURROW ON [12 R241]. -/
def doFurrowOn (f : Nat) (c : Ctx) (d : Dev) : Dev :=
  let out := decide ((d.fu f).state = .fallow ∨ (d.fu f).state = .faulted)
  let e := if out then [0, 10, 82, 84].getD (onCheck d f) 0 else 0
  if e ≠ 0 then er e c d else ok c (fcmdWrite 1 f d)

/-- FURROW OFF [12 R241]. -/
def doFurrowOff (f : Nat) (c : Ctx) (d : Dev) : Dev := ok c (fcmdWrite 2 f d)

/-- FURROW SHOW [12 R241]. -/
def doFurrowShow (f : Nat) (c : Ctx) (d : Dev) : Dev :=
  let u := d.fu f
  okWith [
    dataLine [kn "f" f, kv "state" (nameOf ["fallow", "ready", "sown", "held", "faulted"] u.state.code), kn "miss" u.miss, kn "defer" u.defer,
      kb "pending" (furrowPend d f)],
    dataLine [kn "f" f, kv "src" (nameOf srcNames (d.r (F.SWF_CFG_SRC f))), kn "at" (fAt d f), kn "every" (d.r (F.SWF_EVERY_EVERY f)),
      kn "bank" (d.r (F.SWF_CFG_BANK f)), kv "mask" (hexN 2 (d.r (F.SWF_CFG_MASK f))),
      kv "head" (if d.b (F.SWF_CFG_HEADEN f) then dec (d.r (F.SWF_CFG_HEAD f)) else ascii "none"), kn "page0" (d.r (F.SWF_PAGE_PAGE0 f)),
      kn "pages" (d.r (F.SWF_PAGE_PAGESM1 f) + 1), kn "cap" (d.r (F.SWF_PAGE_CAP f)), kn "pri" (d.r (F.SWF_CFG_PRI f)),
      kn "class" (d.r (F.SWF_CFG_CLASS f)), kv "fault" (nameOf faultNames (policyOf d f)), kv "dist" (nameOf distNames (fDist d f)),
      kn "slack" (d.r (F.SWF_SLACK_SLACK f))]] c d

/-- The furrow that the second positional token names. -/
def unitNo (t : Toks) : Nat := match t.pos with | x :: _ => (match numberIn .plain x with | .ok v => v.toNat | .error _ => 0) | [] => 0

/-- FURROW and its object. -/
def furrowHandler (d : Dev) (t : Toks) : Option Handler :=
  match t.pos with
  | [] => none
  | o :: r =>
    let u : Toks := { t with pos := r }
    let f := unitNo u
    let simple (act : Nat → Ctx → Dev → Dev) : Option Handler :=
      some { form := ⟨[(0, 255)], []⟩, toks := u, act := fun c a => act (a.p 0) c }
    if isWord "set" o then
      let src := lineSource d f u
      some { form := ⟨[(0, 255)], furrowKeys (sourceDim d src)⟩, toks := u, check := furrowCheck d f src, act := fun c a => doFurrowSet (a.p 0) c a }
    else if isWord "on" o then simple doFurrowOn
    else if isWord "off" o then simple doFurrowOff
    else if isWord "show" o then simple doFurrowShow
    else none

/-! ### PAGE [12 R242] -/

/-- PAGE MAP. -/
def doPageMap (c : Ctx) (a : Args) (d : Dev) : Dev :=
  if selPresent d (a.num "sel") = false then er 88 c d
  else ok c (ptePut true (a.num "f") (a.num "page") true (a.num "sel") (a.num "addr" / 1024) d)

/-- PAGE UNMAP. -/
def doPageUnmap (c : Ctx) (a : Args) (d : Dev) : Dev :=
  if (d.fu (a.num "f")).state ≠ .fallow then er 80 c d else ok c (ptePut false (a.num "f") (a.num "page") false 0 0 d)

/-- PAGE PIN. -/
def doPagePin (c : Ctx) (a : Args) (d : Dev) : Dev :=
  let f := a.num "f"
  let g := a.num "page"
  let e := pageCheck d f g
  if e = 1 then er 82 c d
  else if e ≠ 0 then er 88 c d
  else if (match plotOf d f g with | some p => (d.pl p).pin | none => false) then ok c d
  else if 384 ≤ pinCount d then er 81 c d
  else if d.gr.waiting.isSome then er 20 c d
  else if (plotOf d f g).isNone ∧ (choosePlot d).isNone then er 82 c d
  else ok c (grCmd 1 f g d)

/-- PAGE UNPIN: 082 for a page that is not mapped [17 Table GR-9]. -/
def doPageUnpin (c : Ctx) (a : Args) (d : Dev) : Dev :=
  let f := a.num "f"
  let g := a.num "page"
  if (plotOf d f g).isNone ∧ (d.pte f g).v = false then er 82 c d
  else if d.gr.waiting.isSome then er 20 c d
  else ok c (grCmd 2 f g d)

/-- PAGE FETCH. -/
def doPageFetch (c : Ctx) (a : Args) (d : Dev) : Dev :=
  let e := pageCheck d (a.num "f") (a.num "page")
  if e = 1 then er 82 c d
  else if e ≠ 0 then er 88 c d
  else if d.gr.waiting.isSome then er 20 c d
  else ok c (grCmd 3 (a.num "f") (a.num "page") d)

/-- PAGE SHOW; the address in hexadecimal, as the manual's own PAGE lines write it. DEDUCED [log 77]. -/
def doPageShow (c : Ctx) (a : Args) (d : Dev) : Dev :=
  let f := a.num "f"
  let g := a.num "page"
  let e := d.pte f g
  let p := plotOf d f g
  okWith [dataLine [kn "f" f, kn "page" g, kn "sel" e.sel, kv "addr" (hexN 8 (1024 * e.addr)),
    kv "plot" (match p with | some n => dec n | none => ascii "none"),
    kb "pin" (match p with | some n => (d.pl n).pin | none => false), kb "use" (match p with | some n => useOf d n | none => false)]] c d

/-- The keys that name a page. -/
def pageKeys : List Key := [numKey "f" 0 255 true, numKey "page" 0 255 true]

/-- PAGE and its object. -/
def pageHandler (t : Toks) : Option Handler :=
  match t.pos with
  | [] => none
  | o :: r =>
    let mk (ks : List Key) (chk : Args → Nat) (act : Ctx → Args → Dev → Dev) : Option Handler :=
      some { form := ⟨[], pageKeys ++ ks⟩, toks := { t with pos := r }, check := chk, act := act }
    if isWord "map" o then
      mk [numKey "sel" 0 3 true, numKey "addr" 0 (2 ^ 28 - 1) true] (fun a => if a.num "addr" % 1024 = 0 then 0 else 8) doPageMap
    else if isWord "unmap" o then mk [] (fun _ => 0) doPageUnmap
    else if isWord "pin" o then mk [] (fun _ => 0) doPagePin
    else if isWord "unpin" o then mk [] (fun _ => 0) doPageUnpin
    else if isWord "fetch" o then mk [] (fun _ => 0) doPageFetch
    else if isWord "show" o then mk [] (fun _ => 0) doPageShow
    else none

/-! ### CHAN and BANK [12 R243, R244] -/

/-- CHAN SET. -/
def doChanSet (c : Ctx) (a : Args) (d : Dev) : Dev :=
  let n := a.p 0
  ok c (if a.has "cap" then writeLight [n / 8] (F.LD_CHCFG_CAP n) (a.num "cap") d else d)

/-- CHAN SHOW. -/
def doChanShow (n : Nat) (c : Ctx) (d : Dev) : Dev :=
  okWith [dataLine [kn "ch" n, kn "bank" (n / 8), kv "state" (nameOf ["on", "fallow", "open", "short"] (d.r (F.LD_CHSTAT_STATE n))),
    kn "cap" (d.r (F.LD_CHCFG_CAP n)), kb "pending" (chanPend d n)]] c d

/-- BANK SET: boost is held in codes of 50 µV, 20 to the mV [18 R352]. -/
def doBankSet (c : Ctx) (a : Args) (d : Dev) : Dev :=
  let b := a.p 0
  let e (k : String) (f : Fld) (m : Nat) (d : Dev) : Dev := if a.has k then writeLight [b] f (a.num k * m) d else d
  ok c (e "sag" (F.BD_BCFG_SAG b) 1 (e "qlim" (F.BD_BCFG_QLIM b) 1 (e "dead" (F.LD_BCFG_DEAD b) 1
    (e "boost" (F.LD_BBST_BCAP b) 20 (e "vshort" (F.LD_BCFG_VSHORT b) 1 d)))))

/-- BANK SHOW. -/
def doBankShow (b : Nat) (c : Ctx) (d : Dev) : Dev :=
  okWith [dataLine [kn "bank" b, kv "state" (nameOf ["on", "fallow", "aim"] (d.r (F.LD_BSTAT_STATE b))), kn "vshort" (d.r (F.LD_BCFG_VSHORT b)),
    kn "boost" (d.r (F.LD_BBST_BCAP b) / 20), kn "dead" (d.r (F.LD_BCFG_DEAD b)), kn "qlim" (d.r (F.BD_BCFG_QLIM b)),
    kn "sag" (d.r (F.BD_BCFG_SAG b)), kb "pending" (bankUnitPend d b)]] c d

/-- A furrow that targets bank `b` is READY, SOWN or HELD. -/
def bankInUse (d : Dev) (b : Nat) : Bool :=
  d.sw.furrows.any fun e => (decide (e.2.state = .ready) || decide (e.2.state = .sown) || decide (e.2.state = .held))
    && (decide (fBank d e.1 = b) || decide (d.r (F.SWF_CFG_BANK e.1) = b))

/-- BANK AIM. -/
def doBankAim (c : Ctx) (a : Args) (d : Dev) : Dev :=
  let b := a.p 0
  if bankInUse d b then er 84 c d else ok c (writeLight [b] (F.LD_CHCFG_DUTY (8 * b + a.num "ch")) (a.num "duty") d)

/-- CHAN and its object. -/
def chanHandler (t : Toks) : Option Handler :=
  match t.pos with
  | [] => none
  | o :: r =>
    let mk (ks : List Key) (act : Ctx → Args → Dev → Dev) : Option Handler := some { form := ⟨[(0, 47)], ks⟩, toks := { t with pos := r }, act := act }
    if isWord "set" o then mk [⟨"cap", .num .code 0 4095, false⟩] doChanSet
    else if isWord "on" o then mk [] fun c a d => ok c (chanOnCmd (a.p 0) d)
    else if isWord "off" o then mk [] fun c a d => ok c (chanOffCmd (a.p 0) d)
    else if isWord "show" o then mk [] fun c a d => doChanShow (a.p 0) c d
    else none

/-- BANK and its object. -/
def bankHandler (t : Toks) : Option Handler :=
  match t.pos with
  | [] => none
  | o :: r =>
    let mk (ks : List Key) (act : Ctx → Args → Dev → Dev) : Option Handler := some { form := ⟨[(0, 5)], ks⟩, toks := { t with pos := r }, act := act }
    if isWord "set" o then
      mk [⟨"vshort", .num .mv 2000 12000, false⟩, ⟨"boost", .num .mv 0 200, false⟩, ⟨"dead", .num .ns 50 1000, false⟩, numKey "qlim" 1 65535,
          numKey "sag" 50 99] doBankSet
    else if isWord "on" o then mk [] fun c a d => ok c (bankOnCmd (a.p 0) d)
    else if isWord "off" o then mk [] fun c a d => ok c (bankOffCmd (a.p 0) d)
    else if isWord "show" o then mk [] fun c a d => doBankShow (a.p 0) c d
    else if isWord "aim" o then mk [numKey "ch" 0 7 true, numKey "duty" 0 65535 true] doBankAim
    else none

end Sys2Proof.Machine
end

