-- ==== Sys2Proof/Machine/VerbPorts.lean ====
section
/-! DEFINITION. The verbs of the OTP array, the keys, heads, ring, encoders, the ledger and the event trace [12 R238, R239, R245-R249]. -/

namespace Sys2Proof.Machine

/-! ### OTP [12 R238, Table SV-6] -/

/-- The word that `word=` names. -/
def wordArg (a : Args) : Nat := if a.isW "word" then otLockWord else a.num "word"

/-- An OTP verb asks its command of the engine, and waits. -/
def otpAsk (c : Ctx) (obj arg : Nat) (q : OtReq) (d : Dev) : Dev := byVerb (otAsk q) (waitVerb c (.otp obj arg) d)

/-- An OTP verb that burns checks the window before it issues its command. -/
def otpBurn (c : Ctx) (obj arg : Nat) (q : OtReq) (d : Dev) : Dev := if windowMet d = false then er 40 c d else otpAsk c obj arg q d

/-- The `word=` key of READ and MARGIN. -/
def wordOrLock : Key := ⟨"word", .numOr .plain 0 511 "lock", true⟩

/-- OTP READ. -/
def doOtpRead (c : Ctx) (a : Args) (d : Dev) : Dev :=
  okWith [dataLine [kv "word" (wordText (wordArg a)), kv "value" (hexN 8 (shadowRead d (wordArg a)))]] c d

/-- The value of LOCK's bits. -/
def lockArg (a : Args) : Nat := a.num "wlk" + 256 * a.num "xlk"

/-- OTP and its object. -/
def otpHandler (t : Toks) : Option Handler :=
  match t.pos with
  | [] => none
  | o :: r =>
    let mk (ks : List Key) (chk : Args → Nat) (act : Ctx → Args → Dev → Dev) : Option Handler :=
      some { form := ⟨[], ks⟩, toks := { t with pos := r }, check := chk, act := act }
    let fine (_ : Args) : Nat := 0
    if isWord "read" o then mk [wordOrLock] fine doOtpRead
    else if isWord "margin" o then
      mk [wordOrLock] fine fun c a => otpAsk c Obj.margin (wordArg a) { owner := .verb, code := 3, word := wordArg a }
    else if isWord "check" o then
      mk [wordKey "ctr" ctrNames true] fine fun c a => otpAsk c Obj.check (a.num "ctr") { owner := .verb, code := 7, ctr := a.num "ctr" }
    else if isWord "burn" o then
      mk [numKey "word" 0 511 true, numKey "data" 0 0xFFFFFFFF true] fine fun c a =>
        otpBurn c Obj.burn (a.num "word") { owner := .verb, code := 4, word := a.num "word", data := a.num "data" }
    else if isWord "reburn" o then
      mk [numKey "word" 0 511 true] fine fun c a => otpBurn c Obj.reburn (a.num "word") { owner := .verb, code := 5, word := a.num "word" }
    else if isWord "revoke" o then
      mk [numKey "slot" 0 2 true] fine fun c a =>
        otpBurn c Obj.revoke (11 + a.num "slot") { owner := .verb, code := 6, ctr := 11 + a.num "slot" }
    else if isWord "lock" o then
      mk [numKey "wlk" 0 255, numKey "xlk" 0 255] (fun a => if a.has "wlk" ∨ a.has "xlk" then 0 else 10) fun c a =>
        otpBurn c Obj.lock 0 { owner := .verb, code := 8, data := lockArg a }
    else if isWord "sense" o then mk [] fine fun c _ => otpAsk c Obj.sense 0 { owner := .verb, code := 9 }
    else none

/-! ### KEY [12 R239, Table SV-7] -/

/-- A KEY verb loads KY_BUF and KY_ARG, starts its command and waits; a key command under way is left alone. -/
def keyAsk (c : Ctx) (code arg : Nat) (buf : List Nat) (confirm : Nat) (d : Dev) : Dev :=
  if d.b F.KY_STAT_BUSY then er 20 c d
  else
    let d := (setKyBuf (buf ++ List.replicate (256 - buf.length) 0) d).w F.KY_ARG_CONFIRM confirm
    byVerb (kyStart code true (kyRun code)) (waitVerb c (.key code arg) d)

/-- KEY and its object. -/
def keyHandler (t : Toks) : Option Handler :=
  match t.pos with
  | [] => none
  | o :: r =>
    let mk (ks : List Key) (act : Ctx → Args → Dev → Dev) : Option Handler :=
      some { form := ⟨[], ks⟩, toks := { t with pos := r }, act := act }
    if isWord "attest" o then mk [⟨"nonce", .b64 32, true⟩] fun c a => keyAsk c 10 0 (a.bytes "nonce") 0
    else if isWord "escrow" o then
      mk [⟨"pub", .b64 64, true⟩, wordKey "lc" ["perso", "field"] true] fun c a =>
        keyAsk c 11 0 (a.bytes "pub") (16 * lifeCode (1 + a.num "lc"))
    else if isWord "inval" o then mk [numKey "slot" 0 7 true] fun c a => keyAsk c 12 (a.num "slot") [] (a.num "slot")
    else if isWord "perso" o then mk [] fun c _ => keyAsk c 13 0 [] 0
    else if isWord "field" o then mk [] fun c _ => keyAsk c 14 0 [] 0
    else if isWord "retire" o then mk [numKey "confirm" 0 0xFFFFFFFF true] fun c a => keyAsk c 15 0 [] (a.num "confirm")
    else none

/-! ### HEAD [12 R245; 20 R394] -/

/-- HEAD SET. -/
def doHeadSet (c : Ctx) (a : Args) (d : Dev) : Dev :=
  let p := a.p 0
  let d := if a.has "skew" then editField (F.HP_TCFG_SKEW p) (a.num "skew") d else d
  let d := if a.has "policy" then (if a.num "policy" = 1 then d.orBit F.HP_POLICY_ANY p else d.clrBit F.HP_POLICY_ANY p) else d
  ok c d

/-- The identity fields of a port's head. -/
def headFields (d : Dev) (p : Nat) : List (List Nat) :=
  [kv "id" (hexN 16 (d.r (F.HP_IDH_ID p) * 2 ^ 32 + d.r (F.HP_IDL_ID p))), kn "lat" (d.r (F.HP_LAT_LAT p)), kn "period" (d.r (F.HP_PER_PERIOD p)),
   kn "window" (d.r (F.HP_WIN_WINDOW p))]

/-- How HEAD ON and HEAD HITCH answer once hitching has ended: data lines and code. -/
def headAnswer (d : Dev) (p : Nat) (shows : Bool) : List (List Nat) × Nat :=
  if d.r (F.HP_STAT_STATE p) = 2 then (if shows then [dataLine (kn "h" p :: headFields d p)] else [], 0)
  else if d.r (F.HP_STAT_STATE p) = 0 then ([], 83)
  else ([], [83, 83, 83, 83, 23, 85, 23, 10].getD (d.r (F.HP_STAT_LCAUSE p)) 83)

/-- HEAD ON. -/
def doHeadOn (p : Nat) (c : Ctx) (d : Dev) : Dev :=
  if d.r (F.HP_STAT_STATE p) = 0 then er 83 c d
  else if d.r (F.HP_STAT_STATE p) = 2 then ok c d
  else waitVerb c (.head p false) (hpOn p d)

/-- HEAD HITCH. -/
def doHeadHitch (p : Nat) (c : Ctx) (d : Dev) : Dev :=
  if d.r (F.HP_STAT_STATE p) = 0 then er 83 c d else waitVerb c (.head p true) (hpHitch p d)

/-- HEAD SHOW. -/
def doHeadShow (p : Nat) (c : Ctx) (d : Dev) : Dev :=
  okWith [dataLine ([kn "h" p, kv "state" (nameOf ["absent", "hitching", "on", "fallow"] (d.r (F.HP_STAT_STATE p)))] ++ headFields d p
    ++ [kn "skew" (d.r (F.HP_TCFG_SKEW p))])] c d

/-- HEAD and its object. -/
def headHandler (t : Toks) : Option Handler :=
  match t.pos with
  | [] => none
  | o :: r =>
    let mk (ks : List Key) (act : Ctx → Args → Dev → Dev) : Option Handler := some { form := ⟨[(0, 5)], ks⟩, toks := { t with pos := r }, act := act }
    if isWord "set" o then mk [⟨"skew", .num .ns 0 1000, false⟩, wordKey "policy" ["same", "any"]] doHeadSet
    else if isWord "on" o then mk [] fun c a => doHeadOn (a.p 0) c
    else if isWord "off" o then mk [] fun c a d => ok c (hpOff (a.p 0) d)
    else if isWord "hitch" o then mk [] fun c a => doHeadHitch (a.p 0) c
    else if isWord "show" o then mk [] fun c a => doHeadShow (a.p 0) c
    else none

/-! ### RING [12 R246] -/

/-- A number of sixteenths to one decimal place, halves up [21 R406]. -/
def sixteenths (v : Nat) : List Nat :=
  let t := (10 * v + 8) / 16
  dec (t / 10) ++ [46, t % 10 + 48]

/-- The `= m= delay=` lines of the members present; delays in ns to one decimal place. -/
def memberLines (d : Dev) : List (List Nat) :=
  ((List.range 15).filter fun i => bitAt (d.r F.SR_MEM_MEM) i).map fun i =>
    dataLine [kn "m" (i + 1), kv "delay" (sixteenths (delayOf d.sr.linksD (i + 1)))]

/-- RING UP: answered when ring-up ends. -/
def doRingUp (c : Ctx) (d : Dev) : Dev :=
  let (accepted, d) := reqUp d
  if accepted then waitVerb c .ringUp d else er 86 c d

/-- A request of the ring, answered OK or 086. -/
def ringAsk (req : Dev → Bool × Dev) (c : Ctx) (d : Dev) : Dev :=
  let (accepted, d) := req d
  if accepted then ok c d else er 86 c d

/-- RING SHOW. -/
def doRingShow (c : Ctx) (d : Dev) : Dev :=
  let has := d.b F.SR_STAT_ADDRV
  okWith (dataLine [ascii "ring", kv "state" (nameOf ["down", "ringup", "up", "break", "left", "joining"] (srState d)),
    kn "addr" (if has then ringAddr d else 0), kn "master" (d.r F.SR_STAT_MASTER),
    kv "members" (hexN 4 (if has then 2 * d.r F.SR_MEM_MEM else 0))] :: (if has then memberLines d else [])) c d

/-- RING and its object. -/
def ringHandler (t : Toks) : Option Handler :=
  match t.pos with
  | [] => none
  | o :: r =>
    let u : Toks := { t with pos := r }
    if isWord "up" o then some (plainHandler u doRingUp)
    else if isWord "down" o then some (plainHandler u (ringAsk reqDown))
    else if isWord "join" o then some (plainHandler u (ringAsk reqJoin))
    else if isWord "leave" o then some (plainHandler u (ringAsk reqLeave))
    else if isWord "show" o then some (plainHandler u doRingShow)
    else none

/-! ### ENC [12 R247] -/

/-- The scale of input `e` in thousandths of a count per mm. -/
def scaleOf (d : Dev) (e : Nat) : Nat := if e = 1 then d.st.scale1 else d.st.scale0

/-- A number of thousandths in decimal, without trailing zeros. -/
def milliText (v : Nat) : List Nat :=
  let frac := v % 1000
  dec (v / 1000) ++ (if frac = 0 then [] else 46 :: (if frac % 100 = 0 then (dec3 frac).take 1 else if frac % 10 = 0 then (dec3 frac).take 2 else dec3 frac))

/-- ENC SET. -/
def doEncSet (c : Ctx) (a : Args) (d : Dev) : Dev :=
  let e := a.p 0
  let put (k : String) (f : Fld) (d : Dev) : Dev := if a.has k then editField f (a.num k) d else d
  let d := put "filter" (F.EN_CFG_FILTER e) (put "term" (F.EN_CFG_TERM e) (put "mode" (F.EN_CFG_MODE e) d))
  let d := if a.has "scale" then
      d.onSt fun s => if e = 1 then { s with scale1 := a.num "scale" } else { s with scale0 := a.num "scale" }
    else d
  ok c d

/-- A furrow bound to input `e` is SOWN or HELD. -/
def inputHeld (d : Dev) (e : Nat) : Bool :=
  inputSown d e || (boundTo d e).any fun f => decide ((d.fu f).state = .held)

/-- ENC ZERO. -/
def doEncZero (c : Ctx) (a : Args) (d : Dev) : Dev :=
  let e := a.p 0
  if inputHeld d e then er 80 c d
  else ok c (positionLoad e ((d.w (F.EN_PSETL_POS e) (a.num "pos" % 2 ^ 32)).w (F.EN_PSETH_POS e) (a.num "pos" / 2 ^ 32)))

/-- ENC SHOW. -/
def doEncShow (e : Nat) (c : Ctx) (d : Dev) : Dev :=
  let lost := d.b (F.EN_STAT_LQ e) || d.b (F.EN_STAT_LN e) || d.b (F.EN_STAT_LF e)
  okWith [dataLine [kn "e" e, kn "pos" (d.enc e).pos, kv "vel" (hexN 8 (velWord (d.enc e).vel)),
    kv "dir" (nameOf ["fwd", "rev"] (d.r (F.EN_STAT_DIR e))), kn "z" (d.enc e).zpos,
    kv "state" (ascii (if d.b (F.EN_STAT_BURST e) then "burst" else if lost then "lost" else "ok")), kv "scale" (milliText (scaleOf d e))]] c d

/-- ENC and its object. -/
def encHandler (d : Dev) (t : Toks) : Option Handler :=
  match t.pos with
  | [] => none
  | o :: r =>
    let u : Toks := { t with pos := r }
    let mk (ks : List Key) (act : Ctx → Args → Dev → Dev) : Option Handler := some { form := ⟨[(0, 1)], ks⟩, toks := u, act := act }
    if isWord "set" o then
      mk [wordKey "mode" ["rs422", "se"], wordKey "term" ["off", "on"], numKey "filter" 0 255, ⟨"scale", .num .milli 0 1000000000, false⟩] doEncSet
    else if isWord "zero" o then mk [⟨"pos", .num (.pos (scaleOf d (unitNo u))) 0 (2 ^ 48 - 1), true⟩] doEncZero
    else if isWord "show" o then mk [] fun c a => doEncShow (a.p 0) c
    else none

/-! ### LEDGER [12 R248] -/

/-- LEDGER SAVE. -/
def doLedgerSave (c : Ctx) (d : Dev) : Dev :=
  let e := saveRefuse d
  if e ≠ 0 then er e c d else saveStart c d

/-- LEDGER LOAD: `a` and `b` are what the slots hold. -/
def doLedgerLoad (a b : List Nat) (c : Ctx) (d : Dev) : Dev :=
  let e := loadRefuse d
  if e ≠ 0 then er e c d else loadStart c a b d

/-- LEDGER and its object. -/
def ledgerHandler (a b : List Nat) (t : Toks) : Option Handler :=
  match t.pos with
  | [] => none
  | o :: r =>
    let u : Toks := { t with pos := r }
    if isWord "show" o then some (plainHandler u fun c d => okWith [ledgerLine d] c d)
    else if isWord "save" o then some (plainHandler u doLedgerSave)
    else if isWord "load" o then some (plainHandler u (doLedgerLoad a b))
    else none

/-! ### TRACE [12 R249] -/

/-- The event names that a token stands for, by place; none where it is no name. -/
def tracePlaces (x : List Nat) : Option (List Nat) :=
  if isWord "all" x then some (List.range 12) else (eventNames.findIdx? fun n => isWord n x).map fun i => [i]

/-- The names of a TRACE line; none is ARGUMENT: no name, an unknown one, TAMPER named in OFF. -/
def traceNames (on : Bool) (ts : List (List Nat)) : Option (List Nat) :=
  let ps := ts.map tracePlaces
  if ts.isEmpty ∨ ps.any Option.isNone ∨ (on = false ∧ ts.any fun x => isWord "tamper" x) then none else some (ps.filterMap id).flatten

/-- TRACE ON and OFF. -/
def doTrace (on : Bool) (is : List Nat) (c : Ctx) (d : Dev) : Dev :=
  ok c (d.onSt fun s => { s with off := (List.range 12).filter fun i => decide (i ≠ 6) && (if on then s.off.contains i && !is.contains i else s.off.contains i || is.contains i) })

/-- A letter in lower case, as a keyword stands in a data line [12 R231]. -/
def lowC (c : Nat) : Nat := if 65 ≤ c ∧ c ≤ 90 then c + 32 else c

/-- TRACE SHOW: the names that are on, keywords in lower case [12 R231, R249]. DEDUCED [log 76]. -/
def doTraceShow (c : Ctx) (d : Dev) : Dev :=
  okWith [dataLine [kv "on" (commas (((List.range 12).filter (eventOn d)).map fun i => (nameOf eventNames i).map lowC))]] c d

/-- TRACE and its object; the names are positional. -/
def traceHandler (t : Toks) : Option Handler :=
  match t.pos with
  | [] => none
  | o :: r =>
    let u : Toks := { t with pos := [] }
    if isWord "on" o then (traceNames true r).map fun is => plainHandler u (doTrace true is)
    else if isWord "off" o then (traceNames false r).map fun is => plainHandler u (doTrace false is)
    else if isWord "show" o then (if r.isEmpty then some (plainHandler u doTraceShow) else none)
    else none

end Sys2Proof.Machine
end

