-- ==== Sys2Proof/Machine/Interp.lean ====
section
/-! DEFINITION. The interpreter: the checks of a line, the verbs' dispatch, lines taken from Q0, console editing, the ring tunnel and the CALLM
services of the language [11 R205-R228; 12 R230, R233, R251]. -/

namespace Sys2Proof.Machine

/-! ### Verbs [11 R222, Table SL-4] -/

/-- MODE and its keyword. -/
def modeHandler (t : Toks) : Option Handler :=
  match t.pos with
  | [x] =>
    if isWord "console" x then some (plainHandler { t with pos := [] } (doMode false))
    else if isWord "machine" x then some (plainHandler { t with pos := [] } (doMode true))
    else none
  | _ => none

/-- LOAD off= d=, LOAD ABORT; an `off=` below 0 is RANGE. DESIGN CHOICE [log 93]. -/
def loadHandler (t : Toks) : Option Handler :=
  match t.pos with
  | [] => some { form := ⟨[], [numKey "off" 0 (2 ^ 64) true, ⟨"d", .text, true⟩]⟩, toks := t, act := fun c a => doLoad c (a.num "off") (a.bytes "d") }
  | [x] => if isWord "abort" x then some (plainHandler { t with pos := [] } doLoadAbort) else none
  | _ => none

/-- START, START ADVANCE. -/
def startHandler' (t : Toks) : Option Handler :=
  match t.pos with
  | [] => some (plainHandler t (doStart false))
  | [x] => if isWord "advance" x then some (plainHandler { t with pos := [] } (doStart true)) else none
  | _ => none

/-- POWER and its target. -/
def powerHandler (t : Toks) : Option Handler :=
  match t.pos with
  | [x] => (["nap", "fallow", "dormant"].findIdx? fun w => isWord w x).map fun i => plainHandler { t with pos := [] } (doPower (i + 2))
  | _ => none

/-- The handler of built-in verb `v` for a line; none where its object is missing or unknown. `a` and `b` are what the ledger's slots hold. -/
def handlerOf (d : Dev) (a b : List Nat) (v : Nat) (t : Toks) : Option Handler :=
  match v with
  | 0 => some (plainHandler t doHello)
  | 1 => some (plainHandler t doIdent)
  | 2 => some (plainHandler t doStatus)
  | 3 => modeHandler t
  | 4 => loadHandler t
  | 5 => startHandler' t
  | 6 => otpHandler t
  | 7 => powerHandler t
  | 8 => some (plainHandler t doReset)
  | 9 => some (setHandler t)
  | 10 => getHandler t
  | 11 => furrowHandler d t
  | 12 => pageHandler t
  | 13 => chanHandler t
  | 14 => bankHandler t
  | 15 => headHandler t
  | 16 => ringHandler t
  | 17 => encHandler d t
  | 18 => ledgerHandler a b t
  | 19 => keyHandler t
  | 20 => traceHandler t
  | _ => none

/-- Check 9: 0, or the error of a verb that is not allowed now [04 R74, R88, Table BU-3; 11 R222]. -/
def verbState (d : Dev) (v : Nat) (t : Toks) : Nat :=
  let subset := decide (v ≤ 8) && (decide (v ≠ 6) || (objIs "read" t).isSome)
  if d.r F.SYS_BOOT_LSTATE = 5 then (if v = 1 ∨ v = 2 ∨ v = 8 then 0 else 73)
  else if started d then (if v = 4 ∨ v = 5 then 71 else 0)
  else if subset = false then 71
  else if monitorLife d = 3 ∧ (v = 4 ∨ v = 5) then 72
  else 0

/-- The line is accepted: its path is the event path from now on [11 R218]. -/
def acceptLine (c : Ctx) (d : Dev) : Dev := d.onSt fun s => { s with evPath := c.path, evMember := c.member }

/-- What a LINE call gives the image: w1, and for a registered verb its index, its tag and the text of the buffer. -/
structure LineOut where
  ret : Nat
  verb : Option (Nat × Option Nat × List Nat) := none
  deriving DecidableEq, Repr

/-- What a LINE call returns after a line: 4 while a verb or a tunnelled line is in progress. -/
def lineRet (d : Dev) : Nat :=
  match d.st.wait with
  | some (_, .leave _ _) => 1
  | some _ => 4
  | none => if d.st.tun.isSome then 4 else 1

/-- A built-in verb runs its checks 7, 9 and 10, and executes. -/
def runBuiltin (c : Ctx) (a b : List Nat) (v : Nat) (t : Toks) (d : Dev) : Dev :=
  let h := handlerOf d a b v t
  let e7 := match h with | some h => formNumbers h.form h.toks.pos h.toks.args | none => 0
  let e9 := verbState d v t
  if e7 ≠ 0 then er e7 c d
  else if e9 ≠ 0 then er e9 c d
  else match h with
    | none => er 10 c d
    | some h =>
      let e10 := formArgs h.form h.toks.pos h.toks.args
      let vals := formVals h.form h.toks.pos h.toks.args
      if e10 ≠ 0 then er e10 c d
      else if h.check vals ≠ 0 then er (h.check vals) c d
      else byVerb (h.act c vals) (acceptLine c d)

/-- REGISTERED_VERB: the verb is open until the image's final line [11 R224]. -/
def openVerb (c : Ctx) (i : Nat) (d : Dev) : Dev := (acceptLine c d).onSt fun s => { s with opened := some (i, c) }

/-- A line without tag, suffix and prefix: checks 7 to 11 [11 Table SL-4]. -/
def runLine (c : Ctx) (a b text : List Nat) (d : Dev) : LineOut × Dev :=
  let out (d : Dev) : LineOut × Dev := ({ ret := lineRet d }, d)
  match tokens text with
  | none => out (er 1 c d)
  | some [] => out (if c.path = 1 ∧ machineOn d 1 = false then prompt 1 d else ok c d)
  | some (v :: ts) =>
    match splitArgs ts with
    | none => out (er 1 c d)
    | some (pos, args) =>
      if v.head? = some 61 ∨ (v.contains 61 ∧ v.getLast? = some 61 ∧ (v.filter (· = 61)).length = 1) then out (er 1 c d)
      else match resolve d v with
        | .error e => out (er e c d)
        | .ok (.registered i) =>
          if d.r F.SYS_BOOT_LSTATE = 5 then out (er 73 c d) else ({ ret := 2, verb := some (i, c.tag, spaced ts) }, openVerb c i d)
        | .ok (.builtin n) => out (runBuiltin c a b n ⟨pos, args⟩ d)

/-! ### Checks 1 to 6 [11 R214, R219, R225, R226] -/

/-- The tag that the first five characters form. -/
def tagOf (t : List Nat) : Option Nat :=
  match t with
  | 35 :: a :: b :: c :: e :: _ =>
    if [a, b, c, e].all fun x => (hexVal x).isSome then some (hexDigitsVal [a, b, c, e]) else none
  | _ => none

/-- The characters of a line before its suffix; none where the suffix is missing or wrong. -/
def checkedSuffix (t : List Nat) : Option (List Nat) :=
  let body := t.take (t.length - 3)
  match t.drop (t.length - 3) with
  | [42, x, y] => if (hexVal x).isSome ∧ (hexVal y).isSome ∧ hexDigitsVal [x, y] = crc8 body then some body else none
  | _ => none

/-- The characters allowed in a line [11 R205]. -/
def charOk (c : Nat) : Bool := decide (c = 9 ∨ (32 ≤ c ∧ c ≤ 126))

/-- The text without its leading separators. -/
def trimLeft (t : List Nat) : List Nat := t.dropWhile isSep

/-- The line goes through the ring to member `n`, and its answer is awaited; the wait is timed from the end of forwarding [11 R226, R227]. -/
def forwardLine (c : Ctx) (machine : Bool) (n : Nat) (whole : List Nat) (d : Dev) : Dev :=
  let tag := if machine then c.tag.getD 0 else d.st.ownTag
  let l := if machine then whole else suffixed (tagText (some tag) ++ 32 :: whole)
  let d := (acceptLine c d).onSt fun s => { s with
    tun := some ⟨c, !machine, n, tag, none, false, false⟩
    ownTag := if machine then s.ownTag else (s.ownTag + 1) % 65536 }
  queueLine 10 n l d

/-- Check 6: a member prefix; a ring that is up has its device 0 [11 R225]. -/
def prefixCheck (c : Ctx) (machine : Bool) (a b whole body : List Nat) (d : Dev) : LineOut × Dev :=
  let x := (trimLeft body).takeWhile fun ch => !isSep ch
  if x.head? ≠ some 64 then runLine c a b body d
  else
    let ds := x.tail
    let n := digits ds
    let mine := if d.b F.SR_STAT_ADDRV then decide (n = ringAddr d) else decide (n = 0)
    if ds.isEmpty ∨ ds.all isDigit = false then ({ ret := 1 }, er 1 c d)
    else if 15 < n then ({ ret := 1 }, er 75 c d)
    else if mine then runLine c a b ((trimLeft body).drop x.length) d
    else if c.path = 3 ∨ srState d ≠ 2 ∨ bitAt (2 * d.r F.SR_MEM_MEM + 1) n = false then ({ ret := 1 }, er 75 c d)
    else ({ ret := 4 }, forwardLine c machine n whole d)

/-- A whole line is checked and handled: checks 1 to 5, then what follows [11 Table SL-4]. -/
def checkLine (c : Ctx) (a b text : List Nat) (broken lost long bad : Bool) (d : Dev) : LineOut × Dev :=
  let machine := machineOn d c.path
  let c := { c with tag := if lost then none else tagOf text }
  let fail (e : Nat) (c : Ctx) : LineOut × Dev := ({ ret := 1 }, er e c d)
  if broken ∨ lost then fail 12 c
  else if long ∨ 240 < text.length then fail 4 c
  else if bad ∨ text.all charOk = false then fail 11 c
  else if machine then
    if c.tag.isNone ∨ (text.drop 5).head?.any isSep = false then fail 6 { c with tag := none }
    else match checkedSuffix text with
      | none => fail 5 c
      | some l => prefixCheck c true a b text (l.drop 5) d
  else prefixCheck c false a b text text d

/-! ### Slave frames [04 R83, R84; 11 R213] -/

/-- SLAVE_RECORD_FRAME: a 0x4C frame is a LOAD line with its own tag. -/
def recordFrame (bs : List Nat) (d : Dev) : Dev :=
  let n := le ((bs.drop 6).take 2)
  let c : Ctx := { path := 2, tag := if bs.length < 3 then none else some (le ((bs.drop 1).take 2)), frame := true }
  if n = 0 ∨ 512 < n ∨ bs.length ≠ n + 12 ∨ crc32 (bs.take (n + 8)) ≠ le (bs.drop (n + 8)) then er 70 c d
  else
    let e := verbState d 4 ⟨[], []⟩
    if e ≠ 0 then er e c d
    else
      let (e, d) := loadChunk (le ((bs.drop 3).take 3)) ((bs.drop 8).take n) (acceptLine c d)
      respond c [] e d

/-- A slave frame: a record chunk, a line, or neither. -/
def frameIn (a b bs : List Nat) (broken lost : Bool) (d : Dev) : LineOut × Dev :=
  let c : Ctx := { path := 2 }
  if broken ∨ lost then checkLine c a b bs.tail broken lost false false d
  else match bs with
    | 0x4C :: _ => ({ ret := 1 }, recordFrame bs d)
    | 0x54 :: t => checkLine c a b t false false false false d
    | _ => ({ ret := 1 }, er 70 c d)

/-- A frame received in PARTIAL mode: its trailer goes, and its bit count must be a multiple of 8. -/
def partialIn (a b bs : List Nat) (broken lost : Bool) (d : Dev) : LineOut × Dev :=
  let body := bs.take (bs.length - 2)
  if broken ∨ lost ∨ le (bs.drop (bs.length - 2)) % 8 = 0 then frameIn a b body broken lost d
  else ({ ret := 1 }, er 11 { path := 2, tag := tagOf body.tail } d)

/-! ### Reply packets [11 R227, R228] -/

/-- The line without its terminator. -/
def dropEnd (t : List Nat) : List Nat := if t.getLast? = some 13 ∨ t.getLast? = some 10 then t.dropLast else t

/-- An answer line of member `m` to the line awaited: with its tag, or with none that could be read. -/
def isAnswer (t : Tunnel) (m : Nat) (l : List Nat) : Bool :=
  decide (t.member = m) && (decide (tagOf l = some t.tag) || decide (l.take 5 = tagText none))

/-- The words of an answer line after its tag, without the suffix. -/
def answerBody (l : List Nat) : List Nat := (l.take (l.length - 3)).drop 6

/-- The answer line is final: its word after the member prefix is OK or ER. -/
def isFinal (l : List Nat) : Bool :=
  match (answerBody l).splitOn 32 with
  | _ :: w :: _ => decide (w = ascii "OK") || decide (w = ascii "ER")
  | _ => false

/-- An answer line is relayed; the final one ends the wait [11 R226-R228]. -/
def relayAnswer (t : Tunnel) (l : List Nat) (d : Dev) : Dev :=
  let d := queueOut t.ctx.path t.ctx.member ((if t.own then answerBody l else l) ++ crlf) d
  if isFinal l then flushEvents (prompt t.ctx.path (d.onSt fun s => { s with tun := none })) else d

/-- A reply packet of member `m`: an answer awaited, an event line, or nothing. -/
def replyPacket (m : Nat) (broken : Bool) (text : List Nat) (d : Dev) : Dev :=
  let l := dropEnd text
  if broken then d
  else if l.head? = some 33 then takeEvent (l.take (l.length - 3)) d
  else match d.st.tun with
    | some t => if isAnswer t m l then relayAnswer t l d else d
    | none => d

/-- The bytes of a queue word that are valid. -/
def QWord.bytes (w : QWord) : List Nat := leBytes (if w.vb = 0 then 4 else w.vb) w.data

/-- The packet of bytes `bs`, header first, is the final line awaited. -/
def finalPacket (t : Tunnel) (bs : List Nat) : Bool :=
  let l := dropEnd bs.tail
  bitAt (bs.headD 0) 4 && isAnswer t (bs.headD 0 % 16) l && isFinal l

/-- The words of the first packet of a queue, and those after it. -/
def firstPacket (ws : List QWord) : List QWord × List QWord :=
  match ws with
  | [] => ([], [])
  | w :: r => if w.eop then ([w], r) else let (p, q) := firstPacket r; (w :: p, q)

/-- One of the queue's whole packets from the ring is the final line awaited; `n` bounds them. -/
def finalStored (n : Nat) (t : Tunnel) (ws : List QWord) : Bool :=
  match n with
  | 0 => false
  | n + 1 =>
    let (p, r) := firstPacket ws
    (p.any (fun w => decide (w.src = 3)) && finalPacket t (p.flatMap QWord.bytes)) || (!r.isEmpty && finalStored n t r)

/-- The final line awaited is still on its way to the interpreter: staged for Q0, being written, or stored. -/
def finalHere (t : Tunnel) (d : Dev) : Bool :=
  d.q0.staged.any (fun p => decide (p.1 = 3) && finalPacket t p.2) || decide (d.q0.src = 3) || finalStored 256 t d.q0.words

/-- A line has come from the ring: where it is the final line awaited and its wait has not run out, it has come in time; in the ACLK cycle of the
expiry it wins and the tie is recorded [11 R227; 09 R185]. -/
def tunnelArrival (d : Dev) : Dev :=
  match d.st.tun, d.q0.staged.getLast? with
  | some t, some (3, bs) =>
    if t.dead ∨ t.came ∨ finalPacket t bs = false ∨ (t.stop.any fun x => d.over Dev.aclk x) then d
    else
      let d := d.onSt fun s => { s with tun := some { t with came := true } }
      if t.stop.any fun x => d.ties Dev.aclk x then (d.set F.UA_STAT_COIN).coin Tag.ua else d
  | _, _ => d

/-- A TUNR cell: it may complete the answer awaited. -/
def tunnelCell (src arg data : Nat) (d : Dev) : Dev :=
  let d' := cellTunr src arg data d
  if d'.q0.staged.length = d.q0.staged.length then d' else tunnelArrival d'

/-- The wait for the final line has run out: the ACLK cycle of its end is over, and none has come that still stands. -/
def tunnelOver (d : Dev) : Bool :=
  match d.st.tun with
  | some t => t.dead || ((t.stop.any fun x => d.over Dev.aclk x) && !(t.came && finalHere t d))
  | none => false

/-- The wait ends with 076 [11 R227]. -/
def tunnelFail (d : Dev) : Dev :=
  match d.st.tun with
  | some t => if tunnelOver d then respond t.ctx [] 76 (d.onSt fun s => { s with tun := none }) else d
  | none => d

/-- TUNNEL_TIMEOUT: no final line has come within 100 ms; after START the answer leaves in the image's next LINE call [11 R223, R227]. -/
def tunnelTimeout (d : Dev) : Dev :=
  if tunnelOver d = false then d
  else if runsAlone d then tunnelFail d
  else d.onSt fun s => { s with tun := s.tun.map fun t => { t with dead := true } }

/-! ### Lines from Q0 [11 R205, R206, R212, R217] -/

/-- Bytes are echoed on the UART. -/
def echo (bs : List Nat) (d : Dev) : Dev := queueOut 1 0 bs d

/-- The line being taken changed by `g`. -/
def onTaken (g : Taken → Taken) (d : Dev) : Dev := d.onSt fun s => { s with taken := s.taken.map g }

/-- The UART is in console mode. -/
def consoleU (d : Dev) : Bool := !d.st.machU

/-- A character of a console line is edited in and echoed (Table SL-2). -/
def editChar (t : Taken) (ch : Nat) (d : Dev) : Dev :=
  if ch = 13 ∨ ch = 10 then echo crlf d
  else if ch = 8 ∨ ch = 127 then
    (if t.text.isEmpty then d else echo [8, 32, 8] (onTaken (fun t => { t with text := t.text.dropLast }) d))
  else if ch = 0x15 then prompt 1 (echo crlf (onTaken (fun t => { t with text := [], overflow := false, sub := false }) d))
  else if ch = 0x1A ∨ 127 < ch then onTaken (fun t => { t with sub := true }) d
  else if charOk ch then
    (if 240 ≤ t.text.length then echo [7] (onTaken (fun t => { t with overflow := true }) d)
     else echo [ch] (onTaken (fun t => { t with text := t.text ++ [ch] }) d))
  else d

/-- The characters of a word join the line being taken. -/
def takeChars (cs : List Nat) (d : Dev) : Dev :=
  match cs with
  | [] => d
  | ch :: r =>
    match d.st.taken with
    | none => d
    | some t => takeChars r (if t.src = 1 ∧ consoleU d then editChar t ch d else onTaken (fun t => { t with text := t.text ++ [ch] }) d)

/-- A word of Q0 joins the line being taken; its first byte is the header of a packet's first word [10 R188]. -/
def takeWord (w : QWord) (d : Dev) : Dev :=
  let bs := w.bytes
  if w.sop then
    let h := bs.headD 0
    takeChars bs.tail (d.onSt fun s => { s with taken := some ⟨h / 32, bitAt h 4, h % 16, false, [], false, false⟩ })
  else
    takeChars bs (if d.st.taken.isSome then d else d.onSt fun s => { s with taken := some ⟨w.src, false, 0, true, [], false, false⟩ })

/-- Before START the monitor takes nothing but from the host port that BOOTSEL selects [02 R36]. -/
def pathOpen (d : Dev) (path : Nat) : Bool := started d || decide (path = bootPath d)

/-- A whole packet has been taken: a reply packet, or a line. -/
def takenDone (a b : List Nat) (t : Taken) (broken : Bool) (d : Dev) : Option LineOut × Dev :=
  let d := d.onSt fun s => { s with taken := none }
  if pathOpen d (if t.src = 1 then 1 else if t.src = 2 then 2 else 3) = false then (none, d)
  else if t.src = 3 ∧ t.flag then (none, replyPacket t.raddr broken t.text d)
  else if t.src = 2 then
    let (o, d) := if t.flag then partialIn a b t.text broken t.lost d else frameIn a b t.text broken t.lost d
    (some o, d)
  else
    let console := decide (t.src = 1) && consoleU d
    let text := if console then t.text else dropEnd t.text
    let c : Ctx := { path := if t.src = 1 then 1 else 3, member := t.raddr }
    let (o, d) := checkLine c a b text broken t.lost t.overflow t.sub d
    (some o, d)

/-- The word begins a reply packet [10 Table QU-2]. -/
def repliesHead (w : QWord) : Bool := w.sop && decide (w.src = 3) && bitAt w.data 4

/-- The interpreter takes the word at the head of Q0: while a tunnelled line is awaited it takes reply packets only [11 R227, R228]. -/
def mayTake (d : Dev) (w : QWord) : Bool := d.st.tun.isNone || d.st.taken.isSome || repliesHead w

/-- What a LINE call returns when it has found no line to take. -/
def noLine (d : Dev) : Nat := if d.st.tun.isSome then 4 else 0

/-- Visible words are popped, in order, until a line has been handled or an answer awaited is complete; `n` bounds them [10 R196] (log entry 64). -/
def takeLines (n : Nat) (a b : List Nat) (d : Dev) : LineOut × Dev :=
  match n with
  | 0 => ({ ret := noLine d }, d)
  | n + 1 =>
    match d.q0.words with
    | [] => ({ ret := noLine d }, d)
    | w :: _ =>
      if qVisible d.q0 = 0 ∨ mayTake d w = false then ({ ret := noLine d }, d)
      else
        let await := d.st.tun.isSome
        let d := takeWord w (queuePop 0 d)
        match d.st.taken with
        | none => takeLines n a b d
        | some t =>
          if w.eop = false then takeLines n a b d
          else
            let d := if t.src = 1 ∧ consoleU d ∧ w.bytes.getLast? = some 0x1A then echo crlf d else d
            match takenDone a b t w.brk d with
            | (some o, d) => (o, d)
            | (none, d) => if await ∧ d.st.tun.isNone then ({ ret := 1 }, d) else takeLines n a b d

/-! ### The LINE call and the monitor loop [11 R220, R223, Table SL-5] -/

/-- The verb in progress goes on; its answer leaves when it is ready. -/
def continueVerb (d : Dev) : Nat × Dev :=
  match d.st.wait, d.st.answer with
  | none, _ => (0, d)
  | some _, some (ls, e) => (1, answerNow ls e d)
  | some (_, .head p shows), none =>
    if d.r (F.HP_STAT_STATE p) = 1 then (4, d) else (1, answerNow (headAnswer d p shows).1 (headAnswer d p shows).2 d)
  | some (_, .ringUp), none =>
    match d.sr.answer with
    | some e => (1, answerNow (if e = 86 then [] else memberLines d) e d)
    | none => (4, d)
  | some (_, .load), none =>
    match d.lg.read with
    | some r => if ownPending d then (4, d) else let (ls, e, d) := ledgerLoaded r d; (1, answerNow ls e d)
    | none => (4, d)
  | some (_, .leave _ _), none => (0, d)
  | some _, none => (4, d)

/-- One `!LOCKV` line for each SYS_LOCKV bit that has risen by no verb [12 R251]. -/
def lockvEvents (d : Dev) : Dev :=
  let n := d.st.rose.length
  let line (d : Dev) : Dev := monitorEvent 7 [kv "tags" (hexN 8 (plainRead d 0x40001010)), kv "addr" (hexN 8 (d.r F.SYS_LOCKA_ADDR))] d
  (List.range n).foldl (fun d _ => line d) (d.onSt fun s => { s with rose := [] })

/-- The transmit side takes another response: 256 bytes free and nothing waiting [11 R220]. -/
def roomToTake (d : Dev) : Bool := decide (d.ua.tx.length + 256 ≤ 2048) && d.st.out.isEmpty

/-- What the interpreter goes on with, or the next line of Q0. -/
def lineTurn (a b : List Nat) (d : Dev) : LineOut × Dev :=
  if d.st.opened.isSome then ({ ret := 3 }, d)
  else if d.st.wait.isSome then let (n, d) := continueVerb d; ({ ret := n }, d)
  else if tunnelOver d then ({ ret := 1 }, tunnelFail d)
  else if d.st.tun.isNone ∧ roomToTake d = false then ({ ret := 0 }, d)
  else takeLines 300 a b d

/-- One LINE call, or one turn of the monitor loop; `a` and `b` are what the ledger's slots hold. The first call after START loads the ledger, and
returns 4 until that is done [22 R429]. -/
def lineService (a b : List Nat) (d : Dev) : LineOut × Dev :=
  let d := lockvEvents (flushOut d)
  let d := if started d ∧ d.lg.loaded = false then ledgerAutoload a b d else d
  if started d ∧ d.lg.loaded = false then ({ ret := 4 }, d)
  else let (o, d) := lineTurn a b (flushEvents d); (o, flushEvents d)

/-- The interpreter runs: the monitor, or image code that calls it. -/
def monitorUp (d : Dev) : Bool := d.awake && decide (d.ck.boot = .up) && !d.ck.silent

/-- LINE: a line is handled, or a registered verb handed over in the buffer. -/
def svcLine (a b : List Nat) (d : Dev) : Dev :=
  let buf := (d.wr 1).toNat
  if blockOk d .w buf 256 = false then results 0xFFFFFFFE none d
  else
    let (o, d) := lineService a b d
    match o.verb with
    | none => results o.ret none d
    | some (i, tag, text) =>
      let d := results 2 (some i) (d.storeBytes buf (text ++ [0]))
      d.setW 3 (BitVec.ofNat 32 (tag.getD 0xFFFFFFFF))

/-- CALLM_LINE: the service, and before START the monitor's own loop. -/
def callmLine (a b : List Nat) (d : Dev) : Dev :=
  if d.co.image then callm 4 (svcLine a b) d
  else if monitorUp d then (lineService a b d).2
  else d

/-! ### VERB, REPLY and EVENT [11 Table SL-5, R224; 12 R233, R250] -/

/-- The NUL-terminated text at `a`, of at most `n` characters, readable by image code. -/
def textAt (d : Dev) (n a : Nat) : Option (List Nat) :=
  match n with
  | 0 => none
  | n + 1 =>
    if (inRam a && guardOk d .r a) = false then none
    else
      let c := (d.byte a).toNat
      if c = 0 then some [] else (textAt d n (a + 1)).map fun r => c :: r

/-- A name an image may register: 3 to 12 characters, a letter, then letters or digits. -/
def nameForm (t : List Nat) : Bool :=
  decide (3 ≤ t.length ∧ t.length ≤ 12) && t.all (fun c => isLetter c || isDigit c) && (t.head?.any isLetter)

/-- VERB. -/
def svcVerb (d : Dev) : Dev :=
  match textAt d 13 (d.wr 1).toNat with
  | none => results 0xFFFFFFFE none d
  | some t =>
    if nameForm t = false ∨ (allVerbs d).any fun x => decide (x.2 = upper t) then results 0xFFFFFFFE none d
    else if 32 ≤ d.st.names.length then results 0xFFFFFFFF none d
    else results d.st.names.length none (d.onSt fun s => { s with names := s.names ++ [t] })

/-- The error codes that an image may give (Table SV-1). -/
def imageCodes : List Nat := [1, 7, 8, 9, 10, 20, 23, 43, 80, 81, 82, 83, 84, 85, 86, 88]

/-- A name of an image's own error: 1 to 12 letters or digits. -/
def ownName (t : List Nat) : Bool := decide (1 ≤ t.length ∧ t.length ≤ 12) && t.all fun c => isLetter c || isDigit c

/-- The line that REPLY sends: data, OK, ER; or 3 for an error number not open to images. -/
def replyText (kind num : Nat) (text : List Nat) : Except Nat (List Nat) :=
  if kind = 0 then .ok (ascii "= " ++ text)
  else if kind = 1 then .ok (ascii "OK")
  else if imageCodes.contains num then .ok (finalText num)
  else if 100 ≤ num ∧ num ≤ 199 ∧ ownName text then .ok (ascii "ER " ++ dec3 num ++ 32 :: text)
  else .error 3

/-- REPLY. An OK and a catalogued error need no text. -/
def svcReply (d : Dev) : Dev :=
  let kind := (d.wr 2).toNat
  let num := (d.wr 3).toNat
  match d.st.opened with
  | none => results 1 none d
  | some (_, c) =>
    if 2 < kind then scratch 1 (results 0 none d)
    else
      let text := textAt d 241 (d.wr 1).toNat
      if text.isNone ∧ (kind = 0 ∨ (kind = 2 ∧ 100 ≤ num ∧ num ≤ 199)) then results 2 none d
      else match replyText kind num (text.getD []) with
        | .error e => results e none d
        | .ok l =>
          if 240 < (lineForm c l d).length then results 2 none d
          else
            let d := sendLine c l d
            let d := if kind = 0 then d else flushEvents (prompt c.path (d.onSt fun s => { s with opened := none }))
            results 0 none d

/-- EVENT. -/
def svcEvent (d : Dev) : Dev :=
  match textAt d 241 (d.wr 1).toNat with
  | none => results 3 none d
  | some t =>
    match eventNames.findIdx? fun n => decide (ascii n = t.takeWhile fun c => !isSep c) with
    | none => results 1 none d
    | some i =>
      if 240 < (eventForm (eventPath d) t d).length then results 3 none d
      else if eventOn d i = false then results 0 none d
      else if 16 ≤ d.st.store.length then results 2 none (takeEvent t d)
      else results 0 none (takeEvent t d)

/-! ### A verb's line as a command -/

/-- A line of the verb `name` reaches the interpreter, which is free to take it: the tag has been read, the checks of the line's form have
passed. -/
def verbLine (c : Ctx) (name : String) (a b text : List Nat) (d : Dev) : Dev :=
  if monitorUp d ∧ pathOpen d c.path ∧ responding d = false ∧ roomToTake d then (runLine c a b (ascii name ++ 32 :: text) d).2 else d

/-- A line of registered verb `i`. -/
def registeredLine (c : Ctx) (i : Nat) (text : List Nat) (d : Dev) : Dev :=
  match d.st.names[i]? with
  | some n => if monitorUp d ∧ pathOpen d c.path ∧ responding d = false ∧ roomToTake d then (runLine c [] [] (n ++ 32 :: text) d).2 else d
  | none => d

/-- A slave frame of the monitor reaches the interpreter [04 R83]. -/
def monitorFrame (bs : List Nat) (d : Dev) : Dev :=
  if monitorUp d ∧ started d = false ∧ bootPath d = 2 ∧ responding d = false then (frameIn [] [] bs false false d).2 else d

end Sys2Proof.Machine
end

