-- ==== Sys2Proof/Syntax.lean ====
section
/-! DEFINITION. The commands of the device: one constructor for each row of spec/opcode_table.json, with the operands that the world outside the
block, or the access that causes the command, supplies. -/

namespace Sys2Proof

/-- Bytes, the first one first. -/
abbrev Bytes := List Byte

/-- Where a line of the interpreter comes from: the host path (0 UART, 1 slave port, 2 ring), its tag in machine form, and the ring member that sent it
[11 R203-R205, R225]. -/
structure Via where
  path : Fin 3
  tag : Option (BitVec 16)
  member : BitVec 4
  deriving DecidableEq, Repr

/-- The commands. `win` gives the levels of the VPP (bit 0) and VIN33 (bit 1) comparators while a command may burn [05 R100]; `rom` says that boot ROM code
issued the command [05 R97]; `slotA` and `slotB` are the bytes that the ledger slots hold in the external flash [22 R424]. -/
inductive Instr where
  /-- `POWER_ON_RESET`: VIN33 rises through the power-on threshold after having been below the re-arm level; pins, registers, keep RAM and latches
  are reset and the reset ladder starts. [04 R65] -/
  | powerOnReset (also : BitVec 5)
  /-- `BROWN_OUT_RESET`: VIN33 stays below the brown-out threshold for the filter time; a brown-out reset follows and lasts until VIN33 rises through
  the power-on threshold. [04 R65] -/
  | brownOutReset (also : BitVec 5)
  /-- `PIN_RESET`: RESETN is held low for at least 1 µs and the device resets. [04 R65] -/
  | pinReset (also : BitVec 5)
  /-- `SOFT_RESET`: A write of 0x5EB0 to SYS_RST, or a RESET verb once its OK has left, causes a soft reset that keeps the UART rate. [04 R65] -/
  | softReset (byVerb : Bool) (also : BitVec 5)
  /-- `TAP_RESET`: TRSTN resets the JTAG TAP only, not the device. [04 R66] -/
  | tapReset
  /-- `RESETN_RELEASE`: RESETN rises; a reset ladder paused at step 4 resumes and BOOTSEL is latched. [04 R67] -/
  | resetnRelease (bootsel : Bool)
  /-- `XCLK_VALID`: The root clock becomes valid and a stopped reset or exit ladder continues with its bounds counted from that moment. [04 R67] -/
  | xclkValid
  /-- `PLL_LOCK`: The PLL achieves lock after reset, a reference change, Fallow or Dormant exit, or an unlock, and the clocked domains are
  distributed or arming resumes per UNLKACT. [03 R61] -/
  | pllLock (bootsel : Bool)
  /-- `OTP_SENSE_DONE`: OTP sensing into the shadows completes, bead counters are counted at margin-high, tamper inputs are sampled and the monitor
  enters. [04 R68] -/
  | otpSenseDone (ok : Bool) (alarms : BitVec 6)
  /-- `AUTOBAUD_CHARACTER`: A candidate character on URX is measured and, if it is a valid CR at a settable rate, fixes the UART divisor; otherwise
  ABFAIL counts it. [04 R71] -/
  | autobaudCharacter (interval : Nat) (c : Byte) (stop : Bool)
  /-- `CK_ROOT_SEL_WRITE`: A write to CK_ROOT.SEL changes the PLL reference if allowed, setting BUSY and freezing arming during the relock. [03 R42]
  -/
  | ckRootSelWrite (sel : Bool)
  /-- `HOLD_ENTRY`: With AUTOHOLD set the device enters Hold when no slot is armed, the core waits and no bus or sideband transfer runs. [03 R49] -/
  | holdEntry
  /-- `HOLD_EXIT`: A Hold condition stops holding and the device returns to Run within 1 µs. [03 R49] -/
  | holdExit
  /-- `LADDER_ENTRY`: Quiesce completes; host receivers close and the device enters Nap, Fallow or Dormant. [03 R51] -/
  | ladderEntry
  /-- `QUIESCE_TIMEOUT`: The 1 ms quiesce timer expires before quiesce completes and the request is refused with cause timeout. [03 R51] -/
  | quiesceTimeout
  /-- `DORMANT_REQUEST`: After the OK to POWER dormant has left, the interpreter requests Dormant entry. [12 R236] -/
  | dormantRequest
  /-- `WAKE`: An enabled wake source asserts in a sleep state; CK_WSRC records it and the exit ladder of the state runs. [03 R56] -/
  | wake (sources : BitVec 8)
  /-- `NAP_MOTION_WAKE`: In Nap the encoder position moves by CK_WENC.THRESH counts since entry and the device wakes. [03 R54] -/
  | napMotionWake (n : Fin 2)
  /-- `NAP_RATE_WAKE`: In Nap an enabled encoder exceeds 4 Mcounts/s; the device wakes and sets ENCFAST. [03 R54] -/
  | napRateWake (n : Fin 2)
  /-- `CK_TLTL_READ`: A read of CK_TLTL returns TLT[31:0] and latches TLT[47:32] into CK_TLTH. [03 R60] -/
  | ckTltlRead
  /-- `PLL_UNLOCK`: The PLL phase error exceeds ±2 ns for 8 reference periods; the occurrence in flight ends, armed slots are cancelled as misses and
  an unlock record is written. [03 R61] -/
  | pllUnlock
  /-- `XCLK_STOP`: No XIN edge for 200 ns; in Run or Hold this is a tamper alarm with outputs to reset states, in Nap or Fallow it only sets XSTOP.
  [03 R62] -/
  | xclkStop
  /-- `XCLK_RETURN`: XCLK returns after a stop and the PLL relocks to it within 80 µs. [03 R463] -/
  | xclkReturn
  /-- `RING_CLOCK_LOSS`: With SEL at 1 the recovered ring clock misses 4 periods; HOLDOVER and RLOSS are set and the PLL freezes its frequency. [03
  R63] -/
  | ringClockLoss
  /-- `HOLDOVER_END`: Holdover ends after 20 µs and the PLL relocks to XCLK with CK_ROOT.SEL reading 0. [03 R63] -/
  | holdoverEnd
  /-- `HELLO`: The HELLO verb answers the monitor identification line. [04 R74] -/
  | hello (via : Via) (text : Bytes)
  /-- `IDENT`: The IDENT verb answers serial, step code, life cycle and identity public key. [12 R235] -/
  | ident (via : Via) (text : Bytes)
  /-- `STATUS`: The STATUS verb answers load, reset, bead, tamper, ladder and, after START, core and record lines. [04 R74] -/
  | status (via : Via) (text : Bytes)
  /-- `MODE`: The MODE verb sets console or machine mode for the path from the next line onward. [11 R222] -/
  | mode (via : Via) (text : Bytes)
  /-- `LOAD`: A LOAD line appends, confirms or refuses a chunk of the image record by offset. [04 R81] -/
  | load (via : Via) (text : Bytes)
  /-- `LOAD_ABORT`: LOAD ABORT empties the load and answers OK. [04 R82] -/
  | loadAbort (via : Via) (text : Bytes)
  /-- `START`: START authenticates, decrypts, optionally advances rollback beads, locks CK_CFG and guards, and enters the image. [04 R85] -/
  | start (via : Via) (text : Bytes) (win : BitVec 2)
  /-- `POWER`: The POWER verb makes the immediate ladder checks and requests Nap, Fallow or Dormant. [12 R236] -/
  | power (via : Via) (text : Bytes)
  /-- `RESET`: The RESET verb answers OK and then causes a soft reset. [04 R65] -/
  | reset (via : Via) (text : Bytes)
  /-- `SLAVE_RECORD_FRAME`: A monitor slave frame of type 0x4C carries a CRC-protected record chunk handled as a LOAD line. [04 R83] -/
  | slaveRecordFrame (bytes : Bytes)
  /-- `SLAVE_LINE_FRAME`: A monitor slave frame of type 0x54 carries one Stolelle line of the boot subset. [04 R83] -/
  | slaveLineFrame (bytes : Bytes)
  /-- `OT_CMD_NOP`: OT_CMD code NOP does nothing. [05 R96] -/
  | otCmdNop (rom : Bool)
  /-- `OT_CMD_READ`: OT_CMD READ reads a word at normal reference into OT_DATA. [05 R96] -/
  | otCmdRead (rom : Bool)
  /-- `OT_CMD_MARGL`: OT_CMD MARGL reads a word at margin-low into OT_DATA. [05 R96] -/
  | otCmdMargl (rom : Bool)
  /-- `OT_CMD_MARGH`: OT_CMD MARGH reads a word at margin-high into OT_DATA. [05 R96] -/
  | otCmdMargh (rom : Bool)
  /-- `OT_CMD_BURN`: OT_CMD BURN checks issuer, locks, range and window and starts programming the bits of OT_DATA into a word. [05 R101] -/
  | otCmdBurn (rom : Bool) (win : BitVec 2)
  /-- `OT_CMD_REBURN`: OT_CMD REBURN programs the weak bits of a word. [05 R101] -/
  | otCmdReburn (rom : Bool) (win : BitVec 2)
  /-- `OT_CMD_INC`: OT_CMD INC increments a bead counter, re-burning weak beads first. [05 R107] -/
  | otCmdInc (rom : Bool) (win : BitVec 2)
  /-- `OT_CMD_CHECK`: OT_CMD CHECK counts a counter at both references into OT_CNT and flags weak beads. [05 R106] -/
  | otCmdCheck (rom : Bool)
  /-- `OT_CMD_LOCK`: OT_CMD LOCK burns the WLK and XLK bits set in OT_DATA. [05 R91] -/
  | otCmdLock (rom : Bool) (win : BitVec 2)
  /-- `OT_CMD_SENSE`: OT_CMD SENSE re-senses every shadow. [05 R94] -/
  | otCmdSense (rom : Bool)
  /-- `OT_CMD_INVALID`: An OT_CMD code 0xA–0xF is ignored and ends with ERR RANGE. [05 R96] -/
  | otCmdInvalid (rom : Bool) (k : Fin 6)
  /-- `BURN_PULSE_END`: A 50 µs burn pulse ends; the margin-low verify decides success, a retry or a VERIFY error. [05 R101] -/
  | burnPulseEnd (lo hi : Word) (tie : Bool)
  /-- `BURN_WINDOW_FALL`: An OT_WIN condition falls during a pulse; the pulse is cut within 1 µs and the command ends with WINDOW. [05 R100] -/
  | burnWindowFall (cond : BitVec 3) (lo hi : Word)
  /-- `OT_COMMAND_DONE`: The OTP engine finishes a command, clears BUSY, sets DONE, writes ERR and raises the OT interrupt. [05 R96] -/
  | otCommandDone
  /-- `TAMPER_BEAD_BURN`: With the engine idle and the window met, the pending-burn latch is served by incrementing the tamper counter. [05 R98] -/
  | tamperBeadBurn (win : BitVec 2)
  /-- `KY_NOP`: KY_CMD NOP does nothing. [06 R120] -/
  | kyNop
  /-- `KY_DERIVE`: KY_CMD DERIVE derives the path key into KREG, or is refused while KREG is full. [06 R117] -/
  | kyDerive
  /-- `KY_UNWRAP`: KY_CMD UNWRAP checks a wrapped key blob and fills KREG with its key and attribute. [06 R123] -/
  | kyUnwrap
  /-- `KY_WRAPKEY`: KY_CMD WRAPKEY wraps a key and attribute from KY_BUF into a blob. [06 R123] -/
  | kyWrapkey
  /-- `KY_ENCRYPT`: KY_CMD ENCRYPT encrypts the GCM record in KY_BUF under an ENC key in KREG. [06 R122] -/
  | kyEncrypt
  /-- `KY_DECRYPT`: KY_CMD DECRYPT decrypts and authenticates the GCM record in KY_BUF under a DEC key. [06 R122] -/
  | kyDecrypt
  /-- `KY_CLEAR`: KY_CMD CLEAR empties KREG. [06 R118] -/
  | kyClear
  /-- `KY_GENPAIR`: KY_CMD GENPAIR generates and loads a key pair and returns its handle and public key. [06 R124] -/
  | kyGenpair
  /-- `KY_LOADPAIR`: KY_CMD LOADPAIR recomputes and loads a pair from its handle. [06 R124] -/
  | kyLoadpair
  /-- `KY_SIGN`: KY_CMD SIGN signs a digest with the loaded pair. [06 R120] -/
  | kySign
  /-- `KY_ATTEST`: KY_CMD ATTEST builds the attestation message and signs it with IDK. [06 R131] -/
  | kyAttest
  /-- `KY_ESCROW`: KY_CMD ESCROW exports the image key for a stated life cycle encrypted to a signer. [06 R125] -/
  | kyEscrow
  /-- `KY_INVAL`: KY_CMD INVAL clears KREG and the pair and increments a key-generation counter. [06 R126] -/
  | kyInval (win : BitVec 2)
  /-- `KY_PERSO`: KY_CMD PERSO generates and burns the seed, the region 3 locks and the PERSO bead. [06 R127] -/
  | kyPerso (win : BitVec 2)
  /-- `KY_FIELD`: KY_CMD FIELD burns the FIELD life-cycle bead. [06 R127] -/
  | kyField (win : BitVec 2)
  /-- `KY_RETIRE`: KY_CMD RETIRE burns the RETIRED bead after the confirmation matches. [06 R127] -/
  | kyRetire (win : BitVec 2)
  /-- `KY_COMMAND_DONE`: The key engine finishes a command, clears BUSY, sets DONE, writes ERR and raises the KY interrupt. [06 R120] -/
  | kyCommandDone
  /-- `KREG_REMASK`: Every ACLK millisecond tick the key register is re-masked with a fresh TRNG mask. [06 R119] -/
  | kregRemask
  /-- `TRNG_HEALTH_FAIL`: A TRNG health test fails; TRNGF is set and drawing commands end with TRNG. [06 R112] -/
  | trngHealthFail
  /-- `TRNG_HEALTH_RECOVER`: 1024 consecutive raw samples pass both tests and TRNGF clears. [06 R112] -/
  | trngHealthRecover
  /-- `JTAG_INSTRUCTION_UPDATE`: A JTAG instruction is loaded and acts by life cycle, enabling debug, raising a debug-attach alarm or acting as
  BYPASS. [06 R129] -/
  | jtagInstructionUpdate (ir : BitVec 5)
  /-- `UNLOCK_CAPTURE`: Capture-DR of UNLOCK presents and keeps a fresh TRNG challenge. [06 R130] -/
  | unlockCapture
  /-- `UNLOCK_UPDATE`: Update-DR of UNLOCK takes slot, key and signature and starts verification. The 1 282 bits of the data register:
  `low` is bits 257 to 0 (SLOT and what was shifted into CHAL), `key` bits 769 to 258, `sig` bits 1281 to 770. [06 R130, Table KY-17] -/
  | unlockUpdate (low : BitVec 258) (key sig : BitVec 512)
  /-- `UNLOCK_VERIFY_DONE`: Unlock verification ends; success enables the debug path, failure counts in UNLKFAIL. [06 R130] -/
  | unlockVerifyDone
  /-- `TAMPER_ALARM`: A tamper source alarms; latches and QPEND are set, key commands abort, outputs go dark and a bead is burned or held pending.
  `sources` are those that alarm then, numbered as TP_STAT; one that alarmed before and is not among them has stopped (log entry 108). [06 R132, R135] -/
  | tamperAlarm (sources : BitVec 6)
  /-- `ADD`: Instruction ADD. [08 R167] -/
  | add (t a b : BitVec 4)
  /-- `ADDS`: Instruction ADDS with flags. [08 R164] -/
  | adds (t a b : BitVec 4)
  /-- `ADC`: Instruction ADC with carry in and flags. [08 R164] -/
  | adc (t a b : BitVec 4)
  /-- `SUB`: Instruction SUB. [08 R167] -/
  | sub (t a b : BitVec 4)
  /-- `SUBS`: Instruction SUBS with flags. [08 R164] -/
  | subs (t a b : BitVec 4)
  /-- `SBC`: Instruction SBC with borrow and flags. [08 R164] -/
  | sbc (t a b : BitVec 4)
  /-- `AND`: Instruction AND. [08 R167] -/
  | and (t a b : BitVec 4)
  /-- `OR`: Instruction OR. [08 R167] -/
  | or (t a b : BitVec 4)
  /-- `XOR`: Instruction XOR. [08 R167] -/
  | xor (t a b : BitVec 4)
  /-- `ANDS`: Instruction ANDS setting N and Z. [08 R164] -/
  | ands (t a b : BitVec 4)
  /-- `ANDN`: Instruction ANDN. [08 R167] -/
  | andn (t a b : BitVec 4)
  /-- `SHL`: Instruction SHL by register. [08 R167] -/
  | shl (t a b : BitVec 4)
  /-- `SHR`: Instruction SHR by register. [08 R167] -/
  | shr (t a b : BitVec 4)
  /-- `SAR`: Instruction SAR by register. [08 R167] -/
  | sar (t a b : BitVec 4)
  /-- `ROR`: Instruction ROR by register. [08 R167] -/
  | ror (t a b : BitVec 4)
  /-- `ADDI`: Instruction ADDI. [08 R167] -/
  | addi (t a : BitVec 4) (imm : BitVec 16)
  /-- `ADDSI`: Instruction ADDSI with flags. [08 R164] -/
  | addsi (t a : BitVec 4) (imm : BitVec 16)
  /-- `SUBSI`: Instruction SUBSI with flags. [08 R164] -/
  | subsi (t a : BitVec 4) (imm : BitVec 16)
  /-- `ANDI`: Instruction ANDI. [08 R167] -/
  | andi (t a : BitVec 4) (imm : BitVec 16)
  /-- `ORI`: Instruction ORI. [08 R167] -/
  | ori (t a : BitVec 4) (imm : BitVec 16)
  /-- `XORI`: Instruction XORI. [08 R167] -/
  | xori (t a : BitVec 4) (imm : BitVec 16)
  /-- `SHI`: Instruction SHI, shift or rotate by immediate. [08 R167] -/
  | shi (t a : BitVec 4) (imm : BitVec 16)
  /-- `MOVL`: Instruction MOVL. [08 R167] -/
  | movl (t : BitVec 4) (imm : BitVec 16)
  /-- `MOVH`: Instruction MOVH. [08 R167] -/
  | movh (t : BitVec 4) (imm : BitVec 16)
  /-- `EXTU`: Instruction EXTU. [08 R168] -/
  | extu (t a : BitVec 4) (lsb wm : BitVec 5)
  /-- `EXTS`: Instruction EXTS. [08 R168] -/
  | exts (t a : BitVec 4) (lsb wm : BitVec 5)
  /-- `INS`: Instruction INS. [08 R168] -/
  | ins (t a : BitVec 4) (lsb wm : BitVec 5)
  /-- `POPC`: Instruction POPC. [08 R168] -/
  | popc (t a : BitVec 4)
  /-- `CLZ`: Instruction CLZ. [08 R168] -/
  | clz (t a : BitVec 4)
  /-- `REVB`: Instruction REVB. [08 R168] -/
  | revb (t a : BitVec 4)
  /-- `SEXB`: Instruction SEXB. [08 R168] -/
  | sexb (t a : BitVec 4)
  /-- `SEXH`: Instruction SEXH. [08 R168] -/
  | sexh (t a : BitVec 4)
  /-- `MUL`: Instruction MUL. [08 R169] -/
  | mul (t a b : BitVec 4)
  /-- `MULLU`: Instruction MULLU. [08 R169] -/
  | mullu (t u a b : BitVec 4)
  /-- `MULLS`: Instruction MULLS. [08 R169] -/
  | mulls (t u a b : BitVec 4)
  /-- `DIVU`: Instruction DIVU. [08 R169] -/
  | divu (t a b : BitVec 4)
  /-- `DIVS`: Instruction DIVS. [08 R169] -/
  | divs (t a b : BitVec 4)
  /-- `REMU`: Instruction REMU. [08 R169] -/
  | remu (t a b : BitVec 4)
  /-- `REMS`: Instruction REMS. [08 R169] -/
  | rems (t a b : BitVec 4)
  /-- `LDW`: Instruction LDW, near or far word load. [08 R170] -/
  | ldw (t a : BitVec 4) (imm : BitVec 16)
  /-- `LDHU`: Instruction LDHU. [08 R170] -/
  | ldhu (t a : BitVec 4) (imm : BitVec 16)
  /-- `LDHS`: Instruction LDHS. [08 R170] -/
  | ldhs (t a : BitVec 4) (imm : BitVec 16)
  /-- `LDBU`: Instruction LDBU. [08 R170] -/
  | ldbu (t a : BitVec 4) (imm : BitVec 16)
  /-- `LDBS`: Instruction LDBS. [08 R170] -/
  | ldbs (t a : BitVec 4) (imm : BitVec 16)
  /-- `STW`: Instruction STW, posting into the write buffer. [08 R170] -/
  | stw (r a : BitVec 4) (imm : BitVec 16)
  /-- `STH`: Instruction STH. [08 R170] -/
  | sth (r a : BitVec 4) (imm : BitVec 16)
  /-- `STB`: Instruction STB. [08 R170] -/
  | stb (r a : BitVec 4) (imm : BitVec 16)
  /-- `LDWX`: Instruction LDWX, indexed word load. [08 R170] -/
  | ldwx (t a b : BitVec 4)
  /-- `STWX`: Instruction STWX, indexed word store. [08 R170] -/
  | stwx (r a b : BitVec 4)
  /-- `B_COND`: Instruction B with condition. [08 R165] -/
  | bCond (cond : BitVec 4) (disp : BitVec 22)
  /-- `CALL`: Instruction CALL. [08 R173] -/
  | call (disp : BitVec 26)
  /-- `JR`: Instruction JR. [08 R173] -/
  | jr (a : BitVec 4)
  /-- `CALLR`: Instruction CALLR. [08 R173] -/
  | callr (a : BitVec 4)
  /-- `NOP`: Instruction NOP. [08 R174] -/
  | nop
  /-- `SYNC`: Instruction SYNC, completing when buffers, loads and control writes have settled. [07 R150] -/
  | sync
  /-- `WAIT`: Instruction WAIT stops the core until a source is pending above LEVEL. [07 R141] -/
  | wait
  /-- `RETI`: Instruction RETI chains to an eligible source or unstacks the frame. [07 R155] -/
  | reti
  /-- `BRK`: Instruction BRK halts under debug or raises BRK. [08 R174] -/
  | brk
  /-- `MFSTAT`: Instruction MFSTAT. [08 R174] -/
  | mfstat (t : BitVec 4)
  /-- `MTSTAT`: Instruction MTSTAT writes flags and IE. [08 R175] -/
  | mtstat (a : BitVec 4)
  /-- `MFC`: Instruction MFC reads a core control register. [08 R176] -/
  | mfc (t : BitVec 4) (c : BitVec 12)
  /-- `MTC`: Instruction MTC writes a core control register. [08 R176] -/
  | mtc (a : BitVec 4) (c : BitVec 12)
  /-- `UNDEFINED_ENCODING`: An undefined instruction word raises UNDEF. [08 R163] -/
  | undefinedEncoding (w : Word)
  /-- `CALLM_INFO`: CALLM 0 returns the monitor version and SYS_BOOT. [07 R160] -/
  | callmInfo
  /-- `CALLM_KEYGO`: CALLM 1 loads path and buffer and starts a non-privileged key command. [07 R160] -/
  | callmKeygo
  /-- `CALLM_KEYEND`: CALLM 2 collects the result of a key command. [07 R160] -/
  | callmKeyend
  /-- `CALLM_TAMPER`: CALLM 3 returns TP_STAT and TP_LIVE. [07 R160] -/
  | callmTamper
  /-- `CALLM_LINE`: CALLM 4 runs the interpreter on the next Q0 line or continues a built-in verb. [11 R223] -/
  | callmLine (win : BitVec 2) (slotA slotB : Bytes)
  /-- `CALLM_VERB`: CALLM 5 registers a verb name. [11 R224] -/
  | callmVerb
  /-- `CALLM_REPLY`: CALLM 6 queues a data or final line for an open registered verb. [11 R224] -/
  | callmReply
  /-- `CALLM_EVENT`: CALLM 7 queues a catalogued event line. [11 R223] -/
  | callmEvent
  /-- `CALLM_UNUSED`: CALLM 8–15 and 16–255 return 0xFFFF_FFFF. [07 R160] -/
  | callmUnused (n : Fin 248)
  /-- `INTERRUPT_ENTRY`: An eligible source is taken at an instruction boundary; the frame is stacked and the handler starts. [07 R153] -/
  | interruptEntry
  /-- `WAIT_WAKE`: A source becomes pending above LEVEL and ends WAIT. [07 R141] -/
  | waitWake
  /-- `FAR_LOAD_RETURN`: A block returns a far load's word, writes the register and clears its busy bit. [07 R144] -/
  | farLoadReturn
  /-- `BUSI_REPORT`: A block reports a far access failed after issue, raising imprecise BUSI. [07 R157] -/
  | busiReport
  /-- `WRITE_BUFFER_DRAIN`: The oldest write-buffer entry drains to near memory or is accepted by its block. [07 R147] -/
  | writeBufferDrain
  /-- `XIP_LINE_FILL_DONE`: An XIP line fill completes and the line enters the cache. [07 R142] -/
  | xipLineFillDone (line : Bytes)
  /-- `THROTTLE_TICK`: At an ACLK tick in automatic mode the VCA target falls while the core waits without demand. [07 R139] -/
  | throttleTick
  /-- `DEMAND_CHANGE`: Throttle demand changes and the automatic target moves to the effective maximum. [07 R139] -/
  | demandChange
  /-- `CORE_VSET_WRITE`: A write to CORE_VSET changes the throttle mode or target. [07 R139] -/
  | coreVsetWrite (v : Word)
  /-- `IC_INVALIDATE`: A write of IC_CTL.INV invalidates both cache ways and the line buffer. [07 R143] -/
  | icInvalidate
  /-- `IC_STAT_CLEAR`: A write of IC_CTL.CLRST clears the cache counts. [07 R143] -/
  | icStatClear
  /-- `REGISTER_WRITE`: A write to a register without behaviour of its own, following its access codes. [00 R11] -/
  | registerWrite (a v : Word)
  /-- `PATTERN_WINDOW_ACCESS`: A core access to the pattern RAM window succeeds only with CPUWIN set and the plot unpinned and unused. [01 R19] -/
  | patternWindowAccess (write : Bool) (offset : BitVec 19) (v : Word)
  /-- `UART_CHARACTER`: The UART receives a character, writing it or 0x1A on framing error into the open Q0 packet. [11 R206] -/
  | uartCharacter (c : Byte) (stopOk : Bool)
  /-- `IDLE_CLOSE`: A UART word idle for Qn_CTL.IDLE µs is closed and pushed. [10 R191] -/
  | idleClose
  /-- `WRITE_SIDE_GRANT`: A free queue write side is granted to the next ready source, whose staged packet is then written. [10 R194] -/
  | writeSideGrant (q : Fin 2)
  /-- `QUEUE_POP`: A read of Qn_POP takes the oldest visible word or waits. [10 R197] -/
  | queuePop (q : Fin 2)
  /-- `POP_TIMEOUT`: A waiting pop times out and returns 0 with TMO set. [10 R197] -/
  | popTimeout (q : Fin 2)
  /-- `QUEUE_FLUSH`: Qn_CMD.FLUSH empties the queue and discards the open packet's rest. [10 R199] -/
  | queueFlush (q : Fin 2)
  /-- `QUEUE_DROP`: Qn_CMD.DROP discards the current packet. [10 R200] -/
  | queueDrop (q : Fin 2)
  /-- `QN_LOST_CLEAR`: A write to Qn_LOST clears its counts. [10 R198] -/
  | qnLostClear (q : Fin 2)
  /-- `LINE_TIMEOUT`: A UART packet stays open for LTMO ms and is ended with 0x1A. [11 R206] -/
  | lineTimeout
  /-- `UART_TRANSMIT`: UTX begins the next buffered character while CTSN is low. [11 R220] -/
  | uartTransmit (ctsn : Bool)
  /-- `UA_TX_WRITE`: A write to UA_TX appends a byte to the transmit buffer. [11 R220] -/
  | uaTxWrite (b : Byte)
  /-- `TUNNEL_TIMEOUT`: No final line from a member within 100 ms; the device answers ER 076 TUNNEL. [11 R227] -/
  | tunnelTimeout
  /-- `REGISTERED_VERB`: A line naming a registered verb is handed to the image, which must answer by REPLY. [11 R224] -/
  | registeredVerb (via : Via) (i : Fin 16) (text : Bytes)
  /-- `SET`: The SET verb writes one parameter. [12 R237] -/
  | set (via : Via) (text : Bytes)
  /-- `GET`: The GET verb answers one or all parameters. [12 R237] -/
  | get (via : Via) (text : Bytes)
  /-- `OTP_READ`: The OTP READ verb answers a shadow word. [12 R238] -/
  | otpRead (via : Via) (text : Bytes)
  /-- `OTP_MARGIN`: The OTP MARGIN verb answers normal, low and high reads and weak bits. [12 R238] -/
  | otpMargin (via : Via) (text : Bytes)
  /-- `OTP_CHECK`: The OTP CHECK verb answers a counter's counts. [12 R238] -/
  | otpCheck (via : Via) (text : Bytes)
  /-- `OTP_BURN`: The OTP BURN verb burns a word. [12 R238] -/
  | otpBurn (via : Via) (text : Bytes) (win : BitVec 2)
  /-- `OTP_REBURN`: The OTP REBURN verb re-burns weak bits of a word. [12 R238] -/
  | otpReburn (via : Via) (text : Bytes) (win : BitVec 2)
  /-- `OTP_REVOKE`: The OTP REVOKE verb burns a signer revocation bead. [12 R238] -/
  | otpRevoke (via : Via) (text : Bytes) (win : BitVec 2)
  /-- `OTP_LOCK`: The OTP LOCK verb burns lock bits. [12 R238] -/
  | otpLock (via : Via) (text : Bytes) (win : BitVec 2)
  /-- `OTP_SENSE`: The OTP SENSE verb re-senses the shadows. [12 R238] -/
  | otpSense (via : Via) (text : Bytes)
  /-- `KEY_ATTEST`: The KEY ATTEST verb answers a signed attestation. [12 R239] -/
  | keyAttest (via : Via) (text : Bytes)
  /-- `KEY_ESCROW`: The KEY ESCROW verb answers the escrowed image key. [12 R239] -/
  | keyEscrow (via : Via) (text : Bytes)
  /-- `KEY_INVAL`: The KEY INVAL verb invalidates a key generation slot. [12 R239] -/
  | keyInval (via : Via) (text : Bytes) (win : BitVec 2)
  /-- `KEY_PERSO`: The KEY PERSO verb personalises the device. [12 R239] -/
  | keyPerso (via : Via) (text : Bytes) (win : BitVec 2)
  /-- `KEY_FIELD`: The KEY FIELD verb moves the device to FIELD. [12 R239] -/
  | keyField (via : Via) (text : Bytes) (win : BitVec 2)
  /-- `KEY_RETIRE`: The KEY RETIRE verb retires the device. [12 R239] -/
  | keyRetire (via : Via) (text : Bytes) (win : BitVec 2)
  /-- `FURROW_SET`: The FURROW SET verb writes a furrow's configuration unless it is SOWN. [12 R240] -/
  | furrowSet (via : Via) (text : Bytes)
  /-- `FURROW_ON`: The FURROW ON verb puts a furrow in service. [12 R241] -/
  | furrowOn (via : Via) (text : Bytes)
  /-- `FURROW_OFF`: The FURROW OFF verb stops new arming of a furrow. [12 R241] -/
  | furrowOff (via : Via) (text : Bytes)
  /-- `FURROW_SHOW`: The FURROW SHOW verb answers a furrow's state and settings. [12 R241] -/
  | furrowShow (via : Via) (text : Bytes)
  /-- `PAGE_MAP`: The PAGE MAP verb enters a page-table entry. [12 R242] -/
  | pageMap (via : Via) (text : Bytes)
  /-- `PAGE_UNMAP`: The PAGE UNMAP verb removes a page-table entry of a FALLOW furrow. [12 R242] -/
  | pageUnmap (via : Via) (text : Bytes)
  /-- `PAGE_PIN`: The PAGE PIN verb pins a page. [12 R242] -/
  | pagePin (via : Via) (text : Bytes)
  /-- `PAGE_UNPIN`: The PAGE UNPIN verb ends a pin. [12 R242] -/
  | pageUnpin (via : Via) (text : Bytes)
  /-- `PAGE_FETCH`: The PAGE FETCH verb queues a Gleaner prefetch. [12 R242] -/
  | pageFetch (via : Via) (text : Bytes)
  /-- `PAGE_SHOW`: The PAGE SHOW verb answers a page's mapping and plot. [12 R242] -/
  | pageShow (via : Via) (text : Bytes)
  /-- `CHAN_SET`: The CHAN SET verb writes light-altering channel settings. [12 R243] -/
  | chanSet (via : Via) (text : Bytes)
  /-- `CHAN_ON`: The CHAN ON verb returns a channel at its next headland. [12 R243] -/
  | chanOn (via : Via) (text : Bytes)
  /-- `CHAN_OFF`: The CHAN OFF verb takes a channel out of service at its next headland. [12 R243] -/
  | chanOff (via : Via) (text : Bytes)
  /-- `CHAN_SHOW`: The CHAN SHOW verb answers a channel's state. [12 R243] -/
  | chanShow (via : Via) (text : Bytes)
  /-- `BANK_SET`: The BANK SET verb writes light-altering bank settings. [12 R243] -/
  | bankSet (via : Via) (text : Bytes)
  /-- `BANK_ON`: The BANK ON verb returns a bank at its next headland. [12 R243] -/
  | bankOn (via : Via) (text : Bytes)
  /-- `BANK_OFF`: The BANK OFF verb takes a bank out of service at its next headland. [12 R243] -/
  | bankOff (via : Via) (text : Bytes)
  /-- `BANK_SHOW`: The BANK SHOW verb answers a bank's state. [12 R243] -/
  | bankShow (via : Via) (text : Bytes)
  /-- `BANK_AIM`: The BANK AIM verb sets aiming duty on one channel. [12 R244] -/
  | bankAim (via : Via) (text : Bytes)
  /-- `HEAD_SET`: The HEAD SET verb writes skew and policy of a port. [12 R245] -/
  | headSet (via : Via) (text : Bytes)
  /-- `HEAD_ON`: The HEAD ON verb hitches a port and answers when hitching ends. [20 R394] -/
  | headOn (via : Via) (text : Bytes)
  /-- `HEAD_OFF`: The HEAD OFF verb takes a port out of service. [12 R245] -/
  | headOff (via : Via) (text : Bytes)
  /-- `HEAD_HITCH`: The HEAD HITCH verb reruns discovery on a port. [20 R394] -/
  | headHitch (via : Via) (text : Bytes)
  /-- `HEAD_SHOW`: The HEAD SHOW verb answers a port's state. [12 R245] -/
  | headShow (via : Via) (text : Bytes)
  /-- `RING_UP`: The RING UP verb brings the ring up with this device as master. [12 R246] -/
  | ringUp (via : Via) (text : Bytes)
  /-- `RING_DOWN`: The RING DOWN verb takes the ring down on the master. [12 R246] -/
  | ringDown (via : Via) (text : Bytes)
  /-- `RING_JOIN`: The RING JOIN verb asks a member to join at the next ring headland. [12 R246] -/
  | ringJoin (via : Via) (text : Bytes)
  /-- `RING_LEAVE`: The RING LEAVE verb ends a member's participation. [12 R246] -/
  | ringLeave (via : Via) (text : Bytes)
  /-- `RING_SHOW`: The RING SHOW verb answers the ring state and members. [12 R246] -/
  | ringShow (via : Via) (text : Bytes)
  /-- `ENC_SET`: The ENC SET verb writes encoder mode, termination, filter and scale. [12 R247] -/
  | encSet (via : Via) (text : Bytes)
  /-- `ENC_ZERO`: The ENC ZERO verb loads an encoder position. [12 R247] -/
  | encZero (via : Via) (text : Bytes)
  /-- `ENC_SHOW`: The ENC SHOW verb answers position, velocity and state. [12 R247] -/
  | encShow (via : Via) (text : Bytes)
  /-- `LEDGER_SHOW`: The LEDGER SHOW verb answers the last selection. [12 R248] -/
  | ledgerShow (via : Via) (text : Bytes)
  /-- `LEDGER_SAVE`: The LEDGER SAVE verb builds the body and starts the commit to the older slot. [22 R434] -/
  | ledgerSave (via : Via) (text : Bytes)
  /-- `LEDGER_LOAD`: The LEDGER LOAD verb selects and applies a slot again. [22 R431] -/
  | ledgerLoad (via : Via) (text slotA slotB : Bytes)
  /-- `TRACE_ON`: The TRACE ON verb enables event names. [12 R249] -/
  | traceOn (via : Via) (text : Bytes)
  /-- `TRACE_OFF`: The TRACE OFF verb disables event names other than TAMPER. [12 R249] -/
  | traceOff (via : Via) (text : Bytes)
  /-- `TRACE_SHOW`: The TRACE SHOW verb answers the enabled names. [12 R249] -/
  | traceShow (via : Via) (text : Bytes)
  /-- `CQ_PUSH`: A write to SP_CQC pushes a command-queue entry or refuses it. [13 R254] -/
  | cqPush (ctrl : Word)
  /-- `TRANSFER_GRANT`: With the bus free the serial memory port grants the highest-ranked pending request. [01 R16] -/
  | transferGrant
  /-- `TRANSFER_END`: A serial memory transfer ends, delivering its data and freeing the bus. [01 R17] -/
  | transferEnd (bytes : Bytes)
  /-- `CONTINUE_TIMEOUT`: No continuation starts within CTMO µs; the held select is released and CBRK set. [13 R256] -/
  | continueTimeout
  /-- `POLL_DUE`: A write-wait poll falls due and is requested at command-queue rank. [13 R257] -/
  | pollDue (n : Fin 4)
  /-- `WRITE_WAIT_TIMEOUT`: Write-wait exceeds WTMO ms; WTO is set and the select is taken out of service. [13 R257] -/
  | writeWaitTimeout (n : Fin 4)
  /-- `DISCOVERY_START`: A non-zero write to SP_DISC.SELMASK starts discovery of the named selects. [13 R262] -/
  | discoveryStart (selmask : BitVec 4) (wmax : BitVec 2)
  /-- `SP_RXD_POP`: A read of SP_RXD pops one word of the receive FIFO. [13 R255] -/
  | spRxdPop
  /-- `SSSN_FALL`: SSSN falls; the slave port takes mode and latches the outbound length. [13 R269] -/
  | sssnFall
  /-- `SLAVE_FRAME`: SSSN rises and the received frame enters Q0 as a packet, or is dropped or aborted. [13 R266] -/
  | slaveFrame (bytes : Bytes) (extra : Fin 8)
  /-- `SP_STX_WRITE`: A write to SP_STX appends a byte to the outbound buffer. [13 R269] -/
  | spStxWrite (b : Byte)
  /-- `SP_SCNT_CLEAR`: A write to SP_SCNT clears both slave counts. [13 R266] -/
  | spScntClear
  /-- `ENGINE_TICK`: A pin engine samples its inputs and sets state and outputs from its table. [14 R271] -/
  | engineTick (n : Fin 8) (pads : BitVec 16)
  /-- `PE_TIMER_EXPIRY`: The engine's state timer reaches LIMIT and TEXP becomes 1. [14 R278] -/
  | peTimerExpiry (n : Fin 8) (pads : BitVec 16)
  /-- `ENGINE_START`: RUN written from 0 to 1 loads INIT and OINIT and starts ticking. [14 R283] -/
  | engineStart (n : Fin 8)
  /-- `ENGINE_STOP`: RUN written to 0 stops the engine's ticks. [14 R283] -/
  | engineStop (n : Fin 8)
  /-- `PE_DATA_IN_WRITE`: A write of PEn_DATA.IN sets the core-written inputs. [14 R280] -/
  | peDataInWrite (n : Fin 8) (v : BitVec 4)
  /-- `QUADRATURE_COUNT`: Accepted A and B levels change and the position counts ±1 with an edge time. [15 R289] -/
  | quadratureCount (n : Fin 2) (a b : Bool)
  /-- `VELOCITY_UPDATE`: Every 1 µs of TLT the velocity estimate is updated or set to 0 on stop. [15 R294] -/
  | velocityUpdate (n : Fin 2)
  /-- `BURST_ONSET`: An input enters burst; velocity freezes and the disturbance unit is signalled. [15 R298] -/
  | burstOnset (n : Fin 2) (cm : Bool)
  /-- `BURST_CLEAR`: The burst condition of an input clears. [15 R298] -/
  | burstClear (n : Fin 2)
  /-- `FREEZE_END`: The velocity freeze ends 2 µs after clearing or 20 µs after onset and the history is cleared. [15 R299] -/
  | freezeEnd (n : Fin 2)
  /-- `Z_CAPTURE`: A rising Z edge captures the position; the input and the level of a sample of its Z, which the filter takes (log entry 106). [15 R287,
  R297] -/
  | zCapture (sample : Fin 2 × Bool)
  /-- `POSITION_LOAD`: EN_CMDn.LOAD loads the position unless a bound furrow is SOWN. [15 R293] -/
  | positionLoad (n : Fin 2)
  /-- `EN_POSITION_READ`: A read of EN_PnL returns position[31:0] and latches the high word. [15 R292] -/
  | enPositionRead (n : Fin 2)
  /-- `EN_ZCAPTURE_READ`: A read of EN_ZPnL latches the captured high word. [15 R297] -/
  | enZcaptureRead (n : Fin 2)
  /-- `EN_RING_POSITION_READ`: A read of EN_RPOSL latches the ring position high word. [15 R301] -/
  | enRingPositionRead
  /-- `EN_CNT_CLEAR`: A write to EN_CNTn clears reversal and quadrature error counts. [15 R290] -/
  | enCntClear (n : Fin 2)
  /-- `FURROW_EVALUATION`: The Sower sweep evaluates a furrow: reprojects, forms needs, admits and arms or skips or defers points. [16 R313] -/
  | furrowEvaluation (f : Fin 256)
  /-- `REFILL_EVALUATION`: The refill lane evaluates the furrow of a slot the Drill has freed. [16 R313] -/
  | refillEvaluation (f : Fin 256)
  /-- `SW_FCMD_ON`: SW_FCMD ON moves a FALLOW or FAULTED furrow to READY after checks. [16 R310] -/
  | swFcmdOn (f : Fin 256)
  /-- `SW_FCMD_OFF`: SW_FCMD OFF sets OFFP so the furrow arms nothing more. [16 R310] -/
  | swFcmdOff (f : Fin 256)
  /-- `SW_FCMD_CLRCNT`: SW_FCMD CLRCNT zeroes a furrow's counters. [16 R310] -/
  | swFcmdClrcnt (f : Fin 256)
  /-- `FURROW_CONFIG_WRITE`: A descriptor configuration write is accepted, held pending if light-altering, or locked while SOWN. [16 R304] -/
  | furrowConfigWrite (f : Fin 256) (i : Fin 6) (v : Word)
  /-- `FURROW_NEXT_READ`: A read of NEXTL latches NEXTH. [16 R303] -/
  | furrowNextRead (f : Fin 256)
  /-- `FURROW_LAST_READ`: A read of LASTL latches LASTH. [16 R303] -/
  | furrowLastRead (f : Fin 256)
  /-- `DR_TFIRE_READ`: A read of a slot's fire time low word latches its high bits. [16 R318] -/
  | drTfireRead (k : Fin 64)
  /-- `SW_COUNT_CLEAR`: A write to SW_MISS, SW_DEFER or SW_WDRAW clears it. [16 R324] -/
  | swCountClear (i : Fin 3)
  /-- `SW_FHL_CLEAR`: A write to SW_FHLb clears its count. [16 R322] -/
  | swFhlClear (b : Fin 6)
  /-- `DR_FIRED_CLEAR`: A write to DR_FIRED clears it. [16 R324] -/
  | drFiredClear
  /-- `SLOT_SET`: A slot reaches its set moment and the Drill takes its plots or meets a page fault. [16 R318] -/
  | slotSet (k : Fin 64)
  /-- `SLOT_FIRE`: A slot reaches its fire time and the occurrence starts on its bank. [16 R318] -/
  | slotFire (k : Fin 64)
  /-- `PATTERN_STEP_START`: The next pattern step of an occurrence starts and lights its channels. [17 R331] -/
  | patternStepStart (k : Fin 64)
  /-- `PULSE_END`: A step's pulse ends; sinks and booster go off and scan lines are released or held. [18 R348] -/
  | pulseEnd (k : Fin 64) (short : Nat)
  /-- `HEADLAND_COMMIT`: A headland of at least 2 µs opens and a bank's pending light-altering changes commit. [01 R20] -/
  | headlandCommit (b : Fin 6)
  /-- `FORCED_HEADLAND`: Pending changes wait 10 ms without a headland; the Sower forces one. [16 R322] -/
  | forcedHeadland (b : Fin 6)
  /-- `GR_PTE_WRITE`: A write to GR_PTE updates a page-table entry, replacing, releasing or locking. [17 R334] -/
  | grPteWrite (v : Word)
  /-- `GR_CMD_PIN`: GR_CMD PIN pins a page, allocating a plot if needed. [17 R335] -/
  | grCmdPin (f g : Fin 256)
  /-- `GR_CMD_UNPIN`: GR_CMD UNPIN clears a pin. [17 R335] -/
  | grCmdUnpin (f g : Fin 256)
  /-- `GR_CMD_FETCH`: GR_CMD FETCH creates a command fetch. [17 R337] -/
  | grCmdFetch (f g : Fin 256)
  /-- `PAGE_ARRIVAL`: A fetch's last byte is written and the plot becomes RESIDENT. [17 R338] -/
  | pageArrival (f g : Fin 256) (bytes : Bytes)
  /-- `PAGE_FETCH_FAILED`: A fetch fails; the plot returns to FREE and the entry's ERR is set. [17 R338] -/
  | pageFetchFailed (f g : Fin 256)
  /-- `GR_CNT_CLEAR`: A write to GR_CNT clears its counts. [17 R338] -/
  | grCntClear
  /-- `SCAN_ASSERT`: A bank asserts a scan line at step start minus lead, after dead time. [18 R349] -/
  | scanAssert (k : Fin 64)
  /-- `SCAN_OVERLOAD`: An asserted scan line stays above 1.0 V for 200 ns and is marked overloaded. [18 R351] -/
  | scanOverload (line : Fin 8)
  /-- `RISE_WINDOW_END`: The rise window of a pulse ends; the open check is made and the short check begins. [18 R355] -/
  | riseWindowEnd (b : Fin 6) (reg low : Byte)
  /-- `SHORT_DETECTED`: A sink pin stays above VSHORT for 50 ns and the channel goes out of service. [18 R356] -/
  | shortDetected (c : Fin 48)
  /-- `BOOSTER_CHECK`: At the booster check point the sense voltage is judged for open and regulation. [18 R354] -/
  | boosterCheck (b : Fin 6) (sense : Nat)
  /-- `BOOSTER_OVERCURRENT`: The booster sense exceeds its limit for 50 ns; the occurrence ends and the bank goes fallow. [18 R354] -/
  | boosterOvercurrent (b : Fin 6) (sense : Nat)
  /-- `VGD_UNDERVOLTAGE`: A VGD supply falls below its undervoltage level and its boosters' gates are held low. [23 R450] -/
  | vgdUndervoltage (i : Fin 2)
  /-- `LD_CHCMD_ON`: LD_CHCMDc.ON returns a channel at the next headland. [18 R358] -/
  | ldChcmdOn (c : Fin 48)
  /-- `LD_CHCMD_OFF`: LD_CHCMDc.OFF takes a channel out of service at the next headland. [18 R358] -/
  | ldChcmdOff (c : Fin 48)
  /-- `LD_BCMD_ON`: LD_BCMDb.ON returns a bank at the next headland. [18 R358] -/
  | ldBcmdOn (b : Fin 6)
  /-- `LD_BCMD_OFF`: LD_BCMDb.OFF takes a bank out of service at the next headland. [18 R358] -/
  | ldBcmdOff (b : Fin 6)
  /-- `LD_CHCNT_CLEAR`: A write to LD_CHCNTc clears its fault counts. [18 R357] -/
  | ldChcntClear (c : Fin 48)
  /-- `AIMING_PERIOD_START`: An aiming PWM period starts; channels are admitted and driven for DUTY ns. [18 R360] -/
  | aimingPeriodStart
  /-- `AIMING_PULSE_END`: An aiming pulse ends and the aiming headland opens. [18 R360] -/
  | aimingPulseEnd (c : Fin 48)
  /-- `CHARGE_WINDOW_ROLL`: At a 100 µs boundary the oldest charge window drops and a new one opens. [19 R363] -/
  | chargeWindowRoll
  /-- `THERMAL_UPDATE`: At each ACLK tick every channel's two-pole thermal estimate is updated. [19 R366] -/
  | thermalUpdate
  /-- `ADC_SAMPLE`: The monitor ADC samples its next channel into BD_ADCi. [19 R369] -/
  | adcSample (i : Fin 8) (code : BitVec 10)
  /-- `SAG_TRIP`: An active sag comparator trips and the occurrence takes cause sag. [19 R371] -/
  | sagTrip (b : Fin 6)
  /-- `SAG_CLEAR`: VLS rises above threshold plus hysteresis and the comparator clears. [19 R371] -/
  | sagClear (b : Fin 6)
  /-- `COMPENSATION_FAIL`: Short time reaches a quarter of WIDTH with a sink still short and the occurrence aborts. [19 R375] -/
  | compensationFail (b : Fin 6)
  /-- `BD_BCNT_CLEAR`: A write to BD_BCNTb clears its counts. [19 R371] -/
  | bdBcntClear (b : Fin 6)
  /-- `BD_ASKIP_CLEAR`: A write to BD_ASKIP clears it. [19 R368] -/
  | bdAskipClear
  /-- `TRIGGER_ASSERT`: A head port drives its trigger at step start minus the lead. [20 R382] -/
  | triggerAssert (k : Fin 64) (i : Nat)
  /-- `TRIGGER_END`: The trigger returns to 0 after TWID ns. [20 R382] -/
  | triggerEnd (p : Fin 6)
  /-- `EXPOSURE_CHECK`: At the end of the exposure window the TRG step is judged covered or missed. [20 R384] -/
  | exposureCheck (p : Fin 6) (cover : Fin 3) (tie : Bool)
  /-- `PRSN_CHANGE`: PRSNn changes level and restarts the presence debounce. [20 R385] -/
  | prsnChange (p : Fin 6) (low : Bool)
  /-- `PRESENCE_DEBOUNCE`: PRSNn holds a level for 10 ms and PRES changes, starting hitching or ending service. [20 R385] -/
  | presenceDebounce (p : Fin 6)
  /-- `SEND_HELLO`: The port sends HELLO and awaits IDENT. [20 R393] -/
  | sendHello (p : Fin 6)
  /-- `SEND_PARAM`: The port sends PARAM with EXPT and awaits ACK. [20 R393] -/
  | sendParam (p : Fin 6)
  /-- `SEND_ARMN`: The port sends an ARMN notice. [20 R389] -/
  | sendArmn (p : Fin 6)
  /-- `SEND_DISARM`: The port sends a DISARM notice. [20 R389] -/
  | sendDisarm (p : Fin 6)
  /-- `SEND_TAINT`: The port sends a TAINT message. [20 R398] -/
  | sendTaint (p : Fin 6)
  /-- `SEND_HOLD`: The port sends HOLD. [20 R391] -/
  | sendHold (p : Fin 6)
  /-- `SEND_GO`: The port sends GO. [20 R391] -/
  | sendGo (p : Fin 6)
  /-- `SEND_POLL`: The port sends POLL and awaits a reply. [20 R392] -/
  | sendPoll (p : Fin 6)
  /-- `SEND_BYE`: The port sends BYE on an OFF command. [20 R395] -/
  | sendBye (p : Fin 6)
  /-- `RECEIVE_IDENT`: A valid IDENT is received and hitching records the head or refuses it. [20 R393] -/
  | receiveIdent (p : Fin 6) (age : Nat) (bytes : Bytes)
  /-- `RECEIVE_ACK`: A valid ACK is received, completing hitching or answering a POLL or PARAM. [20 R393] -/
  | receiveAck (p : Fin 6) (age : Nat) (bytes : Bytes)
  /-- `RECEIVE_NOTE`: A valid NOTE is staged for Q1. [20 R390] -/
  | receiveNote (p : Fin 6) (age : Nat) (bytes : Bytes)
  /-- `RECEIVE_HEAD_BYE`: A head BYE is staged and the port leaves service. [20 R395] -/
  | receiveHeadBye (p : Fin 6) (age : Nat) (bytes : Bytes)
  /-- `MESSAGE_GAP_TIMEOUT`: More than 20 µs of idle within a message ends it as broken. [20 R386] -/
  | messageGapTimeout (p : Fin 6)
  /-- `REPLY_WINDOW_EXPIRY`: No reply starts within RWIN; retries, refusal or silence counting follow. [20 R386] -/
  | replyWindowExpiry (p : Fin 6)
  /-- `POLL_INTERVAL_EXPIRY`: PIVL ms pass after a reply window and a POLL falls due. [20 R392] -/
  | pollIntervalExpiry (p : Fin 6)
  /-- `HP_CTL_ON`: HPn_CTL.ON starts hitching a FALLOW port. [20 R393] -/
  | hpCtlOn (p : Fin 6)
  /-- `HP_CTL_OFF`: HPn_CTL.OFF takes a port out of service. [20 R395] -/
  | hpCtlOff (p : Fin 6)
  /-- `HP_CTL_HITCH`: HPn_CTL.HITCH reruns discovery. [20 R393] -/
  | hpCtlHitch (p : Fin 6)
  /-- `HP_EXPT_WRITE`: A write to HPn_EXPT on an ON port queues a PARAM. [20 R393] -/
  | hpExptWrite (p : Fin 6) (v : Word)
  /-- `HP_CNT_CLEAR`: A write to HPn_CNT clears its counts. [20 R389] -/
  | hpCntClear (p : Fin 6)
  /-- `HP_XCNT_CLEAR`: A write to HPn_XCNT clears its counts. [20 R384] -/
  | hpXcntClear (p : Fin 6)
  /-- `EPOCH_SEND`: The master sends an epoch and one cell every 1 µs, setting RHL at ring headlands. [21 R404] -/
  | epochSend
  /-- `EPOCH_RECEIVE`: A member receives a valid epoch, computes its offset and loads, skips or stalls its TLT. [21 R408] -/
  | epochReceive (bytes : Bytes) (frac : Fin 16) (errs : Nat) (empty : Bool)
  /-- `CELL_DISC`: A DISC cell assigns addresses round the ring. [21 R406] -/
  | cellDisc (src : BitVec 4) (arg : Byte)
  /-- `CELL_MEAS`: A MEAS cell makes a device measure its output link by reflection. [21 R407] -/
  | cellMeas (src : BitVec 4) (arg : Byte) (link : Nat)
  /-- `CELL_MRES`: An MRES cell reports a link delay to the master. [21 R407] -/
  | cellMres (src : BitVec 4) (data : Word)
  /-- `CELL_DLY`: A DLY cell gives a member its delay D. [21 R406] -/
  | cellDly (src : BitVec 4) (arg : Byte) (data : Word)
  /-- `CELL_ALIGNED`: An ALIGNED cell tells the master a member is aligned. [21 R406] -/
  | cellAligned (src : BitVec 4)
  /-- `CELL_JOIN`: A JOIN cell requests admission at the next ring headland. [21 R414] -/
  | cellJoin (src : BitVec 4)
  /-- `CELL_LEAVE`: A LEAVE cell tells the master a member leaves. [21 R413] -/
  | cellLeave (src : BitVec 4)
  /-- `CELL_ROLL`: A ROLL cell makes addressed members send JOIN. [21 R413] -/
  | cellRoll
  /-- `CELL_TAINT`: A TAINT cell is handed to the taint follow rule. [21 R419] -/
  | cellTaint (src : BitVec 4) (arg : Byte) (data : Word)
  /-- `CELL_TUN`: A TUN cell adds characters to a tunnelled line and writes it to Q0 on LAST. [21 R417] -/
  | cellTun (src : BitVec 4) (arg : Byte) (data : Word)
  /-- `CELL_TUNR`: A TUNR cell adds characters to a reply line and writes it to Q0 on LAST. [21 R418] -/
  | cellTunr (src : BitVec 4) (arg : Byte) (data : Word)
  /-- `ALIGNMENT_TIMEOUT`: The 100 µs alignment bound ends and unaligned members are left out. [21 R406] -/
  | alignmentTimeout
  /-- `EPOCH_WATCHDOG_EXPIRY`: No valid epoch for EWD µs; a member enters BREAK or the master BROKEN. [21 R415] -/
  | epochWatchdogExpiry
  /-- `SR_CTL_UP`: SR_CTL.UP starts ring-up as master. [21 R406] -/
  | srCtlUp
  /-- `SR_CTL_DOWN`: SR_CTL.DOWN takes the ring down from the master. [21 R416] -/
  | srCtlDown
  /-- `SR_CTL_JOIN`: SR_CTL.JOIN sends JOIN from a LEFT member. [21 R413] -/
  | srCtlJoin
  /-- `SR_CTL_LEAVE`: SR_CTL.LEAVE makes a member send LEAVE and become LEFT. [21 R413] -/
  | srCtlLeave
  /-- `SR_CNT_CLEAR`: A write to SR_CNT clears its counts. [21 R403] -/
  | srCntClear
  /-- `LEDGER_COMMIT_STEP`: After write-wait ends the ledger commit performs its next erase, program or read-back, ending in OK or ER 089. [22 R435]
  -/
  | ledgerCommitStep (good : Bool) (back : Bytes)
  /-- `RING_CLOCK_RETURN`: A recovered ring clock appears again on SYIP/SYIN and CK_STAT.RINGCLK becomes 1, allowing CK_ROOT.SEL to be set again. [03
  R42] -/
  | ringClockReturn
  /-- `VGD_UNDERVOLTAGE_END`: A VGD supply rises back above its undervoltage level and its boosters' gates are no longer held low. [23 R450] -/
  | vgdUndervoltageEnd (i : Fin 2)
  /-- `TAMPER_ALARM_CLEAR`: Every tamper source stops alarming, so TP_LIVE clears and a later alarm counts as a new onset. [06 R133] -/
  | tamperAlarmClear
  /-- `VCA_SETTLED`: VCA reaches within 20 mV of its target, CORE_VSTAT.SETTLED becomes 1 and a SYNC waiting on the change completes. [07 R140] -/
  | vcaSettled
  /-- `CACHE_INVALIDATION_DONE`: An invalidation started by IC_CTL.INV finishes, INV reads 0 and a SYNC waiting on it completes. [07 R143] -/
  | cacheInvalidationDone
  /-- `BYE_START_TIMEOUT`: A BYE queued on an OFF command cannot start within 1 ms and is dropped. [20 R395] -/
  | byeStartTimeout (p : Fin 6)
  deriving DecidableEq, Repr

end Sys2Proof
end

