-- ==== Sys2Proof/Machine/State.lean ====
section
/-! DEFINITION. The state: the device and the queue of commands that wait; faults, refusals and the state after reset. -/

namespace Sys2Proof.Machine

/-- The state of the block. -/
structure State where
  dev : Dev
  pending : List Instr
  deriving DecidableEq, Repr

/-- Why a command stops with a fault. -/
inductive Fault where
  /-- Raised by a command whose operand has not the length the spec gives it, or by UNDEFINED_ENCODING with a word that encodes an instruction: such a term
  is no command of the table. Safe: nothing is claimed of it. -/
  | illFormed
  deriving DecidableEq, Repr

/-- Why a command has no meaning. -/
inductive Refusal where
  /-- Raised by the arm of a command that has no meaning yet; no arm raises it now. Safe. -/
  | notModelled (mnemonic : String)
  deriving DecidableEq, Repr

/-- The device right after a power-on reset: every register at its reset value but SYS_RSTC, which holds the cause [04 R66]; the reset ladder waits for
XCLK. The values that the spec does not give are those of the log (entries 2 and 20 to 25). -/
def Dev.reset : Dev := { regs := [(F.SYS_RSTC_POR.key, 1)] }

/-- The state right after reset: nothing waits. -/
def State.reset : State := { dev := Dev.reset, pending := [] }

end Sys2Proof.Machine
end

