-- ==== Sys2Proof/Decode.lean ====
section
/-! DEFINITION. The table of commands gives no bits, so no word spells a command. The encodings of the Cartil instructions [08 R162, R163] tell which words
are undefined. -/

namespace Sys2Proof

/-- The command that a word spells by the bits of spec/opcode_table.json: no row of the table has bits. -/
def decodeTableWord (_nbits _w : Nat) : Option Instr := none

/-! ### The encodings of the Cartil instructions -/

/-- The field of `n` bits of `w` from bit `lo` on. -/
def wordField (w lo n : Nat) : Nat := w / 2 ^ lo % 2 ^ n

/-- A register field. -/
def regField (w lo : Nat) : BitVec 4 := BitVec.ofNat 4 (wordField w lo 4)

/-- The 16-bit immediate field. -/
def immField (w : Nat) : BitVec 16 := BitVec.ofNat 16 (wordField w 0 16)

/-- A 5-bit field. -/
def fiveField (w lo : Nat) : BitVec 5 := BitVec.ofNat 5 (wordField w lo 5)

/-- `i`, where the field that must be 0 is 0. -/
def zeroField (f : Nat) (i : Instr) : Option Instr := if f = 0 then some i else none

/-- The R format: fn [5:0], with [9:6] 0 and every unused register field 0 [08 Tables IS-2, IS-4]. -/
def decodeR (w : Nat) : Option Instr :=
  let d := regField w 22
  let a := regField w 18
  let b := regField w 14
  let e := regField w 10
  if wordField w 6 4 ≠ 0 then none
  else match wordField w 0 6 with
  | 0x01 => zeroField e.toNat (.add d a b)
  | 0x02 => zeroField e.toNat (.adds d a b)
  | 0x03 => zeroField e.toNat (.adc d a b)
  | 0x04 => zeroField e.toNat (.sub d a b)
  | 0x05 => zeroField e.toNat (.subs d a b)
  | 0x06 => zeroField e.toNat (.sbc d a b)
  | 0x08 => zeroField e.toNat (.and d a b)
  | 0x09 => zeroField e.toNat (.ands d a b)
  | 0x0A => zeroField e.toNat (.or d a b)
  | 0x0B => zeroField e.toNat (.xor d a b)
  | 0x0C => zeroField e.toNat (.andn d a b)
  | 0x10 => zeroField e.toNat (.shl d a b)
  | 0x11 => zeroField e.toNat (.shr d a b)
  | 0x12 => zeroField e.toNat (.sar d a b)
  | 0x13 => zeroField e.toNat (.ror d a b)
  | 0x18 => zeroField (b.toNat + e.toNat) (.popc d a)
  | 0x19 => zeroField (b.toNat + e.toNat) (.clz d a)
  | 0x1A => zeroField (b.toNat + e.toNat) (.revb d a)
  | 0x1B => zeroField (b.toNat + e.toNat) (.sexb d a)
  | 0x1C => zeroField (b.toNat + e.toNat) (.sexh d a)
  | 0x20 => zeroField e.toNat (.mul d a b)
  | 0x21 => some (.mullu d e a b)
  | 0x22 => some (.mulls d e a b)
  | 0x24 => zeroField e.toNat (.divu d a b)
  | 0x25 => zeroField e.toNat (.divs d a b)
  | 0x26 => zeroField e.toNat (.remu d a b)
  | 0x27 => zeroField e.toNat (.rems d a b)
  | 0x28 => zeroField e.toNat (.ldwx d a b)
  | 0x29 => zeroField e.toNat (.stwx d a b)
  | 0x30 => zeroField (d.toNat + b.toNat + e.toNat) (.jr a)
  | 0x31 => zeroField (d.toNat + b.toNat + e.toNat) (.callr a)
  | _ => none

/-- The I and F formats: [17:16], or [7:0], 0 [08 Tables IS-2, IS-3, IS-7, IS-8]. -/
def decodeI (w : Nat) : Option Instr :=
  let d := regField w 22
  let a := regField w 18
  let imm := immField w
  let lsb := fiveField w 13
  let wm := fiveField w 8
  let z := wordField w 16 2
  let fits := if 32 < lsb.toNat + wm.toNat + 1 then 1 else 0
  match wordField w 26 6 with
  | 0x01 => zeroField z (.addi d a imm)
  | 0x02 => zeroField z (.addsi d a imm)
  | 0x03 => zeroField z (.subsi d a imm)
  | 0x04 => zeroField z (.andi d a imm)
  | 0x05 => zeroField z (.ori d a imm)
  | 0x06 => zeroField z (.xori d a imm)
  | 0x07 => zeroField (z + imm.toNat / 128) (.shi d a imm)
  | 0x08 => zeroField (z + a.toNat) (.movl d imm)
  | 0x09 => zeroField (z + a.toNat) (.movh d imm)
  | 0x0C => zeroField (wordField w 0 8 + fits) (.extu d a lsb wm)
  | 0x0D => zeroField (wordField w 0 8 + fits) (.exts d a lsb wm)
  | 0x0E => zeroField (wordField w 0 8 + fits) (.ins d a lsb wm)
  | 0x10 => zeroField z (.ldw d a imm)
  | 0x11 => zeroField z (.ldhu d a imm)
  | 0x12 => zeroField z (.ldhs d a imm)
  | 0x13 => zeroField z (.ldbu d a imm)
  | 0x14 => zeroField z (.ldbs d a imm)
  | 0x18 => zeroField z (.stw d a imm)
  | 0x19 => zeroField z (.sth d a imm)
  | 0x1A => zeroField z (.stb d a imm)
  | _ => none

/-- SYS: k names the instruction; the register fields that it does not use are 0 [08 R174]. -/
def decodeSys (w : Nat) : Option Instr :=
  let d := regField w 22
  let a := regField w 18
  match wordField w 0 12 with
  | 0x00 => zeroField (d.toNat + a.toNat) .nop
  | 0x01 => zeroField (d.toNat + a.toNat) .sync
  | 0x02 => zeroField (d.toNat + a.toNat) .wait
  | 0x03 => zeroField (d.toNat + a.toNat) .reti
  | 0x04 => zeroField (d.toNat + a.toNat) .brk
  | 0x05 => zeroField a.toNat (.mfstat d)
  | 0x06 => zeroField d.toNat (.mtstat a)
  | _ => none

/-- The B, J and S formats [08 Tables IS-2, IS-3, IS-12]; cond 15 is undefined [08 R165]. -/
def decodeBJS (w : Nat) : Option Instr :=
  let d := regField w 22
  let a := regField w 18
  let k := BitVec.ofNat 12 (wordField w 0 12)
  let z := wordField w 12 6
  match wordField w 26 6 with
  | 0x20 => if wordField w 22 4 = 15 then none else some (.bCond d (BitVec.ofNat 22 (wordField w 0 22)))
  | 0x21 => some (.call (BitVec.ofNat 26 (wordField w 0 26)))
  | 0x30 => if z = 0 then decodeSys w else none
  | 0x32 => zeroField (z + a.toNat) (.mfc d k)
  | 0x33 => zeroField (z + d.toNat) (.mtc a k)
  | _ => none

/-- The instruction that a word encodes, CALLM apart. -/
def decodeWord (w : Nat) : Option Instr :=
  if wordField w 26 6 = 0 then decodeR w
  else if wordField w 26 6 < 0x20 then decodeI w
  else decodeBJS w

/-- CALLM n: 0x31, with d, a and [17:8] 0 [08 R174]. -/
def callmWord (w : Nat) : Bool := decide (w / 2 ^ 26 = 0x31 ∧ w % 2 ^ 26 < 256)

/-- The word is an encoding of Tables IS-2 to IS-12; every other word raises UNDEF [08 R162, R163]. -/
def definedWord (w : Nat) : Bool := (decodeWord w).isSome || callmWord w

/-- A word of the R format. -/
def wordR (fn d a b e : Nat) : Nat := d * 2 ^ 22 + a * 2 ^ 18 + b * 2 ^ 14 + e * 2 ^ 10 + fn

/-- A word of the I or S format. -/
def wordI (op d a imm : Nat) : Nat := op * 2 ^ 26 + d * 2 ^ 22 + a * 2 ^ 18 + imm

/-- A word of the F format. -/
def wordF (op d a lsb wm : Nat) : Nat := op * 2 ^ 26 + d * 2 ^ 22 + a * 2 ^ 18 + lsb * 2 ^ 13 + wm * 2 ^ 8

/-- The word that encodes a Cartil instruction, CALLM apart; none for the other commands, and for operands that no defined encoding holds. -/
def encodeWord (i : Instr) : Option Nat :=
  match i with
  | .add d a b => some (wordR 0x01 d.toNat a.toNat b.toNat 0)
  | .adds d a b => some (wordR 0x02 d.toNat a.toNat b.toNat 0)
  | .adc d a b => some (wordR 0x03 d.toNat a.toNat b.toNat 0)
  | .sub d a b => some (wordR 0x04 d.toNat a.toNat b.toNat 0)
  | .subs d a b => some (wordR 0x05 d.toNat a.toNat b.toNat 0)
  | .sbc d a b => some (wordR 0x06 d.toNat a.toNat b.toNat 0)
  | .and d a b => some (wordR 0x08 d.toNat a.toNat b.toNat 0)
  | .ands d a b => some (wordR 0x09 d.toNat a.toNat b.toNat 0)
  | .or d a b => some (wordR 0x0A d.toNat a.toNat b.toNat 0)
  | .xor d a b => some (wordR 0x0B d.toNat a.toNat b.toNat 0)
  | .andn d a b => some (wordR 0x0C d.toNat a.toNat b.toNat 0)
  | .shl d a b => some (wordR 0x10 d.toNat a.toNat b.toNat 0)
  | .shr d a b => some (wordR 0x11 d.toNat a.toNat b.toNat 0)
  | .sar d a b => some (wordR 0x12 d.toNat a.toNat b.toNat 0)
  | .ror d a b => some (wordR 0x13 d.toNat a.toNat b.toNat 0)
  | .mul d a b => some (wordR 0x20 d.toNat a.toNat b.toNat 0)
  | .divu d a b => some (wordR 0x24 d.toNat a.toNat b.toNat 0)
  | .divs d a b => some (wordR 0x25 d.toNat a.toNat b.toNat 0)
  | .remu d a b => some (wordR 0x26 d.toNat a.toNat b.toNat 0)
  | .rems d a b => some (wordR 0x27 d.toNat a.toNat b.toNat 0)
  | .ldwx d a b => some (wordR 0x28 d.toNat a.toNat b.toNat 0)
  | .stwx d a b => some (wordR 0x29 d.toNat a.toNat b.toNat 0)
  | .popc d a => some (wordR 0x18 d.toNat a.toNat 0 0)
  | .clz d a => some (wordR 0x19 d.toNat a.toNat 0 0)
  | .revb d a => some (wordR 0x1A d.toNat a.toNat 0 0)
  | .sexb d a => some (wordR 0x1B d.toNat a.toNat 0 0)
  | .sexh d a => some (wordR 0x1C d.toNat a.toNat 0 0)
  | .mullu d e a b => some (wordR 0x21 d.toNat a.toNat b.toNat e.toNat)
  | .mulls d e a b => some (wordR 0x22 d.toNat a.toNat b.toNat e.toNat)
  | .jr a => some (wordR 0x30 0 a.toNat 0 0)
  | .callr a => some (wordR 0x31 0 a.toNat 0 0)
  | .addi d a imm => some (wordI 0x01 d.toNat a.toNat imm.toNat)
  | .addsi d a imm => some (wordI 0x02 d.toNat a.toNat imm.toNat)
  | .subsi d a imm => some (wordI 0x03 d.toNat a.toNat imm.toNat)
  | .andi d a imm => some (wordI 0x04 d.toNat a.toNat imm.toNat)
  | .ori d a imm => some (wordI 0x05 d.toNat a.toNat imm.toNat)
  | .xori d a imm => some (wordI 0x06 d.toNat a.toNat imm.toNat)
  | .ldw d a imm => some (wordI 0x10 d.toNat a.toNat imm.toNat)
  | .ldhu d a imm => some (wordI 0x11 d.toNat a.toNat imm.toNat)
  | .ldhs d a imm => some (wordI 0x12 d.toNat a.toNat imm.toNat)
  | .ldbu d a imm => some (wordI 0x13 d.toNat a.toNat imm.toNat)
  | .ldbs d a imm => some (wordI 0x14 d.toNat a.toNat imm.toNat)
  | .stw d a imm => some (wordI 0x18 d.toNat a.toNat imm.toNat)
  | .sth d a imm => some (wordI 0x19 d.toNat a.toNat imm.toNat)
  | .stb d a imm => some (wordI 0x1A d.toNat a.toNat imm.toNat)
  | .shi d a imm => if imm.toNat < 128 then some (wordI 0x07 d.toNat a.toNat imm.toNat) else none
  | .movl d imm => some (wordI 0x08 d.toNat 0 imm.toNat)
  | .movh d imm => some (wordI 0x09 d.toNat 0 imm.toNat)
  | .extu d a lsb wm => if 32 < lsb.toNat + wm.toNat + 1 then none else some (wordF 0x0C d.toNat a.toNat lsb.toNat wm.toNat)
  | .exts d a lsb wm => if 32 < lsb.toNat + wm.toNat + 1 then none else some (wordF 0x0D d.toNat a.toNat lsb.toNat wm.toNat)
  | .ins d a lsb wm => if 32 < lsb.toNat + wm.toNat + 1 then none else some (wordF 0x0E d.toNat a.toNat lsb.toNat wm.toNat)
  | .nop => some (wordI 0x30 0 0 0x00)
  | .sync => some (wordI 0x30 0 0 0x01)
  | .wait => some (wordI 0x30 0 0 0x02)
  | .reti => some (wordI 0x30 0 0 0x03)
  | .brk => some (wordI 0x30 0 0 0x04)
  | .mfstat d => some (wordI 0x30 d.toNat 0 0x05)
  | .mtstat a => some (wordI 0x30 0 a.toNat 0x06)
  | .mfc d c => some (wordI 0x32 d.toNat 0 c.toNat)
  | .mtc a c => some (wordI 0x33 0 a.toNat c.toNat)
  | .bCond cond disp => if cond.toNat = 15 then none else some (0x20 * 2 ^ 26 + cond.toNat * 2 ^ 22 + disp.toNat)
  | .call disp => some (0x21 * 2 ^ 26 + disp.toNat)
  | _ => none

end Sys2Proof
end

