-- ==== Sys2Proof/WellFormed.lean ====
section
/-! DEFINITION. The commands whose operands have the shape the spec gives them. -/

namespace Sys2Proof

/-- The operands have the lengths of the spec: of a cache line at most 32 bytes [07 R142], of a page 1 024 [17 R332]; and
the word of an undefined encoding encodes no instruction [08 R163]. Every other operand is of the right shape by its type. -/
def Instr.wellFormed (i : Instr) : Bool :=
  match i with
  | .powerOnReset _ => true
  | .brownOutReset _ => true
  | .pinReset _ => true
  | .softReset _ _ => true
  | .tapReset => true
  | .resetnRelease _ => true
  | .xclkValid => true
  | .pllLock _ => true
  | .otpSenseDone _ _ => true
  | .autobaudCharacter _ _ _ => true
  | .ckRootSelWrite _ => true
  | .holdEntry => true
  | .holdExit => true
  | .ladderEntry => true
  | .quiesceTimeout => true
  | .dormantRequest => true
  | .wake _ => true
  | .napMotionWake _ => true
  | .napRateWake _ => true
  | .ckTltlRead => true
  | .pllUnlock => true
  | .xclkStop => true
  | .xclkReturn => true
  | .ringClockLoss => true
  | .holdoverEnd => true
  | .hello _ _ => true
  | .ident _ _ => true
  | .status _ _ => true
  | .mode _ _ => true
  | .load _ _ => true
  | .loadAbort _ _ => true
  | .start _ _ _ => true
  | .power _ _ => true
  | .reset _ _ => true
  | .slaveRecordFrame _ => true
  | .slaveLineFrame _ => true
  | .otCmdNop _ => true
  | .otCmdRead _ => true
  | .otCmdMargl _ => true
  | .otCmdMargh _ => true
  | .otCmdBurn _ _ => true
  | .otCmdReburn _ _ => true
  | .otCmdInc _ _ => true
  | .otCmdCheck _ => true
  | .otCmdLock _ _ => true
  | .otCmdSense _ => true
  | .otCmdInvalid _ _ => true
  | .burnPulseEnd _ _ _ => true
  | .burnWindowFall _ _ _ => true
  | .otCommandDone => true
  | .tamperBeadBurn _ => true
  | .kyNop => true
  | .kyDerive => true
  | .kyUnwrap => true
  | .kyWrapkey => true
  | .kyEncrypt => true
  | .kyDecrypt => true
  | .kyClear => true
  | .kyGenpair => true
  | .kyLoadpair => true
  | .kySign => true
  | .kyAttest => true
  | .kyEscrow => true
  | .kyInval _ => true
  | .kyPerso _ => true
  | .kyField _ => true
  | .kyRetire _ => true
  | .kyCommandDone => true
  | .kregRemask => true
  | .trngHealthFail => true
  | .trngHealthRecover => true
  | .jtagInstructionUpdate _ => true
  | .unlockCapture => true
  | .unlockUpdate _ _ _ => true
  | .unlockVerifyDone => true
  | .tamperAlarm _ => true
  | .add _ _ _ => true
  | .adds _ _ _ => true
  | .adc _ _ _ => true
  | .sub _ _ _ => true
  | .subs _ _ _ => true
  | .sbc _ _ _ => true
  | .and _ _ _ => true
  | .or _ _ _ => true
  | .xor _ _ _ => true
  | .ands _ _ _ => true
  | .andn _ _ _ => true
  | .shl _ _ _ => true
  | .shr _ _ _ => true
  | .sar _ _ _ => true
  | .ror _ _ _ => true
  | .addi _ _ _ => true
  | .addsi _ _ _ => true
  | .subsi _ _ _ => true
  | .andi _ _ _ => true
  | .ori _ _ _ => true
  | .xori _ _ _ => true
  | .shi _ _ _ => true
  | .movl _ _ => true
  | .movh _ _ => true
  | .extu _ _ _ _ => true
  | .exts _ _ _ _ => true
  | .ins _ _ _ _ => true
  | .popc _ _ => true
  | .clz _ _ => true
  | .revb _ _ => true
  | .sexb _ _ => true
  | .sexh _ _ => true
  | .mul _ _ _ => true
  | .mullu _ _ _ _ => true
  | .mulls _ _ _ _ => true
  | .divu _ _ _ => true
  | .divs _ _ _ => true
  | .remu _ _ _ => true
  | .rems _ _ _ => true
  | .ldw _ _ _ => true
  | .ldhu _ _ _ => true
  | .ldhs _ _ _ => true
  | .ldbu _ _ _ => true
  | .ldbs _ _ _ => true
  | .stw _ _ _ => true
  | .sth _ _ _ => true
  | .stb _ _ _ => true
  | .ldwx _ _ _ => true
  | .stwx _ _ _ => true
  | .bCond _ _ => true
  | .call _ => true
  | .jr _ => true
  | .callr _ => true
  | .nop => true
  | .sync => true
  | .wait => true
  | .reti => true
  | .brk => true
  | .mfstat _ => true
  | .mtstat _ => true
  | .mfc _ _ => true
  | .mtc _ _ => true
  | .undefinedEncoding w => decide (definedWord w.toNat = false)
  | .callmInfo => true
  | .callmKeygo => true
  | .callmKeyend => true
  | .callmTamper => true
  | .callmLine _ _ _ => true
  | .callmVerb => true
  | .callmReply => true
  | .callmEvent => true
  | .callmUnused _ => true
  | .interruptEntry => true
  | .waitWake => true
  | .farLoadReturn => true
  | .busiReport => true
  | .writeBufferDrain => true
  | .xipLineFillDone line => decide (line.length ≤ 32)
  | .throttleTick => true
  | .demandChange => true
  | .coreVsetWrite _ => true
  | .icInvalidate => true
  | .icStatClear => true
  | .registerWrite _ _ => true
  | .patternWindowAccess _ _ _ => true
  | .uartCharacter _ _ => true
  | .idleClose => true
  | .writeSideGrant _ => true
  | .queuePop _ => true
  | .popTimeout _ => true
  | .queueFlush _ => true
  | .queueDrop _ => true
  | .qnLostClear _ => true
  | .lineTimeout => true
  | .uartTransmit _ => true
  | .uaTxWrite _ => true
  | .tunnelTimeout => true
  | .registeredVerb _ _ _ => true
  | .set _ _ => true
  | .get _ _ => true
  | .otpRead _ _ => true
  | .otpMargin _ _ => true
  | .otpCheck _ _ => true
  | .otpBurn _ _ _ => true
  | .otpReburn _ _ _ => true
  | .otpRevoke _ _ _ => true
  | .otpLock _ _ _ => true
  | .otpSense _ _ => true
  | .keyAttest _ _ => true
  | .keyEscrow _ _ => true
  | .keyInval _ _ _ => true
  | .keyPerso _ _ _ => true
  | .keyField _ _ _ => true
  | .keyRetire _ _ _ => true
  | .furrowSet _ _ => true
  | .furrowOn _ _ => true
  | .furrowOff _ _ => true
  | .furrowShow _ _ => true
  | .pageMap _ _ => true
  | .pageUnmap _ _ => true
  | .pagePin _ _ => true
  | .pageUnpin _ _ => true
  | .pageFetch _ _ => true
  | .pageShow _ _ => true
  | .chanSet _ _ => true
  | .chanOn _ _ => true
  | .chanOff _ _ => true
  | .chanShow _ _ => true
  | .bankSet _ _ => true
  | .bankOn _ _ => true
  | .bankOff _ _ => true
  | .bankShow _ _ => true
  | .bankAim _ _ => true
  | .headSet _ _ => true
  | .headOn _ _ => true
  | .headOff _ _ => true
  | .headHitch _ _ => true
  | .headShow _ _ => true
  | .ringUp _ _ => true
  | .ringDown _ _ => true
  | .ringJoin _ _ => true
  | .ringLeave _ _ => true
  | .ringShow _ _ => true
  | .encSet _ _ => true
  | .encZero _ _ => true
  | .encShow _ _ => true
  | .ledgerShow _ _ => true
  | .ledgerSave _ _ => true
  | .ledgerLoad _ _ _ _ => true
  | .traceOn _ _ => true
  | .traceOff _ _ => true
  | .traceShow _ _ => true
  | .cqPush _ => true
  | .transferGrant => true
  | .transferEnd _ => true
  | .continueTimeout => true
  | .pollDue _ => true
  | .writeWaitTimeout _ => true
  | .discoveryStart _ _ => true
  | .spRxdPop => true
  | .sssnFall => true
  | .slaveFrame _ _ => true
  | .spStxWrite _ => true
  | .spScntClear => true
  | .engineTick _ _ => true
  | .peTimerExpiry _ _ => true
  | .engineStart _ => true
  | .engineStop _ => true
  | .peDataInWrite _ _ => true
  | .quadratureCount _ _ _ => true
  | .velocityUpdate _ => true
  | .burstOnset _ _ => true
  | .burstClear _ => true
  | .freezeEnd _ => true
  | .zCapture _ => true
  | .positionLoad _ => true
  | .enPositionRead _ => true
  | .enZcaptureRead _ => true
  | .enRingPositionRead => true
  | .enCntClear _ => true
  | .furrowEvaluation _ => true
  | .refillEvaluation _ => true
  | .swFcmdOn _ => true
  | .swFcmdOff _ => true
  | .swFcmdClrcnt _ => true
  | .furrowConfigWrite _ _ _ => true
  | .furrowNextRead _ => true
  | .furrowLastRead _ => true
  | .drTfireRead _ => true
  | .swCountClear _ => true
  | .swFhlClear _ => true
  | .drFiredClear => true
  | .slotSet _ => true
  | .slotFire _ => true
  | .patternStepStart _ => true
  | .pulseEnd _ _ => true
  | .headlandCommit _ => true
  | .forcedHeadland _ => true
  | .grPteWrite _ => true
  | .grCmdPin _ _ => true
  | .grCmdUnpin _ _ => true
  | .grCmdFetch _ _ => true
  | .pageArrival _ _ bytes => decide (bytes.length = 1024)
  | .pageFetchFailed _ _ => true
  | .grCntClear => true
  | .scanAssert _ => true
  | .scanOverload _ => true
  | .riseWindowEnd _ _ _ => true
  | .shortDetected _ => true
  | .boosterCheck _ _ => true
  | .boosterOvercurrent _ _ => true
  | .vgdUndervoltage _ => true
  | .ldChcmdOn _ => true
  | .ldChcmdOff _ => true
  | .ldBcmdOn _ => true
  | .ldBcmdOff _ => true
  | .ldChcntClear _ => true
  | .aimingPeriodStart => true
  | .aimingPulseEnd _ => true
  | .chargeWindowRoll => true
  | .thermalUpdate => true
  | .adcSample _ _ => true
  | .sagTrip _ => true
  | .sagClear _ => true
  | .compensationFail _ => true
  | .bdBcntClear _ => true
  | .bdAskipClear => true
  | .triggerAssert _ _ => true
  | .triggerEnd _ => true
  | .exposureCheck _ _ _ => true
  | .prsnChange _ _ => true
  | .presenceDebounce _ => true
  | .sendHello _ => true
  | .sendParam _ => true
  | .sendArmn _ => true
  | .sendDisarm _ => true
  | .sendTaint _ => true
  | .sendHold _ => true
  | .sendGo _ => true
  | .sendPoll _ => true
  | .sendBye _ => true
  | .receiveIdent _ _ _ => true
  | .receiveAck _ _ _ => true
  | .receiveNote _ _ _ => true
  | .receiveHeadBye _ _ _ => true
  | .messageGapTimeout _ => true
  | .replyWindowExpiry _ => true
  | .pollIntervalExpiry _ => true
  | .hpCtlOn _ => true
  | .hpCtlOff _ => true
  | .hpCtlHitch _ => true
  | .hpExptWrite _ _ => true
  | .hpCntClear _ => true
  | .hpXcntClear _ => true
  | .epochSend => true
  | .epochReceive _ _ _ _ => true
  | .cellDisc _ _ => true
  | .cellMeas _ _ _ => true
  | .cellMres _ _ => true
  | .cellDly _ _ _ => true
  | .cellAligned _ => true
  | .cellJoin _ => true
  | .cellLeave _ => true
  | .cellRoll => true
  | .cellTaint _ _ _ => true
  | .cellTun _ _ _ => true
  | .cellTunr _ _ _ => true
  | .alignmentTimeout => true
  | .epochWatchdogExpiry => true
  | .srCtlUp => true
  | .srCtlDown => true
  | .srCtlJoin => true
  | .srCtlLeave => true
  | .srCntClear => true
  | .ledgerCommitStep _ _ => true
  | .ringClockReturn => true
  | .vgdUndervoltageEnd _ => true
  | .tamperAlarmClear => true
  | .vcaSettled => true
  | .cacheInvalidationDone => true
  | .byeStartTimeout _ => true

end Sys2Proof
end

