-- ==== Sys2Proof/Machine/Rows.lean ====
section
/-! DEFINITION. What the meanings of all commands share: they change the device and leave the queue alone. -/

namespace Sys2Proof.Machine

/-- The answer of a command. -/
abbrev Answer := Host.Outcome State Fault Refusal

/-- A command whose effect on the device is `f`. -/
def onDev (f : Dev → Dev) (s : State) : Answer := .next { s with dev := f s.dev }

/-- A command whose effect on the device is `f`, with operands of the right shape where `ok`. -/
def onDevIf (ok : Bool) (f : Dev → Dev) (s : State) : Answer := if ok then onDev f s else .fault .illFormed

/-- The numbers of `bs`. -/
def Bytes.nats (bs : Bytes) : List Nat := bs.map BitVec.toNat

/-- Where the interpreter's line comes from. -/
def Via.ctx (v : Via) : Ctx := { path := v.path + 1, tag := v.tag.map BitVec.toNat, member := v.member.toNat }

end Sys2Proof.Machine
end

