-- ==== Sys2Proof/Machine/RowsCallm.lean ====
section
/-! DEFINITION. The meanings of the commands of the services of CALLM [07 R160; 11]. -/

namespace Sys2Proof.Machine

/-- `CALLM_INFO` [07 R160]. -/
def execCallmInfo (s : State) : Answer := onDev (callm 0 svcInfo) s

/-- `CALLM_KEYGO` [07 R160]. -/
def execCallmKeygo (s : State) : Answer := onDev (callm 1 svcKeygo) s

/-- `CALLM_KEYEND` [07 R160]. -/
def execCallmKeyend (s : State) : Answer := onDev (callm 2 svcKeyend) s

/-- `CALLM_TAMPER` [07 R160]. -/
def execCallmTamper (s : State) : Answer := onDev (callm 3 svcTamper) s

/-- `CALLM_LINE` [11 R223]. -/
def execCallmLine (win : BitVec 2) (slotA slotB : Bytes) (s : State) : Answer :=
  onDev (fun d => callmLine (Bytes.nats slotA) (Bytes.nats slotB) (setWindow win.toNat d)) s

/-- `CALLM_VERB` [11 R224]. -/
def execCallmVerb (s : State) : Answer := onDev (callm 5 svcVerb) s

/-- `CALLM_REPLY` [11 R224]. -/
def execCallmReply (s : State) : Answer := onDev (callm 6 svcReply) s

/-- `CALLM_EVENT` [11 R223]. -/
def execCallmEvent (s : State) : Answer := onDev (callm 7 svcEvent) s

/-- `CALLM_UNUSED` [07 R160]. -/
def execCallmUnused (n : Fin 248) (s : State) : Answer := onDev (callm (8 + n) svcUnused) s

end Sys2Proof.Machine
end

