-- ==== Sys2Proof/Machine/RowsCartil.lean ====
section
/-! DEFINITION. The meanings of the commands of the Cartil instructions [08]. -/

namespace Sys2Proof.Machine

/-- `ADD` [08 R167]. -/
def execAdd (t a b : BitVec 4) (s : State) : Answer := onDev (aluRR (fun x y => x + y) t.toNat a.toNat b.toNat) s

/-- `ADDS` [08 R164]. -/
def execAdds (t a b : BitVec 4) (s : State) : Answer := onDev (aluAdd [b.toNat] t.toNat a.toNat (fun e => e.wr b.toNat) (fun _ => false)) s

/-- `ADC` [08 R164]. -/
def execAdc (t a b : BitVec 4) (s : State) : Answer := onDev (aluAdd [b.toNat] t.toNat a.toNat (fun e => e.wr b.toNat) (fun e => e.co.c)) s

/-- `SUB` [08 R167]. -/
def execSub (t a b : BitVec 4) (s : State) : Answer := onDev (aluRR (fun x y => x - y) t.toNat a.toNat b.toNat) s

/-- `SUBS` [08 R164]. -/
def execSubs (t a b : BitVec 4) (s : State) : Answer := onDev (aluAdd [b.toNat] t.toNat a.toNat (fun e => ~~~(e.wr b.toNat)) (fun _ => true)) s

/-- `SBC` [08 R164]. -/
def execSbc (t a b : BitVec 4) (s : State) : Answer := onDev (aluAdd [b.toNat] t.toNat a.toNat (fun e => ~~~(e.wr b.toNat)) (fun e => e.co.c)) s

/-- `AND` [08 R167]. -/
def execAnd (t a b : BitVec 4) (s : State) : Answer := onDev (aluRR (fun x y => x &&& y) t.toNat a.toNat b.toNat) s

/-- `OR` [08 R167]. -/
def execOr (t a b : BitVec 4) (s : State) : Answer := onDev (aluRR (fun x y => x ||| y) t.toNat a.toNat b.toNat) s

/-- `XOR` [08 R167]. -/
def execXor (t a b : BitVec 4) (s : State) : Answer := onDev (aluRR (fun x y => x ^^^ y) t.toNat a.toNat b.toNat) s

/-- `ANDS` [08 R164]. -/
def execAnds (t a b : BitVec 4) (s : State) : Answer :=
  onDev (result [a.toNat, b.toNat] t.toNat (fun e => e.wr a.toNat &&& e.wr b.toNat) (fun e k => andFlags (e.wr a.toNat &&& e.wr b.toNat) k)) s

/-- `ANDN` [08 R167]. -/
def execAndn (t a b : BitVec 4) (s : State) : Answer := onDev (aluRR (fun x y => x &&& ~~~y) t.toNat a.toNat b.toNat) s

/-- `SHL` [08 R167]. -/
def execShl (t a b : BitVec 4) (s : State) : Answer := onDev (aluRR (fun x y => shl x y.toNat) t.toNat a.toNat b.toNat) s

/-- `SHR` [08 R167]. -/
def execShr (t a b : BitVec 4) (s : State) : Answer := onDev (aluRR (fun x y => shr x y.toNat) t.toNat a.toNat b.toNat) s

/-- `SAR` [08 R167]. -/
def execSar (t a b : BitVec 4) (s : State) : Answer := onDev (aluRR (fun x y => sar x y.toNat) t.toNat a.toNat b.toNat) s

/-- `ROR` [08 R167]. -/
def execRor (t a b : BitVec 4) (s : State) : Answer := onDev (aluRR (fun x y => ror x y.toNat) t.toNat a.toNat b.toNat) s

/-- `ADDI` [08 R167]. -/
def execAddi (t a : BitVec 4) (imm : BitVec 16) (s : State) : Answer := onDev (aluR (fun x => x + sext imm) t.toNat a.toNat) s

/-- `ADDSI` [08 R164]. -/
def execAddsi (t a : BitVec 4) (imm : BitVec 16) (s : State) : Answer := onDev (aluAdd [] t.toNat a.toNat (fun _ => sext imm) (fun _ => false)) s

/-- `SUBSI` [08 R164]. -/
def execSubsi (t a : BitVec 4) (imm : BitVec 16) (s : State) : Answer :=
  onDev (aluAdd [] t.toNat a.toNat (fun _ => ~~~(sext imm)) (fun _ => true)) s

/-- `ANDI` [08 R167]. -/
def execAndi (t a : BitVec 4) (imm : BitVec 16) (s : State) : Answer := onDev (aluR (fun x => x &&& zext imm) t.toNat a.toNat) s

/-- `ORI` [08 R167]. -/
def execOri (t a : BitVec 4) (imm : BitVec 16) (s : State) : Answer := onDev (aluR (fun x => x ||| zext imm) t.toNat a.toNat) s

/-- `XORI` [08 R167]. -/
def execXori (t a : BitVec 4) (imm : BitVec 16) (s : State) : Answer := onDev (aluR (fun x => x ^^^ zext imm) t.toNat a.toNat) s

/-- `SHI` [08 R167]. -/
def execShi (t a : BitVec 4) (imm : BitVec 16) (s : State) : Answer :=
  onDev (if 128 ≤ imm.toNat then fetch undef else aluR (fun x => shiftBy x imm.toNat) t.toNat a.toNat) s

/-- `MOVL` [08 R167]. -/
def execMovl (t : BitVec 4) (imm : BitVec 16) (s : State) : Answer := onDev (result [] t.toNat (fun _ => zext imm) noFlags) s

/-- `MOVH` [08 R167]. -/
def execMovh (t : BitVec 4) (imm : BitVec 16) (s : State) : Answer :=
  onDev (result [] t.toNat (fun e => (zext imm <<< 16) ||| (e.wr t.toNat &&& 0xFFFF)) noFlags) s

/-- `EXTU` [08 R168]. -/
def execExtu (t a : BitVec 4) (lsb wm : BitVec 5) (s : State) : Answer :=
  onDev (if 32 < lsb.toNat + wm.toNat + 1 then fetch undef else aluR (fun x => extu x lsb.toNat (wm.toNat + 1)) t.toNat a.toNat) s

/-- `EXTS` [08 R168]. -/
def execExts (t a : BitVec 4) (lsb wm : BitVec 5) (s : State) : Answer :=
  onDev (if 32 < lsb.toNat + wm.toNat + 1 then fetch undef else aluR (fun x => exts x lsb.toNat (wm.toNat + 1)) t.toNat a.toNat) s

/-- `INS` [08 R168]. -/
def execIns (t a : BitVec 4) (lsb wm : BitVec 5) (s : State) : Answer :=
  onDev (if 32 < lsb.toNat + wm.toNat + 1 then fetch undef else aluRR (fun x y => insW x y lsb.toNat (wm.toNat + 1)) t.toNat t.toNat a.toNat) s

/-- `POPC` [08 R168]. -/
def execPopc (t a : BitVec 4) (s : State) : Answer := onDev (aluR popc t.toNat a.toNat) s

/-- `CLZ` [08 R168]. -/
def execClz (t a : BitVec 4) (s : State) : Answer := onDev (aluR clz t.toNat a.toNat) s

/-- `REVB` [08 R168]. -/
def execRevb (t a : BitVec 4) (s : State) : Answer := onDev (aluR revb t.toNat a.toNat) s

/-- `SEXB` [08 R168]. -/
def execSexb (t a : BitVec 4) (s : State) : Answer := onDev (aluR sexb t.toNat a.toNat) s

/-- `SEXH` [08 R168]. -/
def execSexh (t a : BitVec 4) (s : State) : Answer := onDev (aluR sexh t.toNat a.toNat) s

/-- `MUL` [08 R169]. -/
def execMul (t a b : BitVec 4) (s : State) : Answer := onDev (aluRR (fun x y => x * y) t.toNat a.toNat b.toNat) s

/-- `MULLU` [08 R169]. -/
def execMullu (t u a b : BitVec 4) (s : State) : Answer := onDev (mulLong mulU t.toNat u.toNat a.toNat b.toNat) s

/-- `MULLS` [08 R169]. -/
def execMulls (t u a b : BitVec 4) (s : State) : Answer := onDev (mulLong mulS t.toNat u.toNat a.toNat b.toNat) s

/-- `DIVU` [08 R169]. -/
def execDivu (t a b : BitVec 4) (s : State) : Answer := onDev (aluRR divU t.toNat a.toNat b.toNat) s

/-- `DIVS` [08 R169]. -/
def execDivs (t a b : BitVec 4) (s : State) : Answer := onDev (aluRR divS t.toNat a.toNat b.toNat) s

/-- `REMU` [08 R169]. -/
def execRemu (t a b : BitVec 4) (s : State) : Answer := onDev (aluRR remU t.toNat a.toNat b.toNat) s

/-- `REMS` [08 R169]. -/
def execRems (t a b : BitVec 4) (s : State) : Answer := onDev (aluRR remS t.toNat a.toNat b.toNat) s

/-- `LDW` [08 R170]. -/
def execLdw (t a : BitVec 4) (imm : BitVec 16) (s : State) : Answer := onDev (loadInstr [a.toNat] (fun e => eaImm e a.toNat imm) 4 false t.toNat) s

/-- `LDHU` [08 R170]. -/
def execLdhu (t a : BitVec 4) (imm : BitVec 16) (s : State) : Answer := onDev (loadInstr [a.toNat] (fun e => eaImm e a.toNat imm) 2 false t.toNat) s

/-- `LDHS` [08 R170]. -/
def execLdhs (t a : BitVec 4) (imm : BitVec 16) (s : State) : Answer := onDev (loadInstr [a.toNat] (fun e => eaImm e a.toNat imm) 2 true t.toNat) s

/-- `LDBU` [08 R170]. -/
def execLdbu (t a : BitVec 4) (imm : BitVec 16) (s : State) : Answer := onDev (loadInstr [a.toNat] (fun e => eaImm e a.toNat imm) 1 false t.toNat) s

/-- `LDBS` [08 R170]. -/
def execLdbs (t a : BitVec 4) (imm : BitVec 16) (s : State) : Answer := onDev (loadInstr [a.toNat] (fun e => eaImm e a.toNat imm) 1 true t.toNat) s

/-- `STW` [08 R170]. -/
def execStw (r a : BitVec 4) (imm : BitVec 16) (s : State) : Answer := onDev (storeInstr [a.toNat] (fun e => eaImm e a.toNat imm) 4 r.toNat) s

/-- `STH` [08 R170]. -/
def execSth (r a : BitVec 4) (imm : BitVec 16) (s : State) : Answer := onDev (storeInstr [a.toNat] (fun e => eaImm e a.toNat imm) 2 r.toNat) s

/-- `STB` [08 R170]. -/
def execStb (r a : BitVec 4) (imm : BitVec 16) (s : State) : Answer := onDev (storeInstr [a.toNat] (fun e => eaImm e a.toNat imm) 1 r.toNat) s

/-- `LDWX` [08 R170]. -/
def execLdwx (t a b : BitVec 4) (s : State) : Answer := onDev (loadInstr [a.toNat, b.toNat] (fun e => eaIdx e a.toNat b.toNat) 4 false t.toNat) s

/-- `STWX` [08 R170]. -/
def execStwx (r a b : BitVec 4) (s : State) : Answer := onDev (storeInstr [a.toNat, b.toNat] (fun e => eaIdx e a.toNat b.toNat) 4 r.toNat) s

/-- `B_COND` [08 R165]. -/
def execBCond (cond : BitVec 4) (disp : BitVec 22) (s : State) : Answer := onDev (branch cond.toNat disp) s

/-- `CALL` [08 R173]. -/
def execCall (disp : BitVec 26) (s : State) : Answer := onDev (callTo disp) s

/-- `JR` [08 R173]. -/
def execJr (a : BitVec 4) (s : State) : Answer := onDev (jumpReg false a.toNat) s

/-- `CALLR` [08 R173]. -/
def execCallr (a : BitVec 4) (s : State) : Answer := onDev (jumpReg true a.toNat) s

/-- `NOP` [08 R174]. -/
def execNop (s : State) : Answer := onDev (fetch advancePc) s

/-- `SYNC` [07 R150]. -/
def execSync (s : State) : Answer := onDev syncInstr s

/-- `WAIT` [07 R141]. -/
def execWait (s : State) : Answer := onDev waitInstr s

/-- `RETI` [07 R155]. -/
def execReti (s : State) : Answer := onDev retiInstr s

/-- `BRK` [08 R174]. -/
def execBrk (s : State) : Answer := onDev brkInstr s

/-- `MFSTAT` [08 R174]. -/
def execMfstat (t : BitVec 4) (s : State) : Answer := onDev (result [] t.toNat (fun e => BitVec.ofNat 32 (statWord e.co)) noFlags) s

/-- `MTSTAT` [08 R175]. -/
def execMtstat (a : BitVec 4) (s : State) : Answer := onDev (instr [a.toNat] (fun e => advancePc (setStat (e.wr a.toNat) e))) s

/-- `MFC` [08 R176]. -/
def execMfc (t : BitVec 4) (c : BitVec 12) (s : State) : Answer := onDev (loadInstr [] (fun _ => crAddr c.toNat) 4 false t.toNat) s

/-- `MTC` [08 R176]. -/
def execMtc (a : BitVec 4) (c : BitVec 12) (s : State) : Answer := onDev (storeInstr [] (fun _ => crAddr c.toNat) 4 a.toNat) s

/-- `UNDEFINED_ENCODING` [08 R163]. -/
def execUndefinedEncoding (w : Word) (s : State) : Answer := onDevIf (decide (definedWord w.toNat = false)) (fetch undef) s

end Sys2Proof.Machine
end

