-- ==== Sys2Proof/Machine/RowsCore.lean ====
section
/-! DEFINITION. The meanings of the commands of the core, its cache and its throttle, and register accesses [07; 09]. -/

namespace Sys2Proof.Machine

/-- `INTERRUPT_ENTRY` [07 R153]. -/
def execInterruptEntry (s : State) : Answer := onDev interruptEntry s

/-- `WAIT_WAKE` [07 R141]. -/
def execWaitWake (s : State) : Answer := onDev waitWake s

/-- `FAR_LOAD_RETURN` [07 R144]. -/
def execFarLoadReturn (s : State) : Answer := onDev farLoadReturn s

/-- `BUSI_REPORT` [07 R157]. -/
def execBusiReport (s : State) : Answer := onDev busiReport s

/-- `WRITE_BUFFER_DRAIN` [07 R147]. -/
def execWriteBufferDrain (s : State) : Answer := onDev writeBufferDrain s

/-- `XIP_LINE_FILL_DONE` [07 R142]. -/
def execXipLineFillDone (line : Bytes) (s : State) : Answer := onDevIf (decide (line.length ≤ 32)) (xipFillDone (Bytes.nats line)) s

/-- `THROTTLE_TICK` [07 R139]. -/
def execThrottleTick (s : State) : Answer := onDev throttleTick s

/-- `DEMAND_CHANGE` [07 R139]. -/
def execDemandChange (s : State) : Answer := onDev demandChange s

/-- `CORE_VSET_WRITE` [07 R139]. -/
def execCoreVsetWrite (v : Word) (s : State) : Answer := onDev (vsetWrite v.toNat) s

/-- `IC_INVALIDATE` [07 R143]. -/
def execIcInvalidate (s : State) : Answer := onDev icInvalidate s

/-- `IC_STAT_CLEAR` [07 R143]. -/
def execIcStatClear (s : State) : Answer := onDev icStatClear s

/-- `REGISTER_WRITE` [00 R11]. -/
def execRegisterWrite (a v : Word) (s : State) : Answer := onDev (busWrite a.toNat v.toNat) s

/-- `PATTERN_WINDOW_ACCESS` [01 R19]. -/
def execPatternWindowAccess (write : Bool) (offset : BitVec 19) (v : Word) (s : State) : Answer :=
  onDev (patternWindow write offset.toNat v.toNat) s

/-- `VCA_SETTLED` [07 R140]. -/
def execVcaSettled (s : State) : Answer := onDev vcaSettled s

/-- `CACHE_INVALIDATION_DONE` [07 R143]. -/
def execCacheInvalidationDone (s : State) : Answer := onDev icInvalidated s

end Sys2Proof.Machine
end

