-- ==== Sys2Proof/Machine/RowsEncoder.lean ====
section
/-! DEFINITION. The meanings of the commands of the encoder inputs [15]. -/

namespace Sys2Proof.Machine

/-- `QUADRATURE_COUNT` [15 R289]. -/
def execQuadratureCount (n : Fin 2) (a b : Bool) (s : State) : Answer := onDev (quadratureCount n a b) s

/-- `VELOCITY_UPDATE` [15 R294]. -/
def execVelocityUpdate (n : Fin 2) (s : State) : Answer := onDev (velocityUpdate n) s

/-- `BURST_ONSET` [15 R298]. -/
def execBurstOnset (n : Fin 2) (cm : Bool) (s : State) : Answer := onDev (burstOnset n cm) s

/-- `BURST_CLEAR` [15 R298]. -/
def execBurstClear (n : Fin 2) (s : State) : Answer := onDev (burstClear n) s

/-- `FREEZE_END` [15 R299]. -/
def execFreezeEnd (n : Fin 2) (s : State) : Answer := onDev (freezeEnd n) s

/-- `Z_CAPTURE` [15 R297]. -/
def execZCapture (x : Fin 2 × Bool) (s : State) : Answer := onDev (zCapture x.1 x.2) s

/-- `POSITION_LOAD` [15 R293]. -/
def execPositionLoad (n : Fin 2) (s : State) : Answer := onDev (positionLoad n) s

/-- `EN_POSITION_READ` [15 R292]. -/
def execEnPositionRead (n : Fin 2) (s : State) : Answer := onDev (enPositionRead n) s

/-- `EN_ZCAPTURE_READ` [15 R297]. -/
def execEnZcaptureRead (n : Fin 2) (s : State) : Answer := onDev (enZcaptureRead n) s

/-- `EN_RING_POSITION_READ` [15 R301]. -/
def execEnRingPositionRead (s : State) : Answer := onDev enRingPositionRead s

/-- `EN_CNT_CLEAR` [15 R290]. -/
def execEnCntClear (n : Fin 2) (s : State) : Answer := onDev (enCntClear n) s

end Sys2Proof.Machine
end

