-- ==== Sys2Proof/Machine/RowsEngine.lean ====
section
/-! DEFINITION. The meanings of the commands of the pin engines [14]. -/

namespace Sys2Proof.Machine

/-- `ENGINE_TICK` [14 R271]. -/
def execEngineTick (n : Fin 8) (pads : BitVec 16) (s : State) : Answer := onDev (engineTick n pads.toNat) s

/-- `PE_TIMER_EXPIRY` [14 R278]. -/
def execPeTimerExpiry (n : Fin 8) (pads : BitVec 16) (s : State) : Answer := onDev (peTimerExpiry n pads.toNat) s

/-- `ENGINE_START` [14 R283]. -/
def execEngineStart (n : Fin 8) (s : State) : Answer := onDev (engineStart n) s

/-- `ENGINE_STOP` [14 R283]. -/
def execEngineStop (n : Fin 8) (s : State) : Answer := onDev (engineStop n) s

/-- `PE_DATA_IN_WRITE` [14 R280]. -/
def execPeDataInWrite (n : Fin 8) (v : BitVec 4) (s : State) : Answer := onDev (peDataInWrite n v.toNat) s

end Sys2Proof.Machine
end

