-- ==== Sys2Proof/Machine/RowsGranary.lean ====
section
/-! DEFINITION. The meanings of the commands of the Granary and the Gleaner [17]. -/

namespace Sys2Proof.Machine

/-- `GR_PTE_WRITE` [17 R334]. -/
def execGrPteWrite (v : Word) (s : State) : Answer := onDev (grPteWrite v.toNat) s

/-- `GR_CMD_PIN` [17 R335]. -/
def execGrCmdPin (f g : Fin 256) (s : State) : Answer := onDev (grCmd 1 f g) s

/-- `GR_CMD_UNPIN` [17 R335]. -/
def execGrCmdUnpin (f g : Fin 256) (s : State) : Answer := onDev (grCmd 2 f g) s

/-- `GR_CMD_FETCH` [17 R337]. -/
def execGrCmdFetch (f g : Fin 256) (s : State) : Answer := onDev (grCmd 3 f g) s

/-- `PAGE_ARRIVAL` [17 R338]. -/
def execPageArrival (f g : Fin 256) (bytes : Bytes) (s : State) : Answer :=
  onDevIf (decide (bytes.length = 1024)) (pageArrives f g (Bytes.nats bytes)) s

/-- `PAGE_FETCH_FAILED` [17 R338]. -/
def execPageFetchFailed (f g : Fin 256) (s : State) : Answer := onDev (fetchFailed f g) s

/-- `GR_CNT_CLEAR` [17 R338]. -/
def execGrCntClear (s : State) : Answer := onDev grCntClear s

end Sys2Proof.Machine
end

