-- ==== Sys2Proof/Machine/RowsHead.lean ====
section
/-! DEFINITION. The meanings of the commands of the head ports [20]. -/

namespace Sys2Proof.Machine

/-- `TRIGGER_ASSERT` [20 R382]. -/
def execTriggerAssert (k : Fin 64) (i : Nat) (s : State) : Answer := onDev (triggerAssert k i) s

/-- `TRIGGER_END` [20 R382]. -/
def execTriggerEnd (p : Fin 6) (s : State) : Answer := onDev (triggerEnd p) s

/-- `EXPOSURE_CHECK` [20 R384]. -/
def execExposureCheck (p : Fin 6) (cover : Fin 3) (tie : Bool) (s : State) : Answer := onDev (exposureCheck p cover tie) s

/-- `PRSN_CHANGE` [20 R385]. -/
def execPrsnChange (p : Fin 6) (low : Bool) (s : State) : Answer := onDev (prsnChange p low) s

/-- `PRESENCE_DEBOUNCE` [20 R385]. -/
def execPresenceDebounce (p : Fin 6) (s : State) : Answer := onDev (presenceDebounce p) s

/-- `SEND_HELLO` [20 R393]. -/
def execSendHello (p : Fin 6) (s : State) : Answer := onDev (sendHello p) s

/-- `SEND_PARAM` [20 R393]. -/
def execSendParam (p : Fin 6) (s : State) : Answer := onDev (sendParam p) s

/-- `SEND_ARMN` [20 R389]. -/
def execSendArmn (p : Fin 6) (s : State) : Answer := onDev (sendArmn p) s

/-- `SEND_DISARM` [20 R389]. -/
def execSendDisarm (p : Fin 6) (s : State) : Answer := onDev (sendDisarm p) s

/-- `SEND_TAINT` [20 R398]. -/
def execSendTaint (p : Fin 6) (s : State) : Answer := onDev (sendTaint p) s

/-- `SEND_HOLD` [20 R391]. -/
def execSendHold (p : Fin 6) (s : State) : Answer := onDev (sendHold p) s

/-- `SEND_GO` [20 R391]. -/
def execSendGo (p : Fin 6) (s : State) : Answer := onDev (sendGo p) s

/-- `SEND_POLL` [20 R392]. -/
def execSendPoll (p : Fin 6) (s : State) : Answer := onDev (sendPoll p) s

/-- `SEND_BYE` [20 R395]. -/
def execSendBye (p : Fin 6) (s : State) : Answer := onDev (sendBye p) s

/-- `RECEIVE_IDENT` [20 R393]. -/
def execReceiveIdent (p : Fin 6) (age : Nat) (bytes : Bytes) (s : State) : Answer := onDev (receiveIdent p age (Bytes.nats bytes)) s

/-- `RECEIVE_ACK` [20 R393]. -/
def execReceiveAck (p : Fin 6) (age : Nat) (bytes : Bytes) (s : State) : Answer := onDev (receiveAck p age (Bytes.nats bytes)) s

/-- `RECEIVE_NOTE` [20 R390]. -/
def execReceiveNote (p : Fin 6) (age : Nat) (bytes : Bytes) (s : State) : Answer := onDev (receiveNote p age (Bytes.nats bytes)) s

/-- `RECEIVE_HEAD_BYE` [20 R395]. -/
def execReceiveHeadBye (p : Fin 6) (age : Nat) (bytes : Bytes) (s : State) : Answer := onDev (receiveHeadBye p age (Bytes.nats bytes)) s

/-- `MESSAGE_GAP_TIMEOUT` [20 R386]. -/
def execMessageGapTimeout (p : Fin 6) (s : State) : Answer := onDev (messageGapTimeout p) s

/-- `REPLY_WINDOW_EXPIRY` [20 R386]. -/
def execReplyWindowExpiry (p : Fin 6) (s : State) : Answer := onDev (replyWindowExpiry p) s

/-- `POLL_INTERVAL_EXPIRY` [20 R392]. -/
def execPollIntervalExpiry (p : Fin 6) (s : State) : Answer := onDev (pollIntervalExpiry p) s

/-- `HP_CTL_ON` [20 R393]. -/
def execHpCtlOn (p : Fin 6) (s : State) : Answer := onDev (hpOn p) s

/-- `HP_CTL_OFF` [20 R395]. -/
def execHpCtlOff (p : Fin 6) (s : State) : Answer := onDev (hpOff p) s

/-- `HP_CTL_HITCH` [20 R393]. -/
def execHpCtlHitch (p : Fin 6) (s : State) : Answer := onDev (hpHitch p) s

/-- `HP_EXPT_WRITE` [20 R393]. -/
def execHpExptWrite (p : Fin 6) (v : Word) (s : State) : Answer := onDev (hpExptWrite p v.toNat) s

/-- `HP_CNT_CLEAR` [20 R389]. -/
def execHpCntClear (p : Fin 6) (s : State) : Answer := onDev (hpCntClear p) s

/-- `HP_XCNT_CLEAR` [20 R384]. -/
def execHpXcntClear (p : Fin 6) (s : State) : Answer := onDev (hpXcntClear p) s

/-- `BYE_START_TIMEOUT` [20 R395]. -/
def execByeStartTimeout (p : Fin 6) (s : State) : Answer := onDev (byeStartTimeout p) s

end Sys2Proof.Machine
end

