-- ==== Sys2Proof/Machine/RowsKeys.lean ====
section
/-! DEFINITION. The meanings of the commands of the key engine, the JTAG port and tamper [06]. -/

namespace Sys2Proof.Machine

/-- `KY_NOP` [06 R120]. -/
def execKyNop (s : State) : Answer := onDev (kyCommand 0) s

/-- `KY_DERIVE` [06 R117]. -/
def execKyDerive (s : State) : Answer := onDev (kyCommand 1) s

/-- `KY_UNWRAP` [06 R123]. -/
def execKyUnwrap (s : State) : Answer := onDev (kyCommand 2) s

/-- `KY_WRAPKEY` [06 R123]. -/
def execKyWrapkey (s : State) : Answer := onDev (kyCommand 3) s

/-- `KY_ENCRYPT` [06 R122]. -/
def execKyEncrypt (s : State) : Answer := onDev (kyCommand 4) s

/-- `KY_DECRYPT` [06 R122]. -/
def execKyDecrypt (s : State) : Answer := onDev (kyCommand 5) s

/-- `KY_CLEAR` [06 R118]. -/
def execKyClear (s : State) : Answer := onDev (kyCommand 6) s

/-- `KY_GENPAIR` [06 R124]. -/
def execKyGenpair (s : State) : Answer := onDev (kyCommand 7) s

/-- `KY_LOADPAIR` [06 R124]. -/
def execKyLoadpair (s : State) : Answer := onDev (kyCommand 8) s

/-- `KY_SIGN` [06 R120]. -/
def execKySign (s : State) : Answer := onDev (kyCommand 9) s

/-- `KY_ATTEST` [06 R131]. -/
def execKyAttest (s : State) : Answer := onDev (kyCommand 10) s

/-- `KY_ESCROW` [06 R125]. -/
def execKyEscrow (s : State) : Answer := onDev (kyCommand 11) s

/-- `KY_INVAL` [06 R126]. -/
def execKyInval (win : BitVec 2) (s : State) : Answer := onDev (fun d => kyCommand 12 (setWindow win.toNat d)) s

/-- `KY_PERSO` [06 R127]. -/
def execKyPerso (win : BitVec 2) (s : State) : Answer := onDev (fun d => kyCommand 13 (setWindow win.toNat d)) s

/-- `KY_FIELD` [06 R127]. -/
def execKyField (win : BitVec 2) (s : State) : Answer := onDev (fun d => kyCommand 14 (setWindow win.toNat d)) s

/-- `KY_RETIRE` [06 R127]. -/
def execKyRetire (win : BitVec 2) (s : State) : Answer := onDev (fun d => kyCommand 15 (setWindow win.toNat d)) s

/-- `KY_COMMAND_DONE` [06 R120]. -/
def execKyCommandDone (s : State) : Answer := onDev kyCommandDone s

/-- `KREG_REMASK` [06 R119]. -/
def execKregRemask (s : State) : Answer := onDev kregRemask s

/-- `TRNG_HEALTH_FAIL` [06 R112]. -/
def execTrngHealthFail (s : State) : Answer := onDev trngHealthFail s

/-- `TRNG_HEALTH_RECOVER` [06 R112]. -/
def execTrngHealthRecover (s : State) : Answer := onDev trngHealthRecover s

/-- `JTAG_INSTRUCTION_UPDATE` [06 R129]. -/
def execJtagInstructionUpdate (ir : BitVec 5) (s : State) : Answer := onDev (jtagInstructionUpdate ir.toNat) s

/-- `UNLOCK_CAPTURE` [06 R130]. -/
def execUnlockCapture (s : State) : Answer := onDev unlockCapture s

/-- `UNLOCK_UPDATE` [06 R130]. -/
def execUnlockUpdate (low : BitVec 258) (key sig : BitVec 512) (s : State) : Answer :=
  onDev (unlockUpdate (low.toNat + key.toNat * 2 ^ 258 + sig.toNat * 2 ^ 770)) s

/-- `UNLOCK_VERIFY_DONE` [06 R130]. -/
def execUnlockVerifyDone (s : State) : Answer := onDev unlockVerifyDone s

/-- `TAMPER_ALARM` [06 R135]. -/
def execTamperAlarm (sources : BitVec 6) (s : State) : Answer := onDev (tamperFound sources.toNat) s

/-- `TAMPER_ALARM_CLEAR` [06 R133]. -/
def execTamperAlarmClear (s : State) : Answer := onDev tamperAlarmClear s

end Sys2Proof.Machine
end

