-- ==== Sys2Proof/Machine/RowsLed.lean ====
section
/-! DEFINITION. The meanings of the commands of the LED channels, boosters and scan lines [18]. -/

namespace Sys2Proof.Machine

/-- `SCAN_ASSERT` [18 R349]. -/
def execScanAssert (k : Fin 64) (s : State) : Answer := onDev (scanAssert k) s

/-- `SCAN_OVERLOAD` [18 R351]. -/
def execScanOverload (line : Fin 8) (s : State) : Answer := onDev (scanOverload line) s

/-- `RISE_WINDOW_END` [18 R355]. -/
def execRiseWindowEnd (b : Fin 6) (reg low : Byte) (s : State) : Answer := onDev (riseWindowEnd b reg.toNat low.toNat) s

/-- `SHORT_DETECTED` [18 R356]. -/
def execShortDetected (c : Fin 48) (s : State) : Answer := onDev (shortDetected c) s

/-- `BOOSTER_CHECK` [18 R354]. -/
def execBoosterCheck (b : Fin 6) (sense : Nat) (s : State) : Answer := onDev (boosterCheck b sense) s

/-- `BOOSTER_OVERCURRENT` [18 R354]. -/
def execBoosterOvercurrent (b : Fin 6) (sense : Nat) (s : State) : Answer := onDev (boosterOvercurrent b sense) s

/-- `VGD_UNDERVOLTAGE` [23 R450]. -/
def execVgdUndervoltage (i : Fin 2) (s : State) : Answer := onDev (vgdUndervoltage i) s

/-- `LD_CHCMD_ON` [18 R358]. -/
def execLdChcmdOn (c : Fin 48) (s : State) : Answer := onDev (chanOnCmd c) s

/-- `LD_CHCMD_OFF` [18 R358]. -/
def execLdChcmdOff (c : Fin 48) (s : State) : Answer := onDev (chanOffCmd c) s

/-- `LD_BCMD_ON` [18 R358]. -/
def execLdBcmdOn (b : Fin 6) (s : State) : Answer := onDev (bankOnCmd b) s

/-- `LD_BCMD_OFF` [18 R358]. -/
def execLdBcmdOff (b : Fin 6) (s : State) : Answer := onDev (bankOffCmd b) s

/-- `LD_CHCNT_CLEAR` [18 R357]. -/
def execLdChcntClear (c : Fin 48) (s : State) : Answer := onDev (chCntClear c) s

/-- `AIMING_PERIOD_START` [18 R360]. -/
def execAimingPeriodStart (s : State) : Answer := onDev aimingPeriodStart s

/-- `AIMING_PULSE_END` [18 R360]. -/
def execAimingPulseEnd (c : Fin 48) (s : State) : Answer := onDev (aimingPulseEnd c) s

/-- `VGD_UNDERVOLTAGE_END` [23 R450]. -/
def execVgdUndervoltageEnd (i : Fin 2) (s : State) : Answer := onDev (vgdUndervoltageEnd i) s

end Sys2Proof.Machine
end

