-- ==== Sys2Proof/Machine/RowsLedger.lean ====
section
/-! DEFINITION. The meanings of the commands of the configuration ledger [22]. -/

namespace Sys2Proof.Machine

/-- `LEDGER_COMMIT_STEP` [22 R435]. -/
def execLedgerCommitStep (good : Bool) (back : Bytes) (s : State) : Answer := onDev (ledgerCommitStep good (Bytes.nats back)) s

end Sys2Proof.Machine
end

