-- ==== Sys2Proof/Machine/RowsOtp.lean ====
section
/-! DEFINITION. The meanings of the commands of the OTP engine [05]. -/

namespace Sys2Proof.Machine

/-- `OT_CMD_NOP` [05 R96]. -/
def execOtCmdNop (rom : Bool) (s : State) : Answer := onDev (otCommand 0 rom) s

/-- `OT_CMD_READ` [05 R96]. -/
def execOtCmdRead (rom : Bool) (s : State) : Answer := onDev (otCommand 1 rom) s

/-- `OT_CMD_MARGL` [05 R96]. -/
def execOtCmdMargl (rom : Bool) (s : State) : Answer := onDev (otCommand 2 rom) s

/-- `OT_CMD_MARGH` [05 R96]. -/
def execOtCmdMargh (rom : Bool) (s : State) : Answer := onDev (otCommand 3 rom) s

/-- `OT_CMD_BURN` [05 R101]. -/
def execOtCmdBurn (rom : Bool) (win : BitVec 2) (s : State) : Answer := onDev (fun d => otCommand 4 rom (setWindow win.toNat d)) s

/-- `OT_CMD_REBURN` [05 R101]. -/
def execOtCmdReburn (rom : Bool) (win : BitVec 2) (s : State) : Answer := onDev (fun d => otCommand 5 rom (setWindow win.toNat d)) s

/-- `OT_CMD_INC` [05 R107]. -/
def execOtCmdInc (rom : Bool) (win : BitVec 2) (s : State) : Answer := onDev (fun d => otCommand 6 rom (setWindow win.toNat d)) s

/-- `OT_CMD_CHECK` [05 R106]. -/
def execOtCmdCheck (rom : Bool) (s : State) : Answer := onDev (otCommand 7 rom) s

/-- `OT_CMD_LOCK` [05 R91]. -/
def execOtCmdLock (rom : Bool) (win : BitVec 2) (s : State) : Answer := onDev (fun d => otCommand 8 rom (setWindow win.toNat d)) s

/-- `OT_CMD_SENSE` [05 R94]. -/
def execOtCmdSense (rom : Bool) (s : State) : Answer := onDev (otCommand 9 rom) s

/-- `OT_CMD_INVALID` [05 R96]. -/
def execOtCmdInvalid (rom : Bool) (k : Fin 6) (s : State) : Answer := onDev (otCommand (10 + k) rom) s

/-- `BURN_PULSE_END` [05 R101]. -/
def execBurnPulseEnd (lo hi : Word) (tie : Bool) (s : State) : Answer := onDev (burnPulseEnd lo.toNat hi.toNat tie) s

/-- `BURN_WINDOW_FALL` [05 R100]. -/
def execBurnWindowFall (cond : BitVec 3) (lo hi : Word) (s : State) : Answer := onDev (burnWindowFall cond.toNat lo.toNat hi.toNat) s

/-- `OT_COMMAND_DONE` [05 R96]. -/
def execOtCommandDone (s : State) : Answer := onDev otCommandDone s

/-- `TAMPER_BEAD_BURN` [05 R98]. -/
def execTamperBeadBurn (win : BitVec 2) (s : State) : Answer := onDev (tamperBeadBurn win.toNat) s

end Sys2Proof.Machine
end

