-- ==== Sys2Proof/Machine/RowsQueue.lean ====
section
/-! DEFINITION. The meanings of the commands of the ingress queues and the host UART [10; 11]. -/

namespace Sys2Proof.Machine

/-- `UART_CHARACTER` [11 R206]. -/
def execUartCharacter (c : Byte) (stopOk : Bool) (s : State) : Answer := onDev (uartCharacter c stopOk) s

/-- `IDLE_CLOSE` [10 R191]. -/
def execIdleClose (s : State) : Answer := onDev idleClose s

/-- `WRITE_SIDE_GRANT` [10 R194]. -/
def execWriteSideGrant (q : Fin 2) (s : State) : Answer := onDev (writeSideGrant q) s

/-- `QUEUE_POP` [10 R197]. -/
def execQueuePop (q : Fin 2) (s : State) : Answer := onDev (queuePop q) s

/-- `POP_TIMEOUT` [10 R197]. -/
def execPopTimeout (q : Fin 2) (s : State) : Answer := onDev (popTimeout q) s

/-- `QUEUE_FLUSH` [10 R199]. -/
def execQueueFlush (q : Fin 2) (s : State) : Answer := onDev (queueFlush q) s

/-- `QUEUE_DROP` [10 R200]. -/
def execQueueDrop (q : Fin 2) (s : State) : Answer := onDev (queueDrop q) s

/-- `QN_LOST_CLEAR` [10 R198]. -/
def execQnLostClear (q : Fin 2) (s : State) : Answer := onDev (qnLostClear q) s

/-- `LINE_TIMEOUT` [11 R206]. -/
def execLineTimeout (s : State) : Answer := onDev lineTimeout s

/-- `UART_TRANSMIT` [11 R220]. -/
def execUartTransmit (ctsn : Bool) (s : State) : Answer := onDev (uartSend ctsn) s

/-- `UA_TX_WRITE` [11 R220]. -/
def execUaTxWrite (b : Byte) (s : State) : Answer := onDev (uaTxWrite b) s

end Sys2Proof.Machine
end

