-- ==== Sys2Proof/Machine/RowsReckoner.lean ====
section
/-! DEFINITION. The meanings of the commands of budgets and disturbance [19]. -/

namespace Sys2Proof.Machine

/-- `CHARGE_WINDOW_ROLL` [19 R363]. -/
def execChargeWindowRoll (s : State) : Answer := onDev windowRoll s

/-- `THERMAL_UPDATE` [19 R366]. -/
def execThermalUpdate (s : State) : Answer := onDev thermalUpdate s

/-- `ADC_SAMPLE` [19 R369]. -/
def execAdcSample (i : Fin 8) (code : BitVec 10) (s : State) : Answer := onDev (adcSample i code.toNat) s

/-- `SAG_TRIP` [19 R371]. -/
def execSagTrip (b : Fin 6) (s : State) : Answer := onDev (sagTrip b) s

/-- `SAG_CLEAR` [19 R371]. -/
def execSagClear (b : Fin 6) (s : State) : Answer := onDev (sagClear b) s

/-- `COMPENSATION_FAIL` [19 R375]. -/
def execCompensationFail (b : Fin 6) (s : State) : Answer := onDev (compensationFail b) s

/-- `BD_BCNT_CLEAR` [19 R371]. -/
def execBdBcntClear (b : Fin 6) (s : State) : Answer := onDev (bdBcntClear b) s

/-- `BD_ASKIP_CLEAR` [19 R368]. -/
def execBdAskipClear (s : State) : Answer := onDev bdAskipClear s

end Sys2Proof.Machine
end

