-- ==== Sys2Proof/Machine/RowsReset.lean ====
section
/-! DEFINITION. The meanings of the commands of resets, clocks and the power ladder [03; 04]. -/

namespace Sys2Proof.Machine

/-- `POWER_ON_RESET` [04 R65]. -/
def execPowerOnReset (also : BitVec 5) (s : State) : Answer := onDev (powerOnReset also.toNat) s

/-- `BROWN_OUT_RESET` [04 R65]. -/
def execBrownOutReset (also : BitVec 5) (s : State) : Answer := onDev (brownOutReset also.toNat) s

/-- `PIN_RESET` [04 R65]. -/
def execPinReset (also : BitVec 5) (s : State) : Answer := onDev (pinReset also.toNat) s

/-- `SOFT_RESET` [04 R65]. -/
def execSoftReset (byVerb : Bool) (also : BitVec 5) (s : State) : Answer :=
  onDev (if byVerb then resetByVerb also.toNat else softReset also.toNat) s

/-- `TAP_RESET` [04 R66]. -/
def execTapReset (s : State) : Answer := onDev tapReset s

/-- `RESETN_RELEASE` [04 R67]. -/
def execResetnRelease (bootsel : Bool) (s : State) : Answer := onDev (resetnRelease bootsel) s

/-- `XCLK_VALID` [04 R67]. -/
def execXclkValid (s : State) : Answer := onDev xclkValid s

/-- `PLL_LOCK` [03 R61]. -/
def execPllLock (bootsel : Bool) (s : State) : Answer := onDev (pllLock bootsel) s

/-- `OTP_SENSE_DONE` [04 R68]. -/
def execOtpSenseDone (ok : Bool) (alarms : BitVec 6) (s : State) : Answer := onDev (otpSenseDone ok alarms.toNat) s

/-- `AUTOBAUD_CHARACTER` [04 R71]. -/
def execAutobaudCharacter (interval : Nat) (c : Byte) (stop : Bool) (s : State) : Answer := onDev (autobaudCharacter interval c.toNat stop) s

/-- `CK_ROOT_SEL_WRITE` [03 R42]. -/
def execCkRootSelWrite (sel : Bool) (s : State) : Answer := onDev (ckRootSelWrite (bit sel)) s

/-- `HOLD_ENTRY` [03 R49]. -/
def execHoldEntry (s : State) : Answer := onDev holdEntry s

/-- `HOLD_EXIT` [03 R49]. -/
def execHoldExit (s : State) : Answer := onDev holdExit s

/-- `LADDER_ENTRY` [03 R51]. -/
def execLadderEntry (s : State) : Answer := onDev (fun d => ladderEntry (irqAbove d d.co.level).isSome d) s

/-- `QUIESCE_TIMEOUT` [03 R51]. -/
def execQuiesceTimeout (s : State) : Answer := onDev quiesceTimeout s

/-- `DORMANT_REQUEST` [12 R236]. -/
def execDormantRequest (s : State) : Answer := onDev dormantRequest s

/-- `WAKE` [03 R56]. -/
def execWake (sources : BitVec 8) (s : State) : Answer := onDev (wake sources.toNat) s

/-- `NAP_MOTION_WAKE` [03 R54]. -/
def execNapMotionWake (n : Fin 2) (s : State) : Answer := onDev (napMotionWake n) s

/-- `NAP_RATE_WAKE` [03 R54]. -/
def execNapRateWake (n : Fin 2) (s : State) : Answer := onDev (napRateWake n) s

/-- `CK_TLTL_READ` [03 R60]. -/
def execCkTltlRead (s : State) : Answer := onDev ckTltlRead s

/-- `PLL_UNLOCK` [03 R61]. -/
def execPllUnlock (s : State) : Answer := onDev pllUnlock s

/-- `XCLK_STOP` [03 R62]. -/
def execXclkStop (s : State) : Answer := onDev xclkStop s

/-- `XCLK_RETURN` [03 R463]. -/
def execXclkReturn (s : State) : Answer := onDev xclkReturn s

/-- `RING_CLOCK_LOSS` [03 R63]. -/
def execRingClockLoss (s : State) : Answer := onDev ringClockLoss s

/-- `HOLDOVER_END` [03 R63]. -/
def execHoldoverEnd (s : State) : Answer := onDev holdoverEnd s

/-- `RING_CLOCK_RETURN` [03 R42]. -/
def execRingClockReturn (s : State) : Answer := onDev ringClockReturn s

end Sys2Proof.Machine
end

