-- ==== Sys2Proof/Machine/RowsRing.lean ====
section
/-! DEFINITION. The meanings of the commands of the sync ring [21]. -/

namespace Sys2Proof.Machine

/-- `EPOCH_SEND` [21 R404]. -/
def execEpochSend (s : State) : Answer := onDev epochSend s

/-- `EPOCH_RECEIVE` [21 R408]. -/
def execEpochReceive (bytes : Bytes) (frac : Fin 16) (errs : Nat) (empty : Bool) (s : State) : Answer :=
  onDev (epochReceive (Bytes.nats bytes) frac errs empty) s

/-- `CELL_DISC` [21 R406]. -/
def execCellDisc (src : BitVec 4) (arg : Byte) (s : State) : Answer := onDev (cellDisc src.toNat arg.toNat) s

/-- `CELL_MEAS` [21 R407]. -/
def execCellMeas (src : BitVec 4) (arg : Byte) (link : Nat) (s : State) : Answer := onDev (cellMeas src.toNat arg.toNat link) s

/-- `CELL_MRES` [21 R407]. -/
def execCellMres (src : BitVec 4) (data : Word) (s : State) : Answer := onDev (cellMres src.toNat data.toNat) s

/-- `CELL_DLY` [21 R406]. -/
def execCellDly (src : BitVec 4) (arg : Byte) (data : Word) (s : State) : Answer := onDev (cellDly src.toNat arg.toNat data.toNat) s

/-- `CELL_ALIGNED` [21 R406]. -/
def execCellAligned (src : BitVec 4) (s : State) : Answer := onDev (cellAligned src.toNat) s

/-- `CELL_JOIN` [21 R414]. -/
def execCellJoin (src : BitVec 4) (s : State) : Answer := onDev (cellJoin src.toNat) s

/-- `CELL_LEAVE` [21 R413]. -/
def execCellLeave (src : BitVec 4) (s : State) : Answer := onDev (cellLeave src.toNat) s

/-- `CELL_ROLL` [21 R413]. -/
def execCellRoll (s : State) : Answer := onDev cellRoll s

/-- `CELL_TAINT` [21 R419]. -/
def execCellTaint (src : BitVec 4) (arg : Byte) (data : Word) (s : State) : Answer := onDev (cellTaint src.toNat arg.toNat data.toNat) s

/-- `CELL_TUN` [21 R417]. -/
def execCellTun (src : BitVec 4) (arg : Byte) (data : Word) (s : State) : Answer := onDev (cellTun src.toNat arg.toNat data.toNat) s

/-- `CELL_TUNR` [21 R418]. -/
def execCellTunr (src : BitVec 4) (arg : Byte) (data : Word) (s : State) : Answer := onDev (tunnelCell src.toNat arg.toNat data.toNat) s

/-- `ALIGNMENT_TIMEOUT` [21 R406]. -/
def execAlignmentTimeout (s : State) : Answer := onDev alignmentTimeout s

/-- `EPOCH_WATCHDOG_EXPIRY` [21 R415]. -/
def execEpochWatchdogExpiry (s : State) : Answer := onDev epochWatchdogExpiry s

/-- `SR_CTL_UP` [21 R406]. -/
def execSrCtlUp (s : State) : Answer := onDev srUp s

/-- `SR_CTL_DOWN` [21 R416]. -/
def execSrCtlDown (s : State) : Answer := onDev srDown s

/-- `SR_CTL_JOIN` [21 R413]. -/
def execSrCtlJoin (s : State) : Answer := onDev srJoin s

/-- `SR_CTL_LEAVE` [21 R413]. -/
def execSrCtlLeave (s : State) : Answer := onDev srLeave s

/-- `SR_CNT_CLEAR` [21 R403]. -/
def execSrCntClear (s : State) : Answer := onDev srCntClear s

end Sys2Proof.Machine
end

