-- ==== Sys2Proof/Machine/RowsSerial.lean ====
section
/-! DEFINITION. The meanings of the commands of the serial memory port and the slave port [13]. -/

namespace Sys2Proof.Machine

/-- `CQ_PUSH` [13 R254]. -/
def execCqPush (ctrl : Word) (s : State) : Answer := onDev (cqPush ctrl.toNat) s

/-- `TRANSFER_GRANT` [01 R16]. -/
def execTransferGrant (s : State) : Answer := onDev transferGrant s

/-- `TRANSFER_END` [01 R17]. -/
def execTransferEnd (bytes : Bytes) (s : State) : Answer := onDev (transferEnd (Bytes.nats bytes)) s

/-- `CONTINUE_TIMEOUT` [13 R256]. -/
def execContinueTimeout (s : State) : Answer := onDev continueTimeout s

/-- `POLL_DUE` [13 R257]. -/
def execPollDue (n : Fin 4) (s : State) : Answer := onDev (pollDue n) s

/-- `WRITE_WAIT_TIMEOUT` [13 R257]. -/
def execWriteWaitTimeout (n : Fin 4) (s : State) : Answer := onDev (writeWaitTimeout n) s

/-- `DISCOVERY_START` [13 R262]. -/
def execDiscoveryStart (selmask : BitVec 4) (wmax : BitVec 2) (s : State) : Answer := onDev (discoveryStart selmask.toNat wmax.toNat) s

/-- `SP_RXD_POP` [13 R255]. -/
def execSpRxdPop (s : State) : Answer := onDev spRxdPop s

/-- `SSSN_FALL` [13 R269]. -/
def execSssnFall (s : State) : Answer := onDev sssnFall s

/-- `SLAVE_FRAME` [13 R266]. -/
def execSlaveFrame (bytes : Bytes) (extra : Fin 8) (s : State) : Answer := onDev (fun d => pumpOut (slaveFrame (Bytes.nats bytes) extra d)) s

/-- `SP_STX_WRITE` [13 R269]. -/
def execSpStxWrite (b : Byte) (s : State) : Answer := onDev (spStxWrite b.toNat) s

/-- `SP_SCNT_CLEAR` [13 R266]. -/
def execSpScntClear (s : State) : Answer := onDev spScntClear s

end Sys2Proof.Machine
end

