-- ==== Sys2Proof/Machine/RowsSower.lean ====
section
/-! DEFINITION. The meanings of the commands of the Sower and the Drill [16]. -/

namespace Sys2Proof.Machine

/-- `FURROW_EVALUATION` [16 R313]. -/
def execFurrowEvaluation (f : Fin 256) (s : State) : Answer := onDev (furrowEvaluation f) s

/-- `REFILL_EVALUATION` [16 R313]. -/
def execRefillEvaluation (f : Fin 256) (s : State) : Answer := onDev (refillEvaluation f) s

/-- `SW_FCMD_ON` [16 R310]. -/
def execSwFcmdOn (f : Fin 256) (s : State) : Answer := onDev (fcmdWrite 1 f) s

/-- `SW_FCMD_OFF` [16 R310]. -/
def execSwFcmdOff (f : Fin 256) (s : State) : Answer := onDev (fcmdWrite 2 f) s

/-- `SW_FCMD_CLRCNT` [16 R310]. -/
def execSwFcmdClrcnt (f : Fin 256) (s : State) : Answer := onDev (fcmdWrite 3 f) s

/-- `FURROW_CONFIG_WRITE` [16 R304]. -/
def execFurrowConfigWrite (f : Fin 256) (i : Fin 6) (v : Word) (s : State) : Answer := onDev (furrowConfigWrite f i v.toNat) s

/-- `FURROW_NEXT_READ` [16 R303]. -/
def execFurrowNextRead (f : Fin 256) (s : State) : Answer := onDev (fun d => { furrowNextRead f d with rd := (d.fu f).next % 2 ^ 32 }) s

/-- `FURROW_LAST_READ` [16 R303]. -/
def execFurrowLastRead (f : Fin 256) (s : State) : Answer := onDev (fun d => { furrowLastRead f d with rd := (d.fu f).last % 2 ^ 32 }) s

/-- `DR_TFIRE_READ` [16 R318]. -/
def execDrTfireRead (k : Fin 64) (s : State) : Answer := onDev (fun d => { drTfireRead k d with rd := slotWord d k 0 }) s

/-- `SW_COUNT_CLEAR` [16 R324]. -/
def execSwCountClear (i : Fin 3) (s : State) : Answer := onDev (swCountClear i) s

/-- `SW_FHL_CLEAR` [16 R322]. -/
def execSwFhlClear (b : Fin 6) (s : State) : Answer := onDev (swFhlClear b) s

/-- `DR_FIRED_CLEAR` [16 R324]. -/
def execDrFiredClear (s : State) : Answer := onDev drFiredClear s

/-- `SLOT_SET` [16 R318]. -/
def execSlotSet (k : Fin 64) (s : State) : Answer := onDev (slotSet k) s

/-- `SLOT_FIRE` [16 R318]. -/
def execSlotFire (k : Fin 64) (s : State) : Answer := onDev (slotFire k) s

/-- `PATTERN_STEP_START` [17 R331]. -/
def execPatternStepStart (k : Fin 64) (s : State) : Answer := onDev (patternStepStart k) s

/-- `PULSE_END` [18 R348]. -/
def execPulseEnd (k : Fin 64) (short : Nat) (s : State) : Answer := onDev (pulseEnd k short) s

/-- `HEADLAND_COMMIT` [01 R20]. -/
def execHeadlandCommit (b : Fin 6) (s : State) : Answer := onDev (headlandCommit b) s

/-- `FORCED_HEADLAND` [16 R322]. -/
def execForcedHeadland (b : Fin 6) (s : State) : Answer := onDev (forcedHeadland b) s

end Sys2Proof.Machine
end

