-- ==== Sys2Proof/Machine/RowsVerb.lean ====
section
/-! DEFINITION. The meanings of the commands of the lines and verbs of the interpreter [04; 11; 12]. -/

namespace Sys2Proof.Machine

/-- `HELLO` [04 R74]. -/
def execHello (via : Via) (text : Bytes) (s : State) : Answer := onDev (verbLine (Via.ctx via) "HELLO" [] [] (Bytes.nats text)) s

/-- `IDENT` [12 R235]. -/
def execIdent (via : Via) (text : Bytes) (s : State) : Answer := onDev (verbLine (Via.ctx via) "IDENT" [] [] (Bytes.nats text)) s

/-- `STATUS` [04 R74]. -/
def execStatus (via : Via) (text : Bytes) (s : State) : Answer := onDev (verbLine (Via.ctx via) "STATUS" [] [] (Bytes.nats text)) s

/-- `MODE` [11 R222]. -/
def execMode (via : Via) (text : Bytes) (s : State) : Answer := onDev (verbLine (Via.ctx via) "MODE" [] [] (Bytes.nats text)) s

/-- `LOAD` [04 R81]. -/
def execLoad (via : Via) (text : Bytes) (s : State) : Answer := onDev (verbLine (Via.ctx via) "LOAD" [] [] (Bytes.nats text)) s

/-- `LOAD_ABORT` [04 R82]. -/
def execLoadAbort (via : Via) (text : Bytes) (s : State) : Answer := onDev (verbLine (Via.ctx via) "LOAD ABORT" [] [] (Bytes.nats text)) s

/-- `START` [04 R85]. -/
def execStart (via : Via) (text : Bytes) (win : BitVec 2) (s : State) : Answer :=
  onDev (fun d => verbLine (Via.ctx via) "START" [] [] (Bytes.nats text) (setWindow win.toNat d)) s

/-- `POWER` [12 R236]. -/
def execPower (via : Via) (text : Bytes) (s : State) : Answer := onDev (verbLine (Via.ctx via) "POWER" [] [] (Bytes.nats text)) s

/-- `RESET` [04 R65]. -/
def execReset (via : Via) (text : Bytes) (s : State) : Answer := onDev (verbLine (Via.ctx via) "RESET" [] [] (Bytes.nats text)) s

/-- `SLAVE_RECORD_FRAME` [04 R83]. -/
def execSlaveRecordFrame (bytes : Bytes) (s : State) : Answer := onDev (monitorFrame (0x4C :: Bytes.nats bytes)) s

/-- `SLAVE_LINE_FRAME` [04 R83]. -/
def execSlaveLineFrame (bytes : Bytes) (s : State) : Answer := onDev (monitorFrame (0x54 :: Bytes.nats bytes)) s

/-- `TUNNEL_TIMEOUT` [11 R227]. -/
def execTunnelTimeout (s : State) : Answer := onDev tunnelTimeout s

/-- `REGISTERED_VERB` [11 R224]. -/
def execRegisteredVerb (via : Via) (i : Fin 16) (text : Bytes) (s : State) : Answer := onDev (registeredLine (Via.ctx via) i (Bytes.nats text)) s

/-- `SET` [12 R237]. -/
def execSet (via : Via) (text : Bytes) (s : State) : Answer := onDev (verbLine (Via.ctx via) "SET" [] [] (Bytes.nats text)) s

/-- `GET` [12 R237]. -/
def execGet (via : Via) (text : Bytes) (s : State) : Answer := onDev (verbLine (Via.ctx via) "GET" [] [] (Bytes.nats text)) s

/-- `OTP_READ` [12 R238]. -/
def execOtpRead (via : Via) (text : Bytes) (s : State) : Answer := onDev (verbLine (Via.ctx via) "OTP READ" [] [] (Bytes.nats text)) s

/-- `OTP_MARGIN` [12 R238]. -/
def execOtpMargin (via : Via) (text : Bytes) (s : State) : Answer := onDev (verbLine (Via.ctx via) "OTP MARGIN" [] [] (Bytes.nats text)) s

/-- `OTP_CHECK` [12 R238]. -/
def execOtpCheck (via : Via) (text : Bytes) (s : State) : Answer := onDev (verbLine (Via.ctx via) "OTP CHECK" [] [] (Bytes.nats text)) s

/-- `OTP_BURN` [12 R238]. -/
def execOtpBurn (via : Via) (text : Bytes) (win : BitVec 2) (s : State) : Answer :=
  onDev (fun d => verbLine (Via.ctx via) "OTP BURN" [] [] (Bytes.nats text) (setWindow win.toNat d)) s

/-- `OTP_REBURN` [12 R238]. -/
def execOtpReburn (via : Via) (text : Bytes) (win : BitVec 2) (s : State) : Answer :=
  onDev (fun d => verbLine (Via.ctx via) "OTP REBURN" [] [] (Bytes.nats text) (setWindow win.toNat d)) s

/-- `OTP_REVOKE` [12 R238]. -/
def execOtpRevoke (via : Via) (text : Bytes) (win : BitVec 2) (s : State) : Answer :=
  onDev (fun d => verbLine (Via.ctx via) "OTP REVOKE" [] [] (Bytes.nats text) (setWindow win.toNat d)) s

/-- `OTP_LOCK` [12 R238]. -/
def execOtpLock (via : Via) (text : Bytes) (win : BitVec 2) (s : State) : Answer :=
  onDev (fun d => verbLine (Via.ctx via) "OTP LOCK" [] [] (Bytes.nats text) (setWindow win.toNat d)) s

/-- `OTP_SENSE` [12 R238]. -/
def execOtpSense (via : Via) (text : Bytes) (s : State) : Answer := onDev (verbLine (Via.ctx via) "OTP SENSE" [] [] (Bytes.nats text)) s

/-- `KEY_ATTEST` [12 R239]. -/
def execKeyAttest (via : Via) (text : Bytes) (s : State) : Answer := onDev (verbLine (Via.ctx via) "KEY ATTEST" [] [] (Bytes.nats text)) s

/-- `KEY_ESCROW` [12 R239]. -/
def execKeyEscrow (via : Via) (text : Bytes) (s : State) : Answer := onDev (verbLine (Via.ctx via) "KEY ESCROW" [] [] (Bytes.nats text)) s

/-- `KEY_INVAL` [12 R239]. -/
def execKeyInval (via : Via) (text : Bytes) (win : BitVec 2) (s : State) : Answer :=
  onDev (fun d => verbLine (Via.ctx via) "KEY INVAL" [] [] (Bytes.nats text) (setWindow win.toNat d)) s

/-- `KEY_PERSO` [12 R239]. -/
def execKeyPerso (via : Via) (text : Bytes) (win : BitVec 2) (s : State) : Answer :=
  onDev (fun d => verbLine (Via.ctx via) "KEY PERSO" [] [] (Bytes.nats text) (setWindow win.toNat d)) s

/-- `KEY_FIELD` [12 R239]. -/
def execKeyField (via : Via) (text : Bytes) (win : BitVec 2) (s : State) : Answer :=
  onDev (fun d => verbLine (Via.ctx via) "KEY FIELD" [] [] (Bytes.nats text) (setWindow win.toNat d)) s

/-- `KEY_RETIRE` [12 R239]. -/
def execKeyRetire (via : Via) (text : Bytes) (win : BitVec 2) (s : State) : Answer :=
  onDev (fun d => verbLine (Via.ctx via) "KEY RETIRE" [] [] (Bytes.nats text) (setWindow win.toNat d)) s

/-- `FURROW_SET` [12 R240]. -/
def execFurrowSet (via : Via) (text : Bytes) (s : State) : Answer := onDev (verbLine (Via.ctx via) "FURROW SET" [] [] (Bytes.nats text)) s

/-- `FURROW_ON` [12 R241]. -/
def execFurrowOn (via : Via) (text : Bytes) (s : State) : Answer := onDev (verbLine (Via.ctx via) "FURROW ON" [] [] (Bytes.nats text)) s

/-- `FURROW_OFF` [12 R241]. -/
def execFurrowOff (via : Via) (text : Bytes) (s : State) : Answer := onDev (verbLine (Via.ctx via) "FURROW OFF" [] [] (Bytes.nats text)) s

/-- `FURROW_SHOW` [12 R241]. -/
def execFurrowShow (via : Via) (text : Bytes) (s : State) : Answer := onDev (verbLine (Via.ctx via) "FURROW SHOW" [] [] (Bytes.nats text)) s

/-- `PAGE_MAP` [12 R242]. -/
def execPageMap (via : Via) (text : Bytes) (s : State) : Answer := onDev (verbLine (Via.ctx via) "PAGE MAP" [] [] (Bytes.nats text)) s

/-- `PAGE_UNMAP` [12 R242]. -/
def execPageUnmap (via : Via) (text : Bytes) (s : State) : Answer := onDev (verbLine (Via.ctx via) "PAGE UNMAP" [] [] (Bytes.nats text)) s

/-- `PAGE_PIN` [12 R242]. -/
def execPagePin (via : Via) (text : Bytes) (s : State) : Answer := onDev (verbLine (Via.ctx via) "PAGE PIN" [] [] (Bytes.nats text)) s

/-- `PAGE_UNPIN` [12 R242]. -/
def execPageUnpin (via : Via) (text : Bytes) (s : State) : Answer := onDev (verbLine (Via.ctx via) "PAGE UNPIN" [] [] (Bytes.nats text)) s

/-- `PAGE_FETCH` [12 R242]. -/
def execPageFetch (via : Via) (text : Bytes) (s : State) : Answer := onDev (verbLine (Via.ctx via) "PAGE FETCH" [] [] (Bytes.nats text)) s

/-- `PAGE_SHOW` [12 R242]. -/
def execPageShow (via : Via) (text : Bytes) (s : State) : Answer := onDev (verbLine (Via.ctx via) "PAGE SHOW" [] [] (Bytes.nats text)) s

/-- `CHAN_SET` [12 R243]. -/
def execChanSet (via : Via) (text : Bytes) (s : State) : Answer := onDev (verbLine (Via.ctx via) "CHAN SET" [] [] (Bytes.nats text)) s

/-- `CHAN_ON` [12 R243]. -/
def execChanOn (via : Via) (text : Bytes) (s : State) : Answer := onDev (verbLine (Via.ctx via) "CHAN ON" [] [] (Bytes.nats text)) s

/-- `CHAN_OFF` [12 R243]. -/
def execChanOff (via : Via) (text : Bytes) (s : State) : Answer := onDev (verbLine (Via.ctx via) "CHAN OFF" [] [] (Bytes.nats text)) s

/-- `CHAN_SHOW` [12 R243]. -/
def execChanShow (via : Via) (text : Bytes) (s : State) : Answer := onDev (verbLine (Via.ctx via) "CHAN SHOW" [] [] (Bytes.nats text)) s

/-- `BANK_SET` [12 R243]. -/
def execBankSet (via : Via) (text : Bytes) (s : State) : Answer := onDev (verbLine (Via.ctx via) "BANK SET" [] [] (Bytes.nats text)) s

/-- `BANK_ON` [12 R243]. -/
def execBankOn (via : Via) (text : Bytes) (s : State) : Answer := onDev (verbLine (Via.ctx via) "BANK ON" [] [] (Bytes.nats text)) s

/-- `BANK_OFF` [12 R243]. -/
def execBankOff (via : Via) (text : Bytes) (s : State) : Answer := onDev (verbLine (Via.ctx via) "BANK OFF" [] [] (Bytes.nats text)) s

/-- `BANK_SHOW` [12 R243]. -/
def execBankShow (via : Via) (text : Bytes) (s : State) : Answer := onDev (verbLine (Via.ctx via) "BANK SHOW" [] [] (Bytes.nats text)) s

/-- `BANK_AIM` [12 R244]. -/
def execBankAim (via : Via) (text : Bytes) (s : State) : Answer := onDev (verbLine (Via.ctx via) "BANK AIM" [] [] (Bytes.nats text)) s

/-- `HEAD_SET` [12 R245]. -/
def execHeadSet (via : Via) (text : Bytes) (s : State) : Answer := onDev (verbLine (Via.ctx via) "HEAD SET" [] [] (Bytes.nats text)) s

/-- `HEAD_ON` [20 R394]. -/
def execHeadOn (via : Via) (text : Bytes) (s : State) : Answer := onDev (verbLine (Via.ctx via) "HEAD ON" [] [] (Bytes.nats text)) s

/-- `HEAD_OFF` [12 R245]. -/
def execHeadOff (via : Via) (text : Bytes) (s : State) : Answer := onDev (verbLine (Via.ctx via) "HEAD OFF" [] [] (Bytes.nats text)) s

/-- `HEAD_HITCH` [20 R394]. -/
def execHeadHitch (via : Via) (text : Bytes) (s : State) : Answer := onDev (verbLine (Via.ctx via) "HEAD HITCH" [] [] (Bytes.nats text)) s

/-- `HEAD_SHOW` [12 R245]. -/
def execHeadShow (via : Via) (text : Bytes) (s : State) : Answer := onDev (verbLine (Via.ctx via) "HEAD SHOW" [] [] (Bytes.nats text)) s

/-- `RING_UP` [12 R246]. -/
def execRingUp (via : Via) (text : Bytes) (s : State) : Answer := onDev (verbLine (Via.ctx via) "RING UP" [] [] (Bytes.nats text)) s

/-- `RING_DOWN` [12 R246]. -/
def execRingDown (via : Via) (text : Bytes) (s : State) : Answer := onDev (verbLine (Via.ctx via) "RING DOWN" [] [] (Bytes.nats text)) s

/-- `RING_JOIN` [12 R246]. -/
def execRingJoin (via : Via) (text : Bytes) (s : State) : Answer := onDev (verbLine (Via.ctx via) "RING JOIN" [] [] (Bytes.nats text)) s

/-- `RING_LEAVE` [12 R246]. -/
def execRingLeave (via : Via) (text : Bytes) (s : State) : Answer := onDev (verbLine (Via.ctx via) "RING LEAVE" [] [] (Bytes.nats text)) s

/-- `RING_SHOW` [12 R246]. -/
def execRingShow (via : Via) (text : Bytes) (s : State) : Answer := onDev (verbLine (Via.ctx via) "RING SHOW" [] [] (Bytes.nats text)) s

/-- `ENC_SET` [12 R247]. -/
def execEncSet (via : Via) (text : Bytes) (s : State) : Answer := onDev (verbLine (Via.ctx via) "ENC SET" [] [] (Bytes.nats text)) s

/-- `ENC_ZERO` [12 R247]. -/
def execEncZero (via : Via) (text : Bytes) (s : State) : Answer := onDev (verbLine (Via.ctx via) "ENC ZERO" [] [] (Bytes.nats text)) s

/-- `ENC_SHOW` [12 R247]. -/
def execEncShow (via : Via) (text : Bytes) (s : State) : Answer := onDev (verbLine (Via.ctx via) "ENC SHOW" [] [] (Bytes.nats text)) s

/-- `LEDGER_SHOW` [12 R248]. -/
def execLedgerShow (via : Via) (text : Bytes) (s : State) : Answer := onDev (verbLine (Via.ctx via) "LEDGER SHOW" [] [] (Bytes.nats text)) s

/-- `LEDGER_SAVE` [22 R434]. -/
def execLedgerSave (via : Via) (text : Bytes) (s : State) : Answer := onDev (verbLine (Via.ctx via) "LEDGER SAVE" [] [] (Bytes.nats text)) s

/-- `LEDGER_LOAD` [22 R431]. -/
def execLedgerLoad (via : Via) (text slotA slotB : Bytes) (s : State) : Answer :=
  onDev (verbLine (Via.ctx via) "LEDGER LOAD" (Bytes.nats slotA) (Bytes.nats slotB) (Bytes.nats text)) s

/-- `TRACE_ON` [12 R249]. -/
def execTraceOn (via : Via) (text : Bytes) (s : State) : Answer := onDev (verbLine (Via.ctx via) "TRACE ON" [] [] (Bytes.nats text)) s

/-- `TRACE_OFF` [12 R249]. -/
def execTraceOff (via : Via) (text : Bytes) (s : State) : Answer := onDev (verbLine (Via.ctx via) "TRACE OFF" [] [] (Bytes.nats text)) s

/-- `TRACE_SHOW` [12 R249]. -/
def execTraceShow (via : Via) (text : Bytes) (s : State) : Answer := onDev (verbLine (Via.ctx via) "TRACE SHOW" [] [] (Bytes.nats text)) s

end Sys2Proof.Machine
end

