-- ==== Sys2Proof/Machine/Dispatch.lean ====
section
/-! DEFINITION. The meaning of every command, one arm for each constructor. -/

namespace Sys2Proof.Machine

/-- The effect of a command on everything but the queue. -/
def exec (i : Instr) (s : State) : Host.Outcome State Fault Refusal :=
  match i with
  | .powerOnReset also => Sys2Proof.Machine.execPowerOnReset also s
  | .brownOutReset also => Sys2Proof.Machine.execBrownOutReset also s
  | .pinReset also => Sys2Proof.Machine.execPinReset also s
  | .softReset byVerb also => Sys2Proof.Machine.execSoftReset byVerb also s
  | .tapReset => Sys2Proof.Machine.execTapReset s
  | .resetnRelease bootsel => Sys2Proof.Machine.execResetnRelease bootsel s
  | .xclkValid => Sys2Proof.Machine.execXclkValid s
  | .pllLock bootsel => Sys2Proof.Machine.execPllLock bootsel s
  | .otpSenseDone ok alarms => Sys2Proof.Machine.execOtpSenseDone ok alarms s
  | .autobaudCharacter interval c stop => Sys2Proof.Machine.execAutobaudCharacter interval c stop s
  | .ckRootSelWrite sel => Sys2Proof.Machine.execCkRootSelWrite sel s
  | .holdEntry => Sys2Proof.Machine.execHoldEntry s
  | .holdExit => Sys2Proof.Machine.execHoldExit s
  | .ladderEntry => Sys2Proof.Machine.execLadderEntry s
  | .quiesceTimeout => Sys2Proof.Machine.execQuiesceTimeout s
  | .dormantRequest => Sys2Proof.Machine.execDormantRequest s
  | .wake sources => Sys2Proof.Machine.execWake sources s
  | .napMotionWake n => Sys2Proof.Machine.execNapMotionWake n s
  | .napRateWake n => Sys2Proof.Machine.execNapRateWake n s
  | .ckTltlRead => Sys2Proof.Machine.execCkTltlRead s
  | .pllUnlock => Sys2Proof.Machine.execPllUnlock s
  | .xclkStop => Sys2Proof.Machine.execXclkStop s
  | .xclkReturn => Sys2Proof.Machine.execXclkReturn s
  | .ringClockLoss => Sys2Proof.Machine.execRingClockLoss s
  | .holdoverEnd => Sys2Proof.Machine.execHoldoverEnd s
  | .hello via text => Sys2Proof.Machine.execHello via text s
  | .ident via text => Sys2Proof.Machine.execIdent via text s
  | .status via text => Sys2Proof.Machine.execStatus via text s
  | .mode via text => Sys2Proof.Machine.execMode via text s
  | .load via text => Sys2Proof.Machine.execLoad via text s
  | .loadAbort via text => Sys2Proof.Machine.execLoadAbort via text s
  | .start via text win => Sys2Proof.Machine.execStart via text win s
  | .power via text => Sys2Proof.Machine.execPower via text s
  | .reset via text => Sys2Proof.Machine.execReset via text s
  | .slaveRecordFrame bytes => Sys2Proof.Machine.execSlaveRecordFrame bytes s
  | .slaveLineFrame bytes => Sys2Proof.Machine.execSlaveLineFrame bytes s
  | .otCmdNop rom => Sys2Proof.Machine.execOtCmdNop rom s
  | .otCmdRead rom => Sys2Proof.Machine.execOtCmdRead rom s
  | .otCmdMargl rom => Sys2Proof.Machine.execOtCmdMargl rom s
  | .otCmdMargh rom => Sys2Proof.Machine.execOtCmdMargh rom s
  | .otCmdBurn rom win => Sys2Proof.Machine.execOtCmdBurn rom win s
  | .otCmdReburn rom win => Sys2Proof.Machine.execOtCmdReburn rom win s
  | .otCmdInc rom win => Sys2Proof.Machine.execOtCmdInc rom win s
  | .otCmdCheck rom => Sys2Proof.Machine.execOtCmdCheck rom s
  | .otCmdLock rom win => Sys2Proof.Machine.execOtCmdLock rom win s
  | .otCmdSense rom => Sys2Proof.Machine.execOtCmdSense rom s
  | .otCmdInvalid rom k => Sys2Proof.Machine.execOtCmdInvalid rom k s
  | .burnPulseEnd lo hi tie => Sys2Proof.Machine.execBurnPulseEnd lo hi tie s
  | .burnWindowFall cond lo hi => Sys2Proof.Machine.execBurnWindowFall cond lo hi s
  | .otCommandDone => Sys2Proof.Machine.execOtCommandDone s
  | .tamperBeadBurn win => Sys2Proof.Machine.execTamperBeadBurn win s
  | .kyNop => Sys2Proof.Machine.execKyNop s
  | .kyDerive => Sys2Proof.Machine.execKyDerive s
  | .kyUnwrap => Sys2Proof.Machine.execKyUnwrap s
  | .kyWrapkey => Sys2Proof.Machine.execKyWrapkey s
  | .kyEncrypt => Sys2Proof.Machine.execKyEncrypt s
  | .kyDecrypt => Sys2Proof.Machine.execKyDecrypt s
  | .kyClear => Sys2Proof.Machine.execKyClear s
  | .kyGenpair => Sys2Proof.Machine.execKyGenpair s
  | .kyLoadpair => Sys2Proof.Machine.execKyLoadpair s
  | .kySign => Sys2Proof.Machine.execKySign s
  | .kyAttest => Sys2Proof.Machine.execKyAttest s
  | .kyEscrow => Sys2Proof.Machine.execKyEscrow s
  | .kyInval win => Sys2Proof.Machine.execKyInval win s
  | .kyPerso win => Sys2Proof.Machine.execKyPerso win s
  | .kyField win => Sys2Proof.Machine.execKyField win s
  | .kyRetire win => Sys2Proof.Machine.execKyRetire win s
  | .kyCommandDone => Sys2Proof.Machine.execKyCommandDone s
  | .kregRemask => Sys2Proof.Machine.execKregRemask s
  | .trngHealthFail => Sys2Proof.Machine.execTrngHealthFail s
  | .trngHealthRecover => Sys2Proof.Machine.execTrngHealthRecover s
  | .jtagInstructionUpdate ir => Sys2Proof.Machine.execJtagInstructionUpdate ir s
  | .unlockCapture => Sys2Proof.Machine.execUnlockCapture s
  | .unlockUpdate low key sig => Sys2Proof.Machine.execUnlockUpdate low key sig s
  | .unlockVerifyDone => Sys2Proof.Machine.execUnlockVerifyDone s
  | .tamperAlarm sources => Sys2Proof.Machine.execTamperAlarm sources s
  | .add t a b => Sys2Proof.Machine.execAdd t a b s
  | .adds t a b => Sys2Proof.Machine.execAdds t a b s
  | .adc t a b => Sys2Proof.Machine.execAdc t a b s
  | .sub t a b => Sys2Proof.Machine.execSub t a b s
  | .subs t a b => Sys2Proof.Machine.execSubs t a b s
  | .sbc t a b => Sys2Proof.Machine.execSbc t a b s
  | .and t a b => Sys2Proof.Machine.execAnd t a b s
  | .or t a b => Sys2Proof.Machine.execOr t a b s
  | .xor t a b => Sys2Proof.Machine.execXor t a b s
  | .ands t a b => Sys2Proof.Machine.execAnds t a b s
  | .andn t a b => Sys2Proof.Machine.execAndn t a b s
  | .shl t a b => Sys2Proof.Machine.execShl t a b s
  | .shr t a b => Sys2Proof.Machine.execShr t a b s
  | .sar t a b => Sys2Proof.Machine.execSar t a b s
  | .ror t a b => Sys2Proof.Machine.execRor t a b s
  | .addi t a imm => Sys2Proof.Machine.execAddi t a imm s
  | .addsi t a imm => Sys2Proof.Machine.execAddsi t a imm s
  | .subsi t a imm => Sys2Proof.Machine.execSubsi t a imm s
  | .andi t a imm => Sys2Proof.Machine.execAndi t a imm s
  | .ori t a imm => Sys2Proof.Machine.execOri t a imm s
  | .xori t a imm => Sys2Proof.Machine.execXori t a imm s
  | .shi t a imm => Sys2Proof.Machine.execShi t a imm s
  | .movl t imm => Sys2Proof.Machine.execMovl t imm s
  | .movh t imm => Sys2Proof.Machine.execMovh t imm s
  | .extu t a lsb wm => Sys2Proof.Machine.execExtu t a lsb wm s
  | .exts t a lsb wm => Sys2Proof.Machine.execExts t a lsb wm s
  | .ins t a lsb wm => Sys2Proof.Machine.execIns t a lsb wm s
  | .popc t a => Sys2Proof.Machine.execPopc t a s
  | .clz t a => Sys2Proof.Machine.execClz t a s
  | .revb t a => Sys2Proof.Machine.execRevb t a s
  | .sexb t a => Sys2Proof.Machine.execSexb t a s
  | .sexh t a => Sys2Proof.Machine.execSexh t a s
  | .mul t a b => Sys2Proof.Machine.execMul t a b s
  | .mullu t u a b => Sys2Proof.Machine.execMullu t u a b s
  | .mulls t u a b => Sys2Proof.Machine.execMulls t u a b s
  | .divu t a b => Sys2Proof.Machine.execDivu t a b s
  | .divs t a b => Sys2Proof.Machine.execDivs t a b s
  | .remu t a b => Sys2Proof.Machine.execRemu t a b s
  | .rems t a b => Sys2Proof.Machine.execRems t a b s
  | .ldw t a imm => Sys2Proof.Machine.execLdw t a imm s
  | .ldhu t a imm => Sys2Proof.Machine.execLdhu t a imm s
  | .ldhs t a imm => Sys2Proof.Machine.execLdhs t a imm s
  | .ldbu t a imm => Sys2Proof.Machine.execLdbu t a imm s
  | .ldbs t a imm => Sys2Proof.Machine.execLdbs t a imm s
  | .stw r a imm => Sys2Proof.Machine.execStw r a imm s
  | .sth r a imm => Sys2Proof.Machine.execSth r a imm s
  | .stb r a imm => Sys2Proof.Machine.execStb r a imm s
  | .ldwx t a b => Sys2Proof.Machine.execLdwx t a b s
  | .stwx r a b => Sys2Proof.Machine.execStwx r a b s
  | .bCond cond disp => Sys2Proof.Machine.execBCond cond disp s
  | .call disp => Sys2Proof.Machine.execCall disp s
  | .jr a => Sys2Proof.Machine.execJr a s
  | .callr a => Sys2Proof.Machine.execCallr a s
  | .nop => Sys2Proof.Machine.execNop s
  | .sync => Sys2Proof.Machine.execSync s
  | .wait => Sys2Proof.Machine.execWait s
  | .reti => Sys2Proof.Machine.execReti s
  | .brk => Sys2Proof.Machine.execBrk s
  | .mfstat t => Sys2Proof.Machine.execMfstat t s
  | .mtstat a => Sys2Proof.Machine.execMtstat a s
  | .mfc t c => Sys2Proof.Machine.execMfc t c s
  | .mtc a c => Sys2Proof.Machine.execMtc a c s
  | .undefinedEncoding w => Sys2Proof.Machine.execUndefinedEncoding w s
  | .callmInfo => Sys2Proof.Machine.execCallmInfo s
  | .callmKeygo => Sys2Proof.Machine.execCallmKeygo s
  | .callmKeyend => Sys2Proof.Machine.execCallmKeyend s
  | .callmTamper => Sys2Proof.Machine.execCallmTamper s
  | .callmLine win slotA slotB => Sys2Proof.Machine.execCallmLine win slotA slotB s
  | .callmVerb => Sys2Proof.Machine.execCallmVerb s
  | .callmReply => Sys2Proof.Machine.execCallmReply s
  | .callmEvent => Sys2Proof.Machine.execCallmEvent s
  | .callmUnused n => Sys2Proof.Machine.execCallmUnused n s
  | .interruptEntry => Sys2Proof.Machine.execInterruptEntry s
  | .waitWake => Sys2Proof.Machine.execWaitWake s
  | .farLoadReturn => Sys2Proof.Machine.execFarLoadReturn s
  | .busiReport => Sys2Proof.Machine.execBusiReport s
  | .writeBufferDrain => Sys2Proof.Machine.execWriteBufferDrain s
  | .xipLineFillDone line => Sys2Proof.Machine.execXipLineFillDone line s
  | .throttleTick => Sys2Proof.Machine.execThrottleTick s
  | .demandChange => Sys2Proof.Machine.execDemandChange s
  | .coreVsetWrite v => Sys2Proof.Machine.execCoreVsetWrite v s
  | .icInvalidate => Sys2Proof.Machine.execIcInvalidate s
  | .icStatClear => Sys2Proof.Machine.execIcStatClear s
  | .registerWrite a v => Sys2Proof.Machine.execRegisterWrite a v s
  | .patternWindowAccess write offset v => Sys2Proof.Machine.execPatternWindowAccess write offset v s
  | .uartCharacter c stopOk => Sys2Proof.Machine.execUartCharacter c stopOk s
  | .idleClose => Sys2Proof.Machine.execIdleClose s
  | .writeSideGrant q => Sys2Proof.Machine.execWriteSideGrant q s
  | .queuePop q => Sys2Proof.Machine.execQueuePop q s
  | .popTimeout q => Sys2Proof.Machine.execPopTimeout q s
  | .queueFlush q => Sys2Proof.Machine.execQueueFlush q s
  | .queueDrop q => Sys2Proof.Machine.execQueueDrop q s
  | .qnLostClear q => Sys2Proof.Machine.execQnLostClear q s
  | .lineTimeout => Sys2Proof.Machine.execLineTimeout s
  | .uartTransmit ctsn => Sys2Proof.Machine.execUartTransmit ctsn s
  | .uaTxWrite b => Sys2Proof.Machine.execUaTxWrite b s
  | .tunnelTimeout => Sys2Proof.Machine.execTunnelTimeout s
  | .registeredVerb via n text => Sys2Proof.Machine.execRegisteredVerb via n text s
  | .set via text => Sys2Proof.Machine.execSet via text s
  | .get via text => Sys2Proof.Machine.execGet via text s
  | .otpRead via text => Sys2Proof.Machine.execOtpRead via text s
  | .otpMargin via text => Sys2Proof.Machine.execOtpMargin via text s
  | .otpCheck via text => Sys2Proof.Machine.execOtpCheck via text s
  | .otpBurn via text win => Sys2Proof.Machine.execOtpBurn via text win s
  | .otpReburn via text win => Sys2Proof.Machine.execOtpReburn via text win s
  | .otpRevoke via text win => Sys2Proof.Machine.execOtpRevoke via text win s
  | .otpLock via text win => Sys2Proof.Machine.execOtpLock via text win s
  | .otpSense via text => Sys2Proof.Machine.execOtpSense via text s
  | .keyAttest via text => Sys2Proof.Machine.execKeyAttest via text s
  | .keyEscrow via text => Sys2Proof.Machine.execKeyEscrow via text s
  | .keyInval via text win => Sys2Proof.Machine.execKeyInval via text win s
  | .keyPerso via text win => Sys2Proof.Machine.execKeyPerso via text win s
  | .keyField via text win => Sys2Proof.Machine.execKeyField via text win s
  | .keyRetire via text win => Sys2Proof.Machine.execKeyRetire via text win s
  | .furrowSet via text => Sys2Proof.Machine.execFurrowSet via text s
  | .furrowOn via text => Sys2Proof.Machine.execFurrowOn via text s
  | .furrowOff via text => Sys2Proof.Machine.execFurrowOff via text s
  | .furrowShow via text => Sys2Proof.Machine.execFurrowShow via text s
  | .pageMap via text => Sys2Proof.Machine.execPageMap via text s
  | .pageUnmap via text => Sys2Proof.Machine.execPageUnmap via text s
  | .pagePin via text => Sys2Proof.Machine.execPagePin via text s
  | .pageUnpin via text => Sys2Proof.Machine.execPageUnpin via text s
  | .pageFetch via text => Sys2Proof.Machine.execPageFetch via text s
  | .pageShow via text => Sys2Proof.Machine.execPageShow via text s
  | .chanSet via text => Sys2Proof.Machine.execChanSet via text s
  | .chanOn via text => Sys2Proof.Machine.execChanOn via text s
  | .chanOff via text => Sys2Proof.Machine.execChanOff via text s
  | .chanShow via text => Sys2Proof.Machine.execChanShow via text s
  | .bankSet via text => Sys2Proof.Machine.execBankSet via text s
  | .bankOn via text => Sys2Proof.Machine.execBankOn via text s
  | .bankOff via text => Sys2Proof.Machine.execBankOff via text s
  | .bankShow via text => Sys2Proof.Machine.execBankShow via text s
  | .bankAim via text => Sys2Proof.Machine.execBankAim via text s
  | .headSet via text => Sys2Proof.Machine.execHeadSet via text s
  | .headOn via text => Sys2Proof.Machine.execHeadOn via text s
  | .headOff via text => Sys2Proof.Machine.execHeadOff via text s
  | .headHitch via text => Sys2Proof.Machine.execHeadHitch via text s
  | .headShow via text => Sys2Proof.Machine.execHeadShow via text s
  | .ringUp via text => Sys2Proof.Machine.execRingUp via text s
  | .ringDown via text => Sys2Proof.Machine.execRingDown via text s
  | .ringJoin via text => Sys2Proof.Machine.execRingJoin via text s
  | .ringLeave via text => Sys2Proof.Machine.execRingLeave via text s
  | .ringShow via text => Sys2Proof.Machine.execRingShow via text s
  | .encSet via text => Sys2Proof.Machine.execEncSet via text s
  | .encZero via text => Sys2Proof.Machine.execEncZero via text s
  | .encShow via text => Sys2Proof.Machine.execEncShow via text s
  | .ledgerShow via text => Sys2Proof.Machine.execLedgerShow via text s
  | .ledgerSave via text => Sys2Proof.Machine.execLedgerSave via text s
  | .ledgerLoad via text slotA slotB => Sys2Proof.Machine.execLedgerLoad via text slotA slotB s
  | .traceOn via text => Sys2Proof.Machine.execTraceOn via text s
  | .traceOff via text => Sys2Proof.Machine.execTraceOff via text s
  | .traceShow via text => Sys2Proof.Machine.execTraceShow via text s
  | .cqPush ctrl => Sys2Proof.Machine.execCqPush ctrl s
  | .transferGrant => Sys2Proof.Machine.execTransferGrant s
  | .transferEnd bytes => Sys2Proof.Machine.execTransferEnd bytes s
  | .continueTimeout => Sys2Proof.Machine.execContinueTimeout s
  | .pollDue n => Sys2Proof.Machine.execPollDue n s
  | .writeWaitTimeout n => Sys2Proof.Machine.execWriteWaitTimeout n s
  | .discoveryStart selmask wmax => Sys2Proof.Machine.execDiscoveryStart selmask wmax s
  | .spRxdPop => Sys2Proof.Machine.execSpRxdPop s
  | .sssnFall => Sys2Proof.Machine.execSssnFall s
  | .slaveFrame bytes extra => Sys2Proof.Machine.execSlaveFrame bytes extra s
  | .spStxWrite b => Sys2Proof.Machine.execSpStxWrite b s
  | .spScntClear => Sys2Proof.Machine.execSpScntClear s
  | .engineTick n pads => Sys2Proof.Machine.execEngineTick n pads s
  | .peTimerExpiry n pads => Sys2Proof.Machine.execPeTimerExpiry n pads s
  | .engineStart n => Sys2Proof.Machine.execEngineStart n s
  | .engineStop n => Sys2Proof.Machine.execEngineStop n s
  | .peDataInWrite n v => Sys2Proof.Machine.execPeDataInWrite n v s
  | .quadratureCount n a b => Sys2Proof.Machine.execQuadratureCount n a b s
  | .velocityUpdate n => Sys2Proof.Machine.execVelocityUpdate n s
  | .burstOnset n cm => Sys2Proof.Machine.execBurstOnset n cm s
  | .burstClear n => Sys2Proof.Machine.execBurstClear n s
  | .freezeEnd n => Sys2Proof.Machine.execFreezeEnd n s
  | .zCapture x => Sys2Proof.Machine.execZCapture x s
  | .positionLoad n => Sys2Proof.Machine.execPositionLoad n s
  | .enPositionRead n => Sys2Proof.Machine.execEnPositionRead n s
  | .enZcaptureRead n => Sys2Proof.Machine.execEnZcaptureRead n s
  | .enRingPositionRead => Sys2Proof.Machine.execEnRingPositionRead s
  | .enCntClear n => Sys2Proof.Machine.execEnCntClear n s
  | .furrowEvaluation f => Sys2Proof.Machine.execFurrowEvaluation f s
  | .refillEvaluation f => Sys2Proof.Machine.execRefillEvaluation f s
  | .swFcmdOn f => Sys2Proof.Machine.execSwFcmdOn f s
  | .swFcmdOff f => Sys2Proof.Machine.execSwFcmdOff f s
  | .swFcmdClrcnt f => Sys2Proof.Machine.execSwFcmdClrcnt f s
  | .furrowConfigWrite f n v => Sys2Proof.Machine.execFurrowConfigWrite f n v s
  | .furrowNextRead f => Sys2Proof.Machine.execFurrowNextRead f s
  | .furrowLastRead f => Sys2Proof.Machine.execFurrowLastRead f s
  | .drTfireRead k => Sys2Proof.Machine.execDrTfireRead k s
  | .swCountClear n => Sys2Proof.Machine.execSwCountClear n s
  | .swFhlClear b => Sys2Proof.Machine.execSwFhlClear b s
  | .drFiredClear => Sys2Proof.Machine.execDrFiredClear s
  | .slotSet k => Sys2Proof.Machine.execSlotSet k s
  | .slotFire k => Sys2Proof.Machine.execSlotFire k s
  | .patternStepStart k => Sys2Proof.Machine.execPatternStepStart k s
  | .pulseEnd k short => Sys2Proof.Machine.execPulseEnd k short s
  | .headlandCommit b => Sys2Proof.Machine.execHeadlandCommit b s
  | .forcedHeadland b => Sys2Proof.Machine.execForcedHeadland b s
  | .grPteWrite v => Sys2Proof.Machine.execGrPteWrite v s
  | .grCmdPin f g => Sys2Proof.Machine.execGrCmdPin f g s
  | .grCmdUnpin f g => Sys2Proof.Machine.execGrCmdUnpin f g s
  | .grCmdFetch f g => Sys2Proof.Machine.execGrCmdFetch f g s
  | .pageArrival f g bytes => Sys2Proof.Machine.execPageArrival f g bytes s
  | .pageFetchFailed f g => Sys2Proof.Machine.execPageFetchFailed f g s
  | .grCntClear => Sys2Proof.Machine.execGrCntClear s
  | .scanAssert k => Sys2Proof.Machine.execScanAssert k s
  | .scanOverload line => Sys2Proof.Machine.execScanOverload line s
  | .riseWindowEnd b reg low => Sys2Proof.Machine.execRiseWindowEnd b reg low s
  | .shortDetected c => Sys2Proof.Machine.execShortDetected c s
  | .boosterCheck b sense => Sys2Proof.Machine.execBoosterCheck b sense s
  | .boosterOvercurrent b sense => Sys2Proof.Machine.execBoosterOvercurrent b sense s
  | .vgdUndervoltage n => Sys2Proof.Machine.execVgdUndervoltage n s
  | .ldChcmdOn c => Sys2Proof.Machine.execLdChcmdOn c s
  | .ldChcmdOff c => Sys2Proof.Machine.execLdChcmdOff c s
  | .ldBcmdOn b => Sys2Proof.Machine.execLdBcmdOn b s
  | .ldBcmdOff b => Sys2Proof.Machine.execLdBcmdOff b s
  | .ldChcntClear c => Sys2Proof.Machine.execLdChcntClear c s
  | .aimingPeriodStart => Sys2Proof.Machine.execAimingPeriodStart s
  | .aimingPulseEnd c => Sys2Proof.Machine.execAimingPulseEnd c s
  | .chargeWindowRoll => Sys2Proof.Machine.execChargeWindowRoll s
  | .thermalUpdate => Sys2Proof.Machine.execThermalUpdate s
  | .adcSample n code => Sys2Proof.Machine.execAdcSample n code s
  | .sagTrip b => Sys2Proof.Machine.execSagTrip b s
  | .sagClear b => Sys2Proof.Machine.execSagClear b s
  | .compensationFail b => Sys2Proof.Machine.execCompensationFail b s
  | .bdBcntClear b => Sys2Proof.Machine.execBdBcntClear b s
  | .bdAskipClear => Sys2Proof.Machine.execBdAskipClear s
  | .triggerAssert k n => Sys2Proof.Machine.execTriggerAssert k n s
  | .triggerEnd p => Sys2Proof.Machine.execTriggerEnd p s
  | .exposureCheck p cover tie => Sys2Proof.Machine.execExposureCheck p cover tie s
  | .prsnChange p low => Sys2Proof.Machine.execPrsnChange p low s
  | .presenceDebounce p => Sys2Proof.Machine.execPresenceDebounce p s
  | .sendHello p => Sys2Proof.Machine.execSendHello p s
  | .sendParam p => Sys2Proof.Machine.execSendParam p s
  | .sendArmn p => Sys2Proof.Machine.execSendArmn p s
  | .sendDisarm p => Sys2Proof.Machine.execSendDisarm p s
  | .sendTaint p => Sys2Proof.Machine.execSendTaint p s
  | .sendHold p => Sys2Proof.Machine.execSendHold p s
  | .sendGo p => Sys2Proof.Machine.execSendGo p s
  | .sendPoll p => Sys2Proof.Machine.execSendPoll p s
  | .sendBye p => Sys2Proof.Machine.execSendBye p s
  | .receiveIdent p age bytes => Sys2Proof.Machine.execReceiveIdent p age bytes s
  | .receiveAck p age bytes => Sys2Proof.Machine.execReceiveAck p age bytes s
  | .receiveNote p age bytes => Sys2Proof.Machine.execReceiveNote p age bytes s
  | .receiveHeadBye p age bytes => Sys2Proof.Machine.execReceiveHeadBye p age bytes s
  | .messageGapTimeout p => Sys2Proof.Machine.execMessageGapTimeout p s
  | .replyWindowExpiry p => Sys2Proof.Machine.execReplyWindowExpiry p s
  | .pollIntervalExpiry p => Sys2Proof.Machine.execPollIntervalExpiry p s
  | .hpCtlOn p => Sys2Proof.Machine.execHpCtlOn p s
  | .hpCtlOff p => Sys2Proof.Machine.execHpCtlOff p s
  | .hpCtlHitch p => Sys2Proof.Machine.execHpCtlHitch p s
  | .hpExptWrite p v => Sys2Proof.Machine.execHpExptWrite p v s
  | .hpCntClear p => Sys2Proof.Machine.execHpCntClear p s
  | .hpXcntClear p => Sys2Proof.Machine.execHpXcntClear p s
  | .epochSend => Sys2Proof.Machine.execEpochSend s
  | .epochReceive bytes frac errs empty => Sys2Proof.Machine.execEpochReceive bytes frac errs empty s
  | .cellDisc src arg => Sys2Proof.Machine.execCellDisc src arg s
  | .cellMeas src arg link => Sys2Proof.Machine.execCellMeas src arg link s
  | .cellMres src data => Sys2Proof.Machine.execCellMres src data s
  | .cellDly src arg data => Sys2Proof.Machine.execCellDly src arg data s
  | .cellAligned src => Sys2Proof.Machine.execCellAligned src s
  | .cellJoin src => Sys2Proof.Machine.execCellJoin src s
  | .cellLeave src => Sys2Proof.Machine.execCellLeave src s
  | .cellRoll => Sys2Proof.Machine.execCellRoll s
  | .cellTaint src arg data => Sys2Proof.Machine.execCellTaint src arg data s
  | .cellTun src arg data => Sys2Proof.Machine.execCellTun src arg data s
  | .cellTunr src arg data => Sys2Proof.Machine.execCellTunr src arg data s
  | .alignmentTimeout => Sys2Proof.Machine.execAlignmentTimeout s
  | .epochWatchdogExpiry => Sys2Proof.Machine.execEpochWatchdogExpiry s
  | .srCtlUp => Sys2Proof.Machine.execSrCtlUp s
  | .srCtlDown => Sys2Proof.Machine.execSrCtlDown s
  | .srCtlJoin => Sys2Proof.Machine.execSrCtlJoin s
  | .srCtlLeave => Sys2Proof.Machine.execSrCtlLeave s
  | .srCntClear => Sys2Proof.Machine.execSrCntClear s
  | .ledgerCommitStep good back => Sys2Proof.Machine.execLedgerCommitStep good back s
  | .ringClockReturn => Sys2Proof.Machine.execRingClockReturn s
  | .vgdUndervoltageEnd n => Sys2Proof.Machine.execVgdUndervoltageEnd n s
  | .tamperAlarmClear => Sys2Proof.Machine.execTamperAlarmClear s
  | .vcaSettled => Sys2Proof.Machine.execVcaSettled s
  | .cacheInvalidationDone => Sys2Proof.Machine.execCacheInvalidationDone s
  | .byeStartTimeout p => Sys2Proof.Machine.execByeStartTimeout p s

end Sys2Proof.Machine
end

