-- ==== Sys2Proof/Machine/Step.lean ====
section
/-! DEFINITION. One step: the command at the front of the queue, or one nanosecond of model time. -/

namespace Sys2Proof.Machine

/-- TLT counts: in Run and Hold, and in the reset ladder once the PLL has locked [03 R59; 04 R67]. -/
def tltCounts (d : Dev) : Bool :=
  match d.ck.ladder with
  | .run => true
  | .hold => true
  | .resetting => d.b F.CK_STAT_PLLLOCK
  | _ => false

/-- An FCLK cycle ends: a byte of a staged packet enters each queue, and what the ticks of the next cycle sample is taken [10 R190; 14 R273]. -/
def cycleEnd (d : Dev) : Dev :=
  let d := queueCycle d
  { d with seen := peLook d }

/-- One nanosecond passes (log entry 21). -/
def tick (d : Dev) : Dev :=
  let d := if d.fclk d.ns < d.fclk (d.ns + 1) then cycleEnd d else d
  { d with ns := d.ns + 1, tlt := if tltCounts d then (d.tlt + 1) % tltMod else d.tlt }

/-- One step: the command at the front of the queue takes its effect with the rest of the queue; on an empty queue one nanosecond passes. -/
def step (s : State) : Host.Outcome State Fault Refusal :=
  match s.pending with
  | [] => .next { s with dev := tick s.dev }
  | c :: r => exec c { s with pending := r }

/-- `s` with the command that the word spells by the table's bits put at the front of its queue; the table gives no bits. -/
def State.withFetchWord (s : State) (nbits w : Nat) : State :=
  match decodeTableWord nbits w with
  | none => s
  | some i => { s with pending := i :: s.pending }

end Sys2Proof.Machine
end

