-- ==== Sys2Proof/Machine/Pins.lean ====
section
/-! DEFINITION. What the device's output pins do: in reset, in each ladder state, and as their blocks drive them [02 Tables PN-5, PN-7, R33, R34, R38,
R39; 03 R51; 10 R202; 11 R206, R220; 13 R252, R255, R269, R270; 06 R130]. Each is a function of the state. -/

namespace Sys2Proof.Machine

/-- What a pin does: driven low or high, at high impedance, released to its pull-up, or carrying the signal of its block. -/
inductive PinLevel where
  | low | high | hiz | released | live
  deriving DecidableEq, Repr

/-- The supply is below its power-on threshold: every output is at high impedance, every sink off [02 R33]. -/
def pinsDark (d : Dev) : Bool := d.ck.brown

/-- An output whose level is `l` while the supply stands. -/
def pinOut (l : PinLevel) (d : Dev) : PinLevel := if pinsDark d then .hiz else l

/-- A driver that is at high impedance in the sleep states [02 Table PN-7]. -/
def pinDriver (l : PinLevel) (d : Dev) : PinLevel := pinOut (if d.awake ∨ d.ck.ladder = .resetting then l else .hiz) d

/-! ### Host paths [02 R34, R39; 03 R51] -/

/-- The UART path is open: the device is ready to receive, and BOOTSEL selects the path or the image has enabled the receiver. -/
def uartOpen (d : Dev) : Bool := d.ck.host && (decide (bootPath d = 1) || d.b F.UA_CTL_RXEN)

/-- The slave path is open. -/
def slaveOpen (d : Dev) : Bool := d.ck.host && (decide (bootPath d = 2) || d.b F.SP_SCTL_EN)

/-- RTSN: low while the UART path is open and Q0's watermark condition is not set [10 R202; 11 R220]. -/
def rtsn (d : Dev) : PinLevel := pinOut (if uartOpen d && !d.b (F.Q_STAT_WM 0) then .low else .high) d

/-- The causes of R270: Q0's watermark condition, no free staging buffer, the outbound buffer full. -/
def slaveBusy (d : Dev) : Bool := d.b (F.Q_STAT_WM 0) || decide (2 ≤ slaveStaged d) || decide (1024 ≤ d.sp.tx.length)

/-- SBUSYN: high while the slave path is open and nothing of R270 holds. -/
def sbusyn (d : Dev) : PinLevel := pinOut (if slaveOpen d && !slaveBusy d then .high else .low) d

/-- UTX between characters: idle. -/
def utxIdle (d : Dev) : PinLevel := pinOut .high d

/-- The bits that UTX takes for a character: start bit, eight data bits, the least significant first, stop bit. -/
def uartFrame (c : Nat) : List Bool := false :: (List.range 8).map (fun i => bitAt c i) ++ [true]

/-- SSDO: at high impedance while SSSN is high or the frame is not accepted [13 R265]. -/
def ssdo (d : Dev) : PinLevel := pinOut (if d.sp.active && d.sp.taken then .live else .hiz) d

/-- Byte `i` that SSDO shifts out in a frame: the length L latched at SSSN's fall, the L bytes, then 0x00 [13 R269; 04 R84]. -/
def ssdoByte (d : Dev) (i : Nat) : Nat := if i = 0 then d.sp.lat else if i ≤ d.sp.lat then d.sp.tx.getD (i - 1) 0 else 0

/-! ### The serial memory port [13 R252] -/

/-- The transfer on the bus holds its select low. -/
def selected (d : Dev) (n : Nat) : Bool :=
  (match d.sp.bus with | some o => decide (o.sel = n ∧ o.start ≤ d.ns) | none => false) ||
    (match d.sp.held with | some h => decide (h.last.sel = n) | none => false)

/-- MSSn: low while a transfer holds select `n`, a run that waits for its continuation too. -/
def mss (d : Dev) (n : Nat) : PinLevel := pinOut (if selected d n then .low else .high) d

/-- A transfer's clocks run. -/
def clocking (d : Dev) : Bool := match d.sp.bus with | some o => decide (o.start ≤ d.ns ∧ d.ns < o.stop) | none => false

/-- MSCK: low between transfers. -/
def msckPin (d : Dev) : PinLevel := pinOut (if clocking d then .live else .low) d

/-- MIO0 to MIO3: released to their pull-ups between transfers. -/
def mio (d : Dev) : PinLevel := pinOut (if clocking d then .live else .released) d

/-- The bytes that the transfer on the bus sends, most significant bit first [13 R252, R255]. -/
def mioSends (d : Dev) : List Nat := match d.sp.bus with | some o => o.sends | none => []

/-! ### Heads, ring, general-purpose pins, JTAG -/

/-- TRGn. -/
def trg (d : Dev) (p : Nat) : PinLevel := pinDriver (if (d.head p).trig then .high else .low) d

/-- SBDn: released but for a message of the device's own. -/
def sbd (d : Dev) (p : Nat) : PinLevel := pinOut (if d.awake && decide (d.ns < (d.head p).lineIdle) && !(d.head p).sent.isEmpty then .live else .released) d

/-- SYO: logic 0 but for the ring's stream. -/
def syo (d : Dev) : PinLevel := pinDriver (if ringLive d then .live else .low) d

/-- GPg: an input, or what its engine drives; outputs hold in Nap and Fallow. -/
def gp (d : Dev) (g : Nat) : PinLevel :=
  pinOut (match gpDriven d g with | some true => .high | some false => .low | none => .hiz) d

/-- Bit `i` that TDO shifts out after Capture-DR of UNLOCK: bit `i` of the data register, bit 0 first [06 R130]. -/
def tdoBit (d : Dev) (i : Nat) : Bool := bitAt d.ky.dr i

/-- TDO outside Shift-IR and Shift-DR. -/
def tdoIdle (_ : Dev) : PinLevel := .hiz

/-! ### Light -/

/-- CHc: off at high impedance, or sinking its code. -/
def chPin (d : Dev) (c : Nat) : PinLevel := pinOut (if (d.sink c).code = 0 then .hiz else .live) d

/-- BGDb: driven low with its gate off, or switching for the booster's code. -/
def bgd (d : Dev) (b : Nat) : PinLevel := pinOut (if (d.bo b).boost = 0 then .low else .live) d

/-- SCNr: an open drain, pulled low while a bank asserts the line, at high impedance when released [18 R349]. -/
def scn (d : Dev) (r : Nat) : PinLevel := pinOut (if (assertedLines d).contains r then .low else .hiz) d

end Sys2Proof.Machine
end

