-- ==== Sys2Proof/Safety.lean ====
section
/-! DEFINITION. The terms in which the statements speak of a command's effect, and what a sound state keeps. -/

namespace Sys2Proof

open Sys2Proof.Machine

/-- Where `P` holds of the device, `c` answers a next state: the device becomes `f` of what it was, and the queue stays. -/
def Runs (c : Instr) (P : Dev → Prop) (f : Dev → Dev) : Prop :=
  ∀ s : State, P s.dev → exec c s = .next { s with dev := f s.dev }

/-- Where `P` holds of the device, `c` answers a next state whose device relates by `Q` to the device before, and the queue stays. -/
def Does (c : Instr) (P : Dev → Prop) (Q : Dev → Dev → Prop) : Prop :=
  ∀ s : State, P s.dev → ∃ t : State, exec c s = .next t ∧ t.pending = s.pending ∧ Q s.dev t.dev

/-- Every register field reads the same in `t` as in `d`, but for the fields of `fs`. -/
def SameRegs (fs : List Fld) (d t : Dev) : Prop := ∀ f : Fld, f.key ∉ fs.map Fld.key → t.r f = d.r f

/-- Every byte of memory reads the same in `t` as in `d`, but for the `n` bytes from address `a` on. -/
def SameBytes (a n : Nat) (d t : Dev) : Prop := ∀ x : Nat, x < a ∨ a + n ≤ x → t.byte x = d.byte x

/-! ### Cartil instructions [07, 08] -/

/-- The instruction at pc is due: image code runs, no WAIT, no BUSI and no interrupt to take first, and pc is aligned, executable, permitted and delivered [07 R142,
R151, R159]. -/
abbrev CpuReady (d : Dev) : Prop :=
  imageRuns d = true ∧ d.co.waiting = false ∧ d.co.busi = none ∧ irqNow d = none ∧ d.co.pc % 4 = 0 ∧ executable d d.co.pc = true ∧
    guardOk d .x d.co.pc = true ∧ (inProg d.co.pc = true ∨ (lineBytes d d.co.pc).isSome = true)

/-- None of the registers waits for a far load [07 R145]. -/
abbrev FreeRegs (rs : List (BitVec 4)) (d : Dev) : Prop := (rs.map BitVec.toNat).any (busyReg d) = false

/-- The instruction at pc is due and none of the registers `rs` is busy: it runs now. -/
abbrev Due (rs : List (BitVec 4)) (d : Dev) : Prop := CpuReady d ∧ FreeRegs rs d

/-- The next word, stored or read, lies in near RAM that permits it: `n` bytes at the `n`-aligned address `x` [07 R144, R159; 08 R171]. -/
abbrev NearAt (p : Perm) (n x : Nat) (d : Dev) : Prop := x % n = 0 ∧ guardOk d p x = true ∧ inRam x = true

/-- Register `t` takes `v`, no flag changes, and the next instruction is due. -/
def retire (t : BitVec 4) (v : Word) (d : Dev) : Dev := advancePc ((fetched d).setW t.toNat v)

/-- Register `t` takes the low 32 bits of x + y + cin; N and Z follow them, C is the carry out of bit 31, and V says that the signed sum does not fit [08
R164]; the next instruction is due. -/
def addRetire (t : BitVec 4) (x y : Word) (cin : Bool) (d : Dev) : Dev :=
  let r : Word := x + y + (if cin then 1 else 0)
  let wide : BitVec 33 := x.setWidth 33 + y.setWidth 33 + (if cin then 1 else 0)
  advancePc ((fetched d).onCo (fun k =>
    { k with n := r.getLsbD 31, z := r == 0, c := wide.getLsbD 32,
             v := decide (r.toInt ≠ x.toInt + y.toInt + (if cin then 1 else 0)) }) |>.setW t.toNat r)

/-- Register `t` takes the datum `v` that a near load of `n` bytes has read. -/
def loadRetire (t : BitVec 4) (n : Nat) (sgn : Bool) (x : Nat) (d : Dev) : Dev :=
  let v := (forwarded (fetched d)).load n x
  advancePc ({ fetched d with rd := v }.setW t.toNat (extendLoad n sgn v))

/-- The store of `n` bytes at `x` is posted behind those that wait [07 R147]. -/
def post (r : BitVec 4) (n x : Nat) (d : Dev) : Dev :=
  advancePc ((fetched d).onCo fun k =>
    { k with wb := k.wb ++ [⟨k.nextLoad, x, n, (d.wr r.toNat).toNat % 256 ^ n⟩], nextLoad := k.nextLoad + 1 })

/-- The device with the frame that entry at `pc` writes, and sp below it [07 R153, Table CO-6]. -/
def stacked (pc : Nat) (d : Dev) : Dev :=
  (d.storeBytes (d.wr 14 - 40).toNat ((frameWords d pc).flatMap (leBytes 4))).setW 14 (d.wr 14 - 40)

/-- The handler of vector `e` can be entered with `pc` stacked: no register of the frame is busy, the frame can be written, and the vector, as it reads
once the frame is written, points to executable memory [07 R152, R153, R158]. -/
abbrev CanEnter (e pc : Nat) (d : Dev) : Prop :=
  frameBusy d = false ∧ frameOk d .w (d.wr 14 - 40).toNat = true ∧ (vectorOf (stacked pc d) e).isSome = true

/-- The handler of vector `e` is entered [07 R153]: w1-w7, lk, `pc` and STAT stand in ten words below sp, which falls by 40; every other byte of memory and
every other general register stays; the handler is due at level `lv`, and IE and the flags stay. -/
def Entered (e pc lv : Nat) (d t : Dev) : Prop :=
  (∀ i, i < 10 → t.load 4 ((d.wr 14 - 40).toNat + 4 * i) = (frameWords d pc).getD i 0 % 2 ^ 32) ∧ SameBytes (d.wr 14 - 40).toNat 40 d t ∧
    (∀ r, t.wr r = if r = 14 then d.wr 14 - 40 else d.wr r) ∧ t.co.level = lv ∧ vectorOf t e = some t.co.pc ∧
    t.co.ie = d.co.ie ∧ t.co.n = d.co.n ∧ t.co.z = d.co.z ∧ t.co.c = d.co.c ∧ t.co.v = d.co.v

/-- Exception `e` of Table CO-7 is taken with `pc` stacked [07 R153, R157]: its cause, the pc and, where one is involved, the address are kept, and its handler
is entered at level 8. -/
def TakesException (e pc : Nat) (addr : Option Nat) (d t : Dev) : Prop :=
  t.r F.CO_FCAUSE_ENTRY = e ∧ t.r F.CO_FPC_ADDR = pc % 2 ^ 32 ∧ (∀ a, addr = some a → t.r F.CO_FADDR_ADDR = a % 2 ^ 32) ∧
    Entered e pc 8 d t

/-! ### Verbs [11, 12] -/

/-- The interpreter takes a line of `via` now: the monitor or the image's LINE call runs, the path is open to it, no response is open, and 256 bytes are
free to answer [02 R36; 11 R217, R220]. -/
abbrev LineReady (via : Via) (d : Dev) : Prop :=
  monitorUp d = true ∧ pathOpen d (Via.ctx via).path = true ∧ responding d = false ∧ roomToTake d = true

/-- What follows `verb` in the line `name text`: its positional tokens and its arguments. -/
def lineArgs (name verb : String) (text : Bytes) : Option Toks :=
  match tokens (ascii name ++ 32 :: Bytes.nats text) with
  | some (v :: ts) => if v = ascii verb then (splitArgs ts).map fun x => ⟨x.1, x.2⟩ else none
  | _ => none

/-- The tokens `t` fit the form `f`: checks 7 and 10 pass [11 Table SL-4]. -/
abbrev Fits (f : Form) (t : Toks) : Prop := formNumbers f t.pos t.args = 0 ∧ formArgs f t.pos t.args = 0

/-- The values of a line of the form `f`. -/
abbrev valsOf (f : Form) (t : Toks) : Args := formVals f t.pos t.args

/-- The line of `via` is accepted, its path becomes the event path, and its verb does `act` [11 R218]. -/
def answers (via : Via) (act : Ctx → Dev → Dev) (d : Dev) : Dev := byVerb (act (Via.ctx via)) (acceptLine (Via.ctx via) d)

/-! ### The OTP array and the keys [05, 06] -/

/-- A command of the OTP engine is under way: OT_CMD keeps its code, BUSY is 1, and the job holds what the registers gave it [05 R96]. -/
def otStarted (rom : Bool) (code : Nat) (d : Dev) : Dev :=
  ((d.w F.OT_CMD_CODE code).onOt fun o =>
    { o with job := some { req := ⟨if rom then .rom else .sw, code, d.r F.OT_ADDR_WORD, d.r F.OT_ADDR_CTR, d.r F.OT_DATA_DATA, []⟩ } }).set
      F.OT_STAT_BUSY

/-- A key command is under way: KY_CMD keeps its code and BUSY is 1 [06 R120]. -/
def kyStarted (code : Nat) (d : Dev) : Dev :=
  ((d.w F.KY_CMD_CODE code).set F.KY_STAT_BUSY).onKy fun k => { k with job := some { code := code } }

/-- The key command under way will end as `g` says: with an error, an output, a key or a pair. -/
def kyWill (code : Nat) (g : KyJob → KyJob) (d t : Dev) : Prop :=
  t.ky = { d.ky with job := some (g { code := code }) } ∧ t.r F.KY_STAT_BUSY = 1 ∧ t.r F.KY_CMD_CODE = code % 16 ∧ t.mem = d.mem ∧ t.ot = d.ot

end Sys2Proof
end

