-- ==== Sys2Proof/Certificates/Slice0/Obligations.lean ====
section
/-! DEFINITION. The statements for the provers. -/

open Sys2Proof Sys2Proof.Machine

/-- A step of a state whose queue begins with a command is that command on the device with the rest of the queue. The queue is the model's own form of
how commands reach the block. [00_scope.md] -/
def Obligations.StepTakesTheFront : Prop :=
  ∀ (d : Dev) (c : Instr) (rest : List Instr), step ⟨d, c :: rest⟩ = exec c ⟨d, rest⟩

/-- Every command of the table whose operands have the spec's lengths answers a next state, whatever the state; one that has not stops as ill-formed;
and a command leaves the commands that wait behind it alone. So a step takes exactly the front away. [00_scope.md; R163; R142; R332; R130] -/
def Obligations.CommandsLeaveTheQueue : Prop :=
  (∀ (c : Instr) (s : State), c.wellFormed = true → ∃ t : State, exec c s = .next t ∧ t.pending = s.pending) ∧
  (∀ (c : Instr) (s : State), c.wellFormed = false → exec c s = .fault .illFormed) ∧
  (∀ s t : State, step s = .next t → t.pending = s.pending.tail)

/-- With no command waiting, a step lets one nanosecond of model time pass: TLT counts it, modulo 2^48, in Run, in Hold and in the reset ladder once
the PLL has locked, and stands in every other ladder state. Inside an FCLK cycle nothing else changes; at its end what the pin engines sample in the
next one is taken, and the next byte of the packet that holds a queue's write side is written. That the idle step is the tick is the model's choice
(log entry 21). [R59; R8; R47; R190; R273] -/
def Obligations.TimePassesWhenNothingWaits : Prop :=
  let counts (d : Dev) : Prop := d.ck.ladder = .run ∨ d.ck.ladder = .hold ∨ (d.ck.ladder = .resetting ∧ d.r F.CK_STAT_PLLLOCK ≠ 0)
  let stands (d : Dev) : Prop := d.ck.ladder = .nap ∨ d.ck.ladder = .fallow ∨ d.ck.ladder = .dormant ∨ d.ck.ladder = .waking
  let ends (d : Dev) : Prop := (d.ns + 1 + d.ck.phase) % 4 = 0
  let none (d : Dev) : Prop := d.q0.left = [] ∧ d.q1.left = []
  (∀ d : Dev, counts d → ¬ ends d → step ⟨d, []⟩ = .next ⟨{ d with ns := d.ns + 1, tlt := (d.tlt + 1) % 2 ^ 48 }, []⟩) ∧
  (∀ d : Dev, stands d → ¬ ends d → step ⟨d, []⟩ = .next ⟨{ d with ns := d.ns + 1 }, []⟩) ∧
  (∀ d : Dev, counts d → ends d → none d → step ⟨d, []⟩ = .next ⟨{ d with ns := d.ns + 1, tlt := (d.tlt + 1) % 2 ^ 48, seen := peLook d }, []⟩) ∧
  (∀ d : Dev, stands d → ends d → step ⟨d, []⟩ = .next ⟨{ d with ns := d.ns + 1, seen := peLook d }, []⟩) ∧
  (∀ (d : Dev) (b : Nat) (r : List Nat), d.ck.ladder = .run → ends d → d.q0.left = b :: r → r ≠ [] → d.q0.discard = false → d.q0.half.length < 3 → d.q1.left = [] →
    step ⟨d, []⟩ = .next ⟨{ d with
      ns := d.ns + 1, tlt := (d.tlt + 1) % 2 ^ 48, q0 := { d.q0 with left := r, half := d.q0.half ++ [b % 256] }, seen := peLook d }, []⟩)

/-- After a power-on reset every register field reads the reset value of its register's table, but SYS_RSTC, which holds POR alone; TLT is 0, nothing
waits, the reset ladder waits for XCLK, no image runs, and the memory is in its canonical form and reads 0. Words of the spec's register tables:
CK_CFG 0x0C, CK_LADDER 0x100, CK_WAKE 0xFF, SYS_ID 0x48060043, SP_CTL 0x640A0401, SW_HZN 100 000, CORE_VSET 0x37000723. The pins stand at Table PN-5's
levels: RTSN high, SBUSYN low, UTX and MSS high, MSCK, TRG and SYO low, MIO and SBD released, SSDO, TDO, GP, CH and SCN at high impedance, the booster
gates low; below the power-on threshold every output is at high impedance. That an unwritten byte reads 0 is the model's choice (log entry 2). [R66;
R11; R47; R67; R33] -/
def Obligations.ResetValues : Prop :=
  (∀ f : Fld, f.key ≠ F.SYS_RSTC_POR.key → State.reset.dev.r f = f.rst) ∧ State.reset.dev.r F.SYS_RSTC_POR = 1 ∧ State.reset.pending = [] ∧
  State.reset.dev.tlt = 0 ∧ State.reset.dev.ck.ladder = .resetting ∧ State.reset.dev.ck.boot = .xclk ∧ State.reset.dev.co.image = false ∧
  Memory.wf State.reset.dev.mem = true ∧ (∀ a, State.reset.dev.byte a = 0) ∧
  (∀ p ∈ [(0x40000000, 0x0C), (0x4000000C, 0x100), (0x40000014, 0xFF), (0x40001000, 0x48060043), (0x40008000, 0x640A0401), (0x4000C004, 100000),
      (0xE0000020, 0x37000723), (0x40001044, 1)], plainRead State.reset.dev p.1 = p.2) ∧
  (let d := State.reset.dev
   rtsn d = .high ∧ sbusyn d = .low ∧ utxIdle d = .high ∧ msckPin d = .low ∧ mio d = .released ∧ ssdo d = .hiz ∧ tdoIdle d = .hiz ∧ syo d = .low ∧
     (∀ n, mss d n = .high) ∧ (∀ p, trg d p = .low ∧ sbd d p = .released) ∧ (∀ g, gp d g = .hiz) ∧ (∀ c, chPin d c = .hiz) ∧ (∀ b, bgd d b = .low) ∧
     ∀ r, scn d r = .hiz) ∧
  (∀ d : Dev, d.ck.brown = true → rtsn d = .hiz ∧ sbusyn d = .hiz ∧ utxIdle d = .hiz ∧ msckPin d = .hiz ∧ mio d = .hiz ∧ ssdo d = .hiz ∧ syo d = .hiz ∧
    (∀ n, mss d n = .hiz ∧ trg d n = .hiz ∧ sbd d n = .hiz ∧ gp d n = .hiz ∧ chPin d n = .hiz ∧ bgd d n = .hiz ∧ scn d n = .hiz))

/-- From every state whose memory lists its addresses in strictly rising order, and no byte that equals what an unlisted address reads as, a step that
answers a next state, by a command or by the tick, leaves a memory of that form: equal memories are equal data after any run. What an unlisted address
reads as is the model's choice (log entry 2). [R66; R69; R147; R171] -/
def Obligations.MemoryKeepsItsForm : Prop :=
  ∀ s t : State, Memory.wf s.dev.mem = true → step s = .next t → Memory.wf t.dev.mem = true

/-- A reset leaves every block in its reset state and every register field at its reset value, TLT 0, and the reset ladder waiting for XCLK, or for
the PLL where XCLK runs on. SYS_RSTC gains the bits of every source of the same handshake; after a power-on or brown-out it holds those alone. Beside
it the pin reset keeps the tamper latches and the pending-burn latch, and the soft reset also CK_WAKE, CK_WSRC, the UART rate and BOOTSEL. Keep RAM
survives every reset but power-on and brown-out; every other byte of memory reads as unwritten (after power-on the model's own choice, log entry 2).
Fuses stay. A ring member's soft reset sends LEAVE, and no other reset does. A RESET verb's soft reset waits for its OK to leave UTX, or to stand in
the slave's outbound buffer, whose bytes are then lost. TRSTN resets the TAP alone. [R65; R66; R67; R98; R36; R413; Table BU-1] -/
def Obligations.Resets : Prop :=
  (∀ (a : BitVec 5) (c : Instr) (m : Nat),
    (c, m) ∈ [(Instr.powerOnReset a, a.toNat ||| 1), (.brownOutReset a, a.toNat ||| 2), (.pinReset a, a.toNat ||| 4), (.softReset false a, a.toNat ||| 8)] →
    let hard : Bool := bitAt m 0 || bitAt m 1
    let kept : List Fld := if hard then [] else if bitAt m 2 then tamperFields
      else tamperFields ++ wakeFields ++ rateFields ++ [F.SYS_STRAP_BOOTSEL]
    Does c (fun _ => True) (fun d t =>
      (∀ f ∈ kept, t.r f = d.r f % 2 ^ f.width) ∧
      (∀ i, i < 5 → t.r (causeFields.getD i F.SYS_RSTC_POR) =
        if bitAt m i then 1 else if hard then 0 else d.r (causeFields.getD i F.SYS_RSTC_POR) % 2) ∧
      t.r F.CK_STAT_XOK = bit (d.ck.xrun && !hard) ∧
      (∀ f : Fld, f.key ∉ (kept ++ causeFields ++ [F.CK_STAT_XOK]).map Fld.key → t.r f = f.rst) ∧
      (∀ x, t.byte x = if hard = false ∧ keepBase ≤ x ∧ x < keepBase + keepSize then d.byte x else memDefault) ∧
      t.ck.ladder = .resetting ∧ t.ck.boot = (if hard = false ∧ d.ck.xrun = true then .pll else .xclk) ∧ (d.ot.job = none → t.ot = { fuses := d.ot.fuses }) ∧
      t = { ns := d.ns, draws := t.draws, regs := t.regs, mem := t.mem, ot := t.ot, hp := t.hp, ck := t.ck, sr := { sentCell := t.sr.sentCell } } ∧
      (c ≠ .softReset false a ∨ d.r F.SR_STAT_ADDRV = 0 → t.sr.sentCell = none))) ∧
  (∀ k : Nat, Does (.softReset false 0) (fun d => d.r F.SR_CTL_EN ≠ 0 ∧ d.ck.ladder = .run ∧ darkened d = false ∧ d.r F.SR_STAT_MASTER = 0 ∧ d.r F.SR_STAT_ADDRV ≠ 0 ∧
      d.r F.SR_STAT_ADDR = k ∧ d.r F.SR_STAT_STATE = 2) (fun _ t => t.sr.sentCell = some ⟨k, 7, 0, 0⟩ ∧ t.r F.SR_STAT_STATE = 0 ∧ t.r F.SR_STAT_ADDRV = 0)) ∧
  (∀ a : BitVec 5,
    Runs (.softReset true a) (fun d => d.st.wait = none) (fun d => d) ∧
    (∀ (s : State) (c : Ctx) (n : Nat), s.dev.st.wait = some (c, .leave false n) → s.dev.st.out = [] → (c.path = 1 ∧ n = 0) ∨ c.path = 2 →
      ∃ t : State, exec (.softReset false a) s = .next t ∧ exec (.softReset true a) s = .next t) ∧
    (∀ (c : Ctx) (n : Nat), c.path = 1 → n ≠ 0 → Runs (.softReset true a) (fun d => d.st.wait = some (c, .leave false n)) (fun d => d))) ∧
  Runs .tapReset (fun _ => True) (fun d => { d with ky := { d.ky with ir := 1 } })

/-- In the reset ladder XCLK valid opens the PLL step; the PLL's lock starts TLT at 0 on an edge of every clock, samples BOOTSEL where it is to be
sampled and opens sensing, or waits for RESETN, whose release does the same. Sensing done, with no alarm: the shadows are filled, SHV is set, the life
cycle is taken, program RAM and data RAM are cleared and no other byte, the monitor runs and opens the port that BOOTSEL selects, RTSN low or SBUSYN
high; sensing failed leaves SNSERR, a zero identity and the device as RETIRED; with an alarm the device enters quarantine. A CR whose interval names a
rate from 9 408 Bd to 12.24 MBd fixes UA_DIV and is echoed and prompted; another character is counted in ABFAIL. [R67; R68; R69; R70; R71; R72; R35;
R134; Table BU-2] -/
def Obligations.ResetLadder : Prop :=
  let at' (b : BootStep) (d : Dev) : Prop := d.ck.ladder = .resetting ∧ d.ck.boot = b
  Runs .xclkValid (at' .xclk) (fun d => (d.onCk fun c => { c with xrun := true, boot := .pll, brown := false }).set F.CK_STAT_XOK) ∧
  Runs .xclkValid (fun d => d.ck.ladder = .waking ∧ d.ck.xrun = true) (fun d => (d.onCk fun c => { c with xrun := true }).set F.CK_STAT_XOK) ∧
  Does .xclkValid (fun d => d.ck.ladder = .waking ∧ d.ck.xrun = false) (fun d t => t.ck = { d.ck with xrun := true, sleepNs := d.ns } ∧
    t.r F.CK_STAT_XOK = 1 ∧ t.mem = d.mem) ∧
  Runs .xclkValid (fun d => d.ck.ladder = .run) (fun d => d) ∧
  (∀ sel : Bool,
    Does (.pllLock sel) (fun d => at' .pll d ∧ d.ck.xrun = true) (fun d t => t.tlt = 0 ∧ t.r F.CK_STAT_PLLLOCK = 1 ∧ t.mem = d.mem ∧ t.co = d.co ∧ t.ot = d.ot ∧
      t.ck = { d.ck with boot := if d.ck.resetLow then .resetn else .sense, phase := t.ck.phase, aphase := t.ck.aphase } ∧
      (d.ns + t.ck.phase) % 8 = 0 ∧ (d.ns + t.ck.aphase) % 1000 = 0 ∧ (∀ p, p < 6 → t.r (F.HP_STAT_PRSRAW p) = bit (d.head p).raw) ∧
      t.r F.SYS_STRAP_BOOTSEL = if d.ck.resetLow = false ∧ d.ck.resample = true then bit sel else d.r F.SYS_STRAP_BOOTSEL) ∧
    Runs (.resetnRelease sel) (fun d => at' .resetn d ∧ d.ck.resample = true)
      (fun d => (d.w F.SYS_STRAP_BOOTSEL (bit sel)).onCk fun c => { c with resetLow := false, boot := .sense }) ∧
    Runs (.resetnRelease sel) (fun d => d.ck.ladder ≠ .resetting) (fun d => d.onCk fun c => { c with resetLow := false })) ∧
  Does (.otpSenseDone true 0) (fun d => at' .sense d ∧ d.r F.TP_STAT_QPEND = 0 ∧ d.r F.TP_LIVE_SRC = 0)
    (fun d t => t.ck = { d.ck with ladder := .run, boot := .up, host := true } ∧ t.r F.SYS_BOOT_SHV = 1 ∧
      (∀ w, margh d w ≠ 0 → weakBits d w = 0 → shadowOf t w = margl d w) ∧ t.ot.fuses = d.ot.fuses ∧
      t.r F.KY_LC_CODE = lifeCode (lifeCycle d) % 256 ∧ (bootPath d = 2 → t.r F.SP_SCTL_EN = 1) ∧
      (bootPath d = 1 → d.r F.SYS_BOOT_BAUDOK = 1 → t.r F.UA_CTL_RXEN = 1 ∧ t.r F.UA_CTL_TXEN = 1) ∧
      (d.ck.brown = false → (bootPath d = 1 → d.r (F.Q_STAT_WM 0) = 0 → rtsn t = .low) ∧ (bootPath d = 2 → slaveBusy d = false → sbusyn t = .high)) ∧
      (∀ x, t.byte x = if inProg x = true ∨ (dataBase ≤ x ∧ x < dataBase + dataSize) then memDefault else d.byte x)) ∧
  Does (.otpSenseDone false 0) (fun d => at' .sense d ∧ d.r F.TP_STAT_QPEND = 0 ∧ d.r F.TP_LIVE_SRC = 0)
    (fun _ t => t.ck.ladder = .run ∧ t.r F.SYS_BOOT_SNSERR = 1 ∧ t.r F.SYS_ID_DEVICE = 0 ∧ t.r F.SYS_ID_STEP = 0 ∧ monitorLife t = 3) ∧
  (∀ (ok : Bool) (alarms : BitVec 6), alarms ≠ 0 → Does (.otpSenseDone ok alarms) (at' .sense)
    (fun _ t => t.r F.SYS_BOOT_LSTATE = 5 ∧ t.r F.TP_STAT_QPEND = 0 ∧ t.r F.KY_STAT_KFULL = 0 ∧
      (∀ x, inProg x = true → t.byte x = memDefault))) ∧
  (let waits (d : Dev) : Prop := d.ck.ladder = .run ∧ d.ck.host = true ∧ started d = false ∧ bootPath d = 1 ∧ d.r F.SYS_BOOT_BAUDOK = 0
   (∀ n, 164 ≤ n → n ≤ 212585 → Does (.autobaudCharacter (9 * n) 13 true)
     (fun d => waits d ∧ d.st.out = [] ∧ d.ua.tx = [] ∧ d.ck.silent = false ∧ d.st.machU = false)
     (fun d t => t.r F.UA_DIV_DIV = n ∧ t.r F.SYS_BOOT_BAUDOK = 1 ∧ t.r F.UA_CTL_RXEN = 1 ∧ t.r F.UA_CTL_TXEN = 1 ∧
       t.ua = { d.ua with tx := crlf ++ ascii "FD> " } ∧ t.mem = d.mem ∧ t.co = d.co)) ∧
   (∀ (n : Nat) (c : Byte) (stop : Bool), c ≠ 13 ∨ stop = false →
     Runs (.autobaudCharacter n c stop) waits (fun d => d.w F.SYS_BOOT_ABFAIL (min (d.r F.SYS_BOOT_ABFAIL + 1) 255))))

/-- A write of CK_ROOT.SEL takes only where it changes SEL, no slot is armed, and a 1 finds RINGOK and a recovered clock; then BUSY is 1. The PLL's
lock sets PLLLOCK, clears BUSY, and shows the reference. An unlock with no slot in use sets UNLOCK and clears PLLLOCK, and points that pass from now
on are misses of its cause; an armed slot is cancelled as a miss. The loss of XCLK is no unlock of a PLL that refers to it. With SEL at 1, a lost ring
clock sets RLOSS and HOLDOVER for 20 µs, with an event record where CK_QEN enables it, after which SEL reads 0 and the PLL relocks. XCLK's stop sets
XSTOP in sleep, changes no light, and the sleep counter stands still until XCLK returns; in Run it is a tamper alarm that darkens the device and
silences it until XCLK returns, into quarantine; in quarantine it silences the device until then. [R42; R61; R62; R63; R463; R40] -/
def Obligations.RootClock : Prop :=
  (∀ v : Bool,
    let fits (d : Dev) : Prop := bit v ≠ d.r F.CK_ROOT_SEL ∧ armedAll d = 0 ∧ (v = true → d.r F.CK_CFG_RINGOK ≠ 0 ∧ d.r F.CK_STAT_RINGCLK ≠ 0)
    Runs (.ckRootSelWrite v) fits (fun d => ((d.w F.CK_ROOT_SEL (bit v)).set F.CK_ROOT_BUSY).onCk fun c => { c with holdEnd := none }) ∧
    Runs (.ckRootSelWrite v) (fun d => ¬ fits d) (fun d => d) ∧
    Runs (.pllLock v) (fun d => (d.ck.ladder = .run ∨ d.ck.ladder = .hold) ∧ (d.ck.xrun = true ∨ d.r F.CK_ROOT_SEL ≠ 0) ∧ d.ck.holdEnd = none)
      (fun d => (((d.set F.CK_STAT_PLLLOCK).clr F.CK_ROOT_BUSY).w F.CK_STAT_ROOT (d.r F.CK_ROOT_SEL)).clr F.CK_STAT_HOLDOVER)) ∧
  Runs .ringClockReturn (fun _ => True) (fun d => d.set F.CK_STAT_RINGCLK) ∧
  Runs .ringClockLoss (fun d => d.awake = true ∧ d.r F.CK_ROOT_SEL = 1 ∧ d.ck.holdEnd = none) (fun d =>
    ckRecord 2 0 ((((d.clr F.CK_STAT_RINGCLK).set F.CK_STAT_RLOSS).set F.CK_STAT_HOLDOVER).onCk fun c => { c with holdEnd := some (d.ns + 20000) })) ∧
  Runs .ringClockLoss (fun d => d.awake = false ∨ d.r F.CK_ROOT_SEL ≠ 1) (fun d => d.clr F.CK_STAT_RINGCLK) ∧
  (∀ e : Nat, Runs .holdoverEnd (fun d => d.ck.holdEnd = some e ∧ e ≤ d.ns) (fun d =>
      (((d.w F.CK_ROOT_SEL 0).set F.CK_ROOT_BUSY).clr F.CK_STAT_HOLDOVER).onCk fun c => { c with holdEnd := none }) ∧
    Runs .holdoverEnd (fun d => d.ck.holdEnd = some e ∧ d.ns < e) (fun d => d)) ∧
  (let unlocks (d : Dev) : Prop := d.awake = true ∧ d.r F.CK_STAT_PLLLOCK = 1 ∧ (d.ck.xrun = true ∨ d.r F.CK_ROOT_SEL ≠ 0) ∧ d.r F.CK_QEN_CAUSE = 0 ∧
     d.sw.pend = [] ∧ d.sw.forcing = []
   Does .pllUnlock (fun d => unlocks d ∧ d.sw.slots = []) (fun d t => t.r F.CK_STAT_UNLOCK = 1 ∧ t.r F.CK_STAT_PLLLOCK = 0 ∧ t.ck = d.ck ∧
     t.co = d.co ∧ t.mem = d.mem ∧ t.sw.slots = [] ∧ (∀ f, (d.fu f).state ≠ .fallow → (t.fu f).pass = 3 ∧ (t.fu f).miss = (d.fu f).miss) ∧ (∀ p, p < 6 → (t.head p).trig = false) ∧ (∀ b, b < 6 → (t.bo b).aim = [])) ∧
   (∀ (k : Nat) (u : Slot), u.st = .armed → Does .pllUnlock (fun d => unlocks d ∧ d.sw.slots = [(k, u)])
     (fun d t => t.sw.slots = [] ∧ (t.fu u.f).miss = min ((d.fu u.f).miss + 1) 0xFFFFFFFF ∧ t.r F.SW_EV_MISS = 1 ∧ t.mem = d.mem)) ∧
   Runs .pllUnlock (fun d => d.r F.CK_STAT_PLLLOCK = 0 ∨ (d.ck.xrun = false ∧ d.r F.CK_ROOT_SEL = 0)) (fun d => d)) ∧
  Does .xclkStop (fun d => d.ck.xrun = true ∧ (d.ck.ladder = .nap ∨ d.ck.ladder = .fallow ∨ d.ck.ladder = .waking))
    (fun d t => t.ck = { d.ck with xrun := false, sleepTlt := d.ck.sleepTlt + (d.ns - d.ck.sleepNs), sleepNs := d.ns } ∧
      t.r F.CK_STAT_XOK = 0 ∧ t.r F.CK_STAT_XSTOP = 1 ∧ SameRegs [F.CK_STAT_XOK, F.CK_STAT_XSTOP] d t ∧ t.mem = d.mem ∧ t.co = d.co) ∧
  Does .xclkReturn (fun d => d.ck.xrun = false ∧ d.ck.silent = false ∧ (d.ck.ladder = .nap ∨ d.ck.ladder = .fallow ∨ d.ck.ladder = .waking))
    (fun d t => t.ck = { d.ck with xrun := true, sleepNs := d.ns } ∧ t.r F.CK_STAT_XOK = 1 ∧ bitAt (t.r F.TP_LIVE_SRC) 4 = false ∧ SameRegs [F.CK_STAT_XOK, F.TP_LIVE_SRC] d t ∧
      t.mem = d.mem ∧ t.co = d.co) ∧
  Does .xclkStop (fun d => d.ck.xrun = true ∧ d.awake = true ∧ d.r F.SYS_BOOT_LSTATE ≠ 5 ∧ d.sw.slots = [] ∧ d.r F.TP_LIVE_SRC = 0)
    (fun d t => t.ck = { d.ck with xrun := false, silent := true } ∧ t.r F.CK_STAT_XSTOP = 1 ∧ t.r F.CK_STAT_XOK = 0 ∧ t.r F.TP_STAT_XSTOP = 1 ∧
      t.r F.TP_STAT_QPEND = 1 ∧ t.r F.KY_STAT_KFULL = 0 ∧ t.co.image = false ∧ darkened t = true ∧ t.r F.TP_LIVE_SRC = 16 ∧
      (d.r F.CK_ROOT_SEL = 0 → t.r F.CK_STAT_HOLDOVER = 1) ∧ t.mem = d.mem ∧ t.tlt = d.tlt) ∧
  Does .xclkStop (fun d => d.ck.xrun = true ∧ d.awake = true ∧ d.r F.SYS_BOOT_LSTATE = 5)
    (fun d t => t.ck = { d.ck with xrun := false, silent := true } ∧ t.r F.CK_STAT_XSTOP = 1 ∧ t.r F.TP_STAT_XSTOP = 1 ∧ t.mem = d.mem ∧ t.tlt = d.tlt) ∧
  Runs .xclkReturn (fun d => d.ck.xrun = false ∧ d.ck.silent = false ∧ d.awake = true)
    (fun d => ((d.onCk fun c => { c with xrun := true }).set F.CK_STAT_XOK).clrBit F.TP_LIVE_SRC 4) ∧
  Does .xclkReturn (fun d => d.ck.xrun = false ∧ d.ck.silent = true ∧ d.awake = true ∧ d.r F.SYS_BOOT_LSTATE = 5)
    (fun d t => t.ck = { d.ck with xrun := true, silent := false } ∧ t.r F.CK_STAT_XOK = 1 ∧ t.r F.SYS_BOOT_LSTATE = 5 ∧ t.mem = d.mem) ∧
  Does .xclkReturn (fun d => d.ck.xrun = false ∧ d.ck.silent = true ∧ d.awake = true ∧ d.r F.SYS_BOOT_LSTATE ≠ 5)
    (fun d t => (d.sw.slots = [] → t.ck = { d.ck with xrun := true, silent := false }) ∧ t.r F.SYS_BOOT_LSTATE = 5 ∧ t.r F.TP_STAT_QPEND = 0 ∧
      (∀ x, inProg x = true → t.byte x = memDefault))

/-- With AUTOHOLD and all four conditions of R49 the device enters Hold, and leaves it when one fails. A request that has quiesced enters Nap or
Fallow, with model time and TLT kept for the sleep counter, or Dormant, where keep RAM and the wake and tamper registers alone stay; after a wake it
is refused with WHY 4, and past the ACLK cycle in which its 1 ms ends with WHY 5; in that cycle it still succeeds, as a tie. In sleep RTSN is high and
SBUSYN low. An enabled wake source ends Nap with TLT as if it had counted, sends Fallow to wait for the PLL, after which TLT is within 1 ns of that
value, the clocks at any phase, and takes Dormant to the reset ladder with DORM set; motion by CK_WENC.THRESH counts, or more than 4 counts in a
microsecond, wakes from Nap. A source that is not enabled does nothing. [R47; R49; R51; R53; R54; R55; R56; R57; R58; R59; R236] -/
def Obligations.PowerLadder : Prop :=
  let mayHold (d : Dev) : Prop := d.r F.CK_LADDER_AUTOHOLD ≠ 0 ∧ armedLadder d = 0 ∧ d.co.waiting = true ∧ d.sp.bus = none ∧ d.sp.held = none ∧ ∀ p, p < 6 → lineFree d p = true
  let calm (d : Dev) : Prop := d.st.wait = none ∧ d.r F.TP_STAT_QPEND = 0
  let refused (why : Nat) (d : Dev) : Dev :=
    { (((d.w F.CK_LADDER_REQ 0).set F.CK_LSTAT_REF).w F.CK_LSTAT_WHY why).onCk fun c => { c with ask := none, woken := false } with
      sw := { d.sw with frozen := false } }
  let awoken (slip : Int) (d t : Dev) : Prop := t.ck = { d.ck with ladder := .run, host := true, phase := t.ck.phase, aphase := t.ck.aphase } ∧
    t.ck.phase < 8 ∧ t.ck.aphase < 1000 ∧ t.sw.frozen = false ∧ t.sw.slots = d.sw.slots ∧
    t.mem = d.mem ∧ t.co = d.co ∧ t.tlt = (((d.ck.sleepTlt + (d.ns - d.ck.sleepNs) : Nat) + slip) % (2 ^ 48 : Int)).toNat
  Runs .holdEntry (fun d => d.ck.ladder = .run ∧ mayHold d) (fun d => (d.w F.CK_LSTAT_LAST 1).onCk fun c => { c with ladder := .hold }) ∧
  Runs .holdEntry (fun d => ¬ mayHold d) (fun d => d) ∧
  Runs .holdExit (fun d => d.ck.ladder = .hold ∧ ¬ mayHold d) (fun d => d.onCk fun c => { c with ladder := .run }) ∧
  Runs .holdExit (fun d => mayHold d) (fun d => d) ∧
  (∀ (g e : Nat),
    let cyc (d : Dev) (x : Nat) : Nat := (x + d.ck.aphase) / 1000
    let waits (d : Dev) : Prop := d.ck.ask = some (g, e) ∧ quiesced d = true ∧ cyc d d.ns ≤ cyc d e ∧ armedAll d = 0 ∧
      irqAbove d d.co.level = none ∧ d.ck.woken = false
    (g = 2 ∨ g = 3 → Does .ladderEntry waits (fun d t => t.ck.ladder = (if g = 2 then .nap else .fallow) ∧ t.ck.ask = none ∧ t.ck.host = false ∧
      t.ck.sleepNs = d.ns ∧ t.ck.sleepTlt = d.tlt ∧ t.r F.CK_LADDER_REQ = 0 ∧ t.r F.CK_LSTAT_LAST = g ∧ (g = 3 → t.r F.CK_STAT_PLLLOCK = 0) ∧
      t.mem = d.mem ∧ t.sw = d.sw ∧ t.q0 = d.q0 ∧ t.tlt = d.tlt ∧ (cyc d d.ns = cyc d e → bitAt (t.r F.SYS_COIN_TAG) 0 = true) ∧
      (d.ck.brown = false → rtsn t = .high ∧ sbusyn t = .low ∧ syo t = .hiz ∧ ∀ p, trg t p = .hiz ∧ sbd t p = .released))) ∧
    (g = 4 → Does .ladderEntry (fun d => waits d ∧ d.ot.job = none) (fun d t => t.ck.ladder = .dormant ∧ t.ck.xrun = false ∧ t.co = {} ∧ t.sw = {} ∧ t.ky = {} ∧ t.tlt = 0 ∧
      t.ot = { fuses := d.ot.fuses } ∧ (∀ f ∈ tamperFields ++ wakeFields, t.r f = d.r f % 2 ^ f.width) ∧
      (∀ f : Fld, f.key ∉ (tamperFields ++ wakeFields ++ [F.SYS_STRAP_BOOTSEL]).map Fld.key → t.r f = f.rst) ∧
      (∀ x, t.byte x = if keepBase ≤ x ∧ x < keepBase + keepSize then d.byte x else memDefault))) ∧
    Runs .ladderEntry (fun d => d.ck.ask = some (g, e) ∧ quiesced d = true ∧ cyc d d.ns < cyc d e ∧ d.ck.woken = true ∧ d.st.wait = none) (refused 4) ∧
    (∀ c ∈ [Instr.quiesceTimeout, .ladderEntry], Runs c (fun d => d.ck.ask = some (g, e) ∧ cyc d e < cyc d d.ns ∧ d.st.wait = none) (refused 5)) ∧
    Runs .quiesceTimeout (fun d => d.ck.ask = some (g, e) ∧ cyc d d.ns ≤ cyc d e) (fun d => d)) ∧
  (∀ (c : Ctx) (n : Nat), c.path = 1 → Does .dormantRequest (fun d => d.st.wait = some (c, .leave true n) ∧ d.ua.tx = [] ∧ d.st.out = [] ∧ d.st.store = [] ∧
      d.awake = true ∧ d.ck.ask = none ∧ ladderCheck 4 d = 0)
    (fun d t => t.r F.CK_LADDER_REQ = 4 ∧ t.ck = { d.ck with ask := some (4, d.ns + 1000000), woken := false } ∧ t.st = { d.st with wait := none } ∧
      t.sw.frozen = true ∧ t.sw.slots = d.sw.slots ∧ (∀ f, (d.fu f).state ≠ .fallow → (t.fu f).pass = 2) ∧ t.mem = d.mem ∧ t.co = d.co ∧ t.ua = d.ua)) ∧
  (∀ m : BitVec 8,
    let en (d : Dev) : Nat := m.toNat &&& (d.r F.CK_WAKE_EN ||| 0x80)
    Does (.wake m) (fun d => calm d ∧ d.ck.ladder = .nap ∧ d.ck.xrun = true ∧ en d &&& 0xF3 ≠ 0)
      (fun d t => t.r F.CK_WSRC_SRC = (d.r F.CK_WSRC_SRC ||| (en d &&& 0xF3)) % 256 ∧ awoken 0 d t) ∧
    Does (.wake m) (fun d => d.ck.ladder = .fallow ∧ en d ≠ 0)
      (fun d t => t.r F.CK_WSRC_SRC = (d.r F.CK_WSRC_SRC ||| en d) % 256 ∧ t.ck = { d.ck with ladder := .waking } ∧ t.mem = d.mem ∧
        (∀ n, n < 2 → bitAt (en d) (2 + n) = true → t.r (F.EN_STAT_LF n) = 1) ∧ t.en = d.en ∧ t.co = d.co ∧ t.tlt = d.tlt) ∧
    Does (.wake m) (fun d => d.ck.ladder = .dormant ∧ en d &&& 0xF3 ≠ 0)
      (fun d t => t.r F.CK_WSRC_DORM = 1 ∧ t.ck.ladder = .resetting ∧ (d.ck.xrun = false → t.ck.boot = .xclk) ∧ t.ck.resample = false ∧
        t.mem = d.mem) ∧
    Runs (.wake m) (fun d => (d.ck.ladder = .nap ∨ d.ck.ladder = .fallow ∨ d.ck.ladder = .dormant) ∧ en d = 0) (fun d => d)) ∧
  (∀ sel : Bool, Does (.pllLock sel) (fun d => calm d ∧ d.ck.ladder = .waking ∧ d.ck.xrun = true ∧ d.r F.CK_STAT_PLLLOCK = 0)
    (fun d t => t.r F.CK_STAT_PLLLOCK = 1 ∧ ∃ slip : Int, -1 ≤ slip ∧ slip ≤ 1 ∧ awoken slip d t)) ∧
  (∀ n : Fin 2,
    let on (d : Dev) : Prop := calm d ∧ d.ck.ladder = .nap ∧ d.ck.xrun = true ∧ bitAt (d.r F.CK_WAKE_EN) (2 + n) = true
    Does (.napMotionWake n) (fun d => on d ∧ max (d.r F.CK_WENC_THRESH) 1 ≤ (sd (d.enc n).pos (d.enc n).napPos).natAbs)
      (fun d t => bitAt (t.r F.CK_WSRC_SRC) (2 + n) = true ∧ awoken 0 d t) ∧
    Runs (.napMotionWake n) (fun d => (sd (d.enc n).pos (d.enc n).napPos).natAbs < max (d.r F.CK_WENC_THRESH) 1) (fun d => d) ∧
    Does (.napRateWake n) (fun d => on d ∧ 4 < (lastMicro d (d.enc n).counts).length)
      (fun d t => bitAt (t.r F.CK_WSRC_SRC) (2 + n) = true ∧ t.r F.CK_WSRC_ENCFAST = 1 ∧ awoken 0 d t) ∧
    Runs (.napRateWake n) (fun d => (lastMicro d (d.enc n).counts).length ≤ 4) (fun d => d))

/-- A read of CK_TLTL returns TLT[31:0] and latches TLT[47:32] into CK_TLTH, and changes nothing else; a read of CK_TLTH returns the latched value and
changes nothing, however long after. [R60] -/
def Obligations.TltReads : Prop :=
  Runs .ckTltlRead (fun _ => True) (fun d => { d.w F.CK_TLTH_TLT (d.tlt / 2 ^ 32) with rd := d.tlt % 2 ^ 32 }) ∧
  (∀ d : Dev, busRead 0x40000020 d = { d.w F.CK_TLTH_TLT (d.tlt / 2 ^ 32) with rd := d.tlt % 2 ^ 32 }) ∧
  (∀ d : Dev, busRead 0x40000024 d = { d with rd := d.r F.CK_TLTH_TLT }) ∧
  (∀ d : Dev, d.tlt < 2 ^ 48 → (busRead 0x40000024 (busRead 0x40000020 d)).rd = d.tlt / 2 ^ 32)

/-- With the engine idle, a write of OT_CMD starts its command: NOP does nothing; MARGL and MARGH will load OT_DATA with the word at margin-low or
margin-high, 0 in a region that reads 0, and say whether the word is weak; READ gives the sensed word, whose weak bits are free values, and says
whether the word is weak where its region reads 0; CHECK finds whether a bead of the counter is weak; SENSE makes the shadow of every burned word
without weak bits its strong bits; a code from 10 up will end with ERR RANGE. While BUSY every one of them is lost and sets CMDLOST, as it is where
the pending-burn latch can burn first. [R96; R92; R94; R98; R106; Table OT-3] -/
def Obligations.OtpReads : Prop :=
  ∀ rom : Bool,
    let idle (d : Dev) : Prop := d.r F.OT_STAT_BUSY = 0 ∧ (d.r F.OT_WIN_PEND = 0 ∨ windowMet d = false)
    let word (d : Dev) : Nat := d.r F.OT_ADDR_WORD
    let out (d : Dev) (v : Nat) : Nat := if readsZero d (word d / 64) then 0 else v
    Runs (.otCmdNop rom) idle (otStarted rom 0) ∧
    Does (.otCmdRead rom) idle (fun d t => ∃ x : Nat,
      { t with draws := d.draws } = (otStarted rom 1 d).onJob fun j =>
        { j with data := some (out d (margl d (word d) ||| (weakBits d (word d) &&& x))),
                 weak := bitAt (d.r F.OT_LOCK_XLK) (word d / 64) && decide (weakBits d (word d) ≠ 0) }) ∧
    Runs (.otCmdMargl rom) idle (fun d => (otStarted rom 2 d).onJob fun j =>
      { j with data := some (out d (margl d (word d))), weak := decide (weakBits d (word d) ≠ 0) }) ∧
    Runs (.otCmdMargh rom) idle (fun d => (otStarted rom 3 d).onJob fun j =>
      { j with data := some (out d (margh d (word d))), weak := decide (weakBits d (word d) ≠ 0) }) ∧
    Runs (.otCmdCheck rom) (fun d => idle d ∧ d.r F.OT_ADDR_CTR < 14)
      (fun d => (otStarted rom 7 d).onJob fun j => { j with weak := ctrWeak d (d.r F.OT_ADDR_CTR) }) ∧
    Does (.otCmdSense rom) idle (fun d t =>
      (∀ w, margh d w ≠ 0 → weakBits d w = 0 → shadowOf t w = margl d w) ∧ t.ot.fuses = d.ot.fuses ∧ t.mem = d.mem ∧
        t.ot.job = (otStarted rom 9 d).ot.job) ∧
    (∀ k : Fin 6, Runs (.otCmdInvalid rom k) idle (fun d => (otStarted rom (10 + k) d).onJob fun j => { j with err := OtErr.range })) ∧
    (∀ c ∈ [Instr.otCmdNop rom, .otCmdRead rom, .otCmdMargl rom, .otCmdMargh rom, .otCmdCheck rom, .otCmdSense rom],
      Runs c (fun d => d.r F.OT_STAT_BUSY ≠ 0 ∧ d.ot.job ≠ none) (fun d => d.set F.OT_STAT_CMDLOST) ∧
      Does c (fun d => d.ot.job = none ∧ d.r F.OT_WIN_PEND = 1 ∧ windowMet d = true ∧ ctrFull d 1 = false)
        (fun d t => t.r F.OT_STAT_CMDLOST = 1 ∧ t.ot.job.map (fun j => j.req) = some { owner := .latch, code := 6, ctr := 1 } ∧ t.mem = d.mem))

/-- With the engine idle, the window met, and the life cycle not RETIRED, a burn of a word of a region that is not locked starts a pulse at the word's
target for the bits that are not strong yet: BURN aims at OT_DATA, REBURN at the weak bits, INC by boot ROM code at the lowest unburned bead, LOCK by
boot ROM code at the lock word. BURN with the window not met will end with ERR WINDOW; in a locked region with ERR LOCKED, and it is a locked write;
INC of a counter of the table and LOCK by image code with ERR DENIED, INC of counter 14 or 15 with ERR RANGE. [R96; R97; R99; R101; R105; R107; Table
OT-6] -/
def Obligations.OtpBurns : Prop :=
  ∀ (rom : Bool) (win : BitVec 2),
    let up (d : Dev) : Dev := setWindow win.toNat d
    let word (d : Dev) : Nat := d.r F.OT_ADDR_WORD
    let idle (d : Dev) : Prop := (up d).r F.OT_STAT_BUSY = 0 ∧ d.ot.job = none ∧ (d.r F.OT_WIN_PEND = 0 ∨ windowMet (up d) = false)
    let can (d : Dev) : Prop := idle d ∧ windowMet (up d) = true ∧ lifeCycle d ≠ 3
    let free (w : Nat) (d : Dev) : Prop := w / 64 ≠ 3 ∧ wlk d (w / 64) = false ∧ otReserved w = false ∧ otBead w = false
    let pulses (code w target : Nat) (d : Dev) : Dev := (otStarted rom code (up d)).onJob fun j =>
      { j with cur := some ⟨w, target, target &&& (0xFFFFFFFF ^^^ margl d w), 0, d.ns⟩, retries := some 0, fail := some 0 }
    Runs (.otCmdBurn rom win) (fun d => can d ∧ free (word d) d ∧ d.r F.OT_DATA_DATA &&& otReservedBits (word d) = 0 ∧
        d.r F.OT_DATA_DATA &&& (0xFFFFFFFF ^^^ margl d (word d)) ≠ 0)
      (fun d => pulses 4 (word d) (d.r F.OT_DATA_DATA) d) ∧
    Runs (.otCmdReburn rom win) (fun d => can d ∧ free (word d) d ∧ weakBits d (word d) &&& otReservedBits (word d) = 0 ∧ weakBits d (word d) ≠ 0)
      (fun d => pulses 5 (word d) (weakBits d (word d)) d) ∧
    (∀ b, b < 3 → Does (.otCmdInc true win) (fun d => can d ∧ d.r F.OT_ADDR_CTR = 10 ∧ margh d 168 = 2 ^ b - 1 ∧ margl d 168 = 2 ^ b - 1)
      (fun d t => pulseNow t = some ⟨168, 2 ^ b, 2 ^ b, 0, d.ns⟩ ∧ t.ot.fuses = d.ot.fuses ∧ t.mem = d.mem)) ∧
    Runs (.otCmdLock true win) (fun d => can d ∧ d.r F.OT_DATA_DATA < 65536 ∧ d.r F.OT_DATA_DATA &&& (0xFFFFFFFF ^^^ margl d otLockWord) ≠ 0)
      (fun d => (otStarted true 8 (up d)).onJob fun j => { j with
        cur := some ⟨otLockWord, d.r F.OT_DATA_DATA, d.r F.OT_DATA_DATA &&& (0xFFFFFFFF ^^^ margl d otLockWord), 0, d.ns⟩,
        retries := some 0, fail := some 0 }) ∧
    Runs (.otCmdBurn rom win) (fun d => idle d ∧ windowMet (up d) = false ∧ lifeCycle d ≠ 3 ∧ free (word d) d ∧
        d.r F.OT_DATA_DATA &&& otReservedBits (word d) = 0 ∧ d.r F.OT_DATA_DATA &&& (0xFFFFFFFF ^^^ margl d (word d)) ≠ 0)
      (fun d => (otStarted rom 4 (up d)).onJob fun j => { j with err := OtErr.window }) ∧
    Runs (.otCmdBurn rom win) (fun d => idle d ∧ lifeCycle d ≠ 3 ∧ (word d / 64 = 3 ∨ wlk d (word d / 64) = true))
      (fun d => ((otStarted rom 4 (up d)).lockV Tag.ot 0x40002000).onJob fun j => { j with err := OtErr.locked }) ∧
    Runs (.otCmdLock false win) idle (fun d => (otStarted false 8 (up d)).onJob fun j => { j with err := OtErr.denied }) ∧
    Runs (.otCmdInc false win) (fun d => idle d ∧ d.r F.OT_ADDR_CTR < 14) (fun d => (otStarted false 6 (up d)).onJob fun j => { j with err := OtErr.denied }) ∧
    Runs (.otCmdInc false win) (fun d => idle d ∧ lifeCycle d ≠ 3 ∧ 14 ≤ d.r F.OT_ADDR_CTR)
      (fun d => (otStarted false 6 (up d)).onJob fun j => { j with err := OtErr.range })

/-- When a pulse has lasted 50 µs with the window met, the bits its verify finds are burned in the pulsed word and nowhere else; if they all are, the
word burn ends with the number of retries and no failing bit; if not, and fewer than five pulses have ended, the next pulse aims at the bits still
failing. When the window falls under a pulse, the pulse is cut, nothing more is burned by the job, and it will end with ERR WINDOW. Before the 50 µs,
and with no pulse, nothing changes. No burned bit is ever unburned. [R100; R101; R103; R89] -/
def Obligations.BurnPulses : Prop :=
  (∀ (lo hi : Word) (tie : Bool) (p : Pulse),
    let left (d : Dev) : Nat := p.target &&& (0xFFFFFFFF ^^^ (margl d p.word ||| (lo.toNat &&& p.failing)))
    Does (.burnPulseEnd lo hi tie) (fun d => pulseNow d = some p ∧ p.start + 50000 ≤ d.ns ∧ windowMet d = true ∧ left d = 0 ∧
        d.ot.job.map OtJob.tasks = some [] ∧ d.ot.job.map OtJob.abort = some false)
      (fun d t => margl t p.word = margl d p.word ||| (lo.toNat &&& p.failing) ∧ (∀ w, w ≠ p.word → margl t w = margl d w ∧ margh t w = margh d w) ∧
        pulseNow t = none ∧ t.ot.job.map OtJob.retries = some (some p.tries) ∧ t.ot.job.map OtJob.fail = some (some 0) ∧
        t.ot.job.map OtJob.err = d.ot.job.map OtJob.err ∧ t.mem = d.mem) ∧
    Does (.burnPulseEnd lo hi tie) (fun d => pulseNow d = some p ∧ p.start + 50000 ≤ d.ns ∧ windowMet d = true ∧ left d ≠ 0 ∧ p.tries < 4 ∧
        d.ot.job.map OtJob.abort = some false)
      (fun d t => margl t p.word = margl d p.word ||| (lo.toNat &&& p.failing) ∧ (∀ w, w ≠ p.word → margl t w = margl d w ∧ margh t w = margh d w) ∧
        pulseNow t = some { p with failing := left d, tries := p.tries + 1, start := d.ns } ∧ t.mem = d.mem) ∧
    Runs (.burnPulseEnd lo hi tie) (fun d => pulseNow d = some p ∧ d.ns < p.start + 50000) (fun d => d) ∧
    (∀ c : BitVec 3, c.getLsbD 0 = true →
      Does (.burnWindowFall c lo hi) (fun d => pulseNow d = some p)
        (fun d t => windowMet t = false ∧ t.r F.OT_WIN_VPPOK = 0 ∧ pulseNow t = none ∧ t.ot.job.map OtJob.err = some OtErr.window ∧
          t.ot.job.map OtJob.tasks = some [] ∧ (∀ w, w ≠ p.word → margl t w = margl d w ∧ margh t w = margh d w) ∧ t.mem = d.mem)) ∧
    (∀ c : BitVec 3, Does (.burnWindowFall c lo hi) (fun d => pulseNow d = none)
      (fun d t => t.ot = d.ot ∧ (∀ i, i < 3 → c.getLsbD i = true → t.r (([F.OT_WIN_VPPOK, F.OT_WIN_VINOK, F.OT_WIN_TEMPOK]).getD i F.OT_WIN_OK) = 0)))) ∧
  (∀ (i : Instr) (lo hi : Word) (tie : Bool) (c : BitVec 3) (s t : State), i = .burnPulseEnd lo hi tie ∨ i = .burnWindowFall c lo hi →
    exec i s = .next t → ∀ w n, (margl s.dev w).testBit n = true → (margl t.dev w).testBit n = true)

/-- The end of a command of image or boot ROM code whose burns are done writes ERR, and where ERR is 0 the data it has read, sets DONE, clears BUSY
and leaves the engine idle; an increment's or a check's end also writes the counter's security count. A job whose pulse is still under way goes on.
With the pending-burn latch set, the engine idle and the window met, the tamper bead burn starts with the latch as its owner. [R96; R98; R106; R133]
-/
def Obligations.OtpCommandEnds : Prop :=
  (∀ j : OtJob, j.req.owner = .sw ∨ j.req.owner = .rom → j.cur = none → j.tasks = [] → j.abort = false →
    Does .otCommandDone (fun d => d.ot.job = some j ∧ d.ot.wait = [])
      (fun d t => t.r F.OT_STAT_ERR = j.err % 16 ∧ t.r F.OT_STAT_DONE = 1 ∧ t.r F.OT_STAT_BUSY = 0 ∧ t.ot.job = none ∧ t.ot.fuses = d.ot.fuses ∧
        (∀ v, j.data = some v → j.err = 0 → t.r F.OT_DATA_DATA = v % 2 ^ 32) ∧
        (j.req.code = 7 → j.req.ctr < 14 → j.err = 0 → t.r F.OT_CNT_MH = securityCount d j.req.ctr % 2 ^ 10) ∧ t.mem = d.mem ∧ t.co = d.co)) ∧
  (∀ j : OtJob, j.cur.isSome = true → Runs .otCommandDone (fun d => d.ot.job = some j) (fun d => d)) ∧
  (∀ win : BitVec 2,
    Does (.tamperBeadBurn win) (fun d => d.r F.OT_WIN_PEND = 1 ∧ d.ot.job = none ∧ windowMet (setWindow win.toNat d) = true ∧ ctrFull d 1 = false)
      (fun d t => t.ot.job.map (fun j => j.req) = some { owner := .latch, code := 6, ctr := 1 } ∧ t.r F.OT_STAT_BUSY = 1 ∧ t.mem = d.mem) ∧
    Runs (.tamperBeadBurn win) (fun d => (setWindow win.toNat d).r F.OT_WIN_PEND = 0) (setWindow win.toNat))

/-- With no key command under way, NOP starts and does nothing; DERIVE with KREG empty will fill KREG with the key of the customer path in KY_PATH and
the path's attribute; UNWRAP with KREG empty and a tag that fits will fill KREG with the wrapped key and its attribute; CLEAR empties KREG; with KREG
full DERIVE and UNWRAP will end with ERR LOCKED, set REFILL, and are locked writes. While BUSY a command is lost and sets CMDLOST. [R117; R118; R120;
R121; R123; Table KY-4] -/
def Obligations.KeyCommandsThatFill : Prop :=
  let idle (d : Dev) : Prop := d.r F.KY_STAT_BUSY = 0
  Runs .kyNop idle (kyStarted 0) ∧
  (∀ (p : List PathEl) (e : PathEl), Does .kyDerive (fun d => idle d ∧ kregFull d = false ∧ customerPath [1, 2] d = some p ∧ p.getLast? = some e)
    (fun d t => kyWill 1 (fun j => { j with fill := some (e.attr, pathKey d p) }) d t)) ∧
  (∀ p : List PathEl, Does .kyUnwrap (fun d => idle d ∧ kregFull d = false ∧ customerPath [3] d = some p ∧ ((kyBuf d).headD 0 = 1 ∨ (kyBuf d).headD 0 = 2) ∧
      gcmTag (pathKey d p) (((kyBuf d).drop 1).take 12) [(kyBuf d).headD 0] (((kyBuf d).drop 13).take 32) = ((kyBuf d).drop 45).take 16)
    (fun d t => kyWill 2 (fun j => { j with fill := some ((kyBuf d).headD 0,
      gcmText (pathKey d p) (((kyBuf d).drop 1).take 12) (((kyBuf d).drop 13).take 32)) }) d t)) ∧
  Does .kyClear idle (fun d t => t.r F.KY_STAT_KFULL = 0 ∧ t.r F.KY_STAT_KATTR = 0 ∧ t.ky.kx = d.ky.km ∧ t.ky.km = d.ky.km ∧
    t.ky.job = some { code := 6 } ∧ t.ky.pair = d.ky.pair ∧ t.mem = d.mem ∧ t.ot = d.ot) ∧
  Runs .kyDerive (fun d => idle d ∧ kregFull d = true)
    (fun d => (((kyStarted 1 d).set F.KY_STAT_REFILL).lockV Tag.ky 0x40003000).onKy fun k => { k with job := some { code := 1, err := KyErr.locked } }) ∧
  Runs .kyUnwrap (fun d => idle d ∧ kregFull d = true)
    (fun d => (((kyStarted 2 d).set F.KY_STAT_REFILL).lockV Tag.ky 0x40003000).onKy fun k => { k with job := some { code := 2, err := KyErr.locked } }) ∧
  Runs .kyNop (fun d => d.r F.KY_STAT_BUSY ≠ 0) (fun d => d.set F.KY_STAT_CMDLOST)

/-- With no key command under way and its conditions met, each of these commands will leave its output in KY_BUF: WRAPKEY the attribute, a fresh IV,
the wrapped key and its tag; ENCRYPT and DECRYPT the record of Table KY-5; GENPAIR a fresh handle and the public key of a fresh pair, which will be
loaded; LOADPAIR the public key of the handle's pair, which will be loaded; SIGN and ATTEST a signature, ATTEST over a message that states the loaded
pair only where it was loaded through its handle; ESCROW the escrow record for an authorised key. IVs, seeds and nonces are free values. [R122; R123;
R124; R125; R131; Table KY-4; Table KY-5] -/
def Obligations.KeyCommandsThatAnswer : Prop :=
  let idle (d : Dev) : Prop := d.r F.KY_STAT_BUSY = 0
  let aLen (d : Dev) : Nat := le (((kyBuf d).drop 28).take 2)
  let nLen (d : Dev) : Nat := le (((kyBuf d).drop 30).take 2)
  let aad (d : Dev) : List Nat := ((kyBuf d).drop 32).take (aLen d)
  let text (d : Dev) : List Nat := ((kyBuf d).drop (32 + aLen d)).take (nLen d)
  (∀ p : List PathEl, Does .kyWrapkey (fun d => idle d ∧ customerPath [3] d = some p ∧ ((kyBuf d).headD 0 = 1 ∨ (kyBuf d).headD 0 = 2) ∧
      d.r F.KY_STAT_TRNGF = 0)
    (fun d t => ∃ iv : List Nat, iv.length = 12 ∧
      let ct := gcmText (pathKey d p) iv (((kyBuf d).drop 1).take 32)
      kyWill 3 (fun j => { j with buf := some ([(kyBuf d).headD 0] ++ iv ++ ct ++ gcmTag (pathKey d p) iv [(kyBuf d).headD 0] ct) }) d t)) ∧
  Does .kyEncrypt (fun d => idle d ∧ kregFull d = true ∧ d.r F.KY_STAT_KATTR = 1 ∧ aLen d + nLen d ≤ 224 ∧ d.r F.KY_STAT_TRNGF = 0)
    (fun d t => ∃ iv : List Nat, iv.length = 12 ∧
      let ct := gcmText (kregKey d) iv (text d)
      kyWill 4 (fun j => { j with buf := some (iv ++ gcmTag (kregKey d) iv (aad d) ct ++ ((kyBuf d).drop 28).take (4 + aLen d) ++ ct) }) d t) ∧
  Does .kyDecrypt (fun d => idle d ∧ kregFull d = true ∧ d.r F.KY_STAT_KATTR = 2 ∧ aLen d + nLen d ≤ 224 ∧
      gcmTag (kregKey d) ((kyBuf d).take 12) (aad d) (text d) = ((kyBuf d).drop 12).take 16)
    (fun d t => kyWill 5 (fun j => { j with buf := some ((kyBuf d).take (32 + aLen d) ++ gcmText (kregKey d) ((kyBuf d).take 12) (text d)) }) d t) ∧
  Does .kyGenpair (fun d => idle d ∧ d.r F.KY_STAT_TRNGF = 0)
    (fun d t => ∃ s iv : List Nat, s.length = 32 ∧ iv.length = 12 ∧
      let ct := gcmText (pairWrapKey d) iv s
      kyWill 7 (fun j => { j with
        buf := some (iv ++ ct ++ gcmTag (pairWrapKey d) iv (ascii "PAIR") ct ++ ((kyBuf d).drop 60).take 4 ++ ecPub (pairScalar d s)),
        load := some (pairScalar d s) }) d t) ∧
  Does .kyLoadpair (fun d => idle d ∧ gcmTag (pairWrapKey d) ((kyBuf d).take 12) (ascii "PAIR") (((kyBuf d).drop 12).take 32) = ((kyBuf d).drop 44).take 16)
    (fun d t =>
      let x := pairScalar d (gcmText (pairWrapKey d) ((kyBuf d).take 12) (((kyBuf d).drop 12).take 32))
      kyWill 8 (fun j => { j with buf := some ((kyBuf d).take 64 ++ ecPub x), load := some x, hand := true }) d t) ∧
  (∀ x : Nat, Does .kySign (fun d => idle d ∧ d.ky.pair = some x)
    (fun d t => ∃ n : Nat, kyWill 9 (fun j => { j with buf := some (ecSign x n ((kyBuf d).take 32)) }) d t)) ∧
  Runs .kySign (fun d => idle d ∧ d.ky.pair = none) (fun d => (kyStarted 9 d).onKy fun k => { k with job := some { code := 9, err := KyErr.empty } }) ∧
  Does .kyAttest idle (fun d t => ∃ n : Nat,
    let m := attestMessage d ((kyBuf d).take 32)
    kyWill 10 (fun j => { j with buf := some (m ++ ecSign (idkScalar d) n (sha256 m)) }) d t) ∧
  (∀ (d : Dev) (nonce : List Nat),
    (d.ky.hand = false → ∃ m : List Nat, attestMessage d nonce = m ++ [0, 0, 0, 0] ++ ecPub (idkScalar d) ++ List.replicate 64 0) ∧
    (∀ x, d.ky.hand = true → d.ky.pair = some x → ∃ m : List Nat, attestMessage d nonce = m ++ [3, 0, 0, 0] ++ ecPub (idkScalar d) ++ ecPub x)) ∧
  (∀ q : Nat × Nat, Does .kyEscrow (fun d => idle d ∧ ecPoint ((kyBuf d).take 64) = some q ∧ (signerOf d ((kyBuf d).take 64)).isSome = true ∧
      (lifeCycle d = 1 ∨ lifeCycle d = 2) ∧ (bitsAt (d.r F.KY_ARG_CONFIRM) 4 8 = lifeCode (lifeCycle d) ∨ bitsAt (d.r F.KY_ARG_CONFIRM) 4 8 = 0xB2) ∧
      d.r F.KY_STAT_TRNGF = 0)
    (fun d t => ∃ (e : Nat) (iv ct tag : List Nat), 1 ≤ e ∧ e < pN ∧ iv.length = 12 ∧
      kyWill 11 (fun j => { j with buf := some (ecPub e ++ iv ++ ct ++ tag) }) d t))

/-- With no key command under way and the OTP engine idle, INVAL asks for the increment of its slot's counter, PERSO in BLANK with the seed and its
locks unburned asks for the seed burn, FIELD in PERSO with its locks burned and a usable signer asks for the life-cycle bead, RETIRE in FIELD with its
confirmation asks for the RETIRED bead; before the first burn KREG and the pair are gone, and the command waits for the burn. In any other state
PERSO, FIELD and RETIRE will end with ERR STATE. [R126; R127; R128; Table KY-8] -/
def Obligations.KeyCommandsThatBurn : Prop :=
  ∀ win : BitVec 2,
    let up (d : Dev) : Dev := setWindow win.toNat d
    let idle (d : Dev) : Prop := (up d).r F.KY_STAT_BUSY = 0 ∧ d.ot.job = none ∧ d.ot.wait = [] ∧ (d.r F.OT_WIN_PEND = 0 ∨ windowMet (up d) = false)
    let asks (code : Nat) (q : OtReq → Prop) (d t : Dev) : Prop :=
      t.r F.KY_STAT_KFULL = 0 ∧ t.r F.KY_STAT_PAIR = 0 ∧ t.ky.pair = none ∧ t.ky.kx = d.ky.km ∧ t.ky.job = some { code := code, burns := true } ∧
        t.r F.OT_STAT_BUSY = 1 ∧ (∃ j, t.ot.job = some j ∧ j.req.owner = .ky ∧ q j.req) ∧ t.ot.fuses = d.ot.fuses ∧ t.mem = d.mem
    (∀ k, k < 8 → Does (.kyInval win) (fun d => idle d ∧ d.r F.KY_ARG_CONFIRM % 8 = k) (asks 12 fun q => q.code = 6 ∧ q.ctr = 2 + k)) ∧
    Does (.kyPerso win) (fun d => idle d ∧ lifeCycle d = 0 ∧ d.r F.KY_LC_SEEDBAD = 0 ∧ (∀ i, i < 8 → margh d (192 + i) = 0) ∧
      margh d otLockWord &&& 0x808 = 0 ∧ d.r F.KY_STAT_TRNGF = 0) (asks 13 fun q => q.code = 16 ∧ q.seed.length = 8) ∧
    Does (.kyField win) (fun d => idle d ∧ lifeCycle d = 1 ∧ margh d otLockWord &&& 3 = 3 ∧ signerUsable d 0 = true)
      (asks 14 fun q => q.code = 6 ∧ q.ctr = 10) ∧
    Does (.kyRetire win) (fun d => idle d ∧ lifeCycle d = 2 ∧ d.r F.KY_ARG_CONFIRM = shadowOf d 0) (asks 15 fun q => q.code = 17) ∧
    Does (.kyRetire win) (fun d => idle d ∧ (lifeCycle d ≠ 2 ∨ d.r F.KY_ARG_CONFIRM ≠ shadowOf d 0))
      (fun d t => t.ky.job = some { code := 15, err := KyErr.state } ∧ t.ot = d.ot ∧ t.mem = d.mem)

/-- The end of a key command that waits for no burn writes KY_STAT.ERR, sets DONE and clears BUSY; one that fills leaves its key and its attribute in
KREG, and one that ends with an error other than LOCKED leaves KY_BUF zero. A loading command leaves its pair, from its handle or not. A re-mask with
the TRNG healthy leaves the key that KREG holds; with the TRNG failed it empties KREG; while ACLK stands still nothing happens. [R117; R119; R120;
R112; R131] -/
def Obligations.KeyCommandEnds : Prop :=
  (∀ (j : KyJob), j.burns = false → j.rom = false →
    Does .kyCommandDone (fun d => d.ky.job = some j)
      (fun _ t => t.r F.KY_STAT_ERR = j.err % 16 ∧ t.r F.KY_STAT_DONE = 1 ∧ t.r F.KY_STAT_BUSY = 0 ∧ t.ky.job = none)) ∧
  (∀ (a : Nat) (key : List Nat), key.length = 32 → (∀ b ∈ key, b < 256) →
    Does .kyCommandDone (fun d => d.ky.job = some { code := 1, fill := some (a, key) } ∧ d.ky.km.length = 32)
      (fun d t => kregKey t = key ∧ t.r F.KY_STAT_KFULL = 1 ∧ t.r F.KY_STAT_KATTR = a % 8 ∧ t.ky.km = d.ky.km ∧ t.mem = d.mem)) ∧
  (∀ (c x : Nat) (h : Bool), Does .kyCommandDone (fun d => d.ky.job = some { code := c, load := some x, hand := h })
    (fun d t => t.ky.pair = some x ∧ t.ky.hand = h ∧ t.r F.KY_STAT_PAIR = 1 ∧ t.mem = d.mem)) ∧
  (∀ e : Nat, e ≠ 0 → e ≠ KyErr.locked →
    Does .kyCommandDone (fun d => d.ky.job = some { code := 1, err := e }) (fun _ t => ∀ i, i < 64 → t.r (F.KY_BUF_W i) = 0)) ∧
  let ticks (d : Dev) : Prop := d.ck.ladder = .run ∨ d.ck.ladder = .hold ∨ d.ck.ladder = .nap ∨ ((d.ck.ladder = .fallow ∨ d.ck.ladder = .waking) ∧ d.ck.xrun = true)
  Does .kregRemask (fun d => ticks d ∧ d.r F.KY_STAT_TRNGF = 0 ∧
      d.ky.kx.length = 32 ∧ d.ky.km.length = 32)
    (fun d t => kregKey t = kregKey d ∧ t.regs = d.regs ∧ t.mem = d.mem ∧ t.ky.km.length = 32) ∧
  Does .kregRemask (fun d => ticks d ∧ d.r F.KY_STAT_TRNGF = 1 ∧ d.ky.job = none)
    (fun d t => t.r F.KY_STAT_KFULL = 0 ∧ t.r F.KY_STAT_KATTR = 0 ∧ t.ky.kx = d.ky.km ∧ t.mem = d.mem) ∧
  Runs .kregRemask (fun d => d.ck.ladder = .fallow ∧ d.ck.xrun = false) (fun d => d)

/-- A health failure sets KY_STAT.TRNGF and a recovery clears it. A JTAG instruction update loads the instruction that may act in the present life
cycle: IDCODE and BYPASS-like codes always, UNLOCK but in RETIRED, the debug ones in BLANK and PERSO; DBGACC there enables the debug path, and KREG
and the pair are gone. In Dormant the TAP is in reset. With UNLOCK loaded a capture keeps a fresh challenge and presents it at bits 2 to 257 of the
data register, an update takes SLOT, KEY and SIG from it and keeps its verdict; a good verdict enables the debug path, and a bad one discards the
challenge and is counted. [R111; R112; R129; R130; R38; Table KY-17] -/
def Obligations.TrngJtagAndUnlock : Prop :=
  Runs .trngHealthFail (fun _ => True) (fun d => d.set F.KY_STAT_TRNGF) ∧
  Runs .trngHealthRecover (fun _ => True) (fun d => d.clr F.KY_STAT_TRNGF) ∧
  (∀ ir : BitVec 5, Runs (.jtagInstructionUpdate ir) (fun d => d.ck.ladder = .dormant) (fun d => d)) ∧
  let tap (d : Dev) : Prop := d.ck.ladder ≠ .dormant
  Runs (.jtagInstructionUpdate 1) tap (fun d => d.onKy fun k => { k with ir := 1 }) ∧
  Runs (.jtagInstructionUpdate 8) (fun d => tap d ∧ lifeCycle d ≠ 3) (fun d => d.onKy fun k => { k with ir := 8 }) ∧
  Runs (.jtagInstructionUpdate 8) (fun d => tap d ∧ lifeCycle d = 3) (fun d => d.onKy fun k => { k with ir := 31 }) ∧
  Does (.jtagInstructionUpdate 9) (fun d => tap d ∧ lifeCycle d < 2 ∧ d.r F.KY_LC_DBGEN = 0 ∧ d.ky.job = none)
    (fun d t => t.ky.ir = 9 ∧ t.r F.KY_LC_DBGEN = 1 ∧ t.r F.KY_STAT_KFULL = 0 ∧ t.r F.KY_STAT_PAIR = 0 ∧ t.ky.pair = none ∧ t.ky.kx = d.ky.km ∧
      t.mem = d.mem) ∧
  Does .unlockCapture (fun d => d.ky.ir = 8)
    (fun d t => ∃ c : List Nat, c.length = 32 ∧ t.ky = { d.ky with chal := some c, dr := 4 * le c } ∧ (∀ i, i < 2 → tdoBit t i = false) ∧ t.regs = d.regs ∧ t.mem = d.mem) ∧
  (∀ (low : BitVec 258) (key sig : BitVec 512),
    let dr : Nat := low.toNat + key.toNat * 2 ^ 258 + sig.toNat * 2 ^ 770
    let slot : Nat := low.toNat % 4
    let keyBytes : List Nat := leBytes 64 key.toNat
    Runs (.unlockUpdate low key sig) (fun d => d.ky.ir = 8 ∧ d.ky.chal = none) (fun d => d.onKy fun k => { k with dr := dr, verify := some false }) ∧
    Runs (.unlockUpdate low key sig) (fun d => d.ky.ir ≠ 8) (fun d => d) ∧
    (∀ c : List Nat, Runs (.unlockUpdate low key sig) (fun d => d.ky.ir = 8 ∧ d.ky.chal = some c) (fun d => d.onKy fun k =>
      { k with dr := dr, verify := some (signerUsable d slot && decide (sha256 keyBytes = signerHash d slot) &&
        ecVerify keyBytes (sha256 (ascii "FDBG" ++ serialBytes d ++ c)) (leBytes 64 sig.toNat)) }))) ∧
  Does .unlockVerifyDone (fun d => d.ky.verify = some true ∧ d.r F.KY_LC_DBGEN = 0 ∧ d.ky.job = none)
    (fun d t => t.r F.KY_LC_DBGEN = 1 ∧ t.ky.verify = none ∧ t.ky.chal = d.ky.chal ∧ t.ky.pair = none ∧ t.r F.KY_STAT_KFULL = 0 ∧ t.mem = d.mem) ∧
  Runs .unlockVerifyDone (fun d => d.ky.verify = some false)
    (fun d => (d.onKy fun k => { k with verify := none, chal := none }).inc F.KY_LC_UNLKFAIL)

/-- Sources 0 to 3 and 5 that alarm in one handshake set their latches and live bits; where no source was live, QPEND and the pending-burn latch too,
once. In the reset ladder the device waits for the monitor. In Run the device enters quarantine at once: KREG, the pending verb, the load, program RAM
and the data RAM below the monitor's are gone; where no slot is in use and no bank drives light, the core runs the monitor at level 8 and every other
byte of memory stays. A source that alarmed before and is not among those found now has stopped, and so has every one where none is found or
TAMPER_ALARM_CLEAR comes; that of XCLK ends with XCLK's return. [R132; R133; R134; R135; R136] -/
def Obligations.TamperAlarms : Prop :=
  (∀ sources : BitVec 6,
    let m : Nat := sources.toNat
    m ≠ 0 → bitAt m 4 = false →
    Does (.tamperAlarm sources) (fun d => d.ck.ladder = .resetting ∧ d.ot.job = none ∧ d.ky.job = none)
      (fun d t => (∀ s, s < 6 → (bitAt m s = true → t.r (tamperLatch s) = 1) ∧
          bitAt (t.r F.TP_LIVE_SRC) s = (bitAt m s || (decide (s = 4) && bitAt (d.r F.TP_LIVE_SRC) s && !d.ck.xrun))) ∧ t.r F.KY_STAT_KFULL = 0 ∧
        t.mem = d.mem ∧ t.ck = d.ck ∧ (d.r F.TP_LIVE_SRC = 0 → t.r F.TP_STAT_QPEND = 1 ∧ (ctrFull d 1 = false → t.r F.OT_WIN_PEND = 1)) ∧
        (d.r F.TP_LIVE_SRC ≠ 0 → t.r F.TP_STAT_QPEND = d.r F.TP_STAT_QPEND ∧ t.r F.OT_WIN_PEND = d.r F.OT_WIN_PEND)) ∧
    Does (.tamperAlarm sources) (fun d => d.ck.ladder = .run ∧ d.r F.SYS_BOOT_LSTATE ≠ 5 ∧ d.ck.silent = false)
      (fun d t => t.r F.TP_STAT_QPEND = 0 ∧ t.r F.SYS_BOOT_LSTATE = 5 ∧ t.r F.SYS_BLEN_N = 0 ∧ t.r F.KY_STAT_KFULL = 0 ∧ t.st.wait = none ∧
        t.bt.header = [] ∧ (∀ a, inProg a = true → t.byte a = memDefault) ∧ (∀ a, dataBase ≤ a → a < monBase → t.byte a = memDefault) ∧
        (d.sw.slots = [] → d.ld.banks = [] → (∀ s, s < 6 → bitAt m s = true → t.r (tamperLatch s) = 1) ∧ t.co.image = false ∧ t.co.level = 8 ∧ t.co.ie = false ∧
          t.co.w = d.co.w ∧ t.bt = { d.bt with header := [] } ∧
          (∀ a, inProg a = false → ¬(dataBase ≤ a ∧ a < monBase) → t.byte a = d.byte a))) ∧
    (∀ s : State, ∃ t : State, exec .xclkStop s = .next t ∧ exec (.tamperAlarm 16) s = .next { t with dev := tamperEnd 47 t.dev })) ∧
  (let ended (d t : Dev) : Prop := SameRegs [F.TP_LIVE_SRC] d t ∧ t.mem = d.mem ∧ t.co = d.co ∧ t.ot = d.ot ∧
     ∀ s, s < 6 → bitAt (t.r F.TP_LIVE_SRC) s = (bitAt (d.r F.TP_LIVE_SRC) s && (decide (s = 4) && !d.ck.xrun))
   Does (.tamperAlarm 0) (fun _ => True) ended ∧ Does .tamperAlarmClear (fun _ => True) ended)

/-- A source pending above LEVEL ends WAIT, and is seen by a ladder request; nothing else does. A far access that its block reports failed takes BUSI
with the address at the instruction now due, which no other instruction precedes, once the registers of the frame are not busy, at level 8 a lockup
reset at once; and a failed load leaves 0 in its register, no longer busy. An XIP line that has come stands in the line buffer, the part of one that
has come too. With AUTO the throttle's target is VMAX under demand, falls by DOWN+1 at a tick while the core waits, and never leaves VMIN to VMAX;
without it the target is VSET; a target more than 20 mV from the one before, or from the code VCA settled at, is not SETTLED until VCA has settled. A
write of CORE_VSET takes every field; in sleep the target keeps until its end. IC_CTL.INV empties the cache and the line buffer and reads 1 until
done; CLRST clears both counts. [R139; R140; R141; R142; R143; R150; R157; R181; Table CO-14] -/
def Obligations.CoreEvents : Prop :=
  Runs .waitWake (fun d => imageRuns d = true ∧ d.co.waiting = true ∧ (irqAbove d d.co.level).isSome = true)
    (fun d => (d.onCo fun k => { k with waiting := false }).onCk fun c => { c with woken := c.woken || c.ask.isSome }) ∧
  Runs .waitWake (fun d => imageRuns d = false ∨ d.co.waiting = false ∨ irqAbove d d.co.level = none) (fun d => d) ∧
  (∀ (a : Nat) (r : List (Nat × Option Nat)), Does .busiReport (fun d => imageRuns d = true ∧ d.co.busi = none ∧ d.co.fails = (a, none) :: r ∧ d.co.level < 8 ∧
      CanEnter 6 d.co.pc (d.onCo fun k => { k with fails := r }))
    (fun d t => TakesException 6 d.co.pc (some a) d t ∧ t.r F.CO_FCAUSE_IMP = 1 ∧ t.co.fails = r ∧ t.co.busi = none) ∧
    Runs .busiReport (fun d => imageRuns d = true ∧ d.co.busi = none ∧ d.co.fails = (a, none) :: r ∧ d.co.level < 8 ∧ frameBusy d = true)
      (fun d => d.onCo fun k => { k with fails := r, busi := some a }) ∧
    Runs .busiReport (fun d => imageRuns d = true ∧ d.co.busi = none ∧ d.co.fails = (a, none) :: r ∧ 8 ≤ d.co.level)
      (fun d => lockupReset (d.onCo fun k => { k with fails := r, busi := some a }))) ∧
  Runs .nop (fun d => d.co.busi ≠ none) (fun d => d) ∧
  (∀ (a : Nat) (l : FarLoad),
    let told (d : Dev) : Dev := (d.setW l.dst 0).onCo fun k => { k with loads := [], fails := [] }
    Does .busiReport (fun d => imageRuns d = true ∧ d.co.busi = none ∧ d.co.fails = [(a, some l.id)] ∧ d.co.loads = [l] ∧ d.co.level < 8 ∧ CanEnter 6 d.co.pc (told d))
      (fun d t => TakesException 6 d.co.pc (some a) (told d) t ∧ t.co.loads = [] ∧ t.co.fails = [])) ∧
  Runs .busiReport (fun d => d.co.fails = []) (fun d => d) ∧
  (∀ (a : Nat) (o : BusOp) (line : Bytes), line.length = 32 → o.op = .fill a →
    Does (.xipLineFillDone line) (fun d => d.sp.bus = some o ∧ o.stop ≤ d.ns ∧ d.sp.fill = some a)
      (fun d t => t.co.line = some (a, Bytes.nats line) ∧ t.co.pc = d.co.pc ∧ t.co.w = d.co.w ∧ t.regs = d.regs ∧ t.mem = d.mem ∧
        t.sp.bus = d.sp.bus ∧ (d.co.loads = [] → t.sp.fill ≠ some a)) ∧
    Runs (.xipLineFillDone line) (fun d => d.sp.fill = none) (fun d => d)) ∧
  (∀ (a : Nat) (o : BusOp) (part : Bytes), part.length < 32 → o.op = .fill a →
    Does (.xipLineFillDone part) (fun d => d.sp.bus = some o ∧ d.sp.fill = some a ∧ o.stop ≤ d.ns + (32 - part.length) * byteClocks d o.sel * o.period)
      (fun d t => t.co.line = some (a, Bytes.nats part) ∧ t.co.cache = d.co.cache ∧ t.co.pc = d.co.pc ∧ t.co.w = d.co.w ∧ t.regs = d.regs ∧ t.mem = d.mem ∧
        t.sp = d.sp) ∧
    Runs (.xipLineFillDone part) (fun d => d.sp.bus = some o ∧ d.sp.fill = some a ∧ d.ns + (32 - part.length) * byteClocks d o.sel * o.period < o.stop)
      (fun d => d)) ∧
  (let close (x y : Nat) : Prop := x ≤ y + 2 ∧ y ≤ x + 2
   let aims (goal : Dev → Nat) (d t : Dev) : Prop := t.r F.CORE_VSTAT_TARGET = goal d ∧ t.r F.CORE_VSTAT_DEMAND = bit (demandNow d) ∧
     t.r F.CORE_VSTAT_SETTLED = (if d.r F.CORE_VSTAT_TARGET = goal d ∨ (close (goal d) d.co.vcaAt ∧ close (goal d) (d.r F.CORE_VSTAT_TARGET)) then
         d.r F.CORE_VSTAT_SETTLED else 0) ∧
     SameRegs [F.CORE_VSTAT_TARGET, F.CORE_VSTAT_DEMAND, F.CORE_VSTAT_SETTLED] d t ∧ t = { d with regs := t.regs }
   let kept (x : Nat) (d : Dev) : Nat := min (max x (vMin d)) (vMax d)
   Does .throttleTick (fun d => d.r F.CORE_VSET_AUTO = 1 ∧ aclkRuns d = true ∧ demandNow d = true) (aims vMax) ∧
   Does .throttleTick (fun d => d.r F.CORE_VSET_AUTO = 1 ∧ aclkRuns d = true ∧ demandNow d = false ∧ d.co.waiting = true)
     (aims fun d => kept (d.r F.CORE_VSTAT_TARGET - (d.r F.CORE_VSET_DOWN + 1)) d) ∧
   Does .throttleTick (fun d => d.r F.CORE_VSET_AUTO = 1 ∧ aclkRuns d = true ∧ demandNow d = false ∧ d.co.waiting = false)
     (aims fun d => kept (d.r F.CORE_VSTAT_TARGET) d) ∧
   Runs .throttleTick (fun d => d.r F.CORE_VSET_AUTO = 0 ∨ aclkRuns d = false) (fun d => d) ∧
   Does .demandChange (fun d => d.r F.CORE_VSET_AUTO = 1 ∧ demandNow d = true) (aims vMax) ∧
   Does .demandChange (fun d => d.r F.CORE_VSET_AUTO = 1 ∧ demandNow d = false) (aims fun d => kept (d.r F.CORE_VSTAT_TARGET) d) ∧
   Does .demandChange (fun d => d.r F.CORE_VSET_AUTO = 0) (aims fun d => min (d.r F.CORE_VSET_VSET) 55)) ∧
  (∀ v : Word, v.getLsbD 31 = false → Does (.coreVsetWrite v) (fun d => d.asleep = false) (fun d t =>
    (∀ f ∈ fldsAt 0xE0000020, t.r f = bitsAt v.toNat f.lo f.width) ∧ t.r F.CORE_VSTAT_TARGET = min (v.toNat % 64) 55 ∧
      (t.co.vwait = true ↔ t.r F.CORE_VSTAT_SETTLED = 0) ∧ t.co = { d.co with vwait := t.co.vwait } ∧ t.mem = d.mem)) ∧
  (∀ v : Word, Does (.coreVsetWrite v) (fun _ => True) (fun d t =>
    (∀ f ∈ fldsAt 0xE0000020, t.r f = bitsAt v.toNat f.lo f.width) ∧ t = { d with regs := t.regs, co := { d.co with vwait := t.co.vwait } }) ∧
    Does (.coreVsetWrite v) (fun d => d.asleep = true) (fun d t => SameRegs (fldsAt 0xE0000020) d t ∧ t.co = d.co)) ∧
  Runs .vcaSettled (fun _ => True) (fun d => (d.set F.CORE_VSTAT_SETTLED).onCo fun k => { k with vwait := false, vcaAt := d.r F.CORE_VSTAT_TARGET }) ∧
  Runs .icInvalidate (fun _ => True) (fun d => (d.set F.IC_CTL_INV).onCo fun k => { k with cache := [], used := [], line := none }) ∧
  Runs .cacheInvalidationDone (fun _ => True) (fun d => d.clr F.IC_CTL_INV) ∧
  Runs .icStatClear (fun _ => True) (fun d => (d.w F.IC_STAT_MISS 0).w F.IC_STAT_HIT 0)

/-- A write of a plain register gives every field of it what its access code says, RW the bits written, W1C the bits that a 1 clears, RO nothing, and
touches no other field and no other state. A word that names no register changes nothing. CK_CFG after START and the guard regions that START set,
after GUARD_LOCK, keep their values: the tag's SYS_LOCKV bit is set, and SYS_LOCKA takes the address where no tag bit was set, else MULTI is set.
0x5EB0 in SYS_RST is the soft reset, any other value nothing. A write of a command register is the command it names. [R11; R12; R65; R159; R179; R183;
R184; R96; R120] -/
def Obligations.RegisterWrites : Prop :=
  (∀ (a : Nat) (v : Word), a ∈ [0x40000014, 0x40000018, 0x4000001C, 0x40000028, 0x40001044, 0x40001010, 0x4000C004, 0x4000C01C, 0x4000C020, 0x4000D004,
      0x400180C8, 0x40019804, 0xE0000010] →
    Does (.registerWrite (BitVec.ofNat 32 a) v) (fun _ => True) (fun d t =>
      (∀ f ∈ fldsAt a, t.r f = match f.acc with
        | .rw | .lk | .wo => bitsAt v.toNat f.lo f.width
        | .w1c => d.r f &&& (2 ^ f.width - 1 - bitsAt v.toNat f.lo f.width)
        | .ro | .w1s => d.r f) ∧
      SameRegs (fldsAt a) d t ∧ t = { d with regs := t.regs })) ∧
  (∀ a v : Word, (a.toNat / 0x1000 = 0x40000 ∨ a.toNat / 0x1000 = 0x40004) → fldsAt a.toNat = [] → Runs (.registerWrite a v) (fun _ => True) (fun d => d)) ∧
  (∀ a v : Word, 0x40021000 ≤ a.toNat → a.toNat < 0xE0000000 → Runs (.registerWrite a v) (fun _ => True) (fun d => d)) ∧
  (∀ (a v : Word) (g : Nat),
    (a = 0x40000000 ∧ g = Tag.ck) ∨ (0xE0000200 ≤ a.toNat ∧ a.toNat < 0xE0000240 ∧ g = Tag.co) →
    Does (.registerWrite a v) (fun d => if g = Tag.ck then d.bt.cfgLocked = true else d.r F.GUARD_LOCK_LOCK = 1) (fun d t =>
      bitAt (t.r F.SYS_LOCKV_TAG) g = true ∧
      (d.r F.SYS_LOCKV_TAG = 0 → t.r F.SYS_LOCKA_ADDR = a.toNat ∧ t.r F.SYS_LOCKV_MULTI = d.r F.SYS_LOCKV_MULTI) ∧
      (d.r F.SYS_LOCKV_TAG ≠ 0 → t.r F.SYS_LOCKA_ADDR = d.r F.SYS_LOCKA_ADDR ∧ t.r F.SYS_LOCKV_MULTI = 1) ∧
      SameRegs [F.SYS_LOCKV_TAG, F.SYS_LOCKV_MULTI, F.SYS_LOCKA_ADDR] d t ∧
      t = { d with regs := t.regs, st := { d.st with rose := t.st.rose } })) ∧
  (∀ (s : State) (v : Word),
    (v.toNat % 65536 = 0x5EB0 → exec (.registerWrite 0x40001060 v) s = exec (.softReset false 0) s) ∧
    (v.toNat % 65536 ≠ 0x5EB0 → exec (.registerWrite 0x40001060 v) s = .next s) ∧
    (v.toNat % 16 = 9 → exec (.registerWrite 0x40002000 v) s = exec (.otCmdSense false) s) ∧
    (v.toNat % 16 = 6 → exec (.registerWrite 0x40003000 v) s = exec .kyClear s) ∧
    (v.toNat % 2 = 1 → exec (.registerWrite 0x40000008 v) s = exec (.ckRootSelWrite true) s) ∧
    exec (.registerWrite 0xE0000020 v) s = exec (.coreVsetWrite v) s ∧ exec (.registerWrite 0x40008008 v) s = exec (.cqPush v) s ∧
    exec (.registerWrite 0x4000E018 v) s = exec (.grPteWrite v) s ∧ exec (.registerWrite 0x4000E028 v) s = exec .grCntClear s)

/-- Through the window a read of a plot's word gives the word stored, and a write stores it and nothing else, only while GR_CTL.CPUWIN is set, the
plot is unpinned and the Drill does not use it; otherwise a read gives 0, a write changes nothing, and the access completes all the same. A load or a
store of the core does the same. What a plot that is not RESIDENT holds is not defined: a read of one gives a free value (log entry 102). [R19] -/
def Obligations.PatternWindow : Prop :=
  ∀ (o : BitVec 19) (v : Word),
    let a : Nat := 0x30000000 + o.toNat / 4 * 4
    let reach (d : Dev) : Prop := d.r F.GR_CTL_CPUWIN ≠ 0 ∧ (d.pl (o.toNat / 1024)).pin = false ∧ useOf d (o.toNat / 1024) = false
    let filled (d : Dev) : Prop := (d.pl (o.toNat / 1024)).st = .resident
    Runs (.patternWindowAccess false o v) (fun d => reach d ∧ filled d) (fun d => { d with rd := d.load 4 a }) ∧
    Does (.patternWindowAccess false o v) (fun d => reach d ∧ ¬ filled d) (fun d t => t.rd < 2 ^ 32 ∧ t = { d with rd := t.rd, draws := t.draws }) ∧
    Runs (.patternWindowAccess false o v) (fun d => ¬ reach d) (fun d => { d with rd := 0 }) ∧
    Runs (.patternWindowAccess true o v) reach (fun d => d.store 4 a v.toNat) ∧
    Runs (.patternWindowAccess true o v) (fun d => ¬ reach d) (fun d => d) ∧
    Does (.patternWindowAccess true o v) reach (fun d t => t.load 4 a = v.toNat ∧ SameBytes a 4 d t) ∧
    (∀ d : Dev, reach d → (filled d → (busRead a d).rd = d.load 4 a) ∧ busWrite a v.toNat d = d.store 4 a v.toNat) ∧
    (∀ d : Dev, ¬ reach d → (busRead a d).rd = 0 ∧ busWrite a v.toNat d = d)

/-- A pop takes the oldest visible word and its tag; with none visible it waits Qn_TMO µs, or at Qn_TMO 0 returns 0 at once with TMO; a pop whose time
ended in an earlier FCLK cycle returns 0 with TMO to its load. A pop that finds the queue full comes before the push of its FCLK cycle, so no word is
lost; FLUSH comes before a pop of its cycle. FLUSH empties a queue, DROP its current packet, a write of Qn_LOST its counts. A free write side goes to
the next ready source in cyclic order, whose packet enters one byte in each FCLK cycle; four bytes, or the packet's last, make a word. The UART opens
a packet with its header byte at a line's first character, packs four bytes a word, ends it at CR or LF, drops an LF behind a CR, takes 0x1A for a
character without its stop bit, closes an idle word after IDLE µs and an idle line after LTMO ms with 0x1A, and hears nothing while it is closed; a
word that finds the queue full is lost, counted, and breaks its packet; the packet's later words are lost and counted too. UTX takes the next byte of
the buffer while CTSN is low; UA_TX appends one while there is room. [R189; R190; R191; R193; R194; R195; R197; R198; R199; R204; R206; R220] -/
def Obligations.Queues : Prop :=
  let met (i : Fin 2) (d : Dev) : Option QCycle := (Tab.get? d.qp i.val).bind fun c => if c.cyc = (d.ns + d.ck.phase) / 4 then some c else none
  let calm (i : Fin 2) (d : Dev) : Prop := (d.q i).waits = [] ∧ (d.q i).hold = none
  let past (n t : Nat) (d : Dev) : Prop := (t + d.ck.phase) / n < (d.ns + d.ck.phase) / n
  let apart (i : Fin 2) (d : Dev) : Prop := ∀ c, met i d = some c → c.pop.isSome = true ∨ c.push = none ∨ c.was.words.length < qCap i
  let others (i : Fin 2) (d t : Dev) : Prop := t.q (1 - i) = d.q (1 - i) ∧ t.co = d.co ∧ t.mem = d.mem ∧ t.ua = d.ua
  let empties (i : Fin 2) (d t : Dev) : Prop :=
    t.q i = { d.q i with words := [], half := [], hold := none, openIn := 0, discard := decide ((d.q i).src ≠ 0) } ∧ others i d t
  (∀ i : Fin 2,
    (∀ (w : QWord) (r : List QWord), Does (.queuePop i) (fun d => apart i d ∧ calm i d ∧ (d.q i).words = w :: r ∧ qVisible (d.q i) ≠ 0)
      (fun d t => (t.q i).words = r ∧ (t.q i).lastPop = w.data ∧ t.r (F.Q_TAG_VB i) = w.vb % 4 ∧ t.r (F.Q_TAG_SOP i) = bit w.sop ∧
        t.r (F.Q_TAG_EOP i) = bit w.eop ∧ t.r (F.Q_TAG_BRK i) = bit w.brk ∧ t.r (F.Q_TAG_SRC i) = w.src % 8 ∧ t.r (F.Q_TAG_TMO i) = 0 ∧
        t.r (F.Q_TAG_COIN i) = d.r (F.Q_TAG_COIN i) ∧ others i d t)) ∧
    Does (.queuePop i) (fun d => apart i d ∧ qVisible (d.q i) = 0 ∧ d.r (F.Q_TMO_TMO i) ≠ 0)
      (fun d t => t.q i = { d.q i with waits := (d.q i).waits ++ [⟨none, d.ns + 1000 * d.r (F.Q_TMO_TMO i)⟩] } ∧ others i d t ∧ t.regs = d.regs) ∧
    Does (.queuePop i) (fun d => apart i d ∧ qVisible (d.q i) = 0 ∧ d.r (F.Q_TMO_TMO i) = 0)
      (fun d t => t.r (F.Q_TAG_TMO i) = 1 ∧ t.r (F.Q_TAG_EOP i) = 0 ∧ t.r (F.Q_TAG_COIN i) = d.r (F.Q_TAG_COIN i) ∧
        t.q i = { d.q i with lastPop := 0 } ∧ others i d t) ∧
    (∀ (e : Dev) (w : QWord) (r : List QWord) (b : List Nat), (e.q i).words = w :: r → r.length + 1 = qCap i → (e.q i).src ≠ 0 → (e.q i).seen = true →
      (e.q i).broken = false → (e.q i).discard = false → calm i e → e.r (F.Q_STAT_OVR i) < 2 → e.r (F.Q_LOST_WORDS i) < 2 ^ (F.Q_LOST_WORDS i).width →
      Does (.queuePop i) (fun d => met i d = some { qFresh i e with push := some (b, false) } ∧ (d.q i).src = (e.q i).src)
        (fun d t => (t.q i).words = r ++ [⟨le b, b.length % 4, decide ((e.q i).nDone = 0), false, false, (e.q i).src⟩] ∧ (t.q i).lastPop = w.data ∧
          (t.q i).broken = false ∧ t.r (F.Q_STAT_OVR i) = e.r (F.Q_STAT_OVR i) ∧ t.r (F.Q_LOST_WORDS i) = e.r (F.Q_LOST_WORDS i) ∧ t.mem = d.mem)) ∧
    (∀ (p : QWait) (a r : List QWait),
      Does (.popTimeout i) (fun d => d.awake = true ∧ (d.q i).waits = a ++ p :: r ∧ (∀ x ∈ a, ¬ past 4 x.deadline d) ∧ past 4 p.deadline d)
        (fun d t => t.r (F.Q_TAG_TMO i) = 1 ∧ t.r (F.Q_TAG_EOP i) = 0 ∧ t.q i = { d.q i with lastPop := 0, waits := a ++ r } ∧ t.mem = d.mem ∧
          (p.load = none → t.co = d.co) ∧ (∀ l ∈ t.co.loads, p.load = some l.id → l.res = some 0))) ∧
    Runs (.popTimeout i) (fun d => d.awake = false ∨ ∀ p ∈ (d.q i).waits, ¬ past 4 p.deadline d) (fun d => d) ∧
    Does (.queueFlush i) (fun d => met i d = none) (empties i) ∧
    (∀ (e : Dev) (w : QWord) (r : List QWord), (e.q i).words = w :: r →
      Does (.queueFlush i) (fun d => met i d = some { qFresh i e with pop := some none } ∧ (d.q i).src = (e.q i).src ∧ d.r (F.Q_TMO_TMO i) = 0 ∧
          (∀ p ∈ (e.q i).waits, p.load = none))
        (fun d t => (t.q i).words = [] ∧ (t.q i).hold = none ∧ t.r (F.Q_TAG_TMO i) = 1 ∧ (t.q i).lastPop = 0 ∧ t.mem = d.mem)) ∧
    (∀ (a r : List QWord) (w : QWord), (∀ x ∈ a, x.eop = false) → w.eop = true →
      Does (.queueDrop i) (fun d => met i d = none ∧ calm i d ∧ (d.q i).words = a ++ w :: r)
        (fun d t => (t.q i).words = r ∧ (t.q i).src = (d.q i).src ∧ others i d t)) ∧
    Does (.queueDrop i) (fun d => met i d = none ∧ (d.q i).waits = [] ∧ (∀ w ∈ (d.q i).words, w.eop = false)) (empties i) ∧
    Runs (.qnLostClear i) (fun _ => True) (fun d => ((d.w (F.Q_LOST_EV i) 0).w (F.Q_LOST_PKTS i) 0).w (F.Q_LOST_WORDS i) 0) ∧
    Runs (.writeSideGrant i) (fun d => (d.q i).src ≠ 0 ∨ (d.q i).hold ≠ none) (fun d => d)) ∧
  (∀ (s : Nat) (b : List Nat), 2 ≤ s → s ≤ 8 →
    Runs (.writeSideGrant 1) (fun d => d.q1.src = 0 ∧ d.q1.hold = none ∧ d.q1.staged = [(s, b)])
      (fun d => { d with q1 := { qClose d.q1 with src := s, lastSrc := s, staged := [], left := b } })) ∧
  (∀ (a b : Nat) (x y : List Nat), 2 ≤ a → a ≤ 8 → 2 ≤ b → b ≤ 8 → a ≠ b →
    Runs (.writeSideGrant 1) (fun d => d.q1.src = 0 ∧ d.q1.hold = none ∧ d.q1.lastSrc = a ∧ d.q1.staged = [(a, x), (b, y)])
      (fun d => { d with q1 := { qClose d.q1 with src := b, lastSrc := b, staged := [(a, x)], left := y } })) ∧
  (∀ (d : Dev) (b : Nat) (r : List Nat), d.ck.ladder = .run → (d.ns + 1 + d.ck.phase) % 4 = 0 → d.q0.left = [] → calm 1 d → d.q1.left = b :: r →
    d.q1.discard = false → d.q1.broken = false → d.q1.words.length < 128 → d.q1.half.length < 4 → (r = [] ∨ d.q1.half.length = 3) →
    ∃ t : Dev, step ⟨d, []⟩ = .next ⟨t, []⟩ ∧ t.q1.left = r ∧ t.q1.half = [] ∧ t.q1.src = (if r = [] then 0 else d.q1.src) ∧ t.q1.words = d.q1.words ++
      [⟨le (d.q1.half ++ [b % 256]), (d.q1.half.length + 1) % 4, decide (d.q1.nDone = 0), decide (r = []), false, d.q1.src⟩] ∧ t.q0 = d.q0 ∧ t.mem = d.mem) ∧
  (let typed (c : Nat) (d : Dev) : Uart := { d.ua with
     lastCr := decide (c = 13), lastNs := d.ns, lineEnd := if d.r F.UA_CTL_LTMO = 0 then none else some (d.ns + 1000000 * d.r F.UA_CTL_LTMO) }
   let ontime (d : Dev) : Prop := (∀ e, d.ua.lineEnd = some e → ¬ past 8 e d) ∧ (d.r (F.Q_CTL_IDLE 0) = 0 ∨ ¬ past 4 (d.ua.lastNs + 1000 * d.r (F.Q_CTL_IDLE 0)) d)
   let hears (d : Dev) : Prop := d.r F.UA_CTL_RXEN = 1 ∧ d.ck.host = true ∧ d.ua.wakeDrop = false ∧ d.ua.rx = [] ∧ ontime d
   let inLine (d : Dev) : Prop := calm 0 d ∧ d.q0.src = 1 ∧ d.q0.discard = false
   let ends (c : Nat) (d t : Dev) : Prop := t.q0.words = d.q0.words ++ [⟨le (d.q0.half ++ [c]), (d.q0.half.length + 1) % 4, decide (d.q0.nDone = 0), true,
       d.q0.broken, 1⟩] ∧ t.q0.src = 0 ∧ t.q0.half = [] ∧ t.r (F.Q_STAT_PKT 0) = 1 ∧ t.ua.lineEnd = none ∧ t.q1 = d.q1 ∧ t.co = d.co ∧ t.mem = d.mem
   let lost (d t : Dev) : Prop := t.q0.words = d.q0.words ∧ t.q0.half = [] ∧ t.q0.src = 1 ∧ t.q0.broken = true ∧
     t.r (F.Q_LOST_WORDS 0) = min (d.r (F.Q_LOST_WORDS 0) + 1) (2 ^ (F.Q_LOST_WORDS 0).width - 1) ∧ others 0 d t
   (∀ c : Byte, c ≠ 13 → c ≠ 10 →
     Runs (.uartCharacter c true) (fun d => hears d ∧ d.q0.src = 0 ∧ d.q0.hold = none ∧ d.q0.staged = [])
       (fun d => { d with q0 := { qClose d.q0 with src := 1, lastSrc := 1, half := [0x20, c.toNat] }, ua := typed c.toNat d }) ∧
     Runs (.uartCharacter c true) (fun d => hears d ∧ inLine d ∧ d.q0.half.length < 3)
       (fun d => { d with q0 := { d.q0 with half := d.q0.half ++ [c.toNat] }, ua := typed c.toNat d })) ∧
   (∀ c : Byte,
     Does (.uartCharacter c false) (fun d => hears d ∧ inLine d ∧ d.q0.half.length < 3)
       (fun d t => t.r F.UA_STAT_FE = 1 ∧ t.q0 = { d.q0 with half := d.q0.half ++ [0x1A] } ∧ t.ua = typed 0x1A d ∧ t.mem = d.mem) ∧
     (∀ ok : Bool, Runs (.uartCharacter c ok) (fun d => d.ua.wakeDrop = false ∧ (d.r F.UA_CTL_RXEN = 0 ∨ d.ck.host = false)) (fun d => d) ∧
       Runs (.uartCharacter c ok) (fun d => d.ua.wakeDrop = true) (fun d => { d with ua := { d.ua with wakeDrop := false } }))) ∧
   Does (.uartCharacter 13 true) (fun d => hears d ∧ inLine d ∧ d.q0.half.length < 4 ∧ d.q0.words.length < 256)
     (fun d t => ends 13 d t ∧ t.ua.lastCr = true) ∧
   Runs (.uartCharacter 10 true) (fun d => hears d ∧ d.ua.lastCr = true) (fun d => { d with ua := { d.ua with lastCr := false } }) ∧
   (let idles (d : Dev) : Prop := inLine d ∧ d.q0.half ≠ [] ∧ d.r (F.Q_CTL_IDLE 0) ≠ 0 ∧ past 4 (d.ua.lastNs + 1000 * d.r (F.Q_CTL_IDLE 0)) d
    Does .idleClose (fun d => idles d ∧ d.q0.broken = false ∧ d.q0.words.length < 256) (fun d t =>
      t.q0.words = d.q0.words ++ [⟨le d.q0.half, d.q0.half.length % 4, decide (d.q0.nDone = 0), false, false, 1⟩] ∧ t.q0.half = [] ∧ t.q0.src = 1 ∧
        others 0 d t) ∧
    Does .idleClose (fun d => idles d ∧ d.q0.broken = false ∧ d.q0.words.length = 256) (fun d t => lost d t ∧ t.r (F.Q_STAT_OVR 0) = 1 ∧
      t.r (F.Q_LOST_PKTS 0) = min (d.r (F.Q_LOST_PKTS 0) + 1) (2 ^ (F.Q_LOST_PKTS 0).width - 1)) ∧
    Does .idleClose (fun d => idles d ∧ d.q0.broken = true ∧ d.q0.words.length < 256) (fun d t => lost d t ∧
      t.r (F.Q_STAT_OVR 0) = d.r (F.Q_STAT_OVR 0) ∧ t.r (F.Q_LOST_PKTS 0) = d.r (F.Q_LOST_PKTS 0)) ∧
    Runs .idleClose (fun d => d.r (F.Q_CTL_IDLE 0) = 0 ∨ ¬ past 4 (d.ua.lastNs + 1000 * d.r (F.Q_CTL_IDLE 0)) d) (fun d => d)) ∧
   (∀ e : Nat,
     Does .lineTimeout (fun d => inLine d ∧ d.ua.rx = [] ∧ d.ua.lineEnd = some e ∧ past 8 e d ∧ d.q0.half.length < 4 ∧ d.q0.words.length < 256) (ends 0x1A) ∧
     Runs .lineTimeout (fun d => d.ua.lineEnd = some e ∧ ¬ past 8 e d) (fun d => d))) ∧
  (let noLine (d : Dev) : Prop := d.r F.SYS_BOOT_LSTATE = 4 ∨ (d.st.out = [] ∧ d.st.store = [])
   let nearer (w : Option (Ctx × Long)) : Option (Ctx × Long) := match w with | some (c, .leave x n) => some (c, .leave x (n - 1)) | w => w
   Runs (.uartTransmit true) noLine (fun d => d.w F.UA_STAT_CTS 0) ∧
   (∀ (c : Nat) (r : List Nat),
     Runs (.uartTransmit false) (fun d => noLine d ∧ d.awake = true ∧ d.ck.silent = false ∧ d.r F.UA_CTL_TXEN = 1 ∧ d.ua.tx = c :: r)
       (fun d => { d.w F.UA_STAT_CTS 1 with ua := { d.ua with tx := r, utx := c }, st := { d.st with wait := nearer d.st.wait } }) ∧
     Runs (.uartTransmit false) (fun d => noLine d ∧ (d.awake = false ∨ d.ck.silent = true ∨ d.r F.UA_CTL_TXEN = 0)) (fun d => d.w F.UA_STAT_CTS 1)) ∧
   (∀ (m : Nat) (line : List Nat),
     Runs (.uartTransmit true) (fun d => d.r F.SYS_BOOT_LSTATE ≠ 4 ∧ d.st.out = [(1, m, line)] ∧ d.st.store = [] ∧ d.ck.silent = false ∧
         d.ua.tx.length + line.length ≤ 2048)
       (fun d => { d.w F.UA_STAT_CTS 0 with ua := { d.ua with tx := d.ua.tx ++ line }, st := { d.st with out := [] } }))) ∧
  (∀ b : Byte,
    Runs (.uaTxWrite b) (fun d => d.ua.tx.length < 2048) (fun d => { d with ua := { d.ua with tx := d.ua.tx ++ [b.toNat] } }) ∧
    Runs (.uaTxWrite b) (fun d => 2048 ≤ d.ua.tx.length) (fun d => d))

/-- A monitor slave frame that carries a line is that line; one that carries a sound record chunk at the present offset adds the chunk to the load and
answers OK under its own tag, and one whose CRC fails answers 070. A registered verb's line makes its path the event path and waits for the image; in
quarantine it answers 073. A tunnelled line whose wait is over with no final line answers 076: at once where the interpreter runs of its own, in the
image's next LINE call after START. LEDGER SHOW answers the last selection; SAVE starts a commit to the slot that does not stand, with SEQ one more,
erases first and the header last; LOAD reads both slots and waits. A commit step asks the port for its next erase, program or read-back; a bad
transfer ends it in 089, and a read-back that is sound makes the slot stand. [R83; R84; R224; R227; R248; R423; R427; R430; R434; R435] -/
def Obligations.FramesTunnelsAndLedger : Prop :=
  (∀ (text : Bytes), (Bytes.nats text).all charOk = true → text.length ≤ 230 →
    let via : Via := ⟨1, none, 0⟩
    let may (d : Dev) : Prop := LineReady via d ∧ started d = false ∧ bootPath d = 2 ∧ d.st.machS = false
    (∀ p ∈ [("HELLO", Instr.hello via text), ("IDENT", .ident via text), ("STATUS", .status via text)],
      ∀ (line : Bytes) (s : State), Bytes.nats line = ascii p.1 ++ 32 :: Bytes.nats text → may s.dev → exec (.slaveLineFrame line) s = exec p.2 s) ∧
    (∀ line : Bytes, Bytes.nats line = ascii "HELLO" ++ 32 :: Bytes.nats text →
      Runs (.slaveLineFrame line) (fun d => may d ∧ d.r F.SYS_BOOT_LSTATE < 4 ∧ lineArgs "HELLO" "HELLO" text = some ⟨[], []⟩)
        (answers via fun c d => okWith [dataLine [ascii "fd4806", kv "step" (ascii "0x43"), kv "mon" (hexN 4 Config.monVersion.toNat),
          kv "img" (ascii "none")]] c d))) ∧
  (∀ (tag n : Nat) (chunk : List Nat) (frame : Bytes), 0 < n → n < 256 → chunk.length = n → (∀ b ∈ chunk, b < 256) → tag < 65536 →
    let head : List Nat := leBytes 2 tag ++ leBytes 3 0 ++ leBytes 2 n ++ chunk
    let free (d : Dev) : Prop := monitorUp d = true ∧ d.r F.SYS_BOOT_LSTATE < 4 ∧ bootPath d = 2 ∧ responding d = false ∧ monitorLife d ≠ 3 ∧
      d.st.machS = false ∧ d.st.out = [] ∧ d.st.store = [] ∧ d.sp.tx = []
    (Bytes.nats frame = head ++ leBytes 4 (crc32 (0x4C :: head)) → Does (.slaveRecordFrame frame)
      (fun d => free d ∧ d.r F.SYS_BLEN_N = 0 ∧ d.bt.header = [])
      (fun d t => t.bt = { d.bt with header := chunk } ∧ t.r F.SYS_BLEN_N = n ∧ t.r F.SYS_BOOT_LSTATE = 1 ∧
        t.sp.tx = 35 :: hexDigits 4 tag ++ ascii " OK" ++ crlf ∧ t.mem = d.mem ∧ t.co = d.co)) ∧
    (∀ bad, bad < 2 ^ 32 → bad ≠ crc32 (0x4C :: head) → Bytes.nats frame = head ++ leBytes 4 bad → Does (.slaveRecordFrame frame) free
      (fun d t => t.bt = d.bt ∧ t.r F.SYS_BOOTERR_CODE = 70 ∧ t.sp.tx = 35 :: hexDigits 4 tag ++ ascii " ER 070 CHUNK" ++ crlf ∧ t.mem = d.mem))) ∧
  (∀ (via : Via) (i : Fin 16) (text : Bytes) (n : List Nat) (ts : List (List Nat)) (x : List (List Nat) × List (List Nat × List Nat)),
    tokens (n ++ 32 :: Bytes.nats text) = some (n :: ts) → splitArgs ts = some x → n.contains 61 = false →
    let may (d : Dev) : Prop := LineReady via d ∧ d.st.names[i.val]? = some n ∧ resolve d n = .ok (.registered i)
    Runs (.registeredVerb via i text) (fun d => may d ∧ started d = true) (fun d => d.onSt fun s =>
      { s with evPath := (Via.ctx via).path, evMember := (Via.ctx via).member, opened := some (i.val, Via.ctx via) }) ∧
    Runs (.registeredVerb via i text) (fun d => may d ∧ d.r F.SYS_BOOT_LSTATE = 5) (fun d => er 73 (Via.ctx via) d)) ∧
  (∀ (w : Tunnel) (x : Nat),
    let ended (d : Dev) : Prop := d.st.tun = some w ∧ w.stop = some x ∧ (x + d.ck.aphase) / 1000 < (d.ns + d.ck.aphase) / 1000 ∧ w.came = false
    Does .tunnelTimeout (fun d => ended d ∧ d.r F.SYS_BOOT_LSTATE ≠ 4 ∧ w.ctx.path = 1 ∧ w.ctx.frame = false ∧
        d.st.machU = false ∧ d.st.out = [] ∧ d.st.store = [] ∧ d.ua.tx = [] ∧ d.ck.silent = false)
      (fun d t => t.st = { d.st with tun := none } ∧ t.ua = { d.ua with tx := ascii "ER 076 TUNNEL" ++ crlf ++ ascii "FD> " } ∧ t.q0 = d.q0 ∧ t.mem = d.mem) ∧
    Runs .tunnelTimeout (fun d => ended d ∧ d.r F.SYS_BOOT_LSTATE = 4) (fun d => d.onSt fun s => { s with tun := some { w with dead := true } }) ∧
    Runs .tunnelTimeout (fun d => d.st.tun = some w ∧ w.dead = false ∧ (∀ y, w.stop = some y → (d.ns + d.ck.aphase) / 1000 ≤ (y + d.ck.aphase) / 1000))
      (fun d => d)) ∧
  (∀ (via : Via) (text slotA slotB : Bytes),
    let may (verb : String) (d : Dev) : Prop := LineReady via d ∧ started d = true ∧ lineArgs ("LEDGER " ++ verb) "LEDGER" text = some ⟨[ascii verb], []⟩
    let valid (d : Dev) : List Nat := match d.lg.validA, d.lg.validB with
      | true, true => ascii "a,b" | true, false => ascii "a" | false, true => ascii "b" | false, false => ascii "none"
    let free (d : Dev) : Prop := d.lg.commit = none ∧ d.r (F.SP_ID_PRESENT 0) ≠ 0
    let other (d : Dev) : Nat := if d.lg.standing = some 0 then 1 else 0
    Runs (.ledgerShow via text) (fun d => may "SHOW" d ∧ d.r F.SYS_BOOT_LSTATE ≠ 5) (answers via fun c d => okWith [dataLine [ascii "ledger",
      kv "slot" (match d.lg.sel with | some 0 => ascii "a" | some _ => ascii "b" | none => ascii "none"), kn "seq" d.lg.selSeq, kn "len" d.lg.selLen,
      kv "valid" (valid d)]] c d) ∧
    Runs (.ledgerSave via text) (fun d => may "SAVE" d ∧ d.r F.SYS_BOOT_LSTATE ≠ 5 ∧ free d ∧ (saveBody d).length ≤ 65504) (answers via fun c d =>
      { d with lg := { d.lg with commit := some ⟨other d, if d.lg.standing = none then 1 else (d.lg.seq + 1) % 2 ^ 32, saveBody d,
                                                 commitOps (slotBase d (other d)) (saveBody d).length, false, false⟩ },
               st := { d.st with wait := some (c, .save) } }) ∧
    Runs (.ledgerSave via text) (fun d => may "SAVE" d ∧ d.r F.SYS_BOOT_LSTATE ≠ 5 ∧ free d ∧ 65504 < (saveBody d).length) (answers via (er 89)) ∧
    Runs (.ledgerSave via text) (fun d => may "SAVE" d ∧ d.r F.SYS_BOOT_LSTATE ≠ 5 ∧ d.lg.commit ≠ none) (answers via (er 20)) ∧
    Runs (.ledgerSave via text) (fun d => may "SAVE" d ∧ d.r F.SYS_BOOT_LSTATE ≠ 5 ∧ d.lg.commit = none ∧ d.r (F.SP_ID_PRESENT 0) = 0) (answers via (er 88)) ∧
    Does (.ledgerLoad via text slotA slotB) (fun d => may "LOAD" d ∧ d.r F.SYS_BOOT_LSTATE ≠ 5 ∧ free d ∧ d.sp.held = none ∧ d.sp.cq = [] ∧ d.sp.feed = [])
      (fun d t => t.lg = { d.lg with read := some ⟨false, Bytes.nats slotA, Bytes.nats slotB⟩ } ∧
        t.st = { d.st with evPath := (Via.ctx via).path, evMember := (Via.ctx via).member, wait := some (Via.ctx via, .load) } ∧
        t.sp.cq ++ t.sp.feed = slotReads d 0 (Bytes.nats slotA) ++ slotReads d 1 (Bytes.nats slotB) ∧ t.mem = d.mem ∧ t.regs = d.regs) ∧
    Runs (.ledgerLoad via text slotA slotB) (fun d => may "LOAD" d ∧ d.r F.SYS_BOOT_LSTATE ≠ 5 ∧ d.lg.commit ≠ none) (answers via (er 20)) ∧
    Runs (.ledgerLoad via text slotA slotB) (fun d => may "LOAD" d ∧ d.r F.SYS_BOOT_LSTATE ≠ 5 ∧ d.lg.commit = none ∧ d.r (F.SP_ID_PRESENT 0) = 0)
      (answers via (er 88))) ∧
  (∀ (good : Bool) (back : Bytes) (c : Commit),
    let mayStep (d : Dev) : Prop := d.lg.commit = some c ∧ c.wto = false ∧ inWait d 0 = false ∧ ownPending d = false ∧ d.awake = true
    let whole : List Nat := slotHeader c.seq c.body ++ c.body
    let queue (d : Dev) : Prop := d.sp.held = none ∧ d.sp.cq = [] ∧ d.sp.feed = []
    (∀ (x : Nat × Nat × Nat) (r : List (Nat × Nat × Nat)), c.ops = x :: r → Does (.ledgerCommitStep true back) (fun d => mayStep d ∧ queue d)
      (fun d t => t.lg = { d.lg with commit := some { c with ops := r } } ∧ t.st = d.st ∧ t.mem = d.mem ∧ t.regs = d.regs ∧ t.sp.feed = [] ∧ t.sp.cq =
        [⟨ownCtrl d 0x06 false 0 false, 0, 0, some 0⟩,
         ⟨ownCtrl d x.1 true (if x.2.2 = 0 then 0 else 2) true, x.2.1, le ((whole.drop (x.2.1 % 65536)).take x.2.2), some x.2.2⟩])) ∧
    (c.ops = [] → c.back = false → Does (.ledgerCommitStep true back) (fun d => mayStep d ∧ queue d)
      (fun d t => t.lg = { d.lg with commit := some { c with back := true } } ∧ t.st = d.st ∧ t.mem = d.mem ∧ t.regs = d.regs ∧
        t.sp.cq ++ t.sp.feed = readRuns d (slotBase d c.slot) whole.length)) ∧
    (c.ops = [] → c.back = true → (Bytes.nats back).take whole.length = whole → slotCheck (Bytes.nats back) = .valid →
      Does (.ledgerCommitStep true back) (fun d => mayStep d ∧ d.r F.SYS_BOOT_LSTATE = 4)
        (fun d t => t.lg = { d.lg with commit := none, standing := some c.slot, seq := c.seq } ∧ t.mem = d.mem ∧
          (d.st.wait.isSome = true → t.st.answer = some ([], 0)))) ∧
    Does (.ledgerCommitStep false back) mayStep (fun _ t => t.lg.commit = none) ∧
    Does (.ledgerCommitStep good back) (fun d => d.lg.commit = some c ∧ c.wto = true ∧ d.awake = true) (fun _ t => t.lg.commit = none) ∧
    Runs (.ledgerCommitStep good back) (fun d => d.lg.commit = some c ∧ c.wto = false ∧ (inWait d 0 = true ∨ ownPending d = true)) (fun d => d) ∧
    Runs (.ledgerCommitStep good back) (fun d => d.lg.commit = none) (fun d => d))

/-- A CALLM that is due with no busy register of the frame and no posted store writes lk and CO_CALLN, runs its service and returns behind itself with
IE and w8 to sp as they were. INFO gives the monitor's version and SYS_BOOT; TAMPER TP_STAT and TP_LIVE; KEYGO starts a key command, or answers 5,
0x10 or 0x11; KEYEND copies KY_BUF out and gives the error; VERB registers a name; REPLY sends the image's line; EVENT sends or holds an event line;
LINE takes a line, or says that nothing waits; 8 to 255 give 0xFFFFFFFF. A register from w2 to w7 that a service does not define is a free value (log
entry 17). Before START a LINE turn is the monitor's own. [R160; R121; R223; R224; R250; Table CO-9; Table SL-5] -/
def Obligations.Services : Prop :=
  let may (d : Dev) : Prop := Due [1, 2, 3, 4, 5, 6, 7, 15] d ∧ d.co.wb = []
  let back (n : Nat) (d t : Dev) : Prop := t.co.pc = (d.co.pc + 4) % 2 ^ 32 ∧ t.wr 15 = BitVec.ofNat 32 (d.co.pc + 4) ∧ t.r F.CO_CALLN_N = n ∧
    t.r F.CO_CALLN_IE0 = bit d.co.ie ∧ t.co.ie = d.co.ie ∧ t.co.level = d.co.level ∧ t.co.n = d.co.n ∧ t.co.z = d.co.z ∧ t.co.c = d.co.c ∧
    t.co.v = d.co.v ∧ (∀ r, 8 ≤ r → r < 15 → t.wr r = d.wr r)
  let quiet (n : Nat) (d t : Dev) : Prop := back n d t ∧ t.mem = d.mem ∧ SameRegs [F.CO_CALLN_N, F.CO_CALLN_IE0, F.IC_STAT_HIT] d t
  let gives (n v : Nat) (d t : Dev) : Prop := quiet n d t ∧ t.wr 1 = BitVec.ofNat 32 v ∧ t.st = d.st ∧ t.ky = d.ky
  let idle (d : Dev) : Prop := started d = true ∧ d.lg.loaded = true ∧ d.st.out = [] ∧ d.st.rose = [] ∧ d.st.opened = none ∧ d.st.tun = none ∧
    d.st.store = [] ∧ d.ck.silent = false
  Does .callmInfo may (fun d t => gives 0 Config.monVersion.toNat d t ∧ t.wr 2 = BitVec.ofNat 32 (plainRead d 0x40001048)) ∧
  Does .callmTamper may (fun d t => gives 3 (plainRead d 0x40004000) d t ∧ t.wr 2 = BitVec.ofNat 32 (plainRead d 0x40004004)) ∧
  (∀ n : Fin 248, Does (.callmUnused n) may (gives (8 + n) 0xFFFFFFFF)) ∧
  Does .callmKeygo (fun d => may d ∧ (d.wr 1).toNat % 16 < 12 ∧ d.r F.KY_STAT_BUSY = 0 ∧ d.wr 2 = 0 ∧ blockOk d .r (d.wr 3).toNat (d.wr 4).toNat = true)
    (fun d t => back 1 d t ∧ t.wr 1 = 0 ∧ t.r F.KY_STAT_BUSY = 1 ∧ t.r F.KY_CMD_CODE = (d.wr 1).toNat % 16 ∧
      t.r F.KY_ARG_CONFIRM = (d.wr 5).toNat ∧ t.mem = d.mem ∧ t.st.out = d.st.out) ∧
  Does .callmKeygo (fun d => may d ∧ 12 ≤ (d.wr 1).toNat % 16) (gives 1 5) ∧
  Does .callmKeygo (fun d => may d ∧ (d.wr 1).toNat % 16 < 12 ∧ d.r F.KY_STAT_BUSY ≠ 0) (gives 1 0x10) ∧
  Does .callmKeygo (fun d => may d ∧ (d.wr 1).toNat % 16 < 12 ∧ d.r F.KY_STAT_BUSY = 0 ∧ blockOk d .r (d.wr 3).toNat (d.wr 4).toNat = false) (gives 1 0x11) ∧
  Does .callmKeyend (fun d => may d ∧ d.r F.KY_STAT_BUSY = 0 ∧ blockOk d .w (d.wr 2).toNat (d.wr 3).toNat = true)
    (fun d t => back 2 d t ∧ t.wr 1 = BitVec.ofNat 32 (d.r F.KY_STAT_ERR) ∧ t.wr 2 = BitVec.ofNat 32 (bitsAt (plainRead d 0x40003004) 8 9) ∧
      (∀ i, i < (d.wr 3).toNat → (t.byte ((d.wr 2).toNat + i)).toNat = (kyBuf d).getD i 0) ∧ SameBytes (d.wr 2).toNat (d.wr 3).toNat d t ∧ t.ky = d.ky) ∧
  Does .callmKeyend (fun d => may d ∧ d.r F.KY_STAT_BUSY ≠ 0) (gives 2 0x10) ∧
  (∀ x : List Nat,
    let named (d : Dev) : Prop := may d ∧ textAt d 13 (d.wr 1).toNat = some x
    Does .callmVerb (fun d => named d ∧ nameForm x = true ∧ (allVerbs d).all (fun v => decide (v.2 ≠ upper x)) = true ∧ d.st.names.length < 32)
      (fun d t => quiet 5 d t ∧ t.wr 1 = BitVec.ofNat 32 d.st.names.length ∧ t.st = { d.st with names := d.st.names ++ [x] }) ∧
    Does .callmVerb (fun d => named d ∧ nameForm x = false) (gives 5 0xFFFFFFFE) ∧
    Does .callmVerb (fun d => named d ∧ nameForm x = true ∧ (allVerbs d).all (fun v => decide (v.2 ≠ upper x)) = true ∧ 32 ≤ d.st.names.length)
      (gives 5 0xFFFFFFFF)) ∧
  Does .callmReply (fun d => may d ∧ d.st.opened = none) (gives 6 1) ∧
  (∀ (i : Nat) (c : Ctx), c.path = 1 → c.frame = false → Does .callmReply (fun d => may d ∧ d.st.opened = some (i, c) ∧ d.wr 2 = 1 ∧ d.st.machU = false ∧
      d.st.wait = none ∧ d.st.tun = none ∧ d.st.out = [] ∧ d.st.store = [] ∧ d.ua.tx = [] ∧ d.ck.silent = false)
    (fun d t => quiet 6 d t ∧ t.wr 1 = 0 ∧ t.st = { d.st with opened := none } ∧ t.ua = { d.ua with tx := ascii "OK" ++ crlf ++ ascii "FD> " })) ∧
  (∀ (x : List Nat) (i : Nat),
    let about (d : Dev) : Prop := may d ∧ textAt d 241 (d.wr 1).toNat = some x ∧
      eventNames.findIdx? (fun n => decide (ascii n = x.takeWhile fun c => !isSep c)) = some i ∧ (eventForm (eventPath d) x d).length ≤ 240
    Does .callmEvent (fun d => about d ∧ eventOn d i = true ∧ responding d = true ∧ d.st.store.length < 16)
      (fun d t => quiet 7 d t ∧ t.wr 1 = 0 ∧ t.st = { d.st with store := d.st.store ++ [x] }) ∧
    Does .callmEvent (fun d => about d ∧ eventOn d i = true ∧ 16 ≤ d.st.store.length)
      (fun d t => back 7 d t ∧ t.wr 1 = 2 ∧ t.st = d.st ∧ t.r F.UA_STAT_EVCNT = min (d.r F.UA_STAT_EVCNT + 1) (2 ^ F.UA_STAT_EVCNT.width - 1) ∧ t.mem = d.mem) ∧
    Does .callmEvent (fun d => about d ∧ eventOn d i = false) (gives 7 0)) ∧
  Does .callmEvent (fun d => may d ∧ textAt d 241 (d.wr 1).toNat = none) (gives 7 3) ∧
  (∀ (win : BitVec 2) (a b : Bytes),
    let up (d : Dev) : Dev := setWindow win.toNat d
    Does (.callmLine win a b) (fun d => may (up d) ∧ blockOk (up d) .w (d.wr 1).toNat 256 = false) (fun d => gives 4 0xFFFFFFFE (up d)) ∧
    Does (.callmLine win a b) (fun d => may (up d) ∧ blockOk (up d) .w (d.wr 1).toNat 256 = true ∧ idle (up d) ∧ d.st.wait = none ∧ d.q0.words = [])
      (fun d => gives 4 0 (up d)) ∧
    (∀ x : Ctx × Long, (∀ y n, x.2 ≠ .leave y n) → (∀ p r, x.2 ≠ .head p r) → x.2 ≠ .ringUp → x.2 ≠ .load → Does (.callmLine win a b)
      (fun d => may (up d) ∧ blockOk (up d) .w (d.wr 1).toNat 256 = true ∧ idle (up d) ∧ d.st.wait = some x ∧ d.st.answer = none)
      (fun d => gives 4 4 (up d))) ∧
    (∀ w : Tunnel, w.dead = true → w.ctx.path = 1 → w.ctx.frame = false → Does (.callmLine win a b)
      (fun d => may (up d) ∧ blockOk (up d) .w (d.wr 1).toNat 256 = true ∧ started (up d) = true ∧ d.lg.loaded = true ∧ d.st.out = [] ∧ d.st.rose = [] ∧
        d.st.opened = none ∧ d.st.store = [] ∧ d.ck.silent = false ∧ d.st.wait = none ∧ d.st.tun = some w ∧ d.st.machU = false ∧ d.ua.tx = [])
      (fun d t => quiet 4 (up d) t ∧ t.wr 1 = 1 ∧ t.st = { d.st with tun := none } ∧
        t.ua = { d.ua with tx := ascii "ER 076 TUNNEL" ++ crlf ++ ascii "FD> " })) ∧
    (let first (d : Dev) : Prop := may (up d) ∧ blockOk (up d) .w (d.wr 1).toNat 256 = true ∧ started (up d) = true ∧ d.lg.loaded = false ∧
       d.st.out = [] ∧ d.st.rose = []
     Does (.callmLine win a b) (fun d => first d ∧ d.lg.read = none ∧ (up d).r (F.SP_ID_PRESENT 0) ≠ 0)
       (fun d t => back 4 (up d) t ∧ t.wr 1 = 4 ∧ t.lg = { d.lg with read := some ⟨true, Bytes.nats a, Bytes.nats b⟩ } ∧ t.mem = d.mem) ∧
     Does (.callmLine win a b) (fun d => first d ∧ d.lg.read.isSome = true ∧ ownPending (up d) = true)
       (fun d t => quiet 4 (up d) t ∧ t.wr 1 = 4 ∧ t.lg = d.lg ∧ t.st = d.st)) ∧
    Runs (.callmLine win a b) (fun d => d.co.image = false ∧ monitorUp (up d) = false) up ∧
    Runs (.callmLine win a b) (fun d => d.co.image = false ∧ monitorUp (up d) = true ∧ started (up d) = false ∧ d.st.out = [] ∧ d.st.rose = [] ∧
      d.st.opened = none ∧ d.st.wait = none ∧ d.st.tun = none ∧ d.st.store = [] ∧ d.q0.words = []) up)

/-- A line of HELLO, IDENT, STATUS, MODE, LOAD, LOAD ABORT, START, POWER or RESET that the interpreter takes on an open path, that fits its form and
is allowed in the present state, makes its path the event path and does what its row says. HELLO, IDENT and STATUS answer OK with their data lines.
MODE answers OK in the old mode and changes its path's. A chunk at the present offset joins the record, header or body, a repeated one is OK, any
other is 069, one that is no base64 070. LOAD ABORT empties the load. START of a complete, sound record decrypts the body into program RAM, programs
the guards, enters the image at its entry point and leaves LSTATE 4; with ADVANCE and a rollback count to raise it first asks for the bead. POWER nap
and fallow request the state and wait, dormant and RESET send OK and wait for it to leave; a refused POWER is 022 with its cause. Before START, LOAD
and START are refused with 072 in RETIRED, and after START with 071. A response on the console of the UART is its lines, each with CR LF, and the
prompt. [R235; R222; R81; R82; R85; R86; R236; R218; R216; Table SL-4] -/
def Obligations.VerbsOfTheMonitor : Prop :=
  (∀ (via : Via) (text : Bytes) (x : List Nat) (win : BitVec 2) (args : List (List Nat × List Nat)),
    let form : Form := ⟨[], [numKey "off" 0 (2 ^ 64) true, ⟨"d", .text, true⟩]⟩
    let a : Args := valsOf form ⟨[], args⟩
    let line (name verb : String) (pos : List (List Nat)) (d : Dev) : Prop := LineReady via d ∧ lineArgs name verb text = some ⟨pos, []⟩
    let may (d : Dev) : Prop := d.r F.SYS_BOOT_LSTATE < 4 ∧ monitorLife d ≠ 3
    let tells (ls : Dev → List (List Nat)) : Dev → Dev := answers via fun c d => okWith (ls d) c d
    let mode (b : Bool) : Dev → Dev := answers via fun c d => (ok c d).onSt fun s =>
      { s with machU := if c.path = 1 then b else s.machU, machS := if c.path = 2 then b else s.machS }
    let leaving (dormant : Bool) : Dev → Dev := answers via fun c d => (ok c d).onSt fun s =>
      { s with wait := some (c, .leave dormant (d.ua.tx.length + (lineForm c (ascii "OK") d).length + 2)) }
    let busyRing (d : Dev) : Prop := d.r F.SR_STAT_MASTER ≠ 0 ∧ d.r F.SR_MEM_MEM ≠ 0
    let sleeps (i : Nat) (d : Dev) : Prop := line "POWER" "POWER" [x] d ∧ d.r F.SYS_BOOT_LSTATE ≠ 5 ∧ isWord (["nap", "fallow", "dormant"].getD i "") x = true
    Runs (.hello via text) (fun d => line "HELLO" "HELLO" [] d ∧ d.r F.SYS_BOOT_LSTATE ≠ 5)
      (tells fun d => [dataLine [ascii "fd4806", kv "step" (ascii "0x43"), kv "mon" (hexN 4 Config.monVersion.toNat),
        kv "img" (if started d = true then hexN 8 (hdr d.bt.header 8 4) else ascii "none")]]) ∧
    Runs (.ident via text) (line "IDENT" "IDENT" []) (tells fun d => [dataLine [
      kv "serial" (hexN 16 (if d.r F.SYS_BOOT_SNSERR ≠ 0 then 0 else shadowOf d 1 * 2 ^ 32 + shadowOf d 0)), kv "step" (ascii "0x43"),
      kv "lc" (nameOf ["blank", "perso", "field", "retired"] (monitorLife d)),
      kv "idk" (if d.r F.SYS_BOOT_SNSERR ≠ 0 then List.replicate 88 65 else b64Encode (idkPublic d))]]) ∧
    Runs (.status via text) (line "STATUS" "STATUS" []) (answers via fun c d0 =>
      let beads := beadsLine d0
      let more := if started beads.2 = true then startedLines beads.2 else ([], beads.2)
      let d := more.2
      okWith ([dataLine [ascii "load", kv "state" (nameOf ["empty", "header", "body", "complete", "started", "quarantine"] (d.r F.SYS_BOOT_LSTATE)),
          kn "n" (d.r F.SYS_BLEN_N), kn "err" (d.r F.SYS_BOOTERR_CODE)],
        dataLine [ascii "reset", kv "cause" (commas (causeNames d)), kn "abfail" (d.r F.SYS_BOOT_ABFAIL)], beads.1,
        dataLine [ascii "tamper", kv "latch" (hexN 2 (tamperBits d)), kn "count" (securityCount d 1), kn "qpend" (d.r F.TP_STAT_QPEND)],
        dataLine [ascii "ladder", kv "last" (nameOf ["none", "hold", "nap", "fallow", "dormant"] (d.r F.CK_LSTAT_LAST)),
          kn "ref" (d.r F.CK_LSTAT_REF), kn "why" (d.r F.CK_LSTAT_WHY)]] ++ more.1) c d) ∧
    Runs (.mode via text) (fun d => line "MODE" "MODE" [x] d ∧ d.r F.SYS_BOOT_LSTATE ≠ 5 ∧ isWord "machine" x = true) (mode true) ∧
    Runs (.mode via text) (fun d => line "MODE" "MODE" [x] d ∧ d.r F.SYS_BOOT_LSTATE ≠ 5 ∧ isWord "console" x = true) (mode false) ∧
    (let loads (d : Dev) : Prop := LineReady via d ∧ lineArgs "LOAD" "LOAD" text = some ⟨[], args⟩ ∧ may d ∧ Fits form ⟨[], args⟩
     let n (d : Dev) : Nat := d.r F.SYS_BLEN_N
     let took (m st : Nat) (d : Dev) : Dev := (d.w F.SYS_BLEN_N m).w F.SYS_BOOT_LSTATE st
     (∀ bs : List Nat, b64Decode (a.bytes "d") = some bs → bs ≠ [] → 4 ≤ (a.bytes "d").length → (a.bytes "d").length ≤ 192 →
       let len (d : Dev) : Nat := hdr d.bt.header 20 4
       let stored (d : Dev) : Prop := a.num "off" + bs.length ≤ n d ∧ recordBytes d (a.num "off") bs.length = bs
       Runs (.load via text) (fun d => loads d ∧ a.num "off" = n d ∧ d.bt.header.length = n d ∧ n d + bs.length < 256)
         (answers via fun c d => ok c (took (n d + bs.length) 1 { d with bt := { d.bt with header := d.bt.header ++ bs } })) ∧
       Runs (.load via text) (fun d => loads d ∧ a.num "off" = n d ∧ 256 ≤ n d ∧ d.bt.header.length = 256 ∧ n d + bs.length ≤ 256 + len d)
         (answers via fun c d => ok c (took (n d + bs.length) (if n d + bs.length < 256 + len d then 2 else 3)
           (d.storeBytes (hdr d.bt.header 16 4 + (n d - 256)) bs))) ∧
       Runs (.load via text) (fun d => loads d ∧ stored d) (answers via ok) ∧
       Runs (.load via text) (fun d => loads d ∧ a.num "off" ≠ n d ∧ ¬stored d) (answers via (er 69))) ∧
     Runs (.load via text) (fun d => loads d ∧ b64Decode (a.bytes "d") = none) (answers via (er 70))) ∧
    Runs (.loadAbort via text) (fun d => line "LOAD ABORT" "LOAD" [ascii "ABORT"] d ∧ may d)
      (answers via fun c d => ok c { (d.w F.SYS_BOOT_LSTATE 0).w F.SYS_BLEN_N 0 with bt := { d.bt with header := [] } }) ∧
    (let up (d : Dev) : Dev := setWindow win.toNat d
     let starts (pos : List (List Nat)) (d : Dev) : Prop := line "START" "START" pos (up d) ∧ may (up d)
     let h (d : Dev) : List Nat := d.bt.header
     let ct (d : Dev) : List Nat := recordBytes (up d) 256 (hdr (h d) 20 4)
     let key (d : Dev) : List Nat := pathKey (up d) imagePath
     let iv (d : Dev) : List Nat := hdrBytes (h d) 28 12
     let sound (d : Dev) : Prop := d.r F.SYS_BOOT_LSTATE = 3 ∧ headerOk (h d) = true ∧
       ecVerify (hdrBytes (h d) 128 64) (sha256 ((h d).take 192 ++ ct d)) (hdrBytes (h d) 192 64) = true ∧
       securityCount (up d) 0 ≤ hdr (h d) 12 2 ∧ gcmTag (key d) (iv d) ((h d).take 28) (ct d) = hdrBytes (h d) 40 16
     Runs (.start via text win) (starts []) (fun d => answers via (doStart false) (up d)) ∧
     Runs (.start via text win) (fun d => starts [x] d ∧ isWord "advance" x = true) (fun d => answers via (doStart true) (up d)) ∧
     Runs (.start via text win) (fun d => starts [] d ∧ d.r F.SYS_BOOT_LSTATE ≠ 3) (fun d => answers via (er 60) (up d)) ∧
     Does (.start via text win) (fun d => starts [] d ∧ sound d) (fun d t => t.r F.SYS_BOOT_LSTATE = 4 ∧ t.r F.SYS_BOOT_ADVANCED = 0 ∧ t.co.image = true ∧
       t.co.pc = hdr (h d) 24 4 ∧ t.wr 1 = BitVec.ofNat 32 (hdr (h d) 8 4) ∧ t.co.wb = [] ∧
       (∀ i, i < hdr (h d) 20 4 → (t.byte (hdr (h d) 16 4 + i)).toNat = (gcmText (key d) (iv d) (ct d)).getD i 0 % 256) ∧ t.r F.GUARD_LOCK_LOCK = 1 ∧
       t.r F.KY_STAT_KFULL = 0 ∧ t.r F.CK_CFG_DEEPEST = bitsAt (hdr (h d) 6 2) 2 2 ∧ t.r F.CK_CFG_UNLKACT = bitsAt (hdr (h d) 6 2) 1 1 ∧
       t.r F.CK_CFG_RINGOK = bitsAt (hdr (h d) 6 2) 0 1 ∧ t.st.wait = none ∧ t.ot.fuses = (up d).ot.fuses) ∧
     Does (.start via text win) (fun d => starts [x] d ∧ isWord "advance" x = true ∧ sound d ∧ monitorLife (up d) ≠ 0 ∧ windowMet (up d) = true ∧
         securityCount (up d) 0 < hdr (h d) 12 2 ∧ d.ot.job = none ∧ d.ot.wait = [] ∧ d.r F.OT_WIN_PEND = 0)
       (fun d t => t.st.wait = some (Via.ctx via, .start) ∧ t.r F.SYS_BOOT_ADVANCED = 1 ∧ t.r F.SYS_BOOT_LSTATE = 3 ∧ t.r F.OT_STAT_BUSY = 1 ∧
         t.ot.job.map (fun j => j.req) = some { owner := .verb, code := 6, ctr := 0 } ∧ t.co = d.co)) ∧
    (∀ i, i < 3 →
      Runs (.power via text) (sleeps i) (answers via (doPower (i + 2))) ∧
      (i < 2 → Does (.power via text) (fun d => sleeps i d ∧ i + 2 ≤ d.r F.CK_CFG_DEEPEST + 1 ∧ armedLadder d = 0 ∧ ¬busyRing d ∧ d.ck.ask = none)
        (fun d t => t.ck = { d.ck with ask := some (i + 2, d.ns + 1000000), woken := false } ∧ t.r F.CK_LADDER_REQ = i + 2 ∧ t.sw.frozen = true ∧
          t.st = { d.st with evPath := (Via.ctx via).path, evMember := (Via.ctx via).member, wait := some (Via.ctx via, .power (i + 2)) } ∧
          SameRegs [F.CK_LADDER_REQ] d t ∧ t.mem = d.mem)) ∧
      Runs (.power via text) (fun d => sleeps i d ∧ d.r F.CK_CFG_DEEPEST + 1 < i + 2) (answers via fun c d => respond c [dataLine [kn "why" 2]] 22 d)) ∧
    Runs (.power via text) (fun d => sleeps 2 d ∧ 3 ≤ d.r F.CK_CFG_DEEPEST ∧ armedLadder d = 0 ∧ ¬busyRing d ∧ d.ck.ask = none) (leaving true) ∧
    Runs (.reset via text) (line "RESET" "RESET" []) (leaving false) ∧
    Runs (.loadAbort via text) (fun d => line "LOAD ABORT" "LOAD" [ascii "ABORT"] d ∧ started d = true) (er 71 (Via.ctx via)) ∧
    Runs (.loadAbort via text) (fun d => line "LOAD ABORT" "LOAD" [ascii "ABORT"] d ∧ d.r F.SYS_BOOT_LSTATE < 4 ∧ monitorLife d = 3) (er 72 (Via.ctx via)) ∧
    Runs (.hello via text) (fun d => pathOpen d (Via.ctx via).path = false) (fun d => d)) ∧
  (∀ (c : Ctx) (ls : List (List Nat)) (e : Nat) (d : Dev),
    let out : List Nat := (ls ++ [if e = 0 then ascii "OK" else ascii "ER " ++ dec3 e ++ 32 :: errName e]).flatMap (· ++ [13, 10]) ++ ascii "FD> "
    c.path = 1 → c.frame = false → d.st.machU = false → d.st.out = [] → d.st.store = [] → d.ck.silent = false → e ≠ 43 → ¬(60 ≤ e ∧ e ≤ 74) →
    d.ua.tx.length + out.length ≤ 2048 → respond c ls e d = { d with ua := { d.ua with tx := d.ua.tx ++ out } })

/-- After START, a line of SET with one parameter of Table SV-5 in its range writes the parameter's field as software would and answers OK, and the
field then holds the value; GET answers with the parameter's line, or all of them; TRACE ON and OFF turn the named event names on and off, all but
TAMPER, and SHOW lists those that are on. [R237; R249; Table SV-5] -/
def Obligations.ParameterAndTraceVerbs : Prop :=
  ∀ (via : Via) (text : Bytes) (x : List Nat) (xs : List (List Nat)) (args : List (List Nat × List Nat)) (p : Param),
    let form : Form := ⟨[], params.map fun p => ⟨p.name, p.kind, false⟩⟩
    let a := valsOf form ⟨[], args⟩
    let line (name verb : String) (t : Toks) (d : Dev) : Prop := LineReady via d ∧ started d = true ∧ lineArgs name verb text = some t
    let shown (d : Dev) (p : Param) : List Nat := dataLine [kv p.name (p.shows (d.r p.fld))]
    (params.find? (fun p => a.has p.name) = some p → a.keys.length = 1 →
      Runs (.set via text) (fun d => line "SET" "SET" ⟨[], args⟩ d ∧ Fits form ⟨[], args⟩)
        (answers via fun c d => ok c (editField p.fld (p.code (a.num p.name)) d)) ∧
      Does (.set via text) (fun d => line "SET" "SET" ⟨[], args⟩ d ∧ Fits form ⟨[], args⟩ ∧ ∀ y ∈ fldsAt p.fld.addr, d.r y < 2 ^ y.width)
        (fun d t => t.r p.fld = p.code (a.num p.name) % 2 ^ p.fld.width ∧ t.st.evPath = (Via.ctx via).path ∧ t.st.wait = none ∧ t.mem = d.mem)) ∧
    (params.find? (fun p => isWord p.name x) = some p → isWord "all" x = false →
      Runs (.get via text) (line "GET" "GET" ⟨[x], []⟩) (answers via fun c d => okWith [shown d p] c d)) ∧
    Runs (.get via text) (fun d => line "GET" "GET" ⟨[x], []⟩ d ∧ isWord "all" x = true) (answers via fun c d => okWith (params.map (shown d)) c d) ∧
    (∀ is, traceNames true xs = some is → Does (.traceOn via text) (line "TRACE ON" "TRACE" ⟨ascii "ON" :: xs, []⟩) (fun d t =>
      (∀ i, i < 12 → eventOn t i = (decide (i = 6) || is.contains i || eventOn d i)) ∧ t.st.evPath = (Via.ctx via).path ∧ t.mem = d.mem ∧ t.co = d.co)) ∧
    (∀ is, traceNames false xs = some is → Does (.traceOff via text) (line "TRACE OFF" "TRACE" ⟨ascii "OFF" :: xs, []⟩) (fun d t =>
      (∀ i, i < 12 → eventOn t i = (decide (i = 6) || (!is.contains i && eventOn d i))) ∧ t.st.evPath = (Via.ctx via).path ∧ t.mem = d.mem ∧ t.co = d.co)) ∧
    (∀ is, traceNames true xs = some is → Runs (.traceOn via text) (line "TRACE ON" "TRACE" ⟨ascii "ON" :: xs, []⟩) (answers via (doTrace true is))) ∧
    (∀ is, traceNames false xs = some is → Runs (.traceOff via text) (line "TRACE OFF" "TRACE" ⟨ascii "OFF" :: xs, []⟩) (answers via (doTrace false is))) ∧
    Runs (.traceShow via text) (line "TRACE SHOW" "TRACE" ⟨[ascii "SHOW"], []⟩)
      (answers via fun c d => okWith [dataLine [kv "on" (commas (((List.range 12).filter fun i => eventOn d i).map fun i =>
        (ascii (eventNames.getD i "")).map lowC))]] c d)

/-- A line of an OTP verb that fits its form, after START (READ before it too), does what its row says: READ answers with the word's value at once;
with the engine idle MARGIN, CHECK and SENSE start their command and wait for its end, and with the window met BURN, REBURN, REVOKE and LOCK start
theirs: its first pulse on the bits not yet burned; with a job under way the request waits behind the others, and a burning verb whose window is not
met answers 040. [R238; R96; R101; Table SV-6] -/
def Obligations.OtpVerbs : Prop :=
  ∀ (via : Via) (text : Bytes) (win : BitVec 2) (args : List (List Nat × List Nat)),
    let up (d : Dev) : Dev := setWindow win.toNat d
    let ready (name obj : String) (f : Form) (d : Dev) : Prop :=
      LineReady via d ∧ started d = true ∧ lineArgs name "OTP" text = some ⟨[ascii obj], args⟩ ∧ Fits f ⟨[], args⟩
    let at' (ks : List Key) : Args := valsOf ⟨[], ks⟩ ⟨[], args⟩
    let w : Form := ⟨[], [wordOrLock]⟩
    let burn : Form := ⟨[], [numKey "word" 0 511 true, numKey "data" 0 0xFFFFFFFF true]⟩
    let re : Form := ⟨[], [numKey "word" 0 511 true]⟩
    let rev : Form := ⟨[], [numKey "slot" 0 2 true]⟩
    let lock : Form := ⟨[], [numKey "wlk" 0 255, numKey "xlk" 0 255]⟩
    let ctr : Form := ⟨[], [wordKey "ctr" ctrNames true]⟩
    let wd : Nat := wordArg (at' w.keys)
    let ct : Nat := (at' ctr.keys).num "ctr"
    let bw : Nat := (at' burn.keys).num "word"
    let bd : Nat := (at' burn.keys).num "data"
    let rw : Nat := (at' re.keys).num "word"
    let sl : Nat := (at' rev.keys).num "slot"
    let lk : Nat := (at' lock.keys).num "wlk" + 256 * (at' lock.keys).num "xlk"
    let locks : Prop := (at' lock.keys).has "wlk" = true ∨ (at' lock.keys).has "xlk" = true
    let idle (d : Dev) : Prop := d.ot.job = none ∧ d.ot.wait = [] ∧ d.r F.OT_WIN_PEND = 0
    let waits (obj arg : Nat) (d t : Dev) : Prop := t.st = { d.st with evPath := (Via.ctx via).path, evMember := (Via.ctx via).member, wait := some (Via.ctx via, .otp obj arg) } ∧
      t.mem = d.mem
    let begun (obj arg : Nat) (j : OtJob) (d t : Dev) : Prop := waits obj arg d t ∧ t.ot = { d.ot with job := some j } ∧ t.r F.OT_STAT_BUSY = 1 ∧
      SameRegs [F.OT_STAT_BUSY] d t
    let queued (obj arg : Nat) (q : OtReq) (d t : Dev) : Prop := waits obj arg d t ∧ t.ot = { d.ot with wait := d.ot.wait ++ [q] } ∧ t.regs = d.regs
    let free (x target : Nat) (d : Dev) : Prop := lifeCycle d ≠ 3 ∧ x / 64 ≠ 3 ∧ wlk d (x / 64) = false ∧ otReserved x = false ∧ otBead x = false ∧
      target &&& otReservedBits x = 0
    let left (x target : Nat) (d : Dev) : Nat := target &&& (0xFFFFFFFF ^^^ margl d x)
    let pulse (q : OtReq) (x target : Nat) (d : Dev) : OtJob := { req := q, cur := some ⟨x, target, left x target d, 0, d.ns⟩, retries := some 0, fail := some 0 }
    let qm : OtReq := { owner := .verb, code := 3, word := wd }
    let qc : OtReq := { owner := .verb, code := 7, ctr := ct }
    let qb : OtReq := { owner := .verb, code := 4, word := bw, data := bd }
    let qr : OtReq := { owner := .verb, code := 5, word := rw }
    let qv : OtReq := { owner := .verb, code := 6, ctr := 11 + sl }
    let ql : OtReq := { owner := .verb, code := 8, data := lk }
    Runs (.otpRead via text) (fun d => LineReady via d ∧ d.r F.SYS_BOOT_LSTATE ≠ 5 ∧ lineArgs "OTP READ" "OTP" text = some ⟨[ascii "READ"], args⟩ ∧
      Fits w ⟨[], args⟩) (answers via fun c d => okWith [dataLine [kv "word" (if wd = 512 then ascii "lock" else dec wd), kv "value" (hexN 8 (shadowRead d wd))]] c d) ∧
    Does (.otpMargin via text) (fun d => ready "OTP MARGIN" "MARGIN" w d ∧ idle d) (fun d t => begun Obj.margin wd
      { req := qm, data := some (if readsZero d (wd / 64) = true then 0 else margh d wd), weak := decide (weakBits d wd ≠ 0) } d t) ∧
    Does (.otpCheck via text) (fun d => ready "OTP CHECK" "CHECK" ctr d ∧ idle d) (fun d t => begun Obj.check ct { req := qc, weak := ctrWeak d ct } d t) ∧
    Does (.otpSense via text) (fun d => ready "OTP SENSE" "SENSE" ⟨[], []⟩ d ∧ args = [] ∧ idle d) (fun d t => waits Obj.sense 0 d t ∧ t.r F.OT_STAT_BUSY = 1 ∧
      t.ot.job = some { req := { owner := .verb, code := 9 } } ∧ t.ot.fuses = d.ot.fuses ∧ ∀ x, margh d x ≠ 0 → weakBits d x = 0 → shadowOf t x = margl d x) ∧
    Does (.otpBurn via text win) (fun d => ready "OTP BURN" "BURN" burn (up d) ∧ windowMet (up d) = true ∧ idle d ∧ free bw bd d ∧ left bw bd d ≠ 0)
      (fun d t => begun Obj.burn bw (pulse qb bw bd d) (up d) t) ∧
    Does (.otpReburn via text win) (fun d => ready "OTP REBURN" "REBURN" re (up d) ∧ windowMet (up d) = true ∧ idle d ∧ free rw (weakBits d rw) d ∧ weakBits d rw ≠ 0)
      (fun d t => begun Obj.reburn rw (pulse qr rw (weakBits d rw) d) (up d) t) ∧
    Does (.otpRevoke via text win) (fun d => ready "OTP REVOKE" "REVOKE" rev (up d) ∧ windowMet (up d) = true ∧ idle d ∧ lifeCycle d ≠ 3 ∧ ctrFull d (11 + sl) = false)
      (fun d t => waits Obj.revoke (11 + sl) (up d) t ∧ t.r F.OT_STAT_BUSY = 1 ∧ (pulseNow t).isSome = true ∧ t.ot.fuses = d.ot.fuses ∧
        t.ot.job.map (fun j => (j.req, j.weak)) = some (qv, ctrWordsWeak d (11 + sl))) ∧
    Does (.otpLock via text win) (fun d => ready "OTP LOCK" "LOCK" lock (up d) ∧ locks ∧ windowMet (up d) = true ∧ idle d ∧ lifeCycle d ≠ 3 ∧ left otLockWord lk d ≠ 0)
      (fun d t => begun Obj.lock 0 (pulse ql otLockWord lk d) (up d) t) ∧
    (∀ j : OtJob,
      Does (.otpMargin via text) (fun d => ready "OTP MARGIN" "MARGIN" w d ∧ d.ot.job = some j) (queued Obj.margin wd qm) ∧
      Does (.otpCheck via text) (fun d => ready "OTP CHECK" "CHECK" ctr d ∧ d.ot.job = some j) (queued Obj.check ct qc) ∧
      Does (.otpSense via text) (fun d => ready "OTP SENSE" "SENSE" ⟨[], []⟩ d ∧ args = [] ∧ d.ot.job = some j) (queued Obj.sense 0 { owner := .verb, code := 9 }) ∧
      (let met (d : Dev) : Prop := windowMet (up d) = true ∧ d.ot.job = some j
       Does (.otpBurn via text win) (fun d => ready "OTP BURN" "BURN" burn (up d) ∧ met d) (fun d => queued Obj.burn bw qb (up d)) ∧
       Does (.otpReburn via text win) (fun d => ready "OTP REBURN" "REBURN" re (up d) ∧ met d) (fun d => queued Obj.reburn rw qr (up d)) ∧
       Does (.otpRevoke via text win) (fun d => ready "OTP REVOKE" "REVOKE" rev (up d) ∧ met d) (fun d => queued Obj.revoke (11 + sl) qv (up d)) ∧
       Does (.otpLock via text win) (fun d => ready "OTP LOCK" "LOCK" lock (up d) ∧ locks ∧ met d) (fun d => queued Obj.lock 0 ql (up d)))) ∧
    Runs (.otpBurn via text win) (fun d => ready "OTP BURN" "BURN" burn (up d) ∧ windowMet (up d) = false) (fun d => answers via (er 40) (up d)) ∧
    Runs (.otpReburn via text win) (fun d => ready "OTP REBURN" "REBURN" re (up d) ∧ windowMet (up d) = false) (fun d => answers via (er 40) (up d)) ∧
    Runs (.otpRevoke via text win) (fun d => ready "OTP REVOKE" "REVOKE" rev (up d) ∧ windowMet (up d) = false) (fun d => answers via (er 40) (up d)) ∧
    Runs (.otpLock via text win) (fun d => ready "OTP LOCK" "LOCK" lock (up d) ∧ locks ∧ windowMet (up d) = false) (fun d => answers via (er 40) (up d))

/-- A line of a KEY verb that fits its form, after START and with no key command under way, loads KY_BUF and KY_ARG with what the verb gives, starts
the command of its row and waits for its end: ATTEST will leave the signed statement for the nonce, ESCROW the escrow record for an authorised key;
INVAL, PERSO, FIELD and RETIRE, in the state they need and with the OTP engine idle, empty KREG, drop the pair and ask the engine for their burn. With
a key command under way each answers 020 and nothing else changes. [R239; R125; R126; R127; R131; Table SV-7] -/
def Obligations.KeyVerbs : Prop :=
  ∀ (via : Via) (text : Bytes) (win : BitVec 2) (args : List (List Nat × List Nat)),
    let up (d : Dev) : Dev := setWindow win.toNat d
    let formed (name obj : String) (f : Form) (d : Dev) : Prop :=
      LineReady via d ∧ started d = true ∧ lineArgs name "KEY" text = some ⟨[ascii obj], args⟩ ∧ Fits f ⟨[], args⟩
    let ready (name obj : String) (f : Form) (d : Dev) : Prop := formed name obj f d ∧ d.r F.KY_STAT_BUSY = 0
    let runs (code arg : Nat) (buf : List Nat) (confirm : Nat) (c : Ctx) (d : Dev) : Dev :=
      byVerb (kyStart code true (kyRun code)) (waitVerb c (.key code arg)
        ((setKyBuf (buf ++ List.replicate (256 - buf.length) 0) d).w F.KY_ARG_CONFIRM confirm))
    let att : Form := ⟨[], [⟨"nonce", .b64 32, true⟩]⟩
    let esc : Form := ⟨[], [⟨"pub", .b64 64, true⟩, wordKey "lc" ["perso", "field"] true]⟩
    let slot : Form := ⟨[], [numKey "slot" 0 7 true]⟩
    let ret : Form := ⟨[], [numKey "confirm" 0 0xFFFFFFFF true]⟩
    let nonce : List Nat := (valsOf att ⟨[], args⟩).bytes "nonce"
    let pub : List Nat := (valsOf esc ⟨[], args⟩).bytes "pub"
    let lc : Nat := lifeCode (1 + (valsOf esc ⟨[], args⟩).num "lc")
    let sl : Nat := (valsOf slot ⟨[], args⟩).num "slot"
    let conf : Nat := (valsOf ret ⟨[], args⟩).num "confirm"
    let begun (code arg : Nat) (d t : Dev) : Prop := t.r F.KY_STAT_BUSY = 1 ∧ t.r F.KY_CMD_CODE = code ∧ t.mem = d.mem ∧
      t.st = { d.st with evPath := (Via.ctx via).path, evMember := (Via.ctx via).member, wait := some (Via.ctx via, .key code arg) }
    let asks (code arg confirm : Nat) (q : OtReq → Prop) (d t : Dev) : Prop := begun code arg (up d) t ∧ t.r F.KY_ARG_CONFIRM = confirm ∧ t.r F.KY_STAT_KFULL = 0 ∧
      t.r F.KY_STAT_PAIR = 0 ∧ t.ky.pair = none ∧ t.ky.kx = d.ky.km ∧ t.ky.job = some { code := code, burns := true, rom := true } ∧
      t.r F.OT_STAT_BUSY = 1 ∧ (∃ j, t.ot.job = some j ∧ j.req.owner = .ky ∧ q j.req) ∧ t.ot.fuses = d.ot.fuses
    let engine (d : Dev) : Prop := d.ot.job = none ∧ d.ot.wait = [] ∧ (d.r F.OT_WIN_PEND = 0 ∨ windowMet (up d) = false)
    Runs (.keyAttest via text) (ready "KEY ATTEST" "ATTEST" att) (answers via (runs 10 0 nonce 0)) ∧
    Does (.keyAttest via text) (ready "KEY ATTEST" "ATTEST" att) (fun d t => begun 10 0 d t ∧ t.ot = d.ot ∧ ∃ n : Nat, t.ky = { d.ky with
      job := some { code := 10, rom := true, buf := some (attestMessage d nonce ++ ecSign (idkScalar d) n (sha256 (attestMessage d nonce))) } }) ∧
    Runs (.keyEscrow via text) (ready "KEY ESCROW" "ESCROW" esc) (answers via (runs 11 0 pub (16 * lc))) ∧
    (∀ q : Nat × Nat, Does (.keyEscrow via text) (fun d => ready "KEY ESCROW" "ESCROW" esc d ∧ ecPoint pub = some q ∧ (signerOf d pub).isSome = true ∧
        (lifeCycle d = 1 ∨ lifeCycle d = 2) ∧ (lc = lifeCode (lifeCycle d) ∨ lc = 0xB2) ∧ d.r F.KY_STAT_TRNGF = 0)
      (fun d t => begun 11 0 d t ∧ t.ot = d.ot ∧ ∃ (e : Nat) (iv ct tag : List Nat), 1 ≤ e ∧ e < pN ∧ iv.length = 12 ∧
        t.ky = { d.ky with job := some { code := 11, rom := true, buf := some (ecPub e ++ iv ++ ct ++ tag) } })) ∧
    Runs (.keyInval via text win) (fun d => ready "KEY INVAL" "INVAL" slot (up d)) (fun d => answers via (runs 12 sl [] sl) (up d)) ∧
    Does (.keyInval via text win) (fun d => ready "KEY INVAL" "INVAL" slot (up d) ∧ engine d) (asks 12 sl sl fun q => q.code = 6 ∧ q.ctr = 2 + sl) ∧
    Runs (.keyPerso via text win) (fun d => ready "KEY PERSO" "PERSO" ⟨[], []⟩ (up d)) (fun d => answers via (runs 13 0 [] 0) (up d)) ∧
    Does (.keyPerso via text win) (fun d => ready "KEY PERSO" "PERSO" ⟨[], []⟩ (up d) ∧ engine d ∧ lifeCycle d = 0 ∧ d.r F.KY_LC_SEEDBAD = 0 ∧
        (∀ i, i < 8 → margh d (192 + i) = 0) ∧ margh d otLockWord &&& 0x808 = 0 ∧ d.r F.KY_STAT_TRNGF = 0)
      (asks 13 0 0 fun q => q.code = 16 ∧ q.seed.length = 8) ∧
    Runs (.keyField via text win) (fun d => ready "KEY FIELD" "FIELD" ⟨[], []⟩ (up d)) (fun d => answers via (runs 14 0 [] 0) (up d)) ∧
    Does (.keyField via text win) (fun d => ready "KEY FIELD" "FIELD" ⟨[], []⟩ (up d) ∧ engine d ∧ lifeCycle d = 1 ∧ margh d otLockWord &&& 3 = 3 ∧
        signerUsable d 0 = true) (asks 14 0 0 fun q => q.code = 6 ∧ q.ctr = 10) ∧
    Runs (.keyRetire via text win) (fun d => ready "KEY RETIRE" "RETIRE" ret (up d)) (fun d => answers via (runs 15 0 [] conf) (up d)) ∧
    Does (.keyRetire via text win) (fun d => ready "KEY RETIRE" "RETIRE" ret (up d) ∧ engine d ∧ lifeCycle d = 2 ∧ conf = shadowOf d 0)
      (asks 15 0 conf fun q => q.code = 17) ∧
    Runs (.keyAttest via text) (fun d => formed "KEY ATTEST" "ATTEST" att d ∧ d.b F.KY_STAT_BUSY = true) (answers via (er 20)) ∧
    Runs (.keyEscrow via text) (fun d => formed "KEY ESCROW" "ESCROW" esc d ∧ d.b F.KY_STAT_BUSY = true) (answers via (er 20)) ∧
    Runs (.keyInval via text win) (fun d => formed "KEY INVAL" "INVAL" slot (up d) ∧ (up d).b F.KY_STAT_BUSY = true) (fun d => answers via (er 20) (up d))

/-- A line of a FURROW, PAGE, CHAN or BANK verb that fits its form, after START, does what its row says and answers. FURROW SET writes the words its
keys touch, together, each named field then holding its value, or is refused with 043 on a SOWN furrow; ON leaves a sound furrow READY with its first
point, with its refusals 010, 082 and 084; OFF leaves one without slots FALLOW; PAGE MAP writes an entry, or is refused with 088 for an absent select;
UNMAP clears a FALLOW furrow's entry (080 else); PIN marks a held page's plot, UNPIN unmarks it, FETCH takes a place for a page not held, with their
refusals. CHAN and BANK SET write the light-altering fields their keys name, ON and OFF return the unit to service or take it out at a headland, AIM
writes the channel's DUTY unless a furrow in use targets the bank (084). The SHOW forms answer with their lines. [R240; R241; R242; R243; R244; R304;
R310; R335; R358; Table SV-8] -/
def Obligations.FurrowPageChannelAndBankVerbs : Prop :=
  (∀ (via : Via) (text : Bytes) (x : List Nat) (args : List (List Nat × List Nat)) (f : Nat), numberIn .plain x = .ok (f : Int) → f < 256 →
     let line (verb name obj : String) (pos : List (List Nat)) (d : Dev) : Prop :=
       LineReady via d ∧ started d = true ∧ lineArgs name verb text = some ⟨ascii obj :: pos, args⟩
     let named (obj : String) (d : Dev) : Prop := line "FURROW" ("FURROW " ++ obj) obj [x] d ∧ args = []
     let form (d : Dev) : Form := ⟨[(0, 255)], furrowKeys (sourceDim d (lineSource d f ⟨[x], args⟩))⟩
     let page (ks : List Key) : Form := ⟨[], pageKeys ++ ks⟩
     let map : Form := page [numKey "sel" 0 3 true, numKey "addr" 0 (2 ^ 28 - 1) true]
     let sets (d : Dev) : Prop := line "FURROW" "FURROW SET" "SET" [x] d ∧ Fits (form d) ⟨[x], args⟩ ∧
       furrowCheck d f (lineSource d f ⟨[x], args⟩) (valsOf (form d) ⟨[x], args⟩) = 0
     let edits (d : Dev) : List (Nat × Fld × Nat) := furrowEdits f (valsOf (form d) ⟨[x], args⟩)
     let calm (d : Dev) : Prop := d.sw.pend = [] ∧ d.sw.forcing = [] ∧ d.com = [] ∧ d.ld.banks = [] ∧ d.sw.slots = [] ∧ d.tlt % 65536 ≤ 63536
     let idle (d : Dev) : Prop := (d.fu f).state = .fallow ∨ (d.fu f).state = .faulted
     let usable (d : Dev) : Prop := d.r (F.SWF_CFG_BANK f) ≤ 5 ∧ d.r (F.SWF_CFG_MASK f) ≠ 0
     let mapped (d : Dev) : Prop := ∀ i, i ≤ d.r (F.SWF_PAGE_PAGESM1 f) → (d.pte f ((d.r (F.SWF_PAGE_PAGE0 f) + i) % 256)).v = true
     let aiming (d : Dev) : Prop := d.r (F.LD_BSTAT_STATE (d.r (F.SWF_CFG_BANK f))) = 2
     let first (d : Dev) : Nat := d.r (F.SWF_ATL_AT f) + 2 ^ 32 * d.r (F.SWF_ATH_AT f)
     let done (d t : Dev) : Prop := t.r F.SW_FSTAT_ERR = 0 ∧ t.r F.SW_FSTAT_DONE = 1 ∧ t.sw.slots = d.sw.slots ∧ t.sw.pend = d.sw.pend ∧ (∀ g, g ≠ f → t.fu g = d.fu g) ∧
       t.mem = d.mem ∧ t.st.evPath = (Via.ctx via).path
     Runs (.furrowSet via text) sets (fun d => answers via (fun c => doFurrowSet f c (valsOf (form d) ⟨[x], args⟩)) d) ∧
     Does (.furrowSet via text) (fun d => sets d ∧ (d.fu f).state ≠ .sown ∧ calm d ∧ (∀ i, i < 6 → ∀ y ∈ cfgFields f i, d.r y < 2 ^ y.width))
       (fun d t => (∀ e ∈ edits d, t.r e.2.1 = e.2.2 % 2 ^ e.2.1.width ∧ t.cv e.2.1 = t.r e.2.1) ∧
         (∀ i, i < 6 → ∀ y ∈ cfgFields f i, (∀ e ∈ edits d, e.2.1 ≠ y) → t.r y = d.r y) ∧ t.com = [] ∧ t.sw.pend = [] ∧ (t.fu f).state = (d.fu f).state ∧
         t.mem = d.mem ∧ t.st.evPath = (Via.ctx via).path) ∧
     Does (.furrowSet via text) (fun d => sets d ∧ (d.fu f).state = .sown)
       (fun d t => t.r F.SYS_BOOTERR_CODE = 43 ∧ bitAt (t.r F.SYS_LOCKV_TAG) Tag.sw = true ∧ t.sw = d.sw ∧ t.com = d.com ∧ t.mem = d.mem) ∧
     Runs (.furrowOn via text) (fun d => named "ON" d ∧ idle d ∧ ¬usable d) (answers via (er 10)) ∧
     Runs (.furrowOn via text) (fun d => named "ON" d ∧ idle d ∧ usable d ∧ ¬mapped d) (answers via (er 82)) ∧
     Runs (.furrowOn via text) (fun d => named "ON" d ∧ idle d ∧ usable d ∧ mapped d ∧ aiming d) (answers via (er 84)) ∧
     Runs (.furrowOn via text) (named "ON") (answers via (doFurrowOn f)) ∧
     Does (.furrowOn via text) (fun d => named "ON" d ∧ idle d ∧ usable d ∧ mapped d ∧ ¬aiming d) (fun d t => (t.fu f).state = .ready ∧ (t.fu f).offp = false ∧
       (t.fu f).fcause = 0 ∧ (t.fu f).miss = (d.fu f).miss ∧ (t.fu f).occ = (d.fu f).occ ∧ (d.r (F.SWF_EVERY_EVERY f) = 0 → (t.fu f).next = first d) ∧ done d t) ∧
     Does (.furrowOn via text) (fun d => named "ON" d ∧ ¬idle d) (fun d t => t.fu f = { d.fu f with offp := false } ∧ done d t) ∧
     Runs (.furrowOff via text) (named "OFF") (answers via (doFurrowOff f)) ∧
     Does (.furrowOff via text) (fun d => named "OFF" d ∧ idle d) (fun d t => t.fu f = d.fu f ∧ done d t) ∧
     Does (.furrowOff via text) (fun d => named "OFF" d ∧ ¬idle d ∧ d.sw.slots = []) (fun d t => (t.fu f).state = .fallow ∧ (t.fu f).offp = false ∧
       (t.fu f).needs = [] ∧ (t.fu f).miss = (d.fu f).miss ∧ done d t) ∧
     Runs (.furrowShow via text) (named "SHOW") (answers via fun c d => okWith [
       dataLine [kn "f" f, kv "state" (nameOf ["fallow", "ready", "sown", "held", "faulted"] (d.fu f).state.code), kn "miss" (d.fu f).miss,
         kn "defer" (d.fu f).defer, kb "pending" (furrowPend d f)],
       dataLine [kn "f" f, kv "src" (nameOf ["e0", "e1", "ring", "time"] (d.r (F.SWF_CFG_SRC f))), kn "at" (first d), kn "every" (d.r (F.SWF_EVERY_EVERY f)),
         kn "bank" (d.r (F.SWF_CFG_BANK f)), kv "mask" (hexN 2 (d.r (F.SWF_CFG_MASK f))),
         kv "head" (if d.b (F.SWF_CFG_HEADEN f) = true then dec (d.r (F.SWF_CFG_HEAD f)) else ascii "none"), kn "page0" (d.r (F.SWF_PAGE_PAGE0 f)),
         kn "pages" (d.r (F.SWF_PAGE_PAGESM1 f) + 1), kn "cap" (d.r (F.SWF_PAGE_CAP f)), kn "pri" (d.r (F.SWF_CFG_PRI f)),
         kn "class" (d.r (F.SWF_CFG_CLASS f)), kv "fault" (nameOf ["skip", "fallback", "last"] (policyOf d f)),
         kv "dist" (nameOf ["mark", "compensate", "abort"] (fDist d f)), kn "slack" (d.r (F.SWF_SLACK_SLACK f))]] c d) ∧
     (let pages (obj : String) (ks : List Key) (d : Dev) : Prop := line "PAGE" ("PAGE " ++ obj) obj [] d ∧ Fits (page ks) ⟨[], args⟩
      let mv : Args := valsOf map ⟨[], args⟩
      let pv : Args := valsOf (page []) ⟨[], args⟩
      let maps (d : Dev) : Prop := line "PAGE" "PAGE MAP" "MAP" [] d ∧ Fits map ⟨[], args⟩ ∧ mv.num "addr" % 1024 = 0
      let u : Nat := pv.num "f"
      let g : Nat := pv.num "page"
      let entry (d : Dev) : Pte := d.pte u g
      let there (d : Dev) : Prop := (entry d).v = true ∧ d.r (F.SP_ID_PRESENT (entry d).sel) ≠ 0
      let absent (d : Dev) : Prop := (entry d).v = true ∧ d.r (F.SP_ID_PRESENT (entry d).sel) = 0
      let holds (p : Nat) (y : Plot) (d : Dev) : Prop := d.gr.plots = [(p, y)] ∧ y.st ≠ .free ∧ y.f = u ∧ y.page = g
      let others (i j : Nat) (d t : Dev) : Prop := ∀ k l : Fin 256, (k.val, l.val) ≠ (i, j) → t.pte k l = d.pte k l
      let ended (op : Nat) (d t : Dev) : Prop := t.gr.waiting = none ∧ t.r F.GR_CSTAT_ERR = 0 ∧ t.r F.GR_CSTAT_DONE = 1 ∧ t.r F.GR_CSTAT_BUSY = 0 ∧
        t.r F.GR_CMD_OP = op ∧ t.gr.pte = d.gr.pte ∧ t.mem = d.mem ∧ t.st.evPath = (Via.ctx via).path
      Runs (.pageMap via text) maps (answers via fun c => doPageMap c mv) ∧
      Runs (.pageMap via text) (fun d => maps d ∧ d.r (F.SP_ID_PRESENT (mv.num "sel")) = 0) (answers via (er 88)) ∧
      Does (.pageMap via text) (fun d => maps d ∧ d.r (F.SP_ID_PRESENT (mv.num "sel")) ≠ 0 ∧ d.gr.plots = []) (fun d t =>
        t.pte (mv.num "f") (mv.num "page") = ⟨true, false, mv.num "sel", mv.num "addr" / 1024⟩ ∧ others (mv.num "f") (mv.num "page") d t ∧ t.gr.plots = [] ∧
          t.regs = d.regs ∧ t.mem = d.mem ∧ t.st.evPath = (Via.ctx via).path) ∧
      (∀ (p : Nat) (y : Plot), Does (.pageMap via text) (fun d => maps d ∧ d.r (F.SP_ID_PRESENT (mv.num "sel")) ≠ 0 ∧
          (d.pte (mv.num "f") (mv.num "page")).v = true ∧ d.gr.plots = [(p, y)] ∧ y.st ≠ .free ∧ y.f = mv.num "f" ∧ y.page = mv.num "page" ∧ calm d)
        (fun d t => t.pte (mv.num "f") (mv.num "page") = ⟨true, false, mv.num "sel", mv.num "addr" / 1024⟩ ∧ plotOf t (mv.num "f") (mv.num "page") = none ∧
          t.sw.pend = [] ∧ t.mem = d.mem)) ∧
      Runs (.pageUnmap via text) (fun d => pages "UNMAP" [] d ∧ (d.fu u).state ≠ .fallow) (answers via (er 80)) ∧
      Does (.pageUnmap via text) (fun d => pages "UNMAP" [] d ∧ (d.fu u).state = .fallow ∧ d.gr.plots = []) (fun d t => t.pte u g = {} ∧ others u g d t ∧
        t.gr.plots = [] ∧ t.regs = d.regs ∧ t.mem = d.mem ∧ t.st.evPath = (Via.ctx via).path) ∧
      Runs (.pagePin via text) (fun d => pages "PIN" [] d ∧ (entry d).v = false) (answers via (er 82)) ∧
      Runs (.pagePin via text) (fun d => pages "PIN" [] d ∧ absent d) (answers via (er 88)) ∧
      Runs (.pagePin via text) (fun d => pages "PIN" [] d ∧ there d ∧ plotOf d u g = none ∧ 384 ≤ pinCount d) (answers via (er 81)) ∧
      (∀ (p : Nat) (y : Plot),
        Does (.pagePin via text) (fun d => pages "PIN" [] d ∧ there d ∧ holds p y d ∧ y.pin = false ∧ d.gr.waiting = none) (fun d t =>
          t.gr.plots = [(p, { y with pin := true })] ∧ ended 1 d t) ∧
        Runs (.pagePin via text) (fun d => pages "PIN" [] d ∧ there d ∧ holds p y d ∧ y.pin = true) (answers via ok) ∧
        Does (.pageUnpin via text) (fun d => pages "UNPIN" [] d ∧ holds p y d ∧ d.gr.waiting = none ∧ ({ y with pin := false } : Plot) ≠ {}) (fun d t =>
          t.gr.plots = [(p, { y with pin := false })] ∧ ended 2 d t) ∧
        Does (.pageFetch via text) (fun d => pages "FETCH" [] d ∧ there d ∧ holds p y d ∧ d.gr.waiting = none) (fun d t => t.gr.plots = d.gr.plots ∧ ended 3 d t)) ∧
      Runs (.pageUnpin via text) (fun d => pages "UNPIN" [] d ∧ plotOf d u g = none ∧ (entry d).v = false) (answers via (er 82)) ∧
      Runs (.pageFetch via text) (fun d => pages "FETCH" [] d ∧ (entry d).v = false) (answers via (er 82)) ∧
      Runs (.pageFetch via text) (fun d => pages "FETCH" [] d ∧ absent d) (answers via (er 88)) ∧
      Does (.pageFetch via text) (fun d => pages "FETCH" [] d ∧ there d ∧ d.gr.waiting = none ∧ d.gr.plots = [] ∧ d.gr.places = [] ∧ d.sw.furrows = [] ∧ d.r F.GR_CTL_EN ≠ 0)
        (fun d t => t.pl 0 = { st := .loading, f := u, page := g, stamp := d.gr.stamp } ∧ t.gr.places = [⟨u, g, 0, none, false⟩] ∧ ended 3 d t) ∧
      Runs (.pageShow via text) (pages "SHOW" []) (answers via fun c d => okWith [dataLine [kn "f" u, kn "page" g, kn "sel" (entry d).sel,
        kv "addr" (hexN 8 (1024 * (entry d).addr)), kv "plot" (match plotOf d u g with | some n => dec n | none => ascii "none"),
        kb "pin" (match plotOf d u g with | some n => (d.pl n).pin | none => false),
        kb "use" (match plotOf d u g with | some n => useOf d n | none => false)]] c d))) ∧
  (∀ (via : Via) (text : Bytes) (x : List Nat) (args : List (List Nat × List Nat)) (n : Nat), numberIn .plain x = .ok (n : Int) →
     let line (verb name obj : String) (d : Dev) : Prop :=
       LineReady via d ∧ started d = true ∧ lineArgs name verb text = some ⟨[ascii obj, x], args⟩
     let calm (d : Dev) : Prop := d.sw.pend = [] ∧ d.sw.forcing = [] ∧ d.com = [] ∧ d.ld.banks = [] ∧ d.sw.slots = [] ∧ d.tlt % 65536 ≤ 63536
     let after (d t : Dev) : Prop := t.com = [] ∧ t.sw.pend = [] ∧ t.sw.slots = [] ∧ t.mem = d.mem ∧ t.st.evPath = (Via.ctx via).path
     let cset : Form := ⟨[(0, 47)], [⟨"cap", .num .code 0 4095, false⟩]⟩
     let bset : Form := ⟨[(0, 5)], [⟨"vshort", .num .mv 2000 12000, false⟩, ⟨"boost", .num .mv 0 200, false⟩, ⟨"dead", .num .ns 50 1000, false⟩,
       numKey "qlim" 1 65535, numKey "sag" 50 99]⟩
     let aim : Form := ⟨[(0, 5)], [numKey "ch" 0 7 true, numKey "duty" 0 65535 true]⟩
     let av : Args := valsOf aim ⟨[x], args⟩
     let bv : Args := valsOf bset ⟨[x], args⟩
     let cv : Args := valsOf cset ⟨[x], args⟩
     let chan (obj : String) (d : Dev) : Prop := line "CHAN" ("CHAN " ++ obj) obj d ∧ args = []
     let bank (obj : String) (d : Dev) : Prop := line "BANK" ("BANK " ++ obj) obj d ∧ args = []
     let keeps (d t : Dev) : Prop := t.sw.slots = d.sw.slots ∧ t.mem = d.mem ∧ t.st.evPath = (Via.ctx via).path
     (n < 48 →
       let firing (d : Dev) : Prop := bankFiring d (n / 8) = true
       Runs (.chanSet via text) (fun d => line "CHAN" "CHAN SET" "SET" d ∧ Fits cset ⟨[x], args⟩) (answers via fun c => doChanSet c cv) ∧
       Does (.chanSet via text) (fun d => line "CHAN" "CHAN SET" "SET" d ∧ Fits cset ⟨[x], args⟩ ∧ cv.has "cap" = true ∧ calm d) (fun d t =>
         t.r (F.LD_CHCFG_CAP n) = cv.num "cap" ∧ t.cv (F.LD_CHCFG_CAP n) = cv.num "cap" ∧ after d t) ∧
       Does (.chanSet via text) (fun d => line "CHAN" "CHAN SET" "SET" d ∧ Fits cset ⟨[x], args⟩ ∧ cv.has "cap" = true ∧ d.r (F.LD_CHCFG_CAP n) ≠ cv.num "cap" ∧
           d.com = [] ∧ firing d)
         (fun d t => t.r (F.LD_CHCFG_CAP n) = cv.num "cap" ∧ t.cv (F.LD_CHCFG_CAP n) = d.r (F.LD_CHCFG_CAP n) ∧ t.sw.slots = d.sw.slots ∧ t.mem = d.mem) ∧
       Runs (.chanOn via text) (fun d => chan "ON" d ∧ d.r (F.LD_CHSTAT_STATE n) = 0) (answers via ok) ∧
       Does (.chanOn via text) (fun d => chan "ON" d ∧ d.r (F.LD_CHSTAT_STATE n) ≠ 0 ∧ d.r (F.LD_CHCFG_PGRP n) = 0 ∧ calm d) (fun d t =>
         t.r (F.LD_CHSTAT_STATE n) = 0 ∧ (∀ j, j ≠ n → t.r (F.LD_CHSTAT_STATE j) = d.r (F.LD_CHSTAT_STATE j)) ∧ after d t) ∧
       Does (.chanOn via text) (fun d => chan "ON" d ∧ d.r (F.LD_CHSTAT_STATE n) ≠ 0 ∧ firing d)
         (fun d t => t.sw.pend = d.sw.pend ++ [⟨[n / 8], .chanOn n⟩] ∧ t.r (F.LD_CHSTAT_STATE n) = d.r (F.LD_CHSTAT_STATE n) ∧ keeps d t) ∧
       Runs (.chanOff via text) (fun d => chan "OFF" d ∧ d.r (F.LD_CHSTAT_STATE n) ≠ 0) (answers via ok) ∧
       Does (.chanOff via text) (fun d => chan "OFF" d ∧ d.r (F.LD_CHSTAT_STATE n) = 0 ∧ calm d) (fun d t =>
         t.r (F.LD_CHSTAT_STATE n) = 1 ∧ (t.sink n).code = 0 ∧ after d t) ∧
       Does (.chanOff via text) (fun d => chan "OFF" d ∧ d.r (F.LD_CHSTAT_STATE n) = 0 ∧ firing d)
         (fun d t => t.sw.pend = d.sw.pend ++ [⟨[n / 8], .chanOff n⟩] ∧ t.r (F.LD_CHSTAT_STATE n) = 0 ∧ keeps d t) ∧
       Runs (.chanShow via text) (chan "SHOW") (answers via fun c d => okWith [dataLine [kn "ch" n, kn "bank" (n / 8),
         kv "state" (nameOf ["on", "fallow", "open", "short"] (d.r (F.LD_CHSTAT_STATE n))), kn "cap" (d.r (F.LD_CHCFG_CAP n)), kb "pending" (chanPend d n)]] c d)) ∧
     (n < 6 →
       let plain (d : Dev) : Prop := ∀ j : Nat, j < 8 → d.r (F.LD_CHCFG_DUTY (8 * n + j)) = 0
       let firing (d : Dev) : Prop := bankFiring d n = true
       let keys : List (String × Fld × Nat) := [("vshort", F.LD_BCFG_VSHORT n, 1), ("boost", F.LD_BBST_BCAP n, 20), ("dead", F.LD_BCFG_DEAD n, 1),
         ("qlim", F.BD_BCFG_QLIM n, 1), ("sag", F.BD_BCFG_SAG n, 1)]
       Runs (.bankSet via text) (fun d => line "BANK" "BANK SET" "SET" d ∧ Fits bset ⟨[x], args⟩) (answers via fun c => doBankSet c bv) ∧
       Does (.bankSet via text) (fun d => line "BANK" "BANK SET" "SET" d ∧ Fits bset ⟨[x], args⟩ ∧ calm d) (fun d t =>
         (∀ k ∈ keys, t.r k.2.1 = (if bv.has k.1 = true then bv.num k.1 * k.2.2 else d.r k.2.1) ∧ t.cv k.2.1 = t.r k.2.1) ∧ after d t) ∧
       Runs (.bankOn via text) (fun d => bank "ON" d ∧ d.r (F.LD_BSTAT_STATE n) ≠ 1) (answers via ok) ∧
       Does (.bankOn via text) (fun d => bank "ON" d ∧ d.r (F.LD_BSTAT_STATE n) = 1 ∧ plain d ∧ calm d) (fun d t => t.r (F.LD_BSTAT_STATE n) = 0 ∧
         t.r (F.BD_BSAG_NOREF n) = 1 ∧ (t.bo n).sensed = true ∧ after d t) ∧
       Does (.bankOn via text) (fun d => bank "ON" d ∧ d.r (F.LD_BSTAT_STATE n) = 1 ∧ firing d)
         (fun d t => t.sw.pend = d.sw.pend ++ [⟨[n], .bankOn n⟩] ∧ t.r (F.LD_BSTAT_STATE n) = 1 ∧ keeps d t) ∧
       Runs (.bankOff via text) (fun d => bank "OFF" d ∧ d.r (F.LD_BSTAT_STATE n) = 1) (answers via ok) ∧
       Does (.bankOff via text) (fun d => bank "OFF" d ∧ d.r (F.LD_BSTAT_STATE n) ≠ 1 ∧ calm d) (fun d t => t.r (F.LD_BSTAT_STATE n) = 1 ∧
         t.r (F.LD_BSTAT_FCAUSE n) = 1 ∧ after d t) ∧
       Does (.bankOff via text) (fun d => bank "OFF" d ∧ d.r (F.LD_BSTAT_STATE n) ≠ 1 ∧ firing d)
         (fun d t => t.sw.pend = d.sw.pend ++ [⟨[n], .bankOff n⟩] ∧ t.r (F.LD_BSTAT_STATE n) = d.r (F.LD_BSTAT_STATE n) ∧ keeps d t) ∧
       Runs (.bankShow via text) (bank "SHOW") (answers via fun c d => okWith [dataLine [kn "bank" n,
         kv "state" (nameOf ["on", "fallow", "aim"] (d.r (F.LD_BSTAT_STATE n))), kn "vshort" (d.r (F.LD_BCFG_VSHORT n)), kn "boost" (d.r (F.LD_BBST_BCAP n) / 20),
         kn "dead" (d.r (F.LD_BCFG_DEAD n)), kn "qlim" (d.r (F.BD_BCFG_QLIM n)), kn "sag" (d.r (F.BD_BCFG_SAG n)), kb "pending" (bankUnitPend d n)]] c d) ∧
       Runs (.bankAim via text) (fun d => line "BANK" "BANK AIM" "AIM" d ∧ Fits aim ⟨[x], args⟩ ∧ bankInUse d n = true) (answers via (er 84)) ∧
       Does (.bankAim via text) (fun d => line "BANK" "BANK AIM" "AIM" d ∧ Fits aim ⟨[x], args⟩ ∧ bankInUse d n = false ∧ calm d) (fun d t =>
         t.r (F.LD_CHCFG_DUTY (8 * n + av.num "ch")) = av.num "duty" ∧ t.cv (F.LD_CHCFG_DUTY (8 * n + av.num "ch")) = av.num "duty" ∧
         (d.r (F.LD_BSTAT_STATE n) ≠ 1 → av.num "duty" ≠ 0 → d.r (F.LD_CHCFG_DUTY (8 * n + av.num "ch")) ≠ av.num "duty" → t.r (F.LD_BSTAT_STATE n) = 2) ∧ after d t)))

/-- A line of a HEAD, RING or ENC verb that fits its form, after START, does what its row says: HEAD SET writes the skew and the policy, ON of a port
out of service and HITCH start a hitching and wait for its end (083 without a head), OFF queues the BYE of a port in service and abandons a hitch;
RING UP starts a ring-up and waits for it, DOWN, JOIN and LEAVE make their request and answer OK, and each answers 086 where it is refused; ENC SET
writes the settings its keys name and ZERO loads the position (080 while a furrow of the input is SOWN or HELD); the SHOW forms answer with their
lines. [R245; R246; R247; R394; R300; R406; R413; R416] -/
def Obligations.HeadRingAndEncoderVerbs : Prop :=
  ∀ (via : Via) (text : Bytes) (x : List Nat) (args : List (List Nat × List Nat)) (n : Nat),
    let line (verb name obj : String) (pos : List (List Nat)) (d : Dev) : Prop :=
      LineReady via d ∧ started d = true ∧ lineArgs name verb text = some ⟨ascii obj :: pos, args⟩
    let hset : Form := ⟨[(0, 5)], [⟨"skew", .num .ns 0 1000, false⟩, wordKey "policy" ["same", "any"]]⟩
    let eset : Form := ⟨[(0, 1)], [wordKey "mode" ["rs422", "se"], wordKey "term" ["off", "on"], numKey "filter" 0 255,
      ⟨"scale", .num .milli 0 1000000000, false⟩]⟩
    let zero (d : Dev) : Form := ⟨[(0, 1)], [⟨"pos", .num (.pos (scaleOf d n)) 0 (2 ^ 48 - 1), true⟩]⟩
    let waits (l : Long) (d t : Dev) : Prop :=
      t.st = { d.st with evPath := (Via.ctx via).path, evMember := (Via.ctx via).member, wait := some (Via.ctx via, l) } ∧ t.mem = d.mem
    let said (d t : Dev) : Prop := t.st.wait = none ∧ t.st.evPath = (Via.ctx via).path ∧ t.mem = d.mem
    (numberIn .plain x = .ok (n : Int) → n < 6 →
      let head (obj : String) (d : Dev) : Prop := line "HEAD" ("HEAD " ++ obj) obj [x] d ∧ args = []
      let port (d : Dev) : Nat := d.r (F.HP_STAT_STATE n)
      let hv : Args := valsOf hset ⟨[x], args⟩
      let begun (_ t : Dev) : Prop := port t = 1 ∧ (t.head n).hello = true ∧ (t.head n).param = false ∧ (t.head n).await = .none ∧ (t.head n).tries = 0 ∧
        (t.head n).due = 0 ∧ (t.head n).bye = false
      let idText (d : Dev) : List (List Nat) := [kv "id" (hexN 16 (d.r (F.HP_IDH_ID n) * 2 ^ 32 + d.r (F.HP_IDL_ID n))), kn "lat" (d.r (F.HP_LAT_LAT n)),
        kn "period" (d.r (F.HP_PER_PERIOD n)), kn "window" (d.r (F.HP_WIN_WINDOW n))]
      Runs (.headSet via text) (fun d => line "HEAD" "HEAD SET" "SET" [x] d ∧ Fits hset ⟨[x], args⟩) (answers via fun c => doHeadSet c hv) ∧
      Does (.headSet via text) (fun d => line "HEAD" "HEAD SET" "SET" [x] d ∧ Fits hset ⟨[x], args⟩ ∧ (∀ y ∈ fldsAt (F.HP_TCFG_SKEW n).addr, d.r y < 2 ^ y.width) ∧
          d.r F.HP_POLICY_ANY < 64) (fun d t =>
        t.r (F.HP_TCFG_SKEW n) = (if hv.has "skew" = true then hv.num "skew" else d.r (F.HP_TCFG_SKEW n)) ∧
        (∀ i, i < 6 → bitAt (t.r F.HP_POLICY_ANY) i = (if i = n ∧ hv.has "policy" = true then decide (hv.num "policy" = 1) else bitAt (d.r F.HP_POLICY_ANY) i)) ∧
        t.hp = d.hp ∧ said d t) ∧
      Runs (.headOn via text) (fun d => head "ON" d ∧ port d = 0) (answers via (er 83)) ∧ Runs (.headOn via text) (fun d => head "ON" d ∧ port d = 2) (answers via ok) ∧
      Does (.headOn via text) (fun d => head "ON" d ∧ port d = 3) (fun d t => begun d t ∧ waits (.head n false) d t ∧ (∀ j, j ≠ n → t.head j = d.head j)) ∧
      Does (.headOn via text) (fun d => head "ON" d ∧ port d = 1) (fun d t => t.hp = d.hp ∧ t.regs = d.regs ∧ waits (.head n false) d t) ∧
      Runs (.headHitch via text) (fun d => head "HITCH" d ∧ port d = 0) (answers via (er 83)) ∧
      Does (.headHitch via text) (fun d => head "HITCH" d ∧ (port d = 1 ∨ port d = 3)) (fun d t => begun d t ∧ waits (.head n true) d t ∧
        (∀ j, j ≠ n → t.head j = d.head j)) ∧
      Does (.headHitch via text) (fun d => head "HITCH" d ∧ port d = 2 ∧ d.sw.slots = [] ∧ d.st.evPath ≠ 0) (fun d t => begun d t ∧ t.r (F.HP_STAT_LCAUSE n) = 4 ∧
        t.st.wait = some (Via.ctx via, .head n true) ∧ t.mem = d.mem) ∧
      Runs (.headOff via text) (fun d => head "OFF" d ∧ port d = 2 ∧ (d.head n).bye = false)
        (answers via fun c d => ok c (d.onH n fun h => { h with bye := true, byeEnd := d.ns + 1000000 })) ∧
      Does (.headOff via text) (fun d => head "OFF" d ∧ port d = 1) (fun d t => port t = 3 ∧ t.r (F.HP_STAT_LCAUSE n) = 4 ∧ (t.head n).hello = false ∧
        (t.head n).await = .none ∧ said d t) ∧
      Runs (.headOff via text) (fun d => head "OFF" d ∧ (port d = 0 ∨ port d = 3 ∨ (port d = 2 ∧ (d.head n).bye = true))) (answers via ok) ∧
      Runs (.headShow via text) (head "SHOW") (answers via fun c d => okWith [dataLine ([kn "h" n,
        kv "state" (nameOf ["absent", "hitching", "on", "fallow"] (port d))] ++ idText d ++ [kn "skew" (d.r (F.HP_TCFG_SKEW n))])] c d)) ∧
    (let ring (obj : String) (d : Dev) : Prop := line "RING" ("RING " ++ obj) obj [] d ∧ args = []
     let state (d : Dev) : Nat := d.r F.SR_STAT_STATE
     let member (d : Dev) : Prop := d.r F.SR_STAT_MASTER = 0 ∧ d.r F.SR_STAT_ADDRV ≠ 0
     let members (d : Dev) : List (List Nat) := ((List.range 15).filter fun i => bitAt (d.r F.SR_MEM_MEM) i).map fun i =>
       dataLine [kn "m" (i + 1), kv "delay" (sixteenths (delayOf d.sr.linksD (i + 1)))]
     Does (.ringUp via text) (fun d => ring "UP" d ∧ state d = 0 ∧ d.r F.SR_STAT_MASTER = 0) (fun d t => state t = 1 ∧ t.r F.SR_STAT_MASTER = 1 ∧
       t.r F.SR_STAT_ADDRV = 1 ∧ t.r F.SR_STAT_ADDR = 0 ∧ t.r F.SR_MEM_MEM = 0 ∧ t.sr.step = .discovery ∧ t.sr.stepEnd = d.ns + 4000 ∧ t.sr.ctrl = [⟨0, 1, 1, 0⟩] ∧
       waits .ringUp d t) ∧
     Runs (.ringUp via text) (fun d => ring "UP" d ∧ (state d ≠ 0 ∨ d.r F.SR_STAT_MASTER ≠ 0)) (answers via (er 86)) ∧
     Does (.ringDown via text) (fun d => ring "DOWN" d ∧ d.r F.SR_STAT_MASTER ≠ 0) (fun d t => state t = 0 ∧ t.r F.SR_STAT_MASTER = 0 ∧ t.r F.SR_STAT_ADDRV = 0 ∧
       t.r F.SR_MEM_MEM = 0 ∧ t.sr.downLeft = 8 ∧ t.r F.SR_EV_DOWN = 1 ∧ t.sr.watchdog = none ∧ said d t) ∧
     Runs (.ringDown via text) (fun d => ring "DOWN" d ∧ d.r F.SR_STAT_MASTER = 0) (answers via (er 86)) ∧
     Does (.ringJoin via text) (fun d => ring "JOIN" d ∧ member d ∧ (state d = 3 ∨ state d = 4)) (fun d t => state t = 5 ∧ t.sr.join = true ∧ t.sr.admitted = false ∧
       t.sr.ctrl = d.sr.ctrl ++ [⟨d.r F.SR_STAT_ADDR, 6, 0, 0⟩] ∧ said d t) ∧
     Runs (.ringJoin via text) (fun d => ring "JOIN" d ∧ member d ∧ state d = 2) (answers via ok) ∧
     Runs (.ringJoin via text) (fun d => ring "JOIN" d ∧ ¬member d) (answers via (er 86)) ∧
     Does (.ringLeave via text) (fun d => ring "LEAVE" d ∧ member d ∧ state d = 2 ∧ d.sw.slots = [] ∧ d.sw.furrows = [] ∧ d.sr.ctrl = []) (fun d t => state t = 4 ∧
       t.sr.ctrl = [⟨d.r F.SR_STAT_ADDR, 7, 0, 0⟩] ∧ t.sr.join = false ∧ t.r F.SR_STAT_ADDR = d.r F.SR_STAT_ADDR ∧ said d t) ∧
     Runs (.ringLeave via text) (fun d => ring "LEAVE" d ∧ d.r F.SR_STAT_MASTER = 0 ∧ (d.r F.SR_STAT_ADDRV = 0 ∨ state d = 4 ∨ state d = 0)) (answers via ok) ∧
     Runs (.ringLeave via text) (fun d => ring "LEAVE" d ∧ d.r F.SR_STAT_MASTER ≠ 0) (answers via (er 86)) ∧
     Runs (.ringShow via text) (ring "SHOW") (answers via fun c d => okWith (dataLine [ascii "ring",
       kv "state" (nameOf ["down", "ringup", "up", "break", "left", "joining"] (state d)), kn "addr" (if d.b F.SR_STAT_ADDRV = true then d.r F.SR_STAT_ADDR else 0),
       kn "master" (d.r F.SR_STAT_MASTER), kv "members" (hexN 4 (if d.b F.SR_STAT_ADDRV = true then 2 * d.r F.SR_MEM_MEM else 0))] ::
         (if d.b F.SR_STAT_ADDRV = true then members d else [])) c d)) ∧
    (numberIn .plain x = .ok (n : Int) → n < 2 →
      let ev : Args := valsOf eset ⟨[x], args⟩
      let keys : List (String × Fld) := [("mode", F.EN_CFG_MODE n), ("term", F.EN_CFG_TERM n), ("filter", F.EN_CFG_FILTER n)]
      let zeroes (d : Dev) : Prop := line "ENC" "ENC ZERO" "ZERO" [x] d ∧ Fits (zero d) ⟨[x], args⟩
      let put (d : Dev) : Nat := (valsOf (zero d) ⟨[x], args⟩).num "pos"
      Runs (.encSet via text) (fun d => line "ENC" "ENC SET" "SET" [x] d ∧ Fits eset ⟨[x], args⟩) (answers via fun c => doEncSet c ev) ∧
      Does (.encSet via text) (fun d => line "ENC" "ENC SET" "SET" [x] d ∧ Fits eset ⟨[x], args⟩ ∧ ∀ y ∈ fldsAt (F.EN_CFG_MODE n).addr, d.r y < 2 ^ y.width) (fun d t =>
        (∀ k ∈ keys, t.r k.2 = (if ev.has k.1 = true then ev.num k.1 else d.r k.2)) ∧
        scaleOf t n = (if ev.has "scale" = true then ev.num "scale" else scaleOf d n) ∧ scaleOf t (1 - n) = scaleOf d (1 - n) ∧ t.en = d.en ∧ said d t) ∧
      Runs (.encZero via text) (fun d => zeroes d ∧ inputHeld d n = true) (answers via (er 80)) ∧
      Does (.encZero via text) (fun d => zeroes d ∧ d.sw.furrows = [] ∧ ((d.enc n).net.1 + d.ck.phase) / 4 ≠ (d.ns + d.ck.phase) / 4) (fun d t =>
        (t.enc n).pos = put d ∧ t.r (F.EN_STAT_LQ n) = 0 ∧ t.r (F.EN_STAT_LN n) = 0 ∧ t.r (F.EN_STAT_LF n) = 0 ∧ (t.enc n).vel = (d.enc n).vel ∧
        (t.enc n).edges = (d.enc n).edges ∧ (∀ m, m ≠ n → t.enc m = d.enc m) ∧ said d t) ∧
      Runs (.encShow via text) (fun d => line "ENC" "ENC SHOW" "SHOW" [x] d ∧ args = []) (answers via fun c d => okWith [dataLine [kn "e" n, kn "pos" (d.enc n).pos,
        kv "vel" (hexN 8 (velWord (d.enc n).vel)), kv "dir" (nameOf ["fwd", "rev"] (d.r (F.EN_STAT_DIR n))), kn "z" (d.enc n).zpos,
        kv "state" (ascii (if d.b (F.EN_STAT_BURST n) = true then "burst"
          else if (d.b (F.EN_STAT_LQ n) || d.b (F.EN_STAT_LN n) || d.b (F.EN_STAT_LF n)) = true then "lost" else "ok")), kv "scale" (milliText (scaleOf d n))]] c d))

/-- A push of a control word queues an entry with SP_CQA and SP_CQD, and is refused at 16 entries or with a reserved code; a grant of the same PCLK
cycle takes it in after all. With the bus free and EN 1 the highest-ranked request is granted: an urgent page fetch, an XIP fill, then rank 4, where a
poll comes before a discovery read, and that before the oldest run; runs pushed during discovery wait for its end, and those pushed before it go on
while its select is in write-wait. A transfer asserts its select once its deselect time is over, keeps the MSCK period it began with, and sends
opcode, address and data, most significant byte of the address first; between transfers MSS is high, MSCK low and MIO released. A read that ends fills
the receive FIFO; without CONT the run ends with RUNEND and WIP starts write-wait; with CONT it goes on, or is held until CTMO ends it with CBRK; a
continuation in the timeout's own PCLK cycle wins, as a tie. A poll whose bit 0 is 0 ends write-wait; after WTMO the select goes out of service.
Discovery takes its selects in order. A slave frame enters Q0 as one packet, in PARTIAL mode with its bit count, or is aborted, dropped or too long,
and is not accepted with EN at 0; outbound bytes join a buffer of 1 024, and SSDO gives their number, the bytes, then 0. SBUSYN is high while the path
is open and the port can take a frame. [R16; R18; R252; R254; R255; R256; R257; R262; R265; R268; R269; R270] -/
def Obligations.SerialPorts : Prop :=
  (∀ ctrl : Word,
    let n := ctrl.toNat
    Runs (.cqPush ctrl) (fun d => d.sp.held = none ∧ d.sp.cq.length < 16 ∧ cqReserved n = false)
      (fun d => (d.w F.SP_CQC_CTRL n).onSp fun s => { s with cq := s.cq ++ [⟨n, d.r F.SP_CQA_ADDR, d.r F.SP_CQD_DATA, none⟩] }) ∧
    Runs (.cqPush ctrl) (fun d => d.sp.held = none ∧ 16 ≤ d.sp.cq.length ∧ cqReserved n = false) (fun d => ((d.w F.SP_CQC_CTRL n).set F.SP_STAT_CQFULL).onSp
      fun s => { s with lost := some (d.ns, ⟨n, d.r F.SP_CQA_ADDR, d.r F.SP_CQD_DATA, none⟩, d.b F.SP_STAT_CQFULL) }) ∧
    Runs (.cqPush ctrl) (fun d => d.sp.held = none ∧ d.sp.cq.length < 16 ∧ cqReserved n = true) (fun d => (d.w F.SP_CQC_CTRL n).set F.SP_STAT_BADENT) ∧
    (∀ h : Held, let c (d : Dev) : CqEntry := ⟨n, d.r F.SP_CQA_ADDR, d.r F.SP_CQD_DATA, none⟩
     Does (.cqPush ctrl) (fun d => d.sp.held = some h ∧ d.sp.cq = [] ∧ d.sp.feed = [] ∧ d.sp.lost = none ∧ d.sp.disc = none ∧ d.r F.SP_CTL_EN = 1 ∧
         cqReserved n = false ∧ (c d).sel = h.last.sel ∧ entryReady d (c d) = true ∧ (h.stop + d.ck.phase) / 8 = (d.ns + d.ck.phase) / 8)
       (fun d t => t.sp.bus = some ⟨.run (c d), (c d).sel, 4, d.ns, d.ns + (c d).clocks * h.period, h.period, (c d).sends⟩ ∧ t.sp.held = none ∧
         t.sp.cq = [] ∧ t.r F.SP_STAT_COIN = 1 ∧ bitAt (t.r F.SYS_COIN_TAG) Tag.sp = true ∧ t.mem = d.mem))) ∧
  (let open' (d : Dev) : Prop := d.awake = true ∧ d.r F.SP_CTL_EN ≠ 0 ∧ d.sp.bus = none ∧ d.sp.held = none
   let free (d : Dev) (n : Nat) : Nat := match Tab.get? d.sp.rose n with | some x => max d.ns (x + (d.r (F.SP_SEL_DESEL n) + 1) * msck d n) | none => d.ns
   let runs (op : Xfer) (n owner clocks period : Nat) (sends : List Nat) (d t : Dev) : Prop := t.sp.held = none ∧ t.mem = d.mem ∧ t.co = d.co ∧
     t.sp.bus = some ⟨op, n, owner, free d n, free d n + (clocks + 1) * period, period, sends⟩
   let read (d : Dev) (n a : Nat) : List Nat := d.r (F.SP_SEL_RCMD n) :: addrBytes (if d.r (F.SP_SEL_ADDR4 n) ≠ 0 then 4 else 3) a
   (∀ (e : CqEntry) (r : List CqEntry), Does .transferGrant
     (fun d => open' d ∧ d.gr.places = [] ∧ d.sp.fill = none ∧ d.sp.ww = [] ∧ d.sp.disc = none ∧ d.sp.cq = e :: r ∧ entryReady d e = true ∧ d.sp.feed = [] ∧
       d.sp.lost = none)
     (fun d t => runs (.run e) e.sel 4 e.clocks (msck d e.sel) e.sends d t ∧ t.sp.cq = r ∧ t.gr = d.gr ∧ t.regs = d.regs)) ∧
   (∀ (e x : CqEntry) (r : List CqEntry) (was : Bool), Does .transferGrant
     (fun d => open' d ∧ d.gr.places = [] ∧ d.sp.fill = none ∧ d.sp.ww = [] ∧ d.sp.disc = none ∧ d.sp.cq = e :: r ∧ entryReady d e = true ∧ d.sp.feed = [] ∧
       d.sp.lost = some (d.ns, x, was))
     (fun d t => runs (.run e) e.sel 4 e.clocks (msck d e.sel) e.sends d t ∧ t.sp.cq = r ++ [x] ∧ t.r F.SP_STAT_CQFULL = bit was)) ∧
   (∀ (n k : Nat) (l : List Nat),
     Does .transferGrant (fun d => open' d ∧ d.gr.places = [] ∧ d.sp.fill = none ∧ d.sp.ww = [] ∧ d.sp.disc = some ⟨n :: l, 0, 0, k⟩)
       (fun d t => runs (.disc n 0) n 4 32 64 [0x9F] d t ∧ t.sp.cq = d.sp.cq ∧ t.regs = d.regs) ∧
     (∀ (e : CqEntry) (r : List CqEntry) (w : WriteWait), w.due = false →
       Does .transferGrant (fun d => open' d ∧ d.gr.places = [] ∧ d.sp.fill = none ∧ d.sp.ww = [(n, w)] ∧ d.sp.disc = some ⟨n :: l, 0, 0, k + 1⟩ ∧
           d.sp.cq = e :: r ∧ entryReady d e = true ∧ d.sp.feed = [] ∧ d.sp.lost = none)
         (fun d t => runs (.run e) e.sel 4 e.clocks (msck d e.sel) e.sends d t ∧ t.sp.cq = r) ∧
       Runs .transferGrant (fun d => open' d ∧ d.gr.places = [] ∧ d.sp.fill = none ∧ d.sp.ww = [(n, w)] ∧ d.sp.disc = some ⟨n :: l, 0, 0, 0⟩)
         (fun d => d))) ∧
   (∀ (n : Nat) (w : WriteWait), w.due = true → Does .transferGrant (fun d => open' d ∧ d.gr.places = [] ∧ d.sp.fill = none ∧ d.sp.ww = [(n, w)])
     (fun d t => runs (.poll n) n 4 16 (msck d n) [0x05] d t ∧ t.sp.ww = [(n, { w with due := false })] ∧ t.sp.cq = d.sp.cq ∧ t.regs = d.regs)) ∧
   (∀ a n x : Nat, Does .transferGrant (fun d => open' d ∧ d.gr.places = [] ∧ d.sp.fill = some a ∧ fillNow d = some (n, x))
     (fun d t => runs (.fill a) n 2 (readClocks d n 32) (msck d n) (read d n x) d t ∧ t.sp.cq = d.sp.cq ∧ t.gr = d.gr ∧ t.regs = d.regs)) ∧
   (∀ (x : Fetch) (e : Nat), x.deadline = some e → Does .transferGrant (fun d => open' d ∧ presented d = some x ∧ urgent d e = true ∧ fetchBad d x = false)
     (fun d t => runs (.page x.f x.page) (d.pte x.f x.page).sel 1 (readClocks d (d.pte x.f x.page).sel 1024) (msck d (d.pte x.f x.page).sel)
       (read d (d.pte x.f x.page).sel (1024 * (d.pte x.f x.page).addr)) d t ∧ t.sp.cq = d.sp.cq ∧ t.regs = d.regs)) ∧
   Runs .transferGrant (fun d => ¬ open' d) (fun d => d)) ∧
  (∀ d : Dev, d.ck.brown = false →
    (d.sp.bus = none → d.sp.held = none → (∀ n, mss d n = .high) ∧ msckPin d = .low ∧ mio d = .released) ∧
    (∀ o : BusOp, d.sp.bus = some o → o.start ≤ d.ns → d.ns < o.stop → mss d o.sel = .low ∧ msckPin d = .live ∧ mio d = .live ∧ mioSends d = o.sends) ∧
    (ssdo d = if d.sp.active = true ∧ d.sp.taken = true then .live else .hiz) ∧ ssdoByte d 0 = d.sp.lat ∧
    (∀ i, ssdoByte d (i + 1) = if i < d.sp.lat then d.sp.tx.getD i 0 else 0) ∧
    (sbusyn d = if slaveOpen d = true ∧ d.r (F.Q_STAT_WM 0) = 0 ∧ slaveStaged d < 2 ∧ d.sp.tx.length < 1024 then .high else .low)) ∧
  (∀ (bytes : Bytes) (o : BusOp),
    let ended (d : Dev) : Prop := d.sp.bus = some o ∧ o.stop ≤ d.ns
    (∀ e : CqEntry, o.op = .run e → e.cont = false → Does (.transferEnd bytes) ended (fun d t => t.sp.bus = none ∧ t.sp.held = none ∧ t.r F.SP_STAT_RUNEND = 1 ∧
      t.sp.rx = (if e.reads = true ∧ e.own = none then d.sp.rx ++ [le ((Bytes.nats bytes).take e.nb)] else d.sp.rx) ∧
      (e.wip = true → Tab.get? t.sp.ww e.sel = some ⟨o.stop, 1, false⟩) ∧ Tab.get? t.sp.rose e.sel = some o.stop ∧ SameRegs [F.SP_STAT_RUNEND] d t ∧ t.mem = d.mem)) ∧
    (∀ e : CqEntry, o.op = .run e → e.cont = true → Does (.transferEnd bytes) (fun d => ended d ∧ d.sp.cq = [])
      (fun d t => t.sp.bus = none ∧ t.sp.held = some ⟨e, o.stop + 1000 * max (d.r F.SP_CTL_CTMO) 1, o.period⟩ ∧ t.regs = d.regs ∧ t.mem = d.mem)) ∧
    (∀ (n : Nat) (w : WriteWait), o.op = .poll n → Does (.transferEnd bytes) (fun d => ended d ∧ Tab.get? d.sp.ww n = some w ∧ d.r F.SP_CTL_WTMO = 0)
      (fun d t => t.sp.bus = none ∧ t.regs = d.regs ∧ t.mem = d.mem ∧
        Tab.get? t.sp.ww n = (if bitAt ((Bytes.nats bytes).headD 1) 0 = true then some w else none))) ∧
    (∀ n : Nat, o.op = .disc n 0 → o.sel = n → n < 4 → le ((Bytes.nats bytes).take 3) ≠ 0 → le ((Bytes.nats bytes).take 3) ≠ 0xFFFFFF →
      Does (.transferEnd bytes) (fun d => ended d ∧ d.r (F.SP_ID_PRESENT n) = 0 ∧ d.sp.disc.isSome = true)
        (fun d t => t.sp.bus = none ∧ t.r (F.SP_ID_PRESENT n) = 1 ∧ t.r (F.SP_ID_ID n) = le ((Bytes.nats bytes).take 3) ∧
          t.sp.disc = d.sp.disc.map (fun x => { x with stage := 1, table := 0 }) ∧ t.mem = d.mem)) ∧
    Runs (.transferEnd bytes) (fun d => d.sp.bus = some o ∧ d.ns < o.stop) (fun d => d)) ∧
  let cyc (d : Dev) (x : Nat) : Nat := (x + d.ck.phase) / 8
  (∀ h : Held,
    Does .continueTimeout (fun d => d.sp.held = some h ∧ cyc d h.stop < cyc d d.ns) (fun d t => t.sp.held = none ∧ t.sp.bus = none ∧ t.r F.SP_STAT_CBRK = 1 ∧
      t.r F.SP_STAT_RUNEND = 1 ∧ SameRegs [F.SP_STAT_CBRK, F.SP_STAT_RUNEND] d t ∧ t.sp.cq = d.sp.cq ∧ t.mem = d.mem) ∧
    Runs .continueTimeout (fun d => d.sp.held = some h ∧ cyc d d.ns ≤ cyc d h.stop) (fun d => d)) ∧
  (∀ (n : Fin 4) (w : WriteWait),
    Runs (.pollDue n) (fun d => Tab.get? d.sp.ww n = some w ∧ w.start + 1000 * (w.k * max (d.r F.SP_CTL_PIVL) 1) ≤ d.ns ∧ w.due = false ∧ d.sp.bus = none ∧
      d.r F.SP_CTL_EN = 1) (fun d => d.onSp fun s => { s with ww := Tab.put s.ww n ⟨w.start, w.k + 1, true⟩ }) ∧
    Runs (.pollDue n) (fun d => Tab.get? d.sp.ww n = some w ∧ d.ns < w.start + 1000 * (w.k * max (d.r F.SP_CTL_PIVL) 1)) (fun d => d) ∧
    Does (.writeWaitTimeout n) (fun d => Tab.get? d.sp.ww n = some w ∧ d.r F.SP_CTL_WTMO ≠ 0 ∧ cyc d (w.start + 1000000 * d.r F.SP_CTL_WTMO) < cyc d d.ns)
      (fun d t => t.r F.SP_STAT_WTO = 1 ∧ t.r (F.SP_SEL_GEN n) = 0 ∧ t.r (F.SP_SEL_XEN n) = 0 ∧ Tab.get? t.sp.ww n = none ∧
        (∀ b, b < 6 → (n.val, b) ∈ t.sp.out) ∧ SameRegs [F.SP_STAT_WTO, F.SP_SEL_GEN n, F.SP_SEL_XEN n] d t ∧ t.mem = d.mem) ∧
    Runs (.writeWaitTimeout n) (fun d => Tab.get? d.sp.ww n = some w ∧ (d.r F.SP_CTL_WTMO = 0 ∨ cyc d d.ns ≤ cyc d (w.start + 1000000 * d.r F.SP_CTL_WTMO)))
      (fun d => d)) ∧
  (∀ (m : BitVec 4) (w : BitVec 2),
    Runs (.discoveryStart m w) (fun d => d.sp.disc = none ∧ m ≠ 0) (fun d => ((d.w F.SP_DISC_SELMASK m.toNat).w F.SP_DISC_WMAX w.toNat).onSp fun s =>
      { s with disc := some ⟨(List.range 4).filter (fun n => bitAt m.toNat n), 0, 0, s.cq.length⟩ }) ∧
    Runs (.discoveryStart m w) (fun d => d.sp.disc ≠ none) (fun d => d)) ∧
  (∀ (w : Nat) (r : List Nat), Runs .spRxdPop (fun d => d.sp.held = none ∧ d.sp.rx = w :: r) (fun d => { d.onSp fun s => { s with rx := r } with rd := w })) ∧
  Runs .spRxdPop (fun d => d.sp.held = none ∧ d.sp.rx = []) (fun d => { d with rd := 0 }) ∧
  Runs .sssnFall (fun d => d.r F.SP_SCTL_EN = 1 ∧ d.awake = true ∧ d.ck.silent = false ∧ d.sp.active = false) (fun d => (d.set F.SP_SSTAT_ACTIVE).onSp fun s =>
    { s with active := true, taken := true, mode := decide (d.r F.SP_SCTL_MODE ≠ 0), room := decide (slaveStaged d < 2), lat := min 255 s.tx.length }) ∧
  Runs .sssnFall (fun d => d.sp.active = false ∧ ((d.r F.SP_SCTL_EN = 0 ∧ d.awake = true) ∨ d.ck.ladder = .nap ∨ d.ck.ladder = .fallow))
    (fun d => (d.set F.SP_SSTAT_ACTIVE).onSp fun s =>
      { s with active := true, taken := false, mode := decide (d.r F.SP_SCTL_MODE ≠ 0), room := decide (slaveStaged d < 2), lat := 0 }) ∧
  Runs .sssnFall (fun d => d.sp.active = true) (fun d => d) ∧
  (∀ (bytes : Bytes) (x : Fin 8), bytes ≠ [] →
    let inFrame (mode room : Bool) (d : Dev) : Prop := d.sp.active = true ∧ d.sp.taken = true ∧ d.r F.SP_SCTL_EN = 1 ∧ d.sp.wakeDrop = false ∧
      d.sp.mode = mode ∧ d.sp.room = room ∧ d.st.out = [] ∧ d.st.store = []
    let cut : List Nat := (Bytes.nats bytes).dropLast ++ [(Bytes.nats bytes).getLastD 0 / 2 ^ (8 - x.val)]
    let bits : Nat := if x = 0 then 8 * bytes.length else 8 * (bytes.length - 1) + x
    let left (d : Dev) : Dev := (d.clr F.SP_SSTAT_ACTIVE).onSp fun s => { s with active := false, tx := s.tx.drop (min s.lat (bits / 8 - 1)) }
    let staged (b : List Nat) (d : Dev) : Dev := { d with q0 := { d.q0 with staged := d.q0.staged ++ [(2, b)] } }
    (x = 0 → bytes.length ≤ 1016 → Runs (.slaveFrame bytes x) (inFrame false true) (fun d => staged (0x40 :: Bytes.nats bytes) (left d))) ∧
    (x = 0 → bytes.length ≤ 1016 → Runs (.slaveFrame bytes x) (inFrame true true)
      (fun d => staged (0x50 :: Bytes.nats bytes ++ leBytes 2 bits) (left d))) ∧
    (x ≠ 0 → bytes.length ≤ 1016 → Runs (.slaveFrame bytes x) (inFrame false true) (fun d => ((left d).set F.SP_SSTAT_ABRT).inc F.SP_SCNT_ABORTS)) ∧
    (x ≠ 0 → bytes.length ≤ 1016 → Runs (.slaveFrame bytes x) (inFrame true true)
      (fun d => staged (0x50 :: cut ++ leBytes 2 bits) (((left d).set F.SP_SSTAT_ABRT).inc F.SP_SCNT_ABORTS))) ∧
    (1016 < bytes.length → Runs (.slaveFrame bytes x) (inFrame false true) (fun d => ((left d).set F.SP_SSTAT_LONG).inc F.SP_SCNT_DROPS)) ∧
    Runs (.slaveFrame bytes x) (inFrame false false) (fun d => ((left d).set F.SP_SSTAT_OVF).inc F.SP_SCNT_DROPS) ∧
    Runs (.slaveFrame bytes x) (fun d => d.sp.active = true ∧ d.sp.wakeDrop = false ∧ (d.sp.taken = false ∨ d.r F.SP_SCTL_EN = 0) ∧ d.st.out = [] ∧ d.st.store = [])
      left ∧
    Runs (.slaveFrame bytes x) (fun d => d.sp.active = true ∧ d.sp.wakeDrop = true ∧ d.st.out = [] ∧ d.st.store = [])
      (fun d => (left d).onSp fun s => { s with wakeDrop := false }) ∧
    Runs (.slaveFrame bytes x) (fun d => d.sp.active = false ∧ d.st.out = [] ∧ d.st.store = []) (fun d => { d with sp := { d.sp with wakeDrop := false } })) ∧
  (∀ b : Byte,
    Runs (.spStxWrite b) (fun d => d.sp.tx.length < 1024) (fun d => d.onSp fun s => { s with tx := s.tx ++ [b.toNat] }) ∧
    Runs (.spStxWrite b) (fun d => 1024 ≤ d.sp.tx.length) (fun d => d)) ∧
  Runs .spScntClear (fun _ => True) (fun d => (d.w F.SP_SCNT_DROPS 0).w F.SP_SCNT_ABORTS 0)

/-- A tick that is due adds 1 to the timer, samples the four inputs, light, triggers, HOLD and DATA.IN as they stood at the start of its FCLK cycle,
reads the entry at (IN << 4) | STATE, and takes STATE and OUT from it; the timer restarts where the state changes; an output that rises sets RISE; the
pulse latches clear; the next tick is DIV + 1 cycles of 4 ns later. Where the timer would expire at the very tick at which another input that is no
constant has changed, the tick takes TEXP as 0 and records COIN. Every other engine is left alone, and a tick that is not due only shows the pads,
which are not sampled in sleep; where the device drives a pin steadily, an input sees what it drives. A read in the cycle of a tick gives what stood
before it; RUN cleared in that cycle lets the tick complete. Setting RUN loads INIT and OINIT, clears timer and latches and sets no RISE; clearing it
keeps everything; a write of DATA.IN changes IN alone. [R271; R272; R273; R276; R277; R278; R279; R280; R281; R283; R285] -/
def Obligations.PinEngines : Prop :=
  ∀ (n : Fin 8) (pads : BitVec 16),
    let cyc (d : Dev) (x : Nat) : Nat := (x + d.ck.phase) / 4
    let due (d : Dev) : Prop := (d.r (F.PE_CTL_RUN n) ≠ 0 ∨ (d.eng n).stopAt.any (fun x => decide (cyc d x = cyc d d.ns)) = true) ∧ d.awake = true ∧
      cyc d (d.eng n).next ≤ cyc d d.ns
    let count (d : Dev) : Nat := min (d.r (F.PE_TMR_TCNT n) + 1) 65535
    let limit (d : Dev) : Nat := d.r (F.PE_TMR_LIMIT n)
    let tie (d : Dev) : Bool := decide (limit d ≠ 0 ∧ limit d ≤ count d ∧ d.r (F.PE_TMR_TCNT n) < limit d) && inputsChanged d n pads.toNat
    let entry (d : Dev) : Nat := Tab.getD (d.eng n).lut
      (peInputs d n pads.toNat (decide (limit d ≠ 0 ∧ limit d ≤ count d) && !tie d) * 16 + d.r (F.PE_DATA_STATE n)) 0
    let ticked (d t : Dev) : Prop := t.r (F.PE_DATA_STATE n) = entry d / 16 % 16 ∧ t.r (F.PE_DATA_OUT n) = entry d % 16 ∧
      t.r (F.PE_TMR_TCNT n) = (if entry d / 16 = d.r (F.PE_DATA_STATE n) then count d else 0) ∧
      t.r (F.PE_STAT_RISE n) = (d.r (F.PE_STAT_RISE n) ||| (entry d % 16 &&& (15 - d.r (F.PE_DATA_OUT n)))) % 16 ∧
      t.r (F.PE_CTL_COIN n) = (if tie d = true then 1 else d.r (F.PE_CTL_COIN n)) ∧ (tie d = true → bitAt (t.r F.SYS_COIN_TAG) Tag.pe = true) ∧
      t.eng n = { d.eng n with fire := false, taint := false, first := false, prev := peInputs d n pads.toNat (decide (limit d ≠ 0 ∧ limit d ≤ count d) && !tie d),
                               next := (d.eng n).next + 4 * (d.r (F.PE_CLK_DIV n) + 1),
                               was := (t.eng n).was } ∧
      (t.eng n).was.map (fun w => (w.since, w.state, w.out)) = some (d.ns, d.r (F.PE_DATA_STATE n), d.r (F.PE_DATA_OUT n)) ∧
      peDataWord t n = d.r (F.PE_DATA_STATE n) * 2 ^ 16 + d.r (F.PE_DATA_IN n) * 2 ^ 8 +
        bit (decide (limit d ≠ 0 ∧ limit d ≤ d.r (F.PE_TMR_TCNT n))) * 2 ^ 4 + d.r (F.PE_DATA_OUT n) ∧
      (∀ m, m ≠ n.val → t.eng m = d.eng m) ∧ t = { d with regs := t.regs, pe := t.pe, gpWas := t.gpWas } ∧
      SameRegs [F.PE_DATA_STATE n, F.PE_DATA_OUT n, F.PE_TMR_TCNT n, F.PE_STAT_RISE n, F.PE_CTL_COIN n, F.SYS_COIN_TAG, F.PE_PINS_LEVEL] d t
    Does (.engineTick n pads) due ticked ∧
    Does (.peTimerExpiry n pads) (fun d => due d ∧ limit d ≠ 0 ∧ limit d ≤ count d ∧ d.r (F.PE_TMR_TCNT n) < limit d) ticked ∧
    let inputs (d : Dev) : Prop := d.awake = true ∧ d.gpWas = [] ∧ ∀ g, g < 16 → gpDriven d g = none
    Runs (.engineTick n pads) (fun d => inputs d ∧ ¬ due d) (fun d => d.w F.PE_PINS_LEVEL pads.toNat) ∧
    Runs (.engineTick n pads) (fun d => d.awake = false) (fun d => d) ∧
    (∀ (g : Nat) (v : Bool), g < 16 → Does (.engineTick n pads) (fun d => d.awake = true ∧ d.gpWas = [] ∧ gpDriven d g = some v)
      (fun _ t => bitAt (t.r F.PE_PINS_LEVEL) g = v)) ∧
    (∀ s : State, due s.dev → limit s.dev ≠ 0 → limit s.dev ≤ count s.dev → s.dev.r (F.PE_TMR_TCNT n) < limit s.dev →
      exec (.peTimerExpiry n pads) s = exec (.engineTick n pads) s) ∧
    Runs (.peTimerExpiry n pads) (fun d => inputs d ∧ (limit d = 0 ∨ count d < limit d)) (fun d => d.w F.PE_PINS_LEVEL pads.toNat) ∧
    Runs (.engineStart n) (fun d => d.r (F.PE_CTL_RUN n) = 0 ∧ d.gpWas = [] ∧ gpPins d n = []) (fun d =>
      ((((d.set (F.PE_CTL_RUN n)).w (F.PE_DATA_STATE n) (d.r (F.PE_CTL_INIT n))).w (F.PE_DATA_OUT n) (d.r (F.PE_CTL_OINIT n))).w (F.PE_TMR_TCNT n) 0).onG n
        fun g => { g with fire := false, taint := false, prev := 0, first := true, next := d.ns + 4 * (d.r (F.PE_CLK_DIV n) + 1), was := none, stopAt := none }) ∧
    Does (.engineStart n) (fun d => d.r (F.PE_CTL_RUN n) = 0) (fun d t => t.r (F.PE_CTL_RUN n) = 1 ∧ t.r (F.PE_DATA_STATE n) = d.r (F.PE_CTL_INIT n) % 16 ∧
      t.r (F.PE_DATA_OUT n) = d.r (F.PE_CTL_OINIT n) % 16 ∧ t.r (F.PE_TMR_TCNT n) = 0 ∧ t = { d with regs := t.regs, pe := t.pe, gpWas := t.gpWas }) ∧
    Runs (.engineStart n) (fun d => d.r (F.PE_CTL_RUN n) ≠ 0) (fun d => d) ∧
    Runs (.engineStop n) (fun d => d.r (F.PE_CTL_RUN n) ≠ 0) (fun d => (d.clr (F.PE_CTL_RUN n)).onG n fun g => { g with stopAt := some d.ns }) ∧
    Runs (.engineStop n) (fun d => d.r (F.PE_CTL_RUN n) = 0) (fun d => d) ∧
    (∀ v : BitVec 4, Runs (.peDataInWrite n v) (fun _ => True) (fun d => d.w (F.PE_DATA_IN n) v.toNat))

/-- A level is accepted once FILTER + 1 consecutive samples agree on it, by FILTER as it stands. The first levels after a reset are loaded without a
count. Then every transition of the accepted levels by Table EN-1 moves the position by one, modulo 2^48, with INV in the opposite sense, carries the
edge time TLT - (FILTER + 2) x 4 ns, keeps at most NAVG + 1 edge times, writes DIR, and ends STOP with START; a count of opposite sign to the one
before sets REV, counts in REVS, leaves itself alone in the history and makes an update of its FCLK cycle write 0, and withdraws a slot of the input's
source that fires at least 200 ns later, while a nearer one keeps its place with REV set. A change of both levels is a quadrature error: LQ and QERR,
no count. The update at a multiple of 1000 ns writes the rounded minimum of the two terms, 0 with fewer than two edges, and after STOPT without a
count sets STOP and clears the history; while FROZEN it keeps the velocity. A burst sets BURST and BURSTS and freezes the velocity, its end notes the
time, and the freeze ends 2 us after it or 20 us after its onset with the history cleared. A rise of Z that its filter accepts captures the position,
with ZGATE only while the accepted A and B are 1, and with the count of its own FCLK cycle. LOAD takes PSET, with the counts of its own FCLK cycle,
clears the lost-count marks and sets NEXT of a READY furrow to the first point ahead, and is a locked write while a furrow of the input is SOWN. Reads
latch the high word, and a write of CNT clears both counts. [R287; R289; R290; R292; R293; R294; R295; R296; R297; R298; R299; R301] -/
def Obligations.EncoderInputs : Prop :=
  ∀ n : Fin 2,
    let live (d : Dev) : Prop := d.awake = true ∧ (d.enc n).ready = true
    let forward (a b a' b' : Bool) : Prop := (a, b, a', b') ∈ [(false, false, true, false), (true, false, true, true), (true, true, false, true), (false, true, false, false)]
    let edgeTime (d : Dev) : Nat := (d.tlt + 2 ^ 48 - (d.r (F.EN_CFG_FILTER n) + 2) * 4) % 2 ^ 48
    let cyc (d : Dev) (x : Nat) : Nat := (x + d.ck.phase) / 4
    let filt (d : Dev) (v : Bool) (g : Glitch) : Glitch :=
      let since : Nat := if v = g.raw then g.since else d.ns
      ⟨if d.r (F.EN_CFG_FILTER n) ≤ cyc d d.ns - cyc d since then v else g.acc, v, since⟩
    let recent (d : Dev) (l : List Nat) : List Nat := l.filter fun t => decide (0 ≤ sd d.tlt t ∧ sd d.tlt t < 1000)
    let recentNs (d : Dev) (l : List Nat) : List Nat := l.filter fun t => decide (d.ns < t + 1000)
    let alone (d : Dev) : Prop := (d.enc n).zAt.all (fun x => decide (cyc d x.1 ≠ cyc d d.ns)) = true
    let held (d : Dev) : Nat := max (d.r (F.EN_CFG_NAVG n)) 1 + 1
    let burst (d : Dev) (cm : Bool) : Prop := (d.r (F.EN_BCFG_PLIM n) ≠ 0 ∧ d.r (F.EN_BCFG_PLIM n) < (recent d (d.enc n).counts).length) ∨
      (d.r (F.EN_CFG_MODE n) = 0 ∧ d.r (F.EN_BCFG_CM n) ≠ 0 ∧ cm = true) ∨ (d.r (F.EN_BCFG_QB n) ≠ 0 ∧ recentNs d (d.enc n).qerrs ≠ [])
    let over2 (d : Dev) : Prop := (d.enc n).onset + 20000 ≤ d.ns ∨ (d.enc n).clear.any (fun c => decide (c + 2000 ≤ d.ns)) = true
    let quiet (d : Dev) : Prop := d.sw.slots = [] ∧ d.sw.furrows = []
    (∀ a b : Bool,
      let fa (d : Dev) : Glitch := filt d a (d.enc n).a
      let fb (d : Dev) : Glitch := filt d b (d.enc n).b
      Runs (.quadratureCount n a b) (fun d => d.awake = true ∧ (d.enc n).ready = false)
        (fun d => d.onE n fun e => { e with a := ⟨a, a, d.ns⟩, b := ⟨b, b, d.ns⟩, ready := true }) ∧
      Runs (.quadratureCount n a b) (fun d => d.ck.ladder = .fallow ∨ d.ck.ladder = .dormant ∨ (d.ck.ladder = .nap ∧ d.ck.xrun = false)) (fun d => d) ∧
      Runs (.quadratureCount n a b) (fun d => live d ∧ (fa d).acc = (d.enc n).a.acc ∧ (fb d).acc = (d.enc n).b.acc)
        (fun d => d.onE n fun e => { e with a := fa d, b := fb d }) ∧
      Does (.quadratureCount n a b) (fun d => live d ∧ (fa d).acc ≠ (d.enc n).a.acc ∧ (fb d).acc ≠ (d.enc n).b.acc ∧ alone d) (fun d t =>
        t.enc n = { d.enc n with a := fa d, b := fb d, qerrs := d.ns :: recentNs d (d.enc n).qerrs } ∧ t.r (F.EN_STAT_LQ n) = 1 ∧
        t.r (F.EN_CNT_QERR n) = min (d.r (F.EN_CNT_QERR n) + 1) 65535 ∧ t = { d with regs := t.regs, en := t.en } ∧
        SameRegs [F.EN_STAT_LQ n, F.EN_CNT_QERR n] d t) ∧
      (∀ up : Bool,
        let turns (d : Dev) : Prop := live d ∧ (if up = (decide (d.r (F.EN_CFG_INV n) = 0)) then forward (d.enc n).a.acc (d.enc n).b.acc (fa d).acc (fb d).acc
          else forward (fa d).acc (fb d).acc (d.enc n).a.acc (d.enc n).b.acc)
        let counted (d t : Dev) : Prop := (t.enc n).pos = (if up = true then (d.enc n).pos + 1 else (d.enc n).pos + (2 ^ 48 - 1)) % 2 ^ 48 ∧
          (t.enc n).te = edgeTime d ∧ (t.enc n).lastEdge = some (edgeTime d) ∧ (t.enc n).any = true ∧ (t.enc n).a = fa d ∧ (t.enc n).b = fb d ∧
          (t.enc n).counts = d.tlt :: recent d (d.enc n).counts ∧ (t.enc n).net = (d.ns, (if cyc d (d.enc n).net.1 = cyc d d.ns then (d.enc n).net.2 else 0) + (if up = true then 1 else -1)) ∧ t.r (F.EN_STAT_DIR n) = (if up = true then 0 else 1) ∧
          t.r (F.EN_STAT_STOP n) = 0 ∧ t.r (F.EN_STAT_START n) = (if d.r (F.EN_STAT_STOP n) = 0 then d.r (F.EN_STAT_START n) else 1) ∧
          (∀ m, m ≠ n.val → t.enc m = d.enc m) ∧ t.mem = d.mem ∧ t.co = d.co
        Does (.quadratureCount n a b)
          (fun d => turns d ∧ alone d ∧ ((d.enc n).any = false ∨ (d.r (F.EN_STAT_DIR n) = 0 ↔ up = true)))
          (fun d t => counted d t ∧ (t.enc n).vel = (d.enc n).vel ∧ (t.enc n).edges = (edgeTime d :: (d.enc n).edges).take (held d) ∧
            t = { d with regs := t.regs, en := t.en } ∧
            SameRegs [F.EN_STAT_DIR n, F.EN_STAT_STOP n, F.EN_STAT_START n] d t) ∧
        Does (.quadratureCount n a b)
          (fun d => turns d ∧ alone d ∧ (d.enc n).any = true ∧ ¬(d.r (F.EN_STAT_DIR n) = 0 ↔ up = true) ∧ quiet d)
          (fun d t => counted d t ∧ (t.enc n).edges = [edgeTime d] ∧
            (t.enc n).vel = (if (d.enc n).upd ≠ 0 ∧ cyc d (d.enc n).updAt = cyc d d.ns ∧ d.r (F.EN_STAT_FROZEN n) = 0 then 0 else (d.enc n).vel) ∧ t.r (F.EN_STAT_REV n) = 1 ∧ t.r (F.EN_CNT_REVS n) = min (d.r (F.EN_CNT_REVS n) + 1) 65535 ∧
            t = { d with regs := t.regs, en := t.en } ∧
            SameRegs [F.EN_STAT_DIR n, F.EN_STAT_STOP n, F.EN_STAT_START n, F.EN_STAT_REV n, F.EN_CNT_REVS n] d t) ∧
        (∀ (k : Nat) (s : Slot),
          Does (.quadratureCount n a b)
            (fun d => turns d ∧ alone d ∧ (d.enc n).any = true ∧ ¬(d.r (F.EN_STAT_DIR n) = 0 ↔ up = true) ∧ d.sw.slots = [(k, s)] ∧ d.sw.furrows = [] ∧
              d.sw.pend = [] ∧ (s.st = .armed ∨ s.st = .set) ∧ d.r (F.SWF_CFG_SRC s.f) = n ∧ d.r (F.SWF_CFG_HEADEN s.f) = 0)
            (fun d t => counted d t ∧
              (200 ≤ sd s.tfire d.tlt → t.sl k = {} ∧ t.r F.SW_WDRAW_COUNT = min (d.r F.SW_WDRAW_COUNT + 1) (2 ^ 32 - 1) ∧ t.r F.DR_EV_WDRAW = 1) ∧
              (sd s.tfire d.tlt < 200 → t.sl k = { s with rev := true } ∧ t.r F.SW_EV_REV = 1 ∧ t.r F.SW_WDRAW_COUNT = d.r F.SW_WDRAW_COUNT))) ∧
        Does (.quadratureCount n a b)
          (fun d => turns d ∧ (d.enc n).zAt.any (fun x => decide (cyc d x.1 = cyc d d.ns)) = true ∧ d.r (F.EN_CFG_ZGATE n) = 0 ∧ quiet d)
          (fun _ t => (t.enc n).zpos = (t.enc n).pos ∧ t.r (F.EN_STAT_ZCAP n) = 1))) ∧
    (let due (d : Dev) : Prop := d.awake = true ∧ (d.enc n).upd ≠ d.tlt / 1000 + 1
     let now (d : Dev) : Nat := d.tlt / 1000 * 1000
     let stopt (d : Dev) : Int := (1000 * max (d.r (F.EN_BCFG_STOPT n)) 1 : Nat)
     let only (d t : Dev) : Prop := t = { d with regs := t.regs, en := t.en, sr := t.sr } ∧ (followsEpochs d = false → t.sr = d.sr) ∧ (∀ m, m ≠ n.val → t.enc m = d.enc m)
     (∀ x : Nat,
       let runs (d : Dev) : Prop := due d ∧ d.r (F.EN_STAT_FROZEN n) = 0 ∧ (d.enc n).lastEdge = some x ∧ -(stopt d) ≤ sd x (now d)
       Does (.velocityUpdate n) (fun d => runs d ∧ (d.enc n).edges.length < 2)
         (fun d t => t.enc n = { d.enc n with vel := 0, upd := d.tlt / 1000 + 1, updAt := d.ns } ∧ t.regs = d.regs ∧ only d t) ∧
       (∀ (e0 ek : Nat) (mid : List Nat),
         let first : Rat := ((1000 * (mid.length + 1) : Nat) : Rat) / ((sd e0 ek : Int) : Rat)
         let second (d : Dev) : Rat := 1000 / ((sd (now d) e0 : Int) : Rat)
         let mag (d : Dev) : Rat := if sd (now d) e0 ≤ 0 then first else min first (second d)
         let word (d : Dev) : Int := (if d.r (F.EN_STAT_DIR n) = 0 then 1 else -1) * ⌊mag d * 65536 + 1 / 2⌋
         Does (.velocityUpdate n) (fun d => runs d ∧ (d.enc n).edges = e0 :: (mid ++ [ek]) ∧ mid.length < max (d.r (F.EN_CFG_NAVG n)) 1)
           (fun d t => t.enc n = { d.enc n with vel := word d, upd := d.tlt / 1000 + 1, updAt := d.ns } ∧ t.regs = d.regs ∧ only d t)) ∧
       Does (.velocityUpdate n) (fun d => due d ∧ d.r (F.EN_STAT_FROZEN n) = 0 ∧ (d.enc n).lastEdge = some x ∧ sd x (now d) < -(stopt d) ∧ d.sw.slots = [])
         (fun d t => t.enc n = { d.enc n with vel := 0, edges := [], upd := d.tlt / 1000 + 1, updAt := d.ns } ∧ t.r (F.EN_STAT_STOP n) = 1 ∧ only d t ∧
           SameRegs [F.EN_STAT_STOP n] d t) ∧
       Does (.velocityUpdate n) (fun d => due d ∧ d.r (F.EN_STAT_FROZEN n) ≠ 0 ∧ over2 d ∧ (d.enc n).lastEdge = some x ∧ -(stopt d) ≤ sd x (now d))
         (fun d t => t.r (F.EN_STAT_FROZEN n) = 0 ∧ (t.enc n).vel = 0 ∧ (t.enc n).edges = [] ∧ (t.enc n).pos = (d.enc n).pos ∧ only d t)) ∧
     Does (.velocityUpdate n) (fun d => due d ∧ d.r (F.EN_STAT_FROZEN n) ≠ 0 ∧ ¬over2 d)
       (fun d t => t.enc n = { d.enc n with upd := d.tlt / 1000 + 1, updAt := d.ns } ∧ t.regs = d.regs ∧ only d t) ∧
     Runs (.velocityUpdate n) (fun d => (d.awake = false ∨ (d.enc n).upd = d.tlt / 1000 + 1) ∧ (d.r (F.EN_STAT_FROZEN n) = 0 ∨ ¬over2 d)) (fun d => d)) ∧
    (∀ cm : Bool,
      let begins (d : Dev) : Prop := d.awake = true ∧ burst d cm ∧ d.r (F.EN_STAT_BURST n) = 0 ∧ d.sw.slots = []
      Does (.burstOnset n cm) (fun d => begins d ∧ d.r (F.EN_STAT_FROZEN n) = 0) (fun d t =>
        t.enc n = { d.enc n with cm := cm, onset := d.ns, clear := none } ∧ t.r (F.EN_STAT_BURST n) = 1 ∧ t.r (F.EN_STAT_BURSTS n) = 1 ∧
        t.r (F.EN_STAT_FROZEN n) = 1 ∧ t = { d with regs := t.regs, en := t.en } ∧ SameRegs [F.EN_STAT_BURST n, F.EN_STAT_BURSTS n, F.EN_STAT_FROZEN n] d t) ∧
      Does (.burstOnset n cm) (fun d => begins d ∧ d.r (F.EN_STAT_FROZEN n) ≠ 0 ∧ over2 d) (fun d t =>
        t.enc n = { d.enc n with cm := cm, onset := d.ns, clear := none, edges := [] } ∧ t.r (F.EN_STAT_BURST n) = 1 ∧ t.r (F.EN_STAT_FROZEN n) = 1 ∧
        t = { d with regs := t.regs, en := t.en }) ∧
      Does (.burstOnset n cm) (fun d => begins d ∧ d.r (F.EN_STAT_FROZEN n) ≠ 0 ∧ ¬over2 d) (fun d t =>
        t.enc n = { d.enc n with cm := cm, clear := none } ∧ t.r (F.EN_STAT_BURST n) = 1 ∧ t.r (F.EN_STAT_BURSTS n) = 1 ∧ t = { d with regs := t.regs, en := t.en } ∧
        SameRegs [F.EN_STAT_BURST n, F.EN_STAT_BURSTS n] d t) ∧
      Runs (.burstOnset n cm) (fun d => d.awake = false ∨ ¬burst d cm ∨ d.r (F.EN_STAT_BURST n) ≠ 0) (fun d => d.onE n fun e => { e with cm := cm })) ∧
    Does (.burstClear n) (fun d => ¬burst d false ∧ d.r (F.EN_STAT_BURST n) ≠ 0) (fun d t =>
      t.enc n = { d.enc n with cm := false, clear := some d.ns } ∧ t.r (F.EN_STAT_BURST n) = 0 ∧ t = { d with regs := t.regs, en := t.en } ∧
        SameRegs [F.EN_STAT_BURST n] d t) ∧
    Runs (.burstClear n) (fun d => burst d false ∨ d.r (F.EN_STAT_BURST n) = 0) (fun d => d.onE n fun e => { e with cm := false }) ∧
    (Runs (.freezeEnd n) (fun d => d.r (F.EN_STAT_FROZEN n) ≠ 0 ∧ over2 d)
       (fun d => (d.clr (F.EN_STAT_FROZEN n)).onE n fun e => { e with edges := [], clear := none }) ∧
     Runs (.freezeEnd n) (fun d => d.r (F.EN_STAT_FROZEN n) = 0 ∨ ¬over2 d) (fun d => d)) ∧
    (∀ z : Bool,
      let gate (d : Dev) : Prop := d.r (F.EN_CFG_ZGATE n) = 0 ∨ ((d.enc n).a.acc = true ∧ (d.enc n).b.acc = true)
      let fz (d : Dev) : Glitch := filt d z (d.enc n).z
      let rises (d : Dev) : Prop := d.awake = true ∧ (d.enc n).zready = true ∧ (fz d).acc = true ∧ (d.enc n).z.acc = false
      let noted (d : Dev) : Option (Nat × Nat × Nat) := some (d.ns, (d.enc n).zpos, d.r (F.EN_STAT_ZCAP n))
      Runs (.zCapture (n, z)) (fun d => d.awake = true ∧ (d.enc n).zready = false) (fun d => d.onE n fun e => { e with z := ⟨z, z, d.ns⟩, zready := true }) ∧
      Runs (.zCapture (n, z)) (fun d => rises d ∧ gate d)
        (fun d => (d.set (F.EN_STAT_ZCAP n)).onE n fun e => { e with z := fz d, zAt := noted d, zpos := e.pos }) ∧
      Runs (.zCapture (n, z)) (fun d => rises d ∧ ¬gate d) (fun d => d.onE n fun e => { e with z := fz d, zAt := noted d }) ∧
      Runs (.zCapture (n, z)) (fun d => d.awake = true ∧ (d.enc n).zready = true ∧ ((fz d).acc = false ∨ (d.enc n).z.acc = true))
        (fun d => d.onE n fun e => { e with z := fz d })) ∧
    (let put (d : Dev) : Nat := d.r (F.EN_PSETL_POS n) + 2 ^ 32 * d.r (F.EN_PSETH_POS n)
     let met (d : Dev) : Int := if cyc d (d.enc n).net.1 = cyc d d.ns then (d.enc n).net.2 else 0
     let loads (d : Dev) : Dev := (((d.onE n fun e => { e with pos := (((put d : Nat) + met d) % (2 ^ 48 : Int)).toNat }).clr (F.EN_STAT_LQ n)).clr (F.EN_STAT_LN n)).clr (F.EN_STAT_LF n)
     Runs (.positionLoad n) (fun d => d.sw.furrows = []) loads ∧
     (∀ (f : Nat) (u : Furrow),
       let bound (d : Dev) : Prop := d.sw.furrows = [(f, u)] ∧ d.r (F.SWF_CFG_SRC f) = n
       Does (.positionLoad n) (fun d => bound d ∧ u.state = .sown) (fun d t => t.en = d.en ∧ bitAt (t.r F.SYS_LOCKV_TAG) Tag.en = true ∧
         (d.r F.SYS_LOCKV_TAG = 0 → t.r F.SYS_LOCKA_ADDR = 0x4000B02C + 0x40 * n) ∧ (d.r F.SYS_LOCKV_TAG ≠ 0 → t.r F.SYS_LOCKV_MULTI = 1) ∧
         SameRegs [F.SYS_LOCKV_TAG, F.SYS_LOCKA_ADDR, F.SYS_LOCKV_MULTI] d t ∧ t = { d with regs := t.regs, st := t.st }) ∧
       Does (.positionLoad n)
         (fun d => bound d ∧ met d = 0 ∧ u.state = .ready ∧ d.r (F.SWF_ATL_AT f) < 2 ^ 32 ∧ d.r (F.SWF_ATH_AT f) < 2 ^ 16 ∧ put d < 2 ^ 48 ∧ d.r (F.SWF_EVERY_EVERY f) < 2 ^ 32 ∧
           d.r (F.SWF_EVERY_EVERY f) ≠ 0)
         (fun d t => t.en = (loads d).en ∧ t.regs = (loads d).regs ∧ (t.fu f).state = .ready ∧ (t.fu f).miss = u.miss ∧ aheadOf (t.fu f).next (put d) = true ∧
           ∃ k : Nat, (t.fu f).next = (fAt d f + k * d.r (F.SWF_EVERY_EVERY f)) % 2 ^ 48 ∧
             (k = 0 ∨ aheadOf ((fAt d f + (k - 1) * d.r (F.SWF_EVERY_EVERY f)) % 2 ^ 48) (put d) = false))) ) ∧
    Runs (.enPositionRead n) (fun _ => True) (fun d => { d.w (F.EN_PH_POS n) ((d.enc n).pos / 2 ^ 32) with rd := (d.enc n).pos % 2 ^ 32 }) ∧
    Runs (.enZcaptureRead n) (fun _ => True) (fun d => { d.w (F.EN_ZPH_POS n) ((d.enc n).zpos / 2 ^ 32) with rd := (d.enc n).zpos % 2 ^ 32 }) ∧
    (let latched (p : Nat) (d : Dev) : Dev := { d.w F.EN_RPOSH_POS (p / 2 ^ 32) with rd := p % 2 ^ 32 }
     Runs .enRingPositionRead (fun d => d.r F.SR_STAT_STATE = 0) (latched 0) ∧
     Runs .enRingPositionRead (fun d => d.r F.SR_STAT_STATE ≠ 0 ∧ d.r F.SR_STAT_MASTER ≠ 0 ∧ d.r F.EN_RING_RSRC = n) (fun d => latched (d.enc n).pos d) ∧
     Runs .enRingPositionRead (fun d => d.r F.SR_STAT_STATE ≠ 0 ∧ d.r F.SR_STAT_MASTER = 0) (fun d => latched d.sr.shownPos d)) ∧
    Runs (.enCntClear n) (fun _ => True) (fun d => (d.w (F.EN_CNT_REVS n) 0).w (F.EN_CNT_QERR n) 0)

/-- ON of a FALLOW or FAULTED furrow makes its checks in the order ARG, PLOT, AIMING and, passed, leaves it READY with the first point ahead; in
another state it only cancels a pending OFF. OFF with no slot enters FALLOW at once, with one armed it waits; CLRCNT zeroes MISS, DEFER and OCC. A
configuration write to a SOWN furrow is a locked write; else the written fields change at once, and of MASK, BANK, PAGE0, PAGESM1 and CAP the
committed value follows at once in a headland of the bank and stays while an occurrence fires. A headland commits what waits for it, each write's
value with that write's own banks, and a forced one ends with its count and SW_EV.FHL; one is forced after 10 ms: FORCE on the furrows of the bank,
its ARMED slots withdrawn and deferred, a FIRING one left alone. Reads latch the high words and writes of the counts clear them. [R183; R303; R304;
R305; R306; R307; R310; R20; R21; R322; R324] -/
def Obligations.FurrowCommandsAndHeadlands : Prop :=
  ∀ f : Fin 256,
    let written (op : Nat) (d : Dev) : Dev := (d.w F.SW_FCMD_OP op).w F.SW_FCMD_F f
    let result (e : Nat) (d : Dev) : Dev := (d.w F.SW_FSTAT_ERR e).set F.SW_FSTAT_DONE
    let idle (d : Dev) : Prop := (d.fu f).state = .fallow ∨ (d.fu f).state = .faulted
    let usable (d : Dev) : Prop := d.r (F.SWF_CFG_BANK f) ≤ 5 ∧ d.r (F.SWF_CFG_MASK f) ≠ 0
    let mapped (d : Dev) : Prop := ∀ i, i ≤ d.r (F.SWF_PAGE_PAGESM1 f) → (d.pte f ((d.r (F.SWF_PAGE_PAGE0 f) + i) % 256)).v = true
    let first (d : Dev) : Nat := d.r (F.SWF_ATL_AT f) + 2 ^ 32 * d.r (F.SWF_ATH_AT f)
    let every (d : Dev) : Nat := if d.r (F.SWF_CFG_SRC f) = 3 ∧ d.r (F.SWF_EVERY_EVERY f) < 1000 then 1000 else d.r (F.SWF_EVERY_EVERY f)
    let now (d : Dev) : Nat := presentOf d (d.r (F.SWF_CFG_SRC f))
    let firstPoint (d : Dev) (p : Nat) : Prop := aheadOf p (now d) = true ∧ ∃ k : Nat, p = (first d + k * every d) % 2 ^ 48 ∧
      (k = 0 ∨ aheadOf ((first d + (k - 1) * every d) % 2 ^ 48) (now d) = false)
    let sane (d : Dev) : Prop := d.r (F.SWF_ATL_AT f) < 2 ^ 32 ∧ d.r (F.SWF_ATH_AT f) < 2 ^ 16 ∧ d.r (F.SWF_EVERY_EVERY f) < 2 ^ 32 ∧ now d < 2 ^ 48
    let fcmd : List Fld := [F.SW_FCMD_OP, F.SW_FCMD_F, F.SW_FSTAT_ERR, F.SW_FSTAT_DONE]
    let calm (d : Dev) : Prop := d.sw.pend = [] ∧ d.sw.forcing = [] ∧ d.com = [] ∧ d.ld.banks = [] ∧ d.tlt % 65536 ≤ 63536
    Runs (.swFcmdOn f) (fun d => idle d ∧ ¬usable d) (fun d => result 1 (written 1 d)) ∧
    Runs (.swFcmdOn f) (fun d => idle d ∧ usable d ∧ ¬mapped d) (fun d => result 2 (written 1 d)) ∧
    Runs (.swFcmdOn f) (fun d => idle d ∧ usable d ∧ mapped d ∧ d.r (F.LD_BSTAT_STATE (d.r (F.SWF_CFG_BANK f))) = 2) (fun d => result 3 (written 1 d)) ∧
    Does (.swFcmdOn f) (fun d => idle d ∧ usable d ∧ mapped d ∧ d.r (F.LD_BSTAT_STATE (d.r (F.SWF_CFG_BANK f))) ≠ 2 ∧ sane d)
      (fun d t => (t.fu f).state = .ready ∧ (t.fu f).offp = false ∧ (t.fu f).fcause = 0 ∧ (t.fu f).miss = (d.fu f).miss ∧ (t.fu f).defer = (d.fu f).defer ∧
        (t.fu f).occ = (d.fu f).occ ∧ (d.r (F.SWF_EVERY_EVERY f) ≠ 0 → firstPoint d (t.fu f).next) ∧
        (d.r (F.SWF_EVERY_EVERY f) = 0 → (t.fu f).next = first d) ∧ t.r F.SW_FSTAT_ERR = 0 ∧ t.r F.SW_FSTAT_DONE = 1 ∧ SameRegs fcmd d t ∧
        t.sw.slots = d.sw.slots ∧ t.sw.pend = d.sw.pend ∧ (∀ g, g ≠ f.val → t.fu g = d.fu g) ∧ t = { d with regs := t.regs, sw := t.sw }) ∧
    Runs (.swFcmdOn f) (fun d => ¬idle d) (fun d => result 0 ((written 1 d).onF f fun u => { u with offp := false })) ∧
    Runs (.swFcmdOff f) idle (fun d => result 0 (written 2 d)) ∧
    Does (.swFcmdOff f) (fun d => ¬idle d ∧ d.sw.slots = []) (fun d t => (t.fu f).state = .fallow ∧ (t.fu f).offp = false ∧ (t.fu f).needs = [] ∧
      (t.fu f).miss = (d.fu f).miss ∧ t.r F.SW_FSTAT_ERR = 0 ∧ t.r F.SW_FSTAT_DONE = 1 ∧ SameRegs fcmd d t ∧ (∀ g, g ≠ f.val → t.fu g = d.fu g) ∧
      t = { d with regs := t.regs, sw := t.sw, gr := t.gr }) ∧
    (∀ (k : Nat) (s : Slot), Runs (.swFcmdOff f) (fun d => ¬idle d ∧ d.sw.slots = [(k, s)] ∧ s.st ≠ .free ∧ s.f = f)
      (fun d => result 0 ((written 2 d).onF f fun u => { u with offp := true }))) ∧
    Runs (.swFcmdClrcnt f) (fun _ => True) (fun d => result 0 ((written 3 d).onF f fun u => { u with miss := 0, defer := 0, occ := 0 })) ∧
    (∀ (i : Fin 6) (v : Word),
      Does (.furrowConfigWrite f i v) (fun d => (d.fu f).state = .sown) (fun d t => bitAt (t.r F.SYS_LOCKV_TAG) Tag.sw = true ∧
        (d.r F.SYS_LOCKV_TAG = 0 → t.r F.SYS_LOCKA_ADDR = 0x40010000 + 64 * f + 4 * i) ∧ (d.r F.SYS_LOCKV_TAG ≠ 0 → t.r F.SYS_LOCKV_MULTI = 1) ∧
        SameRegs [F.SYS_LOCKV_TAG, F.SYS_LOCKA_ADDR, F.SYS_LOCKV_MULTI] d t ∧ t = { d with regs := t.regs, st := t.st }) ∧
      (∀ x : Fld, (i.val, x) ∈ [(1, F.SWF_ATL_AT f), (2, F.SWF_ATH_AT f), (3, F.SWF_EVERY_EVERY f), (5, F.SWF_SLACK_SLACK f)] →
        Does (.furrowConfigWrite f i v) (fun d => (d.fu f).state ≠ .sown) (fun d t => t.r x = v.toNat % 2 ^ x.width ∧ SameRegs [x] d t ∧
          t.fu f = { d.fu f with rebase := (d.fu f).rebase || (decide (i.val ≠ 5) && (decide ((d.fu f).state = .ready) || decide ((d.fu f).state = .held))) } ∧
          t.sw.slots = d.sw.slots ∧ (∀ g, g ≠ f.val → t.fu g = d.fu g) ∧ t = { d with regs := t.regs, sw := t.sw })) ∧
      (∀ x : Fld, (i.val, x) ∈ [(0, F.SWF_CFG_MASK f), (0, F.SWF_CFG_DIST f), (0, F.SWF_CFG_FAULT f), (0, F.SWF_CFG_CLASS f), (0, F.SWF_CFG_PRI f),
            (0, F.SWF_CFG_HEADEN f), (0, F.SWF_CFG_HEAD f), (0, F.SWF_CFG_BANK f), (0, F.SWF_CFG_SRC f), (4, F.SWF_PAGE_CAP f), (4, F.SWF_PAGE_PAGESM1 f),
            (4, F.SWF_PAGE_PAGE0 f)] →
        Does (.furrowConfigWrite f i v) (fun d => (d.fu f).state ≠ .sown ∧ calm d ∧ d.sw.slots = [] ∧ d.r (F.SWF_CFG_BANK f) < 8) (fun d t =>
          t.r x = v.toNat / 2 ^ x.lo % 2 ^ x.width ∧ t.cv x = t.r x ∧ t.com = [] ∧ t.sw.pend = [] ∧ (t.fu f).state = (d.fu f).state ∧ t.mem = d.mem))) ∧
    (∀ (v : Word) (x : Fld), x ∈ [F.SWF_PAGE_CAP f, F.SWF_PAGE_PAGESM1 f, F.SWF_PAGE_PAGE0 f] →
      Does (.furrowConfigWrite f 4 v) (fun d => (d.fu f).state ≠ .sown ∧ d.com = [] ∧ bankFiring d (d.r (F.SWF_CFG_BANK f)) = true) (fun d t =>
        t.r x = v.toNat / 2 ^ x.lo % 2 ^ x.width ∧ t.cv x = d.r x ∧ t.sw.slots = d.sw.slots ∧ t.fu f = d.fu f ∧
          SameRegs [F.SWF_PAGE_CAP f, F.SWF_PAGE_PAGESM1 f, F.SWF_PAGE_PAGE0 f] d t ∧ t = { d with regs := t.regs, sw := t.sw, com := t.com, ld := t.ld } ∧
          t.ld.sinks = d.ld.sinks ∧ (∀ b, { t.bo b with short := false } = { d.bo b with short := false }))) ∧
    Runs (.furrowNextRead f) (fun _ => True)
      (fun d => { d.onF f (fun u => { u with nextH := u.next / 2 ^ 32 }) with rd := (d.fu f).next % 2 ^ 32 }) ∧
    Runs (.furrowLastRead f) (fun _ => True)
      (fun d => { d.onF f (fun u => { u with lastH := u.last / 2 ^ 32 }) with rd := (d.fu f).last % 2 ^ 32 }) ∧
    (∀ k : Fin 64, Runs (.drTfireRead k) (fun _ => True)
      (fun d => { d.onS k (fun s => { s with fireH := s.tfire / 2 ^ 32 }) with rd := (d.sl k).tfire % 2 ^ 32 })) ∧
    Runs (.swCountClear 0) (fun _ => True) (fun d => d.w F.SW_MISS_COUNT 0) ∧
    Runs (.swCountClear 1) (fun _ => True) (fun d => d.w F.SW_DEFER_COUNT 0) ∧
    Runs (.swCountClear 2) (fun _ => True) (fun d => d.w F.SW_WDRAW_COUNT 0) ∧
    Runs .drFiredClear (fun _ => True) (fun d => d.w F.DR_FIRED_COUNT 0) ∧
    (∀ b : Fin 6, Runs (.swFhlClear b) (fun _ => True) (fun d => d.w (F.SW_FHL_COUNT b) 0) ∧
      (∀ (u : Furrow) (old t0 v : Nat),
        let cap : Fld := F.SWF_PAGE_CAP f
        let waits (d : Dev) : Prop := d.sw.pend = [⟨[b.val], .fields [(cap.key, v)]⟩] ∧ d.com = [(cap.key, old)] ∧ d.sw.waitSince = [(b.val, t0)] ∧ d.ld.banks = [] ∧
          d.tlt % 65536 ≤ 63536 ∧ d.sw.furrows = [(f.val, u)] ∧ d.r (F.SWF_CFG_BANK f) = b.val
        let forced (d : Dev) : Prop := d.sw.forcing = [] ∧ t0 + 10000000 ≤ d.ns
        let opened (d t : Dev) : Prop := t.cv cap = d.r cap ∧ t.com = [] ∧ t.sw.pend = [] ∧ t.sw.waitSince = [] ∧ t.sw.forcing = [] ∧ t.mem = d.mem
        let counted (d t : Dev) : Prop := t.r (F.SW_FHL_COUNT b) = min (d.r (F.SW_FHL_COUNT b) + 1) 65535 ∧ t.r F.SW_EV_FHL = 1
        Does (.headlandCommit b) (fun d => waits d ∧ d.sw.slots = [] ∧ d.sw.forcing = []) (fun d t => opened d t ∧ t.sw.furrows = d.sw.furrows ∧
          t.r (F.SW_FHL_COUNT b) = d.r (F.SW_FHL_COUNT b)) ∧
        Does (.headlandCommit b) (fun d => waits d ∧ d.sw.slots = [] ∧ d.sw.forcing = [b.val]) (fun d t => opened d t ∧ counted d t) ∧
        Runs (.headlandCommit b) (fun d => bankFiring d b = true) (fun d => d) ∧
        (∀ (b' w k : Nat) (s : Slot), b' ≠ b.val → s.st = .firing → s.bank = b' →
          Does (.headlandCommit b) (fun d => d.sw.pend = [⟨[b.val], .fields [(cap.key, v)]⟩, ⟨[b.val, b'], .fields [(cap.key, w)]⟩] ∧ d.com = [(cap.key, old)] ∧
              d.sw.slots = [(k, s)] ∧ d.ld.banks = [] ∧ d.tlt % 65536 ≤ 63536)
            (fun d t => t.cv cap = v ∧ t.r cap = d.r cap ∧ t.sw.pend = [⟨[b.val, b'], .fields [(cap.key, w)]⟩] ∧ t.sw.slots = d.sw.slots ∧ t.mem = d.mem)) ∧
        (∀ (k : Nat) (s : Slot),
          Does (.forcedHeadland b) (fun d => waits d ∧ forced d ∧ d.sw.slots = [(k, s)] ∧ s.st = .firing ∧ s.bank = b.val) (fun d t => t.sw.forcing = [b.val] ∧
            t.fu f = u ∧ bitAt (holdBits t f) 5 = true ∧ t.sw.slots = d.sw.slots ∧ t.sw.pend = d.sw.pend ∧ t.regs = d.regs ∧ t = { d with sw := t.sw }) ∧
          Does (.forcedHeadland b) (fun d => waits d ∧ forced d ∧ d.sw.slots = [(k, s)] ∧ s.st = .armed ∧ s.bank = b.val ∧ s.f = f.val ∧
              sd s.tfire d.tlt < 4000 ∧ d.r (F.SWF_CFG_HEADEN f) = 0 ∧ s.pos ∉ u.deferred)
            (fun d t => t.sl k = {} ∧ opened d t ∧ counted d t ∧ (t.fu f).defer = min (u.defer + 1) (2 ^ 32 - 1) ∧
              t.r F.SW_WDRAW_COUNT = min (d.r F.SW_WDRAW_COUNT + 1) (2 ^ 32 - 1) ∧ t.r F.SW_DEFER_COUNT = min (d.r F.SW_DEFER_COUNT + 1) (2 ^ 32 - 1))) ∧
        Runs (.forcedHeadland b) (fun d => d.sw.waitSince = [(b.val, t0)] ∧ d.ns < t0 + 10000000) (fun d => d)))

/-- The sweep and the refill lane make the same evaluation. A FALLOW or FAULTED furrow, or a ladder state below Hold, changes nothing; an OFF-pending
furrow or a disabled Sower arms nothing and forms the needs alone. A READY time furrow without a head whose next point lies in the horizon and before
its deadline, and whose point after that lies beyond the horizon, is armed with the full scale where no hold cause stands, nothing is booked and its
channels are cool: the slot has the fire time P, the set moment P - 1000, the furrow's bank and the pages from START for its span, NEXT is the
following point and the furrow is SOWN. With the FCLK cycle of the deadline over the point is skipped as a miss with cause slack, and with a hold
cause it is deferred once and the furrow is HELD. A slot becomes SET at its set moment with the plots of its pages, which may still arrive in that
FCLK cycle; with a page not resident after it, it is freed as a miss under SKIP and takes page PAGE0 alone under FALLBACK. At its fire time it becomes
FIRING and is counted; a second occurrence of its bank that fires, or one of higher priority at the same time, makes it a miss with DR_EV.CANCEL. An
invalid step or the end of the span without LAST makes the furrow FAULTED with the cause 1 or 2; a dark step of a fallow bank only takes its time; and
a pulse ends after WIDTH, the next step starting GAP later, a LAST one freeing the slot. [R311; R312; R313; R316; R318; R320; R323; R324; R331; R332;
R333; R339] -/
def Obligations.EvaluationAndDrill : Prop :=
  ∀ (f : Fin 256) (u : Furrow) (p : Nat),
    let next (d : Dev) : Nat := (p + d.r (F.SWF_EVERY_EVERY f)) % 2 ^ 48
    let bank (d : Dev) : Nat := d.r (F.SWF_CFG_BANK f)
    let deadline (d : Dev) : Nat := (p + 2 ^ 48 - max (min (d.r (F.SWF_SLACK_SLACK f)) 1000000) 1000) % 2 ^ 48
    let sows (d : Dev) : Prop := d.ck.ladder = .run ∧ d.r F.SW_CTL_EN = 1 ∧ d.sw.frozen = false ∧ d.r F.CK_STAT_PLLLOCK = 1 ∧ d.r F.CK_STAT_UNLOCK = 0 ∧
      d.r F.CK_ROOT_BUSY = 0 ∧ d.sw.slots = [] ∧ d.com = [] ∧ d.sw.furrows = [(f.val, u)] ∧ u.state = .ready ∧ u.offp = false ∧ u.rebase = false ∧ u.more = true ∧
      u.budget = false ∧ u.slots = false ∧ u.deferred = [] ∧ u.next = p ∧ p < 2 ^ 48 ∧ d.r (F.SWF_CFG_SRC f) = 3 ∧ d.r (F.SWF_CFG_HEADEN f) = 0 ∧
      bank d ≤ 5 ∧ 1000 ≤ d.r (F.SWF_EVERY_EVERY f) ∧ 10000 ≤ d.r F.SW_HZN_HZN ∧ d.r F.SW_HZN_HZN ≤ 1000000 ∧ 0 < sd p d.tlt ∧ sd p d.tlt ≤ d.r F.SW_HZN_HZN ∧
      d.r F.SW_HZN_HZN < sd (next d) d.tlt
    let cyc (x : Nat) (d : Dev) : Nat := (x + d.ck.phase) / 4
    let timeOf (x : Nat) (d : Dev) : Nat := ((d.ns : Int) + sd x d.tlt).toNat
    let early (d : Dev) : Prop := 0 < sd (deadline d) d.tlt
    let cool (d : Dev) : Prop := d.r (F.BD_FQ_QOCC f) = 0 ∧ ∀ c, c < 64 → testOf d c < d.r (F.BD_BTH_TMAX (bank d)) ∧ testOf d c < d.r (F.BD_BTH_TWARN (bank d))
    let span (d : Dev) : List Nat := (List.range (min (d.r (F.GR_CUR_SPANM1 f) + 1) (d.r (F.SWF_PAGE_PAGESM1 f) + 1 - d.r (F.GR_CUR_START f)))).map
      fun i => (d.r (F.SWF_PAGE_PAGE0 f) + d.r (F.GR_CUR_START f) + i) % 256
    let sown (d : Dev) : Slot := { st := .armed, f := f, tfire := p, tset := (p + 2 ^ 48 - 1000) % 2 ^ 48, pos := p, bank := bank d, pages := span d, born := d.ns }
    let kept (d t : Dev) : Prop := t.mem = d.mem ∧ t.en = d.en ∧ t.hp = d.hp ∧ t.co = d.co ∧ t.ld = d.ld ∧ t.ns = d.ns ∧ t.tlt = d.tlt
    (∀ s : State, exec (.refillEvaluation f) s = exec (.furrowEvaluation f) s) ∧
    (∀ c : Instr, c = .furrowEvaluation f ∨ c = .refillEvaluation f →
      Runs c (fun d => (d.ck.ladder ≠ .run ∧ d.ck.ladder ≠ .hold) ∨ (d.fu f).state = .fallow ∨ (d.fu f).state = .faulted) (fun d => d) ∧
      Does c (fun d => d.ck.ladder = .run ∧ ((d.fu f).state = .ready ∨ (d.fu f).state = .sown ∨ (d.fu f).state = .held) ∧
          (d.r F.SW_CTL_EN = 0 ∨ d.sw.frozen = true ∨ (d.fu f).offp = true))
        (fun d t => t.fu f = { d.fu f with needs := needsOf d f } ∧ (∀ g, g ≠ f.val → t.fu g = d.fu g) ∧ t.sw.slots = d.sw.slots ∧ kept d t) ∧
      Does c (fun d => sows d ∧ early d ∧ holdBits d f = 0 ∧ cool d ∧ d.r (F.GR_CUR_ADV f) = 0 ∧
          d.r (F.GR_CUR_START f) ≤ d.r (F.SWF_PAGE_PAGESM1 f))
        (fun d t => t.sl 0 = sown d ∧ t.sw.slots.length = 1 ∧
          (t.fu f).state = .sown ∧ (t.fu f).next = next d ∧ (t.fu f).miss = u.miss ∧ (t.fu f).occ = u.occ ∧ t.bd = (windowRoll d).bd ∧ kept d t) ∧
      Does c (fun d => sows d ∧ cyc (timeOf (deadline d) d) d < cyc d.ns d ∧ holdBits d f = 0)
        (fun d t => t.sw.slots = [] ∧ (t.fu f).state = .ready ∧ (t.fu f).next = next d ∧ (t.fu f).miss = min (u.miss + 1) (2 ^ 32 - 1) ∧
          t.r F.SW_MISS_COUNT = min (d.r F.SW_MISS_COUNT + 1) (2 ^ 32 - 1) ∧ t.r F.SW_EV_MISS = 1 ∧
          (d.r F.SW_QEN_MISS ≠ 0 → evStaged d < 16 → t.q1.staged = d.q1.staged ++ [(7, evBytes Tag.sw 1 f d.tlt 1)]) ∧ kept d t) ∧
      Does c (fun d => sows d ∧ early d ∧ holdBits d f ≠ 0)
        (fun d t => t.sw.slots = [] ∧ (t.fu f).state = .held ∧ (t.fu f).next = p ∧ (t.fu f).miss = u.miss ∧ (t.fu f).defer = min (u.defer + 1) (2 ^ 32 - 1) ∧
          (t.fu f).deferred = [p] ∧ t.r F.SW_DEFER_COUNT = min (d.r F.SW_DEFER_COUNT + 1) (2 ^ 32 - 1) ∧ kept d t)) ∧
    (∀ (k : Fin 64) (s : Slot),
      let one (d : Dev) : Prop := d.sw.slots = [(k.val, s)] ∧ s.f = f ∧ d.r (F.SWF_CFG_HEADEN f) = 0 ∧ d.sw.pend = [] ∧ d.sw.forcing = []
      let sets (d : Dev) : Prop := one d ∧ s.st = .armed ∧ sd s.tset d.tlt ≤ 0
      let fires (d : Dev) : Prop := s.st = .set ∧ s.f = f ∧ sd s.tfire d.tlt ≤ 0 ∧ darkened d = false ∧ d.r (F.SWF_CFG_HEADEN f) = 0
      let missed (d t : Dev) : Prop := t.sl k = {} ∧ (t.fu f).miss = min ((d.fu f).miss + 1) (2 ^ 32 - 1) ∧
        t.r F.SW_MISS_COUNT = min (d.r F.SW_MISS_COUNT + 1) (2 ^ 32 - 1) ∧ t.r F.SW_EV_MISS = 1 ∧ t.mem = d.mem
      let late (d : Dev) : Prop := cyc (timeOf s.tset d) d < cyc d.ns d
      (∀ plots : List Nat, Runs (.slotSet k) (fun d => sets d ∧ s.pages.map (residentOf d f) = plots.map some ∧
          (∀ q ∈ plots, cyc (d.pl q).came d ≤ cyc (timeOf s.tset d) d))
        (fun d => d.onS k fun s => { s with st := .set, plots := plots })) ∧
      Runs (.slotSet k) (fun d => (d.sl k).st ≠ .armed ∨ 0 < sd (d.sl k).tset d.tlt) (fun d => d) ∧
      (∀ g : Nat,
        Runs (.slotSet k) (fun d => sets d ∧ ¬ late d ∧ s.pages = [g] ∧ residentOf d f g = none) (fun d => d) ∧
        Does (.slotSet k) (fun d => sets d ∧ late d ∧ s.pages = [g] ∧ residentOf d f g = none ∧ d.r (F.SWF_CFG_FAULT f) = 0) (fun d t =>
          missed d t ∧ t.r F.GR_CNT_FAULTS = min (d.r F.GR_CNT_FAULTS + 1) 65535 ∧
          (∀ q, plotOf d f g = some q → t.r F.GR_EV_LATE = 1 ∧ t.r F.GR_EV_FAULT = d.r F.GR_EV_FAULT)) ∧
        (∀ q : Nat, Does (.slotSet k) (fun d => sets d ∧ late d ∧ s.pages = [g] ∧ residentOf d f g = none ∧ d.r (F.SWF_CFG_FAULT f) = 1 ∧ d.com = [] ∧
            residentOf d f (d.r (F.SWF_PAGE_PAGE0 f)) = some q)
          (fun d t => t.sl k = { s with st := .set, pages := [d.r (F.SWF_PAGE_PAGE0 f)], plots := [q], sub := true } ∧ t.sw.furrows = d.sw.furrows ∧
            t.r F.GR_CNT_FAULTS = min (d.r F.GR_CNT_FAULTS + 1) 65535 ∧ t.r F.SW_MISS_COUNT = d.r F.SW_MISS_COUNT ∧ t.mem = d.mem))) ∧
      Does (.slotFire k) (fun d => fires d ∧ one d ∧ d.r (F.SWF_CFG_SRC f) = 3 ∧ d.r (F.SWF_CFG_FAULT f) ≠ 2)
        (fun d t => t.sl k = { s with st := .firing, start := d.ns - (sd d.tlt s.tfire).toNat, step := 0, pulse := false, prev := none } ∧
          (t.fu f).occ = min ((d.fu f).occ + 1) (2 ^ 32 - 1) ∧ (t.fu f).last = s.tfire ∧ t.r F.DR_FIRED_COUNT = min (d.r F.DR_FIRED_COUNT + 1) (2 ^ 32 - 1) ∧
          t.r F.DR_EV_FIRED = 1 ∧ t.r F.DR_STAT_LASTK = k ∧ (s.sub = true → t.r F.GR_EV_SUBST = 1) ∧ t.mem = d.mem ∧
          (d.awake = true → (∀ n, n < 8 → peTicked d n = none) → (∀ n, n < 8 → (t.eng n).fire = true) ∧
            SameRegs [F.DR_FIRED_COUNT, F.DR_EV_FIRED, F.DR_STAT_LASTK, F.GR_EV_SUBST] d t ∧ t = { d with regs := t.regs, sw := t.sw, pe := t.pe })) ∧
      (∀ (j : Nat) (x : Slot), j ≠ k.val →
        Does (.slotFire k) (fun d => fires d ∧ d.sw.slots = [(k.val, s), (j, x)] ∧ d.sw.pend = [] ∧ x.bank = s.bank ∧
            (x.st = .firing ∨ (x.st = .set ∧ x.tfire = s.tfire ∧ d.r (F.SWF_CFG_PRI f) < d.r (F.SWF_CFG_PRI x.f))))
          (fun d t => missed d t ∧ t.sl j = x ∧ t.r F.DR_EV_CANCEL = 1 ∧ t.r F.DR_FIRED_COUNT = d.r F.DR_FIRED_COUNT)) ∧
      Runs (.slotFire k) (fun d => (d.sl k).st ≠ .set ∨ 0 < sd (d.sl k).tfire d.tlt) (fun d => d) ∧
      (∀ q : Nat,
        let at0 : Nat := 0x30000000 + 1024 * q + 16 * (s.step % 64)
        let steps (d : Dev) : Prop := one d ∧ s.st = .firing ∧ s.pulse = false ∧ s.start ≤ d.ns ∧ s.trigs = [] ∧ s.sag = false ∧ s.burst = false ∧ s.ring = false ∧
          s.verdict = none ∧ s.deliv ≤ s.q ∧ d.ld.banks = [] ∧ d.tlt % 65536 ≤ 63536
        let faulted (c : Nat) (d t : Dev) : Prop := t.sl k = {} ∧ (t.fu f).state = .faulted ∧ (t.fu f).fcause = c ∧ t.r F.SW_EV_FAULT = 1 ∧ t.mem = d.mem
        Does (.patternStepStart k) (fun d => steps d ∧ s.plots[s.step / 64]? = some q ∧ (d.load 3 at0 < 100 ∨ d.load 16 at0 / 2 ^ 79 ≠ 0)) (faulted 1) ∧
        Does (.patternStepStart k) (fun d => steps d ∧ s.plots[s.step / 64]? = none) (faulted 2) ∧
        Runs (.patternStepStart k) (fun d => one d ∧ s.st = .firing ∧ s.pulse = false ∧ s.start ≤ d.ns ∧ s.prev = none ∧ s.plots[s.step / 64]? = some q ∧
            100 ≤ d.load 3 at0 ∧ d.load 16 at0 / 2 ^ 79 = 0 ∧ d.r (F.LD_BSTAT_STATE s.bank) = 1)
          (fun d => d.onS k fun s => { s with pulse := true, cur := stepAt d q (s.step % 64), ext := 0, tripped := false }) ∧
        Runs (.patternStepStart k) (fun d => (d.sl k).st ≠ .firing ∨ (d.sl k).pulse = true ∨ d.ns < (d.sl k).start) (fun d => d) ∧
        (let ends (d : Dev) : Prop := one d ∧ s.st = .firing ∧ s.pulse = true ∧ s.start + s.cur.width ≤ d.ns ∧ s.sag = false ∧ s.burst = false ∧ s.ring = false ∧
            s.verdict = none ∧ s.trigs = [] ∧ d.ld.sinks = [] ∧ d.ld.banks = []
         Does (.pulseEnd k 0) (fun d => ends d ∧ s.cur.last = true ∧ s.deliv ≤ s.q) (fun d t => t.sl k = {} ∧ t.sw.slots = [] ∧ t.r (F.LD_BSTAT_LIT s.bank) = 0 ∧
           t.bd = d.bd ∧ t.mem = d.mem ∧ t.hp = d.hp ∧ t.q1 = d.q1 ∧ t.r F.SW_MISS_COUNT = d.r F.SW_MISS_COUNT) ∧
         Does (.pulseEnd k 0) (fun d => ends d ∧ s.cur.last = false ∧ s.plots[(s.step + 1) / 64]? = some q ∧ s.cur.scanEn = false) (fun d t =>
           t.sl k = { s with pulse := false, step := s.step + 1, start := s.start + s.cur.width + s.cur.gap, prev := some s.cur, ext := 0,
                              last := some (s.start, s.start + s.cur.width) } ∧
           t.r (F.LD_BSTAT_LIT s.bank) = 0 ∧ SameRegs [F.LD_BSTAT_LIT s.bank] d t ∧ t = { d with regs := t.regs, sw := t.sw })) ∧
        Runs (.pulseEnd k 0) (fun d => (d.sl k).st ≠ .firing ∨ (d.sl k).pulse = false ∨ d.ns < (d.sl k).start + (d.sl k).cur.width) (fun d => d)))

/-- A write of GR_PTE writes the entry that GR_PTIDX names and clears its ERR; one that clears V is a locked write unless the furrow is FALLOW, and
then releases the page's plot and ends its pin; a changed address of a held page releases the plot at the bank's next headland. PIN and FETCH of an
unmapped page end with ERR 1, without a device with 4; PIN of a held page marks its plot, at 384 pins it ends with 2; a page not held takes the lowest
FREE plot and, with no urgent need and a place free, its fetch a place, and the command is done; UNPIN leaves the page resident; while BUSY a write is
ignored. A page that has arrived stands in its plot, RESIDENT, its place is free, the fetch counts and GR_EV.DONE is set, and in the FCLK cycle of its
deadline the tie is recorded; a failed one, by an absent device or an address beyond the device, frees the plot, sets ERR in the entry and GR_EV.ERR.
A write of GR_CNT clears both counts. [R333; R334; R335; R336; R337; R338; R341; R183; R20] -/
def Obligations.GranaryAndGleaner : Prop :=
  ∀ f g : Fin 256,
    let quiet (d : Dev) : Prop := d.sw.furrows = []
    let entry (d : Dev) : Pte := d.pte f g
    let names (d : Dev) : Prop := d.r F.GR_PTIDX_F = f.val ∧ d.r F.GR_PTIDX_PAGE = g.val
    let put (v : Word) : Pte := ⟨v.getLsbD 31, false, v.toNat / 2 ^ 24 % 4, v.toNat % 2 ^ 18⟩
    let others (d t : Dev) : Prop := ∀ i j : Fin 256, (i, j) ≠ (f, g) → t.pte i j = d.pte i j
    let holds (p : Nat) (x : Plot) (d : Dev) : Prop := d.gr.plots = [(p, x)] ∧ x.st ≠ .free ∧ x.f = f ∧ x.page = g
    let none1 (d : Dev) : Prop := d.gr.plots = [] ∧ d.gr.places = []
    (∀ v : Word,
      Does (.grPteWrite v) (fun d => names d ∧ d.gr.plots = [] ∧ ((entry d).v = false ∨ v.getLsbD 31 = true ∨ (d.fu f).state = .fallow)) (fun d t =>
        t.pte f g = put v ∧ others d t ∧ t.gr.plots = [] ∧ t.gr.places = d.gr.places ∧ t.regs = d.regs ∧ t = { d with gr := t.gr }) ∧
      Does (.grPteWrite v) (fun d => names d ∧ (entry d).v = true ∧ v.getLsbD 31 = false ∧ (d.fu f).state ≠ .fallow) (fun d t => t.gr = d.gr ∧
        bitAt (t.r F.SYS_LOCKV_TAG) Tag.gr = true ∧ (d.r F.SYS_LOCKV_TAG = 0 → t.r F.SYS_LOCKA_ADDR = 0x4000E018) ∧
        SameRegs [F.SYS_LOCKV_TAG, F.SYS_LOCKA_ADDR, F.SYS_LOCKV_MULTI] d t ∧ t = { d with regs := t.regs, st := t.st }) ∧
      (∀ (p : Nat) (x : Plot),
        Does (.grPteWrite v) (fun d => names d ∧ holds p x d ∧ v.getLsbD 31 = false ∧ (d.fu f).state = .fallow) (fun d t =>
          t.pte f g = put v ∧ t.pl p = { stamp := x.stamp } ∧ pinCount t = 0 ∧ t.regs = d.regs ∧ t.mem = d.mem) ∧
        Does (.grPteWrite v) (fun d => names d ∧ holds p x d ∧ (entry d).v = true ∧ v.getLsbD 31 = true ∧
            ((entry d).sel ≠ v.toNat / 2 ^ 24 % 4 ∨ (entry d).addr ≠ v.toNat % 2 ^ 18) ∧ bankFiring d (d.r (F.SWF_CFG_BANK f)) = true)
          (fun d t => t.pte f g = put v ∧ t.pl p = x ∧ t.sw.pend = d.sw.pend ++ [⟨[d.r (F.SWF_CFG_BANK f)], .release p⟩] ∧ t.regs = d.regs ∧ t.mem = d.mem) ∧
        Does (.grPteWrite v) (fun d => names d ∧ holds p x d ∧ (entry d).v = true ∧ v.getLsbD 31 = true ∧
            ((entry d).sel ≠ v.toNat / 2 ^ 24 % 4 ∨ (entry d).addr ≠ v.toNat % 2 ^ 18) ∧ d.sw.slots = [] ∧ d.sw.pend = [] ∧ d.sw.forcing = [] ∧ d.ld.banks = [] ∧
            d.tlt % 65536 ≤ 63536)
          (fun d t => t.pte f g = put v ∧ (t.pl p).st = .free ∧ (t.pl p).pin = false ∧ t.sw.pend = [] ∧ t.mem = d.mem) ∧
        Does (.grPteWrite v) (fun d => names d ∧ holds p x d ∧ (entry d).v = true ∧ v.getLsbD 31 = true ∧ (entry d).sel = v.toNat / 2 ^ 24 % 4 ∧
            (entry d).addr = v.toNat % 2 ^ 18)
          (fun d t => t.pte f g = put v ∧ t.pl p = x ∧ t.regs = d.regs ∧ t = { d with gr := t.gr }))) ∧
    (let asked (op : Nat) (d : Dev) : Dev := ((d.w F.GR_CMD_OP op).w F.GR_CMD_F f).w F.GR_CMD_PAGE g
     let done (e : Nat) (d : Dev) : Dev :=
       { ((d.w F.GR_CSTAT_ERR e).set F.GR_CSTAT_DONE).w F.GR_CSTAT_BUSY 0 with gr := { d.gr with waiting := none } }
     let free (d : Dev) : Prop := d.gr.waiting = none
     let there (d : Dev) : Prop := (entry d).v = true ∧ d.r (F.SP_ID_PRESENT (entry d).sel) ≠ 0
     let fetches (d t : Dev) : Prop := t.pl 0 = { st := .loading, pin := (t.pl 0).pin, f := f, page := g, stamp := d.gr.stamp } ∧
       t.gr.places = [⟨f, g, 0, none, false⟩] ∧ t.gr.waiting = none ∧ t.r F.GR_CSTAT_ERR = 0 ∧ t.r F.GR_CSTAT_DONE = 1 ∧ t.r F.GR_CSTAT_BUSY = 0 ∧
       SameRegs [F.GR_CMD_OP, F.GR_CMD_F, F.GR_CMD_PAGE, F.GR_CSTAT_ERR, F.GR_CSTAT_DONE, F.GR_CSTAT_BUSY] d t ∧ t = { d with regs := t.regs, gr := t.gr }
     Runs (.grCmdPin f g) (fun d => free d ∧ (entry d).v = false) (fun d => done 1 (asked 1 d)) ∧
     Runs (.grCmdPin f g) (fun d => free d ∧ (entry d).v = true ∧ d.r (F.SP_ID_PRESENT (entry d).sel) = 0) (fun d => done 4 (asked 1 d)) ∧
     Runs (.grCmdFetch f g) (fun d => free d ∧ (entry d).v = false) (fun d => done 1 (asked 3 d)) ∧
     Runs (.grCmdFetch f g) (fun d => free d ∧ (entry d).v = true ∧ d.r (F.SP_ID_PRESENT (entry d).sel) = 0) (fun d => done 4 (asked 3 d)) ∧
     (∀ (p : Nat) (x : Plot),
       Runs (.grCmdPin f g) (fun d => free d ∧ there d ∧ holds p x d ∧ x.pin = false) (fun d => done 0 ((asked 1 d).onP p fun x => { x with pin := true })) ∧
       Runs (.grCmdPin f g) (fun d => free d ∧ there d ∧ holds p x d ∧ x.pin = true) (fun d => done 0 (asked 1 d)) ∧
       Runs (.grCmdFetch f g) (fun d => free d ∧ there d ∧ holds p x d) (fun d => done 0 (asked 3 d)) ∧
       Runs (.grCmdUnpin f g) (fun d => free d ∧ holds p x d) (fun d => done 0 ((asked 2 d).onP p fun x => { x with pin := false }))) ∧
     Runs (.grCmdPin f g) (fun d => free d ∧ there d ∧ 384 ≤ pinCount d ∧ plotOf d f g = none) (fun d => done 2 (asked 1 d)) ∧
     Runs (.grCmdUnpin f g) (fun d => free d ∧ plotOf d f g = none) (fun d => done (if (entry d).v = true then 0 else 1) (asked 2 d)) ∧
     Does (.grCmdPin f g) (fun d => free d ∧ there d ∧ none1 d ∧ quiet d ∧ d.r F.GR_CTL_EN ≠ 0) (fun d t => fetches d t ∧ (t.pl 0).pin = true) ∧
     Does (.grCmdFetch f g) (fun d => free d ∧ there d ∧ none1 d ∧ quiet d ∧ d.r F.GR_CTL_EN ≠ 0) (fun d t => fetches d t ∧ (t.pl 0).pin = false) ∧
     Does (.grCmdFetch f g) (fun d => free d ∧ there d ∧ none1 d ∧ d.r F.GR_CTL_EN = 0) (fun d t => t.gr.waiting = some ⟨3, f, g⟩ ∧ t.r F.GR_CSTAT_BUSY = 1 ∧
       t.gr.plots = [] ∧ t.gr.places = [] ∧ t.r F.GR_CSTAT_DONE = d.r F.GR_CSTAT_DONE) ∧
     (∀ c : GrCmd, Runs (.grCmdPin f g) (fun d => d.gr.waiting = some c) (fun d => d) ∧ Runs (.grCmdUnpin f g) (fun d => d.gr.waiting = some c) (fun d => d) ∧
       Runs (.grCmdFetch f g) (fun d => d.gr.waiting = some c) (fun d => d))) ∧
    (∀ (p : Nat) (x : Plot) (w : Fetch),
      let fetched (d : Dev) : Prop := d.gr.plots = [(p, x)] ∧ x.st = .loading ∧ p < 512 ∧ d.gr.places = [w] ∧ w.f = f ∧ w.page = g ∧ w.plot = p ∧ quiet d ∧
        d.gr.waiting = none ∧ d.sw.slots = []
      let base : Nat := 0x30000000 + 1024 * p
      let inTie (d : Dev) : Prop := ∃ e, w.deadline = some e ∧ (((d.ns : Int) + sd e d.tlt).toNat + d.ck.phase) / 4 = (d.ns + d.ck.phase) / 4
      (∀ bytes : Bytes, bytes.length = 1024 →
        Does (.pageArrival f g bytes) (fun d => fetched d ∧ w.onBus = true ∧ ∃ o, d.sp.bus = some o ∧ o.op = .page f g ∧ o.stop ≤ d.ns) (fun d t =>
          (∀ i, i < 1024 → (t.byte (base + i)).toNat = (Bytes.nats bytes).getD i 0) ∧ SameBytes base 1024 d t ∧
          t.pl p = { x with st := .resident, rsv := false, stamp := d.gr.stamp, came := d.ns } ∧ t.gr.places = [] ∧
          t.r F.GR_CNT_FETCHES = min (d.r F.GR_CNT_FETCHES + 1) 65535 ∧ t.r F.GR_EV_DONE = 1 ∧
          (¬ inTie d → SameRegs [F.GR_CNT_FETCHES, F.GR_EV_DONE] d t) ∧ (inTie d → t.r F.GR_STAT_COIN = 1 ∧ bitAt (t.r F.SYS_COIN_TAG) Tag.gr = true) ∧
          t = { d with regs := t.regs, gr := t.gr, mem := t.mem }) ∧
        Runs (.pageArrival f g bytes) (fun d => d.gr.places = [] ∨ (d.gr.places = [w] ∧ w.f = f ∧ w.page = g ∧ w.onBus = false)) (fun d => d)) ∧
      Does (.pageFetchFailed f g) (fun d => fetched d ∧ w.onBus = false ∧
          (d.r (F.SP_ID_PRESENT (entry d).sel) = 0 ∨ d.r (F.SP_SEL_GEN (entry d).sel) = 0 ∨ withinSel d (entry d).sel (1024 * (entry d).addr) 1024 = false) ∧ d.r F.GR_QEN_ERROR ≠ 0 ∧ evStaged d < 16) (fun d t =>
        (t.pl p).st = .free ∧ t.gr.places = [] ∧ t.pte f g = { d.pte f g with err := true } ∧ others d t ∧ t.r F.GR_EV_ERR = 1 ∧ t.mem = d.mem ∧
        t.q1.staged = d.q1.staged ++ [(7, evBytes Tag.gr 2 f d.tlt (g + 768))]) ∧
      Runs (.pageFetchFailed f g) (fun d => d.gr.places = []) (fun d => d)) ∧
    Runs .grCntClear (fun _ => True) (fun d => (d.w F.GR_CNT_FAULTS 0).w F.GR_CNT_FETCHES 0)

/-- A step drives each named channel in service at floor(min(LEVEL, CAP, channel CAP) x SCALE / 1024), and the booster at its capped code. A bank
asserts its line from SLEAD before the step, records XSCAN where another bank holds a different line, and reports a line overloaded after 200 ns; a
line due in the TCLK cycle that ends its occurrence is asserted and goes off with it. 100 ns after the start of a pulse REG follows regulation, and a
driven sink of code 40 or more, low and out of regulation, is open unless the comparator tripped; a short comes 50 ns after the rise window at the
soonest: the channel is off, its state, fault bit, count and record follow. A booster below 25 % of its setpoint, or above its limits, ends the
occurrence and the bank is fallow with cause 2 or 3; between, BREG tells 90 %. A VGD undervoltage gates the boosters of its banks. ON and OFF of a
channel or bank wait for a headland and change nothing where there is nothing to change. At a multiple of 65536 an aimed channel is driven for DUTY
where it is admitted and counted in ASKIP where not, and the end of the last pulse turns its sink off and clears LIT. [R330; R347; R348; R349; R350;
R351; R352; R354; R355; R357; R358; R360] -/
def Obligations.LightChannelsAndBoosters : Prop :=
  ∀ (k : Fin 64) (s : Slot) (b : Fin 6),
    let only (d : Dev) : Prop := d.sw.slots = [(k.val, s)] ∧ s.bank = b.val ∧ d.com = [] ∧ d.r (F.SWF_CFG_HEADEN s.f) = 0
    let pulses (d : Dev) : Prop := only d ∧ s.st = .firing ∧ s.pulse = true
    let lit (d : Dev) : Prop := d.r (F.LD_BSTAT_STATE b) ≠ 1
    let open1 (d : Dev) : Prop := d.sw.slots = [] ∧ d.sw.pend = [] ∧ d.sw.forcing = [] ∧ d.com = [] ∧ d.ld.banks = [] ∧ d.tlt % 65536 ≤ 63536
    let fires (d : Dev) : Prop := bankFiring d b = true
    let dark (d t : Dev) : Prop := t = { d with sw := t.sw, ld := t.ld } ∧ t.ld.sinks = d.ld.sinks ∧ t.sw.slots = d.sw.slots ∧
      ∀ j, { t.bo j with short := false } = { d.bo j with short := false }
    (∀ q : Nat,
      let x (d : Dev) : Step := stepAt d q (s.step % 64)
      let code (d : Dev) (c : Nat) : Nat := min (x d).level (min (d.r (F.SWF_PAGE_CAP s.f)) (d.r (F.LD_CHCFG_CAP c))) * s.scale / 1024
      let named (d : Dev) (c : Nat) : Prop := c / 8 = b.val ∧ bitAt ((x d).chmask &&& d.r (F.SWF_CFG_MASK s.f)) (c % 8) = true ∧
        d.r (F.LD_CHSTAT_STATE c) = 0 ∧ code d c ≠ 0
      Does (.patternStepStart k) (fun d => only d ∧ lit d ∧ s.st = .firing ∧ s.pulse = false ∧ s.start ≤ d.ns ∧ s.prev = none ∧
          s.plots[s.step / 64]? = some q ∧ 100 ≤ (x d).width ∧ (x d).rsvd = 0 ∧ (x d).scanEn = false ∧ vgdOf b ∉ d.ld.vgdLow)
        (fun d t => (∀ c, named d c → (t.sink c).code = code d c ∧ (t.sink c).since = s.start) ∧ (∀ c, ¬named d c → t.sink c = d.sink c) ∧
          (t.bo b).boost = (if (x d).boost = true then min 4000 (min (x d).blevel (d.r (F.LD_BBST_BCAP b)) * s.scale / 1024) else (d.bo b).boost) ∧
          t.r (F.LD_BSTAT_LIT b) = 1 ∧ t.sl k = { s with pulse := true, cur := x d, ext := 0, tripped := false } ∧ SameRegs [F.LD_BSTAT_LIT b] d t ∧
          t = { d with regs := t.regs, sw := t.sw, ld := t.ld }) ∧
      (let leads (d : Dev) : Prop := only d ∧ lit d ∧ s.st = .set ∧ s.step = 0 ∧ s.plots[0]? = some q ∧ darkened d = false ∧ (stepAt d q 0).scanEn = true ∧
         sd s.tfire d.tlt ≤ min (d.r (F.LD_BSCN_SLEAD b)) 1000
       Does (.scanAssert k) (fun d => leads d ∧ d.ld.banks = []) (fun d t => (t.bo b).lines = [(stepAt d q 0).scan] ∧ (∀ j, j ≠ b.val → t.bo j = d.bo j) ∧
         t = { d with ld := t.ld }) ∧
       (∀ (j : Fin 6) (o : BankOut), Does (.scanAssert k)
         (fun d => leads d ∧ d.ld.banks = [(j.val, o)] ∧ o.cut = none ∧ j ≠ b ∧ ∃ y ∈ o.lines, y ≠ (stepAt d q 0).scan)
         (fun d t => (t.bo b).lines = [(stepAt d q 0).scan] ∧ t.bo j = o ∧ t.r F.LD_EV_XSCAN = 1 ∧
           t.r F.LD_SCSTAT_XCNT = min (d.r F.LD_SCSTAT_XCNT + 1) (2 ^ F.LD_SCSTAT_XCNT.width - 1) ∧ t.sw = d.sw ∧ t.mem = d.mem)))) ∧
    Runs (.scanAssert k) (fun d => only d ∧ ¬lit d ∧ ∀ i, i < 6 → (d.bo i).cut = none) (fun d => d) ∧
    (∀ (o : BankOut) (q : Nat), o.lines = [] → o.released = none → s.st = .firing → s.bank = b.val → s.plots[s.step / 64]? = some q →
      Does (.scanAssert k) (fun d => d.ld.banks = [(b.val, o)] ∧ o.cut = some (d.ns, k.val, s) ∧ d.sw.slots = [] ∧ lit d ∧ darkened d = false ∧
          (stepAt d q (s.step % 64)).scanEn = true ∧ s.start ≤ d.ns + min (d.cv (F.LD_BSCN_SLEAD b)) 1000)
        (fun d t => t.bo b = { o with released := some ((stepAt d q (s.step % 64)).scan, d.ns) } ∧ t.sw = d.sw ∧ t = { d with ld := t.ld })) ∧
    (∀ r : Fin 8,
      let long (d : Dev) : Prop := (∃ o, d.ld.banks = [(b.val, o)] ∧ r.val ∈ o.lines) ∧ Tab.getD d.ld.lineSince r 0 + 200 ≤ d.ns
      Does (.scanOverload r) (fun d => long d ∧ bitAt (d.r F.LD_QEN_CAUSE) 5 = true ∧ evStaged d < 16) (fun d t => bitAt (t.r F.LD_SCSTAT_OVL) r = true ∧
        t.r F.LD_EV_SCOVL = 1 ∧ t.q1.staged = d.q1.staged ++ [(7, evBytes Tag.ld 6 r d.tlt 0)] ∧ t.ld = d.ld ∧ SameRegs [F.LD_SCSTAT_OVL, F.LD_EV_SCOVL] d t) ∧
      Runs (.scanOverload r) (fun d => d.ld.banks = [] ∨ d.ns < Tab.getD d.ld.lineSince r 0 + 200) (fun d => d)) ∧
    (∀ (c : Fin 48) (w : Sink), c.val / 8 = b.val →
      let drives (d : Dev) : Prop := pulses d ∧ d.ld.sinks = [(c.val, w)] ∧ w.code ≠ 0 ∧ s.start + 100 ≤ d.ns ∧ d.r (F.LD_CHSTAT_STATE c) = 0 ∧
        d.r (F.LD_CHCFG_PGRP c) = 0 ∧ d.sw.pend = []
      let down (st : Nat) (d t : Dev) : Prop := t.r (F.LD_CHSTAT_STATE c) = st ∧ (t.sink c).code = 0 ∧
        bitAt (if c.val < 32 then t.r F.LD_CFLT0_CH else t.r F.LD_CFLT1_CH) (c % 32) = true ∧ t.sl k = { s with deliv := (t.sl k).deliv } ∧
        (bitAt (d.r F.LD_QEN_CAUSE) (st - 2) = true → evStaged d < 16 → t.q1.staged = d.q1.staged ++ [(7, evBytes Tag.ld (st - 1) c d.tlt s.f)]) ∧
        (∀ j, j ≠ c.val → t.r (F.LD_CHSTAT_STATE j) = d.r (F.LD_CHSTAT_STATE j)) ∧ t.mem = d.mem
      (∀ reg low : Byte,
        let inReg : Bool := bitAt reg.toNat (c % 8)
        Runs (.riseWindowEnd b reg low) (fun d => drives d ∧ (inReg = true ∨ bitAt low.toNat (c % 8) = false ∨ w.code < 40 ∨ s.tripped = true ∨ d.r (F.BD_BSAG_TRIP b) ≠ 0))
          (fun d => d.w (F.LD_CHSTAT_REG c) (if inReg = true then 1 else 0)) ∧
        Does (.riseWindowEnd b reg low) (fun d => drives d ∧ inReg = false ∧ bitAt low.toNat (c % 8) = true ∧ 40 ≤ w.code ∧ s.tripped = false ∧
            d.r (F.BD_BSAG_TRIP b) = 0)
          (fun d t => down 2 d t ∧ t.r (F.LD_CHSTAT_REG c) = 0 ∧
            t.r (F.LD_CHCNT_OPENS c) = min (d.r (F.LD_CHCNT_OPENS c) + 1) (2 ^ (F.LD_CHCNT_OPENS c).width - 1)) ∧
        Runs (.riseWindowEnd b reg low) (fun d => d.sw.slots = [] ∧ d.ld.banks = []) (fun d => d)) ∧
      Does (.shortDetected c) (fun d => drives d ∧ s.start + 150 ≤ d.ns) (fun d t => down 3 d t ∧
        t.r (F.LD_CHCNT_SHORTS c) = min (d.r (F.LD_CHCNT_SHORTS c) + 1) (2 ^ (F.LD_CHCNT_SHORTS c).width - 1)) ∧
      Runs (.shortDetected c) (fun d => pulses d ∧ ((d.sink c).code = 0 ∨ d.ns < s.start + 150)) (fun d => d) ∧
      Does (.ldChcmdOn c) (fun d => d.r (F.LD_CHSTAT_STATE c) ≠ 0 ∧ d.r (F.LD_CHCFG_PGRP c) = 0 ∧ open1 d) (fun d t =>
        t.r (F.LD_CHSTAT_STATE c) = 0 ∧ t.sw.pend = [] ∧ t.mem = d.mem ∧ (∀ j, j ≠ c.val → t.r (F.LD_CHSTAT_STATE j) = d.r (F.LD_CHSTAT_STATE j))) ∧
      Does (.ldChcmdOn c) (fun d => d.r (F.LD_CHSTAT_STATE c) ≠ 0 ∧ fires d) (fun d t =>
        t.sw.pend = d.sw.pend ++ [⟨[b.val], .chanOn c⟩] ∧ dark d t) ∧
      Runs (.ldChcmdOn c) (fun d => d.r (F.LD_CHSTAT_STATE c) = 0) (fun d => d) ∧
      Does (.ldChcmdOff c) (fun d => d.r (F.LD_CHSTAT_STATE c) = 0 ∧ open1 d) (fun d t =>
        t.r (F.LD_CHSTAT_STATE c) = 1 ∧ (t.sink c).code = 0 ∧ t.sw.pend = [] ∧ t.mem = d.mem) ∧
      Does (.ldChcmdOff c) (fun d => d.r (F.LD_CHSTAT_STATE c) = 0 ∧ fires d) (fun d t =>
        t.sw.pend = d.sw.pend ++ [⟨[b.val], .chanOff c⟩] ∧ dark d t) ∧
      Runs (.ldChcmdOff c) (fun d => d.r (F.LD_CHSTAT_STATE c) ≠ 0) (fun d => d) ∧
      Runs (.ldChcntClear c) (fun _ => True) (fun d => (d.w (F.LD_CHCNT_SHORTS c) 0).w (F.LD_CHCNT_OPENS c) 0) ∧
      (let duty (d : Dev) : Nat := min (max (d.r (F.LD_CHCFG_DUTY c)) 100) 63536
       let charge (d : Dev) : Rat := ((d.r (F.LD_CHCFG_CAP c) * duty d : Nat) : Rat) / 20000
       let period (d : Dev) : Nat := d.tlt / 65536
       let start (d : Dev) : Nat := d.ns - d.tlt % 65536
       let aims (d : Dev) : Prop := d.ld.aimPeriod ≠ period d + 1 ∧ d.r F.CK_STAT_PLLLOCK = 1 ∧ d.r F.CK_STAT_UNLOCK = 0 ∧ darkened d = false ∧ d.ck.ladder = .run ∧
         d.com = [] ∧ ∀ j, j < 48 → ((d.r (F.LD_BSTAT_STATE (j / 8)) = 2 ∧ d.r (F.LD_CHCFG_DUTY j) ≠ 0 ∧ d.r (F.LD_CHSTAT_STATE j) = 0) ↔ j = c.val)
       let admits (d : Dev) : Prop := testOf d c < d.r (F.BD_BTH_TMAX b) ∧ charge d ≤ roomOf (windowRoll d) b (period d * 65536)
       Does .aimingPeriodStart (fun d => aims d ∧ admits d) (fun d t => (t.sink c).code = d.r (F.LD_CHCFG_CAP c) ∧ (t.sink c).since = start d ∧
         (t.bo b).aim = (d.bo b).aim ++ [(c.val, start d + duty d)] ∧ t.r (F.LD_BSTAT_LIT b) = 1 ∧ t.ld.aimPeriod = period d + 1 ∧
         SameRegs [F.LD_BSTAT_LIT b] d t ∧ t = { d with regs := t.regs, ld := t.ld, bd := t.bd }) ∧
       Does .aimingPeriodStart (fun d => aims d ∧ ¬admits d) (fun d t => t.sink c = d.sink c ∧ t.bo b = d.bo b ∧ t.ld.aimPeriod = period d + 1 ∧
         t.r F.BD_ASKIP_COUNT = (d.r F.BD_ASKIP_COUNT + 1) % 2 ^ F.BD_ASKIP_COUNT.width ∧ SameRegs [F.BD_ASKIP_COUNT] d t ∧ t.bd = (windowRoll d).bd) ∧
       Runs .aimingPeriodStart (fun d => d.ld.aimPeriod = period d + 1 ∨ d.r F.CK_STAT_PLLLOCK = 0 ∨ d.ck.ladder = .nap) (fun d => d) ∧
       (∀ (o : BankOut) (e : Nat), o.aim = [(c.val, e)] →
         Does (.aimingPulseEnd c) (fun d => d.ld.banks = [(b.val, o)] ∧ e ≤ d.ns ∧ d.sw.pend = [] ∧ d.sw.forcing = []) (fun d t => (t.sink c).code = 0 ∧
           (t.bo b).aim = [] ∧ t.r (F.LD_BSTAT_LIT b) = 0 ∧ t.sw.slots = d.sw.slots ∧ t.bd = d.bd ∧ t.mem = d.mem) ∧
         Runs (.aimingPulseEnd c) (fun d => d.ld.banks = [(b.val, o)] ∧ d.ns < e) (fun d => d)))) ∧
    (∀ sense : Nat,
      let goal (d : Dev) : Nat := 50 * (d.bo b).boost
      let boosts (d : Dev) : Prop := pulses d ∧ 200 ≤ (d.bo b).boost ∧ d.ld.vgdLow = [] ∧ s.sag = false ∧ s.burst = false ∧ s.ring = false ∧ s.verdict = none
      let checks (d : Dev) : Prop := boosts d ∧ s.start + min (min (max (d.r (F.LD_BBST_BRISE b)) 100) 1000) s.cur.width ≤ d.ns
      let fails (cause : Nat) (d t : Dev) : Prop := t.sl k = {} ∧ t.r (F.LD_BSTAT_STATE b) = 1 ∧ t.r (F.LD_BSTAT_FCAUSE b) = cause ∧ (t.bo b).boost = 0 ∧
        bitAt (t.r F.LD_EV_BFLT) b = true ∧ t.r F.SW_MISS_COUNT = d.r F.SW_MISS_COUNT ∧ t.mem = d.mem
      Does (.boosterCheck b sense) (fun d => checks d ∧ 4 * sense < goal d) (fails 2) ∧
      Runs (.boosterCheck b sense) (fun d => checks d ∧ goal d ≤ 4 * sense ∧ 10 * sense < 9 * goal d) (fun d => d.w (F.LD_BSTAT_BREG b) 0) ∧
      Runs (.boosterCheck b sense) (fun d => checks d ∧ 9 * goal d ≤ 10 * sense) (fun d => d.w (F.LD_BSTAT_BREG b) 1) ∧
      Runs (.boosterCheck b sense) (fun d => d.sw.slots = []) (fun d => d) ∧
      (let high (d : Dev) : Prop := 3 * goal d + 20000 < 2 * sense ∨ 250000 < sense
       Does (.boosterOvercurrent b sense) (fun d => boosts d ∧ high d) (fails 3) ∧
       Runs (.boosterOvercurrent b sense) (fun d => boosts d ∧ ¬high d) (fun d => d))) ∧
    (∀ i : Fin 2,
      Does (.vgdUndervoltage i) (fun d => pulses d ∧ b.val / 3 = i.val) (fun d t => i.val ∈ t.ld.vgdLow ∧ (t.bo b).boost = 0 ∧ t.regs = d.regs ∧
        (t.sl k).st = .firing ∧ (t.sl k).pulse = true) ∧
      Runs (.vgdUndervoltageEnd i) (fun _ => True) (fun d => { d with ld := { d.ld with vgdLow := d.ld.vgdLow.filter (· ≠ i.val) } })) ∧
    (let plain (d : Dev) : Prop := ∀ j : Nat, j < 8 → d.r (F.LD_CHCFG_DUTY (8 * b.val + j)) = 0
     Does (.ldBcmdOn b) (fun d => d.r (F.LD_BSTAT_STATE b) = 1 ∧ plain d ∧ open1 d) (fun d t => t.r (F.LD_BSTAT_STATE b) = 0 ∧ t.r (F.BD_BSAG_NOREF b) = 1 ∧
       (t.bo b).sensed = true ∧ t.sw.pend = [] ∧ t.mem = d.mem) ∧
     Does (.ldBcmdOff b) (fun d => d.r (F.LD_BSTAT_STATE b) ≠ 1 ∧ open1 d) (fun d t => t.r (F.LD_BSTAT_STATE b) = 1 ∧ t.r (F.LD_BSTAT_FCAUSE b) = 1 ∧
       t.sw.pend = [] ∧ t.mem = d.mem) ∧
     Does (.ldBcmdOff b) (fun d => d.r (F.LD_BSTAT_STATE b) ≠ 1 ∧ fires d) (fun d t => t.sw.pend = d.sw.pend ++ [⟨[b.val], .bankOff b⟩] ∧ dark d t) ∧
     Runs (.ldBcmdOn b) (fun d => d.r (F.LD_BSTAT_STATE b) ≠ 1) (fun d => d) ∧
     Runs (.ldBcmdOff b) (fun d => d.r (F.LD_BSTAT_STATE b) = 1) (fun d => d))

/-- At a window boundary a bank's ledger drops its oldest window and opens an empty one. An ACLK tick moves each channel's two poles by A / 2^24 of
the distance to G / 100 times the channel's mean current, and a channel whose estimate rises to TMAX raises HOT. A VLS sample of a sensed bank is
stored, and in headland, out of aiming, it is the reference, from which VTH = floor(VREF x SAG / 100). A trip of an armed comparator after SBLANK, in
the TCLK cycle of the pulse's end too, gives the occurrence the cause sag and counts; under ABORT it ends, counted, with the verdict aborted reported
once. Under COMPENSATE a pulse is extended by its short time up to floor(WIDTH / 4), and one that reaches it still out of regulation is aborted.
Writes of the counts clear them. [R363; R364; R366; R369; R370; R371; R374; R375; R376; R377; R379] -/
def Obligations.BudgetsAndDisturbance : Prop :=
  let asleep (d : Dev) : Prop := d.ck.ladder = .nap ∨ d.ck.ladder = .fallow ∨ d.ck.ladder = .waking
  let now (d : Dev) : Nat := if asleep d then (d.ck.sleepTlt + (if d.ck.xrun then d.ns - d.ck.sleepNs else 0)) % 2 ^ 48 else d.tlt
  let still (d : Dev) : Prop := d.ck.ladder = .dormant ∨ d.ck.ladder = .resetting ∨ (d.ck.ladder = .fallow ∧ d.ck.xrun = false) ∨
    (d.ck.ladder = .waking ∧ d.ck.xrun = false ∧ d.r F.CK_STAT_PLLLOCK = 0)
  let unticked (d : Dev) : Prop := d.awake = true ∧ ∀ n, n < 8 → peTicked d n = none
  (∀ (b : Fin 6) (l : List Rat) (n : Nat), l.length = 32 → 1 ≤ n → n ≤ 32 →
    Does .chargeWindowRoll (fun d => d.bd.ledger = [(b.val, l)] ∧ now d / 100000 = d.bd.wNow + n) (fun d t => t.bd.wNow = now d / 100000 ∧
      ledgerOf t b = l.drop n ++ List.replicate n 0 ∧ (∀ j, j ≠ b.val → ledgerOf t j = List.replicate 32 0) ∧ t.bd.x1 = d.bd.x1 ∧ t.bd.x2 = d.bd.x2 ∧
      t = { d with bd := t.bd })) ∧
  Runs .chargeWindowRoll (fun d => now d / 100000 = d.bd.wNow) (fun d => d) ∧
  (let mean (d : Dev) (c : Nat) : Rat := (((d.sink c).acc + (d.sink c).code * (d.ns - (d.sink c).since) : Nat) : Rat) / 20000000
   let moved (x : Rat) (a g : Nat) (u : Rat) : Rat := x + (a : Rat) / 2 ^ 24 * ((g : Rat) / 100 * u - x)
   Does .thermalUpdate (fun d => ¬ still d) (fun d t =>
     (∀ c, c < 48 →
       Tab.getD t.bd.x1 c 0 = moved (Tab.getD d.bd.x1 c 0) (d.r (F.BD_TC_A1_A1 c)) (d.r (F.BD_TC_G_G1 c)) (mean d c) ∧
       Tab.getD t.bd.x2 c 0 = moved (Tab.getD d.bd.x2 c 0) (d.r (F.BD_TC_A2_A2 c)) (d.r (F.BD_TC_G_G2 c)) (mean d c) ∧
       testOf t c = tamb d + Tab.getD t.bd.x1 c 0 + Tab.getD t.bd.x2 c 0 ∧ (t.sink c).acc = 0 ∧ (t.sink c).code = (d.sink c).code ∧
       (c ∈ t.bd.hot ↔ (d.r (F.BD_BTH_TMAX (c / 8)) : Rat) ≤ testOf t c) ∧
       (c ∉ d.bd.hot → (d.r (F.BD_BTH_TMAX (c / 8)) : Rat) ≤ testOf t c → t.r F.BD_EV_HOT = 1)) ∧
     t.bd.ledger = d.bd.ledger ∧ SameRegs [F.BD_EV_HOT, F.Q_STAT_EVLOST 1, F.Q_LOST_EV 1] d t ∧ t = { d with regs := t.regs, ld := t.ld, bd := t.bd, q1 := t.q1 })) ∧
  Runs .thermalUpdate still (fun d => d) ∧
  (∀ code : BitVec 10,
    Runs (.adcSample 6 code) (fun d => d.ck.ladder ≠ .dormant ∧ d.ck.ladder ≠ .resetting) (fun d => d.w (F.BD_ADC_CODE 6) code.toNat) ∧
    Does (.adcSample 7 code) (fun d => d.ck.ladder ≠ .dormant ∧ d.ck.ladder ≠ .resetting) (fun d t => t.r (F.BD_ADC_CODE 7) = code.toNat ∧
      t.r F.OT_WIN_TEMPOK = (if 176 ≤ code.toNat ∧ code.toNat ≤ 596 then 1 else 0) ∧ t.mem = d.mem ∧ t.bd = d.bd) ∧
    (∀ b : Fin 6,
      let senses (d : Dev) : Prop := (d.bo b).sensed = true ∧ d.ck.ladder = .run
      Runs (.adcSample ⟨b.val, by omega⟩ code) (fun d => senses d ∧ d.r (F.LD_BSTAT_STATE b) = 0 ∧ inHeadland d b = true ∧ d.com = [])
        (fun d => (((d.w (F.BD_ADC_CODE b) code.toNat).w (F.BD_BSAG_VREF b) code.toNat).w (F.BD_BSAG_NOREF b) 0).w (F.BD_BSAG_VTH b)
          (code.toNat * min (max (d.r (F.BD_BCFG_SAG b)) 50) 99 / 100)) ∧
      Runs (.adcSample ⟨b.val, by omega⟩ code) (fun d => senses d ∧ (d.r (F.LD_BSTAT_STATE b) = 2 ∨ inHeadland d b = false))
        (fun d => d.w (F.BD_ADC_CODE b) code.toNat) ∧
      Runs (.adcSample ⟨b.val, by omega⟩ code) (fun d => (d.bo b).sensed = false ∨ asleep d ∨ d.ck.ladder = .dormant ∨ d.ck.ladder = .resetting) (fun d => d))) ∧
  (∀ (b : Fin 6) (k : Fin 64) (s : Slot),
    let pulses (d : Dev) : Prop := d.sw.slots = [(k.val, s)] ∧ s.st = .firing ∧ s.bank = b.val ∧ s.pulse = true
    let ended (d : Dev) : Prop := d.sw.slots = [(k.val, s)] ∧ s.st = .firing ∧ s.bank = b.val ∧ s.pulse = false ∧
      s.last.any (fun e => decide (e.2 = d.ns ∧ e.1 + 10 * d.r (F.BD_BCFG_SBLANK b) ≤ d.ns)) = true
    let armed (d : Dev) : Prop := ((pulses d ∧ s.start + 10 * d.r (F.BD_BCFG_SBLANK b) ≤ d.ns) ∨ ended d) ∧ d.com = [] ∧ d.r (F.BD_BSAG_NOREF b) = 0 ∧
      (d.r (F.BD_BSAG_TRIP b) = 0 ∨ s.tripped = false)
    let plain (d : Dev) : Prop := d.r (F.SWF_CFG_HEADEN s.f) = 0 ∧ d.r F.SR_STAT_STATE = 0 ∧ s.verdict = none ∧ s.deliv ≤ s.q ∧ d.ld.sinks = [] ∧ d.ld.banks = [] ∧
      d.sw.pend = [] ∧ d.sw.forcing = [] ∧ s.trigs = [] ∧ unticked d
    let aborted (d t : Dev) : Prop := t.sl k = {} ∧ t.r F.BD_EV_ABORT = 1 ∧ t.r (F.BD_BCNT_ABORTS b) = min (d.r (F.BD_BCNT_ABORTS b) + 1) 65535 ∧
      t.r F.BD_EV_TAINT = 1 ∧ (∀ n, n < 8 → (t.eng n).taint = true) ∧ t.r F.SW_MISS_COUNT = d.r F.SW_MISS_COUNT ∧ t.mem = d.mem ∧ t.hp = d.hp ∧
      (bitAt (d.r F.BD_QEN_CAUSE) 0 = true → evStaged d < 16 →
        t.q1.staged = d.q1.staged ++ [(7, evBytes Tag.bd 1 s.f s.tfire (b + 8 * 7 + 64 + 128 * bit s.burst + 256 * bit s.ring + 512 * bit s.followed + 1024 * 2))])
    Does (.sagTrip b) (fun d => armed d ∧ d.r (F.SWF_CFG_DIST s.f) ≠ 2) (fun d t => t.sl k = { s with sag := true, tripped := true } ∧
      t.r (F.BD_BSAG_TRIP b) = 1 ∧ t.r F.BD_EV_SAG = 1 ∧ t.r (F.BD_BCNT_TRIPS b) = min (d.r (F.BD_BCNT_TRIPS b) + 1) 65535 ∧
      SameRegs [F.BD_BSAG_TRIP b, F.BD_EV_SAG, F.BD_BCNT_TRIPS b] d t ∧ t = { d with regs := t.regs, sw := t.sw }) ∧
    Does (.sagTrip b) (fun d => armed d ∧ plain d ∧ d.r (F.SWF_CFG_DIST s.f) = 2) (fun d t => aborted d t ∧ t.r F.BD_EV_SAG = 1 ∧
      t.r (F.BD_BCNT_TRIPS b) = min (d.r (F.BD_BCNT_TRIPS b) + 1) 65535) ∧
    Runs (.sagTrip b) (fun d => d.sw.slots = [] ∨ (pulses d ∧ (d.ns < s.start + 10 * d.cv (F.BD_BCFG_SBLANK b) ∨ d.r (F.BD_BSAG_NOREF b) ≠ 0))) (fun d => d) ∧
    Runs (.sagClear b) (fun _ => True) (fun d => d.w (F.BD_BSAG_TRIP b) 0) ∧
    Does (.compensationFail b) (fun d => pulses d ∧ plain d ∧ s.sag = true ∧ d.r (F.SWF_CFG_DIST s.f) = 1 ∧ s.start + s.cur.width / 4 ≤ d.ns) aborted ∧
    Runs (.compensationFail b) (fun d => d.sw.slots = [] ∨ (pulses d ∧ s.sag = false)) (fun d => d) ∧
    (∀ short q : Nat,
      let longer : Nat := min short (s.cur.width / 4)
      let after : Slot := { s with pulse := false, step := s.step + 1, start := s.start + s.cur.width + longer + s.cur.gap, prev := some s.cur, ext := longer, last := some (s.start, s.start + s.cur.width + longer) }
      Does (.pulseEnd k short) (fun d => pulses d ∧ plain d ∧ s.sag = true ∧ d.r (F.SWF_CFG_DIST s.f) = 1 ∧ s.start + s.cur.width + longer ≤ d.ns ∧
          s.cur.last = false ∧ s.cur.scanEn = false ∧ s.plots[(s.step + 1) / 64]? = some q)
        (fun d t => t.sl k = after ∧
          t = { d with regs := t.regs, sw := t.sw })) ∧
    Runs (.bdBcntClear b) (fun _ => True) (fun d => (d.w (F.BD_BCNT_ABORTS b) 0).w (F.BD_BCNT_TRIPS b) 0)) ∧
  Runs .bdAskipClear (fun _ => True) (fun d => d.w F.BD_ASKIP_COUNT 0)

/-- Where it is due and its registers are free, each of ADD, SUB, AND, OR, XOR, ANDN, SHL, SHR, SAR, ROR, MUL, ADDI, ANDI, ORI, XORI, SHI (imm below
128), MOVL and MOVH answers the next state in which register d holds the value of its row, the next instruction is due, and nothing else has changed
but what delivery counts; a result for w0 is discarded. [R161; R166; Table IS-6; Table IS-7; Table IS-9] -/
def Obligations.ArithmeticThatSetsNoFlag : Prop :=
  (∀ t a b : BitVec 4,
     Runs (.add t a b) (Due [t, a, b]) (fun d => retire t (d.wr a.toNat + d.wr b.toNat) d) ∧
     Runs (.sub t a b) (Due [t, a, b]) (fun d => retire t (d.wr a.toNat - d.wr b.toNat) d) ∧
     Runs (.and t a b) (Due [t, a, b]) (fun d => retire t (d.wr a.toNat &&& d.wr b.toNat) d) ∧
     Runs (.or t a b) (Due [t, a, b]) (fun d => retire t (d.wr a.toNat ||| d.wr b.toNat) d) ∧
     Runs (.xor t a b) (Due [t, a, b]) (fun d => retire t (d.wr a.toNat ^^^ d.wr b.toNat) d) ∧
     Runs (.andn t a b) (Due [t, a, b]) (fun d => retire t (d.wr a.toNat &&& ~~~(d.wr b.toNat)) d) ∧
     Runs (.shl t a b) (Due [t, a, b]) (fun d => retire t (d.wr a.toNat <<< ((d.wr b.toNat).toNat % 32)) d) ∧
     Runs (.shr t a b) (Due [t, a, b]) (fun d => retire t (d.wr a.toNat >>> ((d.wr b.toNat).toNat % 32)) d) ∧
     Runs (.sar t a b) (Due [t, a, b]) (fun d => retire t ((d.wr a.toNat).sshiftRight ((d.wr b.toNat).toNat % 32)) d) ∧
     Runs (.ror t a b) (Due [t, a, b]) (fun d => retire t ((d.wr a.toNat).rotateRight ((d.wr b.toNat).toNat % 32)) d) ∧
     Runs (.mul t a b) (Due [t, a, b]) (fun d => retire t (d.wr a.toNat * d.wr b.toNat) d)) ∧
  (∀ (t a : BitVec 4) (imm : BitVec 16),
     Runs (.addi t a imm) (Due [t, a]) (fun d => retire t (d.wr a.toNat + imm.signExtend 32) d) ∧
     Runs (.andi t a imm) (Due [t, a]) (fun d => retire t (d.wr a.toNat &&& imm.setWidth 32) d) ∧
     Runs (.ori t a imm) (Due [t, a]) (fun d => retire t (d.wr a.toNat ||| imm.setWidth 32) d) ∧
     Runs (.xori t a imm) (Due [t, a]) (fun d => retire t (d.wr a.toNat ^^^ imm.setWidth 32) d) ∧
     (∀ n, n < 32 →
       (imm.toNat = n → Runs (.shi t a imm) (Due [t, a]) (fun d => retire t (d.wr a.toNat <<< n) d)) ∧
       (imm.toNat = 32 + n → Runs (.shi t a imm) (Due [t, a]) (fun d => retire t (d.wr a.toNat >>> n) d)) ∧
       (imm.toNat = 64 + n → Runs (.shi t a imm) (Due [t, a]) (fun d => retire t ((d.wr a.toNat).sshiftRight n) d)) ∧
       (imm.toNat = 96 + n → Runs (.shi t a imm) (Due [t, a]) (fun d => retire t ((d.wr a.toNat).rotateRight n) d))) ∧
     Runs (.movl t imm) (Due [t]) (fun d => retire t (imm.setWidth 32) d) ∧
     Runs (.movh t imm) (Due [t]) (fun d => retire t (imm ++ (d.wr t.toNat).extractLsb' 0 16) d))

/-- Where it is due and its registers are free, each of ADDS, ADC, SUBS, SBC, ADDSI and SUBSI writes the low 32 bits of x + y + cin, sets N and Z from
them, C to the carry out of bit 31 of the 33-bit sum and V where the signed sum does not fit; ANDS sets N and Z and leaves C and V; MTSTAT sets N, Z,
C, V and IE from its register and leaves LEVEL; nothing else changes. RegisterArithmetic, ImmediateArithmetic and the other equations say that the
other instructions change no flag. [R164] -/
def Obligations.AdditionFlags : Prop :=
  ∀ (t a b : BitVec 4) (imm : BitVec 16),
    Runs (.adds t a b) (Due [t, a, b]) (fun d => addRetire t (d.wr a.toNat) (d.wr b.toNat) false d) ∧
    Runs (.adc t a b) (Due [t, a, b]) (fun d => addRetire t (d.wr a.toNat) (d.wr b.toNat) d.co.c d) ∧
    Runs (.subs t a b) (Due [t, a, b]) (fun d => addRetire t (d.wr a.toNat) (~~~(d.wr b.toNat)) true d) ∧
    Runs (.sbc t a b) (Due [t, a, b]) (fun d => addRetire t (d.wr a.toNat) (~~~(d.wr b.toNat)) d.co.c d) ∧
    Runs (.addsi t a imm) (Due [t, a]) (fun d => addRetire t (d.wr a.toNat) (imm.signExtend 32) false d) ∧
    Runs (.subsi t a imm) (Due [t, a]) (fun d => addRetire t (d.wr a.toNat) (~~~(imm.signExtend 32)) true d) ∧
    Runs (.ands t a b) (Due [t, a, b]) (fun d =>
      let r := d.wr a.toNat &&& d.wr b.toNat
      advancePc (((fetched d).onCo fun k => { k with n := r.getLsbD 31, z := r == 0 }).setW t.toNat r)) ∧
    Runs (.mtstat a) (Due [a]) (fun d =>
      let v := d.wr a.toNat
      advancePc ((fetched d).onCo fun k =>
        { k with n := v.getLsbD 31, z := v.getLsbD 30, c := v.getLsbD 29, v := v.getLsbD 28, ie := v.getLsbD 8 }))

/-- Where it is due and its registers are free, each of EXTU, EXTS, INS, POPC, CLZ, REVB, SEXB and SEXH answers the next state in which register d
holds a value with the bits its row of Table IS-8 gives it: the field with zeros or with copies of its top bit above, the field inserted, the number
of 1 bits, the number of leading 0 bits (32 for 0), the bytes reversed, a byte or halfword sign-extended. No flag changes. [Table IS-8; R166; R161] -/
def Obligations.BitFieldsAndCounts : Prop :=
  (∀ (t a : BitVec 4) (lsb wm : BitVec 5), lsb.toNat + wm.toNat + 1 ≤ 32 →
    (∃ v : Word → Word, Runs (.extu t a lsb wm) (Due [t, a]) (fun d => retire t (v (d.wr a.toNat)) d) ∧
      ∀ x i, i < 32 → (v x).getLsbD i = (decide (i ≤ wm.toNat) && x.getLsbD (lsb.toNat + i))) ∧
    (∃ v : Word → Word, Runs (.exts t a lsb wm) (Due [t, a]) (fun d => retire t (v (d.wr a.toNat)) d) ∧
      ∀ x i, i < 32 → (v x).getLsbD i = x.getLsbD (lsb.toNat + min i wm.toNat)) ∧
    (∃ v : Word → Word → Word, Runs (.ins t a lsb wm) (Due [t, a]) (fun d => retire t (v (d.wr t.toNat) (d.wr a.toNat)) d) ∧
      ∀ x y i, i < 32 →
        (v x y).getLsbD i = if lsb.toNat ≤ i ∧ i ≤ lsb.toNat + wm.toNat then y.getLsbD (i - lsb.toNat) else x.getLsbD i)) ∧
  (∀ t a : BitVec 4,
    (∃ v : Word → Word, Runs (.popc t a) (Due [t, a]) (fun d => retire t (v (d.wr a.toNat)) d) ∧
      ∀ x, (v x).toNat = (Finset.univ.filter fun i : Fin 32 => x.getLsbD i = true).card) ∧
    (∃ v : Word → Word, Runs (.clz t a) (Due [t, a]) (fun d => retire t (v (d.wr a.toNat)) d) ∧
      ∀ x, (x = 0 → (v x).toNat = 32) ∧
        (x ≠ 0 → (v x).toNat < 32 ∧ x.getLsbD (31 - (v x).toNat) = true ∧ ∀ i, 31 - (v x).toNat < i → x.getLsbD i = false)) ∧
    (∃ v : Word → Word, Runs (.revb t a) (Due [t, a]) (fun d => retire t (v (d.wr a.toNat)) d) ∧
      ∀ x i, i < 32 → (v x).getLsbD i = x.getLsbD (8 * (3 - i / 8) + i % 8)) ∧
    (∃ v : Word → Word, Runs (.sexb t a) (Due [t, a]) (fun d => retire t (v (d.wr a.toNat)) d) ∧
      ∀ x i, i < 32 → (v x).getLsbD i = x.getLsbD (min i 7)) ∧
    (∃ v : Word → Word, Runs (.sexh t a) (Due [t, a]) (fun d => retire t (v (d.wr a.toNat)) d) ∧
      ∀ x i, i < 32 → (v x).getLsbD i = x.getLsbD (min i 15)))

/-- Where it is due and its registers are free, MULLU and MULLS write the low word of the unsigned or signed 64-bit product to d and then the high
word to e; DIVU, REMU, DIVS and REMS write the quotient truncated toward zero and the remainder of the dividend's sign; a zero divisor gives
0xFFFFFFFF and the dividend; the most negative number by -1 gives itself and 0. No flag changes and nothing else does but what delivery counts. [R169]
-/
def Obligations.LongProductAndDivision : Prop :=
  (∀ t u a b : BitVec 4,
    (∃ lo hi : Word → Word → Word,
      Runs (.mullu t u a b) (Due [t, u, a, b]) (fun d =>
        advancePc (((fetched d).setW t.toNat (lo (d.wr a.toNat) (d.wr b.toNat))).setW u.toNat (hi (d.wr a.toNat) (d.wr b.toNat)))) ∧
      ∀ x y, (lo x y).toNat + 2 ^ 32 * (hi x y).toNat = x.toNat * y.toNat) ∧
    (∃ lo hi : Word → Word → Word,
      Runs (.mulls t u a b) (Due [t, u, a, b]) (fun d =>
        advancePc (((fetched d).setW t.toNat (lo (d.wr a.toNat) (d.wr b.toNat))).setW u.toNat (hi (d.wr a.toNat) (d.wr b.toNat)))) ∧
      ∀ x y, ((lo x y).toNat : Int) + 2 ^ 32 * (hi x y).toInt = x.toInt * y.toInt)) ∧
  (∀ t a b : BitVec 4, ∃ q r qs rs : Word → Word → Word,
    Runs (.divu t a b) (Due [t, a, b]) (fun d => retire t (q (d.wr a.toNat) (d.wr b.toNat)) d) ∧
    Runs (.remu t a b) (Due [t, a, b]) (fun d => retire t (r (d.wr a.toNat) (d.wr b.toNat)) d) ∧
    Runs (.divs t a b) (Due [t, a, b]) (fun d => retire t (qs (d.wr a.toNat) (d.wr b.toNat)) d) ∧
    Runs (.rems t a b) (Due [t, a, b]) (fun d => retire t (rs (d.wr a.toNat) (d.wr b.toNat)) d) ∧
    ∀ x y,
      (y = 0 → q x y = 0xFFFFFFFF ∧ r x y = x ∧ qs x y = 0xFFFFFFFF ∧ rs x y = x) ∧
      (y ≠ 0 → x.toNat = (q x y).toNat * y.toNat + (r x y).toNat ∧ (r x y).toNat < y.toNat) ∧
      (x = 0x80000000 ∧ y = 0xFFFFFFFF → qs x y = 0x80000000 ∧ rs x y = 0) ∧
      (y ≠ 0 → ¬(x = 0x80000000 ∧ y = 0xFFFFFFFF) →
        x.toInt = (qs x y).toInt * y.toInt + (rs x y).toInt ∧ (rs x y).toInt.natAbs < y.toInt.natAbs ∧
          ((rs x y).toInt = 0 ∨ (rs x y).toInt.sign = x.toInt.sign)))

/-- A trigger is driven from its step's start less the slot's lead for TWID (at least 100), or, less than PERIOD after the last one, suppressed and
counted; its unsent ARMN is stale. A checked window counts, and one not covered is a miss unless EXP rose in its first cycle, which is recorded. PRES
follows PRSN after 10 ms: AUTO starts hitching, a port ON leaves as removed. The first ready message of the order TAINT, DISARM, ARMN, HOLD or GO,
PARAM, HELLO, BYE, POLL leaves, with its payload and CRC-8, 10 us a character, and opens its reply window; nothing leaves while a reply is awaited or
the line is busy. IDENT records the head and queues PARAM, or the hitch is refused with 5 or 7; ACK completes the hitch or refuses it with 7; NOTE,
IDENT and BYE of the head reach staging; a reply that begins after its window has ended is none, and the window's end comes first; one in its last
PCLK cycle is taken with COIN, and a message whose CRC fails sets CRCE. Without replies discovery is refused with 6 or 7 after four tries, and SILN
silent polls end service with 3. Leaving drops the queues, releases the trigger and withdraws ARMED slots as deferred. ON, OFF, HITCH and EXPT act as
the port's state says, and writes of the counts clear them. [R382; R383; R384; R385; R386; R387; R388; R389; R391; R392; R393; R395] -/
def Obligations.HeadPorts : Prop :=
  ∀ p : Fin 6,
    let port (d : Dev) : Nat := d.r (F.HP_STAT_STATE p)
    let msg (typ : Nat) (pl : List Nat) : List Nat := (typ :: pl.length :: pl) ++ [crc8 (typ :: pl.length :: pl)]
    let out (m : List Nat) (a : Await) (d : Dev) (h : Head) : Head :=
      { h with sent := m, lineIdle := d.ns + 10000 * m.length, await := a, windowEnd := d.ns + 10000 * m.length + 1000 * max (d.r (F.HP_HCFG_RWIN p)) 1 }
    let past (x : Nat) (d : Dev) : Prop := (x + d.ck.phase) / 8 < (d.ns + d.ck.phase) / 8
    let timeOf (x : Nat) (d : Dev) : Nat := ((d.ns : Int) + sd x d.tlt).toNat
    let fresh (y : Notice) (d : Dev) : Prop := (d.ns + d.ck.phase) / 8 < (timeOf y.trig d + d.ck.phase) / 8
    let only (fs : List Fld) (d t : Dev) : Prop := SameRegs fs d t ∧ (∀ j, j ≠ p.val → t.head j = d.head j) ∧ t = { d with regs := t.regs, hp := t.hp }
    let free (d : Dev) : Prop := d.ck.ladder = .run ∧ (d.head p).await = .none ∧ (d.head p).lineIdle + 2000 ≤ d.ns
    let still (d : Dev) : Prop := (d.head p).taints = [] ∧ (d.head p).notices = []
    let noFlow (d : Dev) : Prop := port d ≠ 2 ∨ ((d.r (F.Q_STAT_WM 1) ≠ 0 ↔ d.r (F.HP_STAT_HOLD p) ≠ 0) ∧ (d.head p).flowDue = false)
    let quiet (d : Dev) : Prop := still d ∧ noFlow d ∧ (d.head p).param = false ∧ (d.head p).hello = false
    let alone (d : Dev) : Prop := d.sw.slots = []
    let left (st c : Nat) (d t : Dev) : Prop := t.r (F.HP_STAT_STATE p) = st ∧ t.r (F.HP_STAT_LCAUSE p) = c ∧ (t.head p).taints = [] ∧ (t.head p).notices = [] ∧
      (t.head p).trig = false ∧ (t.head p).checks = [] ∧ (t.head p).flowDue = false ∧ (t.head p).await = .none ∧ (t.head p).poll = false ∧
      (1 ≤ c → c ≤ 3 → t.r (F.HP_STAT_BYE p) = 1) ∧ (4 ≤ c → t.r (F.HP_STAT_BYE p) = d.r (F.HP_STAT_BYE p)) ∧ t.mem = d.mem
    let rec3 : List Fld := [F.HP_LAT_LAT p, F.HP_PER_PERIOD p, F.HP_WIN_WINDOW p]
    let before (d t : Dev) : Prop := (∀ x, (d.head p).old = some x → t.r (F.HP_LAT_LAT p) = x.1 % 2 ^ (F.HP_LAT_LAT p).width ∧
      t.r (F.HP_PER_PERIOD p) = x.2.1 % 2 ^ (F.HP_PER_PERIOD p).width ∧ t.r (F.HP_WIN_WINDOW p) = x.2.2 % 2 ^ (F.HP_WIN_WINDOW p).width) ∧
      ((d.head p).old = none → ∀ f ∈ rec3, t.r f = d.r f)
    let refused (c : Nat) (d t : Dev) : Prop := port t = 3 ∧ t.r (F.HP_STAT_LCAUSE p) = c ∧ t.r (F.HP_STAT_HITCH p) = 1 ∧ (t.head p).await = .none ∧
      (t.head p).hello = false ∧ (t.head p).param = false ∧ before d t ∧ t.mem = d.mem
    let begun (t : Dev) : Prop := port t = 1 ∧ (t.head p).hello = true ∧ (t.head p).param = false ∧ (t.head p).await = .none ∧ (t.head p).tries = 0 ∧
      (t.head p).due = 0 ∧ (t.head p).bye = false
    (∀ (x : List Nat) (r : List (List Nat)),
      Does (.sendTaint p) (fun d => free d ∧ (d.head p).taints = x :: r)
        (fun d t => t.head p = { out (msg 5 x) .none d (d.head p) with taints := r } ∧ only [] d t)) ∧
    (∀ (a r : List Notice) (x : Notice), (∀ y ∈ a, y.disarm = false) → x.disarm = true →
      Does (.sendDisarm p) (fun d => free d ∧ (d.head p).taints = [] ∧ (d.head p).notices = a ++ x :: r)
        (fun d t => t.head p = { out (msg 4 (leBytes 2 x.frame)) .none d (d.head p) with notices := a ++ r } ∧ only [] d t)) ∧
    (∀ (x : Notice) (r : List Notice), x.disarm = false → (∀ y ∈ r, y.disarm = false) →
      Does (.sendArmn p) (fun d => free d ∧ (d.head p).taints = [] ∧ (d.head p).notices = x :: r ∧ ∀ y ∈ x :: r, fresh y d)
        (fun d t => t.head p = { out (msg 3 (leBytes 2 x.frame)) .none d (d.head p) with notices := r } ∧ only [] d t) ∧
      Does (.sendArmn p) (fun d => (d.head p).notices = [x] ∧ ¬ fresh x d)
        (fun d t => t.head p = { d.head p with notices := [] } ∧
          t.r (F.HP_CNT_ASTALE p) = min (d.r (F.HP_CNT_ASTALE p) + 1) (2 ^ (F.HP_CNT_ASTALE p).width - 1) ∧ only [F.HP_CNT_ASTALE p] d t)) ∧
    Does (.sendHold p) (fun d => free d ∧ still d ∧ port d = 2 ∧ d.r (F.Q_STAT_WM 1) ≠ 0 ∧ d.r (F.HP_STAT_HOLD p) = 0)
      (fun d t => t.head p = { out (msg 6 []) .none d (d.head p) with flowDue := false } ∧ t.r (F.HP_STAT_HOLD p) = 1 ∧ only [F.HP_STAT_HOLD p] d t) ∧
    Does (.sendGo p) (fun d => free d ∧ still d ∧ port d = 2 ∧ d.r (F.Q_STAT_WM 1) = 0 ∧ d.r (F.HP_STAT_HOLD p) ≠ 0)
      (fun d t => t.head p = { out (msg 7 []) .none d (d.head p) with flowDue := false } ∧ t.r (F.HP_STAT_HOLD p) = 0 ∧ only [F.HP_STAT_HOLD p] d t) ∧
    Does (.sendParam p) (fun d => free d ∧ still d ∧ noFlow d ∧ (d.head p).param = true ∧ (d.head p).due ≤ d.ns)
      (fun d t => t.head p = { out (msg 2 (leBytes 4 (d.r (F.HP_EXPT_EXPT p)))) .ack d (d.head p) with
        param := false, tries := (d.head p).tries + 1, due := d.ns + 1000000 } ∧ only [] d t) ∧
    Does (.sendHello p) (fun d => free d ∧ still d ∧ noFlow d ∧ (d.head p).param = false ∧ (d.head p).hello = true ∧ (d.head p).due ≤ d.ns)
      (fun d t => t.head p = { out (msg 1 [p.val, 1]) .ident d (d.head p) with hello := false, tries := (d.head p).tries + 1, due := d.ns + 1000000 } ∧ only [] d t) ∧
    Does (.sendBye p) (fun d => free d ∧ quiet d ∧ (d.head p).bye = true ∧ ¬ past (d.head p).byeEnd d ∧ alone d)
      (fun d t => left 3 4 d t ∧ (t.head p).sent = msg 9 [] ∧ (t.head p).bye = false) ∧
    Does (.sendPoll p) (fun d => free d ∧ quiet d ∧ (d.head p).bye = false ∧ (d.head p).poll = true ∧ port d = 2 ∧ d.q1.staged = [] ∧ d.q1.left = [])
      (fun d t => t.head p = { out (msg 8 []) .poll d (d.head p) with
        poll := false, pollDue := (t.head p).windowEnd + 1000000 * max (d.r (F.HP_HCFG_PIVL p)) 1 } ∧ only [] d t) ∧
    (let busy (d : Dev) : Prop := d.ck.ladder = .nap ∨ (d.head p).await ≠ .none ∨ d.ns < (d.head p).lineIdle + 2000
     Runs (.sendTaint p) busy (fun d => d) ∧ Runs (.sendDisarm p) busy (fun d => d) ∧ Runs (.sendHold p) busy (fun d => d) ∧ Runs (.sendGo p) busy (fun d => d) ∧
     Runs (.sendParam p) busy (fun d => d) ∧ Runs (.sendHello p) busy (fun d => d) ∧ Runs (.sendBye p) busy (fun d => d) ∧ Runs (.sendPoll p) busy (fun d => d) ∧
     Runs (.sendArmn p) (fun d => busy d ∧ (d.head p).notices = []) (fun d => d)) ∧
    (∀ (age : Nat) (bytes : Bytes),
      let inTime (d : Dev) : Prop := d.ck.ladder = .run ∧ d.ns - age + 8 ≤ (d.head p).windowEnd ∧ d.q1.staged = []
      let heard (d : Dev) (h : Head) : Head := { h with lineIdle := d.ns, await := .none }
      let packet (typ : Nat) (pl : List Nat) : Nat × List Nat := (p.val + 1, (32 * (p.val + 1) + 8 * ((pl.length + 1) / 16)) :: typ :: pl.length :: pl)
      (∀ idl idh lat per win : Nat, idl < 2 ^ 32 → idh < 2 ^ 32 → lat < 2 ^ 32 → per < 2 ^ 32 → win < 2 ^ 32 →
        let pl : List Nat := leBytes 4 idl ++ leBytes 4 idh ++ leBytes 4 lat ++ leBytes 4 per ++ leBytes 4 win
        let comes (d : Dev) : Prop := inTime d ∧ Bytes.nats bytes = msg 0x81 pl ∧ (d.head p).await = .ident
        let other (d : Dev) : Bool := decide (d.r (F.HP_STAT_IDV p) ≠ 0 ∧ (d.r (F.HP_IDL_ID p) ≠ idl ∨ d.r (F.HP_IDH_ID p) ≠ idh))
        let allowed (d : Dev) : Prop := other d = false ∨ bitAt (d.r F.HP_POLICY_ANY) p = true
        Does (.receiveIdent p age bytes) (fun d => comes d ∧ allowed d ∧ lat + d.r (F.HP_TCFG_SKEW p) ≤ 500000) (fun d t =>
          t.head p = { heard d (d.head p) with
            tries := 0, due := d.ns, param := true, changed := other d, was := (t.head p).was,
            old := some (d.r (F.HP_LAT_LAT p), d.r (F.HP_PER_PERIOD p), d.r (F.HP_WIN_WINDOW p)) } ∧ t.r (F.HP_IDL_ID p) = idl ∧ t.r (F.HP_IDH_ID p) = idh ∧
          t.r (F.HP_LAT_LAT p) = lat % 2 ^ (F.HP_LAT_LAT p).width ∧ t.r (F.HP_PER_PERIOD p) = per % 2 ^ (F.HP_PER_PERIOD p).width ∧
          t.r (F.HP_WIN_WINDOW p) = win % 2 ^ (F.HP_WIN_WINDOW p).width ∧ t.r (F.HP_STAT_IDV p) = 1 ∧ t.q1 = { d.q1 with staged := [packet 0x81 pl] } ∧ port t = port d) ∧
        Does (.receiveIdent p age bytes) (fun d => comes d ∧ ¬allowed d) (refused 5) ∧
        Does (.receiveIdent p age bytes) (fun d => comes d ∧ allowed d ∧ 500000 < lat + d.r (F.HP_TCFG_SKEW p)) (refused 7) ∧
        Does (.receiveIdent p age bytes) (fun d => d.ck.ladder = .run ∧ Bytes.nats bytes = msg 0x81 pl ∧ (d.head p).await = .none) (fun d t =>
          t.head p = { d.head p with lineIdle := d.ns } ∧ only [] d t) ∧
        Does (.receiveIdent p age bytes) (fun d => d.ck.ladder = .run ∧ Bytes.nats bytes = msg 0x81 pl ∧ (d.head p).await = .ident ∧
            (d.head p).windowEnd + 8 ≤ d.ns - age ∧ (d.head p).tries < 4)
          (fun d t => t.head p = { d.head p with lineIdle := d.ns, await := .none, hello := true } ∧ only [] d t)) ∧
      (∀ v : Nat, v < 256 →
        let comes (a : Await) (d : Dev) : Prop := inTime d ∧ Bytes.nats bytes = msg 0x82 [v] ∧ (d.head p).await = a
        let on1 (d t : Dev) : Prop := port t = 2 ∧ t.r (F.HP_STAT_HITCH p) = 1 ∧ (t.head p).flowDue = true ∧ (t.head p).await = .none ∧ (t.head p).param = false ∧
          (t.head p).pollDue = d.ns + 1000000 * max (d.r (F.HP_HCFG_PIVL p)) 1 ∧ t.mem = d.mem
        Does (.receiveAck p age bytes) (fun d => comes .ack d ∧ v = 0 ∧ port d = 1 ∧ ∀ f, f < 256 → fHead d f ≠ some p.val) (fun d t => on1 d t ∧ t.sw = d.sw) ∧
        (∀ f : Nat, Does (.receiveAck p age bytes)
          (fun d => comes .ack d ∧ v = 0 ∧ port d = 1 ∧ (∀ g, g < 256 → (fHead d g = some p.val ↔ g = f)) ∧ f < 256 ∧ bankFiring d (fBank d f) = true)
          (fun d t => on1 d t ∧ (t.fu f).headWait = true ∧ t.sw.pend = d.sw.pend ++ [⟨[fBank d f], .headBack f⟩])) ∧
        Does (.receiveAck p age bytes) (fun d => comes .ack d ∧ v ≠ 0 ∧ port d = 1) (refused 7) ∧
        Does (.receiveAck p age bytes) (fun d => comes .ack d ∧ v ≠ 0 ∧ port d = 2) (fun d t => port t = 2 ∧ t.r (F.HP_STAT_LCAUSE p) = 7 ∧
          t.head p = { heard d (d.head p) with tries := 0 } ∧ only [F.HP_STAT_LCAUSE p] d t) ∧
        Does (.receiveAck p age bytes) (comes .poll) (fun d t => t.head p = { heard d (d.head p) with silent := 0 } ∧ only [] d t) ∧
        Does (.receiveAck p age bytes)
          (fun d => d.ck.ladder = .run ∧ Bytes.nats bytes = msg 0x82 [v] ∧ (d.head p).await = .poll ∧ (d.ns - age + d.ck.phase) / 8 = ((d.head p).windowEnd + d.ck.phase) / 8)
          (fun d t => t.head p = { heard d (d.head p) with silent := 0 } ∧ t.r (F.HP_STAT_COIN p) = 1 ∧ bitAt (t.r F.SYS_COIN_TAG) Tag.hp = true ∧
            only [F.HP_STAT_COIN p, F.SYS_COIN_TAG] d t) ∧
        Does (.receiveHeadBye p age bytes) (fun d => inTime d ∧ Bytes.nats bytes = msg 0x89 [v] ∧ (d.head p).await = .poll ∧ alone d ∧ bitAt (d.r F.HP_QEN_CAUSE) 2 = false)
          (fun d t => left 3 2 d t ∧ t.q1.staged = [packet 0x89 [v]])) ∧
      (∀ pl : List Nat, 1 ≤ pl.length → pl.length ≤ 61 →
        Does (.receiveNote p age bytes) (fun d => inTime d ∧ Bytes.nats bytes = msg 0x83 pl ∧ (d.head p).await = .poll) (fun d t =>
          t.head p = { heard d (d.head p) with silent := 0 } ∧ t.q1 = { d.q1 with staged := [packet 0x83 pl] } ∧ t.regs = d.regs)) ∧
      (∀ (m : List Nat) (c : Nat), c ≠ crc8 m →
        let bad (d : Dev) : Prop := d.ck.ladder = .run ∧ Bytes.nats bytes = m ++ [c]
        let thrown (d t : Dev) : Prop := t.head p = { d.head p with lineIdle := d.ns } ∧ t.r (F.HP_STAT_CRCE p) = 1 ∧
          t.r (F.HP_CNT_CRCE p) = min (d.r (F.HP_CNT_CRCE p) + 1) (2 ^ (F.HP_CNT_CRCE p).width - 1) ∧ only [F.HP_STAT_CRCE p, F.HP_CNT_CRCE p] d t
        Does (.receiveIdent p age bytes) bad thrown ∧ Does (.receiveAck p age bytes) bad thrown ∧ Does (.receiveNote p age bytes) bad thrown ∧
          Does (.receiveHeadBye p age bytes) bad thrown)) ∧
    Runs (.messageGapTimeout p) (fun d => d.ck.ladder = .run) (fun d => ((d.set (F.HP_STAT_CRCE p)).inc (F.HP_CNT_CRCE p)).onH p fun h => { h with lineIdle := d.ns }) ∧
    Runs (.messageGapTimeout p) (fun d => d.ck.ladder = .nap) (fun d => d) ∧
    (let over1 (a : Await) (d : Dev) : Prop := (d.head p).await = a ∧ past (d.head p).windowEnd d
     Does (.replyWindowExpiry p) (fun d => over1 .ident d ∧ (d.head p).tries < 4) (fun d t => t.head p = { d.head p with await := .none, hello := true } ∧ only [] d t) ∧
     Does (.replyWindowExpiry p) (fun d => over1 .ident d ∧ 4 ≤ (d.head p).tries) (refused 6) ∧
     Does (.replyWindowExpiry p) (fun d => over1 .ack d ∧ port d = 1 ∧ (d.head p).tries < 4) (fun d t => t.head p = { d.head p with await := .none, param := true } ∧ only [] d t) ∧
     Does (.replyWindowExpiry p) (fun d => over1 .ack d ∧ port d = 1 ∧ 4 ≤ (d.head p).tries) (refused 7) ∧
     Does (.replyWindowExpiry p) (fun d => over1 .poll d ∧ (d.head p).silent + 1 < max (d.r (F.HP_HCFG_SILN p)) 1)
       (fun d t => t.head p = { d.head p with await := .none, silent := (d.head p).silent + 1 } ∧ only [] d t) ∧
     Does (.replyWindowExpiry p) (fun d => over1 .poll d ∧ max (d.r (F.HP_HCFG_SILN p)) 1 ≤ (d.head p).silent + 1 ∧ alone d) (left 3 3) ∧
     Runs (.replyWindowExpiry p) (fun d => (d.head p).await = .none ∨ ¬ past (d.head p).windowEnd d) (fun d => d)) ∧
    Runs (.pollIntervalExpiry p) (fun d => port d = 2 ∧ (d.head p).poll = false ∧ (d.head p).pollDue ≤ d.ns ∧ d.ck.ladder = .run ∧ (d.head p).await = .none)
      (fun d => d.onH p fun h => { h with poll := true }) ∧
    Runs (.pollIntervalExpiry p) (fun d => port d ≠ 2 ∨ d.ns < (d.head p).pollDue) (fun d => d) ∧
    (∀ low : Bool,
      Runs (.prsnChange p low) (fun d => d.awake = true)
        (fun d => (d.w (F.HP_STAT_PRSRAW p) (if low = true then 1 else 0)).onH p fun h => { h with raw := low, rawSince := d.ns }) ∧
      Runs (.prsnChange p low) (fun d => d.awake = false) (fun d => d.onH p fun h => { h with raw := low, rawSince := d.ns })) ∧
    (let lasts (low : Bool) (d : Dev) : Prop := d.ck.ladder = .run ∧ (d.head p).raw = low ∧ (d.head p).rawSince + 10000000 ≤ d.ns ∧ d.r (F.HP_STAT_PRES p) = (if low = true then 0 else 1)
     Does (.presenceDebounce p) (fun d => lasts true d ∧ d.r (F.HP_CTL_AUTO p) ≠ 0) (fun _ t => t.r (F.HP_STAT_PRES p) = 1 ∧ begun t) ∧
     Runs (.presenceDebounce p) (fun d => lasts true d ∧ d.r (F.HP_CTL_AUTO p) = 0) (fun d => (d.w (F.HP_STAT_PRES p) 1).w (F.HP_STAT_STATE p) 3) ∧
     Does (.presenceDebounce p) (fun d => lasts false d ∧ port d = 2 ∧ alone d) (fun d t => t.r (F.HP_STAT_PRES p) = 0 ∧ left 0 1 d t) ∧
     Does (.presenceDebounce p) (fun d => lasts false d ∧ port d ≠ 2) (fun d t => t.r (F.HP_STAT_PRES p) = 0 ∧ port t = 0 ∧ (t.head p).hello = false ∧
       (t.head p).param = false ∧ (t.head p).await = .none ∧ before d t ∧ only ([F.HP_STAT_PRES p, F.HP_STAT_STATE p] ++ rec3) d t) ∧
     Runs (.presenceDebounce p) (fun d => d.ns < (d.head p).rawSince + 10000000) (fun d => d)) ∧
    (∀ (k : Fin 64) (s : Slot) (q : Nat),
      let at1 (d : Dev) : Int := (timeOf s.tfire d : Int) - s.lead
      let due (d : Dev) : Prop := d.sw.slots = [(k.val, s)] ∧ s.st = .set ∧ s.step = 0 ∧ s.plots[0]? = some q ∧ (stepAt d q 0).trg = true ∧
        (∀ e ∈ s.trigs, e.1 ≠ 0) ∧ 0 ∉ s.supp ∧
        d.r (F.SWF_CFG_HEADEN s.f) ≠ 0 ∧ d.r (F.SWF_CFG_HEAD s.f) = p.val ∧ port d = 2 ∧ darkened d = false ∧ at1 d ≤ d.ns ∧ (d.head p).notices = []
      let clear1 (d : Dev) : Prop := ∀ u, (d.head p).lastTrig = some u → u + d.r (F.HP_PER_PERIOD p) ≤ at1 d
      Does (.triggerAssert k 0) (fun d => due d ∧ clear1 d) (fun d t => t.sl k = { s with trigs := s.trigs ++ [(0, (at1 d).toNat)] } ∧
        t.head p = { d.head p with trig := true, trigEnd := at1 d + max (d.r (F.HP_TCFG_TWID p)) 100, lastTrig := some (at1 d) } ∧ t.regs = d.regs ∧
        t = { d with sw := t.sw, hp := t.hp }) ∧
      Does (.triggerAssert k 0) (fun d => due d ∧ ¬clear1 d) (fun d t => t.sl k = { s with supp := s.supp ++ [0] } ∧ t.head p = d.head p ∧
        t.r (F.HP_STAT_PERIOD p) = 1 ∧ t.r (F.HP_CNT_SUPP p) = min (d.r (F.HP_CNT_SUPP p) + 1) (2 ^ (F.HP_CNT_SUPP p).width - 1) ∧ t.mem = d.mem) ∧
      (∀ i : Nat, Runs (.triggerAssert k i) (fun d => d.sw.slots = [(k.val, s)] ∧ s.st = .armed) (fun d => d)) ∧
      (let leaves (d : Dev) : Prop := (d.head p).bye = true ∧ past (d.head p).byeEnd d
       Does (.byeStartTimeout p) (fun d => leaves d ∧ alone d) (fun d t => left 3 4 d t ∧ (t.head p).bye = false) ∧
       Does (.byeStartTimeout p) (fun d => leaves d ∧ d.sw.slots = [(k.val, s)] ∧ s.st = .armed ∧ d.r (F.SWF_CFG_HEADEN s.f) ≠ 0 ∧ d.r (F.SWF_CFG_HEAD s.f) = p.val ∧
           (s.born + d.ck.phase) / 4 ≠ (d.ns + d.ck.phase) / 4 ∧ s.trigs = [] ∧ s.pos ∉ (d.fu s.f).deferred ∧ d.sw.pend = [])
         (fun d t => left 3 4 d t ∧ t.sl k = {} ∧ (t.fu s.f).defer = min ((d.fu s.f).defer + 1) (2 ^ 32 - 1) ∧
           t.r F.SW_WDRAW_COUNT = min (d.r F.SW_WDRAW_COUNT + 1) (2 ^ 32 - 1)) ∧
       Runs (.byeStartTimeout p) (fun d => (d.head p).bye = false ∨ ¬ past (d.head p).byeEnd d) (fun d => d))) ∧
    Runs (.triggerEnd p) (fun d => (d.head p).trig = true ∧ (d.head p).trigEnd ≤ d.ns) (fun d => d.onH p fun h => { h with trig := false }) ∧
    Runs (.triggerEnd p) (fun d => (d.head p).trig = false ∨ (d.ns : Int) < (d.head p).trigEnd) (fun d => d) ∧
    (∀ (c : Check) (r : List Check) (e : Nat) (cover : Fin 3),
      let ready (d : Dev) : Prop := (d.head p).checks = c :: r ∧ c.stop = some e ∧ e ≤ d.ns
      let counted (d t : Dev) : Prop := t.head p = { d.head p with checks := r } ∧ t.r (F.HP_XCNT_CHECKS p) = min (d.r (F.HP_XCNT_CHECKS p) + 1) 65535
      Does (.exposureCheck p 2 false) ready (fun d t => counted d t ∧ only [F.HP_XCNT_CHECKS p] d t) ∧
      Does (.exposureCheck p cover true) ready (fun d t => counted d t ∧ t.r (F.HP_STAT_XCOIN p) = 1 ∧ bitAt (t.r F.SYS_COIN_TAG) Tag.hp = true ∧
        only [F.HP_XCNT_CHECKS p, F.HP_STAT_XCOIN p, F.SYS_COIN_TAG] d t) ∧
      Does (.exposureCheck p cover false) (fun d => ready d ∧ cover.val < 2 ∧ bitAt (d.r F.HP_QEN_CAUSE) 0 = true ∧ evStaged d < 16) (fun d t => counted d t ∧
        t.r (F.HP_STAT_EXPMISS p) = 1 ∧ t.r (F.HP_XCNT_MISSES p) = min (d.r (F.HP_XCNT_MISSES p) + 1) 65535 ∧
        t.q1.staged = d.q1.staged ++ [(7, evBytes Tag.hp 1 p c.tlt (c.f + 256 * cover.val))]) ∧
      (∀ tie : Bool, Runs (.exposureCheck p cover tie) (fun d => (d.head p).checks = [] ∨ ((d.head p).checks = c :: r ∧ c.stop = some e ∧ d.ns < e)) (fun d => d))) ∧
    Does (.hpCtlOn p) (fun d => port d = 3) (fun d t => begun t ∧ before d t ∧ only (F.HP_STAT_STATE p :: rec3) d t) ∧
    Runs (.hpCtlOn p) (fun d => port d ≠ 3) (fun d => d) ∧
    Does (.hpCtlOff p) (fun d => port d = 1) (fun d t => port t = 3 ∧ t.r (F.HP_STAT_LCAUSE p) = 4 ∧ (t.head p).hello = false ∧ (t.head p).param = false ∧
      (t.head p).await = .none ∧ before d t ∧ only ([F.HP_STAT_STATE p, F.HP_STAT_LCAUSE p] ++ rec3) d t) ∧
    Runs (.hpCtlOff p) (fun d => port d = 2 ∧ (d.head p).bye = false) (fun d => d.onH p fun h => { h with bye := true, byeEnd := d.ns + 1000000 }) ∧
    Runs (.hpCtlOff p) (fun d => port d = 0 ∨ port d = 3 ∨ (port d = 2 ∧ (d.head p).bye = true)) (fun d => d) ∧
    Does (.hpCtlHitch p) (fun d => port d = 1 ∨ port d = 3) (fun d t => begun t ∧ before d t ∧ only (F.HP_STAT_STATE p :: rec3) d t) ∧
    Does (.hpCtlHitch p) (fun d => port d = 2 ∧ alone d) (fun d t => begun t ∧ t.r (F.HP_STAT_LCAUSE p) = 4 ∧ (t.head p).taints = [] ∧ (t.head p).notices = [] ∧
      (t.head p).trig = false ∧ t.mem = d.mem) ∧
    Runs (.hpCtlHitch p) (fun d => port d = 0) (fun d => d) ∧
    (∀ v : Word,
      Runs (.hpExptWrite p v) (fun d => port d = 2) (fun d => (d.w (F.HP_EXPT_EXPT p) v.toNat).onH p fun h => { h with param := true, due := d.ns }) ∧
      Runs (.hpExptWrite p v) (fun d => port d ≠ 2) (fun d => d.w (F.HP_EXPT_EXPT p) v.toNat)) ∧
    Runs (.hpCntClear p) (fun _ => True)
      (fun d => (((d.w (F.HP_CNT_CRCE p) 0).w (F.HP_CNT_TLOST p) 0).w (F.HP_CNT_ASTALE p) 0).w (F.HP_CNT_SUPP p) 0) ∧
    Runs (.hpXcntClear p) (fun _ => True) (fun d => (d.w (F.HP_XCNT_CHECKS p) 0).w (F.HP_XCNT_MISSES p) 0)

/-- Where it is due with its registers free, a load of LDW, LDHU, LDHS, LDBU, LDBS or LDWX whose effective address (a + sext(imm), or a + 4b, modulo
2^32) is aligned to its width, permitted and in near RAM writes register d, zero- or sign-extended, at once, from memory as the posted near stores
leave it; MFC does the same with the register of the core control space, and where a store to VBASE or to a read-only register of that space is
posted, sees it as the register will hold it: VBASE with its reserved bits 0, CORE_ID and IC_STAT unchanged (log entry 81). The memory and every other
register stay; `rd` is the model's own record of the word read. [R148; R170; R171; R176; Table IS-10] -/
def Obligations.NearLoads : Prop :=
  ∀ (t a b : BitVec 4) (imm : BitVec 16) (c : BitVec 12),
    Runs (.ldw t a imm) (fun d => Due [t, a] d ∧ NearAt .r 4 (d.wr a.toNat + imm.signExtend 32).toNat d)
      (fun d => loadRetire t 4 false (d.wr a.toNat + imm.signExtend 32).toNat d) ∧
    Runs (.ldhu t a imm) (fun d => Due [t, a] d ∧ NearAt .r 2 (d.wr a.toNat + imm.signExtend 32).toNat d)
      (fun d => loadRetire t 2 false (d.wr a.toNat + imm.signExtend 32).toNat d) ∧
    Runs (.ldhs t a imm) (fun d => Due [t, a] d ∧ NearAt .r 2 (d.wr a.toNat + imm.signExtend 32).toNat d)
      (fun d => loadRetire t 2 true (d.wr a.toNat + imm.signExtend 32).toNat d) ∧
    Runs (.ldbu t a imm) (fun d => Due [t, a] d ∧ NearAt .r 1 (d.wr a.toNat + imm.signExtend 32).toNat d)
      (fun d => loadRetire t 1 false (d.wr a.toNat + imm.signExtend 32).toNat d) ∧
    Runs (.ldbs t a imm) (fun d => Due [t, a] d ∧ NearAt .r 1 (d.wr a.toNat + imm.signExtend 32).toNat d)
      (fun d => loadRetire t 1 true (d.wr a.toNat + imm.signExtend 32).toNat d) ∧
    Runs (.ldwx t a b) (fun d => Due [t, a, b] d ∧ NearAt .r 4 (d.wr a.toNat + 4 * d.wr b.toNat).toNat d)
      (fun d => loadRetire t 4 false (d.wr a.toNat + 4 * d.wr b.toNat).toNat d) ∧
    Runs (.mfc t c) (fun d => Due [t] d ∧ guardOk d .r (crAddr c.toNat) = true ∧ coreReg (crAddr c.toNat) = true ∧
        d.co.wb.all (fun p => decide (p.addr / 0x1000 ≠ 0xE0000)) = true)
      (fun d => advancePc ((busRead (crAddr c.toNat) (fetched d)).setW t.toNat
        (BitVec.ofNat 32 (busRead (crAddr c.toNat) (fetched d)).rd))) ∧
    (∀ p : Posted,
      let took (v : Nat) (d : Dev) : Dev := advancePc ({ fetched d with rd := v }.setW t.toNat (BitVec.ofNat 32 v))
      let sees (d : Dev) : Prop := Due [t] d ∧ guardOk d .r (crAddr c.toNat) = true ∧ d.co.wb = [p] ∧ p.addr = crAddr c.toNat
      (crAddr c.toNat = 0xE0000010 → Runs (.mfc t c) sees (took (p.data / 512 % 2 ^ 23 * 512))) ∧
      (crAddr c.toNat ∈ [0xE0000000, 0xE000001C] → Runs (.mfc t c) sees (fun d => took (plainRead (fetched d) (crAddr c.toNat)) d)))

/-- Where it is due with its registers free, its checks pass and fewer than four stores wait, STW, STH, STB, STWX or MTC puts its address, width and
the low bytes of its register behind the waiting stores, and the next instruction is due; no register, no flag and no byte of memory changes. With
four stores waiting the instruction does not complete and its address stays due. [R147; R170; R176; Table IS-10] -/
def Obligations.StoresPost : Prop :=
  ∀ (r a b : BitVec 4) (imm : BitVec 16) (c : BitVec 12),
    Runs (.stw r a imm) (fun d => Due [r, a] d ∧ dataFault d true 4 (eaImm d a.toNat imm) = 0 ∧ d.co.wb.length < 4)
      (fun d => post r 4 (eaImm d a.toNat imm) d) ∧
    Runs (.sth r a imm) (fun d => Due [r, a] d ∧ dataFault d true 2 (eaImm d a.toNat imm) = 0 ∧ d.co.wb.length < 4)
      (fun d => post r 2 (eaImm d a.toNat imm) d) ∧
    Runs (.stb r a imm) (fun d => Due [r, a] d ∧ dataFault d true 1 (eaImm d a.toNat imm) = 0 ∧ d.co.wb.length < 4)
      (fun d => post r 1 (eaImm d a.toNat imm) d) ∧
    Runs (.stwx r a b) (fun d => Due [r, a, b] d ∧ dataFault d true 4 (eaIdx d a.toNat b.toNat) = 0 ∧ d.co.wb.length < 4)
      (fun d => post r 4 (eaIdx d a.toNat b.toNat) d) ∧
    Runs (.mtc r c) (fun d => Due [r] d ∧ dataFault d true 4 (crAddr c.toNat) = 0 ∧ d.co.wb.length < 4)
      (fun d => post r 4 (crAddr c.toNat) d) ∧
    Does (.stw r a imm) (fun d => Due [r, a] d ∧ dataFault d true 4 (eaImm d a.toNat imm) = 0 ∧ 4 ≤ d.co.wb.length)
      (fun d t => t.co.pc = d.co.pc ∧ t.co.wb = d.co.wb ∧ t.mem = d.mem ∧ t.regs = d.regs)

/-- With a store to near RAM at the front of the write buffer, a drain writes the store's bytes at its address, least significant first, so that a
load of its width there gives its data, leaves every other byte of memory and every register field, and takes the store out of the buffer. A store to
far space or to a core control register is performed by its block; an empty buffer changes nothing. [R147; R149; R171; R7] -/
def Obligations.DrainStores : Prop :=
  (∀ (p : Posted) (r : List Posted),
    Does .writeBufferDrain (fun d => d.co.wb = p :: r ∧ inRam p.addr = true)
      (fun d t => t.load p.width p.addr = p.data % 256 ^ p.width ∧ SameBytes p.addr p.width d t ∧ t.regs = d.regs ∧
        t.co = { d.co with wb := r }) ∧
    Runs .writeBufferDrain (fun d => d.co.wb = p :: r ∧ inRam p.addr = false ∧ isFar p.addr = false)
      (fun d => busWrite p.addr p.data (d.onCo fun k => { k with wb := r })) ∧
    Runs .writeBufferDrain (fun d => d.co.wb = p :: r ∧ inRam p.addr = false ∧ isFar p.addr = true ∧
        farFails (d.onCo fun k => { k with wb := r }) true p.width p.addr = false)
      (fun d => pump 2 (busWrite p.addr p.data (d.onCo fun k => { k with wb := r }))) ∧
    Runs .writeBufferDrain (fun d => d.co.wb = p :: r ∧ inRam p.addr = false ∧ isFar p.addr = true ∧ d.co.loads = [] ∧
        farFails (d.onCo fun k => { k with wb := r }) true p.width p.addr = true)
      (fun d => d.onCo fun k => { k with wb := r, fails := k.fails ++ [(p.addr, none)] })) ∧
  Runs .writeBufferDrain (fun d => d.co.wb = []) (fun d => d)

/-- A word load that runs after a word store to the same near RAM address has been posted, before it drains, gives the value stored. [R148] -/
def Obligations.LoadSeesLatestStore : Prop :=
  ∀ (r t a : BitVec 4) (imm : BitVec 16) (s u : State), t.toNat ≠ 0 →
    Due [r, a] s.dev → dataFault s.dev true 4 (eaImm s.dev a.toNat imm) = 0 → inRam (eaImm s.dev a.toNat imm) = true →
    s.dev.co.wb.length < 4 → exec (.stw r a imm) s = .next u → Due [t, a] u.dev → NearAt .r 4 (eaImm u.dev a.toNat imm) u.dev →
    ∃ v : State, exec (.ldw t a imm) u = .next v ∧ v.dev.wr t.toNat = s.dev.wr r.toNat ∧ v.dev.mem = s.dev.mem

/-- Where fewer than two far loads are outstanding, none of them still waits to reach its block and no store waits, a word load from a register of the
peripheral space is issued: its access reaches the block, the destination is busy unless it is w0, and the next instruction is due. The oldest load
whose word has come writes its register and leaves the list, and a BUSI that waited for its register is taken. A third far load stalls, and so does an
instruction that names a busy register. [R144; R145; R146; R148; R157; R172] -/
def Obligations.FarLoads : Prop :=
  (∀ (t a : BitVec 4) (imm : BitVec 16),
    Does (.ldw t a imm) (fun d => Due [t, a] d ∧ eaImm d a.toNat imm = 0x40000020 ∧ guardOk d .r 0x40000020 = true ∧ d.co.loads.length < 2 ∧
        d.co.loads.all (fun l => l.reached && decide (l.id ≠ d.co.nextLoad)) = true ∧ d.co.wb = [])
      (fun d u => u.co.loads = d.co.loads ++ [⟨d.co.nextLoad, 0x40000020, t.toNat, 4, false, true, some (d.tlt % 2 ^ 32)⟩] ∧
        u.r F.CK_TLTH_TLT = d.tlt / 2 ^ 32 % 2 ^ 16 ∧ (t.toNat ≠ 0 → busyReg u t.toNat = true) ∧ busyReg u 0 = false ∧
        u.co.pc = (d.co.pc + 4) % 2 ^ 32 ∧ u.co.w = d.co.w ∧ u.mem = d.mem) ∧
    Does (.ldw t a imm) (fun d => Due [t, a] d ∧ dataFault d false 4 (eaImm d a.toNat imm) = 0 ∧ isFar (eaImm d a.toNat imm) = true ∧
        2 ≤ d.co.loads.length)
      (fun d u => u = stall d)) ∧
  (∀ (l : FarLoad) (r : List FarLoad) (v : Nat), l.res = some v → l.width = 4 → l.sgn = false → r.all (fun x => x.reached && decide (x.id ≠ l.id)) = true →
    Does .farLoadReturn (fun d => d.co.loads = l :: r ∧ d.co.busi = none)
      (fun d u => u.co.loads = r ∧ (∀ k, u.wr k = if k = l.dst ∧ l.dst ≠ 0 then BitVec.ofNat 32 v else d.wr k) ∧ u.mem = d.mem ∧
        u.regs = d.regs ∧ u.co.pc = d.co.pc) ∧
    (∀ a : Nat,
      let told (d : Dev) : Dev := (d.setW l.dst (BitVec.ofNat 32 v)).onCo fun k => { k with loads := [], busi := none }
      Does .farLoadReturn (fun d => d.co.loads = [l] ∧ d.co.busi = some a ∧ d.co.level < 8 ∧ CanEnter 6 d.co.pc (told d))
        (fun d u => TakesException 6 d.co.pc (some a) (told d) u ∧ u.co.busi = none))) ∧
  (∀ t a b : BitVec 4, Runs (.add t a b) (fun d => CpuReady d ∧ (busyReg d t.toNat || busyReg d a.toNat || busyReg d b.toNat) = true)
    (fun d => d))

/-- Where it is due, B with code 0 to 14 goes to pc + 4 sext(disp), modulo 2^32, where its condition of Table IS-5 holds, and to the next instruction
otherwise; nothing else changes but what delivery counts. Code 15 takes UNDEF at the instruction itself, at a level below 8 with an enterable handler.
[R165] -/
def Obligations.Branches : Prop :=
  ∀ disp : BitVec 22,
    let taken := fun (b : Dev → Bool) (d : Dev) =>
      goTo (if b d then (BitVec.ofNat 32 d.co.pc + 4 * disp.signExtend 32).toNat else (d.co.pc + 4) % 2 ^ 32) (fetched d)
    Runs (.bCond 0 disp) CpuReady (taken fun _ => true) ∧
    Runs (.bCond 1 disp) CpuReady (taken fun d => d.co.z) ∧
    Runs (.bCond 2 disp) CpuReady (taken fun d => !d.co.z) ∧
    Runs (.bCond 3 disp) CpuReady (taken fun d => d.co.c) ∧
    Runs (.bCond 4 disp) CpuReady (taken fun d => !d.co.c) ∧
    Runs (.bCond 5 disp) CpuReady (taken fun d => d.co.c && !d.co.z) ∧
    Runs (.bCond 6 disp) CpuReady (taken fun d => !d.co.c || d.co.z) ∧
    Runs (.bCond 7 disp) CpuReady (taken fun d => d.co.n == d.co.v) ∧
    Runs (.bCond 8 disp) CpuReady (taken fun d => d.co.n != d.co.v) ∧
    Runs (.bCond 9 disp) CpuReady (taken fun d => !d.co.z && d.co.n == d.co.v) ∧
    Runs (.bCond 10 disp) CpuReady (taken fun d => d.co.z || d.co.n != d.co.v) ∧
    Runs (.bCond 11 disp) CpuReady (taken fun d => d.co.n) ∧
    Runs (.bCond 12 disp) CpuReady (taken fun d => !d.co.n) ∧
    Runs (.bCond 13 disp) CpuReady (taken fun d => d.co.v) ∧
    Runs (.bCond 14 disp) CpuReady (taken fun d => !d.co.v) ∧
    Does (.bCond 15 disp) (fun d => CpuReady d ∧ d.co.level < 8 ∧ CanEnter 1 d.co.pc (fetched d))
      (fun d t => TakesException 1 d.co.pc none d t)

/-- Where it is due with its registers free, CALL writes lk with the next address and goes to pc + 4 sext(disp); JR goes to the address in a; CALLR
writes lk with the next address and goes to the address that a held before; nothing else changes but what delivery counts. A target whose low two bits
are not 0 takes ALIGN at the instruction, with the target as its address and lk unwritten. [R173; R166; R157] -/
def Obligations.CallsAndJumps : Prop :=
  (∀ disp : BitVec 26, Runs (.call disp) (Due [15])
    (fun d => goTo (BitVec.ofNat 32 d.co.pc + 4 * disp.signExtend 32).toNat ((fetched d).setW 15 (BitVec.ofNat 32 (d.co.pc + 4))))) ∧
  (∀ a : BitVec 4,
    Runs (.jr a) (fun d => Due [a] d ∧ (d.wr a.toNat).toNat % 4 = 0) (fun d => goTo (d.wr a.toNat).toNat (fetched d)) ∧
    Runs (.callr a) (fun d => Due [a, 15] d ∧ (d.wr a.toNat).toNat % 4 = 0)
      (fun d => goTo (d.wr a.toNat).toNat ((fetched d).setW 15 (BitVec.ofNat 32 (d.co.pc + 4)))) ∧
    Does (.callr a) (fun d => Due [a, 15] d ∧ (d.wr a.toNat).toNat % 4 ≠ 0 ∧ d.co.level < 8 ∧ CanEnter 2 d.co.pc (fetched d))
      (fun d t => TakesException 2 d.co.pc (some (d.wr a.toNat).toNat) d t))

/-- Where it is due, NOP and a SYNC whose conditions hold leave the next instruction due; a SYNC whose conditions do not hold changes nothing; WAIT
with no ladder request and no source above LEVEL stops the core at the next instruction, and with such a source ends at once; MFSTAT writes STAT to
its register; BRK with the debug path enabled halts the core at the next instruction. [R141; R150; Table IS-12] -/
def Obligations.SystemInstructions : Prop :=
  Runs .nop CpuReady (fun d => advancePc (fetched d)) ∧
  Runs .sync (fun d => CpuReady d ∧ d.co.wb = [] ∧ d.co.loads = [] ∧ d.b F.IC_CTL_INV = false ∧ d.co.vwait = false)
    (fun d => advancePc (fetched d)) ∧
  Runs .sync (fun d => CpuReady d ∧ (d.co.wb ≠ [] ∨ d.co.loads ≠ [] ∨ d.b F.IC_CTL_INV = true)) (fun d => d) ∧
  Runs .wait (fun d => CpuReady d ∧ d.r F.CK_LADDER_REQ = 0 ∧ irqAbove (fetched d) d.co.level = none)
    (fun d => (advancePc (fetched d)).onCo fun k => { k with waiting := true }) ∧
  Does .wait (fun d => CpuReady d ∧ d.r F.CK_LADDER_REQ = 0 ∧ (irqAbove (fetched d) d.co.level).isSome = true)
    (fun d t => t.co.waiting = false ∧ t.co.pc = (d.co.pc + 4) % 2 ^ 32 ∧ t.mem = d.mem) ∧
  (∀ t : BitVec 4, Runs (.mfstat t) (Due [t]) (fun d => retire t (BitVec.ofNat 32
    ((if d.co.n then 2 ^ 31 else 0) + (if d.co.z then 2 ^ 30 else 0) + (if d.co.c then 2 ^ 29 else 0) + (if d.co.v then 2 ^ 28 else 0) +
      (if d.co.ie then 2 ^ 8 else 0) + d.co.level % 16)) d)) ∧
  Runs .brk (fun d => CpuReady d ∧ d.r F.KY_LC_DBGEN = 1) (fun d => (advancePc (fetched d)).onCo fun k => { k with halted := true })

/-- At a level below 8 and with an enterable handler: an undefined word takes UNDEF (1), a misaligned pc or data address ALIGN (2), a fetch outside
executable memory FETCH (3), a data access that a guard region denies GUARD (4), a near access to an unmapped address BUSP (5), BRK without the debug
path BRK (8); the stacked pc is the instruction, every general register but sp stays, and nothing is posted. At level 8 an exception is a lockup
reset, and an interrupt whose frame cannot be written is one too. [R157; R158; R163; R171; R180; R182; Table CO-7] -/
def Obligations.Exceptions : Prop :=
  (∀ w : Word, definedWord w.toNat = false →
    Does (.undefinedEncoding w) (fun d => CpuReady d ∧ d.co.level < 8 ∧ CanEnter 1 d.co.pc (fetched d))
      (fun d t => TakesException 1 d.co.pc none d t) ∧
    Runs (.undefinedEncoding w) (fun d => CpuReady d ∧ 8 ≤ d.co.level) (fun d => lockupReset (fetched d))) ∧
  (∀ (t a : BitVec 4) (imm : BitVec 16),
    Does (.ldw t a imm) (fun d => Due [t, a] d ∧ d.co.level < 8 ∧ eaImm d a.toNat imm % 4 ≠ 0 ∧ CanEnter 2 d.co.pc (fetched d))
      (fun d u => TakesException 2 d.co.pc (some (eaImm d a.toNat imm)) d u) ∧
    Does (.stb t a imm) (fun d => Due [t, a] d ∧ d.co.level < 8 ∧ guardOk d .w (eaImm d a.toNat imm) = false ∧ CanEnter 4 d.co.pc (fetched d))
      (fun d u => TakesException 4 d.co.pc (some (eaImm d a.toNat imm)) d u ∧ u.co.wb = d.co.wb) ∧
    Does (.ldbu t a imm) (fun d => Due [t, a] d ∧ d.co.level < 8 ∧ guardOk d .r (eaImm d a.toNat imm) = true ∧
        0x80000000 ≤ eaImm d a.toNat imm ∧ CanEnter 5 d.co.pc (fetched d))
      (fun d u => TakesException 5 d.co.pc (some (eaImm d a.toNat imm)) d u)) ∧
  Does .brk (fun d => CpuReady d ∧ d.r F.KY_LC_DBGEN = 0 ∧ d.co.level < 8 ∧ CanEnter 8 d.co.pc (fetched d))
    (fun d t => TakesException 8 d.co.pc none d t) ∧
  Does .nop (fun d => imageRuns d = true ∧ d.co.waiting = false ∧ d.co.busi = none ∧ irqNow d = none ∧ d.co.pc % 4 ≠ 0 ∧ d.co.level < 8 ∧ CanEnter 2 d.co.pc d)
    (fun d t => TakesException 2 d.co.pc (some d.co.pc) d t) ∧
  Does .nop (fun d => imageRuns d = true ∧ d.co.waiting = false ∧ d.co.busi = none ∧ irqNow d = none ∧ d.co.pc % 4 = 0 ∧ executable d d.co.pc = false ∧
      d.co.level < 8 ∧ CanEnter 3 d.co.pc d)
    (fun d t => TakesException 3 d.co.pc (some d.co.pc) d t) ∧
  Runs .interruptEntry (fun d => imageRuns d = true ∧ d.co.busi = none ∧ (irqNow d).isSome = true ∧ frameBusy d = false ∧ frameOk d .w (d.wr 14 - 40).toNat = false)
    lockupReset

/-- Where image code runs with IE set, the pending source of the highest level above LEVEL, the lowest number within it, is entered with pc stacked at
that level; IE and the flags stay and every byte outside the ten words of the frame stays. RETI above level 0 with no source eligible at the stacked
level and IE unstacks: w1-w7 and lk take the stacked words, sp rises by 40, the flags, IE and LEVEL take the stacked STAT and the stacked pc is due,
and no memory changes; with such a source it chains to its handler with the frame left in place; at level 0 it takes UNDEF. [R151; R153; R155; Table
CO-6] -/
def Obligations.InterruptEntry : Prop :=
  (∀ src lv : Nat,
    Does .interruptEntry (fun d => imageRuns d = true ∧ d.co.busi = none ∧ irqNow d = some (src, lv) ∧ CanEnter (16 + src) d.co.pc d)
      (fun d t => Entered (16 + src) d.co.pc lv d t ∧ t.regs = d.regs ∧ t.co.waiting = false)) ∧
  (∀ (d : Dev) (src lv : Nat), irqNow d = some (src, lv) →
    d.co.ie = true ∧ src < 64 ∧ irqPending d src = true ∧ irqLevel d src = lv ∧ d.co.level < lv ∧
      (∀ k, k < 64 → irqPending d k = true → irqLevel d k ≤ lv ∧ (irqLevel d k = lv → src ≤ k))) ∧
  Does .reti (fun d => Due [14] d ∧ d.co.level ≠ 0 ∧ frameOk d .r (d.wr 14).toNat = true ∧ frameBusy d = false ∧
      (if (frameWord d 36).testBit 8 then irqAbove (fetched d) (frameWord d 36 % 16) else none) = none)
    (fun d t => (∀ i, i < 8 → t.wr (frameRegs.getD i 0) = BitVec.ofNat 32 (frameWord d (4 * i))) ∧ t.wr 14 = d.wr 14 + 40 ∧
      (∀ r, 8 ≤ r → r < 14 → t.wr r = d.wr r) ∧
      t.co.pc = frameWord d 32 ∧ t.co.level = frameWord d 36 % 16 ∧ t.co.n = (frameWord d 36).testBit 31 ∧
      t.co.z = (frameWord d 36).testBit 30 ∧ t.co.c = (frameWord d 36).testBit 29 ∧ t.co.v = (frameWord d 36).testBit 28 ∧
      t.co.ie = (frameWord d 36).testBit 8 ∧ t.mem = d.mem) ∧
  (∀ src lv v : Nat,
    Does .reti (fun d => Due [14] d ∧ d.co.level ≠ 0 ∧ frameOk d .r (d.wr 14).toNat = true ∧ (frameWord d 36).testBit 8 = true ∧
        irqAbove (fetched d) (frameWord d 36 % 16) = some (src, lv) ∧ vectorOf (fetched d) (16 + src) = some v)
      (fun d t => t.co.pc = v ∧ t.co.level = lv ∧ t.co.w = d.co.w ∧ t.mem = d.mem)) ∧
  Does .reti (fun d => Due [14] d ∧ d.co.level = 0 ∧ CanEnter 1 d.co.pc (fetched d)) (fun d t => TakesException 1 d.co.pc none d t)

/-- Where RETI runs with the core and memory as an interrupt's entry left them, is due, may read its frame, and finds no source eligible at the
stacked level any more, the return restores what the entry stacked: w1 to w7, sp, lk, every flag, IE, LEVEL and pc are as they were before the entry,
and so are w8 to w13. [R153; R155; Table CO-6] -/
def Obligations.EntryThenReturn : Prop :=
  ∀ (s u x v : State) (src lv : Nat), imageRuns s.dev = true → irqNow s.dev = some (src, lv) → CanEnter (16 + src) s.dev.co.pc s.dev →
    s.dev.co.wb = [] → s.dev.co.level < 16 → s.dev.co.pc < 2 ^ 32 → exec .interruptEntry s = .next u → x.dev.co = u.dev.co → x.dev.mem = u.dev.mem →
    Due [14] x.dev → frameBusy x.dev = false → frameOk x.dev .r (x.dev.wr 14).toNat = true → irqAbove (fetched x.dev) s.dev.co.level = none →
    exec .reti x = .next v →
      (∀ r, r < 16 → v.dev.wr r = s.dev.wr r) ∧ v.dev.co.pc = s.dev.co.pc ∧ v.dev.co.level = s.dev.co.level ∧ v.dev.co.ie = s.dev.co.ie ∧
        v.dev.co.n = s.dev.co.n ∧ v.dev.co.z = s.dev.co.z ∧ v.dev.co.c = s.dev.co.c ∧ v.dev.co.v = s.dev.co.v

/-- For every Cartil instruction but CALLM and every operand that a defined encoding holds, the word written for it decodes to the instruction itself,
is below 2^32 and counts as defined. [Table IS-2; Table IS-3; Table IS-4; Table IS-12; R162; R163] -/
def Obligations.DecodeOfEncode : Prop :=
  ∀ (i : Instr) (w : Nat), encodeWord i = some w → decodeWord w = some i ∧ w < 2 ^ 32 ∧ definedWord w = true

/-- The words of Line A and Line B of the spec decode to the instructions they stand for, and 0x00000000 and 0xFFFFFFFF are undefined. [R163; Line A;
Line B] -/
def Obligations.WordsOfTheSpec : Prop :=
  decodeWord 0x20400020 = some (.movl 1 0x20) ∧ decodeWord 0x24404000 = some (.movh 1 0x4000) ∧ decodeWord 0x40840000 = some (.ldw 2 1 0) ∧
  decodeWord 0x40C40004 = some (.ldw 3 1 4) ∧ decodeWord 0x01908005 = some (.subs 6 4 2) ∧ decodeWord 0x01D4C006 = some (.sbc 7 5 3) ∧
  decodeWord 0x01100018 = some (.popc 4 4) ∧ decodeWord 0x80BFFFFB = some (.bCond 2 (-5)) ∧ definedWord 0 = false ∧
  definedWord 0xFFFFFFFF = false ∧ definedWord 0xC4000007 = true

/-- Every word below 2^32 that decodes is the encoding of what it decodes to: a field that must be 0 and is not, a function or major opcode outside
the tables, condition 15 and a bit field that runs past bit 31 make the word undefined. [R162; R163; R165; R168; R174] -/
def Obligations.UndefinedFields : Prop :=
  ∀ (w : Nat) (i : Instr), w < 2 ^ 32 → decodeWord w = some i → encodeWord i = some w

/-- At every multiple of 1000 the master sends an epoch with its position, velocity and flags, and the next cell: a held one first, else its own
TAINT; a master that does not drive the ring fails ring-up at its step's bound. A member takes a valid epoch: it forwards it with BUSY set while it is
busy itself, its offset is shown, its watchdog restarts, the first load brings its TLT within 0.5 ns, each later epoch moves it by at most 1 ns, the
eighth within 1 ns aligns it and makes it UP, the fourth beyond 8 ns takes it to BREAK, UP at 0 after UP takes it DOWN and clears its address, and a
headland admits an outstanding JOIN. A bad frame changes nothing, a code error counts, an epoch in its watchdog's cycle is taken with COIN, and one in
a later cycle finds it expired. A repeater sends on each cell that is not its own, returned. The watchdog takes a member to BREAK and the master to
BROKEN with SR_MEM cleared. DISC gives addresses and starts measurement at the master, MEAS and MRES measure the links in order, DLY gives D, ALIGNED
sets the SR_MEM bit and its last one ends ring-up, whose timeout leaves members out as refused. JOIN, LEAVE, ROLL, TAINT, TUN and TUNR act as their
rules say; a line cell out of sequence discards its line and is counted. UP, DOWN, JOIN and LEAVE change nothing where they are refused, and a write
of SR_CNT clears its counts. [R403; R404; R405; R406; R407; R408; R410; R413; R414; R415; R416; R417] -/
def Obligations.SyncRing : Prop :=
  let live (d : Dev) : Prop := d.r F.SR_CTL_EN ≠ 0 ∧ d.ck.ladder = .run ∧ darkened d = false
  let calm (d : Dev) : Prop := d.sw.slots = [] ∧ d.sw.furrows = []
  let state (d : Dev) : Nat := d.r F.SR_STAT_STATE
  let master (d : Dev) : Prop := live d ∧ d.r F.SR_STAT_MASTER ≠ 0 ∧ d.r F.SR_STAT_ADDR = 0 ∧ d.r F.SR_STAT_ADDRV ≠ 0
  let member (a : Nat) (d : Dev) : Prop := live d ∧ d.r F.SR_STAT_MASTER = 0 ∧ d.r F.SR_STAT_ADDRV ≠ 0 ∧ d.r F.SR_STAT_ADDR = a
  let only (d t : Dev) : Prop := t = { d with regs := t.regs, sr := t.sr, q1 := t.q1, st := { d.st with tun := t.st.tun } }
  let passes (c : Cell) (d : Dev) : Dev :=
    { d with sr := { d.sr with sentCell := if d.r F.SR_STAT_ADDRV ≠ 0 ∧ d.r F.SR_STAT_ADDR = c.src then none else some c } }
  let past (d : Dev) (w : Nat) : Prop := (w + d.ck.phase) / 4 < (d.ns + d.ck.phase) / 4
  let watch (d : Dev) : Option Nat := some (d.ns + 1000 * max (d.r F.SR_CFG_EWD) 1)
  (let e (d : Dev) : Nat := d.tlt / 1000
   let n (d : Dev) : Nat := d.r F.EN_RING_RSRC
   let due (d : Dev) : Prop := master d ∧ state d = 2 ∧ d.sr.step = .none ∧ d.sr.nextE ≤ e d
   let epoch (d : Dev) : Epoch := { e := e d % 2 ^ 40, pos := (d.enc (n d)).pos, vel := min (max (d.enc (n d)).vel (-8388608)) 8388607, up := true, stop := decide (d.r (F.EN_STAT_STOP (n d)) ≠ 0), busy := ringBusy d, rhl := decide (e d % 100 = 0) && !ringBusy d && !d.sr.busyBack }
   (∀ (c : Cell) (r : List Cell),
     Runs .epochSend (fun d => due d ∧ d.sr.held = c :: r)
       (fun d => { d with sr := { d.sr with sentEpoch := some (epoch d), nextE := e d + 1, downLeft := d.sr.downLeft - 1, held := r, sentCell := some c } }) ∧
     Runs .epochSend (fun d => due d ∧ d.sr.held = [] ∧ d.sr.taints = c :: r)
       (fun d => { d with sr := { d.sr with sentEpoch := some (epoch d), nextE := e d + 1, downLeft := d.sr.downLeft - 1, taints := r, sentCell := some c } })) ∧
   Runs .epochSend (fun d => due d ∧ d.sr.held = [] ∧ d.sr.taints = [] ∧ d.sr.ctrl = [] ∧ d.sr.lines = [])
     (fun d => { d with sr := { d.sr with sentEpoch := some (epoch d), nextE := e d + 1, downLeft := d.sr.downLeft - 1, sentCell := none } }) ∧
   (∀ (c : Cell) (r : List Cell) (u : Tunnel),
     Does .epochSend (fun d => due d ∧ d.sr.held = [] ∧ d.sr.taints = [] ∧ d.sr.ctrl = [] ∧ d.sr.lines = c :: r ∧ (∀ x ∈ r, x.typ ≠ 10) ∧ d.st.tun = some u ∧ u.stop = none)
       (fun d t => t.sr.sentCell = some c ∧ t.sr.lines = r ∧ t.sr.sentEpoch = some (epoch d) ∧ t.st.tun = some { u with stop := some (d.ns + 100000000) } ∧
         t.regs = d.regs ∧ only d t)) ∧
   Runs .epochSend (fun d => (d.r F.SR_CTL_EN = 0 ∧ d.sr.step = .none) ∨ (d.r F.SR_STAT_MASTER = 0 ∧ d.sr.downLeft = 0) ∨ (live d ∧ e d < d.sr.nextE)) (fun d => d) ∧
   Does .epochSend (fun d => d.r F.SR_CTL_EN = 0 ∧ d.r F.SR_STAT_MASTER ≠ 0 ∧ d.sr.step = .discovery ∧ d.sr.stepEnd < d.ns)
     (fun d t => state t = 0 ∧ t.r F.SR_STAT_MASTER = 0 ∧ t.sr.answer = some 86 ∧ t.sr.step = .none ∧ only d t)) ∧
  (∀ (a : Nat) (x : Epoch) (frac : Fin 16) (bytes : Bytes),
    let body : List Nat := (0xE0 + 8 * bit x.busy + 4 * bit x.rhl + 2 * bit x.up + bit x.stop) ::
      (leBytes 5 x.e ++ leBytes 6 x.pos ++ leBytes 3 (x.vel % 16777216).toNat)
    let whole : Prop := x.e < 2 ^ 40 ∧ x.pos < 2 ^ 48 ∧ -8388608 ≤ x.vel ∧ x.vel ≤ 8388607
    let off (d : Dev) : Int := (d.r F.SR_DLY_D : Int) - (16 * sd d.tlt (1000 * x.e % 2 ^ 48) + frac.val)
    let taken (d t : Dev) : Prop := t.sr.last = x ∧ t.sr.sentEpoch = some { x with busy := x.busy || ringBusy d } ∧ t.r F.SR_OFS_E = (off d % 65536).toNat ∧ t.mem = d.mem ∧ t.sw = d.sw ∧ t.en = d.en
    let untied (d : Dev) : Prop := state d = 1 ∨ ∀ w, d.sr.watchdog = some w → (d.ns + d.ck.phase) / 4 < (w + d.ck.phase) / 4
    let hears (d : Dev) : Prop := member a d ∧ calm d ∧ whole ∧ Bytes.nats bytes = body ++ [crc8 body] ∧ -32768 ≤ off d ∧ off d ≤ 32767
    let good (d : Dev) : Prop := hears d ∧ untied d ∧ x.rhl = false ∧ (d.sr.last.up = true → x.up = true)
    let slewed (d t : Dev) : Prop := t.tlt = (if 8 ≤ off d then d.tlt + 1 else if off d ≤ -8 then d.tlt + (2 ^ 48 - 1) else d.tlt) % 2 ^ 48
    Does (.epochReceive bytes frac 0 false) (fun d => good d ∧ state d = 2 ∧ d.sr.haveD = false)
      (fun d t => taken d t ∧ t.sr.watchdog = watch d ∧ state t = 2 ∧ SameRegs [F.SR_OFS_E] d t ∧ t = { d with regs := t.regs, sr := t.sr }) ∧
    Does (.epochReceive bytes frac 0 false) (fun d => hears d ∧ (∃ w, d.sr.watchdog = some w ∧ (w + d.ck.phase) / 4 = (d.ns + d.ck.phase) / 4) ∧ x.rhl = false ∧ x.up = true ∧ state d = 2 ∧ d.sr.haveD = false)
      (fun d t => taken d t ∧ t.sr.watchdog = watch d ∧ t.r F.SR_STAT_COIN = 1 ∧ bitAt (t.r F.SYS_COIN_TAG) Tag.sr = true ∧
        SameRegs [F.SR_OFS_E, F.SR_STAT_COIN, F.SYS_COIN_TAG] d t) ∧
    Does (.epochReceive bytes frac 0 false) (fun d => hears d ∧ (∃ w, d.sr.watchdog = some w ∧ past d w) ∧ x.rhl = false ∧ x.up = true ∧ state d = 2 ∧ d.sr.haveD = false ∧
        d.r F.SR_CTL_AUTOJ = 0)
      (fun d t => taken d t ∧ t.sr.watchdog = watch d ∧ state t = 3 ∧ t.r F.SR_EV_BREAK = 1 ∧ t.r F.SR_STAT_COIN = d.r F.SR_STAT_COIN) ∧
    Does (.epochReceive bytes frac 0 false) (fun d => good d ∧ state d = 1 ∧ x.up = true ∧ d.sr.haveD = true ∧ d.sr.loaded = false)
      (fun d t => taken d t ∧ t.sr.loaded = true ∧ t.sr.small = 0 ∧ state t = 1 ∧ t.tlt = (((d.tlt : Int) + (off d + 8) / 16) % 2 ^ 48).toNat ∧
        t.bd.wNow = t.tlt / 100000 ∧ t.bd.ledger = d.bd.ledger) ∧
    (let slews (d : Dev) : Prop := good d ∧ d.sr.haveD = true ∧ d.sr.loaded = true ∧ d.tlt < 2 ^ 48
     Does (.epochReceive bytes frac 0 false) (fun d => slews d ∧ state d = 2 ∧ d.r F.SR_STAT_ALIGNED ≠ 0 ∧ (off d).natAbs ≤ 128)
       (fun d t => taken d t ∧ slewed d t ∧ state t = 2 ∧ t.sr.small = (if (off d).natAbs < 16 then d.sr.small + 1 else 0) ∧ t.sr.large = 0 ∧
         SameRegs [F.SR_OFS_E] d t) ∧
     Does (.epochReceive bytes frac 0 false) (fun d => slews d ∧ state d = 1 ∧ d.r F.SR_STAT_ALIGNED = 0 ∧ (off d).natAbs < 16 ∧ 7 ≤ d.sr.small)
       (fun d t => taken d t ∧ slewed d t ∧ state t = 2 ∧ t.r F.SR_STAT_ALIGNED = 1 ∧ t.r F.SR_EV_UP = 1 ∧ t.sr.ctrl = d.sr.ctrl ++ [⟨a, 5, 0, 0⟩]) ∧
     Does (.epochReceive bytes frac 0 false) (fun d => slews d ∧ state d = 2 ∧ d.r F.SR_STAT_ALIGNED ≠ 0 ∧ 128 < (off d).natAbs ∧ 3 ≤ d.sr.large ∧ d.r F.SR_CTL_AUTOJ = 0)
       (fun d t => slewed d t ∧ state t = 3 ∧ t.r F.SR_STAT_ALIGNED = 0 ∧ t.r F.SR_EV_BREAK = 1 ∧ t.sr.loaded = false ∧ t.sr.watchdog = none ∧ t.mem = d.mem)) ∧
    Does (.epochReceive bytes frac 0 false) (fun d => hears d ∧ state d = 2 ∧ d.sr.last.up = true ∧ x.up = false)
      (fun d t => state t = 0 ∧ t.r F.SR_STAT_ADDRV = 0 ∧ t.r F.SR_STAT_ADDR = 0 ∧ t.r F.SR_STAT_ALIGNED = 0 ∧ t.r F.SR_EV_DOWN = 1 ∧ t.sr.watchdog = none ∧ t.sr.ctrl = [] ∧ t.sr.join = false ∧ t.sr.haveD = false ∧
        t.tlt = d.tlt ∧ t.mem = d.mem) ∧
    Does (.epochReceive bytes frac 0 false) (fun d => hears d ∧ untied d ∧ x.up = true ∧ x.rhl = true ∧ state d = 5 ∧ d.sr.join = true ∧ d.sr.ctrl = [] ∧
        d.r F.SR_STAT_ALIGNED ≠ 0 ∧ d.sr.haveD = false)
      (fun d t => state t = 2 ∧ t.sr.join = false ∧ t.sr.ctrl = [⟨a, 5, 0, 0⟩] ∧ t.r F.SR_EV_UP = 1 ∧ t.tlt = d.tlt ∧ t.mem = d.mem) ∧
    (∀ (m : List Nat) (c : Nat), c ≠ crc8 m → m.length = 15 →
      Runs (.epochReceive bytes frac 0 false) (fun d => live d ∧ Bytes.nats bytes = m ++ [c]) (fun d => d)) ∧
    (∀ k : Nat, k ≠ 0 → Does (.epochReceive bytes frac k false) (fun d => live d ∧ bytes.length = 16 ∧ calm d)
      (fun d t => t.r F.SR_CNT_CERR = min (d.r F.SR_CNT_CERR + k) (2 ^ F.SR_CNT_CERR.width - 1) ∧ t.sr = d.sr ∧ t.tlt = d.tlt ∧ SameRegs [F.SR_CNT_CERR] d t ∧ t.mem = d.mem)) ∧
    (∀ (k : Nat) (empty : Bool), Runs (.epochReceive bytes frac k empty) (fun d => bytes.length = 16 ∧ (d.r F.SR_CTL_EN = 0 ∨ d.ck.ladder = .nap)) (fun d => d))) ∧
  (∀ a w : Nat,
    let ends (d : Dev) : Prop := d.sr.watchdog = some w ∧ past d w
    Does .epochWatchdogExpiry (fun d => member a d ∧ calm d ∧ ends d ∧ state d = 2) (fun d t => state t = 3 ∧ t.r F.SR_EV_BREAK = 1 ∧ t.sr.watchdog = none ∧
      t.r F.SR_STAT_ADDR = a ∧ t.sr.shownVel = 0 ∧ (d.st.tun = none → t.st = d.st) ∧ only d t) ∧
    (∀ u : Tunnel, Does .epochWatchdogExpiry (fun d => member a d ∧ calm d ∧ ends d ∧ state d = 2 ∧ d.st.tun = some u ∧ u.stop = none)
      (fun d t => state t = 3 ∧ t.st.tun = some { u with stop := some (d.ns + 100000000) } ∧ t.sr.lines = d.sr.lines.filter (fun c => decide (c.typ ≠ 10)))) ∧
    Does .epochWatchdogExpiry (fun d => master d ∧ ends d ∧ state d = 2) (fun d t => state t = 3 ∧ t.r F.SR_MEM_MEM = 0 ∧ t.r F.SR_EV_BREAK = 1 ∧ only d t) ∧
    Runs .epochWatchdogExpiry (fun d => d.sr.watchdog = none ∨ (d.sr.watchdog = some w ∧ (¬ past d w ∨ state d = 1 ∨ d.ck.ladder = .nap)) ∨ (member a d ∧ state d = 4)) (fun d => d)) ∧
  (∀ (a : Nat) (src : BitVec 4) (arg : Byte) (data : Word) (link : Nat),
    let outside (d : Dev) : Prop := live d ∧ d.r F.SR_STAT_MASTER = 0
    let heldBy (typ argv datav : Nat) (d t : Dev) : Prop := t.sr.held = d.sr.held ++ [⟨src.toNat, typ, argv, datav⟩]
    Does (.cellDisc src arg) (fun d => outside d ∧ (state d = 0 ∨ state d = 1) ∧ arg.toNat < 16) (fun d t => state t = 1 ∧ t.r F.SR_STAT_ADDRV = 1 ∧
      t.r F.SR_STAT_ADDR = arg.toNat ∧ t.sr.sentCell = some ⟨src.toNat, 1, arg.toNat + 1, 0⟩ ∧ t.r F.SR_STAT_ALIGNED = 0 ∧ t.sr.ctrl = [] ∧ t.sr.haveD = false ∧ t.sr.join = false ∧
      t.r F.SR_EV_MASTER = d.r F.SR_EV_MASTER ∧ t.q1 = d.q1 ∧ only d t) ∧
    Does (.cellDisc src arg) (fun d => outside d ∧ state d = 3 ∧ arg.toNat < 16) (fun d t => state t = 1 ∧ t.r F.SR_STAT_ADDR = arg.toNat ∧ t.r F.SR_EV_MASTER = 1 ∧ only d t) ∧
    Runs (.cellDisc src 16) (fun d => outside d ∧ (state d = 0 ∨ state d = 1)) (fun d => { d with sr := { d.sr with sentCell := some ⟨src.toNat, 1, 144, 0⟩ } }) ∧
    Runs (.cellDisc src arg) (fun d => outside d ∧ state d = 2) (passes ⟨src.toNat, 1, arg.toNat, 0⟩) ∧
    Does (.cellDisc 0 arg) (fun d => master d ∧ d.sr.step = .discovery ∧ arg.toNat < 128) (fun d t => t.sr.members = arg.toNat - 1 ∧ t.sr.full = false ∧
      t.sr.step = .measure ∧ t.sr.linkNow = 0 ∧ t.sr.stepEnd = d.ns + 4000 ∧ t.sr.ctrl = d.sr.ctrl ++ [⟨0, 2, 0, 0⟩] ∧ t.regs = d.regs ∧ only d t) ∧
    Does (.cellMeas src arg link) (fun d => member arg.toNat d) (fun d t => t.r F.SR_LINK_LINK = link % 65536 ∧ t.sr.ctrl = d.sr.ctrl ++ [⟨arg.toNat, 3, 0, link % 65536⟩] ∧
      t.sr.sentCell = (passes ⟨src.toNat, 2, arg.toNat, 0⟩ d).sr.sentCell ∧
      SameRegs [F.SR_LINK_LINK] d t ∧ only d t) ∧
    Does (.cellMeas 0 0 link) (fun d => master d ∧ d.sr.step = .measure ∧ d.sr.linkNow = 0 ∧ 0 < d.sr.members) (fun d t => t.r F.SR_LINK_LINK = link % 65536 ∧
      t.sr.linksD = d.sr.linksD ++ [link % 65536] ∧ t.sr.linkNow = 1 ∧ t.sr.ctrl = d.sr.ctrl ++ [⟨0, 2, 1, 0⟩]) ∧
    (let measures (d : Dev) : Prop := master d ∧ d.sr.step = .measure ∧ src.toNat = d.sr.linkNow ∧ src ≠ 0
     Does (.cellMres src data) (fun d => measures d ∧ d.sr.linkNow < d.sr.members) (fun d t => t.sr.linksD = d.sr.linksD ++ [data.toNat] ∧ t.sr.linkNow = src.toNat + 1 ∧
       t.sr.step = .measure ∧ t.sr.stepEnd = d.ns + 4000 ∧ t.sr.ctrl = d.sr.ctrl ++ [⟨0, 2, src.toNat + 1, 0⟩] ∧ heldBy 3 0 data.toNat d t ∧ t.regs = d.regs ∧ only d t) ∧
     Does (.cellMres src data) (fun d => measures d ∧ d.sr.linkNow = d.sr.members ∧ d.sr.full = false) (fun d t => t.sr.linksD = d.sr.linksD ++ [data.toNat] ∧
       t.sr.step = .loop ∧ t.sr.stepEnd = d.ns + 2000 ∧ t.sr.ctrl = d.sr.ctrl ∧ t.regs = d.regs ∧ only d t)) ∧
    Runs (.cellMres src data) outside (passes ⟨src.toNat, 3, 0, data.toNat⟩) ∧
    Does (.cellDly src arg data) (fun d => member arg.toNat d) (fun d t => t.r F.SR_DLY_D = data.toNat % 65536 ∧ t.sr.haveD = true ∧ t.sr.loaded = false ∧ t.sr.small = 0 ∧
      t.sr.sentCell = (passes ⟨src.toNat, 4, arg.toNat, data.toNat⟩ d).sr.sentCell ∧
      SameRegs [F.SR_DLY_D] d t ∧ only d t) ∧
    Runs (.cellDly src arg data) (fun d => member a d ∧ a ≠ arg.toNat) (passes ⟨src.toNat, 4, arg.toNat, data.toNat⟩) ∧
    (let fromMember (d : Dev) : Prop := master d ∧ src ≠ 0
     Does (.cellAligned src) (fun d => fromMember d ∧ d.sr.step = .none) (fun d t => bitAt (t.r F.SR_MEM_MEM) (src.toNat - 1) = true ∧ t.r F.SR_EV_JOIN = 1 ∧
       src.toNat ∉ t.sr.joins ∧ heldBy 5 0 0 d t ∧ only d t) ∧
     Does (.cellAligned src) (fun d => fromMember d ∧ d.sr.step = .align ∧ d.sr.full = false ∧ ∀ i, 1 ≤ i → i ≤ d.sr.members → i = src.toNat ∨ i ∈ d.sr.aligned) (fun d t =>
       state t = 2 ∧ t.sr.step = .none ∧ t.sr.answer = some 0 ∧ t.r F.SR_EV_UP = 1 ∧ t.sr.watchdog = watch d ∧ bitAt (t.r F.SR_MEM_MEM) (src.toNat - 1) = true ∧ only d t) ∧
     Does (.cellJoin src) (fun d => fromMember d ∧ src.toNat ∉ d.sr.joins) (fun d t => t.sr.joins = d.sr.joins ++ [src.toNat] ∧ heldBy 6 0 0 d t ∧ t.regs = d.regs ∧ only d t) ∧
     Does (.cellLeave src) fromMember (fun d t => bitAt (t.r F.SR_MEM_MEM) (src.toNat - 1) = false ∧ t.r F.SR_EV_LEAVE = 1 ∧ heldBy 7 0 0 d t ∧ only d t)) ∧
    Runs (.cellAligned src) outside (passes ⟨src.toNat, 5, 0, 0⟩) ∧ Runs (.cellJoin src) outside (passes ⟨src.toNat, 6, 0, 0⟩) ∧
    Runs (.cellLeave src) outside (passes ⟨src.toNat, 7, 0, 0⟩) ∧
    (let joins (st : Nat) (d t : Dev) : Prop := state t = st ∧ t.sr.join = true ∧ t.sr.admitted = false ∧ t.sr.ctrl = d.sr.ctrl ++ [⟨a, 6, 0, 0⟩] ∧ only d t
     Does .cellRoll (fun d => member a d ∧ state d = 2) (joins 2) ∧ Does .cellRoll (fun d => member a d ∧ (state d = 3 ∨ state d = 4)) (joins 5) ∧
     Does .cellRoll (fun d => member a d ∧ a ≠ 0 ∧ state d = 2) (fun _ t => t.sr.sentCell = some ⟨0, 8, 0, 0⟩) ∧
     Runs .cellRoll master (fun d => d) ∧ Runs .cellRoll (fun d => outside d ∧ (d.r F.SR_STAT_ADDRV = 0 ∨ state d = 1)) (passes ⟨0, 8, 0, 0⟩) ∧
     Does .srCtlJoin (fun d => member a d ∧ (state d = 3 ∨ state d = 4)) (joins 5) ∧
     Runs .srCtlJoin (fun d => d.r F.SR_STAT_MASTER ≠ 0 ∨ d.r F.SR_STAT_ADDRV = 0 ∨ state d = 2) (fun d => d)) ∧
    (∀ (k : Nat) (s : Slot),
      Does (.cellTaint src arg data) (fun d => member a d ∧ a ≠ src.toNat ∧ d.r F.BD_CTL_RFOLLOW ≠ 0 ∧ d.sw.slots = [(k, s)] ∧ s.st ≠ .free ∧ d.r (F.SWF_CFG_SRC s.f) = 2 ∧
          s.tfire / 1000 % 2 ^ 32 = data.toNat ∧ s.verdict = none ∧ d.r (F.SWF_CFG_HEADEN s.f) = 0 ∧ ∀ n, n < 8 → peTicked d n = none)
        (fun d t => t.sl k = { s with ring := true, followed := true, verdict := some 0 } ∧ t.r F.BD_EV_RING = 1 ∧ t.r F.BD_EV_TAINT = 1 ∧ t.sr = (passes ⟨src.toNat, 9, arg.toNat, data.toNat⟩ d).sr ∧
          (∀ n, n < 8 → (t.eng n).taint = true) ∧ t.mem = d.mem)) ∧
    Runs (.cellTaint src arg data) (fun d => member a d ∧ (a = src.toNat ∨ d.r F.BD_CTL_RFOLLOW = 0)) (passes ⟨src.toNat, 9, arg.toNat, data.toNat⟩) ∧
    (∀ (reply : Bool) (old : List Nat) (sq : Nat),
      let tun : Instr := if reply = true then .cellTunr src arg data else .cellTun src arg data
      let chars : List Nat := (leBytes 4 data.toNat).filter (· ≠ 0)
      let mine (d : Dev) : Prop := member a d ∧ a ≠ src.toNat ∧ arg.toNat % 16 = a
      let alone (d : Dev) : Prop := mine d ∧ (reply = true → d.st.tun = none)
      let first : Prop := arg.getLsbD 4 = true
      let isLast : Prop := arg.getLsbD 5 = true
      let opened (d : Dev) : Prop := d.sr.gather = [⟨src.toNat, reply, sq, old⟩]
      let queued (l : List Nat) (d t : Dev) : Prop := t.q0 = { d.q0 with staged := d.q0.staged ++ [(3, (0x60 + 16 * bit reply + src.toNat) :: l ++ [13])] } ∧
        t.sr.gather = [] ∧ t.regs = d.regs ∧ t = { d with q0 := t.q0, sr := t.sr }
      Does tun (fun d => alone d ∧ d.sr.gather = [] ∧ first ∧ isLast) (queued chars) ∧
      Does tun (fun d => mine d ∧ d.sr.gather = [] ∧ first ∧ ¬isLast)
        (fun d t => t.sr.gather = [⟨src.toNat, reply, (arg.toNat / 64 + 1) % 4, chars⟩] ∧ t = { d with sr := t.sr }) ∧
      Does tun (fun d => alone d ∧ opened d ∧ ¬first ∧ sq = arg.toNat / 64 ∧ isLast ∧ (old ++ chars).length ≤ 256) (queued (old ++ chars)) ∧
      (∀ (u : Tunnel) (x : Nat), Does tun
        (fun d => mine d ∧ reply = true ∧ opened d ∧ ¬first ∧ sq = arg.toNat / 64 ∧ isLast ∧ (old ++ chars).length ≤ 256 ∧ d.st.tun = some u ∧ u.dead = false ∧
          u.came = false ∧ finalPacket u ((0x70 + src.toNat) :: (old ++ chars) ++ [13]) = true ∧ u.stop = some x ∧
          (d.ns + d.ck.aphase) / 1000 < (x + d.ck.aphase) / 1000)
        (fun d t => t.st.tun = some { u with came := true } ∧ t.q0.staged = d.q0.staged ++ [(3, (0x70 + src.toNat) :: (old ++ chars) ++ [13])] ∧ t.regs = d.regs)) ∧
      Does tun (fun d => mine d ∧ opened d ∧ ¬first ∧ sq ≠ arg.toNat / 64) (fun d t => t.sr.gather = [] ∧ t.r F.SR_EV_TSEQ = 1 ∧
        t.r F.SR_CNT_TSEQ = min (d.r F.SR_CNT_TSEQ + 1) (2 ^ F.SR_CNT_TSEQ.width - 1) ∧ t.q0 = d.q0 ∧ SameRegs [F.SR_EV_TSEQ, F.SR_CNT_TSEQ] d t ∧ only d t) ∧
      Runs tun (fun d => member a d ∧ (a = src.toNat ∨ arg.toNat % 16 ≠ a)) (passes ⟨src.toNat, if reply = true then 11 else 10, arg.toNat, data.toNat⟩)) ∧
    Does .srCtlLeave (fun d => member a d ∧ state d = 2 ∧ calm d ∧ d.sr.ctrl = []) (fun d t => state t = 4 ∧ t.sr.ctrl = [⟨a, 7, 0, 0⟩] ∧ t.sr.join = false ∧
      t.r F.SR_STAT_ADDR = a ∧ SameRegs [F.SR_STAT_STATE] d t ∧ only d t) ∧
    Runs .srCtlLeave (fun d => d.r F.SR_STAT_MASTER ≠ 0 ∨ d.r F.SR_STAT_ADDRV = 0 ∨ state d = 4 ∨ state d = 0) (fun d => d)) ∧
  Does .alignmentTimeout (fun d => d.sr.step = .align ∧ d.sr.stepEnd ≤ d.ns) (fun d t => state t = 2 ∧ t.sr.step = .none ∧ t.r F.SR_EV_UP = 1 ∧
    t.sr.answer = some (if d.sr.full = true then 87 else 0) ∧ ((∃ k, 1 ≤ k ∧ k ≤ d.sr.members ∧ k ∉ d.sr.aligned) → t.r F.SR_EV_REFUSED = 1) ∧ t.sr.watchdog = watch d ∧ only d t) ∧
  Runs .alignmentTimeout (fun d => d.sr.step ≠ .align ∨ d.ns < d.sr.stepEnd) (fun d => d) ∧
  Does .srCtlUp (fun d => state d = 0 ∧ d.r F.SR_STAT_MASTER = 0) (fun d t => state t = 1 ∧ t.r F.SR_STAT_MASTER = 1 ∧ t.r F.SR_STAT_ADDRV = 1 ∧ t.r F.SR_STAT_ADDR = 0 ∧
    t.r F.SR_MEM_MEM = 0 ∧ t.sr.step = .discovery ∧ t.sr.stepEnd = d.ns + 4000 ∧ t.sr.ctrl = [⟨0, 1, 1, 0⟩] ∧ t.sr.nextE = d.tlt / 1000 ∧ t.sr.answer = none ∧
    SameRegs [F.SR_STAT_STATE, F.SR_STAT_MASTER, F.SR_STAT_ADDRV, F.SR_STAT_ADDR, F.SR_MEM_MEM] d t ∧ only d t) ∧
  Runs .srCtlUp (fun d => state d ≠ 0 ∨ d.r F.SR_STAT_MASTER ≠ 0) (fun d => d) ∧
  Does .srCtlDown (fun d => d.r F.SR_STAT_MASTER ≠ 0) (fun d t => state t = 0 ∧ t.r F.SR_STAT_MASTER = 0 ∧ t.r F.SR_STAT_ADDRV = 0 ∧ t.r F.SR_MEM_MEM = 0 ∧ t.sr.downLeft = 8 ∧
    t.r F.SR_EV_DOWN = 1 ∧ t.sr.watchdog = none ∧ only d t) ∧
  Runs .srCtlDown (fun d => d.r F.SR_STAT_MASTER = 0) (fun d => d) ∧
  Runs .srCntClear (fun _ => True) (fun d => ((d.w F.SR_CNT_CERR 0).w F.SR_CNT_TSEQ 0).w F.SR_CNT_TLOST 0)
end

