-- ==== Sys2Proof/Laws/State.lean ====
section
/-! SUPPORT. What each update of the device leaves alone: one lemma per field, and the field it changes. -/

namespace Sys2Proof.Laws

open Sys2Proof.Machine

variable (d : Dev)

/-! ### `w` -/

@[simp] theorem w_ns (f : Fld) (v : Nat) : (d.w f v).ns = d.ns := rfl
@[simp] theorem w_tlt (f : Fld) (v : Nat) : (d.w f v).tlt = d.tlt := rfl
@[simp] theorem w_draws (f : Fld) (v : Nat) : (d.w f v).draws = d.draws := rfl
@[simp] theorem w_rd (f : Fld) (v : Nat) : (d.w f v).rd = d.rd := rfl
@[simp] theorem w_q0 (f : Fld) (v : Nat) : (d.w f v).q0 = d.q0 := rfl
@[simp] theorem w_q1 (f : Fld) (v : Nat) : (d.w f v).q1 = d.q1 := rfl
@[simp] theorem w_ua (f : Fld) (v : Nat) : (d.w f v).ua = d.ua := rfl
@[simp] theorem w_co (f : Fld) (v : Nat) : (d.w f v).co = d.co := rfl
@[simp] theorem w_ck (f : Fld) (v : Nat) : (d.w f v).ck = d.ck := rfl
@[simp] theorem w_sw (f : Fld) (v : Nat) : (d.w f v).sw = d.sw := rfl
@[simp] theorem w_gr (f : Fld) (v : Nat) : (d.w f v).gr = d.gr := rfl
@[simp] theorem w_ld (f : Fld) (v : Nat) : (d.w f v).ld = d.ld := rfl
@[simp] theorem w_bd (f : Fld) (v : Nat) : (d.w f v).bd = d.bd := rfl
@[simp] theorem w_hp (f : Fld) (v : Nat) : (d.w f v).hp = d.hp := rfl
@[simp] theorem w_en (f : Fld) (v : Nat) : (d.w f v).en = d.en := rfl
@[simp] theorem w_pe (f : Fld) (v : Nat) : (d.w f v).pe = d.pe := rfl
@[simp] theorem w_sr (f : Fld) (v : Nat) : (d.w f v).sr = d.sr := rfl
@[simp] theorem w_com (f : Fld) (v : Nat) : (d.w f v).com = d.com := rfl
@[simp] theorem w_sp (f : Fld) (v : Nat) : (d.w f v).sp = d.sp := rfl
@[simp] theorem w_ot (f : Fld) (v : Nat) : (d.w f v).ot = d.ot := rfl
@[simp] theorem w_ky (f : Fld) (v : Nat) : (d.w f v).ky = d.ky := rfl
@[simp] theorem w_st (f : Fld) (v : Nat) : (d.w f v).st = d.st := rfl
@[simp] theorem w_bt (f : Fld) (v : Nat) : (d.w f v).bt = d.bt := rfl
@[simp] theorem w_lg (f : Fld) (v : Nat) : (d.w f v).lg = d.lg := rfl
@[simp] theorem w_qp (f : Fld) (v : Nat) : (d.w f v).qp = d.qp := rfl
@[simp] theorem w_qm (f : Fld) (v : Nat) : (d.w f v).qm = d.qm := rfl
@[simp] theorem w_seen (f : Fld) (v : Nat) : (d.w f v).seen = d.seen := rfl
@[simp] theorem w_gpWas (f : Fld) (v : Nat) : (d.w f v).gpWas = d.gpWas := rfl
@[simp] theorem w_mem (f : Fld) (v : Nat) : (d.w f v).mem = d.mem := rfl

/-! ### `set` -/

@[simp] theorem set_ns (f : Fld) : (d.set f).ns = d.ns := rfl
@[simp] theorem set_tlt (f : Fld) : (d.set f).tlt = d.tlt := rfl
@[simp] theorem set_draws (f : Fld) : (d.set f).draws = d.draws := rfl
@[simp] theorem set_rd (f : Fld) : (d.set f).rd = d.rd := rfl
@[simp] theorem set_q0 (f : Fld) : (d.set f).q0 = d.q0 := rfl
@[simp] theorem set_q1 (f : Fld) : (d.set f).q1 = d.q1 := rfl
@[simp] theorem set_ua (f : Fld) : (d.set f).ua = d.ua := rfl
@[simp] theorem set_co (f : Fld) : (d.set f).co = d.co := rfl
@[simp] theorem set_ck (f : Fld) : (d.set f).ck = d.ck := rfl
@[simp] theorem set_sw (f : Fld) : (d.set f).sw = d.sw := rfl
@[simp] theorem set_gr (f : Fld) : (d.set f).gr = d.gr := rfl
@[simp] theorem set_ld (f : Fld) : (d.set f).ld = d.ld := rfl
@[simp] theorem set_bd (f : Fld) : (d.set f).bd = d.bd := rfl
@[simp] theorem set_hp (f : Fld) : (d.set f).hp = d.hp := rfl
@[simp] theorem set_en (f : Fld) : (d.set f).en = d.en := rfl
@[simp] theorem set_pe (f : Fld) : (d.set f).pe = d.pe := rfl
@[simp] theorem set_sr (f : Fld) : (d.set f).sr = d.sr := rfl
@[simp] theorem set_com (f : Fld) : (d.set f).com = d.com := rfl
@[simp] theorem set_sp (f : Fld) : (d.set f).sp = d.sp := rfl
@[simp] theorem set_ot (f : Fld) : (d.set f).ot = d.ot := rfl
@[simp] theorem set_ky (f : Fld) : (d.set f).ky = d.ky := rfl
@[simp] theorem set_st (f : Fld) : (d.set f).st = d.st := rfl
@[simp] theorem set_bt (f : Fld) : (d.set f).bt = d.bt := rfl
@[simp] theorem set_lg (f : Fld) : (d.set f).lg = d.lg := rfl
@[simp] theorem set_qp (f : Fld) : (d.set f).qp = d.qp := rfl
@[simp] theorem set_qm (f : Fld) : (d.set f).qm = d.qm := rfl
@[simp] theorem set_seen (f : Fld) : (d.set f).seen = d.seen := rfl
@[simp] theorem set_gpWas (f : Fld) : (d.set f).gpWas = d.gpWas := rfl
@[simp] theorem set_mem (f : Fld) : (d.set f).mem = d.mem := rfl

/-! ### `clr` -/

@[simp] theorem clr_ns (f : Fld) : (d.clr f).ns = d.ns := rfl
@[simp] theorem clr_tlt (f : Fld) : (d.clr f).tlt = d.tlt := rfl
@[simp] theorem clr_draws (f : Fld) : (d.clr f).draws = d.draws := rfl
@[simp] theorem clr_rd (f : Fld) : (d.clr f).rd = d.rd := rfl
@[simp] theorem clr_q0 (f : Fld) : (d.clr f).q0 = d.q0 := rfl
@[simp] theorem clr_q1 (f : Fld) : (d.clr f).q1 = d.q1 := rfl
@[simp] theorem clr_ua (f : Fld) : (d.clr f).ua = d.ua := rfl
@[simp] theorem clr_co (f : Fld) : (d.clr f).co = d.co := rfl
@[simp] theorem clr_ck (f : Fld) : (d.clr f).ck = d.ck := rfl
@[simp] theorem clr_sw (f : Fld) : (d.clr f).sw = d.sw := rfl
@[simp] theorem clr_gr (f : Fld) : (d.clr f).gr = d.gr := rfl
@[simp] theorem clr_ld (f : Fld) : (d.clr f).ld = d.ld := rfl
@[simp] theorem clr_bd (f : Fld) : (d.clr f).bd = d.bd := rfl
@[simp] theorem clr_hp (f : Fld) : (d.clr f).hp = d.hp := rfl
@[simp] theorem clr_en (f : Fld) : (d.clr f).en = d.en := rfl
@[simp] theorem clr_pe (f : Fld) : (d.clr f).pe = d.pe := rfl
@[simp] theorem clr_sr (f : Fld) : (d.clr f).sr = d.sr := rfl
@[simp] theorem clr_com (f : Fld) : (d.clr f).com = d.com := rfl
@[simp] theorem clr_sp (f : Fld) : (d.clr f).sp = d.sp := rfl
@[simp] theorem clr_ot (f : Fld) : (d.clr f).ot = d.ot := rfl
@[simp] theorem clr_ky (f : Fld) : (d.clr f).ky = d.ky := rfl
@[simp] theorem clr_st (f : Fld) : (d.clr f).st = d.st := rfl
@[simp] theorem clr_bt (f : Fld) : (d.clr f).bt = d.bt := rfl
@[simp] theorem clr_lg (f : Fld) : (d.clr f).lg = d.lg := rfl
@[simp] theorem clr_qp (f : Fld) : (d.clr f).qp = d.qp := rfl
@[simp] theorem clr_qm (f : Fld) : (d.clr f).qm = d.qm := rfl
@[simp] theorem clr_seen (f : Fld) : (d.clr f).seen = d.seen := rfl
@[simp] theorem clr_gpWas (f : Fld) : (d.clr f).gpWas = d.gpWas := rfl
@[simp] theorem clr_mem (f : Fld) : (d.clr f).mem = d.mem := rfl

/-! ### `inc` -/

@[simp] theorem inc_ns (f : Fld) : (d.inc f).ns = d.ns := rfl
@[simp] theorem inc_tlt (f : Fld) : (d.inc f).tlt = d.tlt := rfl
@[simp] theorem inc_draws (f : Fld) : (d.inc f).draws = d.draws := rfl
@[simp] theorem inc_rd (f : Fld) : (d.inc f).rd = d.rd := rfl
@[simp] theorem inc_q0 (f : Fld) : (d.inc f).q0 = d.q0 := rfl
@[simp] theorem inc_q1 (f : Fld) : (d.inc f).q1 = d.q1 := rfl
@[simp] theorem inc_ua (f : Fld) : (d.inc f).ua = d.ua := rfl
@[simp] theorem inc_co (f : Fld) : (d.inc f).co = d.co := rfl
@[simp] theorem inc_ck (f : Fld) : (d.inc f).ck = d.ck := rfl
@[simp] theorem inc_sw (f : Fld) : (d.inc f).sw = d.sw := rfl
@[simp] theorem inc_gr (f : Fld) : (d.inc f).gr = d.gr := rfl
@[simp] theorem inc_ld (f : Fld) : (d.inc f).ld = d.ld := rfl
@[simp] theorem inc_bd (f : Fld) : (d.inc f).bd = d.bd := rfl
@[simp] theorem inc_hp (f : Fld) : (d.inc f).hp = d.hp := rfl
@[simp] theorem inc_en (f : Fld) : (d.inc f).en = d.en := rfl
@[simp] theorem inc_pe (f : Fld) : (d.inc f).pe = d.pe := rfl
@[simp] theorem inc_sr (f : Fld) : (d.inc f).sr = d.sr := rfl
@[simp] theorem inc_com (f : Fld) : (d.inc f).com = d.com := rfl
@[simp] theorem inc_sp (f : Fld) : (d.inc f).sp = d.sp := rfl
@[simp] theorem inc_ot (f : Fld) : (d.inc f).ot = d.ot := rfl
@[simp] theorem inc_ky (f : Fld) : (d.inc f).ky = d.ky := rfl
@[simp] theorem inc_st (f : Fld) : (d.inc f).st = d.st := rfl
@[simp] theorem inc_bt (f : Fld) : (d.inc f).bt = d.bt := rfl
@[simp] theorem inc_lg (f : Fld) : (d.inc f).lg = d.lg := rfl
@[simp] theorem inc_qp (f : Fld) : (d.inc f).qp = d.qp := rfl
@[simp] theorem inc_qm (f : Fld) : (d.inc f).qm = d.qm := rfl
@[simp] theorem inc_seen (f : Fld) : (d.inc f).seen = d.seen := rfl
@[simp] theorem inc_gpWas (f : Fld) : (d.inc f).gpWas = d.gpWas := rfl
@[simp] theorem inc_mem (f : Fld) : (d.inc f).mem = d.mem := rfl

/-! ### `orBit` -/

@[simp] theorem orBit_ns (f : Fld) (i : Nat) : (d.orBit f i).ns = d.ns := rfl
@[simp] theorem orBit_tlt (f : Fld) (i : Nat) : (d.orBit f i).tlt = d.tlt := rfl
@[simp] theorem orBit_draws (f : Fld) (i : Nat) : (d.orBit f i).draws = d.draws := rfl
@[simp] theorem orBit_rd (f : Fld) (i : Nat) : (d.orBit f i).rd = d.rd := rfl
@[simp] theorem orBit_q0 (f : Fld) (i : Nat) : (d.orBit f i).q0 = d.q0 := rfl
@[simp] theorem orBit_q1 (f : Fld) (i : Nat) : (d.orBit f i).q1 = d.q1 := rfl
@[simp] theorem orBit_ua (f : Fld) (i : Nat) : (d.orBit f i).ua = d.ua := rfl
@[simp] theorem orBit_co (f : Fld) (i : Nat) : (d.orBit f i).co = d.co := rfl
@[simp] theorem orBit_ck (f : Fld) (i : Nat) : (d.orBit f i).ck = d.ck := rfl
@[simp] theorem orBit_sw (f : Fld) (i : Nat) : (d.orBit f i).sw = d.sw := rfl
@[simp] theorem orBit_gr (f : Fld) (i : Nat) : (d.orBit f i).gr = d.gr := rfl
@[simp] theorem orBit_ld (f : Fld) (i : Nat) : (d.orBit f i).ld = d.ld := rfl
@[simp] theorem orBit_bd (f : Fld) (i : Nat) : (d.orBit f i).bd = d.bd := rfl
@[simp] theorem orBit_hp (f : Fld) (i : Nat) : (d.orBit f i).hp = d.hp := rfl
@[simp] theorem orBit_en (f : Fld) (i : Nat) : (d.orBit f i).en = d.en := rfl
@[simp] theorem orBit_pe (f : Fld) (i : Nat) : (d.orBit f i).pe = d.pe := rfl
@[simp] theorem orBit_sr (f : Fld) (i : Nat) : (d.orBit f i).sr = d.sr := rfl
@[simp] theorem orBit_com (f : Fld) (i : Nat) : (d.orBit f i).com = d.com := rfl
@[simp] theorem orBit_sp (f : Fld) (i : Nat) : (d.orBit f i).sp = d.sp := rfl
@[simp] theorem orBit_ot (f : Fld) (i : Nat) : (d.orBit f i).ot = d.ot := rfl
@[simp] theorem orBit_ky (f : Fld) (i : Nat) : (d.orBit f i).ky = d.ky := rfl
@[simp] theorem orBit_st (f : Fld) (i : Nat) : (d.orBit f i).st = d.st := rfl
@[simp] theorem orBit_bt (f : Fld) (i : Nat) : (d.orBit f i).bt = d.bt := rfl
@[simp] theorem orBit_lg (f : Fld) (i : Nat) : (d.orBit f i).lg = d.lg := rfl
@[simp] theorem orBit_qp (f : Fld) (i : Nat) : (d.orBit f i).qp = d.qp := rfl
@[simp] theorem orBit_qm (f : Fld) (i : Nat) : (d.orBit f i).qm = d.qm := rfl
@[simp] theorem orBit_seen (f : Fld) (i : Nat) : (d.orBit f i).seen = d.seen := rfl
@[simp] theorem orBit_gpWas (f : Fld) (i : Nat) : (d.orBit f i).gpWas = d.gpWas := rfl
@[simp] theorem orBit_mem (f : Fld) (i : Nat) : (d.orBit f i).mem = d.mem := rfl

/-! ### `setByte` -/

@[simp] theorem setByte_ns (a : Nat) (v : Byte) : (d.setByte a v).ns = d.ns := rfl
@[simp] theorem setByte_tlt (a : Nat) (v : Byte) : (d.setByte a v).tlt = d.tlt := rfl
@[simp] theorem setByte_draws (a : Nat) (v : Byte) : (d.setByte a v).draws = d.draws := rfl
@[simp] theorem setByte_rd (a : Nat) (v : Byte) : (d.setByte a v).rd = d.rd := rfl
@[simp] theorem setByte_regs (a : Nat) (v : Byte) : (d.setByte a v).regs = d.regs := rfl
@[simp] theorem setByte_q0 (a : Nat) (v : Byte) : (d.setByte a v).q0 = d.q0 := rfl
@[simp] theorem setByte_q1 (a : Nat) (v : Byte) : (d.setByte a v).q1 = d.q1 := rfl
@[simp] theorem setByte_ua (a : Nat) (v : Byte) : (d.setByte a v).ua = d.ua := rfl
@[simp] theorem setByte_co (a : Nat) (v : Byte) : (d.setByte a v).co = d.co := rfl
@[simp] theorem setByte_ck (a : Nat) (v : Byte) : (d.setByte a v).ck = d.ck := rfl
@[simp] theorem setByte_sw (a : Nat) (v : Byte) : (d.setByte a v).sw = d.sw := rfl
@[simp] theorem setByte_gr (a : Nat) (v : Byte) : (d.setByte a v).gr = d.gr := rfl
@[simp] theorem setByte_ld (a : Nat) (v : Byte) : (d.setByte a v).ld = d.ld := rfl
@[simp] theorem setByte_bd (a : Nat) (v : Byte) : (d.setByte a v).bd = d.bd := rfl
@[simp] theorem setByte_hp (a : Nat) (v : Byte) : (d.setByte a v).hp = d.hp := rfl
@[simp] theorem setByte_en (a : Nat) (v : Byte) : (d.setByte a v).en = d.en := rfl
@[simp] theorem setByte_pe (a : Nat) (v : Byte) : (d.setByte a v).pe = d.pe := rfl
@[simp] theorem setByte_sr (a : Nat) (v : Byte) : (d.setByte a v).sr = d.sr := rfl
@[simp] theorem setByte_com (a : Nat) (v : Byte) : (d.setByte a v).com = d.com := rfl
@[simp] theorem setByte_sp (a : Nat) (v : Byte) : (d.setByte a v).sp = d.sp := rfl
@[simp] theorem setByte_ot (a : Nat) (v : Byte) : (d.setByte a v).ot = d.ot := rfl
@[simp] theorem setByte_ky (a : Nat) (v : Byte) : (d.setByte a v).ky = d.ky := rfl
@[simp] theorem setByte_st (a : Nat) (v : Byte) : (d.setByte a v).st = d.st := rfl
@[simp] theorem setByte_bt (a : Nat) (v : Byte) : (d.setByte a v).bt = d.bt := rfl
@[simp] theorem setByte_lg (a : Nat) (v : Byte) : (d.setByte a v).lg = d.lg := rfl
@[simp] theorem setByte_qp (a : Nat) (v : Byte) : (d.setByte a v).qp = d.qp := rfl
@[simp] theorem setByte_qm (a : Nat) (v : Byte) : (d.setByte a v).qm = d.qm := rfl
@[simp] theorem setByte_seen (a : Nat) (v : Byte) : (d.setByte a v).seen = d.seen := rfl
@[simp] theorem setByte_gpWas (a : Nat) (v : Byte) : (d.setByte a v).gpWas = d.gpWas := rfl

/-! ### `onCo` -/

@[simp] theorem onCo_co (g : Cpu → Cpu) : (d.onCo g).co = g d.co := rfl
@[simp] theorem onCo_ns (g : Cpu → Cpu) : (d.onCo g).ns = d.ns := rfl
@[simp] theorem onCo_tlt (g : Cpu → Cpu) : (d.onCo g).tlt = d.tlt := rfl
@[simp] theorem onCo_draws (g : Cpu → Cpu) : (d.onCo g).draws = d.draws := rfl
@[simp] theorem onCo_rd (g : Cpu → Cpu) : (d.onCo g).rd = d.rd := rfl
@[simp] theorem onCo_regs (g : Cpu → Cpu) : (d.onCo g).regs = d.regs := rfl
@[simp] theorem onCo_q0 (g : Cpu → Cpu) : (d.onCo g).q0 = d.q0 := rfl
@[simp] theorem onCo_q1 (g : Cpu → Cpu) : (d.onCo g).q1 = d.q1 := rfl
@[simp] theorem onCo_ua (g : Cpu → Cpu) : (d.onCo g).ua = d.ua := rfl
@[simp] theorem onCo_ck (g : Cpu → Cpu) : (d.onCo g).ck = d.ck := rfl
@[simp] theorem onCo_sw (g : Cpu → Cpu) : (d.onCo g).sw = d.sw := rfl
@[simp] theorem onCo_gr (g : Cpu → Cpu) : (d.onCo g).gr = d.gr := rfl
@[simp] theorem onCo_ld (g : Cpu → Cpu) : (d.onCo g).ld = d.ld := rfl
@[simp] theorem onCo_bd (g : Cpu → Cpu) : (d.onCo g).bd = d.bd := rfl
@[simp] theorem onCo_hp (g : Cpu → Cpu) : (d.onCo g).hp = d.hp := rfl
@[simp] theorem onCo_en (g : Cpu → Cpu) : (d.onCo g).en = d.en := rfl
@[simp] theorem onCo_pe (g : Cpu → Cpu) : (d.onCo g).pe = d.pe := rfl
@[simp] theorem onCo_sr (g : Cpu → Cpu) : (d.onCo g).sr = d.sr := rfl
@[simp] theorem onCo_com (g : Cpu → Cpu) : (d.onCo g).com = d.com := rfl
@[simp] theorem onCo_sp (g : Cpu → Cpu) : (d.onCo g).sp = d.sp := rfl
@[simp] theorem onCo_ot (g : Cpu → Cpu) : (d.onCo g).ot = d.ot := rfl
@[simp] theorem onCo_ky (g : Cpu → Cpu) : (d.onCo g).ky = d.ky := rfl
@[simp] theorem onCo_st (g : Cpu → Cpu) : (d.onCo g).st = d.st := rfl
@[simp] theorem onCo_bt (g : Cpu → Cpu) : (d.onCo g).bt = d.bt := rfl
@[simp] theorem onCo_lg (g : Cpu → Cpu) : (d.onCo g).lg = d.lg := rfl
@[simp] theorem onCo_qp (g : Cpu → Cpu) : (d.onCo g).qp = d.qp := rfl
@[simp] theorem onCo_qm (g : Cpu → Cpu) : (d.onCo g).qm = d.qm := rfl
@[simp] theorem onCo_seen (g : Cpu → Cpu) : (d.onCo g).seen = d.seen := rfl
@[simp] theorem onCo_gpWas (g : Cpu → Cpu) : (d.onCo g).gpWas = d.gpWas := rfl
@[simp] theorem onCo_mem (g : Cpu → Cpu) : (d.onCo g).mem = d.mem := rfl

/-! ### `onCk` -/

@[simp] theorem onCk_ck (g : Ck → Ck) : (d.onCk g).ck = g d.ck := rfl
@[simp] theorem onCk_ns (g : Ck → Ck) : (d.onCk g).ns = d.ns := rfl
@[simp] theorem onCk_tlt (g : Ck → Ck) : (d.onCk g).tlt = d.tlt := rfl
@[simp] theorem onCk_draws (g : Ck → Ck) : (d.onCk g).draws = d.draws := rfl
@[simp] theorem onCk_rd (g : Ck → Ck) : (d.onCk g).rd = d.rd := rfl
@[simp] theorem onCk_regs (g : Ck → Ck) : (d.onCk g).regs = d.regs := rfl
@[simp] theorem onCk_q0 (g : Ck → Ck) : (d.onCk g).q0 = d.q0 := rfl
@[simp] theorem onCk_q1 (g : Ck → Ck) : (d.onCk g).q1 = d.q1 := rfl
@[simp] theorem onCk_ua (g : Ck → Ck) : (d.onCk g).ua = d.ua := rfl
@[simp] theorem onCk_co (g : Ck → Ck) : (d.onCk g).co = d.co := rfl
@[simp] theorem onCk_sw (g : Ck → Ck) : (d.onCk g).sw = d.sw := rfl
@[simp] theorem onCk_gr (g : Ck → Ck) : (d.onCk g).gr = d.gr := rfl
@[simp] theorem onCk_ld (g : Ck → Ck) : (d.onCk g).ld = d.ld := rfl
@[simp] theorem onCk_bd (g : Ck → Ck) : (d.onCk g).bd = d.bd := rfl
@[simp] theorem onCk_hp (g : Ck → Ck) : (d.onCk g).hp = d.hp := rfl
@[simp] theorem onCk_en (g : Ck → Ck) : (d.onCk g).en = d.en := rfl
@[simp] theorem onCk_pe (g : Ck → Ck) : (d.onCk g).pe = d.pe := rfl
@[simp] theorem onCk_sr (g : Ck → Ck) : (d.onCk g).sr = d.sr := rfl
@[simp] theorem onCk_com (g : Ck → Ck) : (d.onCk g).com = d.com := rfl
@[simp] theorem onCk_sp (g : Ck → Ck) : (d.onCk g).sp = d.sp := rfl
@[simp] theorem onCk_ot (g : Ck → Ck) : (d.onCk g).ot = d.ot := rfl
@[simp] theorem onCk_ky (g : Ck → Ck) : (d.onCk g).ky = d.ky := rfl
@[simp] theorem onCk_st (g : Ck → Ck) : (d.onCk g).st = d.st := rfl
@[simp] theorem onCk_bt (g : Ck → Ck) : (d.onCk g).bt = d.bt := rfl
@[simp] theorem onCk_lg (g : Ck → Ck) : (d.onCk g).lg = d.lg := rfl
@[simp] theorem onCk_qp (g : Ck → Ck) : (d.onCk g).qp = d.qp := rfl
@[simp] theorem onCk_qm (g : Ck → Ck) : (d.onCk g).qm = d.qm := rfl
@[simp] theorem onCk_seen (g : Ck → Ck) : (d.onCk g).seen = d.seen := rfl
@[simp] theorem onCk_gpWas (g : Ck → Ck) : (d.onCk g).gpWas = d.gpWas := rfl
@[simp] theorem onCk_mem (g : Ck → Ck) : (d.onCk g).mem = d.mem := rfl

/-! ### `onSt` -/

@[simp] theorem onSt_st (g : Interp → Interp) : (d.onSt g).st = g d.st := rfl
@[simp] theorem onSt_ns (g : Interp → Interp) : (d.onSt g).ns = d.ns := rfl
@[simp] theorem onSt_tlt (g : Interp → Interp) : (d.onSt g).tlt = d.tlt := rfl
@[simp] theorem onSt_draws (g : Interp → Interp) : (d.onSt g).draws = d.draws := rfl
@[simp] theorem onSt_rd (g : Interp → Interp) : (d.onSt g).rd = d.rd := rfl
@[simp] theorem onSt_regs (g : Interp → Interp) : (d.onSt g).regs = d.regs := rfl
@[simp] theorem onSt_q0 (g : Interp → Interp) : (d.onSt g).q0 = d.q0 := rfl
@[simp] theorem onSt_q1 (g : Interp → Interp) : (d.onSt g).q1 = d.q1 := rfl
@[simp] theorem onSt_ua (g : Interp → Interp) : (d.onSt g).ua = d.ua := rfl
@[simp] theorem onSt_co (g : Interp → Interp) : (d.onSt g).co = d.co := rfl
@[simp] theorem onSt_ck (g : Interp → Interp) : (d.onSt g).ck = d.ck := rfl
@[simp] theorem onSt_sw (g : Interp → Interp) : (d.onSt g).sw = d.sw := rfl
@[simp] theorem onSt_gr (g : Interp → Interp) : (d.onSt g).gr = d.gr := rfl
@[simp] theorem onSt_ld (g : Interp → Interp) : (d.onSt g).ld = d.ld := rfl
@[simp] theorem onSt_bd (g : Interp → Interp) : (d.onSt g).bd = d.bd := rfl
@[simp] theorem onSt_hp (g : Interp → Interp) : (d.onSt g).hp = d.hp := rfl
@[simp] theorem onSt_en (g : Interp → Interp) : (d.onSt g).en = d.en := rfl
@[simp] theorem onSt_pe (g : Interp → Interp) : (d.onSt g).pe = d.pe := rfl
@[simp] theorem onSt_sr (g : Interp → Interp) : (d.onSt g).sr = d.sr := rfl
@[simp] theorem onSt_com (g : Interp → Interp) : (d.onSt g).com = d.com := rfl
@[simp] theorem onSt_sp (g : Interp → Interp) : (d.onSt g).sp = d.sp := rfl
@[simp] theorem onSt_ot (g : Interp → Interp) : (d.onSt g).ot = d.ot := rfl
@[simp] theorem onSt_ky (g : Interp → Interp) : (d.onSt g).ky = d.ky := rfl
@[simp] theorem onSt_bt (g : Interp → Interp) : (d.onSt g).bt = d.bt := rfl
@[simp] theorem onSt_lg (g : Interp → Interp) : (d.onSt g).lg = d.lg := rfl
@[simp] theorem onSt_qp (g : Interp → Interp) : (d.onSt g).qp = d.qp := rfl
@[simp] theorem onSt_qm (g : Interp → Interp) : (d.onSt g).qm = d.qm := rfl
@[simp] theorem onSt_seen (g : Interp → Interp) : (d.onSt g).seen = d.seen := rfl
@[simp] theorem onSt_gpWas (g : Interp → Interp) : (d.onSt g).gpWas = d.gpWas := rfl
@[simp] theorem onSt_mem (g : Interp → Interp) : (d.onSt g).mem = d.mem := rfl

/-! ### `onSp` -/

@[simp] theorem onSp_sp (g : Serial → Serial) : (d.onSp g).sp = g d.sp := rfl
@[simp] theorem onSp_ns (g : Serial → Serial) : (d.onSp g).ns = d.ns := rfl
@[simp] theorem onSp_tlt (g : Serial → Serial) : (d.onSp g).tlt = d.tlt := rfl
@[simp] theorem onSp_draws (g : Serial → Serial) : (d.onSp g).draws = d.draws := rfl
@[simp] theorem onSp_rd (g : Serial → Serial) : (d.onSp g).rd = d.rd := rfl
@[simp] theorem onSp_regs (g : Serial → Serial) : (d.onSp g).regs = d.regs := rfl
@[simp] theorem onSp_q0 (g : Serial → Serial) : (d.onSp g).q0 = d.q0 := rfl
@[simp] theorem onSp_q1 (g : Serial → Serial) : (d.onSp g).q1 = d.q1 := rfl
@[simp] theorem onSp_ua (g : Serial → Serial) : (d.onSp g).ua = d.ua := rfl
@[simp] theorem onSp_co (g : Serial → Serial) : (d.onSp g).co = d.co := rfl
@[simp] theorem onSp_ck (g : Serial → Serial) : (d.onSp g).ck = d.ck := rfl
@[simp] theorem onSp_sw (g : Serial → Serial) : (d.onSp g).sw = d.sw := rfl
@[simp] theorem onSp_gr (g : Serial → Serial) : (d.onSp g).gr = d.gr := rfl
@[simp] theorem onSp_ld (g : Serial → Serial) : (d.onSp g).ld = d.ld := rfl
@[simp] theorem onSp_bd (g : Serial → Serial) : (d.onSp g).bd = d.bd := rfl
@[simp] theorem onSp_hp (g : Serial → Serial) : (d.onSp g).hp = d.hp := rfl
@[simp] theorem onSp_en (g : Serial → Serial) : (d.onSp g).en = d.en := rfl
@[simp] theorem onSp_pe (g : Serial → Serial) : (d.onSp g).pe = d.pe := rfl
@[simp] theorem onSp_sr (g : Serial → Serial) : (d.onSp g).sr = d.sr := rfl
@[simp] theorem onSp_com (g : Serial → Serial) : (d.onSp g).com = d.com := rfl
@[simp] theorem onSp_ot (g : Serial → Serial) : (d.onSp g).ot = d.ot := rfl
@[simp] theorem onSp_ky (g : Serial → Serial) : (d.onSp g).ky = d.ky := rfl
@[simp] theorem onSp_st (g : Serial → Serial) : (d.onSp g).st = d.st := rfl
@[simp] theorem onSp_bt (g : Serial → Serial) : (d.onSp g).bt = d.bt := rfl
@[simp] theorem onSp_lg (g : Serial → Serial) : (d.onSp g).lg = d.lg := rfl
@[simp] theorem onSp_qp (g : Serial → Serial) : (d.onSp g).qp = d.qp := rfl
@[simp] theorem onSp_qm (g : Serial → Serial) : (d.onSp g).qm = d.qm := rfl
@[simp] theorem onSp_seen (g : Serial → Serial) : (d.onSp g).seen = d.seen := rfl
@[simp] theorem onSp_gpWas (g : Serial → Serial) : (d.onSp g).gpWas = d.gpWas := rfl
@[simp] theorem onSp_mem (g : Serial → Serial) : (d.onSp g).mem = d.mem := rfl

/-! ### `onOt` -/

@[simp] theorem onOt_ot (g : Otp → Otp) : (d.onOt g).ot = g d.ot := rfl
@[simp] theorem onOt_ns (g : Otp → Otp) : (d.onOt g).ns = d.ns := rfl
@[simp] theorem onOt_tlt (g : Otp → Otp) : (d.onOt g).tlt = d.tlt := rfl
@[simp] theorem onOt_draws (g : Otp → Otp) : (d.onOt g).draws = d.draws := rfl
@[simp] theorem onOt_rd (g : Otp → Otp) : (d.onOt g).rd = d.rd := rfl
@[simp] theorem onOt_regs (g : Otp → Otp) : (d.onOt g).regs = d.regs := rfl
@[simp] theorem onOt_q0 (g : Otp → Otp) : (d.onOt g).q0 = d.q0 := rfl
@[simp] theorem onOt_q1 (g : Otp → Otp) : (d.onOt g).q1 = d.q1 := rfl
@[simp] theorem onOt_ua (g : Otp → Otp) : (d.onOt g).ua = d.ua := rfl
@[simp] theorem onOt_co (g : Otp → Otp) : (d.onOt g).co = d.co := rfl
@[simp] theorem onOt_ck (g : Otp → Otp) : (d.onOt g).ck = d.ck := rfl
@[simp] theorem onOt_sw (g : Otp → Otp) : (d.onOt g).sw = d.sw := rfl
@[simp] theorem onOt_gr (g : Otp → Otp) : (d.onOt g).gr = d.gr := rfl
@[simp] theorem onOt_ld (g : Otp → Otp) : (d.onOt g).ld = d.ld := rfl
@[simp] theorem onOt_bd (g : Otp → Otp) : (d.onOt g).bd = d.bd := rfl
@[simp] theorem onOt_hp (g : Otp → Otp) : (d.onOt g).hp = d.hp := rfl
@[simp] theorem onOt_en (g : Otp → Otp) : (d.onOt g).en = d.en := rfl
@[simp] theorem onOt_pe (g : Otp → Otp) : (d.onOt g).pe = d.pe := rfl
@[simp] theorem onOt_sr (g : Otp → Otp) : (d.onOt g).sr = d.sr := rfl
@[simp] theorem onOt_com (g : Otp → Otp) : (d.onOt g).com = d.com := rfl
@[simp] theorem onOt_sp (g : Otp → Otp) : (d.onOt g).sp = d.sp := rfl
@[simp] theorem onOt_ky (g : Otp → Otp) : (d.onOt g).ky = d.ky := rfl
@[simp] theorem onOt_st (g : Otp → Otp) : (d.onOt g).st = d.st := rfl
@[simp] theorem onOt_bt (g : Otp → Otp) : (d.onOt g).bt = d.bt := rfl
@[simp] theorem onOt_lg (g : Otp → Otp) : (d.onOt g).lg = d.lg := rfl
@[simp] theorem onOt_qp (g : Otp → Otp) : (d.onOt g).qp = d.qp := rfl
@[simp] theorem onOt_qm (g : Otp → Otp) : (d.onOt g).qm = d.qm := rfl
@[simp] theorem onOt_seen (g : Otp → Otp) : (d.onOt g).seen = d.seen := rfl
@[simp] theorem onOt_gpWas (g : Otp → Otp) : (d.onOt g).gpWas = d.gpWas := rfl
@[simp] theorem onOt_mem (g : Otp → Otp) : (d.onOt g).mem = d.mem := rfl

/-! ### `onKy` -/

@[simp] theorem onKy_ky (g : Keys → Keys) : (d.onKy g).ky = g d.ky := rfl
@[simp] theorem onKy_ns (g : Keys → Keys) : (d.onKy g).ns = d.ns := rfl
@[simp] theorem onKy_tlt (g : Keys → Keys) : (d.onKy g).tlt = d.tlt := rfl
@[simp] theorem onKy_draws (g : Keys → Keys) : (d.onKy g).draws = d.draws := rfl
@[simp] theorem onKy_rd (g : Keys → Keys) : (d.onKy g).rd = d.rd := rfl
@[simp] theorem onKy_regs (g : Keys → Keys) : (d.onKy g).regs = d.regs := rfl
@[simp] theorem onKy_q0 (g : Keys → Keys) : (d.onKy g).q0 = d.q0 := rfl
@[simp] theorem onKy_q1 (g : Keys → Keys) : (d.onKy g).q1 = d.q1 := rfl
@[simp] theorem onKy_ua (g : Keys → Keys) : (d.onKy g).ua = d.ua := rfl
@[simp] theorem onKy_co (g : Keys → Keys) : (d.onKy g).co = d.co := rfl
@[simp] theorem onKy_ck (g : Keys → Keys) : (d.onKy g).ck = d.ck := rfl
@[simp] theorem onKy_sw (g : Keys → Keys) : (d.onKy g).sw = d.sw := rfl
@[simp] theorem onKy_gr (g : Keys → Keys) : (d.onKy g).gr = d.gr := rfl
@[simp] theorem onKy_ld (g : Keys → Keys) : (d.onKy g).ld = d.ld := rfl
@[simp] theorem onKy_bd (g : Keys → Keys) : (d.onKy g).bd = d.bd := rfl
@[simp] theorem onKy_hp (g : Keys → Keys) : (d.onKy g).hp = d.hp := rfl
@[simp] theorem onKy_en (g : Keys → Keys) : (d.onKy g).en = d.en := rfl
@[simp] theorem onKy_pe (g : Keys → Keys) : (d.onKy g).pe = d.pe := rfl
@[simp] theorem onKy_sr (g : Keys → Keys) : (d.onKy g).sr = d.sr := rfl
@[simp] theorem onKy_com (g : Keys → Keys) : (d.onKy g).com = d.com := rfl
@[simp] theorem onKy_sp (g : Keys → Keys) : (d.onKy g).sp = d.sp := rfl
@[simp] theorem onKy_ot (g : Keys → Keys) : (d.onKy g).ot = d.ot := rfl
@[simp] theorem onKy_st (g : Keys → Keys) : (d.onKy g).st = d.st := rfl
@[simp] theorem onKy_bt (g : Keys → Keys) : (d.onKy g).bt = d.bt := rfl
@[simp] theorem onKy_lg (g : Keys → Keys) : (d.onKy g).lg = d.lg := rfl
@[simp] theorem onKy_qp (g : Keys → Keys) : (d.onKy g).qp = d.qp := rfl
@[simp] theorem onKy_qm (g : Keys → Keys) : (d.onKy g).qm = d.qm := rfl
@[simp] theorem onKy_seen (g : Keys → Keys) : (d.onKy g).seen = d.seen := rfl
@[simp] theorem onKy_gpWas (g : Keys → Keys) : (d.onKy g).gpWas = d.gpWas := rfl
@[simp] theorem onKy_mem (g : Keys → Keys) : (d.onKy g).mem = d.mem := rfl

/-! ### `onR` -/

@[simp] theorem onR_sr (g : Ring → Ring) : (d.onR g).sr = g d.sr := rfl
@[simp] theorem onR_ns (g : Ring → Ring) : (d.onR g).ns = d.ns := rfl
@[simp] theorem onR_tlt (g : Ring → Ring) : (d.onR g).tlt = d.tlt := rfl
@[simp] theorem onR_draws (g : Ring → Ring) : (d.onR g).draws = d.draws := rfl
@[simp] theorem onR_rd (g : Ring → Ring) : (d.onR g).rd = d.rd := rfl
@[simp] theorem onR_regs (g : Ring → Ring) : (d.onR g).regs = d.regs := rfl
@[simp] theorem onR_q0 (g : Ring → Ring) : (d.onR g).q0 = d.q0 := rfl
@[simp] theorem onR_q1 (g : Ring → Ring) : (d.onR g).q1 = d.q1 := rfl
@[simp] theorem onR_ua (g : Ring → Ring) : (d.onR g).ua = d.ua := rfl
@[simp] theorem onR_co (g : Ring → Ring) : (d.onR g).co = d.co := rfl
@[simp] theorem onR_ck (g : Ring → Ring) : (d.onR g).ck = d.ck := rfl
@[simp] theorem onR_sw (g : Ring → Ring) : (d.onR g).sw = d.sw := rfl
@[simp] theorem onR_gr (g : Ring → Ring) : (d.onR g).gr = d.gr := rfl
@[simp] theorem onR_ld (g : Ring → Ring) : (d.onR g).ld = d.ld := rfl
@[simp] theorem onR_bd (g : Ring → Ring) : (d.onR g).bd = d.bd := rfl
@[simp] theorem onR_hp (g : Ring → Ring) : (d.onR g).hp = d.hp := rfl
@[simp] theorem onR_en (g : Ring → Ring) : (d.onR g).en = d.en := rfl
@[simp] theorem onR_pe (g : Ring → Ring) : (d.onR g).pe = d.pe := rfl
@[simp] theorem onR_com (g : Ring → Ring) : (d.onR g).com = d.com := rfl
@[simp] theorem onR_sp (g : Ring → Ring) : (d.onR g).sp = d.sp := rfl
@[simp] theorem onR_ot (g : Ring → Ring) : (d.onR g).ot = d.ot := rfl
@[simp] theorem onR_ky (g : Ring → Ring) : (d.onR g).ky = d.ky := rfl
@[simp] theorem onR_st (g : Ring → Ring) : (d.onR g).st = d.st := rfl
@[simp] theorem onR_bt (g : Ring → Ring) : (d.onR g).bt = d.bt := rfl
@[simp] theorem onR_lg (g : Ring → Ring) : (d.onR g).lg = d.lg := rfl
@[simp] theorem onR_qp (g : Ring → Ring) : (d.onR g).qp = d.qp := rfl
@[simp] theorem onR_qm (g : Ring → Ring) : (d.onR g).qm = d.qm := rfl
@[simp] theorem onR_seen (g : Ring → Ring) : (d.onR g).seen = d.seen := rfl
@[simp] theorem onR_gpWas (g : Ring → Ring) : (d.onR g).gpWas = d.gpWas := rfl
@[simp] theorem onR_mem (g : Ring → Ring) : (d.onR g).mem = d.mem := rfl

/-! ### `onLg` -/

@[simp] theorem onLg_lg (g : Ledger → Ledger) : (d.onLg g).lg = g d.lg := rfl
@[simp] theorem onLg_qp (g : Ledger → Ledger) : (d.onLg g).qp = d.qp := rfl
@[simp] theorem onLg_qm (g : Ledger → Ledger) : (d.onLg g).qm = d.qm := rfl
@[simp] theorem onLg_seen (g : Ledger → Ledger) : (d.onLg g).seen = d.seen := rfl
@[simp] theorem onLg_gpWas (g : Ledger → Ledger) : (d.onLg g).gpWas = d.gpWas := rfl
@[simp] theorem onLg_ns (g : Ledger → Ledger) : (d.onLg g).ns = d.ns := rfl
@[simp] theorem onLg_tlt (g : Ledger → Ledger) : (d.onLg g).tlt = d.tlt := rfl
@[simp] theorem onLg_draws (g : Ledger → Ledger) : (d.onLg g).draws = d.draws := rfl
@[simp] theorem onLg_rd (g : Ledger → Ledger) : (d.onLg g).rd = d.rd := rfl
@[simp] theorem onLg_regs (g : Ledger → Ledger) : (d.onLg g).regs = d.regs := rfl
@[simp] theorem onLg_q0 (g : Ledger → Ledger) : (d.onLg g).q0 = d.q0 := rfl
@[simp] theorem onLg_q1 (g : Ledger → Ledger) : (d.onLg g).q1 = d.q1 := rfl
@[simp] theorem onLg_ua (g : Ledger → Ledger) : (d.onLg g).ua = d.ua := rfl
@[simp] theorem onLg_co (g : Ledger → Ledger) : (d.onLg g).co = d.co := rfl
@[simp] theorem onLg_ck (g : Ledger → Ledger) : (d.onLg g).ck = d.ck := rfl
@[simp] theorem onLg_sw (g : Ledger → Ledger) : (d.onLg g).sw = d.sw := rfl
@[simp] theorem onLg_gr (g : Ledger → Ledger) : (d.onLg g).gr = d.gr := rfl
@[simp] theorem onLg_ld (g : Ledger → Ledger) : (d.onLg g).ld = d.ld := rfl
@[simp] theorem onLg_bd (g : Ledger → Ledger) : (d.onLg g).bd = d.bd := rfl
@[simp] theorem onLg_hp (g : Ledger → Ledger) : (d.onLg g).hp = d.hp := rfl
@[simp] theorem onLg_en (g : Ledger → Ledger) : (d.onLg g).en = d.en := rfl
@[simp] theorem onLg_pe (g : Ledger → Ledger) : (d.onLg g).pe = d.pe := rfl
@[simp] theorem onLg_sr (g : Ledger → Ledger) : (d.onLg g).sr = d.sr := rfl
@[simp] theorem onLg_com (g : Ledger → Ledger) : (d.onLg g).com = d.com := rfl
@[simp] theorem onLg_sp (g : Ledger → Ledger) : (d.onLg g).sp = d.sp := rfl
@[simp] theorem onLg_ot (g : Ledger → Ledger) : (d.onLg g).ot = d.ot := rfl
@[simp] theorem onLg_ky (g : Ledger → Ledger) : (d.onLg g).ky = d.ky := rfl
@[simp] theorem onLg_st (g : Ledger → Ledger) : (d.onLg g).st = d.st := rfl
@[simp] theorem onLg_bt (g : Ledger → Ledger) : (d.onLg g).bt = d.bt := rfl
@[simp] theorem onLg_mem (g : Ledger → Ledger) : (d.onLg g).mem = d.mem := rfl

/-! ### `onF` -/

@[simp] theorem onF_ns (k : Nat) (g : Furrow → Furrow) : (d.onF k g).ns = d.ns := rfl
@[simp] theorem onF_tlt (k : Nat) (g : Furrow → Furrow) : (d.onF k g).tlt = d.tlt := rfl
@[simp] theorem onF_draws (k : Nat) (g : Furrow → Furrow) : (d.onF k g).draws = d.draws := rfl
@[simp] theorem onF_rd (k : Nat) (g : Furrow → Furrow) : (d.onF k g).rd = d.rd := rfl
@[simp] theorem onF_regs (k : Nat) (g : Furrow → Furrow) : (d.onF k g).regs = d.regs := rfl
@[simp] theorem onF_q0 (k : Nat) (g : Furrow → Furrow) : (d.onF k g).q0 = d.q0 := rfl
@[simp] theorem onF_q1 (k : Nat) (g : Furrow → Furrow) : (d.onF k g).q1 = d.q1 := rfl
@[simp] theorem onF_ua (k : Nat) (g : Furrow → Furrow) : (d.onF k g).ua = d.ua := rfl
@[simp] theorem onF_co (k : Nat) (g : Furrow → Furrow) : (d.onF k g).co = d.co := rfl
@[simp] theorem onF_ck (k : Nat) (g : Furrow → Furrow) : (d.onF k g).ck = d.ck := rfl
@[simp] theorem onF_gr (k : Nat) (g : Furrow → Furrow) : (d.onF k g).gr = d.gr := rfl
@[simp] theorem onF_ld (k : Nat) (g : Furrow → Furrow) : (d.onF k g).ld = d.ld := rfl
@[simp] theorem onF_bd (k : Nat) (g : Furrow → Furrow) : (d.onF k g).bd = d.bd := rfl
@[simp] theorem onF_hp (k : Nat) (g : Furrow → Furrow) : (d.onF k g).hp = d.hp := rfl
@[simp] theorem onF_en (k : Nat) (g : Furrow → Furrow) : (d.onF k g).en = d.en := rfl
@[simp] theorem onF_pe (k : Nat) (g : Furrow → Furrow) : (d.onF k g).pe = d.pe := rfl
@[simp] theorem onF_sr (k : Nat) (g : Furrow → Furrow) : (d.onF k g).sr = d.sr := rfl
@[simp] theorem onF_com (k : Nat) (g : Furrow → Furrow) : (d.onF k g).com = d.com := rfl
@[simp] theorem onF_sp (k : Nat) (g : Furrow → Furrow) : (d.onF k g).sp = d.sp := rfl
@[simp] theorem onF_ot (k : Nat) (g : Furrow → Furrow) : (d.onF k g).ot = d.ot := rfl
@[simp] theorem onF_ky (k : Nat) (g : Furrow → Furrow) : (d.onF k g).ky = d.ky := rfl
@[simp] theorem onF_st (k : Nat) (g : Furrow → Furrow) : (d.onF k g).st = d.st := rfl
@[simp] theorem onF_bt (k : Nat) (g : Furrow → Furrow) : (d.onF k g).bt = d.bt := rfl
@[simp] theorem onF_lg (k : Nat) (g : Furrow → Furrow) : (d.onF k g).lg = d.lg := rfl
@[simp] theorem onF_qp (k : Nat) (g : Furrow → Furrow) : (d.onF k g).qp = d.qp := rfl
@[simp] theorem onF_qm (k : Nat) (g : Furrow → Furrow) : (d.onF k g).qm = d.qm := rfl
@[simp] theorem onF_seen (k : Nat) (g : Furrow → Furrow) : (d.onF k g).seen = d.seen := rfl
@[simp] theorem onF_gpWas (k : Nat) (g : Furrow → Furrow) : (d.onF k g).gpWas = d.gpWas := rfl
@[simp] theorem onF_mem (k : Nat) (g : Furrow → Furrow) : (d.onF k g).mem = d.mem := rfl

/-! ### `onS` -/

@[simp] theorem onS_ns (k : Nat) (g : Slot → Slot) : (d.onS k g).ns = d.ns := rfl
@[simp] theorem onS_tlt (k : Nat) (g : Slot → Slot) : (d.onS k g).tlt = d.tlt := rfl
@[simp] theorem onS_draws (k : Nat) (g : Slot → Slot) : (d.onS k g).draws = d.draws := rfl
@[simp] theorem onS_rd (k : Nat) (g : Slot → Slot) : (d.onS k g).rd = d.rd := rfl
@[simp] theorem onS_regs (k : Nat) (g : Slot → Slot) : (d.onS k g).regs = d.regs := rfl
@[simp] theorem onS_q0 (k : Nat) (g : Slot → Slot) : (d.onS k g).q0 = d.q0 := rfl
@[simp] theorem onS_q1 (k : Nat) (g : Slot → Slot) : (d.onS k g).q1 = d.q1 := rfl
@[simp] theorem onS_ua (k : Nat) (g : Slot → Slot) : (d.onS k g).ua = d.ua := rfl
@[simp] theorem onS_co (k : Nat) (g : Slot → Slot) : (d.onS k g).co = d.co := rfl
@[simp] theorem onS_ck (k : Nat) (g : Slot → Slot) : (d.onS k g).ck = d.ck := rfl
@[simp] theorem onS_gr (k : Nat) (g : Slot → Slot) : (d.onS k g).gr = d.gr := rfl
@[simp] theorem onS_ld (k : Nat) (g : Slot → Slot) : (d.onS k g).ld = d.ld := rfl
@[simp] theorem onS_bd (k : Nat) (g : Slot → Slot) : (d.onS k g).bd = d.bd := rfl
@[simp] theorem onS_hp (k : Nat) (g : Slot → Slot) : (d.onS k g).hp = d.hp := rfl
@[simp] theorem onS_en (k : Nat) (g : Slot → Slot) : (d.onS k g).en = d.en := rfl
@[simp] theorem onS_pe (k : Nat) (g : Slot → Slot) : (d.onS k g).pe = d.pe := rfl
@[simp] theorem onS_sr (k : Nat) (g : Slot → Slot) : (d.onS k g).sr = d.sr := rfl
@[simp] theorem onS_com (k : Nat) (g : Slot → Slot) : (d.onS k g).com = d.com := rfl
@[simp] theorem onS_sp (k : Nat) (g : Slot → Slot) : (d.onS k g).sp = d.sp := rfl
@[simp] theorem onS_ot (k : Nat) (g : Slot → Slot) : (d.onS k g).ot = d.ot := rfl
@[simp] theorem onS_ky (k : Nat) (g : Slot → Slot) : (d.onS k g).ky = d.ky := rfl
@[simp] theorem onS_st (k : Nat) (g : Slot → Slot) : (d.onS k g).st = d.st := rfl
@[simp] theorem onS_bt (k : Nat) (g : Slot → Slot) : (d.onS k g).bt = d.bt := rfl
@[simp] theorem onS_lg (k : Nat) (g : Slot → Slot) : (d.onS k g).lg = d.lg := rfl
@[simp] theorem onS_qp (k : Nat) (g : Slot → Slot) : (d.onS k g).qp = d.qp := rfl
@[simp] theorem onS_qm (k : Nat) (g : Slot → Slot) : (d.onS k g).qm = d.qm := rfl
@[simp] theorem onS_seen (k : Nat) (g : Slot → Slot) : (d.onS k g).seen = d.seen := rfl
@[simp] theorem onS_gpWas (k : Nat) (g : Slot → Slot) : (d.onS k g).gpWas = d.gpWas := rfl
@[simp] theorem onS_mem (k : Nat) (g : Slot → Slot) : (d.onS k g).mem = d.mem := rfl

/-! ### `onP` -/

@[simp] theorem onP_ns (k : Nat) (g : Plot → Plot) : (d.onP k g).ns = d.ns := rfl
@[simp] theorem onP_tlt (k : Nat) (g : Plot → Plot) : (d.onP k g).tlt = d.tlt := rfl
@[simp] theorem onP_draws (k : Nat) (g : Plot → Plot) : (d.onP k g).draws = d.draws := rfl
@[simp] theorem onP_rd (k : Nat) (g : Plot → Plot) : (d.onP k g).rd = d.rd := rfl
@[simp] theorem onP_regs (k : Nat) (g : Plot → Plot) : (d.onP k g).regs = d.regs := rfl
@[simp] theorem onP_q0 (k : Nat) (g : Plot → Plot) : (d.onP k g).q0 = d.q0 := rfl
@[simp] theorem onP_q1 (k : Nat) (g : Plot → Plot) : (d.onP k g).q1 = d.q1 := rfl
@[simp] theorem onP_ua (k : Nat) (g : Plot → Plot) : (d.onP k g).ua = d.ua := rfl
@[simp] theorem onP_co (k : Nat) (g : Plot → Plot) : (d.onP k g).co = d.co := rfl
@[simp] theorem onP_ck (k : Nat) (g : Plot → Plot) : (d.onP k g).ck = d.ck := rfl
@[simp] theorem onP_sw (k : Nat) (g : Plot → Plot) : (d.onP k g).sw = d.sw := rfl
@[simp] theorem onP_ld (k : Nat) (g : Plot → Plot) : (d.onP k g).ld = d.ld := rfl
@[simp] theorem onP_bd (k : Nat) (g : Plot → Plot) : (d.onP k g).bd = d.bd := rfl
@[simp] theorem onP_hp (k : Nat) (g : Plot → Plot) : (d.onP k g).hp = d.hp := rfl
@[simp] theorem onP_en (k : Nat) (g : Plot → Plot) : (d.onP k g).en = d.en := rfl
@[simp] theorem onP_pe (k : Nat) (g : Plot → Plot) : (d.onP k g).pe = d.pe := rfl
@[simp] theorem onP_sr (k : Nat) (g : Plot → Plot) : (d.onP k g).sr = d.sr := rfl
@[simp] theorem onP_com (k : Nat) (g : Plot → Plot) : (d.onP k g).com = d.com := rfl
@[simp] theorem onP_sp (k : Nat) (g : Plot → Plot) : (d.onP k g).sp = d.sp := rfl
@[simp] theorem onP_ot (k : Nat) (g : Plot → Plot) : (d.onP k g).ot = d.ot := rfl
@[simp] theorem onP_ky (k : Nat) (g : Plot → Plot) : (d.onP k g).ky = d.ky := rfl
@[simp] theorem onP_st (k : Nat) (g : Plot → Plot) : (d.onP k g).st = d.st := rfl
@[simp] theorem onP_bt (k : Nat) (g : Plot → Plot) : (d.onP k g).bt = d.bt := rfl
@[simp] theorem onP_lg (k : Nat) (g : Plot → Plot) : (d.onP k g).lg = d.lg := rfl
@[simp] theorem onP_qp (k : Nat) (g : Plot → Plot) : (d.onP k g).qp = d.qp := rfl
@[simp] theorem onP_qm (k : Nat) (g : Plot → Plot) : (d.onP k g).qm = d.qm := rfl
@[simp] theorem onP_seen (k : Nat) (g : Plot → Plot) : (d.onP k g).seen = d.seen := rfl
@[simp] theorem onP_gpWas (k : Nat) (g : Plot → Plot) : (d.onP k g).gpWas = d.gpWas := rfl
@[simp] theorem onP_mem (k : Nat) (g : Plot → Plot) : (d.onP k g).mem = d.mem := rfl

/-! ### `onB` -/

@[simp] theorem onB_ns (k : Nat) (g : BankOut → BankOut) : (d.onB k g).ns = d.ns := rfl
@[simp] theorem onB_tlt (k : Nat) (g : BankOut → BankOut) : (d.onB k g).tlt = d.tlt := rfl
@[simp] theorem onB_draws (k : Nat) (g : BankOut → BankOut) : (d.onB k g).draws = d.draws := rfl
@[simp] theorem onB_rd (k : Nat) (g : BankOut → BankOut) : (d.onB k g).rd = d.rd := rfl
@[simp] theorem onB_regs (k : Nat) (g : BankOut → BankOut) : (d.onB k g).regs = d.regs := rfl
@[simp] theorem onB_q0 (k : Nat) (g : BankOut → BankOut) : (d.onB k g).q0 = d.q0 := rfl
@[simp] theorem onB_q1 (k : Nat) (g : BankOut → BankOut) : (d.onB k g).q1 = d.q1 := rfl
@[simp] theorem onB_ua (k : Nat) (g : BankOut → BankOut) : (d.onB k g).ua = d.ua := rfl
@[simp] theorem onB_co (k : Nat) (g : BankOut → BankOut) : (d.onB k g).co = d.co := rfl
@[simp] theorem onB_ck (k : Nat) (g : BankOut → BankOut) : (d.onB k g).ck = d.ck := rfl
@[simp] theorem onB_sw (k : Nat) (g : BankOut → BankOut) : (d.onB k g).sw = d.sw := rfl
@[simp] theorem onB_gr (k : Nat) (g : BankOut → BankOut) : (d.onB k g).gr = d.gr := rfl
@[simp] theorem onB_bd (k : Nat) (g : BankOut → BankOut) : (d.onB k g).bd = d.bd := rfl
@[simp] theorem onB_hp (k : Nat) (g : BankOut → BankOut) : (d.onB k g).hp = d.hp := rfl
@[simp] theorem onB_en (k : Nat) (g : BankOut → BankOut) : (d.onB k g).en = d.en := rfl
@[simp] theorem onB_pe (k : Nat) (g : BankOut → BankOut) : (d.onB k g).pe = d.pe := rfl
@[simp] theorem onB_sr (k : Nat) (g : BankOut → BankOut) : (d.onB k g).sr = d.sr := rfl
@[simp] theorem onB_com (k : Nat) (g : BankOut → BankOut) : (d.onB k g).com = d.com := rfl
@[simp] theorem onB_sp (k : Nat) (g : BankOut → BankOut) : (d.onB k g).sp = d.sp := rfl
@[simp] theorem onB_ot (k : Nat) (g : BankOut → BankOut) : (d.onB k g).ot = d.ot := rfl
@[simp] theorem onB_ky (k : Nat) (g : BankOut → BankOut) : (d.onB k g).ky = d.ky := rfl
@[simp] theorem onB_st (k : Nat) (g : BankOut → BankOut) : (d.onB k g).st = d.st := rfl
@[simp] theorem onB_bt (k : Nat) (g : BankOut → BankOut) : (d.onB k g).bt = d.bt := rfl
@[simp] theorem onB_lg (k : Nat) (g : BankOut → BankOut) : (d.onB k g).lg = d.lg := rfl
@[simp] theorem onB_qp (k : Nat) (g : BankOut → BankOut) : (d.onB k g).qp = d.qp := rfl
@[simp] theorem onB_qm (k : Nat) (g : BankOut → BankOut) : (d.onB k g).qm = d.qm := rfl
@[simp] theorem onB_seen (k : Nat) (g : BankOut → BankOut) : (d.onB k g).seen = d.seen := rfl
@[simp] theorem onB_gpWas (k : Nat) (g : BankOut → BankOut) : (d.onB k g).gpWas = d.gpWas := rfl
@[simp] theorem onB_mem (k : Nat) (g : BankOut → BankOut) : (d.onB k g).mem = d.mem := rfl

/-! ### `onK` -/

@[simp] theorem onK_ns (k : Nat) (g : Sink → Sink) : (d.onK k g).ns = d.ns := rfl
@[simp] theorem onK_tlt (k : Nat) (g : Sink → Sink) : (d.onK k g).tlt = d.tlt := rfl
@[simp] theorem onK_draws (k : Nat) (g : Sink → Sink) : (d.onK k g).draws = d.draws := rfl
@[simp] theorem onK_rd (k : Nat) (g : Sink → Sink) : (d.onK k g).rd = d.rd := rfl
@[simp] theorem onK_regs (k : Nat) (g : Sink → Sink) : (d.onK k g).regs = d.regs := rfl
@[simp] theorem onK_q0 (k : Nat) (g : Sink → Sink) : (d.onK k g).q0 = d.q0 := rfl
@[simp] theorem onK_q1 (k : Nat) (g : Sink → Sink) : (d.onK k g).q1 = d.q1 := rfl
@[simp] theorem onK_ua (k : Nat) (g : Sink → Sink) : (d.onK k g).ua = d.ua := rfl
@[simp] theorem onK_co (k : Nat) (g : Sink → Sink) : (d.onK k g).co = d.co := rfl
@[simp] theorem onK_ck (k : Nat) (g : Sink → Sink) : (d.onK k g).ck = d.ck := rfl
@[simp] theorem onK_sw (k : Nat) (g : Sink → Sink) : (d.onK k g).sw = d.sw := rfl
@[simp] theorem onK_gr (k : Nat) (g : Sink → Sink) : (d.onK k g).gr = d.gr := rfl
@[simp] theorem onK_bd (k : Nat) (g : Sink → Sink) : (d.onK k g).bd = d.bd := rfl
@[simp] theorem onK_hp (k : Nat) (g : Sink → Sink) : (d.onK k g).hp = d.hp := rfl
@[simp] theorem onK_en (k : Nat) (g : Sink → Sink) : (d.onK k g).en = d.en := rfl
@[simp] theorem onK_pe (k : Nat) (g : Sink → Sink) : (d.onK k g).pe = d.pe := rfl
@[simp] theorem onK_sr (k : Nat) (g : Sink → Sink) : (d.onK k g).sr = d.sr := rfl
@[simp] theorem onK_com (k : Nat) (g : Sink → Sink) : (d.onK k g).com = d.com := rfl
@[simp] theorem onK_sp (k : Nat) (g : Sink → Sink) : (d.onK k g).sp = d.sp := rfl
@[simp] theorem onK_ot (k : Nat) (g : Sink → Sink) : (d.onK k g).ot = d.ot := rfl
@[simp] theorem onK_ky (k : Nat) (g : Sink → Sink) : (d.onK k g).ky = d.ky := rfl
@[simp] theorem onK_st (k : Nat) (g : Sink → Sink) : (d.onK k g).st = d.st := rfl
@[simp] theorem onK_bt (k : Nat) (g : Sink → Sink) : (d.onK k g).bt = d.bt := rfl
@[simp] theorem onK_lg (k : Nat) (g : Sink → Sink) : (d.onK k g).lg = d.lg := rfl
@[simp] theorem onK_qp (k : Nat) (g : Sink → Sink) : (d.onK k g).qp = d.qp := rfl
@[simp] theorem onK_qm (k : Nat) (g : Sink → Sink) : (d.onK k g).qm = d.qm := rfl
@[simp] theorem onK_seen (k : Nat) (g : Sink → Sink) : (d.onK k g).seen = d.seen := rfl
@[simp] theorem onK_gpWas (k : Nat) (g : Sink → Sink) : (d.onK k g).gpWas = d.gpWas := rfl
@[simp] theorem onK_mem (k : Nat) (g : Sink → Sink) : (d.onK k g).mem = d.mem := rfl

/-! ### `onH` -/

@[simp] theorem onH_ns (k : Nat) (g : Head → Head) : (d.onH k g).ns = d.ns := rfl
@[simp] theorem onH_tlt (k : Nat) (g : Head → Head) : (d.onH k g).tlt = d.tlt := rfl
@[simp] theorem onH_draws (k : Nat) (g : Head → Head) : (d.onH k g).draws = d.draws := rfl
@[simp] theorem onH_rd (k : Nat) (g : Head → Head) : (d.onH k g).rd = d.rd := rfl
@[simp] theorem onH_regs (k : Nat) (g : Head → Head) : (d.onH k g).regs = d.regs := rfl
@[simp] theorem onH_q0 (k : Nat) (g : Head → Head) : (d.onH k g).q0 = d.q0 := rfl
@[simp] theorem onH_q1 (k : Nat) (g : Head → Head) : (d.onH k g).q1 = d.q1 := rfl
@[simp] theorem onH_ua (k : Nat) (g : Head → Head) : (d.onH k g).ua = d.ua := rfl
@[simp] theorem onH_co (k : Nat) (g : Head → Head) : (d.onH k g).co = d.co := rfl
@[simp] theorem onH_ck (k : Nat) (g : Head → Head) : (d.onH k g).ck = d.ck := rfl
@[simp] theorem onH_sw (k : Nat) (g : Head → Head) : (d.onH k g).sw = d.sw := rfl
@[simp] theorem onH_gr (k : Nat) (g : Head → Head) : (d.onH k g).gr = d.gr := rfl
@[simp] theorem onH_ld (k : Nat) (g : Head → Head) : (d.onH k g).ld = d.ld := rfl
@[simp] theorem onH_bd (k : Nat) (g : Head → Head) : (d.onH k g).bd = d.bd := rfl
@[simp] theorem onH_en (k : Nat) (g : Head → Head) : (d.onH k g).en = d.en := rfl
@[simp] theorem onH_pe (k : Nat) (g : Head → Head) : (d.onH k g).pe = d.pe := rfl
@[simp] theorem onH_sr (k : Nat) (g : Head → Head) : (d.onH k g).sr = d.sr := rfl
@[simp] theorem onH_com (k : Nat) (g : Head → Head) : (d.onH k g).com = d.com := rfl
@[simp] theorem onH_sp (k : Nat) (g : Head → Head) : (d.onH k g).sp = d.sp := rfl
@[simp] theorem onH_ot (k : Nat) (g : Head → Head) : (d.onH k g).ot = d.ot := rfl
@[simp] theorem onH_ky (k : Nat) (g : Head → Head) : (d.onH k g).ky = d.ky := rfl
@[simp] theorem onH_st (k : Nat) (g : Head → Head) : (d.onH k g).st = d.st := rfl
@[simp] theorem onH_bt (k : Nat) (g : Head → Head) : (d.onH k g).bt = d.bt := rfl
@[simp] theorem onH_lg (k : Nat) (g : Head → Head) : (d.onH k g).lg = d.lg := rfl
@[simp] theorem onH_qp (k : Nat) (g : Head → Head) : (d.onH k g).qp = d.qp := rfl
@[simp] theorem onH_qm (k : Nat) (g : Head → Head) : (d.onH k g).qm = d.qm := rfl
@[simp] theorem onH_seen (k : Nat) (g : Head → Head) : (d.onH k g).seen = d.seen := rfl
@[simp] theorem onH_gpWas (k : Nat) (g : Head → Head) : (d.onH k g).gpWas = d.gpWas := rfl
@[simp] theorem onH_mem (k : Nat) (g : Head → Head) : (d.onH k g).mem = d.mem := rfl

/-! ### `onE` -/

@[simp] theorem onE_ns (k : Nat) (g : Enc → Enc) : (d.onE k g).ns = d.ns := rfl
@[simp] theorem onE_tlt (k : Nat) (g : Enc → Enc) : (d.onE k g).tlt = d.tlt := rfl
@[simp] theorem onE_draws (k : Nat) (g : Enc → Enc) : (d.onE k g).draws = d.draws := rfl
@[simp] theorem onE_rd (k : Nat) (g : Enc → Enc) : (d.onE k g).rd = d.rd := rfl
@[simp] theorem onE_regs (k : Nat) (g : Enc → Enc) : (d.onE k g).regs = d.regs := rfl
@[simp] theorem onE_q0 (k : Nat) (g : Enc → Enc) : (d.onE k g).q0 = d.q0 := rfl
@[simp] theorem onE_q1 (k : Nat) (g : Enc → Enc) : (d.onE k g).q1 = d.q1 := rfl
@[simp] theorem onE_ua (k : Nat) (g : Enc → Enc) : (d.onE k g).ua = d.ua := rfl
@[simp] theorem onE_co (k : Nat) (g : Enc → Enc) : (d.onE k g).co = d.co := rfl
@[simp] theorem onE_ck (k : Nat) (g : Enc → Enc) : (d.onE k g).ck = d.ck := rfl
@[simp] theorem onE_sw (k : Nat) (g : Enc → Enc) : (d.onE k g).sw = d.sw := rfl
@[simp] theorem onE_gr (k : Nat) (g : Enc → Enc) : (d.onE k g).gr = d.gr := rfl
@[simp] theorem onE_ld (k : Nat) (g : Enc → Enc) : (d.onE k g).ld = d.ld := rfl
@[simp] theorem onE_bd (k : Nat) (g : Enc → Enc) : (d.onE k g).bd = d.bd := rfl
@[simp] theorem onE_hp (k : Nat) (g : Enc → Enc) : (d.onE k g).hp = d.hp := rfl
@[simp] theorem onE_pe (k : Nat) (g : Enc → Enc) : (d.onE k g).pe = d.pe := rfl
@[simp] theorem onE_sr (k : Nat) (g : Enc → Enc) : (d.onE k g).sr = d.sr := rfl
@[simp] theorem onE_com (k : Nat) (g : Enc → Enc) : (d.onE k g).com = d.com := rfl
@[simp] theorem onE_sp (k : Nat) (g : Enc → Enc) : (d.onE k g).sp = d.sp := rfl
@[simp] theorem onE_ot (k : Nat) (g : Enc → Enc) : (d.onE k g).ot = d.ot := rfl
@[simp] theorem onE_ky (k : Nat) (g : Enc → Enc) : (d.onE k g).ky = d.ky := rfl
@[simp] theorem onE_st (k : Nat) (g : Enc → Enc) : (d.onE k g).st = d.st := rfl
@[simp] theorem onE_bt (k : Nat) (g : Enc → Enc) : (d.onE k g).bt = d.bt := rfl
@[simp] theorem onE_lg (k : Nat) (g : Enc → Enc) : (d.onE k g).lg = d.lg := rfl
@[simp] theorem onE_qp (k : Nat) (g : Enc → Enc) : (d.onE k g).qp = d.qp := rfl
@[simp] theorem onE_qm (k : Nat) (g : Enc → Enc) : (d.onE k g).qm = d.qm := rfl
@[simp] theorem onE_seen (k : Nat) (g : Enc → Enc) : (d.onE k g).seen = d.seen := rfl
@[simp] theorem onE_gpWas (k : Nat) (g : Enc → Enc) : (d.onE k g).gpWas = d.gpWas := rfl
@[simp] theorem onE_mem (k : Nat) (g : Enc → Enc) : (d.onE k g).mem = d.mem := rfl

/-! ### `onG` -/

@[simp] theorem onG_ns (k : Nat) (g : Engine → Engine) : (d.onG k g).ns = d.ns := rfl
@[simp] theorem onG_tlt (k : Nat) (g : Engine → Engine) : (d.onG k g).tlt = d.tlt := rfl
@[simp] theorem onG_draws (k : Nat) (g : Engine → Engine) : (d.onG k g).draws = d.draws := rfl
@[simp] theorem onG_rd (k : Nat) (g : Engine → Engine) : (d.onG k g).rd = d.rd := rfl
@[simp] theorem onG_regs (k : Nat) (g : Engine → Engine) : (d.onG k g).regs = d.regs := rfl
@[simp] theorem onG_q0 (k : Nat) (g : Engine → Engine) : (d.onG k g).q0 = d.q0 := rfl
@[simp] theorem onG_q1 (k : Nat) (g : Engine → Engine) : (d.onG k g).q1 = d.q1 := rfl
@[simp] theorem onG_ua (k : Nat) (g : Engine → Engine) : (d.onG k g).ua = d.ua := rfl
@[simp] theorem onG_co (k : Nat) (g : Engine → Engine) : (d.onG k g).co = d.co := rfl
@[simp] theorem onG_ck (k : Nat) (g : Engine → Engine) : (d.onG k g).ck = d.ck := rfl
@[simp] theorem onG_sw (k : Nat) (g : Engine → Engine) : (d.onG k g).sw = d.sw := rfl
@[simp] theorem onG_gr (k : Nat) (g : Engine → Engine) : (d.onG k g).gr = d.gr := rfl
@[simp] theorem onG_ld (k : Nat) (g : Engine → Engine) : (d.onG k g).ld = d.ld := rfl
@[simp] theorem onG_bd (k : Nat) (g : Engine → Engine) : (d.onG k g).bd = d.bd := rfl
@[simp] theorem onG_hp (k : Nat) (g : Engine → Engine) : (d.onG k g).hp = d.hp := rfl
@[simp] theorem onG_en (k : Nat) (g : Engine → Engine) : (d.onG k g).en = d.en := rfl
@[simp] theorem onG_sr (k : Nat) (g : Engine → Engine) : (d.onG k g).sr = d.sr := rfl
@[simp] theorem onG_com (k : Nat) (g : Engine → Engine) : (d.onG k g).com = d.com := rfl
@[simp] theorem onG_sp (k : Nat) (g : Engine → Engine) : (d.onG k g).sp = d.sp := rfl
@[simp] theorem onG_ot (k : Nat) (g : Engine → Engine) : (d.onG k g).ot = d.ot := rfl
@[simp] theorem onG_ky (k : Nat) (g : Engine → Engine) : (d.onG k g).ky = d.ky := rfl
@[simp] theorem onG_st (k : Nat) (g : Engine → Engine) : (d.onG k g).st = d.st := rfl
@[simp] theorem onG_bt (k : Nat) (g : Engine → Engine) : (d.onG k g).bt = d.bt := rfl
@[simp] theorem onG_lg (k : Nat) (g : Engine → Engine) : (d.onG k g).lg = d.lg := rfl
@[simp] theorem onG_qp (k : Nat) (g : Engine → Engine) : (d.onG k g).qp = d.qp := rfl
@[simp] theorem onG_qm (k : Nat) (g : Engine → Engine) : (d.onG k g).qm = d.qm := rfl
@[simp] theorem onG_seen (k : Nat) (g : Engine → Engine) : (d.onG k g).seen = d.seen := rfl
@[simp] theorem onG_gpWas (k : Nat) (g : Engine → Engine) : (d.onG k g).gpWas = d.gpWas := rfl
@[simp] theorem onG_mem (k : Nat) (g : Engine → Engine) : (d.onG k g).mem = d.mem := rfl

end Sys2Proof.Laws
end

