-- ==== Sys2Proof/Laws/Tab.lean ====
section
/-! SUPPORT. Tables: what is read after a write, and that writes keep the canonical form. -/

namespace Sys2Proof.Laws

open Sys2Proof.Machine

variable {α : Type}

theorem tab_get_put_same (t : Tab α) (k : Nat) (v : α) : Tab.get? (Tab.put t k v) k = some v := by
  induction t with
  | nil => simp [Tab.put, Tab.get?]
  | cons e r ih =>
    obtain ⟨j, u⟩ := e
    unfold Tab.put
    split
    · simp [Tab.get?]
    · split
      · simp [Tab.get?]
      · rename_i h
        simp [Tab.get?, h, ih]

theorem tab_get_put_other (t : Tab α) {j k : Nat} (v : α) (h : j ≠ k) : Tab.get? (Tab.put t k v) j = Tab.get? t j := by
  have hk : ¬ k = j := fun e => h e.symm
  induction t with
  | nil => simp [Tab.put, Tab.get?, hk]
  | cons e r ih =>
    obtain ⟨i, u⟩ := e
    unfold Tab.put
    split
    · simp [Tab.get?, hk]
    · split
      · rename_i hik
        have hi : ¬ i = j := fun e => hk (hik ▸ e)
        simp [Tab.get?, hk, hi]
      · simp only [Tab.get?, ih]

theorem tab_get_erase_same (t : Tab α) (k : Nat) : Tab.get? (Tab.erase t k) k = none := by
  induction t with
  | nil => simp [Tab.erase, Tab.get?]
  | cons e r ih =>
    obtain ⟨j, u⟩ := e
    by_cases h : j = k
    · simpa [Tab.erase, h] using ih
    · have : Tab.erase ((j, u) :: r) k = (j, u) :: Tab.erase r k := by simp [Tab.erase, h]
      simp [this, Tab.get?, h, ih]

theorem tab_get_erase_other (t : Tab α) {j k : Nat} (h : j ≠ k) : Tab.get? (Tab.erase t k) j = Tab.get? t j := by
  induction t with
  | nil => simp [Tab.erase]
  | cons e r ih =>
    obtain ⟨i, u⟩ := e
    by_cases hik : i = k
    · have hij : ¬ i = j := fun e => h (e ▸ hik)
      have : Tab.erase ((i, u) :: r) k = Tab.erase r k := by simp [Tab.erase, hik]
      simp [this, Tab.get?, hij, ih]
    · have : Tab.erase ((i, u) :: r) k = (i, u) :: Tab.erase r k := by simp [Tab.erase, hik]
      simp only [this, Tab.get?, ih]

/-- A read after a write to the same key gives the value written. -/
@[simp] theorem tab_getD_setD_same [DecidableEq α] (t : Tab α) (k : Nat) (d v : α) : Tab.getD (Tab.setD t k d v) k d = v := by
  unfold Tab.setD Tab.getD
  split
  · rename_i h; simp [tab_get_erase_same, h]
  · simp [tab_get_put_same]

/-- A write leaves what every other key reads as. -/
theorem tab_getD_setD_other [DecidableEq α] (t : Tab α) {j k : Nat} (d e v : α) (h : j ≠ k) :
    Tab.getD (Tab.setD t k d v) j e = Tab.getD t j e := by
  unfold Tab.setD Tab.getD
  split
  · rw [tab_get_erase_other t h]
  · rw [tab_get_put_other t v h]

@[simp] theorem tab_getD_nil (k : Nat) (d : α) : Tab.getD ([] : Tab α) k d = d := rfl

/-- The keys of `t` rise strictly and lie above `lo`. -/
def Above (lo : Nat) (t : Tab α) : Prop := Tab.rising t = true ∧ ∀ e ∈ t, lo < e.1

theorem rising_cons {j : Nat} {u : α} {t : Tab α} : Tab.rising ((j, u) :: t) = true ↔ Above j t := by
  constructor
  · intro h
    induction t generalizing j u with
    | nil => exact ⟨rfl, by simp⟩
    | cons e r ih =>
      obtain ⟨k, v⟩ := e
      simp only [Tab.rising, Bool.and_eq_true, decide_eq_true_eq] at h
      obtain ⟨h1, h2⟩ := ih h.2
      refine ⟨h.2, fun e he => ?_⟩
      rcases List.mem_cons.mp he with rfl | he
      · exact h.1
      · exact Nat.lt_trans h.1 (h2 e he)
  · rintro ⟨h1, h2⟩
    cases t with
    | nil => rfl
    | cons e r =>
      obtain ⟨k, v⟩ := e
      simp only [Tab.rising, Bool.and_eq_true, decide_eq_true_eq]
      exact ⟨h2 (k, v) (by simp), h1⟩

theorem mem_put {t : Tab α} {k : Nat} {v : α} {e : Nat × α} (h : e ∈ Tab.put t k v) : e = (k, v) ∨ e ∈ t := by
  induction t with
  | nil => simpa [Tab.put] using h
  | cons x r ih =>
    obtain ⟨j, u⟩ := x
    unfold Tab.put at h
    split at h
    · simpa using h
    · split at h
      · rcases List.mem_cons.mp h with rfl | h
        · exact .inl rfl
        · exact .inr (by simp [h])
      · rcases List.mem_cons.mp h with rfl | h
        · exact .inr (by simp)
        · rcases ih h with rfl | h
          · exact .inl rfl
          · exact .inr (by simp [h])

theorem rising_put {t : Tab α} (k : Nat) (v : α) (h : Tab.rising t = true) : Tab.rising (Tab.put t k v) = true := by
  induction t with
  | nil => rfl
  | cons x r ih =>
    obtain ⟨j, u⟩ := x
    obtain ⟨h1, h2⟩ := rising_cons.mp h
    unfold Tab.put
    split
    · rename_i hk
      refine rising_cons.mpr ⟨h, fun e he => ?_⟩
      rcases List.mem_cons.mp he with rfl | he
      · exact hk
      · exact Nat.lt_trans hk (h2 e he)
    · split
      · rename_i hk
        exact rising_cons.mpr ⟨h1, fun e he => hk ▸ h2 e he⟩
      · refine rising_cons.mpr ⟨ih h1, fun e he => ?_⟩
        rcases mem_put he with rfl | he
        · simp only; omega
        · exact h2 e he

theorem rising_filter {t : Tab α} (p : Nat × α → Bool) (h : Tab.rising t = true) : Tab.rising (t.filter p) = true := by
  induction t with
  | nil => rfl
  | cons x r ih =>
    obtain ⟨j, u⟩ := x
    obtain ⟨h1, h2⟩ := rising_cons.mp h
    by_cases hp : p (j, u)
    · rw [List.filter_cons_of_pos hp]
      exact rising_cons.mpr ⟨ih h1, fun e he => h2 e (List.mem_of_mem_filter he)⟩
    · rw [List.filter_cons_of_neg hp]
      exact ih h1

/-- A write keeps the rising order of the keys. -/
theorem rising_setD [DecidableEq α] {t : Tab α} (k : Nat) (d v : α) (h : Tab.rising t = true) : Tab.rising (Tab.setD t k d v) = true := by
  unfold Tab.setD
  split
  · exact rising_filter _ h
  · exact rising_put k v h

/-- A write leaves no entry equal to the value that an absent key reads as. -/
theorem listed_setD [DecidableEq α] {t : Tab α} (k : Nat) (d v : α) (h : ∀ e ∈ t, e.2 ≠ d) : ∀ e ∈ Tab.setD t k d v, e.2 ≠ d := by
  intro e he
  unfold Tab.setD at he
  split at he
  · exact h e (List.mem_of_mem_filter he)
  · rename_i hv
    rcases mem_put he with rfl | he
    · exact hv
    · exact h e he

end Sys2Proof.Laws
end

