-- ==== Sys2Proof/Laws/Regs.lean ====
section
/-! SUPPORT. Register fields, general registers and memory: what is read after a write, and that writes keep the canonical form. -/

namespace Sys2Proof.Laws

open Sys2Proof.Machine

/-! ### Register fields -/

/-- A field reads what was written, in its width. -/
@[simp] theorem r_w_same (d : Dev) (f : Fld) (v : Nat) : (d.w f v).r f = v % 2 ^ f.width := by
  simp [Dev.r, Dev.w]

/-- A write leaves every field held under another number. -/
theorem r_w_other (d : Dev) {f g : Fld} (v : Nat) (h : g.key ≠ f.key) : (d.w f v).r g = d.r g :=
  tab_getD_setD_other d.regs f.rst g.rst _ h

/-- Devices that hold the same register table read the same. -/
theorem r_congr {d e : Dev} (h : d.regs = e.regs) (f : Fld) : d.r f = e.r f := by simp [Dev.r, h]

theorem b_congr {d e : Dev} (h : d.regs = e.regs) (f : Fld) : d.b f = e.b f := by simp [Dev.b, r_congr h]

/-! ### General registers [08 R161] -/

/-- w0 reads 0. -/
@[simp] theorem wr_zero (d : Dev) : d.wr 0 = 0 := rfl

/-- A register reads what was written; a result for w0 is discarded. -/
theorem wr_setW (d : Dev) (r k : Nat) (v : Word) : (d.setW r v).wr k = if k = r ∧ r ≠ 0 then v else d.wr k := by
  unfold Dev.setW Dev.wr
  by_cases hr : r = 0
  · simp [hr]
  · by_cases hk : k = 0
    · subst hk
      simp [hr, Ne.symm hr]
    · by_cases h : k = r
      · subst h
        simp [hr]
      · simp [hr, hk, h, tab_getD_setD_other d.co.w 0 0 v.toNat h]

@[simp] theorem setW_regs (d : Dev) (r : Nat) (v : Word) : (d.setW r v).regs = d.regs := by unfold Dev.setW; split <;> rfl
@[simp] theorem setW_mem (d : Dev) (r : Nat) (v : Word) : (d.setW r v).mem = d.mem := by unfold Dev.setW; split <;> rfl
@[simp] theorem setW_ck (d : Dev) (r : Nat) (v : Word) : (d.setW r v).ck = d.ck := by unfold Dev.setW; split <;> rfl
@[simp] theorem setW_sp (d : Dev) (r : Nat) (v : Word) : (d.setW r v).sp = d.sp := by unfold Dev.setW; split <;> rfl
@[simp] theorem setW_st (d : Dev) (r : Nat) (v : Word) : (d.setW r v).st = d.st := by unfold Dev.setW; split <;> rfl
@[simp] theorem setW_pc (d : Dev) (r : Nat) (v : Word) : (d.setW r v).co.pc = d.co.pc := by unfold Dev.setW; split <;> rfl
@[simp] theorem setW_level (d : Dev) (r : Nat) (v : Word) : (d.setW r v).co.level = d.co.level := by unfold Dev.setW; split <;> rfl
@[simp] theorem setW_loads (d : Dev) (r : Nat) (v : Word) : (d.setW r v).co.loads = d.co.loads := by unfold Dev.setW; split <;> rfl
@[simp] theorem setW_wb (d : Dev) (r : Nat) (v : Word) : (d.setW r v).co.wb = d.co.wb := by unfold Dev.setW; split <;> rfl

/-! ### Memory -/

/-- A byte reads what was written. -/
@[simp] theorem byte_setByte_same (d : Dev) (a : Nat) (v : Byte) : (d.setByte a v).byte a = v := by
  simp [Dev.byte, Dev.setByte]

/-- A write of one byte leaves every other byte. -/
theorem byte_setByte_other (d : Dev) {a x : Nat} (v : Byte) (h : x ≠ a) : (d.setByte a v).byte x = d.byte x :=
  tab_getD_setD_other d.mem memDefault memDefault v h

/-- A store leaves every byte outside its own. -/
theorem byte_store_other (n : Nat) (d : Dev) (a v x : Nat) (h : x < a ∨ a + n ≤ x) : (d.store n a v).byte x = d.byte x := by
  induction n generalizing d a v with
  | zero => rfl
  | succ n ih =>
    rw [Dev.store, ih _ _ _ (by omega), byte_setByte_other _ _ (by omega)]

/-- The bytes of a list stored leave every byte outside their own. -/
theorem byte_storeBytes_other (bs : List Nat) (d : Dev) (a x : Nat) (h : x < a ∨ a + bs.length ≤ x) :
    (d.storeBytes a bs).byte x = d.byte x := by
  induction bs generalizing d a with
  | nil => rfl
  | cons b r ih =>
    simp only [List.length_cons] at h
    rw [Dev.storeBytes, ih _ _ (by omega), byte_setByte_other _ _ (by omega)]

/-- Stored bytes read back. -/
theorem byte_storeBytes_same (bs : List Nat) (d : Dev) (a i : Nat) (h : i < bs.length) :
    (d.storeBytes a bs).byte (a + i) = BitVec.ofNat 8 (bs.getD i 0) := by
  induction bs generalizing d a i with
  | nil => simp at h
  | cons b r ih =>
    simp only [List.length_cons] at h
    cases i with
    | zero => simp [Dev.storeBytes, byte_storeBytes_other r _ (a + 1) a (by omega)]
    | succ i =>
      have := ih (d.setByte a (BitVec.ofNat 8 b)) (a + 1) i (by omega)
      rw [show a + 1 + i = a + (i + 1) by omega] at this
      simpa [Dev.storeBytes] using this

/-- A load after a store of the same bytes gives the value stored. -/
theorem load_store_same (n : Nat) (d : Dev) (a v : Nat) : (d.store n a v).load n a = v % 256 ^ n := by
  induction n generalizing d a v with
  | zero => simp [Dev.load, Nat.mod_one]
  | succ n ih =>
    simp only [Dev.store, Dev.load]
    rw [ih, byte_store_other n _ _ _ a (by omega), byte_setByte_same]
    rw [Nat.pow_succ, Nat.mul_comm (256 ^ n), Nat.mod_mul]
    simp

/-- A load reads what its bytes make. -/
theorem load_congr (n : Nat) (d e : Dev) (a : Nat) (h : ∀ i, i < n → d.byte (a + i) = e.byte (a + i)) : d.load n a = e.load n a := by
  induction n generalizing a with
  | zero => rfl
  | succ n ih =>
    simp only [Dev.load]
    rw [ih (a + 1) (fun i hi => by rw [show a + 1 + i = a + (i + 1) by omega]; exact h (i + 1) (by omega)), show d.byte a = e.byte a from h 0 (by omega)]

/-! ### The memory's canonical form -/

theorem wf_setByte (d : Dev) (a : Nat) (v : Byte) (h : Memory.wf d.mem = true) : Memory.wf (d.setByte a v).mem = true := by
  simp only [Memory.wf, Bool.and_eq_true, List.all_eq_true, decide_eq_true_eq] at h ⊢
  exact ⟨rising_setD a memDefault v h.1, listed_setD a memDefault v h.2⟩

theorem wf_store (n : Nat) (d : Dev) (a v : Nat) (h : Memory.wf d.mem = true) : Memory.wf (d.store n a v).mem = true := by
  induction n generalizing d a v with
  | zero => exact h
  | succ n ih => exact ih _ _ _ (wf_setByte d a _ h)

theorem wf_storeBytes (bs : List Nat) (d : Dev) (a : Nat) (h : Memory.wf d.mem = true) : Memory.wf (d.storeBytes a bs).mem = true := by
  induction bs generalizing d a with
  | nil => exact h
  | cons b r ih => exact ih _ _ (wf_setByte d a _ h)

theorem wf_clearMem (d : Dev) (a n : Nat) (h : Memory.wf d.mem = true) : Memory.wf (d.clearMem a n).mem = true := by
  simp only [Memory.wf, Bool.and_eq_true, List.all_eq_true, decide_eq_true_eq] at h ⊢
  exact ⟨rising_filter _ h.1, fun e he => h.2 e (List.mem_of_mem_filter he)⟩

theorem wf_reset : Memory.wf State.reset.dev.mem = true := rfl

end Sys2Proof.Laws
end

