-- ==== Sys2Proof/Laws/Cartil.lean ====
section
/-! SUPPORT. What the shapes of the Cartil instructions do where the instruction is due, and what taking an exception does. -/

namespace Sys2Proof.Laws

open Sys2Proof.Machine

/-! ### Delivery -/

theorem cacheHit_co (a : Nat) (d : Dev) : (cacheHit a d).co = { d.co with used := (cacheHit a d).co.used } := by
  unfold cacheHit
  simp only
  split
  · rfl
  · split <;> rfl

theorem cacheHit_mem (a : Nat) (d : Dev) : (cacheHit a d).mem = d.mem := by
  unfold cacheHit
  simp only
  split
  · rfl
  · split <;> rfl

/-- Delivery counts a hit and ends a stall; of the core it changes nothing that an instruction reads. -/
theorem fetched_co (d : Dev) : (fetched d).co = { d.co with used := (fetched d).co.used, missed := false, stalled := false } := by
  unfold fetched
  simp only
  split
  · simp only [Dev.onCo]
    rw [cacheHit_co]
  · rfl

@[simp] theorem fetched_mem (d : Dev) : (fetched d).mem = d.mem := by
  unfold fetched
  simp only
  split
  · simp [cacheHit_mem]
  · rfl

@[simp] theorem fetched_pc (d : Dev) : (fetched d).co.pc = d.co.pc := by rw [fetched_co]
@[simp] theorem fetched_level (d : Dev) : (fetched d).co.level = d.co.level := by rw [fetched_co]
@[simp] theorem fetched_loads (d : Dev) : (fetched d).co.loads = d.co.loads := by rw [fetched_co]
@[simp] theorem fetched_wb (d : Dev) : (fetched d).co.wb = d.co.wb := by rw [fetched_co]
@[simp] theorem fetched_c (d : Dev) : (fetched d).co.c = d.co.c := by rw [fetched_co]
@[simp] theorem fetched_n (d : Dev) : (fetched d).co.n = d.co.n := by rw [fetched_co]
@[simp] theorem fetched_z (d : Dev) : (fetched d).co.z = d.co.z := by rw [fetched_co]
@[simp] theorem fetched_v (d : Dev) : (fetched d).co.v = d.co.v := by rw [fetched_co]
@[simp] theorem fetched_ie (d : Dev) : (fetched d).co.ie = d.co.ie := by rw [fetched_co]

@[simp] theorem fetched_wr (d : Dev) (r : Nat) : (fetched d).wr r = d.wr r := by
  unfold Dev.wr
  rw [fetched_co]

@[simp] theorem fetched_busy (d : Dev) : busyReg (fetched d) = busyReg d := by
  funext r
  unfold busyReg
  rw [fetched_loads]

@[simp] theorem fetched_cond (d : Dev) (c : Nat) : condTrue c (fetched d).co = condTrue c d.co := by
  unfold condTrue
  rw [fetched_co]

@[simp] theorem fetched_stat (d : Dev) : statWord (fetched d).co = statWord d.co := by
  unfold statWord
  rw [fetched_co]

theorem cacheHit_r (a : Nat) (d : Dev) (f : Fld) (h : f.key ≠ F.IC_STAT_HIT.key) : (cacheHit a d).r f = d.r f := by
  have hi : (d.inc F.IC_STAT_HIT).r f = d.r f := r_w_other d _ h
  unfold cacheHit
  simp only
  split
  · exact hi
  · split
    · exact hi
    · exact hi

/-- Delivery leaves every register field but the count of hits. -/
theorem fetched_r (d : Dev) (f : Fld) (h : f.key ≠ F.IC_STAT_HIT.key) : (fetched d).r f = d.r f := by
  unfold fetched
  simp only
  split
  · exact cacheHit_r _ d f h
  · rfl

theorem fetched_b (d : Dev) (f : Fld) (h : f.key ≠ F.IC_STAT_HIT.key) : (fetched d).b f = d.b f := by
  unfold Dev.b
  rw [fetched_r d f h]

@[simp] theorem fetched_guard (d : Dev) : guardOk (fetched d) = guardOk d := by
  funext p a
  have k : ∀ n, (F.GUARD_ATTR_EN n).key ≠ F.IC_STAT_HIT.key ∧ (F.GUARD_BASE_BASE n).key ≠ F.IC_STAT_HIT.key ∧
      (F.GUARD_LIM_LIM n).key ≠ F.IC_STAT_HIT.key ∧ (F.GUARD_ATTR_R n).key ≠ F.IC_STAT_HIT.key ∧
      (F.GUARD_ATTR_W n).key ≠ F.IC_STAT_HIT.key ∧ (F.GUARD_ATTR_X n).key ≠ F.IC_STAT_HIT.key := by
    intro n
    simp only [Fld.key, F.GUARD_ATTR_EN, F.GUARD_BASE_BASE, F.GUARD_LIM_LIM, F.GUARD_ATTR_R, F.GUARD_ATTR_W, F.GUARD_ATTR_X, F.IC_STAT_HIT]
    omega
  unfold guardOk
  simp only [fetched_b _ _ (k _).1, fetched_r _ _ (k _).2.1, fetched_r _ _ (k _).2.2.1, fetched_b _ _ (k _).2.2.2.1,
    fetched_b _ _ (k _).2.2.2.2.1, fetched_b _ _ (k _).2.2.2.2.2]

@[simp] theorem fetched_fault (d : Dev) : dataFault (fetched d) = dataFault d := by
  funext w n a
  have k : F.FETCH_MODE_XIPEN.key ≠ F.IC_STAT_HIT.key := by decide
  unfold dataFault
  simp only [fetched_guard, fetched_b d _ k]

@[simp] theorem fetched_frameBusy (d : Dev) : frameBusy (fetched d) = frameBusy d := by
  unfold frameBusy
  rw [fetched_busy]

/-! ### Issue -/

/-- Where the instruction is due, it acts on what its delivery leaves. -/
theorem fetch_ready (act : Dev → Dev) {d : Dev} (h : CpuReady d) : fetch act d = act (fetched d) := by
  obtain ⟨h1, h2, h8, h3, h4, h5, h6, h7⟩ := h
  unfold fetch
  simp [h1, h2, h3, h4, h5, h6, h7, h8]

/-- Where, besides, no register it names is busy, it does not stall. -/
theorem instr_ready (rs : List Nat) (act : Dev → Dev) {d : Dev} (h : CpuReady d) (hb : rs.any (busyReg d) = false) :
    instr rs act d = act (fetched d) := by
  unfold instr
  rw [fetch_ready _ h, fetched_busy, hb]
  rfl

/-- An instruction with one result writes it, sets its flags, and the next is due. -/
theorem result_ready (rs : List Nat) (t : Nat) (v : Dev → Word) (fl : Dev → Dev → Dev) {d : Dev} (h : CpuReady d)
    (hb : (t :: rs).any (busyReg d) = false) :
    result rs t v fl d = advancePc ((fl (fetched d) (fetched d)).setW t (v (fetched d))) := by
  unfold result
  rw [instr_ready _ _ h hb]

theorem aluRR_ready (op : Word → Word → Word) (t a b : Nat) {d : Dev} (h : CpuReady d) (hb : [t, a, b].any (busyReg d) = false) :
    aluRR op t a b d = advancePc ((fetched d).setW t (op (d.wr a) (d.wr b))) := by
  unfold aluRR
  rw [result_ready _ _ _ _ h hb]
  simp [noFlags]

theorem aluR_ready (op : Word → Word) (t a : Nat) {d : Dev} (h : CpuReady d) (hb : [t, a].any (busyReg d) = false) :
    aluR op t a d = advancePc ((fetched d).setW t (op (d.wr a))) := by
  unfold aluR
  rw [result_ready _ _ _ _ h hb]
  simp [noFlags]

theorem aluAdd_ready (rs : List Nat) (t a : Nat) (y : Dev → Word) (cin : Dev → Bool) {d : Dev} (h : CpuReady d)
    (hb : (t :: a :: rs).any (busyReg d) = false) :
    aluAdd rs t a y cin d =
      advancePc ((addFlags (d.wr a) (y (fetched d)) (cin (fetched d)) (fetched d)).setW t (addSum (d.wr a) (y (fetched d)) (cin (fetched d)))) := by
  unfold aluAdd
  rw [result_ready _ _ _ _ h hb]
  simp

/-- A store whose checks pass is posted while fewer than four are. -/
theorem storeInstr_ready (rs : List Nat) (ea : Dev → Nat) (n s : Nat) {d : Dev} (h : CpuReady d) (hb : (s :: rs).any (busyReg d) = false)
    (hf : dataFault (fetched d) true n (ea (fetched d)) = 0) (hw : d.co.wb.length < 4) :
    storeInstr rs ea n s d = advancePc ((fetched d).onCo fun k =>
      { k with wb := k.wb ++ [⟨k.nextLoad, ea (fetched d), n, (d.wr s).toNat % 256 ^ n⟩], nextLoad := k.nextLoad + 1 }) := by
  unfold storeInstr
  rw [instr_ready _ _ h hb]
  simp [hf, Nat.not_le.mpr hw]

/-- A near load whose checks pass writes its register at once. -/
theorem loadInstr_near (rs : List Nat) (ea : Dev → Nat) (n : Nat) (sgn : Bool) (t : Nat) {d : Dev} (h : CpuReady d)
    (hb : (t :: rs).any (busyReg d) = false) (hf : dataFault (fetched d) false n (ea (fetched d)) = 0)
    (hn : isFar (ea (fetched d)) = false) :
    loadInstr rs ea n sgn t d =
      advancePc ((nearLoad (fetched d) n (ea (fetched d))).setW t (extendLoad n sgn (nearLoad (fetched d) n (ea (fetched d))).rd)) := by
  unfold loadInstr
  rw [instr_ready _ _ h hb]
  simp [hf, hn]

/-- A branch goes to its target where its condition holds. -/
theorem branch_ready (c : Nat) (disp : BitVec 22) {d : Dev} (h : CpuReady d) (hc : c ≠ 15) :
    branch c disp d = if condTrue c d.co then goTo (branchTo d.co.pc disp) (fetched d) else advancePc (fetched d) := by
  unfold branch
  rw [fetch_ready _ h]
  simp [hc]

/-! ### Taking an exception -/

/-- At a level below 8 with the registers of the frame free: the cause, the pc and the address are kept and the handler is entered at level 8. -/
theorem raise_enters (e pc : Nat) (addr : Option Nat) {d : Dev} (hl : d.co.level < 8) (hb : frameBusy d = false) :
    raise e pc addr d =
      enterHandler pc e 8 (match addr with
        | some a => (((d.w F.CO_FCAUSE_ENTRY e).w F.CO_FCAUSE_IMP (bit (decide (e = 6)))).w F.CO_FPC_ADDR pc).w F.CO_FADDR_ADDR a
        | none => ((d.w F.CO_FCAUSE_ENTRY e).w F.CO_FCAUSE_IMP (bit (decide (e = 6)))).w F.CO_FPC_ADDR pc) := by
  unfold raise
  simp only [hb, Bool.false_eq_true, if_false, Nat.not_le.mpr hl]
  all_goals (cases addr <;> rfl)

/-- At level 8 an exception is a double fault [07 R158]. -/
theorem raise_double (e pc : Nat) (addr : Option Nat) {d : Dev} (hl : 8 ≤ d.co.level) : raise e pc addr d = lockupReset d := by
  unfold raise
  simp [hl]

end Sys2Proof.Laws
end

