-- ==== Sys2Proof/Tests/Slice0.lean ====
section
/-! SUPPORT. The tests: ill-formed commands refused, words and figures of the manual, and for every statement of Slice0 states and operands that meet its hypotheses. -/

open Sys2Proof Sys2Proof.Machine

namespace Sys2Proof.Tests

set_option Elab.async false

/-- The device in Run, its monitor up. -/
def live : Dev := { ck := { ladder := .run, boot := .up, xrun := true, host := true } }

/-- Register fields take values. -/
def ws (l : List (Fld × Nat)) (d : Dev) : Dev := l.foldl (fun d x => d.w x.1 x.2) d

/-- General registers take values. -/
def wregs (l : List (Nat × Nat)) (d : Dev) : Dev := l.foldl (fun d x => d.setW x.1 (BitVec.ofNat 32 x.2)) d

/-- Image code runs at 0x10001000, its vectors point to 0x10002000, and its stack lies below 0x10008000. -/
def cpu : Dev :=
  let d : Dev := { live with
    co := { w := [(1, 0x80000005), (2, 7), (3, 0xFFFFFFF3), (4, 0x10003000), (5, 0x21), (14, 0x10008000)], image := true, pc := 0x10001000, c := true, n := true } }
  [1, 2, 3, 4, 5, 6, 8, 36, 40, 41].foldl (fun d e => d.store 4 (0x10000000 + 4 * e) 0x10002000) d

/-- Bytes from numbers, and from text. -/
def bts (l : List Nat) : Bytes := l.map (BitVec.ofNat 8)
def str (s : String) : Bytes := bts (ascii s)

/-- A furrow, and a slot, as the device's only one. -/
def oneF (f : Nat) (u : Furrow) (d : Dev) : Dev := { d with sw := { d.sw with furrows := [(f, u)] } }
def oneS (k : Nat) (s : Slot) (d : Dev) : Dev := { d with sw := { d.sw with slots := [(k, s)] } }

/-- The hash of the curve's base point as a key, in signer slot 0. -/
def hashG : List (Nat × Nat) := [(256, 2111534552), (257, 908207087), (258, 3325609902), (259, 2151594928), (260, 257765140), (261, 618656984), (262, 4126070526),
  (263, 2668475851)]

/-- The monitor listens to the slave port. -/
def slave : Dev := live.w F.SYS_STRAP_BOOTSEL 1

/-- The image has started, and the ledger is loaded. -/
def image : Dev := { cpu.w F.SYS_BOOT_LSTATE 4 with lg := { loaded := true } }

/-- A text stands at an address. -/
def txt (a : Nat) (s : String) (d : Dev) : Dev := d.storeBytes a (ascii s ++ [0])

/-- The host UART, no tag. -/
def uart : Via := ⟨0, none, 0⟩


/-- A frame: its bytes and their CRC-8. -/
def frame (b : List Nat) : Bytes := bts (b ++ [crc8 b])

/-- A member of the ring with address `a` in ring state `st`, and the master in ring state `st`. -/
def ringMember (a st : Nat) (d : Dev) : Dev := ws [(F.SR_CTL_EN, 1), (F.SR_STAT_ADDRV, 1), (F.SR_STAT_ADDR, a), (F.SR_STAT_STATE, st)] d
def ringMaster (st : Nat) (d : Dev) : Dev := ws [(F.SR_CTL_EN, 1), (F.SR_STAT_ADDRV, 1), (F.SR_STAT_MASTER, 1), (F.SR_STAT_STATE, st)] d

/-- A download of a 256-byte header and 4 bytes, its signature and tag made with key 0 of `loaded`. -/
def record : List Nat :=
  [70, 76, 73, 77, 67, 1, 0, 0, 4, 3, 2, 1, 1, 0, 0, 0, 0, 0, 0, 16, 4, 0, 0, 0, 0, 0, 0, 16, 1, 2, 3, 4]
  ++ [5, 6, 7, 8, 9, 10, 11, 12, 12, 155, 195, 20, 151, 233, 82, 7, 210, 109, 13, 136, 202, 163, 2, 193, 77, 0, 0, 0, 0, 0, 0, 0]
  ++ [0, 0, 0, 0, 0, 0, 0, 0, 0, 0, 0, 0, 0, 0, 0, 0, 0, 0, 0, 0, 0, 0, 0, 0, 0, 0, 0, 0, 0, 0, 0, 0]
  ++ [0, 0, 0, 0, 0, 0, 0, 0, 0, 0, 0, 0, 0, 0, 0, 0, 0, 0, 0, 0, 0, 0, 0, 0, 0, 0, 0, 0, 192, 208, 244, 143]
  ++ [107, 23, 209, 242, 225, 44, 66, 71, 248, 188, 230, 229, 99, 164, 64, 242, 119, 3, 125, 129, 45, 235, 51, 160, 244, 161, 57, 69, 216, 152, 194, 150]
  ++ [79, 227, 66, 226, 254, 26, 127, 155, 142, 231, 235, 74, 124, 15, 158, 22, 43, 206, 51, 87, 107, 49, 94, 206, 203, 182, 64, 104, 55, 191, 81, 245]
  ++ [107, 23, 209, 242, 225, 44, 66, 71, 248, 188, 230, 229, 99, 164, 64, 242, 119, 3, 125, 129, 45, 235, 51, 160, 244, 161, 57, 69, 216, 152, 194, 150]
  ++ [68, 79, 208, 216, 184, 88, 59, 141, 97, 228, 13, 228, 53, 47, 193, 130, 31, 21, 158, 22, 126, 11, 23, 74, 178, 173, 172, 129, 91, 137, 89, 13]

def recordBody : List Nat := [77, 71, 134, 73]

/-- A device of life cycle perso, key 0 its signer, with the record loaded. -/
def loaded : Dev :=
  let d : Dev := { live with ot := { fuses := [(168, 1, 0), (256, 1, 0)], shadow := (0, 77) :: hashG }, bt := { header := record } }
  (ws [(F.SYS_BOOT_LSTATE, 3), (F.SYS_BLEN_N, 260), (F.OT_WIN_TEMPOK, 1)] d).storeBytes 0x10000000 recordBody


/-! ### Ill-formed commands are refused, one for each check of WellFormed -/

theorem test_xipLineFillDone_long_line : exec (.xipLineFillDone (bts (List.replicate 33 0))) ⟨cpu, []⟩ = .fault .illFormed := rfl

theorem test_pageArrival_short_page : exec (.pageArrival 0 0 (bts [1])) ⟨live, []⟩ = .fault .illFormed := rfl

theorem test_undefinedEncoding_of_an_instruction : Instr.wellFormed (.undefinedEncoding 0x20400020) = false := by decide

/-! ### Instruction words, written out from Table IS-2 to Table IS-4 -/

/-- ADD w1, w2, w3: op 0, d 1, a 2, b 3, fn 1. -/
theorem test_decode_add : decodeWord (1 * 2 ^ 22 + 2 * 2 ^ 18 + 3 * 2 ^ 14 + 1) = some (.add 1 2 3) := by decide +kernel

/-- ADDI w15, w14, 0xFFF8. -/
theorem test_decode_addi : decodeWord (0x01 * 2 ^ 26 + 15 * 2 ^ 22 + 14 * 2 ^ 18 + 0xFFF8) = some (.addi 15 14 0xFFF8) := by decide +kernel

/-- EXTU w3, w4, lsb 5, wm 6. -/
theorem test_decode_extu : decodeWord (0x0C * 2 ^ 26 + 3 * 2 ^ 22 + 4 * 2 ^ 18 + 5 * 2 ^ 13 + 6 * 2 ^ 8) = some (.extu 3 4 5 6) := by decide +kernel

/-- STW w9, [w14 + 12]. -/
theorem test_decode_stw : decodeWord (0x18 * 2 ^ 26 + 9 * 2 ^ 22 + 14 * 2 ^ 18 + 12) = some (.stw 9 14 12) := by decide +kernel

/-- B LT, −1, and condition 15, which is undefined. -/
theorem test_decode_b : decodeWord (0x20 * 2 ^ 26 + 8 * 2 ^ 22 + 0x3FFFFF) = some (.bCond 8 (-1)) ∧ decodeWord (0x20 * 2 ^ 26 + 15 * 2 ^ 22) = none := by
  decide +kernel

/-- CALL +2. -/
theorem test_decode_call : decodeWord (0x21 * 2 ^ 26 + 2) = some (.call 2) := by decide +kernel

/-- MFC w5, CSR 3, as Table IS-3's S format places its fields. -/
theorem test_decode_mfc : decodeWord (0x32 * 2 ^ 26 + 5 * 2 ^ 22 + 3) = some (.mfc 5 3) := by decide +kernel

/-! ### The worked examples of the manual -/

/-- The checksums of `#0001 IDENT` and `#0102 @2 IDENT` [11]. -/
theorem test_checksums : crc8 (ascii "#0001 IDENT") = 0x2E ∧ crc8 (ascii "#0102 @2 IDENT") = 0x14 ∧ crc8 (ascii "#0102 @2 OK") = 0x41 := by decide +kernel

/-- The HELLO to port 3 and the TAINT to H2 [20], and the epoch of 5 000 000 [21]. -/
theorem test_frame_crcs : crc8 [1, 2, 3, 1] = 0xF8 ∧ crc8 [5, 6, 0, 0xA4, 0x93, 0xD6, 0x0E, 2] = 9 ∧
    crc8 [0xE6, 0x40, 0x4B, 0x4C, 0, 0, 0x40, 0x42, 0x0F, 0, 0, 0, 0xCD, 0x4C, 0] = 0xF6 := by decide +kernel

/-- E0 at 0.3 counts per µs: 17 edges spanning 53 333 ns give 0x4CCD [15, Line A]. -/
theorem test_velocity_line_a : nearest (velMag 60000 ((List.range 17).map fun i => 60000 - 53333 * i / 16) * 65536) = 0x4CCD := by decide +kernel

/-- 5 ms after the last of two counts 100 µs apart the velocity reads 0x000D [15, Line B]. -/
theorem test_velocity_line_b : nearest (velMag 6000000 [1000000, 900000] * 65536) = 0x000D := by decide +kernel

/-- Row 3, column 17 of the dome: step 25 of F2's page [18, Line B]. -/
theorem test_step_of_the_dome :
    let d := live.storeBytes (0x30000000 + 0x190) [0xE8, 0x03, 0, 0xB0, 0xB9, 0x02, 0x64, 0, 0, 0, 0, 0, 0, 0, 0, 0]
    (stepAt d 0 25).width = 1000 ∧ (stepAt d 0 25).level = 2480 ∧ (stepAt d 0 25).scan = 3 ∧ (stepAt d 0 25).scanEn = true ∧
      (stepAt d 0 25).chmask = 2 ∧ (stepAt d 0 25).gap = 100 ∧ (stepAt d 0 25).last = false := by decide +kernel

/-- The KDF input of ("calib", ENC, 3) at security count 1 in FIELD [06, Line B]. -/
theorem test_kdf_input :
    kdfInput { live with ot := { fuses := [(158, 1, 0)] } } 0xB2 ⟨ascii "calib", 1, 3⟩ =
      [0, 0, 0, 1, 0x63, 0x61, 0x6C, 0x69, 0x62, 0, 1, 0xB2, 3, 0, 1, 0, 0, 1, 0] := by decide +kernel

/-- LGPLACE 0x8000_0010 places slot A at 0x10_0000 and slot B at 0x11_0000 [05; 22, Line B]. -/
theorem test_ledger_place :
    let d : Dev := { live with ot := { shadow := [(320, 0x80000010)] } }
    slotBase d 0 = 0x100000 ∧ slotBase d 1 = 0x110000 ∧ slotBase live 1 = 0x10000 := by decide +kernel

/-- Slot A with SEQ 0xFFFF_FFFF stands over B with 0xFFFF_FFFE, and B with 0 stands over A [22, Line B]. -/
theorem test_ledger_choice :
    chooseSlot (slotHeader 0xFFFFFFFF []) (slotHeader 0xFFFFFFFE []) = some 0 ∧ chooseSlot (slotHeader 0xFFFFFFFF []) (slotHeader 0 []) = some 1 := by
  decide +kernel

/-- The sag threshold of B2: floor(448 × 0.89) = 398, and 380 with the default of 85 [19, Line B]. -/
theorem test_sag_threshold :
    (vthRefresh 2 (ws [(F.BD_BSAG_VREF 2, 448), (F.BD_BCFG_SAG 2, 89)] live)).r (F.BD_BSAG_VTH 2) = 398 ∧
      (vthRefresh 2 (ws [(F.BD_BSAG_VREF 2, 448)] live)).r (F.BD_BSAG_VTH 2) = 380 := by decide +kernel

/-- Word 36 of PE0's table holds the entries of addresses 0x90 to 0x93 [14, Line A]. -/
theorem test_lut_word_36 :
    let d := peLutWrite 0 36 0x00212100 live
    Tab.getD (d.eng 0).lut 0x90 0 = 0 ∧ Tab.getD (d.eng 0).lut 0x91 0 = 0x21 ∧ Tab.getD (d.eng 0).lut 0x92 0 = 0x21 ∧
      peLutWord d 0 36 = 0x00212100 := by decide +kernel

/-- PE3's OUTSEL and CTL of Line B: OUT1 drives GP10 open drain, and only OUT1 starts at 1 [14, Line B]. -/
theorem test_pe3_registers :
    let d := plainWrite 0x4000A060 0x200C1 (plainWrite 0x4000A06C 0x3A19 live)
    d.r (peRoute 3 0).1 = 9 ∧ d.r (peRoute 3 0).2.2 = 0 ∧ d.r (peRoute 3 1).1 = 10 ∧ d.r (peRoute 3 1).2.2 = 1 ∧ d.r (F.PE_CTL_OINIT 3) = 2 ∧ d.r (F.PE_CTL_IE 3) = 12 := by decide +kernel

/-- The frame of 29 bits as a partial packet [13, Line B]. -/
theorem test_partial_frame :
    let d := slaveFrame [0xA5, 0x3C, 0x0F, 0xB0] 5 ({ live with sp := { active := true, taken := true, mode := true, room := true } }.w F.SP_SCTL_EN 1)
    d.q0.staged = [(2, [0x50, 0xA5, 0x3C, 0x0F, 0x16, 0x1D, 0])] ∧ d.r F.SP_SCNT_ABORTS = 1 := by decide +kernel

/-- The same in COMMIT mode: no packet, and ABORTS counts it [13, Line B]. -/
theorem test_committed_frame :
    let d := slaveFrame [0xA5, 0x3C, 0x0F, 0xB0] 5 ({ live with sp := { active := true, taken := true, mode := false, room := true } }.w F.SP_SCTL_EN 1)
    d.q0.staged = [] ∧ d.r F.SP_SSTAT_ABRT = 1 ∧ d.r F.SP_SCNT_ABORTS = 1 := by decide +kernel

/-- Line A's FURROW SET of F1 writes the words of its table [16, Line A]. -/
theorem test_furrow_set :
    let d := verbLine (Via.ctx uart) "FURROW SET" [] []
      (ascii "1 src=e0 at=1000020 every=40 bank=1 mask=0xFF head=0 page0=0 pages=8 pri=1 fault=fallback dist=compensate") image
    (List.range 6).map (fun i => plainRead d (0x40010040 + 4 * i)) = [0xFF051810, 0x000F4254, 0, 0x28, 0x0FFF0700, 0x7D0] := by decide +kernel

/-! ### A download that START accepts: a record of 256 + 4 bytes whose signature holds. A multiple of a point is taken in pieces of 32 bits. -/

/-- A point doubled `m` times. -/
def doubled : Nat → Option (Nat × Nat) → Option (Nat × Nat)
  | 0, p => p
  | m + 1, p => doubled m (ecAdd p p)

/-- The `m` low bits of `k` times a point, added to `x`. -/
def lowBits : Nat → Option (Nat × Nat) → Nat → Option (Nat × Nat) → Option (Nat × Nat)
  | 0, _, _, x => x
  | m + 1, p, k, x => ecAdd (if k % 2 = 1 then p else none) (lowBits m (ecAdd p p) (k / 2) x)

theorem ecMul_add (m n : Nat) (p : Option (Nat × Nat)) (k : Nat) :
    ecMul (m + n) p k = lowBits m p k (ecMul n (doubled m p) (k / 2 ^ m)) := by
  induction m generalizing p k with
  | zero => simp [lowBits, doubled]
  | succ m ih =>
    rw [Nat.add_right_comm, ecMul, ih, lowBits, doubled, Nat.div_div_eq_div_mul, ← Nat.pow_succ']

/-- The first 32 of `32 + n` bits, the rest given. -/
theorem ecMul_piece {n k j : Nat} {p q x y : Option (Nat × Nat)} (hq : doubled 32 p = q) (hk : k / 2 ^ 32 = j) (hx : ecMul n q j = x)
    (hy : lowBits 32 p k x = y) : ecMul (32 + n) p k = y := by
  rw [ecMul_add, hq, hk, hx, hy]

theorem ecVerify_of {pub digest sig : List Nat} {q : Nat × Nat} {w u v x y : Nat} {a b : Option (Nat × Nat)} (hq : ecPoint pub = some q)
    (hr : ¬(be (sig.take 32) = 0 ∨ be ((sig.drop 32).take 32) = 0 ∨ pN ≤ be (sig.take 32) ∨ pN ≤ be ((sig.drop 32).take 32) ∨ sig.length ≠ 64))
    (hw : invMod pN (be ((sig.drop 32).take 32)) = w) (hu : be digest * w % pN = u) (hv : be (sig.take 32) * w % pN = v)
    (ha : ecMul 256 (some pG) u = a) (hb : ecMul 256 (some q) v = b) (hs : ecAdd a b = some (x, y)) (he : x % pN = be (sig.take 32)) :
    ecVerify pub digest sig = true := by
  simp only [ecVerify, hq, hr, hw, hu, hv, ha, hb, hs, he, if_false, decide_true]

theorem piece_0 : doubled 32 (some (48439561293906451759052585252797914202762949526041747995844080717082404635286, 36134250956749795798585127919587881956611106672985015071877198253568414405109)) = some (57845546284519137759868071879580864747474048681904255205518830050186748385603, 104300214627605143922035278089265480928211230602089785806215194357861799731457) ∧
    lowBits 32 (some (48439561293906451759052585252797914202762949526041747995844080717082404635286, 36134250956749795798585127919587881956611106672985015071877198253568414405109)) 71667122117984129058822162078407038816430663044043359251125848723813653509535 (some (70849628130990479398071120941646298504873617541017951938962417696384445265607, 36690803605749420315474393233646679064680849547818679905717960818012454748268)) = some (83079321943562433180902450289667564056494872869437971510432862942643079411124, 25879497122803452066725378628015577613874603513193395165659562838467034225684) ∧
    lowBits 32 (some (48439561293906451759052585252797914202762949526041747995844080717082404635286, 36134250956749795798585127919587881956611106672985015071877198253568414405109)) 44124967092372119703875284871000534713566292180092401091296410337254858534835 (some (5295189736217954084232075123277644394235024452270251039469531221921752720461, 31575864388524645801804638348939375854984171899607383127241767318731963097536)) = some (105974337926058609927695234771783811170113160593734521301889263765099000272124, 90096201551098374936044727232122523575575195295347489986129570518535095182298) := by
  decide +kernel

theorem piece_1 : doubled 32 (some (57845546284519137759868071879580864747474048681904255205518830050186748385603, 104300214627605143922035278089265480928211230602089785806215194357861799731457)) = some (7081762767697287976009771493310263771290289599581147299482766892475312560995, 86823381773038968119624426030239743822549553315161612703449942820586000887527) ∧
    lowBits 32 (some (57845546284519137759868071879580864747474048681904255205518830050186748385603, 104300214627605143922035278089265480928211230602089785806215194357861799731457)) 16686302171550721176625732816384881459276811928498409514111897145354 (some (49725122971985762870344995984563920304243002023721626016186251880006129239963, 60908353216289962141546389116352590657463805504803145128602735901157601515855)) = some (70849628130990479398071120941646298504873617541017951938962417696384445265607, 36690803605749420315474393233646679064680849547818679905717960818012454748268) ∧
    lowBits 32 (some (57845546284519137759868071879580864747474048681904255205518830050186748385603, 104300214627605143922035278089265480928211230602089785806215194357861799731457)) 10273644489322816884116103144129862709335585166721698150806224517816 (some (68258316568312855457908817292946152760457021029105240081975682574666026680252, 107478091216313902538698089060667359748541586413764525384309301883776288019917)) = some (5295189736217954084232075123277644394235024452270251039469531221921752720461, 31575864388524645801804638348939375854984171899607383127241767318731963097536) := by
  decide +kernel

theorem piece_2 : doubled 32 (some (7081762767697287976009771493310263771290289599581147299482766892475312560995, 86823381773038968119624426030239743822549553315161612703449942820586000887527)) = some (33632488769642950967021600273968758828948451862976580774715929826193342341518, 106327573413143454726973223825755236374448084397347156576106396005572147099712) ∧
    lowBits 32 (some (7081762767697287976009771493310263771290289599581147299482766892475312560995, 86823381773038968119624426030239743822549553315161612703449942820586000887527)) 3885082474805116927396909523844924163836243545752579698830 (some (47610499188068385275464851034853597989551417266295674405918475509493027600910, 31892913685689836886018530856652112522581359597758537787908264439799475542942)) = some (49725122971985762870344995984563920304243002023721626016186251880006129239963, 60908353216289962141546389116352590657463805504803145128602735901157601515855) ∧
    lowBits 32 (some (7081762767697287976009771493310263771290289599581147299482766892475312560995, 86823381773038968119624426030239743822549553315161612703449942820586000887527)) 2392019259120062199448259348079995883008368584961094462966 (some (47007181686729653783362451049428112737009660171301814194767448808584377817315, 63998759224703914122238997880869064501416376295838047777526972075231053915730)) = some (68258316568312855457908817292946152760457021029105240081975682574666026680252, 107478091216313902538698089060667359748541586413764525384309301883776288019917) := by
  decide +kernel

theorem piece_3 : doubled 32 (some (33632488769642950967021600273968758828948451862976580774715929826193342341518, 106327573413143454726973223825755236374448084397347156576106396005572147099712)) = some (30978927491535595270285342502287618780579786685182435011955893029189825707397, 20481551163499472379222416201371726725754635744576161296521936142531318405938) ∧
    lowBits 32 (some (33632488769642950967021600273968758828948451862976580774715929826193342341518, 106327573413143454726973223825755236374448084397347156576106396005572147099712)) 904566253257244109967003931255294979511816880142 (some (47269340407296744651260543424409049118263178140323706234439407880886943491480, 89603651594679913883116042991419043365525295987470679232219587892056567533417)) = some (47610499188068385275464851034853597989551417266295674405918475509493027600910, 31892913685689836886018530856652112522581359597758537787908264439799475542942) ∧
    lowBits 32 (some (33632488769642950967021600273968758828948451862976580774715929826193342341518, 106327573413143454726973223825755236374448084397347156576106396005572147099712)) 556935383733376441394970600511877770304765688479 (some (94549868587202342945626045680123337431196110790459454945123595331582860936278, 99046312051102227629815205246079819309380020119295660854304950073102077485624)) = some (47007181686729653783362451049428112737009660171301814194767448808584377817315, 63998759224703914122238997880869064501416376295838047777526972075231053915730) := by
  decide +kernel

theorem piece_4 : doubled 32 (some (30978927491535595270285342502287618780579786685182435011955893029189825707397, 20481551163499472379222416201371726725754635744576161296521936142531318405938)) = some (62566479406992028833701513127517003117705273657914355007164325641786804940586, 1960762099875877323026688903614507008077244983723853261330124348966713726135) ∧
    lowBits 32 (some (30978927491535595270285342502287618780579786685182435011955893029189825707397, 20481551163499472379222416201371726725754635744576161296521936142531318405938)) 210610742973453390870011395601391554696 (some (35398955550803393117884144478973506771351951534468793087802966621881461075702, 63590770621617047126028436973225461449796402212528369515914784196565442049885)) = some (47269340407296744651260543424409049118263178140323706234439407880886943491480, 89603651594679913883116042991419043365525295987470679232219587892056567533417) ∧
    lowBits 32 (some (30978927491535595270285342502287618780579786685182435011955893029189825707397, 20481551163499472379222416201371726725754635744576161296521936142531318405938)) 129671623868256910097545618310542258039 (some (68728490625183636842464895899268367601395099484959137088279308587619801390505, 111249194151121656976006504700843053044660331028893040078314240617275760555091)) = some (94549868587202342945626045680123337431196110790459454945123595331582860936278, 99046312051102227629815205246079819309380020119295660854304950073102077485624) := by
  decide +kernel

theorem piece_5 : doubled 32 (some (62566479406992028833701513127517003117705273657914355007164325641786804940586, 1960762099875877323026688903614507008077244983723853261330124348966713726135)) = some (75457776083317821252662798697757590755920885718289763058263534551782236039358, 46728718496393669138731607516029863508010621830530871863089645384465424840180) ∧
    lowBits 32 (some (62566479406992028833701513127517003117705273657914355007164325641786804940586, 1960762099875877323026688903614507008077244983723853261330124348966713726135)) 49036634846928853278516651038 (some (94526581913265131954383608057373104213830734584683922114688863439843013943131, 48969895043694454876500152427515367092274676437352327312930766839681846487936)) = some (35398955550803393117884144478973506771351951534468793087802966621881461075702, 63590770621617047126028436973225461449796402212528369515914784196565442049885) ∧
    lowBits 32 (some (62566479406992028833701513127517003117705273657914355007164325641786804940586, 1960762099875877323026688903614507008077244983723853261330124348966713726135)) 30191527648888740245612714977 (some (17157414581639641366698729050081385885128586995099752824156956041624569781157, 113003163930135889158810980478234659851094156987106840760159411529608066917512)) = some (68728490625183636842464895899268367601395099484959137088279308587619801390505, 111249194151121656976006504700843053044660331028893040078314240617275760555091) := by
  decide +kernel

theorem piece_6 : doubled 32 (some (75457776083317821252662798697757590755920885718289763058263534551782236039358, 46728718496393669138731607516029863508010621830530871863089645384465424840180)) = some (47476452820719945936524819032622318587487722681099356096892784008519876992775, 92218806925569787283702304838387293055019874979186897299806248868160486843989) ∧
    lowBits 32 (some (75457776083317821252662798697757590755920885718289763058263534551782236039358, 46728718496393669138731607516029863508010621830530871863089645384465424840180)) 11417231254030217714 (some (31113482723463198904221527707914888728296004094780118630674438147249382912546, 103148660245162063237113867744364499529066495174962864347671781323326601238289)) = some (94526581913265131954383608057373104213830734584683922114688863439843013943131, 48969895043694454876500152427515367092274676437352327312930766839681846487936) ∧
    lowBits 32 (some (75457776083317821252662798697757590755920885718289763058263534551782236039358, 46728718496393669138731607516029863508010621830530871863089645384465424840180)) 7029512815384366606 (some (80856887191053862979428204912683824445200389581173524403466522759203888925005, 109430974877157527273727439377020613491453817149855757548970589202297868481752)) = some (17157414581639641366698729050081385885128586995099752824156956041624569781157, 113003163930135889158810980478234659851094156987106840760159411529608066917512) := by
  decide +kernel

theorem piece_7 : doubled 32 (some (47476452820719945936524819032622318587487722681099356096892784008519876992775, 92218806925569787283702304838387293055019874979186897299806248868160486843989)) = some (5020455767449249521318142673103379929932104188174155071185162992986202608202, 74462411220784035193134971991304486214774552560095008269501393017494332267103) ∧
    lowBits 32 (some (47476452820719945936524819032622318587487722681099356096892784008519876992775, 92218806925569787283702304838387293055019874979186897299806248868160486843989)) 2658281301 (none) = some (31113482723463198904221527707914888728296004094780118630674438147249382912546, 103148660245162063237113867744364499529066495174962864347671781323326601238289) ∧
    lowBits 32 (some (47476452820719945936524819032622318587487722681099356096892784008519876992775, 92218806925569787283702304838387293055019874979186897299806248868160486843989)) 1636685993 (none) = some (80856887191053862979428204912683824445200389581173524403466522759203888925005, 109430974877157527273727439377020613491453817149855757548970589202297868481752) := by
  decide +kernel

theorem record_first : ecMul 256 (some pG) 71667122117984129058822162078407038816430663044043359251125848723813653509535 = some (83079321943562433180902450289667564056494872869437971510432862942643079411124, 25879497122803452066725378628015577613874603513193395165659562838467034225684) :=
  (ecMul_piece (n := 224) piece_0.1 (by decide) (ecMul_piece (n := 192) piece_1.1 (by decide) (ecMul_piece (n := 160) piece_2.1 (by decide) (ecMul_piece (n := 128) piece_3.1 (by decide) (ecMul_piece (n := 96) piece_4.1 (by decide) (ecMul_piece (n := 64) piece_5.1 (by decide) (ecMul_piece (n := 32) piece_6.1 (by decide) (ecMul_piece (n := 0) piece_7.1 (by decide) (rfl : ecMul 0 (some (5020455767449249521318142673103379929932104188174155071185162992986202608202, 74462411220784035193134971991304486214774552560095008269501393017494332267103)) 0 = none) piece_7.2.1) piece_6.2.1) piece_5.2.1) piece_4.2.1) piece_3.2.1) piece_2.2.1) piece_1.2.1) piece_0.2.1)

theorem record_second : ecMul 256 (some pG) 44124967092372119703875284871000534713566292180092401091296410337254858534835 = some (105974337926058609927695234771783811170113160593734521301889263765099000272124, 90096201551098374936044727232122523575575195295347489986129570518535095182298) :=
  (ecMul_piece (n := 224) piece_0.1 (by decide) (ecMul_piece (n := 192) piece_1.1 (by decide) (ecMul_piece (n := 160) piece_2.1 (by decide) (ecMul_piece (n := 128) piece_3.1 (by decide) (ecMul_piece (n := 96) piece_4.1 (by decide) (ecMul_piece (n := 64) piece_5.1 (by decide) (ecMul_piece (n := 32) piece_6.1 (by decide) (ecMul_piece (n := 0) piece_7.1 (by decide) (rfl : ecMul 0 (some (5020455767449249521318142673103379929932104188174155071185162992986202608202, 74462411220784035193134971991304486214774552560095008269501393017494332267103)) 0 = none) piece_7.2.2) piece_6.2.2) piece_5.2.2) piece_4.2.2) piece_3.2.2) piece_2.2.2) piece_1.2.2) piece_0.2.2)

theorem record_signed : ecVerify (hdrBytes record 128 64) (sha256 (record.take 192 ++ recordBody)) (hdrBytes record 192 64) = true :=
  ecVerify_of (q := pG) (w := 111732170075427078220468019767570843301216015376566373744648806656902360150670) (u := 71667122117984129058822162078407038816430663044043359251125848723813653509535) (v := 44124967092372119703875284871000534713566292180092401091296410337254858534835) (x := 48439561293906451759052585252797914202762949526041747995844080717082404635286) (y := 36134250956749795798585127919587881956611106672985015071877198253568414405109) (by decide +kernel) (by decide +kernel) (by decide +kernel) (by decide +kernel)
    (by decide +kernel) record_first record_second (by decide +kernel) (by decide +kernel)

theorem record_authentic : headerCheck loaded record = 0 ∧ gcmTag (pathKey (setWindow 3 loaded) imagePath) (hdrBytes record 28 12) (record.take 28) recordBody = hdrBytes record 40 16 := by
  decide +kernel

/-! ### A body longer than a slot -/

/-- A table that lists every number below `n` gives each its value. -/
theorem getD_listed {α : Type} (F : Nat → α) (x : α) (n k j : Nat) (h : j ≤ k) (hk : k < j + n) :
    Tab.getD ((List.range' j n).map fun i => (i, F i)) k x = F k := by
  induction n generalizing j with
  | zero => omega
  | succ n ih =>
    simp only [List.range'_succ, List.map_cons, Tab.getD, Tab.get?]
    by_cases e : j = k
    · simp [e]
    · simp only [e, if_false]; exact ih (j + 1) (by omega) (by omega)

/-- A body with 32 furrows whose pages are all mapped is longer than a slot. -/
theorem saveBody_long {d : Dev} (h : ∀ f g, f < 32 → g < 256 → (d.pte f g).v = true) (hk : ∀ f, f < 32 → furrowKept d f = true) :
    65504 < (saveBody d).length := by
  have hp (f : Nat) (hf : f < 32) : mappedPages d f = List.range 256 :=
    List.filter_eq_self.mpr fun g hg => h f g hf (List.mem_range.mp hg)
  have hb (f : Nat) (hf : f < 32) : 2048 ≤ (recBytes 8 f ((mappedPages d f).flatMap fun g => leBytes 4 g ++ leBytes 4 (pteValue d f g))).length := by
    have e (l : List Nat) : (l.flatMap fun g => leBytes 4 g ++ leBytes 4 (pteValue d f g)).length = 8 * l.length := by
      induction l with
      | nil => rfl
      | cons g l ih => rw [List.flatMap_cons, List.length_append, ih, List.length_cons, Nat.mul_succ, Nat.add_comm]; rfl
    rw [hp f hf, recBytes, List.length_append, List.length_append, e, List.length_range]; omega
  have hs : ((List.range 32).map fun _ => 2048).sum ≤
      (((List.range 256).filter (furrowKept d)).map fun f =>
        (recBytes 8 f ((mappedPages d f).flatMap fun g => leBytes 4 g ++ leBytes 4 (pteValue d f g))).length).sum := by
    have e : List.range 256 = List.range 32 ++ List.range' 32 224 := by decide +kernel
    rw [e, List.filter_append, List.filter_eq_self.mpr fun f hf => hk f (List.mem_range.mp hf), List.map_append, List.sum_append]
    exact le_trans (List.sum_le_sum fun f hf => hb f (List.mem_range.mp hf)) (Nat.le_add_right _ _)
  have e : ((List.range 32).map fun _ => 2048).sum = 65536 := by decide +kernel
  simp only [saveBody, List.length_append, List.length_flatMap] at *
  omega


/-! ### For each statement, states and operands that meet its hypotheses: `in`n is what clause n supposes -/

theorem witness_CommandsLeaveTheQueue_0 : Instr.wellFormed .xclkValid = true := by decide

theorem witness_CommandsLeaveTheQueue_1 : Instr.wellFormed (.pageArrival 0 0 []) = false := by decide

theorem witness_CommandsLeaveTheQueue_2 : ∃ t : State, step ⟨live, [.tapReset]⟩ = .next t := ⟨_, rfl⟩

namespace W_TimePassesWhenNothingWaits

abbrev counts (d : Dev) : Prop := d.ck.ladder = .run ∨ d.ck.ladder = .hold ∨ (d.ck.ladder = .resetting ∧ d.r F.CK_STAT_PLLLOCK ≠ 0)
abbrev stands (d : Dev) : Prop := d.ck.ladder = .nap ∨ d.ck.ladder = .fallow ∨ d.ck.ladder = .dormant ∨ d.ck.ladder = .waking
abbrev ends (d : Dev) : Prop := (d.ns + 1 + d.ck.phase) % 4 = 0
abbrev none (d : Dev) : Prop := d.q0.left = [] ∧ d.q1.left = []
abbrev in0 (d : Dev) : Prop :=
  (counts d) ∧ (¬ ends d)
abbrev in1 (d : Dev) : Prop :=
  (stands d) ∧ (¬ ends d)
abbrev in2 (d : Dev) : Prop :=
  (counts d) ∧ (ends d) ∧ (none d)
abbrev in3 (d : Dev) : Prop :=
  (stands d) ∧ (ends d)
abbrev in4 (d : Dev) (b : Nat) (r : List Nat) : Prop :=
  (d.ck.ladder = .run) ∧ (ends d) ∧ (d.q0.left = b :: r) ∧ (r ≠ []) ∧ (d.q0.discard = false) ∧ (d.q0.half.length < 3) ∧ (d.q1.left = [])

theorem witness_TimePassesWhenNothingWaits :
    in0 live ∧
    in0 ({ { live with ck := { live.ck with ladder := .resetting } }.set F.CK_STAT_PLLLOCK with ns := 5, tlt := 2 ^ 48 - 1 }) ∧
    in1 ({ live with ck := { live.ck with ladder := .nap } }) ∧
    in1 ({ live with tlt := 9, ck := { live.ck with ladder := .waking, phase := 1 } }) ∧
    in2 ({ live with ns := 3 }) ∧
    in2 ({ live with ns := 2, ck := { live.ck with phase := 1, ladder := .hold }, q0 := { half := [5] } }) ∧
    in3 ({ live with ns := 7, ck := { live.ck with ladder := .fallow }, q0 := { left := [3] } }) ∧
    in4 ({ live with ns := 3, q0 := { left := [65, 66, 13], half := [0x40] } }) 65 ([66, 13]) := by
  refine ⟨?_, ?_, ?_, ?_, ?_, ?_, ?_, ?_⟩ <;> decide +kernel

end W_TimePassesWhenNothingWaits

theorem witness_MemoryKeepsItsForm : Memory.wf (live.store 4 0x20000000 5).mem = true ∧ ∃ t : State, step ⟨live.store 4 0x20000000 5, [.tapReset]⟩ = .next t :=
  ⟨by decide, _, rfl⟩

namespace W_Resets

abbrev in0 (a : BitVec 5) (c : Instr) (m : Nat) : Prop :=
  ((c, m) ∈ [(Instr.powerOnReset a, a.toNat ||| 1), (.brownOutReset a, a.toNat ||| 2), (.pinReset a, a.toNat ||| 4), (.softReset false a, a.toNat ||| 8)])
abbrev in1 (k : Nat) (d : Dev) : Prop :=
  d.r F.SR_CTL_EN ≠ 0 ∧ d.ck.ladder = .run ∧ darkened d = false ∧ d.r F.SR_STAT_MASTER = 0 ∧ d.r F.SR_STAT_ADDRV ≠ 0 ∧
      d.r F.SR_STAT_ADDR = k ∧ d.r F.SR_STAT_STATE = 2
abbrev in2 (d : Dev) : Prop :=
  d.st.wait = none
abbrev in4 (c : Ctx) (n : Nat) (d : Dev) : Prop :=
  (c.path = 1) ∧ (n ≠ 0) ∧ (d.st.wait = some (c, .leave false n))

theorem witness_Resets :
    in0 5 (Instr.powerOnReset 5) 5 ∧
    in0 5 (.softReset false 5) 13 ∧
    in0 5 (.pinReset 5) 5 ∧
    in1 2 ((((live.w F.SR_CTL_EN 1).w F.SR_STAT_ADDRV 1).w F.SR_STAT_ADDR 2).w F.SR_STAT_STATE 2) ∧
    in2 live ∧
    in4 ({ path := 1 }) 3 ({ live with st := { wait := some ({ path := 1 }, .leave false 3) } }) := by
  refine ⟨?_, ?_, ?_, ?_, ?_, ?_⟩ <;> decide +kernel

end W_Resets

theorem witness_Resets : (some (({ path := 1 } : Ctx), Long.leave false 0)) = some ({ path := 1 }, Long.leave false 0) ∧
    ∃ t : State, exec (.softReset false 9) ⟨{ live with st := { wait := some ({ path := 1 }, .leave false 0) } }, []⟩ = .next t ∧
      exec (.softReset true 9) ⟨{ live with st := { wait := some ({ path := 1 }, .leave false 0) } }, []⟩ = .next t := ⟨rfl, _, rfl, rfl⟩

namespace W_ResetLadder

abbrev at' (b : BootStep) (d : Dev) : Prop := d.ck.ladder = .resetting ∧ d.ck.boot = b
abbrev in0 (d : Dev) : Prop :=
  (at' .xclk) d
abbrev in1 (d : Dev) : Prop :=
  d.ck.ladder = .waking ∧ d.ck.xrun = true
abbrev in2 (d : Dev) : Prop :=
  d.ck.ladder = .waking ∧ d.ck.xrun = false
abbrev in3 (d : Dev) : Prop :=
  d.ck.ladder = .run
abbrev in5 (d : Dev) : Prop :=
  at' .resetn d ∧ d.ck.resample = true
abbrev in6 (d : Dev) : Prop :=
  d.ck.ladder ≠ .resetting
abbrev in7 (d : Dev) : Prop :=
  at' .sense d ∧ d.r F.TP_STAT_QPEND = 0 ∧ d.r F.TP_LIVE_SRC = 0
abbrev in9 (alarms : BitVec 6) (d : Dev) : Prop :=
  (alarms ≠ 0) ∧ (at' .sense) d
abbrev waits (d : Dev) : Prop := d.ck.ladder = .run ∧ d.ck.host = true ∧ started d = false ∧ bootPath d = 1 ∧ d.r F.SYS_BOOT_BAUDOK = 0
abbrev in10 (n : Nat) (d : Dev) : Prop :=
  (164 ≤ n) ∧ (n ≤ 212585) ∧ (waits d ∧ d.st.out = [] ∧ d.ua.tx = [] ∧ d.ck.silent = false ∧ d.st.machU = false)
abbrev in11 (c : Byte) (stop : Bool) (d : Dev) : Prop :=
  (c ≠ 13 ∨ stop = false) ∧ waits d
abbrev in4 (d : Dev) : Prop :=
  at' .pll d ∧ d.ck.xrun = true

theorem witness_ResetLadder :
    in0 (Dev.reset) ∧
    in1 ({ live with ck := { live.ck with ladder := .waking } }) ∧
    in2 ({ live with ns := 77, ck := { live.ck with ladder := .waking, xrun := false, sleepNs := 5 } }) ∧
    in3 live ∧
    in5 ({ ck := { boot := .resetn, xrun := true, resetLow := true } }) ∧
    in6 ({ live with ck := { live.ck with resetLow := true } }) ∧
    in7 ({ ck := { boot := .sense, xrun := true }, ot := { fuses := [(0, 77, 0), (200, 8, 0)] }, mem := [(0x10000000, 3), (0x28000000, 4)] }) ∧
    in7 ({ ck := { boot := .sense, xrun := true }, ot := { fuses := [(0, 77, 0)] } }) ∧
    in9 1 ({ ck := { boot := .sense, xrun := true }, mem := [(0x10000000, 3)] }) ∧
    in9 63 ({ ck := { boot := .sense, xrun := true }, mem := [(0x10000000, 3)] }) ∧
    in10 164 live ∧
    in10 212585 live ∧
    in11 65 true live ∧
    in11 13 false (live.w F.SYS_BOOT_ABFAIL 255) ∧
    in4 ({ ck := { boot := .pll, xrun := true, resetLow := true }, ns := 1003 }) ∧
    in4 ({ ck := { boot := .pll, xrun := true }, ns := 12345, hp := [(3, { raw := true })], mem := [(0x28000000, 4)] }) ∧
    in4 ({ ck := { boot := .pll, xrun := true, resample := false }, ns := 9 }) ∧
    in7 ({ ck := { boot := .sense, xrun := true } }) ∧
    in7 (ws [(F.SYS_STRAP_BOOTSEL, 1)] { ck := { boot := .sense, xrun := true } }) ∧
    in7 (ws [(F.SYS_BOOT_BAUDOK, 1)] { ck := { boot := .sense, xrun := true } }) := by
  refine ⟨?_, ?_, ?_, ?_, ?_, ?_, ?_, ?_, ?_, ?_, ?_, ?_, ?_, ?_, ?_, ?_, ?_, ?_, ?_, ?_⟩ <;> decide +kernel

end W_ResetLadder

namespace W_RootClock

abbrev fits (v : Bool) (d : Dev) : Prop := bit v ≠ d.r F.CK_ROOT_SEL ∧ armedAll d = 0 ∧ (v = true → d.r F.CK_CFG_RINGOK ≠ 0 ∧ d.r F.CK_STAT_RINGCLK ≠ 0)
abbrev in0 (v : Bool) (d : Dev) : Prop :=
  (fits v) d
abbrev in1 (v : Bool) (d : Dev) : Prop :=
  ¬ (fits v) d
abbrev in2 (d : Dev) : Prop :=
  (d.ck.ladder = .run ∨ d.ck.ladder = .hold) ∧ (d.ck.xrun = true ∨ d.r F.CK_ROOT_SEL ≠ 0) ∧ d.ck.holdEnd = none
abbrev in4 (d : Dev) : Prop :=
  d.awake = true ∧ d.r F.CK_ROOT_SEL = 1 ∧ d.ck.holdEnd = none
abbrev in5 (d : Dev) : Prop :=
  d.awake = false ∨ d.r F.CK_ROOT_SEL ≠ 1
abbrev in6 (e : Nat) (d : Dev) : Prop :=
  d.ck.holdEnd = some e ∧ e ≤ d.ns
abbrev in7 (e : Nat) (d : Dev) : Prop :=
  d.ck.holdEnd = some e ∧ d.ns < e
abbrev unlocks (d : Dev) : Prop := d.awake = true ∧ d.r F.CK_STAT_PLLLOCK = 1 ∧ (d.ck.xrun = true ∨ d.r F.CK_ROOT_SEL ≠ 0) ∧ d.r F.CK_QEN_CAUSE = 0 ∧
     d.sw.pend = [] ∧ d.sw.forcing = []
abbrev in8 (d : Dev) : Prop :=
  unlocks d ∧ d.sw.slots = []
abbrev in9 (k : Nat) (u : Slot) (d : Dev) : Prop :=
  (u.st = .armed) ∧ (unlocks d ∧ d.sw.slots = [(k, u)])
abbrev in10 (d : Dev) : Prop :=
  d.r F.CK_STAT_PLLLOCK = 0 ∨ (d.ck.xrun = false ∧ d.r F.CK_ROOT_SEL = 0)
abbrev in11 (d : Dev) : Prop :=
  d.ck.xrun = true ∧ (d.ck.ladder = .nap ∨ d.ck.ladder = .fallow ∨ d.ck.ladder = .waking)
abbrev in12 (d : Dev) : Prop :=
  d.ck.xrun = false ∧ d.ck.silent = false ∧ (d.ck.ladder = .nap ∨ d.ck.ladder = .fallow ∨ d.ck.ladder = .waking)
abbrev in13 (d : Dev) : Prop :=
  d.ck.xrun = true ∧ d.awake = true ∧ d.r F.SYS_BOOT_LSTATE ≠ 5 ∧ d.sw.slots = [] ∧ d.r F.TP_LIVE_SRC = 0
abbrev in15 (d : Dev) : Prop :=
  d.ck.xrun = false ∧ d.ck.silent = false ∧ d.awake = true
abbrev in17 (d : Dev) : Prop :=
  d.ck.xrun = false ∧ d.ck.silent = true ∧ d.awake = true ∧ d.r F.SYS_BOOT_LSTATE ≠ 5
abbrev in14 (d : Dev) : Prop :=
  d.ck.xrun = true ∧ d.awake = true ∧ d.r F.SYS_BOOT_LSTATE = 5
abbrev in16 (d : Dev) : Prop :=
  d.ck.xrun = false ∧ d.ck.silent = true ∧ d.awake = true ∧ d.r F.SYS_BOOT_LSTATE = 5

theorem witness_RootClock :
    in0 true (ws [(F.CK_CFG_RINGOK, 1), (F.CK_STAT_RINGCLK, 1)] live) ∧
    in0 false (live.w F.CK_ROOT_SEL 1) ∧
    in1 true live ∧
    in2 live ∧
    in4 (ws [(F.CK_ROOT_SEL, 1), (F.CK_STAT_RINGCLK, 1)] live) ∧
    in5 (live.w F.CK_STAT_RINGCLK 1) ∧
    in6 500 ({ live with ck := { live.ck with holdEnd := some 500 }, ns := 500 }) ∧
    in7 500 ({ live with ck := { live.ck with holdEnd := some 500 }, ns := 499 }) ∧
    in8 (ws [(F.CK_STAT_PLLLOCK, 1), (F.CK_QEN_CAUSE, 0)] live) ∧
    in9 3 ({ st := .armed, f := 7 }) (oneS 3 { st := .armed, f := 7 } (ws [(F.CK_STAT_PLLLOCK, 1), (F.CK_QEN_CAUSE, 0)] live)) ∧
    in10 live ∧
    in11 ({ live with ns := 900, ck := { live.ck with ladder := .nap, xrun := true, sleepNs := 100, sleepTlt := 7 } }.w F.CK_STAT_XOK 1) ∧
    in11 ({ live with ck := { live.ck with ladder := .nap } }.w F.CK_STAT_XOK 1) ∧
    in12 ({ live with ns := 900, ck := { live.ck with ladder := .fallow, xrun := false, sleepNs := 100, sleepTlt := 7 } }) ∧
    in12 ({ live with ns := 900, ck := { live.ck with ladder := .waking, xrun := false } }) ∧
    in13 ({ cpu with tlt := 9 }) ∧
    in15 ({ live with ck := { live.ck with xrun := false } }) ∧
    in17 ({ cpu with ck := { live.ck with xrun := false, silent := true } }) ∧
    in8 (oneF 7 { state := .sown, miss := 4 } (ws [(F.CK_STAT_PLLLOCK, 1), (F.CK_QEN_CAUSE, 0), (F.CK_ROOT_SEL, 1)] { live with ck := { live.ck with xrun := false }, hp := [(2, { trig := true, trigEnd := 50 })] })) ∧
    in10 (ws [(F.CK_STAT_PLLLOCK, 1)] { live with ck := { live.ck with xrun := false } }) ∧
    in11 ({ live with ns := 900, ck := { live.ck with ladder := .waking, xrun := true, sleepNs := 900 } }.w F.CK_STAT_XOK 1) ∧
    in12 (ws [(F.TP_LIVE_SRC, 0x11)] { live with ns := 900, ck := { live.ck with ladder := .nap, xrun := false, sleepNs := 100, sleepTlt := 7 } }) ∧
    in13 (ws [(F.CK_ROOT_SEL, 1)] { live with ck := { live.ck with xrun := true } }) ∧
    in14 (ws [(F.SYS_BOOT_LSTATE, 5)] { live with ck := { live.ck with xrun := true } }) ∧
    in15 (ws [(F.TP_LIVE_SRC, 0x10)] { live with ck := { live.ck with xrun := false } }) ∧
    in16 (ws [(F.SYS_BOOT_LSTATE, 5)] { live with ck := { live.ck with xrun := false, silent := true } }) := by
  refine ⟨?_, ?_, ?_, ?_, ?_, ?_, ?_, ?_, ?_, ?_, ?_, ?_, ?_, ?_, ?_, ?_, ?_, ?_, ?_, ?_, ?_, ?_, ?_, ?_, ?_, ?_⟩ <;> decide +kernel

end W_RootClock

namespace W_PowerLadder

abbrev mayHold (d : Dev) : Prop := d.r F.CK_LADDER_AUTOHOLD ≠ 0 ∧ armedLadder d = 0 ∧ d.co.waiting = true ∧ d.sp.bus = none ∧ d.sp.held = none ∧ ∀ p, p < 6 → lineFree d p = true
abbrev calm (d : Dev) : Prop := d.st.wait = none ∧ d.r F.TP_STAT_QPEND = 0
abbrev in0 (d : Dev) : Prop :=
  d.ck.ladder = .run ∧ mayHold d
abbrev in1 (d : Dev) : Prop :=
  ¬ mayHold d
abbrev in2 (d : Dev) : Prop :=
  d.ck.ladder = .hold ∧ ¬ mayHold d
abbrev in3 (d : Dev) : Prop :=
  mayHold d
abbrev cyc (d : Dev) (x : Nat) : Nat := (x + d.ck.aphase) / 1000
abbrev waits (g : Nat) (e : Nat) (d : Dev) : Prop := d.ck.ask = some (g, e) ∧ quiesced d = true ∧ cyc d d.ns ≤ cyc d e ∧ armedAll d = 0 ∧
      irqAbove d d.co.level = none ∧ d.ck.woken = false
abbrev in4 (g : Nat) (e : Nat) (d : Dev) : Prop :=
  (g = 2 ∨ g = 3) ∧ (waits g e) d
abbrev in5 (g : Nat) (e : Nat) (d : Dev) : Prop :=
  (g = 4) ∧ ((waits g e) d ∧ d.ot.job = none)
abbrev in6 (g : Nat) (e : Nat) (d : Dev) : Prop :=
  d.ck.ask = some (g, e) ∧ quiesced d = true ∧ cyc d d.ns < cyc d e ∧ d.ck.woken = true ∧ d.st.wait = none
abbrev in8 (g : Nat) (e : Nat) (d : Dev) : Prop :=
  d.ck.ask = some (g, e) ∧ cyc d d.ns ≤ cyc d e
abbrev en (m : BitVec 8) (d : Dev) : Nat := m.toNat &&& (d.r F.CK_WAKE_EN ||| 0x80)
abbrev in10 (m : BitVec 8) (d : Dev) : Prop :=
  calm d ∧ d.ck.ladder = .nap ∧ d.ck.xrun = true ∧ (en m) d &&& 0xF3 ≠ 0
abbrev in11 (m : BitVec 8) (d : Dev) : Prop :=
  d.ck.ladder = .fallow ∧ (en m) d ≠ 0
abbrev in12 (m : BitVec 8) (d : Dev) : Prop :=
  d.ck.ladder = .dormant ∧ (en m) d &&& 0xF3 ≠ 0
abbrev in13 (m : BitVec 8) (d : Dev) : Prop :=
  (d.ck.ladder = .nap ∨ d.ck.ladder = .fallow ∨ d.ck.ladder = .dormant) ∧ (en m) d = 0
abbrev in14 (d : Dev) : Prop :=
  calm d ∧ d.ck.ladder = .waking ∧ d.ck.xrun = true ∧ d.r F.CK_STAT_PLLLOCK = 0
abbrev on (n : Fin 2) (d : Dev) : Prop := calm d ∧ d.ck.ladder = .nap ∧ d.ck.xrun = true ∧ bitAt (d.r F.CK_WAKE_EN) (2 + n) = true
abbrev in15 (n : Fin 2) (d : Dev) : Prop :=
  (on n) d ∧ max (d.r F.CK_WENC_THRESH) 1 ≤ (sd (d.enc n).pos (d.enc n).napPos).natAbs
abbrev in16 (n : Fin 2) (d : Dev) : Prop :=
  (sd (d.enc n).pos (d.enc n).napPos).natAbs < max (d.r F.CK_WENC_THRESH) 1
abbrev in17 (n : Fin 2) (d : Dev) : Prop :=
  (on n) d ∧ 4 < (lastMicro d (d.enc n).counts).length
abbrev in18 (n : Fin 2) (d : Dev) : Prop :=
  (lastMicro d (d.enc n).counts).length ≤ 4
abbrev in7 (g : Nat) (e : Nat) (c : Instr) (d : Dev) : Prop :=
  (c ∈ [Instr.quiesceTimeout, .ladderEntry]) ∧ (d.ck.ask = some (g, e) ∧ cyc d e < cyc d d.ns ∧ d.st.wait = none)
abbrev in9 (c : Ctx) (n : Nat) (d : Dev) : Prop :=
  (c.path = 1) ∧ (d.st.wait = some (c, .leave true n) ∧ d.ua.tx = [] ∧ d.st.out = [] ∧ d.st.store = [] ∧
      d.awake = true ∧ d.ck.ask = none ∧ ladderCheck 4 d = 0)

theorem witness_PowerLadder :
    in0 ({ cpu with ns := 5000, co := { cpu.co with waiting := true } }.w F.CK_LADDER_AUTOHOLD 1) ∧
    in1 live ∧
    in2 ({ live with ck := { live.ck with ladder := .hold } }) ∧
    in3 ({ cpu with ns := 5000, co := { cpu.co with waiting := true }, ck := { cpu.ck with ladder := .hold } }.w F.CK_LADDER_AUTOHOLD 1) ∧
    in4 2 5000000 ({ cpu with co := { cpu.co with waiting := true }, ck := { cpu.ck with ask := some (2, 5000000) }, tlt := 1000, ns := 4999999 }) ∧
    in4 3 5000000 ({ cpu with co := { cpu.co with waiting := true }, ck := { cpu.ck with ask := some (3, 5000000) }, tlt := 1000, ns := 4999999 }.set F.CK_STAT_PLLLOCK) ∧
    in5 4 5000000 ({ cpu with co := { cpu.co with waiting := true }, ck := { cpu.ck with ask := some (4, 5000000) }, tlt := 1000, ns := 4999999 }.w F.SW_HZN_HZN 7) ∧
    in6 2 5000000 ({ cpu with co := { cpu.co with waiting := true }, ck := { cpu.ck with ask := some (2, 5000000), woken := true }, ns := 5000 }) ∧
    in8 2 5000000 ({ cpu with ck := { cpu.ck with ask := some (2, 5000000) }, ns := 5000000 }) ∧
    in10 1 ({ live with ck := { live.ck with ladder := .nap, sleepNs := 5, sleepTlt := 100 }, ns := 82 }) ∧
    in11 1 ({ live with ck := { live.ck with ladder := .fallow, sleepNs := 5, sleepTlt := 100 }, ns := 82 }) ∧
    in11 4 ({ live with ck := { live.ck with ladder := .fallow, sleepNs := 5, sleepTlt := 100 }, ns := 82 }) ∧
    in12 1 ({ live with ck := { live.ck with ladder := .dormant } }) ∧
    in13 0 ({ live with ck := { live.ck with ladder := .nap } }) ∧
    in14 ({ live with ck := { live.ck with ladder := .waking, sleepNs := 5, sleepTlt := 100 }, ns := 82 }) ∧
    in15 1 ({ live with ck := { live.ck with ladder := .nap, sleepNs := 5, sleepTlt := 100 }, ns := 82, en := [(1, { pos := 255 })] }.w F.CK_WENC_THRESH 255) ∧
    in16 1 ({ live with en := [(1, { pos := 254 })] }.w F.CK_WENC_THRESH 255) ∧
    in17 1 ({ live with ck := { live.ck with ladder := .nap, sleepNs := 5, sleepTlt := 100 }, ns := 1082, en := [(1, { counts := [178, 179, 180, 1175, 1176] })] }) ∧
    in18 1 ({ live with ns := 1082, en := [(1, { counts := [84, 85, 1080, 1081] })] }) ∧
    in4 3 4000000 ({ cpu with co := { cpu.co with waiting := true }, ck := { cpu.ck with ask := some (3, 4000000), aphase := 200 }, tlt := 1000, ns := 4000700 }.set F.CK_STAT_PLLLOCK) ∧
    in7 2 4999999 (Instr.quiesceTimeout) ({ cpu with ck := { cpu.ck with ask := some (2, 4999999) }, ns := 5000000 }) ∧
    in7 2 4999999 (Instr.ladderEntry) ({ cpu with ck := { cpu.ck with ask := some (2, 4999999), woken := true }, ns := 5000000 }) ∧
    in7 4 1 (Instr.ladderEntry) ({ cpu with ck := { cpu.ck with ask := some (4, 1) }, ns := 5000000 }) ∧
    in9 ({ path := 1 }) 0 (oneF 7 { state := .sown } { live with ns := 82, st := { wait := some ({ path := 1 }, .leave true 0) } }) ∧
    in9 ({ path := 1 }) 9 ({ live with st := { wait := some ({ path := 1 }, .leave true 9) } }) ∧
    in12 0x81 ({ live with ck := { live.ck with ladder := .dormant, xrun := false } }) := by
  refine ⟨?_, ?_, ?_, ?_, ?_, ?_, ?_, ?_, ?_, ?_, ?_, ?_, ?_, ?_, ?_, ?_, ?_, ?_, ?_, ?_, ?_, ?_, ?_, ?_, ?_, ?_⟩ <;> decide +kernel

end W_PowerLadder

namespace W_TltReads

abbrev in3 (d : Dev) : Prop :=
  (d.tlt < 2 ^ 48)

theorem witness_TltReads :
    in3 ({ live with tlt := 2 ^ 48 - 1 }) := by
  decide +kernel

end W_TltReads

namespace W_OtpReads

abbrev idle (d : Dev) : Prop := d.r F.OT_STAT_BUSY = 0 ∧ (d.r F.OT_WIN_PEND = 0 ∨ windowMet d = false)
abbrev in0 (d : Dev) : Prop :=
  idle d
abbrev in4 (d : Dev) : Prop :=
  idle d ∧ d.r F.OT_ADDR_CTR < 14
abbrev in7 (rom : Bool) (c : Instr) (d : Dev) : Prop :=
  (c ∈ [Instr.otCmdNop rom, .otCmdRead rom, .otCmdMargl rom, .otCmdMargh rom, .otCmdCheck rom, .otCmdSense rom]) ∧ (d.r F.OT_STAT_BUSY ≠ 0 ∧ d.ot.job ≠ none)
abbrev in8 (rom : Bool) (c : Instr) (d : Dev) : Prop :=
  (c ∈ [Instr.otCmdNop rom, .otCmdRead rom, .otCmdMargl rom, .otCmdMargh rom, .otCmdCheck rom, .otCmdSense rom]) ∧ (d.ot.job = none ∧ d.r F.OT_WIN_PEND = 1 ∧ windowMet d = true ∧ ctrFull d 1 = false)

theorem witness_OtpReads :
    in0 live ∧
    in0 (ws [(F.OT_ADDR_WORD, 330)] { live with ot := { fuses := [(330, 0xF0, 0x0F)] } }) ∧
    in0 (ws [(F.OT_ADDR_WORD, 330)] { live with ot := { fuses := [(330, 0xF0, 0x0F)] } }) ∧
    in0 (ws [(F.OT_ADDR_WORD, 200)] { live with ot := { fuses := [(200, 0xF0, 0x0F)] } }) ∧
    in0 (ws [(F.OT_ADDR_WORD, 330)] { live with ot := { fuses := [(330, 0xF0, 0x0F)] } }) ∧
    in4 (ws [(F.OT_ADDR_CTR, 13)] { live with ot := { fuses := [(280, 0, 4)] } }) ∧
    in0 ({ live with ot := { fuses := [(0, 77, 0), (330, 0xF0, 0x0F), (512, 0x102, 0)] } }) ∧
    in0 live ∧
    in7 false (Instr.otCmdNop false) ((live.w F.OT_STAT_BUSY 1).onOt fun o => { o with job := some { req := ⟨.sw, 1, 0, 0, 0, []⟩ } }) ∧
    in7 true (Instr.otCmdSense true) ((live.w F.OT_STAT_BUSY 1).onOt fun o => { o with job := some { req := ⟨.sw, 1, 0, 0, 0, []⟩ } }) ∧
    in7 false (Instr.otCmdCheck false) ((live.w F.OT_STAT_BUSY 1).onOt fun o => { o with job := some { req := ⟨.sw, 1, 0, 0, 0, []⟩ } }) ∧
    in8 false (Instr.otCmdRead false) (ws [(F.OT_WIN_PEND, 1), (F.OT_WIN_OK, 1)] live) ∧
    in8 true (Instr.otCmdMargl true) (ws [(F.OT_WIN_PEND, 1), (F.OT_WIN_OK, 1)] live) ∧
    in8 false (Instr.otCmdNop false) (ws [(F.OT_WIN_PEND, 1), (F.OT_WIN_OK, 1)] live) := by
  refine ⟨?_, ?_, ?_, ?_, ?_, ?_, ?_, ?_, ?_, ?_, ?_, ?_, ?_, ?_⟩ <;> decide +kernel

end W_OtpReads

namespace W_OtpBurns

abbrev up (win : BitVec 2) (d : Dev) : Dev := setWindow win.toNat d
abbrev word (d : Dev) : Nat := d.r F.OT_ADDR_WORD
abbrev idle (win : BitVec 2) (d : Dev) : Prop := ((up win) d).r F.OT_STAT_BUSY = 0 ∧ d.ot.job = none ∧ (d.r F.OT_WIN_PEND = 0 ∨ windowMet ((up win) d) = false)
abbrev can (win : BitVec 2) (d : Dev) : Prop := (idle win) d ∧ windowMet ((up win) d) = true ∧ lifeCycle d ≠ 3
abbrev free (w : Nat) (d : Dev) : Prop := w / 64 ≠ 3 ∧ wlk d (w / 64) = false ∧ otReserved w = false ∧ otBead w = false
abbrev in0 (win : BitVec 2) (d : Dev) : Prop :=
  (can win) d ∧ free (word d) d ∧ d.r F.OT_DATA_DATA &&& otReservedBits (word d) = 0 ∧
        d.r F.OT_DATA_DATA &&& (0xFFFFFFFF ^^^ margl d (word d)) ≠ 0
abbrev in1 (win : BitVec 2) (d : Dev) : Prop :=
  (can win) d ∧ free (word d) d ∧ weakBits d (word d) &&& otReservedBits (word d) = 0 ∧ weakBits d (word d) ≠ 0
abbrev in2 (win : BitVec 2) (b : Nat) (d : Dev) : Prop :=
  (b < 3) ∧ ((can win) d ∧ d.r F.OT_ADDR_CTR = 10 ∧ margh d 168 = 2 ^ b - 1 ∧ margl d 168 = 2 ^ b - 1)
abbrev in3 (win : BitVec 2) (d : Dev) : Prop :=
  (can win) d ∧ d.r F.OT_DATA_DATA < 65536 ∧ d.r F.OT_DATA_DATA &&& (0xFFFFFFFF ^^^ margl d otLockWord) ≠ 0
abbrev in4 (win : BitVec 2) (d : Dev) : Prop :=
  (idle win) d ∧ windowMet ((up win) d) = false ∧ lifeCycle d ≠ 3 ∧ free (word d) d ∧
        d.r F.OT_DATA_DATA &&& otReservedBits (word d) = 0 ∧ d.r F.OT_DATA_DATA &&& (0xFFFFFFFF ^^^ margl d (word d)) ≠ 0
abbrev in5 (win : BitVec 2) (d : Dev) : Prop :=
  (idle win) d ∧ lifeCycle d ≠ 3 ∧ (word d / 64 = 3 ∨ wlk d (word d / 64) = true)
abbrev in6 (win : BitVec 2) (d : Dev) : Prop :=
  (idle win) d
abbrev in7 (win : BitVec 2) (d : Dev) : Prop :=
  (idle win) d ∧ d.r F.OT_ADDR_CTR < 14
abbrev in8 (win : BitVec 2) (d : Dev) : Prop :=
  (idle win) d ∧ lifeCycle d ≠ 3 ∧ 14 ≤ d.r F.OT_ADDR_CTR

theorem witness_OtpBurns :
    in0 3 (ws [(F.OT_WIN_TEMPOK, 1), (F.OT_ADDR_WORD, 330), (F.OT_DATA_DATA, 0xFF)] { live with ot := { fuses := [(330, 0xF0, 0x0F)] } }) ∧
    in1 3 (ws [(F.OT_WIN_TEMPOK, 1), (F.OT_ADDR_WORD, 330)] { live with ot := { fuses := [(330, 0xF0, 0x0F)] } }) ∧
    in2 3 2 (ws [(F.OT_WIN_TEMPOK, 1), (F.OT_ADDR_CTR, 10)] { live with ot := { fuses := [(168, 3, 0)] } }) ∧
    in2 3 0 (ws [(F.OT_WIN_TEMPOK, 1), (F.OT_ADDR_CTR, 10)] live) ∧
    in3 3 (ws [(F.OT_WIN_TEMPOK, 1), (F.OT_DATA_DATA, 0xFFFF)] live) ∧
    in4 3 (ws [(F.OT_ADDR_WORD, 330), (F.OT_DATA_DATA, 0xFF)] live) ∧
    in5 3 (ws [(F.OT_ADDR_WORD, 200), (F.OT_DATA_DATA, 0xFF)] live) ∧
    in6 3 live ∧
    in5 3 (ws [(F.OT_ADDR_WORD, 100), (F.OT_DATA_DATA, 0xFF), (F.OT_LOCK_WLK, 2)] live) ∧
    in7 3 (ws [(F.OT_ADDR_CTR, 13)] live) ∧
    in8 3 (ws [(F.OT_ADDR_CTR, 14)] live) := by
  refine ⟨?_, ?_, ?_, ?_, ?_, ?_, ?_, ?_, ?_, ?_, ?_⟩ <;> decide +kernel

end W_OtpBurns

namespace W_BurnPulses

abbrev left (lo : Word) (p : Pulse) (d : Dev) : Nat := p.target &&& (0xFFFFFFFF ^^^ (margl d p.word ||| (lo.toNat &&& p.failing)))
abbrev in0 (lo : Word) (p : Pulse) (d : Dev) : Prop :=
  pulseNow d = some p ∧ p.start + 50000 ≤ d.ns ∧ windowMet d = true ∧ (left lo p) d = 0 ∧
        d.ot.job.map OtJob.tasks = some [] ∧ d.ot.job.map OtJob.abort = some false
abbrev in1 (lo : Word) (p : Pulse) (d : Dev) : Prop :=
  pulseNow d = some p ∧ p.start + 50000 ≤ d.ns ∧ windowMet d = true ∧ (left lo p) d ≠ 0 ∧ p.tries < 4 ∧
        d.ot.job.map OtJob.abort = some false
abbrev in2 (p : Pulse) (d : Dev) : Prop :=
  pulseNow d = some p ∧ d.ns < p.start + 50000
abbrev in3 (p : Pulse) (c : BitVec 3) (d : Dev) : Prop :=
  (c.getLsbD 0 = true) ∧ (pulseNow d = some p)
abbrev in4 (d : Dev) : Prop :=
  pulseNow d = none

theorem witness_BurnPulses :
    in0 0xFF (⟨330, 0xFF, 0x0F, 3, 100⟩) (ws [(F.OT_WIN_OK, 1)] { live with ns := 50100, ot := { fuses := [(330, 0xF0, 0)], job := some { req := ⟨.sw, 4, 330, 0, 0xFF, []⟩, cur := some ⟨330, 0xFF, 0x0F, 3, 100⟩ } } }) ∧
    in1 1 (⟨330, 0xFF, 0x0F, 3, 100⟩) (ws [(F.OT_WIN_OK, 1)] { live with ns := 50100, ot := { fuses := [(330, 0xF0, 0)], job := some { req := ⟨.sw, 4, 330, 0, 0xFF, []⟩, cur := some ⟨330, 0xFF, 0x0F, 3, 100⟩ } } }) ∧
    in2 (⟨330, 0xFF, 0x0F, 3, 100⟩) ({ live with ns := 50099, ot := { job := some { req := ⟨.sw, 4, 330, 0, 0xFF, []⟩, cur := some ⟨330, 0xFF, 0x0F, 3, 100⟩ } } }) ∧
    in3 (⟨330, 0xFF, 0x0F, 3, 100⟩) 1 (ws [(F.OT_WIN_OK, 1), (F.OT_WIN_VPPOK, 1)] { live with ns := 40000, ot := { job := some { req := ⟨.sw, 4, 330, 0, 0xFF, []⟩, cur := some ⟨330, 0xFF, 0x0F, 3, 100⟩ } } }) ∧
    in3 (⟨330, 0xFF, 0x0F, 3, 100⟩) 7 (ws [(F.OT_WIN_OK, 1), (F.OT_WIN_VPPOK, 1)] { live with ns := 40000, ot := { job := some { req := ⟨.sw, 4, 330, 0, 0xFF, []⟩, cur := some ⟨330, 0xFF, 0x0F, 3, 100⟩ } } }) ∧
    in4 (ws [(F.OT_WIN_OK, 1), (F.OT_WIN_TEMPOK, 1)] live) := by
  refine ⟨?_, ?_, ?_, ?_, ?_, ?_⟩ <;> decide +kernel

end W_BurnPulses

theorem witness_BurnPulses : (∃ t : State, exec (.burnPulseEnd 0 0 false) ⟨live, []⟩ = .next t) ∧ (∃ t : State, exec (.burnWindowFall 0 0 0) ⟨live, []⟩ = .next t) :=
  ⟨⟨_, rfl⟩, _, rfl⟩

namespace W_OtpCommandEnds

abbrev in0 (j : OtJob) (d : Dev) : Prop :=
  (j.req.owner = .sw ∨ j.req.owner = .rom) ∧ (j.cur = none) ∧ (j.tasks = []) ∧ (j.abort = false) ∧ (d.ot.job = some j ∧ d.ot.wait = [])
abbrev in1 (j : OtJob) (d : Dev) : Prop :=
  (j.cur.isSome = true) ∧ (d.ot.job = some j)
abbrev in2 (win : BitVec 2) (d : Dev) : Prop :=
  d.r F.OT_WIN_PEND = 1 ∧ d.ot.job = none ∧ windowMet (setWindow win.toNat d) = true ∧ ctrFull d 1 = false
abbrev in3 (win : BitVec 2) (d : Dev) : Prop :=
  (setWindow win.toNat d).r F.OT_WIN_PEND = 0

theorem witness_OtpCommandEnds :
    in0 ({ req := ⟨.sw, 3, 330, 0, 0, []⟩, data := some 77, weak := true }) ({ live with ot := { job := some { req := ⟨.sw, 3, 330, 0, 0, []⟩, data := some 77, weak := true } } }.set F.OT_STAT_BUSY) ∧
    in0 ({ req := ⟨.rom, 7, 0, 13, 0, []⟩ }) ({ live with ot := { job := some { req := ⟨.rom, 7, 0, 13, 0, []⟩ }, fuses := [(280, 4, 0)] } }.set F.OT_STAT_BUSY) ∧
    in1 ({ req := ⟨.sw, 4, 330, 0, 0xFF, []⟩, cur := some ⟨330, 0xFF, 0x0F, 3, 100⟩ }) ({ live with ot := { job := some { req := ⟨.sw, 4, 330, 0, 0xFF, []⟩, cur := some ⟨330, 0xFF, 0x0F, 3, 100⟩ } } }) ∧
    in2 3 (ws [(F.OT_WIN_PEND, 1), (F.OT_WIN_TEMPOK, 1)] live) ∧
    in3 3 live := by
  refine ⟨?_, ?_, ?_, ?_, ?_⟩ <;> decide +kernel

end W_OtpCommandEnds

namespace W_KeyCommandsThatFill

abbrev idle (d : Dev) : Prop := d.r F.KY_STAT_BUSY = 0
abbrev in0 (d : Dev) : Prop :=
  idle d
abbrev in1 (p : List PathEl) (e : PathEl) (d : Dev) : Prop :=
  idle d ∧ kregFull d = false ∧ customerPath [1, 2] d = some p ∧ p.getLast? = some e
abbrev in2 (p : List PathEl) (d : Dev) : Prop :=
  idle d ∧ kregFull d = false ∧ customerPath [3] d = some p ∧ ((kyBuf d).headD 0 = 1 ∨ (kyBuf d).headD 0 = 2) ∧
      gcmTag (pathKey d p) (((kyBuf d).drop 1).take 12) [(kyBuf d).headD 0] (((kyBuf d).drop 13).take 32) = ((kyBuf d).drop 45).take 16
abbrev in4 (d : Dev) : Prop :=
  idle d ∧ kregFull d = true
abbrev in6 (d : Dev) : Prop :=
  d.r F.KY_STAT_BUSY ≠ 0

theorem witness_KeyCommandsThatFill :
    in0 live ∧
    in1 ([⟨ascii "a", 1, 0⟩]) (⟨ascii "a", 1, 0⟩) (ws [(F.KY_PATH_W 0, 0x61), (F.KY_PATH_W 3, 0x0001)] live) ∧
    in2 ([⟨ascii "a", 3, 255⟩]) (setKyBuf ([1] ++ List.replicate 44 0 ++ [246, 222, 135, 177, 255, 141, 247, 82, 110, 93, 156, 37, 169, 126, 146, 81]) (ws [(F.KY_PATH_W 0, 0x61), (F.KY_PATH_W 3, 0xFF03)] live)) ∧
    in0 ({ live with ky := { live.ky with pair := some 5, km := List.replicate 32 9 } }.set F.KY_STAT_KFULL) ∧
    in4 (live.set F.KY_STAT_KFULL) ∧
    in4 (live.set F.KY_STAT_KFULL) ∧
    in6 (live.set F.KY_STAT_BUSY) := by
  refine ⟨?_, ?_, ?_, ?_, ?_, ?_, ?_⟩ <;> decide +kernel

end W_KeyCommandsThatFill

namespace W_KeyCommandsThatAnswer

abbrev idle (d : Dev) : Prop := d.r F.KY_STAT_BUSY = 0
abbrev aLen (d : Dev) : Nat := le (((kyBuf d).drop 28).take 2)
abbrev nLen (d : Dev) : Nat := le (((kyBuf d).drop 30).take 2)
abbrev aad (d : Dev) : List Nat := ((kyBuf d).drop 32).take (aLen d)
abbrev text (d : Dev) : List Nat := ((kyBuf d).drop (32 + aLen d)).take (nLen d)
abbrev in0 (p : List PathEl) (d : Dev) : Prop :=
  idle d ∧ customerPath [3] d = some p ∧ ((kyBuf d).headD 0 = 1 ∨ (kyBuf d).headD 0 = 2) ∧
      d.r F.KY_STAT_TRNGF = 0
abbrev in1 (d : Dev) : Prop :=
  idle d ∧ kregFull d = true ∧ d.r F.KY_STAT_KATTR = 1 ∧ aLen d + nLen d ≤ 224 ∧ d.r F.KY_STAT_TRNGF = 0
abbrev in2 (d : Dev) : Prop :=
  idle d ∧ kregFull d = true ∧ d.r F.KY_STAT_KATTR = 2 ∧ aLen d + nLen d ≤ 224 ∧
      gcmTag (kregKey d) ((kyBuf d).take 12) (aad d) (text d) = ((kyBuf d).drop 12).take 16
abbrev in3 (d : Dev) : Prop :=
  idle d ∧ d.r F.KY_STAT_TRNGF = 0
abbrev in4 (d : Dev) : Prop :=
  idle d ∧ gcmTag (pairWrapKey d) ((kyBuf d).take 12) (ascii "PAIR") (((kyBuf d).drop 12).take 32) = ((kyBuf d).drop 44).take 16
abbrev in5 (x : Nat) (d : Dev) : Prop :=
  idle d ∧ d.ky.pair = some x
abbrev in6 (d : Dev) : Prop :=
  idle d ∧ d.ky.pair = none
abbrev in7 (d : Dev) : Prop :=
  idle d
abbrev in10 (q : Nat × Nat) (d : Dev) : Prop :=
  idle d ∧ ecPoint ((kyBuf d).take 64) = some q ∧ (signerOf d ((kyBuf d).take 64)).isSome = true ∧
      (lifeCycle d = 1 ∨ lifeCycle d = 2) ∧ (bitsAt (d.r F.KY_ARG_CONFIRM) 4 8 = lifeCode (lifeCycle d) ∨ bitsAt (d.r F.KY_ARG_CONFIRM) 4 8 = 0xB2) ∧
      d.r F.KY_STAT_TRNGF = 0
abbrev in8 (d : Dev) : Prop :=
  (d.ky.hand = false)
abbrev in9 (d : Dev) (x : Nat) : Prop :=
  (d.ky.hand = true) ∧ (d.ky.pair = some x)

theorem witness_KeyCommandsThatAnswer :
    in0 ([⟨ascii "a", 3, 255⟩]) (setKyBuf [2] (ws [(F.KY_PATH_W 0, 0x61), (F.KY_PATH_W 3, 0xFF03)] live)) ∧
    in1 (setKyBuf (List.replicate 28 0 ++ [224, 0, 0, 0]) (ws [(F.KY_STAT_KFULL, 1), (F.KY_STAT_KATTR, 1)] live)) ∧
    in2 (setKyBuf (List.replicate 12 0 ++ [210, 62, 38, 21, 188, 72, 248, 11, 223, 117, 121, 171, 245, 18, 157, 100] ++ [1, 0, 1, 0, 7, 8]) (ws [(F.KY_STAT_KFULL, 1), (F.KY_STAT_KATTR, 2)] live)) ∧
    in3 live ∧
    in4 (setKyBuf (List.replicate 44 0 ++ [11, 33, 29, 214, 151, 211, 117, 1, 147, 28, 126, 197, 233, 65, 97, 17]) live) ∧
    in5 5 ({ live with ky := { live.ky with pair := some 5 } }) ∧
    in6 live ∧
    in7 live ∧
    in10 pG (setKyBuf (ecBytes (some pG)) (ws [(F.KY_ARG_CONFIRM, 0xB20)] { live with ot := { fuses := (168, 1, 0) :: hashG.map fun w => (w.1, w.2, 0), shadow := (hashG.map fun w => (w.1, w.2)) } })) ∧
    in8 live ∧
    in9 ({ live with ky := { live.ky with pair := some 5, hand := true } }) 5 := by
  refine ⟨?_, ?_, ?_, ?_, ?_, ?_, ?_, ?_, ?_, ?_, ?_⟩ <;> decide +kernel

end W_KeyCommandsThatAnswer

namespace W_KeyCommandsThatBurn

abbrev up (win : BitVec 2) (d : Dev) : Dev := setWindow win.toNat d
abbrev idle (win : BitVec 2) (d : Dev) : Prop := ((up win) d).r F.KY_STAT_BUSY = 0 ∧ d.ot.job = none ∧ d.ot.wait = [] ∧ (d.r F.OT_WIN_PEND = 0 ∨ windowMet ((up win) d) = false)
abbrev in0 (win : BitVec 2) (k : Nat) (d : Dev) : Prop :=
  (k < 8) ∧ ((idle win) d ∧ d.r F.KY_ARG_CONFIRM % 8 = k)
abbrev in1 (win : BitVec 2) (d : Dev) : Prop :=
  (idle win) d ∧ lifeCycle d = 0 ∧ d.r F.KY_LC_SEEDBAD = 0 ∧ (∀ i, i < 8 → margh d (192 + i) = 0) ∧
      margh d otLockWord &&& 0x808 = 0 ∧ d.r F.KY_STAT_TRNGF = 0
abbrev in2 (win : BitVec 2) (d : Dev) : Prop :=
  (idle win) d ∧ lifeCycle d = 1 ∧ margh d otLockWord &&& 3 = 3 ∧ signerUsable d 0 = true
abbrev in3 (win : BitVec 2) (d : Dev) : Prop :=
  (idle win) d ∧ lifeCycle d = 2 ∧ d.r F.KY_ARG_CONFIRM = shadowOf d 0
abbrev in4 (win : BitVec 2) (d : Dev) : Prop :=
  (idle win) d ∧ (lifeCycle d ≠ 2 ∨ d.r F.KY_ARG_CONFIRM ≠ shadowOf d 0)

theorem witness_KeyCommandsThatBurn :
    in0 3 7 (ws [(F.KY_ARG_CONFIRM, 7)] { live with ky := { live.ky with pair := some 5 } }) ∧
    in1 3 live ∧
    in2 3 ({ live with ot := { fuses := [(168, 1, 0), (256, 1, 0), (512, 3, 0)], shadow := [(256, 1)] } }) ∧
    in3 3 (ws [(F.KY_ARG_CONFIRM, 77)] { live with ot := { fuses := [(168, 3, 0)], shadow := [(0, 77)] } }) ∧
    in4 3 (ws [(F.KY_ARG_CONFIRM, 77)] { live with ot := { fuses := [(168, 1, 0)], shadow := [(0, 77)] } }) ∧
    in4 3 (ws [(F.KY_ARG_CONFIRM, 76)] { live with ot := { fuses := [(168, 3, 0)], shadow := [(0, 77)] } }) := by
  refine ⟨?_, ?_, ?_, ?_, ?_, ?_⟩ <;> decide +kernel

end W_KeyCommandsThatBurn

namespace W_KeyCommandEnds

abbrev in0 (j : KyJob) (d : Dev) : Prop :=
  (j.burns = false) ∧ (j.rom = false) ∧ (d.ky.job = some j)
abbrev in1 (a : Nat) (key : List Nat) (d : Dev) : Prop :=
  (key.length = 32) ∧ ((∀ b ∈ key, b < 256)) ∧ (d.ky.job = some { code := 1, fill := some (a, key) } ∧ d.ky.km.length = 32)
abbrev in3 (e : Nat) (d : Dev) : Prop :=
  (e ≠ 0) ∧ (e ≠ KyErr.locked) ∧ (d.ky.job = some { code := 1, err := e })
abbrev ticks (d : Dev) : Prop := d.ck.ladder = .run ∨ d.ck.ladder = .hold ∨ d.ck.ladder = .nap ∨ ((d.ck.ladder = .fallow ∨ d.ck.ladder = .waking) ∧ d.ck.xrun = true)
abbrev in4 (d : Dev) : Prop :=
  ticks d ∧ d.r F.KY_STAT_TRNGF = 0 ∧
      d.ky.kx.length = 32 ∧ d.ky.km.length = 32
abbrev in5 (d : Dev) : Prop :=
  ticks d ∧ d.r F.KY_STAT_TRNGF = 1 ∧ d.ky.job = none
abbrev in2 (c : Nat) (x : Nat) (h : Bool) (d : Dev) : Prop :=
  d.ky.job = some { code := c, load := some x, hand := h }
abbrev in6 (d : Dev) : Prop :=
  d.ck.ladder = .fallow ∧ d.ck.xrun = false

theorem witness_KeyCommandEnds :
    in0 ({ code := 10, err := 15 }) ({ live with ky := { live.ky with job := some { code := 10, err := 15 } } }.set F.KY_STAT_BUSY) ∧
    in1 2 (List.range 32) ({ live with ky := { live.ky with km := List.replicate 32 7, job := some { code := 1, fill := some (2, List.range 32) } } }.set F.KY_STAT_BUSY) ∧
    in3 4 ({ live with ky := { live.ky with job := some { code := 1, err := 4 } } }.w (F.KY_BUF_W 63) 5) ∧
    in4 ({ live with ky := { live.ky with kx := List.replicate 32 7 } }) ∧
    in5 ({ live with ky := { live.ky with km := List.replicate 32 7 } }.set F.KY_STAT_TRNGF) ∧
    in2 8 5 true ({ live with ky := { live.ky with job := some { code := 8, load := some 5, hand := true } } }.set F.KY_STAT_BUSY) ∧
    in2 7 5 false ({ live with ky := { live.ky with hand := true, job := some { code := 7, load := some 5 } } }.set F.KY_STAT_BUSY) ∧
    in4 ({ live with ck := { live.ck with ladder := .waking }, ky := { live.ky with kx := List.replicate 32 7 } }) ∧
    in6 ({ live with ck := { live.ck with ladder := .fallow, xrun := false } }) := by
  refine ⟨?_, ?_, ?_, ?_, ?_, ?_, ?_, ?_, ?_⟩ <;> decide +kernel

end W_KeyCommandEnds

namespace W_TrngJtagAndUnlock

abbrev tap (d : Dev) : Prop := d.ck.ladder ≠ .dormant
abbrev in4 (d : Dev) : Prop :=
  tap d ∧ lifeCycle d ≠ 3
abbrev in5 (d : Dev) : Prop :=
  tap d ∧ lifeCycle d = 3
abbrev in6 (d : Dev) : Prop :=
  tap d ∧ lifeCycle d < 2 ∧ d.r F.KY_LC_DBGEN = 0 ∧ d.ky.job = none
abbrev in7 (d : Dev) : Prop :=
  d.ky.ir = 8
abbrev in11 (d : Dev) : Prop :=
  d.ky.verify = some true ∧ d.r F.KY_LC_DBGEN = 0 ∧ d.ky.job = none
abbrev in12 (d : Dev) : Prop :=
  d.ky.verify = some false
abbrev in2 (d : Dev) : Prop :=
  d.ck.ladder = .dormant
abbrev in3 (d : Dev) : Prop :=
  tap d
abbrev in8 (d : Dev) : Prop :=
  d.ky.ir = 8 ∧ d.ky.chal = none
abbrev in9 (d : Dev) : Prop :=
  d.ky.ir ≠ 8
abbrev in10 (c : List Nat) (d : Dev) : Prop :=
  d.ky.ir = 8 ∧ d.ky.chal = some c

theorem witness_TrngJtagAndUnlock :
    in4 ({ live with ot := { fuses := [(168, 3, 0)] } }) ∧
    in5 ({ live with ot := { fuses := [(168, 7, 0)] } }) ∧
    in6 ({ live with ky := { live.ky with pair := some 3 }, ot := { fuses := [(168, 1, 0)] } }) ∧
    in7 ({ live with ky := { live.ky with ir := 8 } }) ∧
    in11 ({ live with ky := { live.ky with verify := some true } }) ∧
    in12 ({ live with ky := { live.ky with verify := some false, chal := some [] } }) ∧
    in2 ({ live with ck := { live.ck with ladder := .dormant } }) ∧
    in3 ({ live with ky := { live.ky with ir := 8 } }) ∧
    in8 ({ live with ky := { live.ky with ir := 8 } }) ∧
    in9 ({ live with ky := { live.ky with ir := 9 } }) ∧
    in10 (List.replicate 32 0) ({ live with ky := { live.ky with ir := 8, chal := some (List.replicate 32 0) } }) := by
  refine ⟨?_, ?_, ?_, ?_, ?_, ?_, ?_, ?_, ?_, ?_, ?_⟩ <;> decide +kernel

end W_TrngJtagAndUnlock

namespace W_TamperAlarms

abbrev m (sources : BitVec 6) : Nat := sources.toNat
abbrev in0 (sources : BitVec 6) (d : Dev) : Prop :=
  ((m sources) ≠ 0) ∧ (bitAt (m sources) 4 = false) ∧ (d.ck.ladder = .resetting ∧ d.ot.job = none ∧ d.ky.job = none)
abbrev in1 (sources : BitVec 6) (d : Dev) : Prop :=
  ((m sources) ≠ 0) ∧ (bitAt (m sources) 4 = false) ∧ (d.ck.ladder = .run ∧ d.r F.SYS_BOOT_LSTATE ≠ 5 ∧ d.ck.silent = false)
abbrev in2 (sources : BitVec 6) : Prop :=
  ((m sources) ≠ 0) ∧ (bitAt (m sources) 4 = false)

theorem witness_TamperAlarms :
    in0 32 ({ ck := { boot := .sense, xrun := true } }) ∧
    in0 0x23 (ws [(F.TP_LIVE_SRC, 8)] { ck := { boot := .sense, xrun := true } }) ∧
    in0 1 ({ ck := { boot := .xclk }, ot := { fuses := [(290, 0xFFFFFFFF, 0)] } }) ∧
    in1 32 ({ cpu with tlt := 5, bt := { header := [1] }, st := { wait := some ({ path := 1 }, .save) } }) ∧
    in1 0x21 (ws [(F.TP_LIVE_SRC, 2)] { cpu with mem := (cpu.store 4 0x20000010 77).mem }) ∧
    in1 4 (oneS 3 { st := .armed, f := 7 } { cpu with tlt := 5 }) ∧
    in2 32 := by
  refine ⟨?_, ?_, ?_, ?_, ?_, ?_, ?_⟩ <;> decide +kernel

end W_TamperAlarms

namespace W_CoreEvents

abbrev in0 (d : Dev) : Prop :=
  imageRuns d = true ∧ d.co.waiting = true ∧ (irqAbove d d.co.level).isSome = true
abbrev in1 (d : Dev) : Prop :=
  imageRuns d = false ∨ d.co.waiting = false ∨ irqAbove d d.co.level = none
abbrev in2 (a : Nat) (r : List (Nat × Option Nat)) (d : Dev) : Prop :=
  imageRuns d = true ∧ d.co.busi = none ∧ d.co.fails = (a, none) :: r ∧ d.co.level < 8 ∧
      CanEnter 6 d.co.pc (d.onCo fun k => { k with fails := r })
abbrev told (l : FarLoad) (d : Dev) : Dev := (d.setW l.dst 0).onCo fun k => { k with loads := [], fails := [] }
abbrev in6 (a : Nat) (l : FarLoad) (d : Dev) : Prop :=
  imageRuns d = true ∧ d.co.busi = none ∧ d.co.fails = [(a, some l.id)] ∧ d.co.loads = [l] ∧ d.co.level < 8 ∧ CanEnter 6 d.co.pc ((told l) d)
abbrev in7 (d : Dev) : Prop :=
  d.co.fails = []
abbrev in8 (a : Nat) (o : BusOp) (line : Bytes) (d : Dev) : Prop :=
  (line.length = 32) ∧ (o.op = .fill a) ∧ (d.sp.bus = some o ∧ o.stop ≤ d.ns ∧ d.sp.fill = some a)
abbrev in9 (a : Nat) (o : BusOp) (line : Bytes) (d : Dev) : Prop :=
  (line.length = 32) ∧ (o.op = .fill a) ∧ (d.sp.fill = none)
abbrev in12 (d : Dev) : Prop :=
  d.r F.CORE_VSET_AUTO = 1 ∧ aclkRuns d = true ∧ demandNow d = true
abbrev in13 (d : Dev) : Prop :=
  d.r F.CORE_VSET_AUTO = 1 ∧ aclkRuns d = true ∧ demandNow d = false ∧ d.co.waiting = true
abbrev in14 (d : Dev) : Prop :=
  d.r F.CORE_VSET_AUTO = 1 ∧ aclkRuns d = true ∧ demandNow d = false ∧ d.co.waiting = false
abbrev in15 (d : Dev) : Prop :=
  d.r F.CORE_VSET_AUTO = 0 ∨ aclkRuns d = false
abbrev in16 (d : Dev) : Prop :=
  d.r F.CORE_VSET_AUTO = 1 ∧ demandNow d = true
abbrev in17 (d : Dev) : Prop :=
  d.r F.CORE_VSET_AUTO = 1 ∧ demandNow d = false
abbrev in18 (d : Dev) : Prop :=
  d.r F.CORE_VSET_AUTO = 0
abbrev in19 (v : Word) (d : Dev) : Prop :=
  (v.getLsbD 31 = false) ∧ (d.asleep = false)
abbrev in3 (a : Nat) (r : List (Nat × Option Nat)) (d : Dev) : Prop :=
  imageRuns d = true ∧ d.co.busi = none ∧ d.co.fails = (a, none) :: r ∧ d.co.level < 8 ∧ frameBusy d = true
abbrev in4 (a : Nat) (r : List (Nat × Option Nat)) (d : Dev) : Prop :=
  imageRuns d = true ∧ d.co.busi = none ∧ d.co.fails = (a, none) :: r ∧ 8 ≤ d.co.level
abbrev in5 (d : Dev) : Prop :=
  d.co.busi ≠ none
abbrev in10 (a : Nat) (o : BusOp) (part : Bytes) (d : Dev) : Prop :=
  (part.length < 32) ∧ (o.op = .fill a) ∧ (d.sp.bus = some o ∧ d.sp.fill = some a ∧ o.stop ≤ d.ns + (32 - part.length) * byteClocks d o.sel * o.period)
abbrev in11 (a : Nat) (o : BusOp) (part : Bytes) (d : Dev) : Prop :=
  (part.length < 32) ∧ (o.op = .fill a) ∧ (d.sp.bus = some o ∧ d.sp.fill = some a ∧ d.ns + (32 - part.length) * byteClocks d o.sel * o.period < o.stop)
abbrev in21 (d : Dev) : Prop :=
  d.asleep = true

theorem witness_CoreEvents :
    in0 (ws [(F.SYS_LOCKV_TAG, 1), (F.CO_IPRI_L3 1, 3)] { cpu with co := { cpu.co with waiting := true } }) ∧
    in1 ({ cpu with co := { cpu.co with waiting := true } }) ∧
    in2 0x40099000 ([(0x40099004, none)]) ({ cpu with co := { cpu.co with fails := [(0x40099000, none), (0x40099004, none)], level := 7 } }) ∧
    in6 0x40099000 (⟨3, 0x40099000, 9, 4, false, true, none⟩) ({ cpu with co := { cpu.co with fails := [(0x40099000, some 3)], loads := [⟨3, 0x40099000, 9, 4, false, true, none⟩] } }) ∧
    in7 cpu ∧
    in8 0x60000020 (⟨.fill 0x60000020, 0, 2, 100, 500, 16, []⟩) (List.replicate 32 7) ({ cpu with sp := { bus := some ⟨.fill 0x60000020, 0, 2, 100, 500, 16, []⟩, fill := some 0x60000020 }, ns := 500 }) ∧
    in9 0x60000020 (⟨.fill 0x60000020, 0, 2, 100, 500, 16, []⟩) (List.replicate 32 7) cpu ∧
    in12 (ws [(F.CORE_VSET_AUTO, 1), (F.CORE_VSET_DW, 1), (F.CORE_VSET_VMAX, 63)] { cpu with co := { cpu.co with stalled := true } }) ∧
    in13 (ws [(F.CORE_VSET_AUTO, 1), (F.CORE_VSTAT_TARGET, 9), (F.CORE_VSET_DOWN, 3), (F.CORE_VSET_VMIN, 7)] { cpu with co := { cpu.co with waiting := true } }) ∧
    in14 (ws [(F.CORE_VSET_AUTO, 1), (F.CORE_VSTAT_TARGET, 9), (F.CORE_VSET_VMIN, 12)] cpu) ∧
    in15 (cpu.w F.CORE_VSET_AUTO 0) ∧
    in16 (ws [(F.CORE_VSET_AUTO, 1), (F.CORE_VSET_DW, 1), (F.CORE_VSET_VMAX, 63)] { cpu with co := { cpu.co with stalled := true } }) ∧
    in17 (ws [(F.CORE_VSET_AUTO, 1), (F.CORE_VSTAT_TARGET, 9), (F.CORE_VSET_VMIN, 12)] cpu) ∧
    in18 (ws [(F.CORE_VSET_AUTO, 0), (F.CORE_VSET_VSET, 60), (F.CORE_VSTAT_SETTLED, 1)] cpu) ∧
    in19 0x7FFFFFFF cpu ∧
    in19 0x00C02005 cpu ∧
    in3 0x40099000 ([(0x40099004, none)]) ({ cpu with co := { cpu.co with fails := [(0x40099000, none), (0x40099004, none)], level := 7, loads := [⟨3, 0x40099000, 2, 4, false, true, none⟩] } }) ∧
    in4 0x40099000 ([(0x40099004, none)]) ({ cpu with co := { cpu.co with fails := [(0x40099000, none), (0x40099004, none)], level := 8 } }) ∧
    in5 ({ cpu with co := { cpu.co with busi := some 7 } }) ∧
    in8 0x60000020 (⟨.fill 0x60000020, 0, 2, 100, 500, 16, []⟩) (List.replicate 32 7) ({ cpu with sp := { bus := some ⟨.fill 0x60000020, 0, 2, 100, 500, 16, []⟩, fill := some 0x60000020 }, ns := 500, co := { cpu.co with loads := [⟨3, 0x60000024, 9, 4, false, true, none⟩] } }) ∧
    in10 0x60000020 (⟨.fill 0x60000020, 0, 2, 0, 20000, 16, []⟩) (List.replicate 16 7) ({ cpu with sp := { bus := some ⟨.fill 0x60000020, 0, 2, 0, 20000, 16, []⟩, fill := some 0x60000020 }, ns := 19000 }) ∧
    in11 0x60000020 (⟨.fill 0x60000020, 0, 2, 0, 20000, 16, []⟩) (List.replicate 16 7) ({ cpu with sp := { bus := some ⟨.fill 0x60000020, 0, 2, 0, 20000, 16, []⟩, fill := some 0x60000020 }, ns := 900 }) ∧
    in12 (ws [(F.CORE_VSET_AUTO, 1), (F.CORE_VSET_DW, 1), (F.CORE_VSET_VMAX, 63)] { cpu with ck := { cpu.ck with ladder := .fallow }, co := { cpu.co with stalled := true } }) ∧
    in15 (ws [(F.CORE_VSET_AUTO, 1)] { cpu with ck := { cpu.ck with ladder := .fallow, xrun := false } }) ∧
    in18 (ws [(F.CORE_VSET_AUTO, 0), (F.CORE_VSET_VSET, 2), (F.CORE_VSTAT_SETTLED, 1)] cpu) ∧
    in19 0x01 (ws [(F.CORE_VSTAT_SETTLED, 1)] cpu) ∧
    in21 ({ cpu with ck := { cpu.ck with ladder := .nap } }) := by
  refine ⟨?_, ?_, ?_, ?_, ?_, ?_, ?_, ?_, ?_, ?_, ?_, ?_, ?_, ?_, ?_, ?_, ?_, ?_, ?_, ?_, ?_, ?_, ?_, ?_, ?_, ?_, ?_⟩ <;> decide +kernel

end W_CoreEvents

namespace W_RegisterWrites

abbrev in0 (a : Nat) : Prop :=
  (a ∈ [0x40000014, 0x40000018, 0x4000001C, 0x40000028, 0x40001044, 0x40001010, 0x4000C004, 0x4000C01C, 0x4000C020, 0x4000D004, 0x400180C8, 0x40019804, 0xE0000010])
abbrev in1 (a : Word) : Prop :=
  ((a.toNat / 0x1000 = 0x40000 ∨ a.toNat / 0x1000 = 0x40004)) ∧ (fldsAt a.toNat = [])
abbrev in2 (a : Word) : Prop :=
  (0x40021000 ≤ a.toNat) ∧ (a.toNat < 0xE0000000)
abbrev in3 (a : Word) (g : Nat) (d : Dev) : Prop :=
  ((a = 0x40000000 ∧ g = Tag.ck) ∨ (0xE0000200 ≤ a.toNat ∧ a.toNat < 0xE0000240 ∧ g = Tag.co)) ∧ (if g = Tag.ck then d.bt.cfgLocked = true else d.r F.GUARD_LOCK_LOCK = 1)
abbrev in4 (v : Word) : Prop :=
  (v.toNat % 65536 = 0x5EB0)
abbrev in5 (v : Word) : Prop :=
  (v.toNat % 65536 ≠ 0x5EB0)
abbrev in6 (v : Word) : Prop :=
  (v.toNat % 16 = 9)
abbrev in7 (v : Word) : Prop :=
  (v.toNat % 16 = 6)
abbrev in8 (v : Word) : Prop :=
  (v.toNat % 2 = 1)

theorem witness_RegisterWrites :
    in0 0x40000014 ∧
    in0 0x4000C020 ∧
    in0 0xE0000010 ∧
    in1 0x40000FFC ∧
    in1 0x40004FFC ∧
    in2 0x40021000 ∧
    in2 0xDFFFFFFC ∧
    in3 0x40000000 (Tag.ck) ({ live with bt := { cfgLocked := true } }) ∧
    in3 0xE0000200 (Tag.co) (ws [(F.GUARD_LOCK_LOCK, 1), (F.SYS_LOCKV_TAG, 2)] live) ∧
    in3 0xE000023C (Tag.co) (ws [(F.GUARD_LOCK_LOCK, 1)] live) ∧
    in4 0xFFFF5EB0 ∧
    in5 0x5EB1 ∧
    in6 0x19 ∧
    in7 0x16 ∧
    in8 0xFFFFFFFF := by
  refine ⟨?_, ?_, ?_, ?_, ?_, ?_, ?_, ?_, ?_, ?_, ?_, ?_, ?_, ?_, ?_⟩ <;> decide +kernel

end W_RegisterWrites

namespace W_PatternWindow

abbrev reach (o : BitVec 19) (d : Dev) : Prop := d.r F.GR_CTL_CPUWIN ≠ 0 ∧ (d.pl (o.toNat / 1024)).pin = false ∧ useOf d (o.toNat / 1024) = false
abbrev filled (o : BitVec 19) (d : Dev) : Prop := (d.pl (o.toNat / 1024)).st = .resident
abbrev in2 (o : BitVec 19) (d : Dev) : Prop :=
  ¬ (reach o) d
abbrev in3 (o : BitVec 19) (d : Dev) : Prop :=
  (reach o) d
abbrev in7 (o : BitVec 19) (d : Dev) : Prop :=
  ((reach o) d)
abbrev in8 (o : BitVec 19) (d : Dev) : Prop :=
  (¬ (reach o) d)
abbrev in0 (o : BitVec 19) (d : Dev) : Prop :=
  (reach o) d ∧ (filled o) d
abbrev in1 (o : BitVec 19) (d : Dev) : Prop :=
  (reach o) d ∧ ¬ (filled o) d
abbrev in6 (o : BitVec 19) (d : Dev) : Prop :=
  ((reach o) d) ∧ ((filled o) d)

theorem witness_PatternWindow :
    in2 0x7FFFF (live.store 4 0x3007FFFC 9) ∧
    in2 0x7FFFF (ws [(F.GR_CTL_CPUWIN, 1)] { live with gr := { plots := [(511, { pin := true })] } }) ∧
    in3 0x7FFFF (ws [(F.GR_CTL_CPUWIN, 1)] (live.store 4 0x3007FFFC 9)) ∧
    in2 0x7FFFF (live.store 4 0x3007FFFC 9) ∧
    in3 0x7FFFF (ws [(F.GR_CTL_CPUWIN, 1)] (live.store 4 0x3007FFFC 9)) ∧
    in7 0x7FFFF (ws [(F.GR_CTL_CPUWIN, 1)] (live.store 4 0x3007FFFC 9)) ∧
    in8 0x7FFFF (live.store 4 0x3007FFFC 9) ∧
    in8 0x7FFFF (live.store 4 0x3007FFFC 9) ∧
    in0 0x7FFFF (ws [(F.GR_CTL_CPUWIN, 1)] { live.store 4 0x3007FFFC 9 with gr := { plots := [(511, { st := .resident })] } }) ∧
    in1 0x7FFFF (ws [(F.GR_CTL_CPUWIN, 1)] (live.store 4 0x3007FFFC 9)) ∧
    in6 0x7FFFF (ws [(F.GR_CTL_CPUWIN, 1)] { live.store 4 0x3007FFFC 9 with gr := { plots := [(511, { st := .resident })] } }) := by
  refine ⟨?_, ?_, ?_, ?_, ?_, ?_, ?_, ?_, ?_, ?_, ?_⟩ <;> decide +kernel

end W_PatternWindow

namespace W_Queues

abbrev met (i : Fin 2) (d : Dev) : Option QCycle := (Tab.get? d.qp i.val).bind fun c => if c.cyc = (d.ns + d.ck.phase) / 4 then some c else none
abbrev calm (i : Fin 2) (d : Dev) : Prop := (d.q i).waits = [] ∧ (d.q i).hold = none
abbrev past (n t : Nat) (d : Dev) : Prop := (t + d.ck.phase) / n < (d.ns + d.ck.phase) / n
abbrev apart (i : Fin 2) (d : Dev) : Prop := ∀ c ∈ met i d, c.pop.isSome = true ∨ c.push = none ∨ c.was.words.length < qCap i
abbrev in0 (i : Fin 2) (w : QWord) (r : List QWord) (d : Dev) : Prop :=
  apart i d ∧ calm i d ∧ (d.q i).words = w :: r ∧ qVisible (d.q i) ≠ 0
abbrev in2 (i : Fin 2) (d : Dev) : Prop :=
  apart i d ∧ qVisible (d.q i) = 0 ∧ d.r (F.Q_TMO_TMO i) = 0
abbrev in4 (i : Fin 2) (p : QWait) (a : List QWait) (r : List QWait) (d : Dev) : Prop :=
  d.awake = true ∧ (d.q i).waits = a ++ p :: r ∧ (∀ x ∈ a, ¬ past 4 x.deadline d) ∧ past 4 p.deadline d
abbrev in5 (i : Fin 2) (d : Dev) : Prop :=
  d.awake = false ∨ ∀ p ∈ (d.q i).waits, ¬ past 4 p.deadline d
abbrev in8 (i : Fin 2) (a : List QWord) (r : List QWord) (w : QWord) (d : Dev) : Prop :=
  ((∀ x ∈ a, x.eop = false)) ∧ (w.eop = true) ∧ (met i d = none ∧ calm i d ∧ (d.q i).words = a ++ w :: r)
abbrev in11 (i : Fin 2) (d : Dev) : Prop :=
  (d.q i).src ≠ 0 ∨ (d.q i).hold ≠ none
abbrev ontime (d : Dev) : Prop := (∀ e ∈ d.ua.lineEnd, ¬ past 8 e d) ∧ (d.r (F.Q_CTL_IDLE 0) = 0 ∨ ¬ past 4 (d.ua.lastNs + 1000 * d.r (F.Q_CTL_IDLE 0)) d)
abbrev hears (d : Dev) : Prop := d.r F.UA_CTL_RXEN = 1 ∧ d.ck.host = true ∧ d.ua.wakeDrop = false ∧ d.ua.rx = [] ∧ ontime d
abbrev inLine (d : Dev) : Prop := calm 0 d ∧ d.q0.src = 1 ∧ d.q0.discard = false
abbrev in15 (c : Byte) (d : Dev) : Prop :=
  (c ≠ 13) ∧ (c ≠ 10) ∧ (hears d ∧ d.q0.src = 0 ∧ d.q0.hold = none ∧ d.q0.staged = [])
abbrev in16 (c : Byte) (d : Dev) : Prop :=
  (c ≠ 13) ∧ (c ≠ 10) ∧ (hears d ∧ inLine d ∧ d.q0.half.length < 3)
abbrev in17 (d : Dev) : Prop :=
  hears d ∧ inLine d ∧ d.q0.half.length < 3
abbrev in18 (d : Dev) : Prop :=
  d.ua.wakeDrop = false ∧ (d.r F.UA_CTL_RXEN = 0 ∨ d.ck.host = false)
abbrev in19 (d : Dev) : Prop :=
  d.ua.wakeDrop = true
abbrev in20 (d : Dev) : Prop :=
  hears d ∧ inLine d ∧ d.q0.half.length < 4 ∧ d.q0.words.length < 256
abbrev in21 (d : Dev) : Prop :=
  hears d ∧ d.ua.lastCr = true
abbrev noLine (d : Dev) : Prop := d.r F.SYS_BOOT_LSTATE = 4 ∨ (d.st.out = [] ∧ d.st.store = [])
abbrev in28 (d : Dev) : Prop :=
  noLine d
abbrev in29 (c : Nat) (r : List Nat) (d : Dev) : Prop :=
  noLine d ∧ d.awake = true ∧ d.ck.silent = false ∧ d.r F.UA_CTL_TXEN = 1 ∧ d.ua.tx = c :: r
abbrev in31 (m : Nat) (line : List Nat) (d : Dev) : Prop :=
  d.r F.SYS_BOOT_LSTATE ≠ 4 ∧ d.st.out = [(1, m, line)] ∧ d.st.store = [] ∧ d.ck.silent = false ∧
         d.ua.tx.length + line.length ≤ 2048
abbrev in32 (d : Dev) : Prop :=
  d.ua.tx.length < 2048
abbrev in33 (d : Dev) : Prop :=
  2048 ≤ d.ua.tx.length
abbrev in1 (i : Fin 2) (d : Dev) : Prop :=
  apart i d ∧ qVisible (d.q i) = 0 ∧ d.r (F.Q_TMO_TMO i) ≠ 0
abbrev in6 (i : Fin 2) (d : Dev) : Prop :=
  met i d = none
abbrev in9 (i : Fin 2) (d : Dev) : Prop :=
  met i d = none ∧ (d.q i).waits = [] ∧ (∀ w ∈ (d.q i).words, w.eop = false)
abbrev in12 (s : Nat) (b : List Nat) (d : Dev) : Prop :=
  (2 ≤ s) ∧ (s ≤ 8) ∧ (d.q1.src = 0 ∧ d.q1.hold = none ∧ d.q1.staged = [(s, b)])
abbrev in13 (a : Nat) (b : Nat) (x : List Nat) (y : List Nat) (d : Dev) : Prop :=
  (2 ≤ a) ∧ (a ≤ 8) ∧ (2 ≤ b) ∧ (b ≤ 8) ∧ (a ≠ b) ∧ (d.q1.src = 0 ∧ d.q1.hold = none ∧ d.q1.lastSrc = a ∧ d.q1.staged = [(a, x), (b, y)])
abbrev in14 (d : Dev) (b : Nat) (r : List Nat) : Prop :=
  (d.ck.ladder = .run) ∧ ((d.ns + 1 + d.ck.phase) % 4 = 0) ∧ (d.q0.left = []) ∧ (calm 1 d) ∧ (d.q1.left = b :: r) ∧ (d.q1.discard = false) ∧ (d.q1.broken = false) ∧ (d.q1.words.length < 128) ∧ (d.q1.half.length < 4) ∧ ((r = [] ∨ d.q1.half.length = 3))
abbrev in3 (i : Fin 2) (e : Dev) (w : QWord) (r : List QWord) (b : List Nat) (d : Dev) : Prop :=
  ((e.q i).words = w :: r) ∧ (r.length + 1 = qCap i) ∧ ((e.q i).src ≠ 0) ∧ ((e.q i).seen = true) ∧ ((e.q i).broken = false) ∧ ((e.q i).discard = false) ∧ calm i e ∧ (e.r (F.Q_STAT_OVR i) < 2) ∧ (e.r (F.Q_LOST_WORDS i) < 2 ^ (F.Q_LOST_WORDS i).width) ∧ (met i d = some { qFresh i e with push := some (b, false) } ∧ (d.q i).src = (e.q i).src)
abbrev in7 (i : Fin 2) (e : Dev) (w : QWord) (r : List QWord) (d : Dev) : Prop :=
  ((e.q i).words = w :: r) ∧ (met i d = some { qFresh i e with pop := some none } ∧ (d.q i).src = (e.q i).src ∧ d.r (F.Q_TMO_TMO i) = 0 ∧
          (∀ p ∈ (e.q i).waits, p.load = none))
abbrev idles (d : Dev) : Prop := inLine d ∧ d.q0.half ≠ [] ∧ d.r (F.Q_CTL_IDLE 0) ≠ 0 ∧ past 4 (d.ua.lastNs + 1000 * d.r (F.Q_CTL_IDLE 0)) d
abbrev in22 (d : Dev) : Prop :=
  idles d ∧ d.q0.broken = false ∧ d.q0.words.length < 256
abbrev in23 (d : Dev) : Prop :=
  idles d ∧ d.q0.broken = false ∧ d.q0.words.length = 256
abbrev in24 (d : Dev) : Prop :=
  idles d ∧ d.q0.broken = true ∧ d.q0.words.length < 256
abbrev in25 (d : Dev) : Prop :=
  d.r (F.Q_CTL_IDLE 0) = 0 ∨ ¬ past 4 (d.ua.lastNs + 1000 * d.r (F.Q_CTL_IDLE 0)) d
abbrev in26 (e : Nat) (d : Dev) : Prop :=
  inLine d ∧ d.ua.rx = [] ∧ d.ua.lineEnd = some e ∧ past 8 e d ∧ d.q0.half.length < 4 ∧ d.q0.words.length < 256
abbrev in27 (e : Nat) (d : Dev) : Prop :=
  d.ua.lineEnd = some e ∧ ¬ past 8 e d
abbrev in30 (d : Dev) : Prop :=
  noLine d ∧ (d.awake = false ∨ d.ck.silent = true ∨ d.r F.UA_CTL_TXEN = 0)

theorem witness_Queues_0 :
    in0 1 (⟨77, 1, true, true, false, 7⟩) ([⟨78, 0, true, false, true, 2⟩]) ({ live with q1 := { words := [⟨77, 1, true, true, false, 7⟩, ⟨78, 0, true, false, true, 2⟩] } }) ∧
    in0 0 (⟨77, 0, false, false, false, 7⟩) ([]) ({ live with q0 := { words := [⟨77, 0, false, false, false, 7⟩], src := 1, seen := true, openIn := 1 } }) ∧
    in2 1 (live.w (F.Q_TMO_TMO 1) 0) ∧
    in4 1 (⟨none, 500⟩) ([]) ([⟨some 3, 800⟩]) ({ live with q1 := { waits := [⟨none, 500⟩, ⟨some 3, 800⟩] }, ns := 504 }) ∧
    in4 1 (⟨some 3, 500⟩) ([⟨none, 600⟩]) ([]) ({ cpu with q1 := { waits := [⟨none, 600⟩, ⟨some 3, 500⟩] }, ns := 504, co := { cpu.co with loads := [⟨3, 0x40005004, 9, 4, false, true, none⟩] } }) ∧
    in5 1 ({ live with q1 := { waits := [⟨none, 500⟩] }, ns := 499 }) ∧
    in8 1 ([⟨5, 0, true, false, false, 1⟩]) ([⟨78, 0, true, false, true, 2⟩]) (⟨77, 1, true, true, false, 7⟩) ({ live with q1 := { words := [⟨5, 0, true, false, false, 1⟩, ⟨77, 1, true, true, false, 7⟩, ⟨78, 0, true, false, true, 2⟩] } }) ∧
    in11 1 ({ live with q1 := { src := 2, staged := [(3, [1])] } }) ∧
    in15 65 (ws [(F.UA_CTL_RXEN, 1)] { live with ns := 7 }) ∧
    in16 65 (ws [(F.UA_CTL_RXEN, 1), (F.UA_CTL_LTMO, 3)] { live with ns := 7, q0 := { src := 1, half := [0x20, 66] } }) ∧
    in17 (ws [(F.UA_CTL_RXEN, 1)] { live with ns := 7, q0 := { src := 1, half := [0x20, 66] } }) ∧
    in18 (ws [(F.UA_CTL_RXEN, 0)] live) ∧
    in19 (ws [(F.UA_CTL_RXEN, 1)] { live with ua := { wakeDrop := true } }) ∧
    in20 (ws [(F.UA_CTL_RXEN, 1)] { live with q0 := { src := 1, half := [0x20, 66, 67] } }) ∧
    in20 (ws [(F.UA_CTL_RXEN, 1)] { live with q0 := { src := 1, half := [], nDone := 1, words := List.replicate 255 ⟨5, 0, true, false, false, 1⟩ } }) ∧
    in21 (ws [(F.UA_CTL_RXEN, 1)] { live with ua := { lastCr := true } }) ∧
    in28 live ∧
    in29 65 ([66]) (ws [(F.UA_CTL_TXEN, 1)] { live with ua := { tx := [65, 66] } }) ∧
    in31 0 ([65, 13, 10]) ({ live with st := { out := [(1, 0, [65, 13, 10])] }, ua := { tx := List.replicate 2045 1 } }) ∧
    in32 ({ live with ua := { tx := List.replicate 2047 1 } }) ∧
    in33 ({ live with ua := { tx := List.replicate 2048 1 } }) ∧
    in1 1 (live.w (F.Q_TMO_TMO 1) 3) ∧
    in5 1 ({ live with q1 := { waits := [⟨none, 500⟩] }, ns := 503 }) ∧
    in5 1 ({ live with ck := { live.ck with ladder := .nap }, q1 := { waits := [⟨none, 500⟩] }, ns := 5000 }) ∧
    in6 1 ({ live with q1 := { words := [⟨77, 1, true, true, false, 7⟩], src := 2, half := [3] } }) ∧
    in9 1 ({ live with q1 := { words := [⟨5, 0, true, false, false, 1⟩], src := 2, half := [3], hold := some ⟨5, 0, true, false, false, 1⟩ } }) ∧
    in12 2 ([1, 2]) ({ live with q1 := { lastSrc := 2, staged := [(2, [1, 2])] } }) ∧
    in12 8 ([1, 2]) ({ live with q1 := { staged := [(8, [1, 2])] } }) ∧
    in13 2 8 ([1, 2]) ([3, 4, 5]) ({ live with q1 := { lastSrc := 2, staged := [(2, [1, 2]), (8, [3, 4, 5])] } }) ∧
    in13 8 2 ([1, 2]) ([3, 4, 5]) ({ live with q1 := { lastSrc := 8, staged := [(8, [1, 2]), (2, [3, 4, 5])] } }) ∧
    in14 ({ live with ns := 3, q1 := { left := [65], src := 2, seen := true, half := [0x20] } }) 65 ([]) ∧
    in14 ({ live with ns := 3, q1 := { left := [65, 66], src := 2, half := [0x20, 1, 2] } }) 65 ([66]) ∧
    in3 1 ({ live with ns := 10, q1 := { words := List.replicate 128 ⟨5, 0, true, false, false, 2⟩, src := 2, nDone := 3, seen := true } }) (⟨5, 0, true, false, false, 2⟩) (List.replicate 127 ⟨5, 0, true, false, false, 2⟩) ([1, 2, 3, 4]) ((let e : Dev := { live with ns := 10, q1 := { words := List.replicate 128 ⟨5, 0, true, false, false, 2⟩, src := 2, nDone := 3, seen := true } }; { ({ e with q1 := { e.q1 with broken := true } } : Dev).w (F.Q_STAT_OVR 1) 1 with qp := [(1, { qFresh 1 e with push := some ([1, 2, 3, 4], false) })] })) ∧
    in7 1 ({ live with ns := 10, q1 := { words := [⟨5, 0, true, false, false, 2⟩] } }) (⟨5, 0, true, false, false, 2⟩) ([]) ((let e : Dev := { live with ns := 10, q1 := { words := [⟨5, 0, true, false, false, 2⟩] } }; { live.w (F.Q_TMO_TMO 1) 0 with ns := 10, qp := [(1, { qFresh 1 e with pop := some none })] })) ∧
    in18 (ws [(F.UA_CTL_RXEN, 1)] { live with ck := { live.ck with host := false } }) ∧
    in22 (ws [(F.Q_CTL_IDLE 0, 2)] { live with ns := 2004, q0 := { src := 1, half := [0x20] } }) ∧
    in23 (ws [(F.Q_CTL_IDLE 0, 2)] { live with ns := 2004, q0 := { src := 1, half := [0x20], words := List.replicate 256 ⟨5, 0, true, true, false, 1⟩ } }) ∧
    in24 (ws [(F.Q_CTL_IDLE 0, 2)] { live with ns := 2004, q0 := { src := 1, half := [0x20], broken := true } }) ∧
    in25 (ws [(F.Q_CTL_IDLE 0, 2)] { live with ns := 2003, q0 := { src := 1, half := [0x20] } }) ∧
    in26 5000 ({ live with ns := 5008, q0 := { src := 1, half := [0x20] }, ua := { lineEnd := some 5000 } }) := by
  refine ⟨?_, ?_, ?_, ?_, ?_, ?_, ?_, ?_, ?_, ?_, ?_, ?_, ?_, ?_, ?_, ?_, ?_, ?_, ?_, ?_, ?_, ?_, ?_, ?_, ?_, ?_, ?_, ?_, ?_, ?_, ?_, ?_, ?_, ?_, ?_, ?_, ?_, ?_, ?_, ?_⟩ <;> decide +kernel

theorem witness_Queues_1 :
    in27 5000 ({ live with ns := 5007, q0 := { src := 1, half := [0x20] }, ua := { lineEnd := some 5000 } }) ∧
    in28 ({ image with st := { out := [(1, 0, [65])] } }) ∧
    in29 65 ([66]) (ws [(F.UA_CTL_TXEN, 1)] { live with ua := { tx := [65, 66] }, st := { wait := some ({ path := 1 }, .leave false 2) } }) ∧
    in30 ({ live with ua := { tx := [65, 66] } }) := by
  refine ⟨?_, ?_, ?_, ?_⟩ <;> decide +kernel

end W_Queues

namespace W_FramesTunnelsAndLedger

abbrev via : Via := ⟨1, none, 0⟩
abbrev may (d : Dev) : Prop := LineReady via d ∧ started d = false ∧ bootPath d = 2 ∧ d.st.machS = false
abbrev in1 (text : Bytes) (line : Bytes) (d : Dev) : Prop :=
  ((Bytes.nats text).all charOk = true) ∧ (text.length ≤ 230) ∧ (Bytes.nats line = ascii "HELLO" ++ 32 :: Bytes.nats text) ∧ (may d ∧ d.r F.SYS_BOOT_LSTATE < 4 ∧ lineArgs "HELLO" "HELLO" text = some ⟨[], []⟩)
abbrev head (tag : Nat) (n : Nat) (chunk : List Nat) : List Nat := leBytes 2 tag ++ leBytes 3 0 ++ leBytes 2 n ++ chunk
abbrev free (d : Dev) : Prop := monitorUp d = true ∧ d.r F.SYS_BOOT_LSTATE < 4 ∧ bootPath d = 2 ∧ responding d = false ∧ monitorLife d ≠ 3 ∧
      d.st.machS = false ∧ d.st.out = [] ∧ d.st.store = [] ∧ d.sp.tx = []
abbrev in2 (tag : Nat) (n : Nat) (chunk : List Nat) (frame : Bytes) (d : Dev) : Prop :=
  (0 < n) ∧ (n < 256) ∧ (chunk.length = n) ∧ ((∀ b ∈ chunk, b < 256)) ∧ (tag < 65536) ∧ (Bytes.nats frame = (head tag n chunk) ++ leBytes 4 (crc32 (0x4C :: (head tag n chunk)))) ∧ (free d ∧ d.r F.SYS_BLEN_N = 0 ∧ d.bt.header = [])
abbrev in3 (tag : Nat) (n : Nat) (chunk : List Nat) (frame : Bytes) (bad : Nat) (d : Dev) : Prop :=
  (0 < n) ∧ (n < 256) ∧ (chunk.length = n) ∧ ((∀ b ∈ chunk, b < 256)) ∧ (tag < 65536) ∧ (bad < 2 ^ 32) ∧ (bad ≠ crc32 (0x4C :: (head tag n chunk))) ∧ (Bytes.nats frame = (head tag n chunk) ++ leBytes 4 bad) ∧ free d
abbrev may2 (via : Via) (i : Fin 16) (n : List Nat) (d : Dev) : Prop := LineReady via d ∧ d.st.names[i.val]? = some n ∧ resolve d n = .ok (.registered i)
abbrev in4 (via : Via) (i : Fin 16) (text : Bytes) (n : List Nat) (ts : List (List Nat)) (x : List (List Nat) × List (List Nat × List Nat)) (d : Dev) : Prop :=
  (tokens (n ++ 32 :: Bytes.nats text) = some (n :: ts)) ∧ (splitArgs ts = some x) ∧ (n.contains 61 = false) ∧ ((may2 via i n) d ∧ started d = true)
abbrev in5 (via : Via) (i : Fin 16) (text : Bytes) (n : List Nat) (ts : List (List Nat)) (x : List (List Nat) × List (List Nat × List Nat)) (d : Dev) : Prop :=
  (tokens (n ++ 32 :: Bytes.nats text) = some (n :: ts)) ∧ (splitArgs ts = some x) ∧ (n.contains 61 = false) ∧ ((may2 via i n) d ∧ d.r F.SYS_BOOT_LSTATE = 5)
abbrev ended (w : Tunnel) (x : Nat) (d : Dev) : Prop := d.st.tun = some w ∧ w.stop = some x ∧ (x + d.ck.aphase) / 1000 < (d.ns + d.ck.aphase) / 1000 ∧ w.came = false
abbrev in6 (w : Tunnel) (x : Nat) (d : Dev) : Prop :=
  (ended w x) d ∧ d.r F.SYS_BOOT_LSTATE ≠ 4 ∧ w.ctx.path = 1 ∧ w.ctx.frame = false ∧
        d.st.machU = false ∧ d.st.out = [] ∧ d.st.store = [] ∧ d.ua.tx = [] ∧ d.ck.silent = false
abbrev in7 (w : Tunnel) (x : Nat) (d : Dev) : Prop :=
  (ended w x) d ∧ d.r F.SYS_BOOT_LSTATE = 4
abbrev in8 (w : Tunnel) (d : Dev) : Prop :=
  d.st.tun = some w ∧ w.dead = false ∧ (∀ y ∈ w.stop, (d.ns + d.ck.aphase) / 1000 ≤ (y + d.ck.aphase) / 1000)
abbrev may3 (via : Via) (text : Bytes) (verb : String) (d : Dev) : Prop := LineReady via d ∧ started d = true ∧ lineArgs ("LEDGER " ++ verb) "LEDGER" text = some ⟨[ascii verb], []⟩
abbrev free2 (d : Dev) : Prop := d.lg.commit = none ∧ d.r (F.SP_ID_PRESENT 0) ≠ 0
abbrev in9 (via : Via) (text : Bytes) (d : Dev) : Prop :=
  (may3 via text) "SHOW" d ∧ d.r F.SYS_BOOT_LSTATE ≠ 5
abbrev in10 (via : Via) (text : Bytes) (d : Dev) : Prop :=
  (may3 via text) "SAVE" d ∧ d.r F.SYS_BOOT_LSTATE ≠ 5 ∧ free2 d ∧ (saveBody d).length ≤ 65504
abbrev in12 (via : Via) (text : Bytes) (d : Dev) : Prop :=
  (may3 via text) "SAVE" d ∧ d.r F.SYS_BOOT_LSTATE ≠ 5 ∧ d.lg.commit ≠ none
abbrev in13 (via : Via) (text : Bytes) (d : Dev) : Prop :=
  (may3 via text) "SAVE" d ∧ d.r F.SYS_BOOT_LSTATE ≠ 5 ∧ d.lg.commit = none ∧ d.r (F.SP_ID_PRESENT 0) = 0
abbrev in14 (via : Via) (text : Bytes) (d : Dev) : Prop :=
  (may3 via text) "LOAD" d ∧ d.r F.SYS_BOOT_LSTATE ≠ 5 ∧ free2 d ∧ d.sp.held = none ∧ d.sp.cq = [] ∧ d.sp.feed = []
abbrev in15 (via : Via) (text : Bytes) (d : Dev) : Prop :=
  (may3 via text) "LOAD" d ∧ d.r F.SYS_BOOT_LSTATE ≠ 5 ∧ d.lg.commit ≠ none
abbrev in16 (via : Via) (text : Bytes) (d : Dev) : Prop :=
  (may3 via text) "LOAD" d ∧ d.r F.SYS_BOOT_LSTATE ≠ 5 ∧ d.lg.commit = none ∧ d.r (F.SP_ID_PRESENT 0) = 0
abbrev mayStep (c : Commit) (d : Dev) : Prop := d.lg.commit = some c ∧ c.wto = false ∧ inWait d 0 = false ∧ ownPending d = false ∧ d.awake = true
abbrev whole (c : Commit) : List Nat := slotHeader c.seq c.body ++ c.body
abbrev queue (d : Dev) : Prop := d.sp.held = none ∧ d.sp.cq = [] ∧ d.sp.feed = []
abbrev in17 (c : Commit) (x : Nat × Nat × Nat) (r : List (Nat × Nat × Nat)) (d : Dev) : Prop :=
  (c.ops = x :: r) ∧ ((mayStep c) d ∧ queue d)
abbrev in18 (c : Commit) (d : Dev) : Prop :=
  (c.ops = []) ∧ (c.back = false) ∧ ((mayStep c) d ∧ queue d)
abbrev in19 (back : Bytes) (c : Commit) (d : Dev) : Prop :=
  (c.ops = []) ∧ (c.back = true) ∧ ((Bytes.nats back).take (whole c).length = (whole c)) ∧ (slotCheck (Bytes.nats back) = .valid) ∧ ((mayStep c) d ∧ d.r F.SYS_BOOT_LSTATE = 4)
abbrev in20 (c : Commit) (d : Dev) : Prop :=
  (mayStep c) d
abbrev in21 (c : Commit) (d : Dev) : Prop :=
  d.lg.commit = some c ∧ c.wto = true ∧ d.awake = true
abbrev in22 (c : Commit) (d : Dev) : Prop :=
  d.lg.commit = some c ∧ c.wto = false ∧ (inWait d 0 = true ∨ ownPending d = true)
abbrev in23 (d : Dev) : Prop :=
  d.lg.commit = none

theorem witness_FramesTunnelsAndLedger :
    in1 ([]) (str "HELLO ") slave ∧
    in2 65535 3 ([1, 2, 255]) (bts (leBytes 2 65535 ++ leBytes 3 0 ++ leBytes 2 3 ++ [1, 2, 255] ++ leBytes 4 (crc32 (0x4C :: (leBytes 2 65535 ++ leBytes 3 0 ++ leBytes 2 3 ++ [1, 2, 255]))))) slave ∧
    in3 65535 3 ([1, 2, 255]) (bts (leBytes 2 65535 ++ leBytes 3 0 ++ leBytes 2 3 ++ [1, 2, 255] ++ leBytes 4 5)) 5 slave ∧
    in4 uart 0 (str "a b=1") (ascii "FLASH") ([[97], [98, 61, 49]]) (([[97]], [([98], [49])])) ({ image with st := { names := [ascii "FLASH"] } }) ∧
    in5 uart 0 (str "a b=1") (ascii "FLASH") ([[97], [98, 61, 49]]) (([[97]], [([98], [49])])) (ws [(F.SYS_BOOT_LSTATE, 5)] { image with st := { names := [ascii "FLASH"] } }) ∧
    in6 (⟨{ path := 1 }, true, 3, 7, some 100000000, false, false⟩) 100000000 (ws [(F.SYS_BOOT_LSTATE, 5)] { live with ns := 100001000, st := { tun := some ⟨{ path := 1 }, true, 3, 7, some 100000000, false, false⟩ } }) ∧
    in7 (⟨{ path := 1 }, true, 3, 7, some 100000000, false, false⟩) 100000000 ({ image with ns := 100001000, st := { tun := some ⟨{ path := 1 }, true, 3, 7, some 100000000, false, false⟩ } }) ∧
    in8 (⟨{ path := 1 }, true, 3, 7, some 100000000, false, false⟩) ({ image with ns := 100000999, st := { tun := some ⟨{ path := 1 }, true, 3, 7, some 100000000, false, false⟩ } }) ∧
    in8 (⟨{ path := 1 }, true, 3, 7, none, false, false⟩) ({ image with ns := 100000999, st := { tun := some ⟨{ path := 1 }, true, 3, 7, none, false, false⟩ } }) ∧
    in9 uart ([]) ({ image with lg := { loaded := true, sel := some 1, selSeq := 7, selLen := 80, validB := true } }) ∧
    in10 uart ([]) (ws [(F.SP_ID_PRESENT 0, 1)] { image with lg := { loaded := true, standing := some 0, seq := 0xFFFFFFFF } }) ∧
    in12 uart ([]) ({ image with lg := { loaded := true, commit := some ⟨0, 1, [], [], false, false⟩ } }.w (F.SP_ID_PRESENT 0) 1) ∧
    in13 uart ([]) image ∧
    in14 uart ([]) (image.w (F.SP_ID_PRESENT 0) 1) ∧
    in15 uart ([]) ({ image with lg := { loaded := true, commit := some ⟨0, 1, [], [], false, false⟩ } }) ∧
    in16 uart ([]) image ∧
    in17 (⟨1, 5, [1, 2, 3, 4], [(0x20, 65536, 0), (0x02, 65568, 4)], false, false⟩) ((0x20, 65536, 0)) ([(0x02, 65568, 4)]) ({ image with lg := { loaded := true, commit := some ⟨1, 5, [1, 2, 3, 4], [(0x20, 65536, 0), (0x02, 65568, 4)], false, false⟩ } }) ∧
    in17 (⟨1, 5, [1, 2, 3, 4], [(0x02, 65568, 4)], false, false⟩) ((0x02, 65568, 4)) ([]) ({ image with lg := { loaded := true, commit := some ⟨1, 5, [1, 2, 3, 4], [(0x02, 65568, 4)], false, false⟩ } }) ∧
    in18 (⟨1, 5, List.replicate 400 7, [], false, false⟩) ({ image with lg := { loaded := true, commit := some ⟨1, 5, List.replicate 400 7, [], false, false⟩ } }) ∧
    in19 (bts (slotHeader 5 [])) (⟨1, 5, [], [], true, false⟩) ({ image with lg := { loaded := true, commit := some ⟨1, 5, [], [], true, false⟩ }, st := { wait := some ({ path := 1 }, .save) } }) ∧
    in20 (⟨1, 5, [], [], true, false⟩) ({ image with lg := { loaded := true, commit := some ⟨1, 5, [], [], true, false⟩ } }) ∧
    in21 (⟨1, 5, [], [], true, true⟩) ({ image with lg := { loaded := true, commit := some ⟨1, 5, [], [], true, true⟩ }, sp := { cq := [⟨0, 0, 0, some 3⟩] } }) ∧
    in22 (⟨1, 5, [], [], true, false⟩) ({ image with lg := { loaded := true, commit := some ⟨1, 5, [], [], true, false⟩ }, sp := { cq := [⟨0, 0, 0, some 3⟩] } }) ∧
    in22 (⟨1, 5, [], [], true, false⟩) ({ image with lg := { loaded := true, commit := some ⟨1, 5, [], [], true, false⟩ }, sp := { ww := [(0, ⟨5, 1, false⟩)] } }) ∧
    in23 image := by
  refine ⟨?_, ?_, ?_, ?_, ?_, ?_, ?_, ?_, ?_, ?_, ?_, ?_, ?_, ?_, ?_, ?_, ?_, ?_, ?_, ?_, ?_, ?_, ?_, ?_, ?_⟩ <;> decide +kernel

end W_FramesTunnelsAndLedger

theorem witness_FramesTunnelsAndLedger_line : (Bytes.nats (str "x")).all charOk = true ∧ Bytes.nats (str "HELLO x") = ascii "HELLO" ++ 32 :: Bytes.nats (str "x") ∧
    LineReady ⟨1, none, 0⟩ slave ∧ started slave = false ∧ bootPath slave = 2 ∧ slave.st.machS = false := by
  decide +kernel

theorem witness_FramesTunnelsAndLedger_long :
  let d := ws [(F.SP_ID_PRESENT 0, 1)] { image with gr := { pte := (List.range' 0 8192).map fun i => (i, (⟨true, false, 0, i⟩ : Pte)) } }
  (LineReady uart d ∧ started d = true ∧ lineArgs "LEDGER SAVE" "LEDGER" [] = some ⟨[ascii "SAVE"], []⟩ ∧ d.r F.SYS_BOOT_LSTATE ≠ 5 ∧
    d.lg.commit = none ∧ d.r (F.SP_ID_PRESENT 0) ≠ 0) ∧ 65504 < (saveBody d).length :=
⟨by decide +kernel, saveBody_long
  (fun f g hf hg => congrArg Pte.v (getD_listed (fun i => (⟨true, false, 0, i⟩ : Pte)) {} 8192 (256 * f + g) 0 (Nat.zero_le _) (by omega)))
  fun f hf => Bool.or_eq_true_iff.mpr (.inr (List.any_eq_true.mpr ⟨(256 * f, ⟨true, false, 0, 256 * f⟩),
    List.mem_map.mpr ⟨256 * f, List.mem_range'_1.mpr ⟨Nat.zero_le _, by omega⟩, rfl⟩, by simp⟩))⟩

namespace W_Services

abbrev may (d : Dev) : Prop := Due [1, 2, 3, 4, 5, 6, 7, 15] d ∧ d.co.wb = []
abbrev idle (d : Dev) : Prop := started d = true ∧ d.lg.loaded = true ∧ d.st.out = [] ∧ d.st.rose = [] ∧ d.st.opened = none ∧ d.st.tun = none ∧
    d.st.store = [] ∧ d.ck.silent = false
abbrev in0 (d : Dev) : Prop :=
  may d
abbrev in3 (d : Dev) : Prop :=
  may d ∧ (d.wr 1).toNat % 16 < 12 ∧ d.r F.KY_STAT_BUSY = 0 ∧ d.wr 2 = 0 ∧ blockOk d .r (d.wr 3).toNat (d.wr 4).toNat = true
abbrev in4 (d : Dev) : Prop :=
  may d ∧ 12 ≤ (d.wr 1).toNat % 16
abbrev in5 (d : Dev) : Prop :=
  may d ∧ (d.wr 1).toNat % 16 < 12 ∧ d.r F.KY_STAT_BUSY ≠ 0
abbrev in6 (d : Dev) : Prop :=
  may d ∧ (d.wr 1).toNat % 16 < 12 ∧ d.r F.KY_STAT_BUSY = 0 ∧ blockOk d .r (d.wr 3).toNat (d.wr 4).toNat = false
abbrev in7 (d : Dev) : Prop :=
  may d ∧ d.r F.KY_STAT_BUSY = 0 ∧ blockOk d .w (d.wr 2).toNat (d.wr 3).toNat = true
abbrev in8 (d : Dev) : Prop :=
  may d ∧ d.r F.KY_STAT_BUSY ≠ 0
abbrev named (x : List Nat) (d : Dev) : Prop := may d ∧ textAt d 13 (d.wr 1).toNat = some x
abbrev in9 (x : List Nat) (d : Dev) : Prop :=
  (named x) d ∧ nameForm x = true ∧ (allVerbs d).all (fun v => decide (v.2 ≠ upper x)) = true ∧ d.st.names.length < 32
abbrev in10 (x : List Nat) (d : Dev) : Prop :=
  (named x) d ∧ nameForm x = false
abbrev in11 (x : List Nat) (d : Dev) : Prop :=
  (named x) d ∧ nameForm x = true ∧ (allVerbs d).all (fun v => decide (v.2 ≠ upper x)) = true ∧ 32 ≤ d.st.names.length
abbrev in12 (d : Dev) : Prop :=
  may d ∧ d.st.opened = none
abbrev in13 (i : Nat) (c : Ctx) (d : Dev) : Prop :=
  (c.path = 1) ∧ (c.frame = false) ∧ (may d ∧ d.st.opened = some (i, c) ∧ d.wr 2 = 1 ∧ d.st.machU = false ∧
      d.st.wait = none ∧ d.st.tun = none ∧ d.st.out = [] ∧ d.st.store = [] ∧ d.ua.tx = [] ∧ d.ck.silent = false)
abbrev about (x : List Nat) (i : Nat) (d : Dev) : Prop := may d ∧ textAt d 241 (d.wr 1).toNat = some x ∧
      eventNames.findIdx? (fun n => decide (ascii n = x.takeWhile fun c => !isSep c)) = some i ∧ (eventForm (eventPath d) x d).length ≤ 240
abbrev in14 (x : List Nat) (i : Nat) (d : Dev) : Prop :=
  (about x i) d ∧ eventOn d i = true ∧ responding d = true ∧ d.st.store.length < 16
abbrev in15 (x : List Nat) (i : Nat) (d : Dev) : Prop :=
  (about x i) d ∧ eventOn d i = true ∧ 16 ≤ d.st.store.length
abbrev in16 (x : List Nat) (i : Nat) (d : Dev) : Prop :=
  (about x i) d ∧ eventOn d i = false
abbrev in17 (d : Dev) : Prop :=
  may d ∧ textAt d 241 (d.wr 1).toNat = none
abbrev up (win : BitVec 2) (d : Dev) : Dev := setWindow win.toNat d
abbrev in18 (win : BitVec 2) (d : Dev) : Prop :=
  may ((up win) d) ∧ blockOk ((up win) d) .w (d.wr 1).toNat 256 = false
abbrev in19 (win : BitVec 2) (d : Dev) : Prop :=
  may ((up win) d) ∧ blockOk ((up win) d) .w (d.wr 1).toNat 256 = true ∧ idle ((up win) d) ∧ d.st.wait = none ∧ d.q0.words = []
abbrev in24 (win : BitVec 2) (d : Dev) : Prop :=
  d.co.image = false ∧ monitorUp ((up win) d) = false
abbrev in25 (win : BitVec 2) (d : Dev) : Prop :=
  d.co.image = false ∧ monitorUp ((up win) d) = true ∧ started ((up win) d) = false ∧ d.st.out = [] ∧ d.st.rose = [] ∧
      d.st.opened = none ∧ d.st.wait = none ∧ d.st.tun = none ∧ d.st.store = [] ∧ d.q0.words = []
abbrev in21 (win : BitVec 2) (w : Tunnel) (d : Dev) : Prop :=
  (w.dead = true) ∧ (w.ctx.path = 1) ∧ (w.ctx.frame = false) ∧ (may ((up win) d) ∧ blockOk ((up win) d) .w (d.wr 1).toNat 256 = true ∧ started ((up win) d) = true ∧ d.lg.loaded = true ∧ d.st.out = [] ∧ d.st.rose = [] ∧
        d.st.opened = none ∧ d.st.store = [] ∧ d.ck.silent = false ∧ d.st.wait = none ∧ d.st.tun = some w ∧ d.st.machU = false ∧ d.ua.tx = [])
abbrev first (win : BitVec 2) (d : Dev) : Prop := may ((up win) d) ∧ blockOk ((up win) d) .w (d.wr 1).toNat 256 = true ∧ started ((up win) d) = true ∧ d.lg.loaded = false ∧
       d.st.out = [] ∧ d.st.rose = []
abbrev in22 (win : BitVec 2) (d : Dev) : Prop :=
  (first win) d ∧ d.lg.read = none ∧ ((up win) d).r (F.SP_ID_PRESENT 0) ≠ 0
abbrev in23 (win : BitVec 2) (d : Dev) : Prop :=
  (first win) d ∧ d.lg.read.isSome = true ∧ ownPending ((up win) d) = true

theorem witness_Services :
    in0 image ∧
    in0 (ws [(F.TP_STAT_LOOP, 1)] image) ∧
    in0 image ∧
    in3 (wregs [(1, 11), (2, 0), (3, 0x20000000), (4, 8), (5, 9)] image) ∧
    in3 (wregs [(1, 0), (2, 0), (3, 0x20000000), (4, 8), (5, 9)] image) ∧
    in4 (wregs [(1, 12)] image) ∧
    in5 (wregs [(1, 6)] (image.w F.KY_STAT_BUSY 1)) ∧
    in6 (wregs [(1, 3), (2, 0), (3, 0), (4, 8)] image) ∧
    in7 (wregs [(2, 0x20000000), (3, 256)] (image.w (F.KY_BUF_W 1) 0xA1B2C3D4)) ∧
    in8 (image.w F.KY_STAT_BUSY 1) ∧
    in9 (ascii "FLASH") (wregs [(1, 0x20000000)] (txt 0x20000000 "FLASH" image)) ∧
    in10 (ascii "1x") (wregs [(1, 0x20000000)] (txt 0x20000000 "1x" image)) ∧
    in11 (ascii "FLASH") (wregs [(1, 0x20000000)] (txt 0x20000000 "FLASH" { image with st := { names := List.replicate 32 [65] } })) ∧
    in12 image ∧
    in13 3 ({ path := 1 }) (wregs [(2, 1)] { image with st := { opened := some (3, { path := 1 }) } }) ∧
    in14 (ascii "FAULT x=1") 3 (wregs [(1, 0x20000000)] (txt 0x20000000 "FAULT x=1" { image with st := { opened := some (0, { path := 1 }) } })) ∧
    in15 (ascii "FAULT x=1") 3 (wregs [(1, 0x20000000)] (txt 0x20000000 "FAULT x=1" { image with st := { opened := some (0, { path := 1 }), store := List.replicate 16 [65] } })) ∧
    in16 (ascii "FAULT x=1") 3 (wregs [(1, 0x20000000)] (txt 0x20000000 "FAULT x=1" { image with st := { off := [3] } })) ∧
    in17 (wregs [(1, 3)] image) ∧
    in18 3 (wregs [(1, 3)] image) ∧
    in19 3 (wregs [(1, 0x20000000)] image) ∧
    in24 3 (Dev.reset) ∧
    in25 3 live ∧
    in21 3 (⟨{ path := 1 }, true, 3, 7, none, false, true⟩) (wregs [(1, 0x20000000)] { image with st := { tun := some ⟨{ path := 1 }, true, 3, 7, none, false, true⟩ } }) ∧
    in22 3 (wregs [(1, 0x20000000)] (ws [(F.SP_ID_PRESENT 0, 1)] { image with lg := {} })) ∧
    in23 3 (wregs [(1, 0x20000000)] { image with lg := { read := some ⟨true, [], []⟩ }, sp := { cq := [⟨0, 0, 0, some 3⟩] } }) := by
  refine ⟨?_, ?_, ?_, ?_, ?_, ?_, ?_, ?_, ?_, ?_, ?_, ?_, ?_, ?_, ?_, ?_, ?_, ?_, ?_, ?_, ?_, ?_, ?_, ?_, ?_, ?_⟩ <;> decide +kernel

end W_Services

theorem witness_Services_wait : (∀ y n, Long.save ≠ .leave y n) ∧ (∀ p r, Long.save ≠ .head p r) ∧ Long.save ≠ .ringUp ∧ Long.save ≠ .load ∧
    (fun d : Dev => Due [1, 2, 3, 4, 5, 6, 7, 15] d ∧ d.co.wb = [] ∧ blockOk d .w (d.wr 1).toNat 256 = true ∧ started d = true ∧ d.lg.loaded = true ∧ d.st.out = [] ∧
      d.st.rose = [] ∧ d.st.opened = none ∧ d.st.tun = none ∧ d.st.store = [] ∧ d.ck.silent = false ∧ d.st.wait = some ({ path := 1 }, .save) ∧ d.st.answer = none)
      (setWindow 3 (wregs [(1, 0x20000000)] { image with st := { wait := some ({ path := 1 }, .save) } })) := by
  refine ⟨fun _ _ => nofun, fun _ _ => nofun, nofun, nofun, ?_⟩
  decide +kernel

namespace W_VerbsOfTheMonitor

abbrev form : Form := ⟨[], [numKey "off" 0 (2 ^ 64) true, ⟨"d", .text, true⟩]⟩
abbrev a (args : List (List Nat × List Nat)) : Args := valsOf form ⟨[], args⟩
abbrev line (via : Via) (text : Bytes) (name verb : String) (pos : List (List Nat)) (d : Dev) : Prop := LineReady via d ∧ lineArgs name verb text = some ⟨pos, []⟩
abbrev may (d : Dev) : Prop := d.r F.SYS_BOOT_LSTATE < 4 ∧ monitorLife d ≠ 3
abbrev busyRing (d : Dev) : Prop := d.r F.SR_STAT_MASTER ≠ 0 ∧ d.r F.SR_MEM_MEM ≠ 0
abbrev sleeps (via : Via) (text : Bytes) (x : List Nat) (i : Nat) (d : Dev) : Prop := (line via text) "POWER" "POWER" [x] d ∧ d.r F.SYS_BOOT_LSTATE ≠ 5 ∧ isWord (["nap", "fallow", "dormant"].getD i "") x = true
abbrev in3 (via : Via) (text : Bytes) (x : List Nat) (d : Dev) : Prop :=
  (line via text) "MODE" "MODE" [x] d ∧ d.r F.SYS_BOOT_LSTATE ≠ 5 ∧ isWord "machine" x = true
abbrev in4 (via : Via) (text : Bytes) (x : List Nat) (d : Dev) : Prop :=
  (line via text) "MODE" "MODE" [x] d ∧ d.r F.SYS_BOOT_LSTATE ≠ 5 ∧ isWord "console" x = true
abbrev in20 (via : Via) (text : Bytes) (d : Dev) : Prop :=
  ((line via text) "RESET" "RESET" []) d
abbrev in21 (via : Via) (text : Bytes) (d : Dev) : Prop :=
  (line via text) "LOAD ABORT" "LOAD" [ascii "ABORT"] d ∧ started d = true
abbrev in22 (via : Via) (text : Bytes) (d : Dev) : Prop :=
  (line via text) "LOAD ABORT" "LOAD" [ascii "ABORT"] d ∧ d.r F.SYS_BOOT_LSTATE < 4 ∧ monitorLife d = 3
abbrev in0 (via : Via) (text : Bytes) (d : Dev) : Prop :=
  (line via text) "HELLO" "HELLO" [] d ∧ d.r F.SYS_BOOT_LSTATE ≠ 5
abbrev in1 (via : Via) (text : Bytes) (d : Dev) : Prop :=
  ((line via text) "IDENT" "IDENT" []) d
abbrev in2 (via : Via) (text : Bytes) (d : Dev) : Prop :=
  ((line via text) "STATUS" "STATUS" []) d
abbrev loads (via : Via) (text : Bytes) (args : List (List Nat × List Nat)) (d : Dev) : Prop := LineReady via d ∧ lineArgs "LOAD" "LOAD" text = some ⟨[], args⟩ ∧ may d ∧ Fits form ⟨[], args⟩
abbrev n (d : Dev) : Nat := d.r F.SYS_BLEN_N
abbrev len (d : Dev) : Nat := hdr d.bt.header 20 4
abbrev stored (args : List (List Nat × List Nat)) (bs : List Nat) (d : Dev) : Prop := (a args).num "off" + bs.length ≤ n d ∧ recordBytes d ((a args).num "off") bs.length = bs
abbrev in5 (via : Via) (text : Bytes) (args : List (List Nat × List Nat)) (bs : List Nat) (d : Dev) : Prop :=
  (b64Decode ((a args).bytes "d") = some bs) ∧ (bs ≠ []) ∧ (4 ≤ ((a args).bytes "d").length) ∧ (((a args).bytes "d").length ≤ 192) ∧ ((loads via text args) d ∧ (a args).num "off" = n d ∧ d.bt.header.length = n d ∧ n d + bs.length < 256)
abbrev in6 (via : Via) (text : Bytes) (args : List (List Nat × List Nat)) (bs : List Nat) (d : Dev) : Prop :=
  (b64Decode ((a args).bytes "d") = some bs) ∧ (bs ≠ []) ∧ (4 ≤ ((a args).bytes "d").length) ∧ (((a args).bytes "d").length ≤ 192) ∧ ((loads via text args) d ∧ (a args).num "off" = n d ∧ 256 ≤ n d ∧ d.bt.header.length = 256 ∧ n d + bs.length ≤ 256 + len d)
abbrev in7 (via : Via) (text : Bytes) (args : List (List Nat × List Nat)) (bs : List Nat) (d : Dev) : Prop :=
  (b64Decode ((a args).bytes "d") = some bs) ∧ (bs ≠ []) ∧ (4 ≤ ((a args).bytes "d").length) ∧ (((a args).bytes "d").length ≤ 192) ∧ ((loads via text args) d ∧ (stored args bs) d)
abbrev in8 (via : Via) (text : Bytes) (args : List (List Nat × List Nat)) (bs : List Nat) (d : Dev) : Prop :=
  (b64Decode ((a args).bytes "d") = some bs) ∧ (bs ≠ []) ∧ (4 ≤ ((a args).bytes "d").length) ∧ (((a args).bytes "d").length ≤ 192) ∧ ((loads via text args) d ∧ (a args).num "off" ≠ n d ∧ ¬(stored args bs) d)
abbrev in9 (via : Via) (text : Bytes) (args : List (List Nat × List Nat)) (d : Dev) : Prop :=
  (loads via text args) d ∧ b64Decode ((a args).bytes "d") = none
abbrev in10 (via : Via) (text : Bytes) (d : Dev) : Prop :=
  (line via text) "LOAD ABORT" "LOAD" [ascii "ABORT"] d ∧ may d
abbrev up (win : BitVec 2) (d : Dev) : Dev := setWindow win.toNat d
abbrev starts (via : Via) (text : Bytes) (win : BitVec 2) (pos : List (List Nat)) (d : Dev) : Prop := (line via text) "START" "START" pos ((up win) d) ∧ may ((up win) d)
abbrev in11 (via : Via) (text : Bytes) (win : BitVec 2) (d : Dev) : Prop :=
  ((starts via text win) []) d
abbrev in12 (via : Via) (text : Bytes) (x : List Nat) (win : BitVec 2) (d : Dev) : Prop :=
  (starts via text win) [x] d ∧ isWord "advance" x = true
abbrev in13 (via : Via) (text : Bytes) (win : BitVec 2) (d : Dev) : Prop :=
  (starts via text win) [] d ∧ d.r F.SYS_BOOT_LSTATE ≠ 3
abbrev in16 (via : Via) (text : Bytes) (x : List Nat) (i : Nat) (d : Dev) : Prop :=
  (i < 3) ∧ ((sleeps via text x) i) d
abbrev in17 (via : Via) (text : Bytes) (x : List Nat) (i : Nat) (d : Dev) : Prop :=
  (i < 3) ∧ (i < 2) ∧ ((sleeps via text x) i d ∧ i + 2 ≤ d.r F.CK_CFG_DEEPEST + 1 ∧ armedLadder d = 0 ∧ ¬busyRing d ∧ d.ck.ask = none)
abbrev in18 (via : Via) (text : Bytes) (x : List Nat) (i : Nat) (d : Dev) : Prop :=
  (i < 3) ∧ ((sleeps via text x) i d ∧ d.r F.CK_CFG_DEEPEST + 1 < i + 2)
abbrev in19 (via : Via) (text : Bytes) (x : List Nat) (d : Dev) : Prop :=
  (sleeps via text x) 2 d ∧ 3 ≤ d.r F.CK_CFG_DEEPEST ∧ armedLadder d = 0 ∧ ¬busyRing d ∧ d.ck.ask = none
abbrev in23 (via : Via) (d : Dev) : Prop :=
  pathOpen d (Via.ctx via).path = false
abbrev out (ls : List (List Nat)) (e : Nat) : List Nat := (ls ++ [if e = 0 then ascii "OK" else ascii "ER " ++ dec3 e ++ 32 :: errName e]).flatMap (· ++ [13, 10]) ++ ascii "FD> "
abbrev in24 (c : Ctx) (ls : List (List Nat)) (e : Nat) (d : Dev) : Prop :=
  (c.path = 1) ∧ (c.frame = false) ∧ (d.st.machU = false) ∧ (d.st.out = []) ∧ (d.st.store = []) ∧ (d.ck.silent = false) ∧ (e ≠ 43) ∧ (¬(60 ≤ e ∧ e ≤ 74)) ∧ (d.ua.tx.length + (out ls e).length ≤ 2048)

theorem witness_VerbsOfTheMonitor :
    in3 uart (str "machine") (ascii "machine") image ∧
    in4 uart (str "console") (ascii "console") image ∧
    in20 uart ([]) image ∧
    in21 uart ([]) image ∧
    in22 uart ([]) ({ live with ot := { fuses := [(168, 7, 0)] } }.w F.KY_LC_CODE 0xB3) ∧
    in0 uart ([]) image ∧
    in0 (⟨1, some 7, 0⟩) ([]) slave ∧
    in1 uart ([]) (ws [(F.SYS_BOOT_SNSERR, 1)] image) ∧
    in1 uart ([]) image ∧
    in2 uart ([]) image ∧
    in2 uart ([]) live ∧
    in5 uart (str "off=0 d=AAAB") ([(ascii "off", ascii "0"), (ascii "d", ascii "AAAB")]) ([0, 0, 1]) live ∧
    in6 uart (str "off=256 d=AAAB") ([(ascii "off", ascii "256"), (ascii "d", ascii "AAAB")]) ([0, 0, 1]) (ws [(F.SYS_BLEN_N, 256), (F.SYS_BOOT_LSTATE, 2)] { live with bt := { header := List.replicate 16 0 ++ [0, 0, 0, 16, 3, 0, 0, 0] ++ List.replicate 232 0 } }) ∧
    in6 uart (str "off=256 d=AAAB") ([(ascii "off", ascii "256"), (ascii "d", ascii "AAAB")]) ([0, 0, 1]) (ws [(F.SYS_BLEN_N, 256), (F.SYS_BOOT_LSTATE, 2)] { live with bt := { header := List.replicate 16 0 ++ [0, 0, 0, 16, 4, 0, 0, 0] ++ List.replicate 232 0 } }) ∧
    in7 uart (str "off=0 d=AAAB") ([(ascii "off", ascii "0"), (ascii "d", ascii "AAAB")]) ([0, 0, 1]) (ws [(F.SYS_BLEN_N, 3), (F.SYS_BOOT_LSTATE, 1)] { live with bt := { header := [0, 0, 1] } }) ∧
    in8 uart (str "off=1 d=AAAB") ([(ascii "off", ascii "1"), (ascii "d", ascii "AAAB")]) ([0, 0, 1]) live ∧
    in8 uart (str "off=0 d=AAAB") ([(ascii "off", ascii "0"), (ascii "d", ascii "AAAB")]) ([0, 0, 1]) (ws [(F.SYS_BLEN_N, 3), (F.SYS_BOOT_LSTATE, 1)] { live with bt := { header := [0, 0, 2] } }) ∧
    in9 uart (str "off=1 d=AA-B") ([(ascii "off", ascii "1"), (ascii "d", ascii "AA-B")]) live ∧
    in10 uart ([]) (ws [(F.SYS_BLEN_N, 3), (F.SYS_BOOT_LSTATE, 1)] { live with bt := { header := [0, 0, 1] } }) ∧
    in11 uart ([]) 0 live ∧
    in12 uart (str "advance") (ascii "advance") 3 live ∧
    in13 uart ([]) 0 (ws [(F.SYS_BLEN_N, 3), (F.SYS_BOOT_LSTATE, 1)] { live with bt := { header := [0, 0, 1] } }) ∧
    in16 uart (str "nap") (ascii "nap") 0 live ∧
    in16 uart (str "dormant") (ascii "dormant") 2 image ∧
    in17 uart (str "nap") (ascii "nap") 0 (ws [(F.CK_CFG_DEEPEST, 1)] image) ∧
    in17 uart (str "fallow") (ascii "fallow") 1 (ws [(F.CK_CFG_DEEPEST, 2)] image) ∧
    in18 uart (str "fallow") (ascii "fallow") 1 (ws [(F.CK_CFG_DEEPEST, 1)] image) ∧
    in18 uart (str "dormant") (ascii "dormant") 2 (ws [(F.CK_CFG_DEEPEST, 2)] image) ∧
    in19 uart (str "dormant") (ascii "dormant") (ws [(F.CK_CFG_DEEPEST, 3)] image) ∧
    in20 uart ([]) (ws [(F.SYS_BOOT_LSTATE, 5)] live) ∧
    in23 (⟨1, none, 0⟩) live ∧
    in24 ({ path := 1, tag := some 5 }) ([ascii "= x"]) 20 live ∧
    in24 ({ path := 1 }) ([]) 0 ({ live with ua := { tx := List.replicate 2040 0 } }) := by
  refine ⟨?_, ?_, ?_, ?_, ?_, ?_, ?_, ?_, ?_, ?_, ?_, ?_, ?_, ?_, ?_, ?_, ?_, ?_, ?_, ?_, ?_, ?_, ?_, ?_, ?_, ?_, ?_, ?_, ?_, ?_, ?_, ?_, ?_⟩ <;> decide +kernel

end W_VerbsOfTheMonitor

theorem witness_VerbsOfTheMonitor_start :
  let h := record
  let d := loaded
  let up := setWindow 3 d
  (LineReady uart up ∧ lineArgs "START" "START" [] = some ⟨[], []⟩ ∧ lineArgs "START" "START" (str "advance") = some ⟨[ascii "advance"], []⟩ ∧
    isWord "advance" (ascii "advance") = true ∧ up.r F.SYS_BOOT_LSTATE < 4 ∧ monitorLife up ≠ 3 ∧ d.r F.SYS_BOOT_LSTATE = 3 ∧ d.bt.header = h ∧
    headerOk h = true ∧ securityCount up 0 < hdr h 12 2 ∧ monitorLife up ≠ 0 ∧ windowMet up = true ∧ d.ot.job = none ∧ d.ot.wait = [] ∧ d.r F.OT_WIN_PEND = 0) ∧
  recordBytes up 256 (hdr h 20 4) = recordBody ∧
  ecVerify (hdrBytes h 128 64) (sha256 (h.take 192 ++ recordBody)) (hdrBytes h 192 64) = true ∧
  gcmTag (pathKey up imagePath) (hdrBytes h 28 12) (h.take 28) recordBody = hdrBytes h 40 16 :=
⟨by decide +kernel, by decide +kernel, record_signed, record_authentic.2⟩

namespace W_ParameterAndTraceVerbs

abbrev line (via : Via) (text : Bytes) (name verb : String) (t : Toks) (d : Dev) : Prop := LineReady via d ∧ started d = true ∧ lineArgs name verb text = some t
abbrev in3 (via : Via) (text : Bytes) (x : List Nat) (d : Dev) : Prop :=
  (line via text) "GET" "GET" ⟨[x], []⟩ d ∧ isWord "all" x = true
abbrev in6 (via : Via) (text : Bytes) (xs : List (List Nat)) (is : List Nat) (d : Dev) : Prop :=
  (traceNames true xs = some is) ∧ ((line via text) "TRACE ON" "TRACE" ⟨ascii "ON" :: xs, []⟩) d
abbrev in7 (via : Via) (text : Bytes) (xs : List (List Nat)) (is : List Nat) (d : Dev) : Prop :=
  (traceNames false xs = some is) ∧ ((line via text) "TRACE OFF" "TRACE" ⟨ascii "OFF" :: xs, []⟩) d
abbrev in8 (via : Via) (text : Bytes) (d : Dev) : Prop :=
  ((line via text) "TRACE SHOW" "TRACE" ⟨[ascii "SHOW"], []⟩) d

theorem witness_ParameterAndTraceVerbs :
    in3 uart (str "all") (ascii "all") image ∧
    in6 uart (str "miss") ([ascii "miss"]) ([2]) image ∧
    in7 uart (str "miss") ([ascii "miss"]) ([2]) image ∧
    in6 uart (str "miss") ([ascii "miss"]) ([2]) image ∧
    in6 uart (str "taint miss") ([ascii "taint", ascii "miss"]) ([0,2]) image ∧
    in7 uart (str "miss") ([ascii "miss"]) ([2]) image ∧
    in8 uart ([]) image := by
  refine ⟨?_, ?_, ?_, ?_, ?_, ?_, ?_⟩ <;> decide +kernel

end W_ParameterAndTraceVerbs

theorem witness_ParameterAndTraceVerbs_set :
    let form : Form := ⟨[], params.map fun p => ⟨p.name, p.kind, false⟩⟩
    let args := [(ascii "ltmo", ascii "255ms")]
    params.find? (fun p => (valsOf form ⟨[], args⟩).has p.name) = some ⟨"ltmo", .num .ms 0 255, F.UA_CTL_LTMO, id, dec⟩ ∧
      (valsOf form ⟨[], args⟩).keys.length = 1 ∧ LineReady uart image ∧ started image = true ∧ lineArgs "SET" "SET" (str "ltmo=255ms") = some ⟨[], args⟩ ∧
      Fits form ⟨[], args⟩ := by
  refine ⟨rfl, ?_⟩
  decide +kernel

theorem witness_ParameterAndTraceVerbs_setTakes :
    let form : Form := ⟨[], params.map fun p => ⟨p.name, p.kind, false⟩⟩
    let args := [(ascii "ltmo", ascii "255ms")]
    params.find? (fun p => (valsOf form ⟨[], args⟩).has p.name) = some ⟨"ltmo", .num .ms 0 255, F.UA_CTL_LTMO, id, dec⟩ ∧
      (valsOf form ⟨[], args⟩).keys.length = 1 ∧ LineReady uart image ∧ started image = true ∧ lineArgs "SET" "SET" (str "ltmo=255ms") = some ⟨[], args⟩ ∧
      Fits form ⟨[], args⟩ ∧
      ∀ y ∈ fldsAt F.UA_CTL_LTMO.addr, image.r y < 2 ^ y.width := by
  refine ⟨rfl, ?_⟩
  decide +kernel

theorem witness_ParameterAndTraceVerbs_get :
    params.find? (fun p => isWord p.name (ascii "ltmo")) = some ⟨"ltmo", .num .ms 0 255, F.UA_CTL_LTMO, id, dec⟩ ∧ isWord "all" (ascii "ltmo") = false ∧
      LineReady uart image ∧ started image = true ∧ lineArgs "GET" "GET" (str "ltmo") = some ⟨[ascii "ltmo"], []⟩ := by
  refine ⟨rfl, ?_⟩
  decide +kernel

namespace W_OtpVerbs

abbrev up (win : BitVec 2) (d : Dev) : Dev := setWindow win.toNat d
abbrev ready (via : Via) (text : Bytes) (args : List (List Nat × List Nat)) (name obj : String) (f : Form) (d : Dev) : Prop :=
      LineReady via d ∧ started d = true ∧ lineArgs name "OTP" text = some ⟨[ascii obj], args⟩ ∧ Fits f ⟨[], args⟩
abbrev at' (args : List (List Nat × List Nat)) (ks : List Key) : Args := valsOf ⟨[], ks⟩ ⟨[], args⟩
abbrev w : Form := ⟨[], [wordOrLock]⟩
abbrev burn : Form := ⟨[], [numKey "word" 0 511 true, numKey "data" 0 0xFFFFFFFF true]⟩
abbrev re : Form := ⟨[], [numKey "word" 0 511 true]⟩
abbrev rev : Form := ⟨[], [numKey "slot" 0 2 true]⟩
abbrev lock : Form := ⟨[], [numKey "wlk" 0 255, numKey "xlk" 0 255]⟩
abbrev ctr : Form := ⟨[], [wordKey "ctr" ctrNames true]⟩
abbrev bw (args : List (List Nat × List Nat)) : Nat := ((at' args) burn.keys).num "word"
abbrev bd (args : List (List Nat × List Nat)) : Nat := ((at' args) burn.keys).num "data"
abbrev rw (args : List (List Nat × List Nat)) : Nat := ((at' args) re.keys).num "word"
abbrev sl (args : List (List Nat × List Nat)) : Nat := ((at' args) rev.keys).num "slot"
abbrev lk (args : List (List Nat × List Nat)) : Nat := ((at' args) lock.keys).num "wlk" + 256 * ((at' args) lock.keys).num "xlk"
abbrev locks (args : List (List Nat × List Nat)) : Prop := ((at' args) lock.keys).has "wlk" = true ∨ ((at' args) lock.keys).has "xlk" = true
abbrev idle (d : Dev) : Prop := d.ot.job = none ∧ d.ot.wait = [] ∧ d.r F.OT_WIN_PEND = 0
abbrev free (x target : Nat) (d : Dev) : Prop := lifeCycle d ≠ 3 ∧ x / 64 ≠ 3 ∧ wlk d (x / 64) = false ∧ otReserved x = false ∧ otBead x = false ∧
      target &&& otReservedBits x = 0
abbrev left (x target : Nat) (d : Dev) : Nat := target &&& (0xFFFFFFFF ^^^ margl d x)
abbrev in0 (via : Via) (text : Bytes) (args : List (List Nat × List Nat)) (d : Dev) : Prop :=
  LineReady via d ∧ d.r F.SYS_BOOT_LSTATE ≠ 5 ∧ lineArgs "OTP READ" "OTP" text = some ⟨[ascii "READ"], args⟩ ∧
      Fits w ⟨[], args⟩
abbrev in15 (via : Via) (text : Bytes) (win : BitVec 2) (args : List (List Nat × List Nat)) (d : Dev) : Prop :=
  (ready via text args) "OTP BURN" "BURN" burn ((up win) d) ∧ windowMet ((up win) d) = false
abbrev in1 (via : Via) (text : Bytes) (args : List (List Nat × List Nat)) (d : Dev) : Prop :=
  (ready via text args) "OTP MARGIN" "MARGIN" w d ∧ idle d
abbrev in2 (via : Via) (text : Bytes) (args : List (List Nat × List Nat)) (d : Dev) : Prop :=
  (ready via text args) "OTP CHECK" "CHECK" ctr d ∧ idle d
abbrev in3 (via : Via) (text : Bytes) (args : List (List Nat × List Nat)) (d : Dev) : Prop :=
  (ready via text args) "OTP SENSE" "SENSE" ⟨[], []⟩ d ∧ args = [] ∧ idle d
abbrev in4 (via : Via) (text : Bytes) (win : BitVec 2) (args : List (List Nat × List Nat)) (d : Dev) : Prop :=
  (ready via text args) "OTP BURN" "BURN" burn ((up win) d) ∧ windowMet ((up win) d) = true ∧ idle d ∧ free (bw args) (bd args) d ∧ left (bw args) (bd args) d ≠ 0
abbrev in5 (via : Via) (text : Bytes) (win : BitVec 2) (args : List (List Nat × List Nat)) (d : Dev) : Prop :=
  (ready via text args) "OTP REBURN" "REBURN" re ((up win) d) ∧ windowMet ((up win) d) = true ∧ idle d ∧ free (rw args) (weakBits d (rw args)) d ∧ weakBits d (rw args) ≠ 0
abbrev in6 (via : Via) (text : Bytes) (win : BitVec 2) (args : List (List Nat × List Nat)) (d : Dev) : Prop :=
  (ready via text args) "OTP REVOKE" "REVOKE" rev ((up win) d) ∧ windowMet ((up win) d) = true ∧ idle d ∧ lifeCycle d ≠ 3 ∧ ctrFull d (11 + (sl args)) = false
abbrev in7 (via : Via) (text : Bytes) (win : BitVec 2) (args : List (List Nat × List Nat)) (d : Dev) : Prop :=
  (ready via text args) "OTP LOCK" "LOCK" lock ((up win) d) ∧ (locks args) ∧ windowMet ((up win) d) = true ∧ idle d ∧ lifeCycle d ≠ 3 ∧ left otLockWord (lk args) d ≠ 0
abbrev in8 (via : Via) (text : Bytes) (args : List (List Nat × List Nat)) (j : OtJob) (d : Dev) : Prop :=
  (ready via text args) "OTP MARGIN" "MARGIN" w d ∧ d.ot.job = some j
abbrev in9 (via : Via) (text : Bytes) (args : List (List Nat × List Nat)) (j : OtJob) (d : Dev) : Prop :=
  (ready via text args) "OTP CHECK" "CHECK" ctr d ∧ d.ot.job = some j
abbrev in10 (via : Via) (text : Bytes) (args : List (List Nat × List Nat)) (j : OtJob) (d : Dev) : Prop :=
  (ready via text args) "OTP SENSE" "SENSE" ⟨[], []⟩ d ∧ args = [] ∧ d.ot.job = some j
abbrev met (win : BitVec 2) (j : OtJob) (d : Dev) : Prop := windowMet ((up win) d) = true ∧ d.ot.job = some j
abbrev in11 (via : Via) (text : Bytes) (win : BitVec 2) (args : List (List Nat × List Nat)) (j : OtJob) (d : Dev) : Prop :=
  (ready via text args) "OTP BURN" "BURN" burn ((up win) d) ∧ (met win j) d
abbrev in12 (via : Via) (text : Bytes) (win : BitVec 2) (args : List (List Nat × List Nat)) (j : OtJob) (d : Dev) : Prop :=
  (ready via text args) "OTP REBURN" "REBURN" re ((up win) d) ∧ (met win j) d
abbrev in13 (via : Via) (text : Bytes) (win : BitVec 2) (args : List (List Nat × List Nat)) (j : OtJob) (d : Dev) : Prop :=
  (ready via text args) "OTP REVOKE" "REVOKE" rev ((up win) d) ∧ (met win j) d
abbrev in14 (via : Via) (text : Bytes) (win : BitVec 2) (args : List (List Nat × List Nat)) (j : OtJob) (d : Dev) : Prop :=
  (ready via text args) "OTP LOCK" "LOCK" lock ((up win) d) ∧ (locks args) ∧ (met win j) d
abbrev in16 (via : Via) (text : Bytes) (win : BitVec 2) (args : List (List Nat × List Nat)) (d : Dev) : Prop :=
  (ready via text args) "OTP REBURN" "REBURN" re ((up win) d) ∧ windowMet ((up win) d) = false
abbrev in17 (via : Via) (text : Bytes) (win : BitVec 2) (args : List (List Nat × List Nat)) (d : Dev) : Prop :=
  (ready via text args) "OTP REVOKE" "REVOKE" rev ((up win) d) ∧ windowMet ((up win) d) = false
abbrev in18 (via : Via) (text : Bytes) (win : BitVec 2) (args : List (List Nat × List Nat)) (d : Dev) : Prop :=
  (ready via text args) "OTP LOCK" "LOCK" lock ((up win) d) ∧ (locks args) ∧ windowMet ((up win) d) = false

theorem witness_OtpVerbs :
    in0 uart (str "word=511") ([(ascii "word", ascii "511")]) live ∧
    in15 uart (str "word=330 data=0xFF") 2 ([(ascii "word", ascii "330"), (ascii "data", ascii "0xFF")]) (ws [(F.OT_WIN_TEMPOK, 1)] image) ∧
    in1 uart (str "word=lock") ([(ascii "word", ascii "lock")]) image ∧
    in1 uart (str "word=330") ([(ascii "word", ascii "330")]) (ws [(F.OT_WIN_TEMPOK, 1)] { image with ot := { fuses := [(330, 0, 4)] } }) ∧
    in2 uart (str "ctr=rev2") ([(ascii "ctr", ascii "rev2")]) image ∧
    in3 uart ([]) ([]) ({ image with ot := { fuses := [(330, 0, 4), (7, 9, 0)] } }) ∧
    in4 uart (str "word=330 data=0xFF") 3 ([(ascii "word", ascii "330"), (ascii "data", ascii "0xFF")]) (ws [(F.OT_WIN_TEMPOK, 1)] image) ∧
    in4 uart (str "word=330 data=0xFF") 3 ([(ascii "word", ascii "330"), (ascii "data", ascii "0xFF")]) (ws [(F.OT_WIN_TEMPOK, 1)] { image with ot := { fuses := [(330, 0, 4)] } }) ∧
    in5 uart (str "word=330") 3 ([(ascii "word", ascii "330")]) (ws [(F.OT_WIN_TEMPOK, 1)] { image with ot := { fuses := [(330, 0, 4)] } }) ∧
    in6 uart (str "slot=2") 3 ([(ascii "slot", ascii "2")]) (ws [(F.OT_WIN_TEMPOK, 1)] image) ∧
    in7 uart (str "xlk=255") 3 ([(ascii "xlk", ascii "255")]) (ws [(F.OT_WIN_TEMPOK, 1)] image) ∧
    in8 uart (str "word=lock") ([(ascii "word", ascii "lock")]) ({ req := ⟨.sw,1,0,0,0,[]⟩ }) ((fun d : Dev => { d with ot := { d.ot with job := some { req := ⟨.sw,1,0,0,0,[]⟩ } } }) (ws [(F.OT_WIN_TEMPOK, 1)] image)) ∧
    in9 uart (str "ctr=rev2") ([(ascii "ctr", ascii "rev2")]) ({ req := ⟨.sw,1,0,0,0,[]⟩ }) ((fun d : Dev => { d with ot := { d.ot with job := some { req := ⟨.sw,1,0,0,0,[]⟩ } } }) (ws [(F.OT_WIN_TEMPOK, 1)] image)) ∧
    in10 uart ([]) ([]) ({ req := ⟨.sw,1,0,0,0,[]⟩ }) ((fun d : Dev => { d with ot := { d.ot with job := some { req := ⟨.sw,1,0,0,0,[]⟩ } } }) (ws [(F.OT_WIN_TEMPOK, 1)] image)) ∧
    in11 uart (str "word=330 data=0xFF") 3 ([(ascii "word", ascii "330"), (ascii "data", ascii "0xFF")]) ({ req := ⟨.sw,1,0,0,0,[]⟩ }) ((fun d : Dev => { d with ot := { d.ot with job := some { req := ⟨.sw,1,0,0,0,[]⟩ } } }) (ws [(F.OT_WIN_TEMPOK, 1)] image)) ∧
    in12 uart (str "word=330") 3 ([(ascii "word", ascii "330")]) ({ req := ⟨.sw,1,0,0,0,[]⟩ }) ((fun d : Dev => { d with ot := { d.ot with job := some { req := ⟨.sw,1,0,0,0,[]⟩ } } }) (ws [(F.OT_WIN_TEMPOK, 1)] image)) ∧
    in13 uart (str "slot=2") 3 ([(ascii "slot", ascii "2")]) ({ req := ⟨.sw,1,0,0,0,[]⟩ }) ((fun d : Dev => { d with ot := { d.ot with job := some { req := ⟨.sw,1,0,0,0,[]⟩ } } }) (ws [(F.OT_WIN_TEMPOK, 1)] image)) ∧
    in14 uart (str "xlk=255") 3 ([(ascii "xlk", ascii "255")]) ({ req := ⟨.sw,1,0,0,0,[]⟩ }) ((fun d : Dev => { d with ot := { d.ot with job := some { req := ⟨.sw,1,0,0,0,[]⟩ } } }) (ws [(F.OT_WIN_TEMPOK, 1)] image)) ∧
    in16 uart (str "word=330") 2 ([(ascii "word", ascii "330")]) (ws [(F.OT_WIN_TEMPOK, 1)] image) ∧
    in17 uart (str "slot=2") 2 ([(ascii "slot", ascii "2")]) (ws [(F.OT_WIN_TEMPOK, 1)] image) ∧
    in18 uart (str "xlk=255") 2 ([(ascii "xlk", ascii "255")]) (ws [(F.OT_WIN_TEMPOK, 1)] image) := by
  refine ⟨?_, ?_, ?_, ?_, ?_, ?_, ?_, ?_, ?_, ?_, ?_, ?_, ?_, ?_, ?_, ?_, ?_, ?_, ?_, ?_, ?_⟩ <;> decide +kernel

end W_OtpVerbs

namespace W_KeyVerbs

abbrev up (win : BitVec 2) (d : Dev) : Dev := setWindow win.toNat d
abbrev formed (via : Via) (text : Bytes) (args : List (List Nat × List Nat)) (name obj : String) (f : Form) (d : Dev) : Prop :=
      LineReady via d ∧ started d = true ∧ lineArgs name "KEY" text = some ⟨[ascii obj], args⟩ ∧ Fits f ⟨[], args⟩
abbrev ready (via : Via) (text : Bytes) (args : List (List Nat × List Nat)) (name obj : String) (f : Form) (d : Dev) : Prop := (formed via text args) name obj f d ∧ d.r F.KY_STAT_BUSY = 0
abbrev att : Form := ⟨[], [⟨"nonce", .b64 32, true⟩]⟩
abbrev esc : Form := ⟨[], [⟨"pub", .b64 64, true⟩, wordKey "lc" ["perso", "field"] true]⟩
abbrev slot : Form := ⟨[], [numKey "slot" 0 7 true]⟩
abbrev ret : Form := ⟨[], [numKey "confirm" 0 0xFFFFFFFF true]⟩
abbrev pub (args : List (List Nat × List Nat)) : List Nat := (valsOf esc ⟨[], args⟩).bytes "pub"
abbrev lc (args : List (List Nat × List Nat)) : Nat := lifeCode (1 + (valsOf esc ⟨[], args⟩).num "lc")
abbrev conf (args : List (List Nat × List Nat)) : Nat := (valsOf ret ⟨[], args⟩).num "confirm"
abbrev engine (win : BitVec 2) (d : Dev) : Prop := d.ot.job = none ∧ d.ot.wait = [] ∧ (d.r F.OT_WIN_PEND = 0 ∨ windowMet ((up win) d) = false)
abbrev in0 (via : Via) (text : Bytes) (args : List (List Nat × List Nat)) (d : Dev) : Prop :=
  ((ready via text args) "KEY ATTEST" "ATTEST" att) d
abbrev in2 (via : Via) (text : Bytes) (args : List (List Nat × List Nat)) (d : Dev) : Prop :=
  ((ready via text args) "KEY ESCROW" "ESCROW" esc) d
abbrev in4 (via : Via) (text : Bytes) (win : BitVec 2) (args : List (List Nat × List Nat)) (d : Dev) : Prop :=
  (ready via text args) "KEY INVAL" "INVAL" slot ((up win) d)
abbrev in6 (via : Via) (text : Bytes) (win : BitVec 2) (args : List (List Nat × List Nat)) (d : Dev) : Prop :=
  (ready via text args) "KEY PERSO" "PERSO" ⟨[], []⟩ ((up win) d)
abbrev in8 (via : Via) (text : Bytes) (win : BitVec 2) (args : List (List Nat × List Nat)) (d : Dev) : Prop :=
  (ready via text args) "KEY FIELD" "FIELD" ⟨[], []⟩ ((up win) d)
abbrev in10 (via : Via) (text : Bytes) (win : BitVec 2) (args : List (List Nat × List Nat)) (d : Dev) : Prop :=
  (ready via text args) "KEY RETIRE" "RETIRE" ret ((up win) d)
abbrev in3 (via : Via) (text : Bytes) (args : List (List Nat × List Nat)) (q : Nat × Nat) (d : Dev) : Prop :=
  (ready via text args) "KEY ESCROW" "ESCROW" esc d ∧ ecPoint (pub args) = some q ∧ (signerOf d (pub args)).isSome = true ∧
        (lifeCycle d = 1 ∨ lifeCycle d = 2) ∧ ((lc args) = lifeCode (lifeCycle d) ∨ (lc args) = 0xB2) ∧ d.r F.KY_STAT_TRNGF = 0
abbrev in5 (via : Via) (text : Bytes) (win : BitVec 2) (args : List (List Nat × List Nat)) (d : Dev) : Prop :=
  (ready via text args) "KEY INVAL" "INVAL" slot ((up win) d) ∧ (engine win) d
abbrev in7 (via : Via) (text : Bytes) (win : BitVec 2) (args : List (List Nat × List Nat)) (d : Dev) : Prop :=
  (ready via text args) "KEY PERSO" "PERSO" ⟨[], []⟩ ((up win) d) ∧ (engine win) d ∧ lifeCycle d = 0 ∧ d.r F.KY_LC_SEEDBAD = 0 ∧
        (∀ i, i < 8 → margh d (192 + i) = 0) ∧ margh d otLockWord &&& 0x808 = 0 ∧ d.r F.KY_STAT_TRNGF = 0
abbrev in9 (via : Via) (text : Bytes) (win : BitVec 2) (args : List (List Nat × List Nat)) (d : Dev) : Prop :=
  (ready via text args) "KEY FIELD" "FIELD" ⟨[], []⟩ ((up win) d) ∧ (engine win) d ∧ lifeCycle d = 1 ∧ margh d otLockWord &&& 3 = 3 ∧
        signerUsable d 0 = true
abbrev in11 (via : Via) (text : Bytes) (win : BitVec 2) (args : List (List Nat × List Nat)) (d : Dev) : Prop :=
  (ready via text args) "KEY RETIRE" "RETIRE" ret ((up win) d) ∧ (engine win) d ∧ lifeCycle d = 2 ∧ (conf args) = shadowOf d 0
abbrev in12 (via : Via) (text : Bytes) (args : List (List Nat × List Nat)) (d : Dev) : Prop :=
  (formed via text args) "KEY ATTEST" "ATTEST" att d ∧ d.b F.KY_STAT_BUSY = true
abbrev in13 (via : Via) (text : Bytes) (args : List (List Nat × List Nat)) (d : Dev) : Prop :=
  (formed via text args) "KEY ESCROW" "ESCROW" esc d ∧ d.b F.KY_STAT_BUSY = true
abbrev in14 (via : Via) (text : Bytes) (win : BitVec 2) (args : List (List Nat × List Nat)) (d : Dev) : Prop :=
  (formed via text args) "KEY INVAL" "INVAL" slot ((up win) d) ∧ ((up win) d).b F.KY_STAT_BUSY = true

theorem witness_KeyVerbs :
    in0 uart (str "nonce=AAAAAAAAAAAAAAAAAAAAAAAAAAAAAAAAAAAAAAAAAAA=") ([(ascii "nonce", ascii "AAAAAAAAAAAAAAAAAAAAAAAAAAAAAAAAAAAAAAAAAAA=")]) image ∧
    in2 uart (str "pub=AAAAAAAAAAAAAAAAAAAAAAAAAAAAAAAAAAAAAAAAAAAAAAAAAAAAAAAAAAAAAAAAAAAAAAAAAAAAAAAAAAAAAA== lc=field") ([(ascii "pub", ascii "AAAAAAAAAAAAAAAAAAAAAAAAAAAAAAAAAAAAAAAAAAAAAAAAAAAAAAAAAAAAAAAAAAAAAAAAAAAAAAAAAAAAAA=="), (ascii "lc", ascii "field")]) image ∧
    in4 uart (str "slot=7") 3 ([(ascii "slot", ascii "7")]) image ∧
    in6 uart ([]) 3 ([]) image ∧
    in8 uart ([]) 3 ([]) image ∧
    in10 uart (str "confirm=77") 3 ([(ascii "confirm", ascii "77")]) image ∧
    in0 uart (str "nonce=AAAAAAAAAAAAAAAAAAAAAAAAAAAAAAAAAAAAAAAAAAA=") ([(ascii "nonce", ascii "AAAAAAAAAAAAAAAAAAAAAAAAAAAAAAAAAAAAAAAAAAA=")]) image ∧
    in3 uart (str "pub=axfR8uEsQkf4vOblY6RA8ncDfYEt6zOg9KE5RdiYwpZP40Li/hp/m47n60p8D54WK84zV2sxXs7LtkBoN79R9Q== lc=field") ([(ascii "pub", ascii "axfR8uEsQkf4vOblY6RA8ncDfYEt6zOg9KE5RdiYwpZP40Li/hp/m47n60p8D54WK84zV2sxXs7LtkBoN79R9Q=="), (ascii "lc", ascii "field")]) ((0x6b17d1f2e12c4247f8bce6e563a440f277037d812deb33a0f4a13945d898c296, 0x4fe342e2fe1a7f9b8ee7eb4a7c0f9e162bce33576b315ececbb6406837bf51f5)) ({ image with ot := { fuses := [(168, 1, 0), (256, 1, 0)], shadow := hashG } }) ∧
    in5 uart (str "slot=7") 3 ([(ascii "slot", ascii "7")]) ({ image with ky := { image.ky with pair := some 5 } }) ∧
    in7 uart ([]) 3 ([]) image ∧
    in9 uart ([]) 3 ([]) ({ image with ot := { fuses := [(168, 1, 0), (256, 1, 0), (512, 3, 0)], shadow := [(256, 1)] } }) ∧
    in11 uart (str "confirm=77") 3 ([(ascii "confirm", ascii "77")]) ({ image with ot := { fuses := [(168, 3, 0)], shadow := [(0, 77)] } }) ∧
    in12 uart (str "nonce=AAAAAAAAAAAAAAAAAAAAAAAAAAAAAAAAAAAAAAAAAAA=") ([(ascii "nonce", ascii "AAAAAAAAAAAAAAAAAAAAAAAAAAAAAAAAAAAAAAAAAAA=")]) (image.w F.KY_STAT_BUSY 1) ∧
    in13 uart (str "pub=AAAAAAAAAAAAAAAAAAAAAAAAAAAAAAAAAAAAAAAAAAAAAAAAAAAAAAAAAAAAAAAAAAAAAAAAAAAAAAAAAAAAAA== lc=field") ([(ascii "pub", ascii "AAAAAAAAAAAAAAAAAAAAAAAAAAAAAAAAAAAAAAAAAAAAAAAAAAAAAAAAAAAAAAAAAAAAAAAAAAAAAAAAAAAAAA=="), (ascii "lc", ascii "field")]) (image.w F.KY_STAT_BUSY 1) ∧
    in14 uart (str "slot=7") 3 ([(ascii "slot", ascii "7")]) (image.w F.KY_STAT_BUSY 1) := by
  refine ⟨?_, ?_, ?_, ?_, ?_, ?_, ?_, ?_, ?_, ?_, ?_, ?_, ?_, ?_, ?_⟩ <;> decide +kernel

end W_KeyVerbs

namespace W_FurrowPageChannelAndBankVerbs

abbrev line (via : Via) (text : Bytes) (args : List (List Nat × List Nat)) (verb name obj : String) (pos : List (List Nat)) (d : Dev) : Prop :=
       LineReady via d ∧ started d = true ∧ lineArgs name verb text = some ⟨ascii obj :: pos, args⟩
abbrev named (via : Via) (text : Bytes) (x : List Nat) (args : List (List Nat × List Nat)) (obj : String) (d : Dev) : Prop := (line via text args) "FURROW" ("FURROW " ++ obj) obj [x] d ∧ args = []
abbrev form (x : List Nat) (args : List (List Nat × List Nat)) (f : Nat) (d : Dev) : Form := ⟨[(0, 255)], furrowKeys (sourceDim d (lineSource d f ⟨[x], args⟩))⟩
abbrev page (ks : List Key) : Form := ⟨[], pageKeys ++ ks⟩
abbrev map : Form := page [numKey "sel" 0 3 true, numKey "addr" 0 (2 ^ 28 - 1) true]
abbrev sets (via : Via) (text : Bytes) (x : List Nat) (args : List (List Nat × List Nat)) (f : Nat) (d : Dev) : Prop := (line via text args) "FURROW" "FURROW SET" "SET" [x] d ∧ Fits ((form x args f) d) ⟨[x], args⟩ ∧
       furrowCheck d f (lineSource d f ⟨[x], args⟩) (valsOf ((form x args f) d) ⟨[x], args⟩) = 0
abbrev calm (d : Dev) : Prop := d.sw.pend = [] ∧ d.sw.forcing = [] ∧ d.com = [] ∧ d.ld.banks = [] ∧ d.sw.slots = [] ∧ d.tlt % 65536 ≤ 63536
abbrev idle (f : Nat) (d : Dev) : Prop := (d.fu f).state = .fallow ∨ (d.fu f).state = .faulted
abbrev usable (f : Nat) (d : Dev) : Prop := d.r (F.SWF_CFG_BANK f) ≤ 5 ∧ d.r (F.SWF_CFG_MASK f) ≠ 0
abbrev mapped (f : Nat) (d : Dev) : Prop := ∀ i, i ≤ d.r (F.SWF_PAGE_PAGESM1 f) → (d.pte f ((d.r (F.SWF_PAGE_PAGE0 f) + i) % 256)).v = true
abbrev aiming (f : Nat) (d : Dev) : Prop := d.r (F.LD_BSTAT_STATE (d.r (F.SWF_CFG_BANK f))) = 2
abbrev in3 (via : Via) (text : Bytes) (x : List Nat) (args : List (List Nat × List Nat)) (f : Nat) (d : Dev) : Prop :=
  (numberIn .plain x = .ok (f : Int)) ∧ (f < 256) ∧ ((named via text x args) "ON" d ∧ (idle f) d ∧ ¬(usable f) d)
abbrev in9 (via : Via) (text : Bytes) (x : List Nat) (args : List (List Nat × List Nat)) (f : Nat) (d : Dev) : Prop :=
  (numberIn .plain x = .ok (f : Int)) ∧ (f < 256) ∧ ((named via text x args) "OFF") d
abbrev line2 (via : Via) (text : Bytes) (x : List Nat) (args : List (List Nat × List Nat)) (verb name obj : String) (d : Dev) : Prop :=
       LineReady via d ∧ started d = true ∧ lineArgs name verb text = some ⟨[ascii obj, x], args⟩
abbrev calm2 (d : Dev) : Prop := d.sw.pend = [] ∧ d.sw.forcing = [] ∧ d.com = [] ∧ d.ld.banks = [] ∧ d.sw.slots = [] ∧ d.tlt % 65536 ≤ 63536
abbrev cset : Form := ⟨[(0, 47)], [⟨"cap", .num .code 0 4095, false⟩]⟩
abbrev bset : Form := ⟨[(0, 5)], [⟨"vshort", .num .mv 2000 12000, false⟩, ⟨"boost", .num .mv 0 200, false⟩, ⟨"dead", .num .ns 50 1000, false⟩,
       numKey "qlim" 1 65535, numKey "sag" 50 99]⟩
abbrev aim : Form := ⟨[(0, 5)], [numKey "ch" 0 7 true, numKey "duty" 0 65535 true]⟩
abbrev cv (x : List Nat) (args : List (List Nat × List Nat)) : Args := valsOf cset ⟨[x], args⟩
abbrev chan (via : Via) (text : Bytes) (x : List Nat) (args : List (List Nat × List Nat)) (obj : String) (d : Dev) : Prop := (line2 via text x args) "CHAN" ("CHAN " ++ obj) obj d ∧ args = []
abbrev bank (via : Via) (text : Bytes) (x : List Nat) (args : List (List Nat × List Nat)) (obj : String) (d : Dev) : Prop := (line2 via text x args) "BANK" ("BANK " ++ obj) obj d ∧ args = []
abbrev firing (n : Nat) (d : Dev) : Prop := bankFiring d (n / 8) = true
abbrev in31 (via : Via) (text : Bytes) (x : List Nat) (args : List (List Nat × List Nat)) (n : Nat) (d : Dev) : Prop :=
  (numberIn .plain x = .ok (n : Int)) ∧ (n < 48) ∧ ((line2 via text x args) "CHAN" "CHAN SET" "SET" d ∧ Fits cset ⟨[x], args⟩)
abbrev in34 (via : Via) (text : Bytes) (x : List Nat) (args : List (List Nat × List Nat)) (n : Nat) (d : Dev) : Prop :=
  (numberIn .plain x = .ok (n : Int)) ∧ (n < 48) ∧ ((chan via text x args) "ON" d ∧ d.r (F.LD_CHSTAT_STATE n) = 0)
abbrev in37 (via : Via) (text : Bytes) (x : List Nat) (args : List (List Nat × List Nat)) (n : Nat) (d : Dev) : Prop :=
  (numberIn .plain x = .ok (n : Int)) ∧ (n < 48) ∧ ((chan via text x args) "OFF" d ∧ d.r (F.LD_CHSTAT_STATE n) ≠ 0)
abbrev plain (n : Nat) (d : Dev) : Prop := ∀ j : Nat, j < 8 → d.r (F.LD_CHCFG_DUTY (8 * n + j)) = 0
abbrev firing2 (n : Nat) (d : Dev) : Prop := bankFiring d n = true
abbrev in41 (via : Via) (text : Bytes) (x : List Nat) (args : List (List Nat × List Nat)) (n : Nat) (d : Dev) : Prop :=
  (numberIn .plain x = .ok (n : Int)) ∧ (n < 6) ∧ ((line2 via text x args) "BANK" "BANK SET" "SET" d ∧ Fits bset ⟨[x], args⟩)
abbrev in43 (via : Via) (text : Bytes) (x : List Nat) (args : List (List Nat × List Nat)) (n : Nat) (d : Dev) : Prop :=
  (numberIn .plain x = .ok (n : Int)) ∧ (n < 6) ∧ ((bank via text x args) "ON" d ∧ d.r (F.LD_BSTAT_STATE n) ≠ 1)
abbrev in46 (via : Via) (text : Bytes) (x : List Nat) (args : List (List Nat × List Nat)) (n : Nat) (d : Dev) : Prop :=
  (numberIn .plain x = .ok (n : Int)) ∧ (n < 6) ∧ ((bank via text x args) "OFF" d ∧ d.r (F.LD_BSTAT_STATE n) = 1)
abbrev in50 (via : Via) (text : Bytes) (x : List Nat) (args : List (List Nat × List Nat)) (n : Nat) (d : Dev) : Prop :=
  (numberIn .plain x = .ok (n : Int)) ∧ (n < 6) ∧ ((line2 via text x args) "BANK" "BANK AIM" "AIM" d ∧ Fits aim ⟨[x], args⟩ ∧ bankInUse d n = true)
abbrev in0 (via : Via) (text : Bytes) (x : List Nat) (args : List (List Nat × List Nat)) (f : Nat) (d : Dev) : Prop :=
  (numberIn .plain x = .ok (f : Int)) ∧ (f < 256) ∧ (sets via text x args f) d
abbrev in1 (via : Via) (text : Bytes) (x : List Nat) (args : List (List Nat × List Nat)) (f : Nat) (d : Dev) : Prop :=
  (numberIn .plain x = .ok (f : Int)) ∧ (f < 256) ∧ ((sets via text x args f) d ∧ (d.fu f).state ≠ .sown ∧ calm d ∧ (∀ i, i < 6 → ∀ y ∈ cfgFields f i, d.r y < 2 ^ y.width))
abbrev in2 (via : Via) (text : Bytes) (x : List Nat) (args : List (List Nat × List Nat)) (f : Nat) (d : Dev) : Prop :=
  (numberIn .plain x = .ok (f : Int)) ∧ (f < 256) ∧ ((sets via text x args f) d ∧ (d.fu f).state = .sown)
abbrev in4 (via : Via) (text : Bytes) (x : List Nat) (args : List (List Nat × List Nat)) (f : Nat) (d : Dev) : Prop :=
  (numberIn .plain x = .ok (f : Int)) ∧ (f < 256) ∧ ((named via text x args) "ON" d ∧ (idle f) d ∧ (usable f) d ∧ ¬(mapped f) d)
abbrev in5 (via : Via) (text : Bytes) (x : List Nat) (args : List (List Nat × List Nat)) (f : Nat) (d : Dev) : Prop :=
  (numberIn .plain x = .ok (f : Int)) ∧ (f < 256) ∧ ((named via text x args) "ON" d ∧ (idle f) d ∧ (usable f) d ∧ (mapped f) d ∧ (aiming f) d)
abbrev in6 (via : Via) (text : Bytes) (x : List Nat) (args : List (List Nat × List Nat)) (f : Nat) (d : Dev) : Prop :=
  (numberIn .plain x = .ok (f : Int)) ∧ (f < 256) ∧ ((named via text x args) "ON") d
abbrev in7 (via : Via) (text : Bytes) (x : List Nat) (args : List (List Nat × List Nat)) (f : Nat) (d : Dev) : Prop :=
  (numberIn .plain x = .ok (f : Int)) ∧ (f < 256) ∧ ((named via text x args) "ON" d ∧ (idle f) d ∧ (usable f) d ∧ (mapped f) d ∧ ¬(aiming f) d)
abbrev in8 (via : Via) (text : Bytes) (x : List Nat) (args : List (List Nat × List Nat)) (f : Nat) (d : Dev) : Prop :=
  (numberIn .plain x = .ok (f : Int)) ∧ (f < 256) ∧ ((named via text x args) "ON" d ∧ ¬(idle f) d)
abbrev in10 (via : Via) (text : Bytes) (x : List Nat) (args : List (List Nat × List Nat)) (f : Nat) (d : Dev) : Prop :=
  (numberIn .plain x = .ok (f : Int)) ∧ (f < 256) ∧ ((named via text x args) "OFF" d ∧ (idle f) d)
abbrev in11 (via : Via) (text : Bytes) (x : List Nat) (args : List (List Nat × List Nat)) (f : Nat) (d : Dev) : Prop :=
  (numberIn .plain x = .ok (f : Int)) ∧ (f < 256) ∧ ((named via text x args) "OFF" d ∧ ¬(idle f) d ∧ d.sw.slots = [])
abbrev in12 (via : Via) (text : Bytes) (x : List Nat) (args : List (List Nat × List Nat)) (f : Nat) (d : Dev) : Prop :=
  (numberIn .plain x = .ok (f : Int)) ∧ (f < 256) ∧ ((named via text x args) "SHOW") d
abbrev pages (via : Via) (text : Bytes) (args : List (List Nat × List Nat)) (obj : String) (ks : List Key) (d : Dev) : Prop := (line via text args) "PAGE" ("PAGE " ++ obj) obj [] d ∧ Fits (page ks) ⟨[], args⟩
abbrev mv (args : List (List Nat × List Nat)) : Args := valsOf map ⟨[], args⟩
abbrev pv (args : List (List Nat × List Nat)) : Args := valsOf (page []) ⟨[], args⟩
abbrev maps (via : Via) (text : Bytes) (args : List (List Nat × List Nat)) (d : Dev) : Prop := (line via text args) "PAGE" "PAGE MAP" "MAP" [] d ∧ Fits map ⟨[], args⟩ ∧ (mv args).num "addr" % 1024 = 0
abbrev u (args : List (List Nat × List Nat)) : Nat := (pv args).num "f"
abbrev g (args : List (List Nat × List Nat)) : Nat := (pv args).num "page"
abbrev entry (args : List (List Nat × List Nat)) (d : Dev) : Pte := d.pte (u args) (g args)
abbrev there (args : List (List Nat × List Nat)) (d : Dev) : Prop := ((entry args) d).v = true ∧ d.r (F.SP_ID_PRESENT ((entry args) d).sel) ≠ 0
abbrev absent (args : List (List Nat × List Nat)) (d : Dev) : Prop := ((entry args) d).v = true ∧ d.r (F.SP_ID_PRESENT ((entry args) d).sel) = 0
abbrev holds (args : List (List Nat × List Nat)) (p : Nat) (y : Plot) (d : Dev) : Prop := d.gr.plots = [(p, y)] ∧ y.st ≠ .free ∧ y.f = (u args) ∧ y.page = (g args)
abbrev in13 (via : Via) (text : Bytes) (x : List Nat) (args : List (List Nat × List Nat)) (f : Nat) (d : Dev) : Prop :=
  (numberIn .plain x = .ok (f : Int)) ∧ (f < 256) ∧ (maps via text args) d
abbrev in14 (via : Via) (text : Bytes) (x : List Nat) (args : List (List Nat × List Nat)) (f : Nat) (d : Dev) : Prop :=
  (numberIn .plain x = .ok (f : Int)) ∧ (f < 256) ∧ ((maps via text args) d ∧ d.r (F.SP_ID_PRESENT ((mv args).num "sel")) = 0)
abbrev in15 (via : Via) (text : Bytes) (x : List Nat) (args : List (List Nat × List Nat)) (f : Nat) (d : Dev) : Prop :=
  (numberIn .plain x = .ok (f : Int)) ∧ (f < 256) ∧ ((maps via text args) d ∧ d.r (F.SP_ID_PRESENT ((mv args).num "sel")) ≠ 0 ∧ d.gr.plots = [])
abbrev in16 (via : Via) (text : Bytes) (x : List Nat) (args : List (List Nat × List Nat)) (f : Nat) (p : Nat) (y : Plot) (d : Dev) : Prop :=
  (numberIn .plain x = .ok (f : Int)) ∧ (f < 256) ∧ ((maps via text args) d ∧ d.r (F.SP_ID_PRESENT ((mv args).num "sel")) ≠ 0 ∧
          (d.pte ((mv args).num "f") ((mv args).num "page")).v = true ∧ d.gr.plots = [(p, y)] ∧ y.st ≠ .free ∧ y.f = (mv args).num "f" ∧ y.page = (mv args).num "page" ∧ calm d)
abbrev in17 (via : Via) (text : Bytes) (x : List Nat) (args : List (List Nat × List Nat)) (f : Nat) (d : Dev) : Prop :=
  (numberIn .plain x = .ok (f : Int)) ∧ (f < 256) ∧ ((pages via text args) "UNMAP" [] d ∧ (d.fu (u args)).state ≠ .fallow)
abbrev in18 (via : Via) (text : Bytes) (x : List Nat) (args : List (List Nat × List Nat)) (f : Nat) (d : Dev) : Prop :=
  (numberIn .plain x = .ok (f : Int)) ∧ (f < 256) ∧ ((pages via text args) "UNMAP" [] d ∧ (d.fu (u args)).state = .fallow ∧ d.gr.plots = [])
abbrev in19 (via : Via) (text : Bytes) (x : List Nat) (args : List (List Nat × List Nat)) (f : Nat) (d : Dev) : Prop :=
  (numberIn .plain x = .ok (f : Int)) ∧ (f < 256) ∧ ((pages via text args) "PIN" [] d ∧ ((entry args) d).v = false)
abbrev in20 (via : Via) (text : Bytes) (x : List Nat) (args : List (List Nat × List Nat)) (f : Nat) (d : Dev) : Prop :=
  (numberIn .plain x = .ok (f : Int)) ∧ (f < 256) ∧ ((pages via text args) "PIN" [] d ∧ (absent args) d)
abbrev in21 (via : Via) (text : Bytes) (x : List Nat) (args : List (List Nat × List Nat)) (f : Nat) (d : Dev) : Prop :=
  (numberIn .plain x = .ok (f : Int)) ∧ (f < 256) ∧ ((pages via text args) "PIN" [] d ∧ (there args) d ∧ plotOf d (u args) (g args) = none ∧ 384 ≤ pinCount d)
abbrev in22 (via : Via) (text : Bytes) (x : List Nat) (args : List (List Nat × List Nat)) (f : Nat) (p : Nat) (y : Plot) (d : Dev) : Prop :=
  (numberIn .plain x = .ok (f : Int)) ∧ (f < 256) ∧ ((pages via text args) "PIN" [] d ∧ (there args) d ∧ (holds args) p y d ∧ y.pin = false ∧ d.gr.waiting = none)
abbrev in23 (via : Via) (text : Bytes) (x : List Nat) (args : List (List Nat × List Nat)) (f : Nat) (p : Nat) (y : Plot) (d : Dev) : Prop :=
  (numberIn .plain x = .ok (f : Int)) ∧ (f < 256) ∧ ((pages via text args) "PIN" [] d ∧ (there args) d ∧ (holds args) p y d ∧ y.pin = true)
abbrev in24 (via : Via) (text : Bytes) (x : List Nat) (args : List (List Nat × List Nat)) (f : Nat) (p : Nat) (y : Plot) (d : Dev) : Prop :=
  (numberIn .plain x = .ok (f : Int)) ∧ (f < 256) ∧ ((pages via text args) "UNPIN" [] d ∧ (holds args) p y d ∧ d.gr.waiting = none ∧ ({ y with pin := false } : Plot) ≠ {})
abbrev in25 (via : Via) (text : Bytes) (x : List Nat) (args : List (List Nat × List Nat)) (f : Nat) (p : Nat) (y : Plot) (d : Dev) : Prop :=
  (numberIn .plain x = .ok (f : Int)) ∧ (f < 256) ∧ ((pages via text args) "FETCH" [] d ∧ (there args) d ∧ (holds args) p y d ∧ d.gr.waiting = none)
abbrev in26 (via : Via) (text : Bytes) (x : List Nat) (args : List (List Nat × List Nat)) (f : Nat) (d : Dev) : Prop :=
  (numberIn .plain x = .ok (f : Int)) ∧ (f < 256) ∧ ((pages via text args) "UNPIN" [] d ∧ plotOf d (u args) (g args) = none ∧ ((entry args) d).v = false)
abbrev in27 (via : Via) (text : Bytes) (x : List Nat) (args : List (List Nat × List Nat)) (f : Nat) (d : Dev) : Prop :=
  (numberIn .plain x = .ok (f : Int)) ∧ (f < 256) ∧ ((pages via text args) "FETCH" [] d ∧ ((entry args) d).v = false)
abbrev in28 (via : Via) (text : Bytes) (x : List Nat) (args : List (List Nat × List Nat)) (f : Nat) (d : Dev) : Prop :=
  (numberIn .plain x = .ok (f : Int)) ∧ (f < 256) ∧ ((pages via text args) "FETCH" [] d ∧ (absent args) d)
abbrev in29 (via : Via) (text : Bytes) (x : List Nat) (args : List (List Nat × List Nat)) (f : Nat) (d : Dev) : Prop :=
  (numberIn .plain x = .ok (f : Int)) ∧ (f < 256) ∧ ((pages via text args) "FETCH" [] d ∧ (there args) d ∧ d.gr.waiting = none ∧ d.gr.plots = [] ∧ d.gr.places = [] ∧ d.sw.furrows = [] ∧ d.r F.GR_CTL_EN ≠ 0)
abbrev in30 (via : Via) (text : Bytes) (x : List Nat) (args : List (List Nat × List Nat)) (f : Nat) (d : Dev) : Prop :=
  (numberIn .plain x = .ok (f : Int)) ∧ (f < 256) ∧ ((pages via text args) "SHOW" []) d
abbrev in32 (via : Via) (text : Bytes) (x : List Nat) (args : List (List Nat × List Nat)) (n : Nat) (d : Dev) : Prop :=
  (numberIn .plain x = .ok (n : Int)) ∧ (n < 48) ∧ ((line2 via text x args) "CHAN" "CHAN SET" "SET" d ∧ Fits cset ⟨[x], args⟩ ∧ (cv x args).has "cap" = true ∧ calm2 d)
abbrev in33 (via : Via) (text : Bytes) (x : List Nat) (args : List (List Nat × List Nat)) (n : Nat) (d : Dev) : Prop :=
  (numberIn .plain x = .ok (n : Int)) ∧ (n < 48) ∧ ((line2 via text x args) "CHAN" "CHAN SET" "SET" d ∧ Fits cset ⟨[x], args⟩ ∧ (cv x args).has "cap" = true ∧ d.r (F.LD_CHCFG_CAP n) ≠ (cv x args).num "cap" ∧
           d.com = [] ∧ (firing n) d)
abbrev in35 (via : Via) (text : Bytes) (x : List Nat) (args : List (List Nat × List Nat)) (n : Nat) (d : Dev) : Prop :=
  (numberIn .plain x = .ok (n : Int)) ∧ (n < 48) ∧ ((chan via text x args) "ON" d ∧ d.r (F.LD_CHSTAT_STATE n) ≠ 0 ∧ d.r (F.LD_CHCFG_PGRP n) = 0 ∧ calm2 d)
abbrev in36 (via : Via) (text : Bytes) (x : List Nat) (args : List (List Nat × List Nat)) (n : Nat) (d : Dev) : Prop :=
  (numberIn .plain x = .ok (n : Int)) ∧ (n < 48) ∧ ((chan via text x args) "ON" d ∧ d.r (F.LD_CHSTAT_STATE n) ≠ 0 ∧ (firing n) d)
abbrev in38 (via : Via) (text : Bytes) (x : List Nat) (args : List (List Nat × List Nat)) (n : Nat) (d : Dev) : Prop :=
  (numberIn .plain x = .ok (n : Int)) ∧ (n < 48) ∧ ((chan via text x args) "OFF" d ∧ d.r (F.LD_CHSTAT_STATE n) = 0 ∧ calm2 d)
abbrev in39 (via : Via) (text : Bytes) (x : List Nat) (args : List (List Nat × List Nat)) (n : Nat) (d : Dev) : Prop :=
  (numberIn .plain x = .ok (n : Int)) ∧ (n < 48) ∧ ((chan via text x args) "OFF" d ∧ d.r (F.LD_CHSTAT_STATE n) = 0 ∧ (firing n) d)
abbrev in40 (via : Via) (text : Bytes) (x : List Nat) (args : List (List Nat × List Nat)) (n : Nat) (d : Dev) : Prop :=
  (numberIn .plain x = .ok (n : Int)) ∧ (n < 48) ∧ ((chan via text x args) "SHOW") d
abbrev in42 (via : Via) (text : Bytes) (x : List Nat) (args : List (List Nat × List Nat)) (n : Nat) (d : Dev) : Prop :=
  (numberIn .plain x = .ok (n : Int)) ∧ (n < 6) ∧ ((line2 via text x args) "BANK" "BANK SET" "SET" d ∧ Fits bset ⟨[x], args⟩ ∧ calm2 d)
abbrev in44 (via : Via) (text : Bytes) (x : List Nat) (args : List (List Nat × List Nat)) (n : Nat) (d : Dev) : Prop :=
  (numberIn .plain x = .ok (n : Int)) ∧ (n < 6) ∧ ((bank via text x args) "ON" d ∧ d.r (F.LD_BSTAT_STATE n) = 1 ∧ (plain n) d ∧ calm2 d)
abbrev in45 (via : Via) (text : Bytes) (x : List Nat) (args : List (List Nat × List Nat)) (n : Nat) (d : Dev) : Prop :=
  (numberIn .plain x = .ok (n : Int)) ∧ (n < 6) ∧ ((bank via text x args) "ON" d ∧ d.r (F.LD_BSTAT_STATE n) = 1 ∧ (firing2 n) d)
abbrev in47 (via : Via) (text : Bytes) (x : List Nat) (args : List (List Nat × List Nat)) (n : Nat) (d : Dev) : Prop :=
  (numberIn .plain x = .ok (n : Int)) ∧ (n < 6) ∧ ((bank via text x args) "OFF" d ∧ d.r (F.LD_BSTAT_STATE n) ≠ 1 ∧ calm2 d)
abbrev in48 (via : Via) (text : Bytes) (x : List Nat) (args : List (List Nat × List Nat)) (n : Nat) (d : Dev) : Prop :=
  (numberIn .plain x = .ok (n : Int)) ∧ (n < 6) ∧ ((bank via text x args) "OFF" d ∧ d.r (F.LD_BSTAT_STATE n) ≠ 1 ∧ (firing2 n) d)
abbrev in49 (via : Via) (text : Bytes) (x : List Nat) (args : List (List Nat × List Nat)) (n : Nat) (d : Dev) : Prop :=
  (numberIn .plain x = .ok (n : Int)) ∧ (n < 6) ∧ ((bank via text x args) "SHOW") d
abbrev in51 (via : Via) (text : Bytes) (x : List Nat) (args : List (List Nat × List Nat)) (n : Nat) (d : Dev) : Prop :=
  (numberIn .plain x = .ok (n : Int)) ∧ (n < 6) ∧ ((line2 via text x args) "BANK" "BANK AIM" "AIM" d ∧ Fits aim ⟨[x], args⟩ ∧ bankInUse d n = false ∧ calm2 d)

theorem witness_FurrowPageChannelAndBankVerbs_0 :
    in3 uart (str "255") (ascii "255") ([]) 255 image ∧
    in9 uart (str "255") (ascii "255") ([]) 255 (oneF 255 { state := .ready } image) ∧
    in31 uart (str "47 cap=4095") (ascii "47") ([(ascii "cap", ascii "4095")]) 47 image ∧
    in34 uart (str "47") (ascii "47") ([]) 47 image ∧
    in37 uart (str "47") (ascii "47") ([]) 47 (image.w (F.LD_CHSTAT_STATE 47) 3) ∧
    in41 uart (str "5 sag=50 dead=1000ns") (ascii "5") ([(ascii "sag", ascii "50"), (ascii "dead", ascii "1000ns")]) 5 image ∧
    in43 uart (str "5") (ascii "5") ([]) 5 (image.w (F.LD_BSTAT_STATE 5) 2) ∧
    in46 uart (str "5") (ascii "5") ([]) 5 image ∧
    in50 uart (str "5 ch=7 duty=65535") (ascii "5") ([(ascii "ch", ascii "7"), (ascii "duty", ascii "65535")]) 5 ((oneF 9 { state := .ready } image).w (F.SWF_CFG_BANK 9) 5) ∧
    in0 uart (str "255 pri=3 cap=77 slack=5") (ascii "255") ([(ascii "pri", ascii "3"), (ascii "cap", ascii "77"), (ascii "slack", ascii "5")]) 255 image ∧
    in0 uart (str "255 pri=3 cap=77 slack=5") (ascii "255") ([(ascii "pri", ascii "3"), (ascii "cap", ascii "77"), (ascii "slack", ascii "5")]) 255 (oneF 255 { state := .ready } image) ∧
    in1 uart (str "255 pri=3 cap=77 slack=5") (ascii "255") ([(ascii "pri", ascii "3"), (ascii "cap", ascii "77"), (ascii "slack", ascii "5")]) 255 image ∧
    in1 uart (str "255 pri=3 cap=77 slack=5") (ascii "255") ([(ascii "pri", ascii "3"), (ascii "cap", ascii "77"), (ascii "slack", ascii "5")]) 255 (oneF 255 { state := .ready } (ws [(F.SWF_CFG_MASK 255, 1), (F.SWF_CFG_BANK 255, 5)] image)) ∧
    in1 uart (str "255 bank=5 mask=3 cap=77") (ascii "255") ([(ascii "bank", ascii "5"), (ascii "mask", ascii "3"), (ascii "cap", ascii "77")]) 255 (oneF 255 { state := .held } (ws [(F.SWF_CFG_MASK 255, 1), (F.SWF_CFG_BANK 255, 5)] image)) ∧
    in2 uart (str "255 pri=3 cap=77 slack=5") (ascii "255") ([(ascii "pri", ascii "3"), (ascii "cap", ascii "77"), (ascii "slack", ascii "5")]) 255 (oneF 255 { state := .sown } image) ∧
    in4 uart (str "255") (ascii "255") ([]) 255 (ws [(F.SWF_CFG_MASK 255, 1), (F.SWF_CFG_BANK 255, 5)] image) ∧
    in5 uart (str "255") (ascii "255") ([]) 255 ((ws [(F.SWF_CFG_MASK 255, 1), (F.SWF_CFG_BANK 255, 5)] { image with gr := { pte := [(65280, ⟨true, false, 0, 3⟩)] } }).w (F.LD_BSTAT_STATE 5) 2) ∧
    in6 uart (str "255") (ascii "255") ([]) 255 image ∧
    in6 uart (str "255") (ascii "255") ([]) 255 (oneF 255 { state := .sown } image) ∧
    in6 uart (str "255") (ascii "255") ([]) 255 (ws [(F.SWF_CFG_MASK 255, 1), (F.SWF_CFG_BANK 255, 5)] { image with gr := { pte := [(65280, ⟨true, false, 0, 3⟩)] } }) ∧
    in7 uart (str "255") (ascii "255") ([]) 255 (ws [(F.SWF_CFG_MASK 255, 1), (F.SWF_CFG_BANK 255, 5)] { image with gr := { pte := [(65280, ⟨true, false, 0, 3⟩)] } }) ∧
    in7 uart (str "255") (ascii "255") ([]) 255 (oneF 255 { state := .faulted, fcause := 1, miss := 4, offp := true } (ws [(F.SWF_CFG_MASK 255, 1), (F.SWF_CFG_BANK 255, 5), (F.SWF_CFG_SRC 255, 3), (F.SWF_ATL_AT 255, 100), (F.SWF_EVERY_EVERY 255, 50)] { image with gr := { pte := [(65280, ⟨true, false, 0, 3⟩)] } })) ∧
    in8 uart (str "255") (ascii "255") ([]) 255 (oneF 255 { state := .held, offp := true } image) ∧
    in10 uart (str "255") (ascii "255") ([]) 255 (oneF 255 { state := .faulted } image) ∧
    in10 uart (str "255") (ascii "255") ([]) 255 image ∧
    in11 uart (str "255") (ascii "255") ([]) 255 (oneF 255 { state := .held, offp := true, miss := 3, needs := [⟨3, 4, false⟩] } image) ∧
    in12 uart (str "255") (ascii "255") ([]) 255 (oneF 255 { state := .ready, miss := 3 } image) ∧
    in13 uart (str "f=3 page=9 sel=1 addr=2048") (ascii "255") ([(ascii "f", ascii "3"), (ascii "page", ascii "9"), (ascii "sel", ascii "1"), (ascii "addr", ascii "2048")]) 255 image ∧
    in14 uart (str "f=3 page=9 sel=1 addr=2048") (ascii "255") ([(ascii "f", ascii "3"), (ascii "page", ascii "9"), (ascii "sel", ascii "1"), (ascii "addr", ascii "2048")]) 255 image ∧
    in15 uart (str "f=3 page=9 sel=1 addr=2048") (ascii "255") ([(ascii "f", ascii "3"), (ascii "page", ascii "9"), (ascii "sel", ascii "1"), (ascii "addr", ascii "2048")]) 255 (ws [(F.SP_ID_PRESENT 1, 1)] image) ∧
    in15 uart (str "f=3 page=9 sel=1 addr=2048") (ascii "255") ([(ascii "f", ascii "3"), (ascii "page", ascii "9"), (ascii "sel", ascii "1"), (ascii "addr", ascii "2048")]) 255 (ws [(F.SP_ID_PRESENT 1, 1)] { image with gr := { pte := [(777, ⟨true, false, 1, 3⟩)] } }) ∧
    in16 uart (str "f=3 page=9 sel=1 addr=2048") (ascii "255") ([(ascii "f", ascii "3"), (ascii "page", ascii "9"), (ascii "sel", ascii "1"), (ascii "addr", ascii "2048")]) 255 4 ({ st := .resident, f := 3, page := 9 }) (ws [(F.SP_ID_PRESENT 1, 1)] { image with gr := { pte := [(777, ⟨true, false, 1, 3⟩)], plots := [(4, { st := .resident, f := 3, page := 9 })] } }) ∧
    in16 uart (str "f=3 page=9 sel=1 addr=3072") (ascii "255") ([(ascii "f", ascii "3"), (ascii "page", ascii "9"), (ascii "sel", ascii "1"), (ascii "addr", ascii "3072")]) 255 4 ({ st := .loading, f := 3, page := 9 }) (ws [(F.SP_ID_PRESENT 1, 1)] { image with gr := { pte := [(777, ⟨true, false, 1, 3⟩)], plots := [(4, { st := .loading, f := 3, page := 9 })] } }) ∧
    in17 uart (str "f=3 page=9") (ascii "255") ([(ascii "f", ascii "3"), (ascii "page", ascii "9")]) 255 (oneF 3 { state := .faulted } image) ∧
    in18 uart (str "f=3 page=9") (ascii "255") ([(ascii "f", ascii "3"), (ascii "page", ascii "9")]) 255 ({ image with gr := { pte := [(777, ⟨true, false, 1, 3⟩)] } }) ∧
    in18 uart (str "f=3 page=9") (ascii "255") ([(ascii "f", ascii "3"), (ascii "page", ascii "9")]) 255 image ∧
    in19 uart (str "f=3 page=9") (ascii "255") ([(ascii "f", ascii "3"), (ascii "page", ascii "9")]) 255 image ∧
    in20 uart (str "f=3 page=9") (ascii "255") ([(ascii "f", ascii "3"), (ascii "page", ascii "9")]) 255 ({ image with gr := { pte := [(777, ⟨true, false, 1, 3⟩)] } }) ∧
    in21 uart (str "f=3 page=9") (ascii "255") ([(ascii "f", ascii "3"), (ascii "page", ascii "9")]) 255 (ws [(F.SP_ID_PRESENT 1, 1)] { image with gr := { pte := [(777, ⟨true, false, 1, 3⟩)], plots := (List.range 384).map fun n => (n, { st := .resident, pin := true, f := 5, page := n }) } }) ∧
    in22 uart (str "f=3 page=9") (ascii "255") ([(ascii "f", ascii "3"), (ascii "page", ascii "9")]) 255 4 ({ st := .resident, f := 3, page := 9 }) (ws [(F.SP_ID_PRESENT 1, 1)] { image with gr := { pte := [(777, ⟨true, false, 1, 3⟩)], plots := [(4, { st := .resident, f := 3, page := 9 })] } }) := by
  refine ⟨?_, ?_, ?_, ?_, ?_, ?_, ?_, ?_, ?_, ?_, ?_, ?_, ?_, ?_, ?_, ?_, ?_, ?_, ?_, ?_, ?_, ?_, ?_, ?_, ?_, ?_, ?_, ?_, ?_, ?_, ?_, ?_, ?_, ?_, ?_, ?_, ?_, ?_, ?_, ?_⟩ <;> decide +kernel

theorem witness_FurrowPageChannelAndBankVerbs_1 :
    in23 uart (str "f=3 page=9") (ascii "255") ([(ascii "f", ascii "3"), (ascii "page", ascii "9")]) 255 4 ({ st := .resident, f := 3, page := 9, pin := true }) (ws [(F.SP_ID_PRESENT 1, 1)] { image with gr := { pte := [(777, ⟨true, false, 1, 3⟩)], plots := [(4, { st := .resident, f := 3, page := 9, pin := true })] } }) ∧
    in24 uart (str "f=3 page=9") (ascii "255") ([(ascii "f", ascii "3"), (ascii "page", ascii "9")]) 255 4 ({ st := .resident, f := 3, page := 9, pin := true }) ({ image with gr := { pte := [(777, ⟨true, false, 1, 3⟩)], plots := [(4, { st := .resident, f := 3, page := 9, pin := true })] } }) ∧
    in24 uart (str "f=3 page=9") (ascii "255") ([(ascii "f", ascii "3"), (ascii "page", ascii "9")]) 255 4 ({ st := .resident, f := 3, page := 9 }) ({ image with gr := { plots := [(4, { st := .resident, f := 3, page := 9 })] } }) ∧
    in25 uart (str "f=3 page=9") (ascii "255") ([(ascii "f", ascii "3"), (ascii "page", ascii "9")]) 255 4 ({ st := .resident, f := 3, page := 9 }) (ws [(F.SP_ID_PRESENT 1, 1)] { image with gr := { pte := [(777, ⟨true, false, 1, 3⟩)], plots := [(4, { st := .resident, f := 3, page := 9 })] } }) ∧
    in26 uart (str "f=3 page=9") (ascii "255") ([(ascii "f", ascii "3"), (ascii "page", ascii "9")]) 255 image ∧
    in27 uart (str "f=3 page=9") (ascii "255") ([(ascii "f", ascii "3"), (ascii "page", ascii "9")]) 255 image ∧
    in28 uart (str "f=3 page=9") (ascii "255") ([(ascii "f", ascii "3"), (ascii "page", ascii "9")]) 255 ({ image with gr := { pte := [(777, ⟨true, false, 1, 3⟩)] } }) ∧
    in29 uart (str "f=3 page=9") (ascii "255") ([(ascii "f", ascii "3"), (ascii "page", ascii "9")]) 255 ((ws [(F.SP_ID_PRESENT 1, 1)] { image with gr := { pte := [(777, ⟨true, false, 1, 3⟩)] } }).w F.GR_CTL_EN 1) ∧
    in30 uart (str "f=3 page=9") (ascii "255") ([(ascii "f", ascii "3"), (ascii "page", ascii "9")]) 255 (ws [(F.SP_ID_PRESENT 1, 1)] { image with gr := { pte := [(777, ⟨true, false, 1, 3⟩)], plots := [(4, { st := .resident, f := 3, page := 9 })] } }) ∧
    in30 uart (str "f=3 page=9") (ascii "255") ([(ascii "f", ascii "3"), (ascii "page", ascii "9")]) 255 image ∧
    in32 uart (str "47 cap=4095") (ascii "47") ([(ascii "cap", ascii "4095")]) 47 image ∧
    in33 uart (str "47 cap=77") (ascii "47") ([(ascii "cap", ascii "77")]) 47 (oneS 3 { st := .firing, bank := 5 } (image)) ∧
    in35 uart (str "47") (ascii "47") ([]) 47 (image.w (F.LD_CHSTAT_STATE 47) 3) ∧
    in36 uart (str "47") (ascii "47") ([]) 47 (oneS 3 { st := .firing, bank := 5 } (image.w (F.LD_CHSTAT_STATE 47) 1)) ∧
    in38 uart (str "47") (ascii "47") ([]) 47 image ∧
    in39 uart (str "47") (ascii "47") ([]) 47 (oneS 3 { st := .firing, bank := 5 } (image)) ∧
    in40 uart (str "47") (ascii "47") ([]) 47 image ∧
    in42 uart (str "5 sag=50 dead=1000ns boost=200mV vshort=12V qlim=65535") (ascii "5") ([(ascii "sag", ascii "50"), (ascii "dead", ascii "1000ns"), (ascii "boost", ascii "200mV"), (ascii "vshort", ascii "12V"), (ascii "qlim", ascii "65535")]) 5 image ∧
    in44 uart (str "5") (ascii "5") ([]) 5 (image.w (F.LD_BSTAT_STATE 5) 1) ∧
    in45 uart (str "5") (ascii "5") ([]) 5 (oneS 3 { st := .firing, bank := 5 } (image.w (F.LD_BSTAT_STATE 5) 1)) ∧
    in47 uart (str "5") (ascii "5") ([]) 5 (image.w (F.LD_BSTAT_STATE 5) 0) ∧
    in48 uart (str "5") (ascii "5") ([]) 5 (oneS 3 { st := .firing, bank := 5 } (image.w (F.LD_BSTAT_STATE 5) 2)) ∧
    in49 uart (str "5") (ascii "5") ([]) 5 image ∧
    in51 uart (str "5 ch=7 duty=65535") (ascii "5") ([(ascii "ch", ascii "7"), (ascii "duty", ascii "65535")]) 5 image ∧
    in51 uart (str "5 ch=7 duty=65535") (ascii "5") ([(ascii "ch", ascii "7"), (ascii "duty", ascii "65535")]) 5 (image.w (F.LD_BSTAT_STATE 5) 0) ∧
    in51 uart (str "5 ch=7 duty=65535") (ascii "5") ([(ascii "ch", ascii "7"), (ascii "duty", ascii "65535")]) 5 (image.w (F.LD_BSTAT_STATE 5) 1) := by
  refine ⟨?_, ?_, ?_, ?_, ?_, ?_, ?_, ?_, ?_, ?_, ?_, ?_, ?_, ?_, ?_, ?_, ?_, ?_, ?_, ?_, ?_, ?_, ?_, ?_, ?_, ?_⟩ <;> decide +kernel

end W_FurrowPageChannelAndBankVerbs

namespace W_HeadRingAndEncoderVerbs

abbrev line (via : Via) (text : Bytes) (args : List (List Nat × List Nat)) (verb name obj : String) (pos : List (List Nat)) (d : Dev) : Prop :=
      LineReady via d ∧ started d = true ∧ lineArgs name verb text = some ⟨ascii obj :: pos, args⟩
abbrev hset : Form := ⟨[(0, 5)], [⟨"skew", .num .ns 0 1000, false⟩, wordKey "policy" ["same", "any"]]⟩
abbrev eset : Form := ⟨[(0, 1)], [wordKey "mode" ["rs422", "se"], wordKey "term" ["off", "on"], numKey "filter" 0 255,
      ⟨"scale", .num .milli 0 1000000000, false⟩]⟩
abbrev zero (n : Nat) (d : Dev) : Form := ⟨[(0, 1)], [⟨"pos", .num (.pos (scaleOf d n)) 0 (2 ^ 48 - 1), true⟩]⟩
abbrev head (via : Via) (text : Bytes) (x : List Nat) (args : List (List Nat × List Nat)) (obj : String) (d : Dev) : Prop := (line via text args) "HEAD" ("HEAD " ++ obj) obj [x] d ∧ args = []
abbrev port (n : Nat) (d : Dev) : Nat := d.r (F.HP_STAT_STATE n)
abbrev in0 (via : Via) (text : Bytes) (x : List Nat) (args : List (List Nat × List Nat)) (n : Nat) (d : Dev) : Prop :=
  (numberIn .plain x = .ok (n : Int)) ∧ (n < 6) ∧ ((line via text args) "HEAD" "HEAD SET" "SET" [x] d ∧ Fits hset ⟨[x], args⟩)
abbrev in2 (via : Via) (text : Bytes) (x : List Nat) (args : List (List Nat × List Nat)) (n : Nat) (d : Dev) : Prop :=
  (numberIn .plain x = .ok (n : Int)) ∧ (n < 6) ∧ ((head via text x args) "ON" d ∧ (port n) d = 0)
abbrev in6 (via : Via) (text : Bytes) (x : List Nat) (args : List (List Nat × List Nat)) (n : Nat) (d : Dev) : Prop :=
  (numberIn .plain x = .ok (n : Int)) ∧ (n < 6) ∧ ((head via text x args) "HITCH" d ∧ (port n) d = 0)
abbrev ring (via : Via) (text : Bytes) (args : List (List Nat × List Nat)) (obj : String) (d : Dev) : Prop := (line via text args) "RING" ("RING " ++ obj) obj [] d ∧ args = []
abbrev state (d : Dev) : Nat := d.r F.SR_STAT_STATE
abbrev member (d : Dev) : Prop := d.r F.SR_STAT_MASTER = 0 ∧ d.r F.SR_STAT_ADDRV ≠ 0
abbrev in14 (via : Via) (text : Bytes) (args : List (List Nat × List Nat)) (d : Dev) : Prop :=
  (ring via text args) "UP" d ∧ (state d ≠ 0 ∨ d.r F.SR_STAT_MASTER ≠ 0)
abbrev in16 (via : Via) (text : Bytes) (args : List (List Nat × List Nat)) (d : Dev) : Prop :=
  (ring via text args) "DOWN" d ∧ d.r F.SR_STAT_MASTER = 0
abbrev in18 (via : Via) (text : Bytes) (args : List (List Nat × List Nat)) (d : Dev) : Prop :=
  (ring via text args) "JOIN" d ∧ member d ∧ state d = 2
abbrev in22 (via : Via) (text : Bytes) (args : List (List Nat × List Nat)) (d : Dev) : Prop :=
  (ring via text args) "LEAVE" d ∧ d.r F.SR_STAT_MASTER ≠ 0
abbrev zeroes (via : Via) (text : Bytes) (x : List Nat) (args : List (List Nat × List Nat)) (n : Nat) (d : Dev) : Prop := (line via text args) "ENC" "ENC ZERO" "ZERO" [x] d ∧ Fits ((zero n) d) ⟨[x], args⟩
abbrev in24 (via : Via) (text : Bytes) (x : List Nat) (args : List (List Nat × List Nat)) (n : Nat) (d : Dev) : Prop :=
  (numberIn .plain x = .ok (n : Int)) ∧ (n < 2) ∧ ((line via text args) "ENC" "ENC SET" "SET" [x] d ∧ Fits eset ⟨[x], args⟩)
abbrev in1 (via : Via) (text : Bytes) (x : List Nat) (args : List (List Nat × List Nat)) (n : Nat) (d : Dev) : Prop :=
  (numberIn .plain x = .ok (n : Int)) ∧ (n < 6) ∧ ((line via text args) "HEAD" "HEAD SET" "SET" [x] d ∧ Fits hset ⟨[x], args⟩ ∧ (∀ y ∈ fldsAt (F.HP_TCFG_SKEW n).addr, d.r y < 2 ^ y.width) ∧
          d.r F.HP_POLICY_ANY < 64)
abbrev in3 (via : Via) (text : Bytes) (x : List Nat) (args : List (List Nat × List Nat)) (n : Nat) (d : Dev) : Prop :=
  (numberIn .plain x = .ok (n : Int)) ∧ (n < 6) ∧ ((head via text x args) "ON" d ∧ (port n) d = 2)
abbrev in4 (via : Via) (text : Bytes) (x : List Nat) (args : List (List Nat × List Nat)) (n : Nat) (d : Dev) : Prop :=
  (numberIn .plain x = .ok (n : Int)) ∧ (n < 6) ∧ ((head via text x args) "ON" d ∧ (port n) d = 3)
abbrev in5 (via : Via) (text : Bytes) (x : List Nat) (args : List (List Nat × List Nat)) (n : Nat) (d : Dev) : Prop :=
  (numberIn .plain x = .ok (n : Int)) ∧ (n < 6) ∧ ((head via text x args) "ON" d ∧ (port n) d = 1)
abbrev in7 (via : Via) (text : Bytes) (x : List Nat) (args : List (List Nat × List Nat)) (n : Nat) (d : Dev) : Prop :=
  (numberIn .plain x = .ok (n : Int)) ∧ (n < 6) ∧ ((head via text x args) "HITCH" d ∧ ((port n) d = 1 ∨ (port n) d = 3))
abbrev in8 (via : Via) (text : Bytes) (x : List Nat) (args : List (List Nat × List Nat)) (n : Nat) (d : Dev) : Prop :=
  (numberIn .plain x = .ok (n : Int)) ∧ (n < 6) ∧ ((head via text x args) "HITCH" d ∧ (port n) d = 2 ∧ d.sw.slots = [] ∧ d.st.evPath ≠ 0)
abbrev in9 (via : Via) (text : Bytes) (x : List Nat) (args : List (List Nat × List Nat)) (n : Nat) (d : Dev) : Prop :=
  (numberIn .plain x = .ok (n : Int)) ∧ (n < 6) ∧ ((head via text x args) "OFF" d ∧ (port n) d = 2 ∧ (d.head n).bye = false)
abbrev in10 (via : Via) (text : Bytes) (x : List Nat) (args : List (List Nat × List Nat)) (n : Nat) (d : Dev) : Prop :=
  (numberIn .plain x = .ok (n : Int)) ∧ (n < 6) ∧ ((head via text x args) "OFF" d ∧ (port n) d = 1)
abbrev in11 (via : Via) (text : Bytes) (x : List Nat) (args : List (List Nat × List Nat)) (n : Nat) (d : Dev) : Prop :=
  (numberIn .plain x = .ok (n : Int)) ∧ (n < 6) ∧ ((head via text x args) "OFF" d ∧ ((port n) d = 0 ∨ (port n) d = 3 ∨ ((port n) d = 2 ∧ (d.head n).bye = true)))
abbrev in12 (via : Via) (text : Bytes) (x : List Nat) (args : List (List Nat × List Nat)) (n : Nat) (d : Dev) : Prop :=
  (numberIn .plain x = .ok (n : Int)) ∧ (n < 6) ∧ ((head via text x args) "SHOW") d
abbrev in13 (via : Via) (text : Bytes) (args : List (List Nat × List Nat)) (d : Dev) : Prop :=
  (ring via text args) "UP" d ∧ state d = 0 ∧ d.r F.SR_STAT_MASTER = 0
abbrev in15 (via : Via) (text : Bytes) (args : List (List Nat × List Nat)) (d : Dev) : Prop :=
  (ring via text args) "DOWN" d ∧ d.r F.SR_STAT_MASTER ≠ 0
abbrev in17 (via : Via) (text : Bytes) (args : List (List Nat × List Nat)) (d : Dev) : Prop :=
  (ring via text args) "JOIN" d ∧ member d ∧ (state d = 3 ∨ state d = 4)
abbrev in19 (via : Via) (text : Bytes) (args : List (List Nat × List Nat)) (d : Dev) : Prop :=
  (ring via text args) "JOIN" d ∧ ¬member d
abbrev in20 (via : Via) (text : Bytes) (args : List (List Nat × List Nat)) (d : Dev) : Prop :=
  (ring via text args) "LEAVE" d ∧ member d ∧ state d = 2 ∧ d.sw.slots = [] ∧ d.sw.furrows = [] ∧ d.sr.ctrl = []
abbrev in21 (via : Via) (text : Bytes) (args : List (List Nat × List Nat)) (d : Dev) : Prop :=
  (ring via text args) "LEAVE" d ∧ d.r F.SR_STAT_MASTER = 0 ∧ (d.r F.SR_STAT_ADDRV = 0 ∨ state d = 4 ∨ state d = 0)
abbrev in23 (via : Via) (text : Bytes) (args : List (List Nat × List Nat)) (d : Dev) : Prop :=
  ((ring via text args) "SHOW") d
abbrev in25 (via : Via) (text : Bytes) (x : List Nat) (args : List (List Nat × List Nat)) (n : Nat) (d : Dev) : Prop :=
  (numberIn .plain x = .ok (n : Int)) ∧ (n < 2) ∧ ((line via text args) "ENC" "ENC SET" "SET" [x] d ∧ Fits eset ⟨[x], args⟩ ∧ ∀ y ∈ fldsAt (F.EN_CFG_MODE n).addr, d.r y < 2 ^ y.width)
abbrev in26 (via : Via) (text : Bytes) (x : List Nat) (args : List (List Nat × List Nat)) (n : Nat) (d : Dev) : Prop :=
  (numberIn .plain x = .ok (n : Int)) ∧ (n < 2) ∧ ((zeroes via text x args n) d ∧ inputHeld d n = true)
abbrev in27 (via : Via) (text : Bytes) (x : List Nat) (args : List (List Nat × List Nat)) (n : Nat) (d : Dev) : Prop :=
  (numberIn .plain x = .ok (n : Int)) ∧ (n < 2) ∧ ((zeroes via text x args n) d ∧ d.sw.furrows = [] ∧ ((d.enc n).net.1 + d.ck.phase) / 4 ≠ (d.ns + d.ck.phase) / 4)
abbrev in28 (via : Via) (text : Bytes) (x : List Nat) (args : List (List Nat × List Nat)) (n : Nat) (d : Dev) : Prop :=
  (numberIn .plain x = .ok (n : Int)) ∧ (n < 2) ∧ ((line via text args) "ENC" "ENC SHOW" "SHOW" [x] d ∧ args = [])

theorem witness_HeadRingAndEncoderVerbs :
    in0 uart (str "5 skew=1us policy=any") (ascii "5") ([(ascii "skew", ascii "1us"), (ascii "policy", ascii "any")]) 5 image ∧
    in2 uart (str "5") (ascii "5") ([]) 5 image ∧
    in6 uart (str "5") (ascii "5") ([]) 5 image ∧
    in14 uart ([]) ([]) (ringMaster 2 image) ∧
    in16 uart ([]) ([]) image ∧
    in18 uart ([]) ([]) (ringMember 7 2 image) ∧
    in22 uart ([]) ([]) (ringMaster 2 image) ∧
    in24 uart (str "1 mode=se filter=255") (ascii "1") ([(ascii "mode", ascii "se"), (ascii "filter", ascii "255")]) 1 image ∧
    in1 uart (str "5 skew=1us policy=any") (ascii "5") ([(ascii "skew", ascii "1us"), (ascii "policy", ascii "any")]) 5 image ∧
    in1 uart (str "5 policy=same") (ascii "5") ([(ascii "policy", ascii "same")]) 5 (ws [(F.HP_POLICY_ANY, 63), (F.HP_TCFG_SKEW 5, 77)] image) ∧
    in3 uart (str "5") (ascii "5") ([]) 5 (image.w (F.HP_STAT_STATE 5) 2) ∧
    in4 uart (str "5") (ascii "5") ([]) 5 (image.w (F.HP_STAT_STATE 5) 3) ∧
    in5 uart (str "5") (ascii "5") ([]) 5 (image.w (F.HP_STAT_STATE 5) 1) ∧
    in7 uart (str "5") (ascii "5") ([]) 5 (image.w (F.HP_STAT_STATE 5) 3) ∧
    in7 uart (str "5") (ascii "5") ([]) 5 (image.w (F.HP_STAT_STATE 5) 1) ∧
    in8 uart (str "5") (ascii "5") ([]) 5 ({ image.w (F.HP_STAT_STATE 5) 2 with st := { evPath := 1 } }) ∧
    in9 uart (str "5") (ascii "5") ([]) 5 (image.w (F.HP_STAT_STATE 5) 2) ∧
    in10 uart (str "5") (ascii "5") ([]) 5 (image.w (F.HP_STAT_STATE 5) 1) ∧
    in11 uart (str "5") (ascii "5") ([]) 5 image ∧
    in11 uart (str "5") (ascii "5") ([]) 5 (image.w (F.HP_STAT_STATE 5) 3) ∧
    in11 uart (str "5") (ascii "5") ([]) 5 ((image.onH 5 fun h => { h with bye := true, byeEnd := 9 }).w (F.HP_STAT_STATE 5) 2) ∧
    in12 uart (str "5") (ascii "5") ([]) 5 image ∧
    in13 uart ([]) ([]) image ∧
    in15 uart ([]) ([]) (ringMaster 2 image) ∧
    in17 uart ([]) ([]) (ringMember 7 3 image) ∧
    in17 uart ([]) ([]) (ringMember 7 4 image) ∧
    in19 uart ([]) ([]) image ∧
    in20 uart ([]) ([]) (ringMember 7 2 image) ∧
    in21 uart ([]) ([]) image ∧
    in21 uart ([]) ([]) (ringMember 7 4 image) ∧
    in23 uart ([]) ([]) (ringMaster 2 (image.w F.SR_MEM_MEM 16385)) ∧
    in23 uart ([]) ([]) image ∧
    in25 uart (str "1 mode=se filter=255 scale=2.5") (ascii "1") ([(ascii "mode", ascii "se"), (ascii "filter", ascii "255"), (ascii "scale", ascii "2.5")]) 1 image ∧
    in25 uart (str "1 term=on") (ascii "1") ([(ascii "term", ascii "on")]) 1 (image.w (F.EN_CFG_FILTER 1) 9) ∧
    in26 uart (str "1 pos=77") (ascii "1") ([(ascii "pos", ascii "77")]) 1 ((oneF 9 { state := .sown } image).w (F.SWF_CFG_SRC 9) 1) ∧
    in27 uart (str "1 pos=77") (ascii "1") ([(ascii "pos", ascii "77")]) 1 ({ image with ns := 400 }) ∧
    in28 uart (str "1") (ascii "1") ([]) 1 (image.w (F.EN_STAT_BURST 1) 1) := by
  refine ⟨?_, ?_, ?_, ?_, ?_, ?_, ?_, ?_, ?_, ?_, ?_, ?_, ?_, ?_, ?_, ?_, ?_, ?_, ?_, ?_, ?_, ?_, ?_, ?_, ?_, ?_, ?_, ?_, ?_, ?_, ?_, ?_, ?_, ?_, ?_, ?_, ?_⟩ <;> decide +kernel

end W_HeadRingAndEncoderVerbs

namespace W_SerialPorts

abbrev n (ctrl : Word)  := ctrl.toNat
abbrev in0 (ctrl : Word) (d : Dev) : Prop :=
  d.sp.held = none ∧ d.sp.cq.length < 16 ∧ cqReserved (n ctrl) = false
abbrev in1 (ctrl : Word) (d : Dev) : Prop :=
  d.sp.held = none ∧ 16 ≤ d.sp.cq.length ∧ cqReserved (n ctrl) = false
abbrev in2 (ctrl : Word) (d : Dev) : Prop :=
  d.sp.held = none ∧ d.sp.cq.length < 16 ∧ cqReserved (n ctrl) = true
abbrev open' (d : Dev) : Prop := d.awake = true ∧ d.r F.SP_CTL_EN ≠ 0 ∧ d.sp.bus = none ∧ d.sp.held = none
abbrev in4 (e : CqEntry) (r : List CqEntry) (d : Dev) : Prop :=
  open' d ∧ d.gr.places = [] ∧ d.sp.fill = none ∧ d.sp.ww = [] ∧ d.sp.disc = none ∧ d.sp.cq = e :: r ∧ entryReady d e = true ∧ d.sp.feed = [] ∧
       d.sp.lost = none
abbrev in9 (n : Nat) (w : WriteWait) (d : Dev) : Prop :=
  (w.due = true) ∧ (open' d ∧ d.gr.places = [] ∧ d.sp.fill = none ∧ d.sp.ww = [(n, w)])
abbrev in10 (a : Nat) (n : Nat) (x : Nat) (d : Dev) : Prop :=
  open' d ∧ d.gr.places = [] ∧ d.sp.fill = some a ∧ fillNow d = some (n, x)
abbrev in11 (x : Fetch) (e : Nat) (d : Dev) : Prop :=
  (x.deadline = some e) ∧ (open' d ∧ presented d = some x ∧ urgent d e = true ∧ fetchBad d x = false)
abbrev in12 (d : Dev) : Prop :=
  ¬ open' d
abbrev ended (o : BusOp) (d : Dev) : Prop := d.sp.bus = some o ∧ o.stop ≤ d.ns
abbrev in24 (o : BusOp) (e : CqEntry) (d : Dev) : Prop :=
  (o.op = .run e) ∧ (e.cont = false) ∧ (ended o) d
abbrev in25 (o : BusOp) (e : CqEntry) (d : Dev) : Prop :=
  (o.op = .run e) ∧ (e.cont = true) ∧ ((ended o) d ∧ d.sp.cq = [])
abbrev in26 (o : BusOp) (n : Nat) (w : WriteWait) (d : Dev) : Prop :=
  (o.op = .poll n) ∧ ((ended o) d ∧ Tab.get? d.sp.ww n = some w ∧ d.r F.SP_CTL_WTMO = 0)
abbrev in27 (bytes : Bytes) (o : BusOp) (n : Nat) (d : Dev) : Prop :=
  (o.op = .disc n 0) ∧ (o.sel = n) ∧ (n < 4) ∧ (le ((Bytes.nats bytes).take 3) ≠ 0) ∧ (le ((Bytes.nats bytes).take 3) ≠ 0xFFFFFF) ∧ ((ended o) d ∧ d.r (F.SP_ID_PRESENT n) = 0 ∧ d.sp.disc.isSome = true)
abbrev in28 (o : BusOp) (d : Dev) : Prop :=
  d.sp.bus = some o ∧ d.ns < o.stop
abbrev cyc (d : Dev) (x : Nat) : Nat := (x + d.ck.phase) / 8
abbrev in29 (h : Held) (d : Dev) : Prop :=
  d.sp.held = some h ∧ cyc d h.stop < cyc d d.ns
abbrev in30 (h : Held) (d : Dev) : Prop :=
  d.sp.held = some h ∧ cyc d d.ns ≤ cyc d h.stop
abbrev in31 (n : Fin 4) (w : WriteWait) (d : Dev) : Prop :=
  Tab.get? d.sp.ww n = some w ∧ w.start + 1000 * (w.k * max (d.r F.SP_CTL_PIVL) 1) ≤ d.ns ∧ w.due = false ∧ d.sp.bus = none ∧
      d.r F.SP_CTL_EN = 1
abbrev in32 (n : Fin 4) (w : WriteWait) (d : Dev) : Prop :=
  Tab.get? d.sp.ww n = some w ∧ d.ns < w.start + 1000 * (w.k * max (d.r F.SP_CTL_PIVL) 1)
abbrev in33 (n : Fin 4) (w : WriteWait) (d : Dev) : Prop :=
  Tab.get? d.sp.ww n = some w ∧ d.r F.SP_CTL_WTMO ≠ 0 ∧ cyc d (w.start + 1000000 * d.r F.SP_CTL_WTMO) < cyc d d.ns
abbrev in34 (n : Fin 4) (w : WriteWait) (d : Dev) : Prop :=
  Tab.get? d.sp.ww n = some w ∧ (d.r F.SP_CTL_WTMO = 0 ∨ cyc d d.ns ≤ cyc d (w.start + 1000000 * d.r F.SP_CTL_WTMO))
abbrev in35 (m : BitVec 4) (d : Dev) : Prop :=
  d.sp.disc = none ∧ m ≠ 0
abbrev in36 (d : Dev) : Prop :=
  d.sp.disc ≠ none
abbrev in37 (w : Nat) (r : List Nat) (d : Dev) : Prop :=
  d.sp.held = none ∧ d.sp.rx = w :: r
abbrev in38 (d : Dev) : Prop :=
  d.sp.held = none ∧ d.sp.rx = []
abbrev in39 (d : Dev) : Prop :=
  d.r F.SP_SCTL_EN = 1 ∧ d.awake = true ∧ d.ck.silent = false ∧ d.sp.active = false
abbrev in41 (d : Dev) : Prop :=
  d.sp.active = true
abbrev inFrame (mode room : Bool) (d : Dev) : Prop := d.sp.active = true ∧ d.sp.taken = true ∧ d.r F.SP_SCTL_EN = 1 ∧ d.sp.wakeDrop = false ∧
      d.sp.mode = mode ∧ d.sp.room = room ∧ d.st.out = [] ∧ d.st.store = []
abbrev in42 (bytes : Bytes) (x : Fin 8) (d : Dev) : Prop :=
  (bytes ≠ []) ∧ (x = 0) ∧ (bytes.length ≤ 1016) ∧ (inFrame false true) d
abbrev in43 (bytes : Bytes) (x : Fin 8) (d : Dev) : Prop :=
  (bytes ≠ []) ∧ (x = 0) ∧ (bytes.length ≤ 1016) ∧ (inFrame true true) d
abbrev in44 (bytes : Bytes) (x : Fin 8) (d : Dev) : Prop :=
  (bytes ≠ []) ∧ (x ≠ 0) ∧ (bytes.length ≤ 1016) ∧ (inFrame false true) d
abbrev in45 (bytes : Bytes) (x : Fin 8) (d : Dev) : Prop :=
  (bytes ≠ []) ∧ (x ≠ 0) ∧ (bytes.length ≤ 1016) ∧ (inFrame true true) d
abbrev in46 (bytes : Bytes) (d : Dev) : Prop :=
  (bytes ≠ []) ∧ (1016 < bytes.length) ∧ (inFrame false true) d
abbrev in47 (bytes : Bytes) (d : Dev) : Prop :=
  (bytes ≠ []) ∧ (inFrame false false) d
abbrev in49 (bytes : Bytes) (d : Dev) : Prop :=
  (bytes ≠ []) ∧ (d.sp.active = true ∧ d.sp.wakeDrop = true ∧ d.st.out = [] ∧ d.st.store = [])
abbrev in51 (d : Dev) : Prop :=
  d.sp.tx.length < 1024
abbrev in52 (d : Dev) : Prop :=
  1024 ≤ d.sp.tx.length
abbrev c (ctrl : Word) (d : Dev) : CqEntry := ⟨(n ctrl), d.r F.SP_CQA_ADDR, d.r F.SP_CQD_DATA, none⟩
abbrev in3 (ctrl : Word) (h : Held) (d : Dev) : Prop :=
  d.sp.held = some h ∧ d.sp.cq = [] ∧ d.sp.feed = [] ∧ d.sp.lost = none ∧ d.sp.disc = none ∧ d.r F.SP_CTL_EN = 1 ∧
         cqReserved (n ctrl) = false ∧ ((c ctrl) d).sel = h.last.sel ∧ entryReady d ((c ctrl) d) = true ∧ (h.stop + d.ck.phase) / 8 = (d.ns + d.ck.phase) / 8
abbrev in5 (e : CqEntry) (x : CqEntry) (r : List CqEntry) (was : Bool) (d : Dev) : Prop :=
  open' d ∧ d.gr.places = [] ∧ d.sp.fill = none ∧ d.sp.ww = [] ∧ d.sp.disc = none ∧ d.sp.cq = e :: r ∧ entryReady d e = true ∧ d.sp.feed = [] ∧
       d.sp.lost = some (d.ns, x, was)
abbrev in6 (n : Nat) (k : Nat) (l : List Nat) (d : Dev) : Prop :=
  open' d ∧ d.gr.places = [] ∧ d.sp.fill = none ∧ d.sp.ww = [] ∧ d.sp.disc = some ⟨n :: l, 0, 0, k⟩
abbrev in7 (n : Nat) (k : Nat) (l : List Nat) (e : CqEntry) (r : List CqEntry) (w : WriteWait) (d : Dev) : Prop :=
  (w.due = false) ∧ (open' d ∧ d.gr.places = [] ∧ d.sp.fill = none ∧ d.sp.ww = [(n, w)] ∧ d.sp.disc = some ⟨n :: l, 0, 0, k + 1⟩ ∧
           d.sp.cq = e :: r ∧ entryReady d e = true ∧ d.sp.feed = [] ∧ d.sp.lost = none)
abbrev in8 (n : Nat) (l : List Nat) (w : WriteWait) (d : Dev) : Prop :=
  (w.due = false) ∧ (open' d ∧ d.gr.places = [] ∧ d.sp.fill = none ∧ d.sp.ww = [(n, w)] ∧ d.sp.disc = some ⟨n :: l, 0, 0, 0⟩)
abbrev in40 (d : Dev) : Prop :=
  d.sp.active = false ∧ ((d.r F.SP_SCTL_EN = 0 ∧ d.awake = true) ∨ d.ck.ladder = .nap ∨ d.ck.ladder = .fallow)
abbrev in48 (bytes : Bytes) (d : Dev) : Prop :=
  (bytes ≠ []) ∧ (d.sp.active = true ∧ d.sp.wakeDrop = false ∧ (d.sp.taken = false ∨ d.r F.SP_SCTL_EN = 0) ∧ d.st.out = [] ∧ d.st.store = [])
abbrev in50 (bytes : Bytes) (d : Dev) : Prop :=
  (bytes ≠ []) ∧ (d.sp.active = false ∧ d.st.out = [] ∧ d.st.store = [])
abbrev in13 (d : Dev) : Prop :=
  (d.ck.brown = false) ∧ (d.sp.bus = none) ∧ (d.sp.held = none)
abbrev in16 (d : Dev) (o : BusOp) : Prop :=
  (d.ck.brown = false) ∧ (d.sp.bus = some o) ∧ (o.start ≤ d.ns) ∧ (d.ns < o.stop)
abbrev in20 (d : Dev) : Prop :=
  (d.ck.brown = false)

theorem witness_SerialPorts_0 :
    in0 0x1F ({ live with sp := { cq := List.replicate 15 ⟨1, 2, 3, none⟩ } }) ∧
    in1 0x1F ({ live with sp := { cq := List.replicate 16 ⟨1, 2, 3, none⟩ } }) ∧
    in2 0x07000000 live ∧
    in4 (⟨0x40, 5, 6, none⟩) ([⟨1, 2, 3, none⟩]) (ws [(F.SP_CTL_EN, 1)] { live with ns := 1000, sp := { cq := [⟨0x40, 5, 6, none⟩, ⟨1, 2, 3, none⟩] } }) ∧
    in4 (⟨0xA9403703, 5, 6, none⟩) ([]) (ws [(F.SP_CTL_EN, 1)] { live with ns := 1000, sp := { cq := [⟨0xA9403703, 5, 6, none⟩], rose := [(1, 990)], rx := List.replicate 15 1 } }) ∧
    in9 3 (⟨100, 2, true⟩) (ws [(F.SP_CTL_EN, 1)] { live with sp := { cq := [⟨0x40, 5, 6, none⟩], ww := [(3, ⟨100, 2, true⟩)], rose := [(3, 0)] } }) ∧
    in10 0x60000020 0 32 (ws [(F.SP_CTL_EN, 1), (F.SP_ID_PRESENT 0, 1), (F.SP_SEL_XEN 0, 1), (F.SP_XWIN_EN 0, 1)] { live with sp := { fill := some 0x60000020, cq := [⟨0x40, 5, 6, none⟩] } }) ∧
    in11 (⟨7, 9, 0, some 5000, false⟩) 5000 (ws [(F.SP_CTL_EN, 1), (F.SP_ID_PRESENT 0, 1), (F.SP_SEL_GEN 0, 1), (F.SP_XWIN_EN 0, 1)] { live with tlt := 4000, gr := { places := [⟨7, 9, 0, some 5000, false⟩], pte := [(7 * 256 + 9, ⟨true, false, 0, 3⟩)] } }) ∧
    in12 (live.w F.SP_CTL_EN 0) ∧
    in24 (⟨.run ⟨0x11400003, 0, 0, none⟩, 0, 4, 100, 500, 16, [3]⟩) (⟨0x11400003, 0, 0, none⟩) ({ live with ns := 500, sp := { bus := some ⟨.run ⟨0x11400003, 0, 0, none⟩, 0, 4, 100, 500, 16, [3]⟩ } }) ∧
    in25 (⟨.run ⟨0x81400003, 0, 0, none⟩, 0, 4, 100, 500, 16, [3]⟩) (⟨0x81400003, 0, 0, none⟩) ({ live with ns := 500, sp := { bus := some ⟨.run ⟨0x81400003, 0, 0, none⟩, 0, 4, 100, 500, 16, [3]⟩ } }) ∧
    in26 (⟨.poll 3, 3, 4, 100, 500, 16, [3]⟩) 3 (⟨100, 2, false⟩) ({ live with ns := 500, sp := { bus := some ⟨.poll 3, 3, 4, 100, 500, 16, [3]⟩, ww := [(3, ⟨100, 2, false⟩)] } }.w F.SP_CTL_WTMO 0) ∧
    in27 (bts [1, 2, 3, 4]) (⟨.disc 3 0, 3, 4, 100, 500, 16, [3]⟩) 3 ({ live with ns := 500, sp := { bus := some ⟨.disc 3 0, 3, 4, 100, 500, 16, [3]⟩, disc := some ⟨[3], 0, 0, 0⟩ } }) ∧
    in28 (⟨.run ⟨0x11400003, 0, 0, none⟩, 0, 4, 100, 500, 16, [3]⟩) ({ live with ns := 499, sp := { bus := some ⟨.run ⟨0x11400003, 0, 0, none⟩, 0, 4, 100, 500, 16, [3]⟩ } }) ∧
    in29 (⟨⟨0x40, 5, 6, none⟩, 900, 16⟩) ({ live with ns := 912, sp := { held := some ⟨⟨0x40, 5, 6, none⟩, 900, 16⟩, cq := [⟨1, 2, 3, none⟩] } }) ∧
    in30 (⟨⟨0x40, 5, 6, none⟩, 900, 16⟩) ({ live with ns := 902, sp := { held := some ⟨⟨0x40, 5, 6, none⟩, 900, 16⟩, cq := [⟨1, 2, 3, none⟩] } }) ∧
    in31 3 (⟨100, 2, false⟩) (ws [(F.SP_CTL_EN, 1), (F.SP_CTL_PIVL, 3)] { live with ns := 6100, sp := { ww := [(3, ⟨100, 2, false⟩)] } }) ∧
    in32 3 (⟨100, 2, false⟩) (ws [(F.SP_CTL_EN, 1), (F.SP_CTL_PIVL, 3)] { live with ns := 6099, sp := { ww := [(3, ⟨100, 2, false⟩)] } }) ∧
    in33 3 (⟨100, 2, false⟩) (ws [(F.SP_CTL_WTMO, 2), (F.SP_SEL_GEN 3, 1), (F.SP_SEL_XEN 3, 1)] { live with ns := 2000112, sp := { ww := [(3, ⟨100, 2, false⟩)] } }) ∧
    in34 3 (⟨100, 2, true⟩) (ws [(F.SP_CTL_WTMO, 0)] { live with ns := 2000112, sp := { ww := [(3, ⟨100, 2, true⟩)] } }) ∧
    in34 3 (⟨100, 2, false⟩) (ws [(F.SP_CTL_WTMO, 2)] { live with ns := 2000103, sp := { ww := [(3, ⟨100, 2, false⟩)] } }) ∧
    in35 9 live ∧
    in36 ({ live with sp := { disc := some ⟨[3], 0, 0, 0⟩ } }) ∧
    in37 7 ([8]) ({ live with sp := { rx := [7, 8] } }) ∧
    in38 live ∧
    in39 (ws [(F.SP_SCTL_EN, 1), (F.SP_SCTL_MODE, 1)] { live with sp := { tx := List.replicate 300 7 } }) ∧
    in41 ({ live with sp := { active := true, room := true } }) ∧
    in42 (bts [1, 2, 3, 4]) 0 ((ws [(F.SP_SSTAT_ACTIVE, 1)] { live with sp := { active := true, taken := true, room := true, tx := [1, 2, 3, 4], lat := 4 } }).w F.SP_SCTL_EN 1) ∧
    in43 (bts [1, 2, 3, 4]) 0 (({ live with sp := { active := true, taken := true, room := true, mode := true, tx := [1, 2, 3, 4], lat := 4 } }).w F.SP_SCTL_EN 1) ∧
    in44 (bts [1, 2, 3, 4]) 7 (({ live with sp := { active := true, taken := true, room := true, tx := [1, 2, 3, 4], lat := 4 } }).w F.SP_SCTL_EN 1) ∧
    in45 (bts [1, 2, 3, 4]) 7 (({ live with sp := { active := true, taken := true, room := true, mode := true, tx := [1, 2, 3, 4], lat := 4 } }).w F.SP_SCTL_EN 1) ∧
    in46 (List.replicate 1017 1) (({ live with sp := { active := true, taken := true, room := true } }).w F.SP_SCTL_EN 1) ∧
    in47 (bts [1, 2, 3, 4]) (({ live with sp := { active := true, taken := true } }).w F.SP_SCTL_EN 1) ∧
    in49 (bts [1, 2, 3, 4]) ({ live with sp := { active := true, wakeDrop := true, tx := [1, 2] } }) ∧
    in51 ({ live with sp := { tx := List.replicate 1023 1 } }) ∧
    in52 ({ live with sp := { tx := List.replicate 1024 1 } }) ∧
    in3 0x00400000 (⟨⟨0x40, 5, 6, none⟩, 900, 16⟩) (ws [(F.SP_CTL_EN, 1)] { live with ns := 903, sp := { held := some ⟨⟨0x40, 5, 6, none⟩, 900, 16⟩ } }) ∧
    in5 (⟨0x40, 5, 6, none⟩) (⟨7, 8, 9, none⟩) ([⟨1, 2, 3, none⟩]) true (ws [(F.SP_CTL_EN, 1)] { live with ns := 1000, sp := { cq := [⟨0x40, 5, 6, none⟩, ⟨1, 2, 3, none⟩], lost := some (1000, ⟨7, 8, 9, none⟩, true) } }) ∧
    in6 3 2 ([1]) (ws [(F.SP_CTL_EN, 1)] { live with ns := 1000, sp := { cq := [⟨0x40, 5, 6, none⟩], disc := some ⟨[3, 1], 0, 0, 2⟩, rose := [(3, 990)] } }) ∧
    in7 3 2 ([]) (⟨0x40, 5, 6, none⟩) ([⟨1, 2, 3, none⟩]) (⟨100, 2, false⟩) (ws [(F.SP_CTL_EN, 1)] { live with ns := 1000, sp := { cq := [⟨0x40, 5, 6, none⟩, ⟨1, 2, 3, none⟩], ww := [(3, ⟨100, 2, false⟩)], disc := some ⟨[3], 0, 0, 3⟩ } }) := by
  refine ⟨?_, ?_, ?_, ?_, ?_, ?_, ?_, ?_, ?_, ?_, ?_, ?_, ?_, ?_, ?_, ?_, ?_, ?_, ?_, ?_, ?_, ?_, ?_, ?_, ?_, ?_, ?_, ?_, ?_, ?_, ?_, ?_, ?_, ?_, ?_, ?_, ?_, ?_, ?_, ?_⟩ <;> decide +kernel

theorem witness_SerialPorts_1 :
    in8 3 ([]) (⟨100, 2, false⟩) (ws [(F.SP_CTL_EN, 1)] { live with ns := 1000, sp := { cq := [⟨0x40, 5, 6, none⟩], ww := [(3, ⟨100, 2, false⟩)], disc := some ⟨[3], 0, 0, 0⟩ } }) ∧
    in40 live ∧
    in40 ({ live with ck := { live.ck with ladder := .nap }, sp := { tx := [1] } }) ∧
    in48 (bts [1, 2, 3, 4]) ((ws [(F.SP_SSTAT_ACTIVE, 1)] { live with sp := { active := true, taken := true, tx := [1, 2, 3, 4], lat := 4 } })) ∧
    in48 (bts [1, 2, 3, 4]) (ws [(F.SP_SCTL_EN, 1), (F.SP_SSTAT_ACTIVE, 1)] { live with sp := { active := true, tx := [1, 2, 3, 4] } }) ∧
    in50 (bts [1, 2, 3, 4]) ({ live with sp := { wakeDrop := true } }) ∧
    in50 (bts [1, 2, 3, 4]) live ∧
    in13 live ∧
    in13 live ∧
    in13 live ∧
    in16 ({ live with ns := 100, sp := { bus := some ⟨.run ⟨0x11400003, 0, 0, none⟩, 2, 4, 100, 500, 16, [3]⟩ } }) (⟨.run ⟨0x11400003, 0, 0, none⟩, 2, 4, 100, 500, 16, [3]⟩) ∧
    in16 ({ live with ns := 100, sp := { bus := some ⟨.run ⟨0x11400003, 0, 0, none⟩, 2, 4, 100, 500, 16, [3]⟩ } }) (⟨.run ⟨0x11400003, 0, 0, none⟩, 2, 4, 100, 500, 16, [3]⟩) ∧
    in16 ({ live with ns := 100, sp := { bus := some ⟨.run ⟨0x11400003, 0, 0, none⟩, 2, 4, 100, 500, 16, [3]⟩ } }) (⟨.run ⟨0x11400003, 0, 0, none⟩, 2, 4, 100, 500, 16, [3]⟩) ∧
    in16 ({ live with ns := 100, sp := { bus := some ⟨.run ⟨0x11400003, 0, 0, none⟩, 2, 4, 100, 500, 16, [3]⟩ } }) (⟨.run ⟨0x11400003, 0, 0, none⟩, 2, 4, 100, 500, 16, [3]⟩) ∧
    in20 ({ live with sp := { active := true, taken := true, lat := 2, tx := [7, 8, 9] } }) ∧
    in20 ({ live with sp := { active := true, taken := true, lat := 2, tx := [7, 8, 9] } }) ∧
    in20 ({ live with sp := { active := true, taken := true, lat := 2, tx := [7, 8, 9] } }) ∧
    in20 ({ live with sp := { active := true, taken := true, lat := 2, tx := [7, 8, 9] } }) ∧
    in20 live ∧
    in20 slave ∧
    in20 ({ slave with sp := { tx := List.replicate 1024 1 } }) := by
  refine ⟨?_, ?_, ?_, ?_, ?_, ?_, ?_, ?_, ?_, ?_, ?_, ?_, ?_, ?_, ?_, ?_, ?_, ?_, ?_, ?_, ?_⟩ <;> decide +kernel

end W_SerialPorts

namespace W_PinEngines

abbrev cyc (d : Dev) (x : Nat) : Nat := (x + d.ck.phase) / 4
abbrev due (n : Fin 8) (d : Dev) : Prop := (d.r (F.PE_CTL_RUN n) ≠ 0 ∨ (d.eng n).stopAt.any (fun x => decide (cyc d x = cyc d d.ns)) = true) ∧ d.awake = true ∧
      cyc d (d.eng n).next ≤ cyc d d.ns
abbrev count (n : Fin 8) (d : Dev) : Nat := min (d.r (F.PE_TMR_TCNT n) + 1) 65535
abbrev limit (n : Fin 8) (d : Dev) : Nat := d.r (F.PE_TMR_LIMIT n)
abbrev inputs (d : Dev) : Prop := d.awake = true ∧ d.gpWas = [] ∧ ∀ g, g < 16 → gpDriven d g = none
abbrev in2 (n : Fin 8) (d : Dev) : Prop :=
  inputs d ∧ ¬ (due n) d
abbrev in5 (n : Fin 8) (s : State) : Prop :=
  ((due n) s.dev) ∧ ((limit n) s.dev ≠ 0) ∧ ((limit n) s.dev ≤ (count n) s.dev) ∧ (s.dev.r (F.PE_TMR_TCNT n) < (limit n) s.dev)
abbrev in6 (n : Fin 8) (d : Dev) : Prop :=
  inputs d ∧ ((limit n) d = 0 ∨ (count n) d < (limit n) d)
abbrev in7 (n : Fin 8) (d : Dev) : Prop :=
  d.r (F.PE_CTL_RUN n) = 0 ∧ d.gpWas = [] ∧ gpPins d n = []
abbrev in9 (n : Fin 8) (d : Dev) : Prop :=
  d.r (F.PE_CTL_RUN n) ≠ 0
abbrev in0 (n : Fin 8) (d : Dev) : Prop :=
  (due n) d
abbrev in1 (n : Fin 8) (d : Dev) : Prop :=
  (due n) d ∧ (limit n) d ≠ 0 ∧ (limit n) d ≤ (count n) d ∧ d.r (F.PE_TMR_TCNT n) < (limit n) d
abbrev in3 (d : Dev) : Prop :=
  d.awake = false
abbrev in4 (g : Nat) (v : Bool) (d : Dev) : Prop :=
  (g < 16) ∧ (d.awake = true ∧ d.gpWas = [] ∧ gpDriven d g = some v)
abbrev in8 (n : Fin 8) (d : Dev) : Prop :=
  d.r (F.PE_CTL_RUN n) = 0

theorem witness_PinEngines :
    in2 7 (ws [(F.PE_CTL_RUN 7, 1)] { live with ns := 39, pe := [(7, { next := 40 })] }) ∧
    in5 7 (⟨ws [(F.PE_CTL_RUN 7, 1), (F.PE_TMR_LIMIT 7, 3), (F.PE_TMR_TCNT 7, 2)] { live with ns := 40, pe := [(7, { next := 40 })] }, []⟩) ∧
    in6 7 (ws [(F.PE_CTL_RUN 7, 1), (F.PE_TMR_LIMIT 7, 3), (F.PE_TMR_TCNT 7, 1)] live) ∧
    in7 7 (ws [(F.PE_CTL_INIT 7, 5), (F.PE_CTL_OINIT 7, 15), (F.PE_TMR_TCNT 7, 15)] { live with pe := [(7, { lut := [(3, 4)], fire := true })] }) ∧
    in9 7 (ws [(F.PE_CTL_RUN 7, 1)] live) ∧
    in0 7 (ws [(F.PE_CTL_RUN 7, 1), (F.PE_TMR_LIMIT 7, 3), (F.PE_TMR_TCNT 7, 2), (F.PE_DATA_STATE 7, 5), (F.PE_DATA_IN 7, 3)] { live with ns := 43, pe := [(7, { next := 41, lut := [(0x25, 0x6F), (5, 0x79)] })] }) ∧
    in0 7 (ws [(F.PE_DATA_STATE 7, 15), (F.PE_DATA_OUT 7, 9)] { live with ns := 43, pe := [(7, { next := 40, stopAt := some 42, lut := [(15, 0xFF)] })] }) ∧
    in0 7 (ws [(F.PE_CTL_RUN 7, 1), (F.PE_TMR_LIMIT 7, 3), (F.PE_TMR_TCNT 7, 2), (F.PE_INSEL_SEL0 7, 18)] { live with ns := 43, pe := [(7, { next := 41, prev := 0, fire := true })] }) ∧
    in1 7 (ws [(F.PE_CTL_RUN 7, 1), (F.PE_TMR_LIMIT 7, 3), (F.PE_TMR_TCNT 7, 2)] { live with ns := 43, pe := [(7, { next := 41 })] }) ∧
    in3 ({ live with ck := { live.ck with ladder := .nap } }) ∧
    in4 3 true (ws [(F.PE_OUTSEL_EN1 2, 1), (F.PE_OUTSEL_PIN1 2, 3), (F.PE_DATA_OUT 2, 2)] live) ∧
    in4 3 false (ws [(F.PE_OUTSEL_EN1 2, 1), (F.PE_OUTSEL_PIN1 2, 3), (F.PE_CTL_RUN 7, 1)] live) ∧
    in8 7 (ws [(F.PE_CTL_INIT 7, 5), (F.PE_CTL_OINIT 7, 15), (F.PE_TMR_TCNT 7, 15)] { live with pe := [(7, { lut := [(3, 4)], fire := true })] }) ∧
    in9 7 (ws [(F.PE_CTL_RUN 7, 1)] live) ∧
    in8 7 live := by
  refine ⟨?_, ?_, ?_, ?_, ?_, ?_, ?_, ?_, ?_, ?_, ?_, ?_, ?_, ?_, ?_⟩ <;> decide +kernel

end W_PinEngines

namespace W_EncoderInputs

abbrev live0 (n : Fin 2) (d : Dev) : Prop := d.awake = true ∧ (d.enc n).ready = true
abbrev forward (a b a' b' : Bool) : Prop := (a, b, a', b') ∈ [(false, false, true, false), (true, false, true, true), (true, true, false, true), (false, true, false, false)]
abbrev cyc (d : Dev) (x : Nat) : Nat := (x + d.ck.phase) / 4
abbrev filt (n : Fin 2) (d : Dev) (v : Bool) (g : Glitch) : Glitch :=
      let since : Nat := if v = g.raw then g.since else d.ns
      ⟨if d.r (F.EN_CFG_FILTER n) ≤ cyc d d.ns - cyc d since then v else g.acc, v, since⟩
abbrev recent (d : Dev) (l : List Nat) : List Nat := l.filter fun t => decide (0 ≤ sd d.tlt t ∧ sd d.tlt t < 1000)
abbrev recentNs (d : Dev) (l : List Nat) : List Nat := l.filter fun t => decide (d.ns < t + 1000)
abbrev alone (n : Fin 2) (d : Dev) : Prop := (d.enc n).zAt.all (fun x => decide (cyc d x.1 ≠ cyc d d.ns)) = true
abbrev burst (n : Fin 2) (d : Dev) (cm : Bool) : Prop := (d.r (F.EN_BCFG_PLIM n) ≠ 0 ∧ d.r (F.EN_BCFG_PLIM n) < (recent d (d.enc n).counts).length) ∨
      (d.r (F.EN_CFG_MODE n) = 0 ∧ d.r (F.EN_BCFG_CM n) ≠ 0 ∧ cm = true) ∨ (d.r (F.EN_BCFG_QB n) ≠ 0 ∧ recentNs d (d.enc n).qerrs ≠ [])
abbrev over2 (n : Fin 2) (d : Dev) : Prop := (d.enc n).onset + 20000 ≤ d.ns ∨ (d.enc n).clear.any (fun c => decide (c + 2000 ≤ d.ns)) = true
abbrev quiet (d : Dev) : Prop := d.sw.slots = [] ∧ d.sw.furrows = []
abbrev due (n : Fin 2) (d : Dev) : Prop := d.awake = true ∧ (d.enc n).upd ≠ d.tlt / 1000 + 1
abbrev now (d : Dev) : Nat := d.tlt / 1000 * 1000
abbrev stopt (n : Fin 2) (d : Dev) : Int := (1000 * max (d.r (F.EN_BCFG_STOPT n)) 1 : Nat)
abbrev runs (n : Fin 2) (x : Nat) (d : Dev) : Prop := (due n) d ∧ d.r (F.EN_STAT_FROZEN n) = 0 ∧ (d.enc n).lastEdge = some x ∧ -((stopt n) d) ≤ sd x (now d)
abbrev in8 (n : Fin 2) (x : Nat) (d : Dev) : Prop :=
  (runs n x) d ∧ (d.enc n).edges.length < 2
abbrev in9 (n : Fin 2) (x : Nat) (e0 : Nat) (ek : Nat) (mid : List Nat) (d : Dev) : Prop :=
  (runs n x) d ∧ (d.enc n).edges = e0 :: (mid ++ [ek]) ∧ mid.length < max (d.r (F.EN_CFG_NAVG n)) 1
abbrev in10 (n : Fin 2) (x : Nat) (d : Dev) : Prop :=
  (due n) d ∧ d.r (F.EN_STAT_FROZEN n) = 0 ∧ (d.enc n).lastEdge = some x ∧ sd x (now d) < -((stopt n) d) ∧ d.sw.slots = []
abbrev in12 (n : Fin 2) (d : Dev) : Prop :=
  (due n) d ∧ d.r (F.EN_STAT_FROZEN n) ≠ 0 ∧ ¬(over2 n) d
abbrev in13 (n : Fin 2) (d : Dev) : Prop :=
  (d.awake = false ∨ (d.enc n).upd = d.tlt / 1000 + 1) ∧ (d.r (F.EN_STAT_FROZEN n) = 0 ∨ ¬(over2 n) d)
abbrev begins (n : Fin 2) (cm : Bool) (d : Dev) : Prop := d.awake = true ∧ (burst n) d cm ∧ d.r (F.EN_STAT_BURST n) = 0 ∧ d.sw.slots = []
abbrev in14 (n : Fin 2) (cm : Bool) (d : Dev) : Prop :=
  (begins n cm) d ∧ d.r (F.EN_STAT_FROZEN n) = 0
abbrev in17 (n : Fin 2) (cm : Bool) (d : Dev) : Prop :=
  d.awake = false ∨ ¬(burst n) d cm ∨ d.r (F.EN_STAT_BURST n) ≠ 0
abbrev in18 (n : Fin 2) (d : Dev) : Prop :=
  ¬(burst n) d false ∧ d.r (F.EN_STAT_BURST n) ≠ 0
abbrev in19 (n : Fin 2) (d : Dev) : Prop :=
  (burst n) d false ∨ d.r (F.EN_STAT_BURST n) = 0
abbrev in20 (n : Fin 2) (d : Dev) : Prop :=
  d.r (F.EN_STAT_FROZEN n) ≠ 0 ∧ (over2 n) d
abbrev in21 (n : Fin 2) (d : Dev) : Prop :=
  d.r (F.EN_STAT_FROZEN n) = 0 ∨ ¬(over2 n) d
abbrev put (n : Fin 2) (d : Dev) : Nat := d.r (F.EN_PSETL_POS n) + 2 ^ 32 * d.r (F.EN_PSETH_POS n)
abbrev met (n : Fin 2) (d : Dev) : Int := if cyc d (d.enc n).net.1 = cyc d d.ns then (d.enc n).net.2 else 0
abbrev in26 (d : Dev) : Prop :=
  d.sw.furrows = []
abbrev bound (n : Fin 2) (f : Nat) (u : Furrow) (d : Dev) : Prop := d.sw.furrows = [(f, u)] ∧ d.r (F.SWF_CFG_SRC f) = n
abbrev in27 (n : Fin 2) (f : Nat) (u : Furrow) (d : Dev) : Prop :=
  (bound n f u) d ∧ u.state = .sown
abbrev in28 (n : Fin 2) (f : Nat) (u : Furrow) (d : Dev) : Prop :=
  (bound n f u) d ∧ (met n) d = 0 ∧ u.state = .ready ∧ d.r (F.SWF_ATL_AT f) < 2 ^ 32 ∧ d.r (F.SWF_ATH_AT f) < 2 ^ 16 ∧ (put n) d < 2 ^ 48 ∧ d.r (F.SWF_EVERY_EVERY f) < 2 ^ 32 ∧
           d.r (F.SWF_EVERY_EVERY f) ≠ 0
abbrev in31 (d : Dev) : Prop :=
  d.r F.SR_STAT_STATE = 0
abbrev in32 (n : Fin 2) (d : Dev) : Prop :=
  d.r F.SR_STAT_STATE ≠ 0 ∧ d.r F.SR_STAT_MASTER ≠ 0 ∧ d.r F.EN_RING_RSRC = n
abbrev in33 (d : Dev) : Prop :=
  d.r F.SR_STAT_STATE ≠ 0 ∧ d.r F.SR_STAT_MASTER = 0
abbrev fa (n : Fin 2) (a : Bool) (d : Dev) : Glitch := (filt n) d a (d.enc n).a
abbrev fb (n : Fin 2) (b : Bool) (d : Dev) : Glitch := (filt n) d b (d.enc n).b
abbrev in0 (n : Fin 2) (d : Dev) : Prop :=
  d.awake = true ∧ (d.enc n).ready = false
abbrev in1 (d : Dev) : Prop :=
  d.ck.ladder = .fallow ∨ d.ck.ladder = .dormant ∨ (d.ck.ladder = .nap ∧ d.ck.xrun = false)
abbrev in2 (n : Fin 2) (a : Bool) (b : Bool) (d : Dev) : Prop :=
  (live0 n) d ∧ ((fa n a) d).acc = (d.enc n).a.acc ∧ ((fb n b) d).acc = (d.enc n).b.acc
abbrev in3 (n : Fin 2) (a : Bool) (b : Bool) (d : Dev) : Prop :=
  (live0 n) d ∧ ((fa n a) d).acc ≠ (d.enc n).a.acc ∧ ((fb n b) d).acc ≠ (d.enc n).b.acc ∧ (alone n) d
abbrev turns (n : Fin 2) (a : Bool) (b : Bool) (up : Bool) (d : Dev) : Prop := (live0 n) d ∧ (if up = (decide (d.r (F.EN_CFG_INV n) = 0)) then forward (d.enc n).a.acc (d.enc n).b.acc ((fa n a) d).acc ((fb n b) d).acc
          else forward ((fa n a) d).acc ((fb n b) d).acc (d.enc n).a.acc (d.enc n).b.acc)
abbrev in4 (n : Fin 2) (a : Bool) (b : Bool) (up : Bool) (d : Dev) : Prop :=
  (turns n a b up) d ∧ (alone n) d ∧ ((d.enc n).any = false ∨ (d.r (F.EN_STAT_DIR n) = 0 ↔ up = true))
abbrev in5 (n : Fin 2) (a : Bool) (b : Bool) (up : Bool) (d : Dev) : Prop :=
  (turns n a b up) d ∧ (alone n) d ∧ (d.enc n).any = true ∧ ¬(d.r (F.EN_STAT_DIR n) = 0 ↔ up = true) ∧ quiet d
abbrev in6 (n : Fin 2) (a : Bool) (b : Bool) (up : Bool) (k : Nat) (s : Slot) (d : Dev) : Prop :=
  (turns n a b up) d ∧ (alone n) d ∧ (d.enc n).any = true ∧ ¬(d.r (F.EN_STAT_DIR n) = 0 ↔ up = true) ∧ d.sw.slots = [(k, s)] ∧ d.sw.furrows = [] ∧
              d.sw.pend = [] ∧ (s.st = .armed ∨ s.st = .set) ∧ d.r (F.SWF_CFG_SRC s.f) = n ∧ d.r (F.SWF_CFG_HEADEN s.f) = 0
abbrev in7 (n : Fin 2) (a : Bool) (b : Bool) (up : Bool) (d : Dev) : Prop :=
  (turns n a b up) d ∧ (d.enc n).zAt.any (fun x => decide (cyc d x.1 = cyc d d.ns)) = true ∧ d.r (F.EN_CFG_ZGATE n) = 0 ∧ quiet d
abbrev in11 (n : Fin 2) (x : Nat) (d : Dev) : Prop :=
  (due n) d ∧ d.r (F.EN_STAT_FROZEN n) ≠ 0 ∧ (over2 n) d ∧ (d.enc n).lastEdge = some x ∧ -((stopt n) d) ≤ sd x (now d)
abbrev in16 (n : Fin 2) (cm : Bool) (d : Dev) : Prop :=
  (begins n cm) d ∧ d.r (F.EN_STAT_FROZEN n) ≠ 0 ∧ ¬(over2 n) d
abbrev in15 (n : Fin 2) (cm : Bool) (d : Dev) : Prop :=
  (begins n cm) d ∧ d.r (F.EN_STAT_FROZEN n) ≠ 0 ∧ (over2 n) d
abbrev gate (n : Fin 2) (d : Dev) : Prop := d.r (F.EN_CFG_ZGATE n) = 0 ∨ ((d.enc n).a.acc = true ∧ (d.enc n).b.acc = true)
abbrev fz (n : Fin 2) (z : Bool) (d : Dev) : Glitch := (filt n) d z (d.enc n).z
abbrev rises (n : Fin 2) (z : Bool) (d : Dev) : Prop := d.awake = true ∧ (d.enc n).zready = true ∧ ((fz n z) d).acc = true ∧ (d.enc n).z.acc = false
abbrev in22 (n : Fin 2) (d : Dev) : Prop :=
  d.awake = true ∧ (d.enc n).zready = false
abbrev in23 (n : Fin 2) (z : Bool) (d : Dev) : Prop :=
  (rises n z) d ∧ (gate n) d
abbrev in24 (n : Fin 2) (z : Bool) (d : Dev) : Prop :=
  (rises n z) d ∧ ¬(gate n) d
abbrev in25 (n : Fin 2) (z : Bool) (d : Dev) : Prop :=
  d.awake = true ∧ (d.enc n).zready = true ∧ (((fz n z) d).acc = false ∨ (d.enc n).z.acc = true)

theorem witness_EncoderInputs_0 :
    in8 1 4500 ({ live with tlt := 5100, en := [(1, { lastEdge := some 4500, edges := [4500], vel := 7 })] }) ∧
    in9 1 4500 4500 4000 ([4200]) ({ live with tlt := 5100, en := [(1, { lastEdge := some 4500, edges := [4500, 4200, 4000], vel := 7 })] }) ∧
    in9 1 4500 4500 4499 ([]) (ws [(F.EN_STAT_DIR 1, 1)] { live with tlt := 5100, en := [(1, { lastEdge := some 4500, edges := [4500, 4499], vel := 7 })] }) ∧
    in9 1 4500 5050 4983 ([]) (ws [(F.EN_STAT_DIR 1, 1)] { live with tlt := 5100, en := [(1, { lastEdge := some 4500, edges := [5050, 4983], vel := 7 })] }) ∧
    in10 1 3999 (ws [(F.EN_BCFG_STOPT 1, 1)] { live with tlt := 5100, en := [(1, { lastEdge := some 3999, edges := [3999, 4200, 4000], vel := 7 })] }) ∧
    in12 1 (ws [(F.EN_STAT_FROZEN 1, 1)] { live with tlt := 5100, en := [(1, { lastEdge := some 3999, edges := [3999], vel := 7 })] }) ∧
    in13 1 ({ live with tlt := 5999, en := [(1, { upd := 6 })] }) ∧
    in14 1 true (ws [(F.EN_BCFG_CM 1, 1)] { live with ns := 800 }) ∧
    in14 1 false (ws [(F.EN_BCFG_PLIM 1, 2)] { live with ns := 1800, tlt := 1800, en := [(1, { counts := [801, 802, 803] })] }) ∧
    in17 1 false (ws [(F.EN_BCFG_PLIM 1, 2)] { live with ns := 1801, en := [(1, { counts := [801, 802, 803] })] }) ∧
    in18 1 (ws [(F.EN_BCFG_CM 1, 1), (F.EN_STAT_BURST 1, 1)] { live with ns := 1800, en := [(1, { cm := true })] }) ∧
    in19 1 (ws [(F.EN_BCFG_CM 1, 1)] { live with ns := 1800, en := [(1, { cm := true })] }) ∧
    in20 1 (ws [(F.EN_STAT_FROZEN 1, 1)] { live with ns := 20005, en := [(1, { onset := 5, edges := [1] })] }) ∧
    in20 1 (ws [(F.EN_STAT_FROZEN 1, 1)] { live with ns := 8000, en := [(1, { onset := 5, edges := [1], clear := some 6000 })] }) ∧
    in21 1 (ws [(F.EN_STAT_FROZEN 1, 1)] { live with ns := 7999, en := [(1, { onset := 5, edges := [1], clear := some 6000 })] }) ∧
    in26 (ws [(F.EN_PSETL_POS 1, 9), (F.EN_PSETH_POS 1, 3), (F.EN_STAT_LQ 1, 1)] live) ∧
    in27 1 7 ({ state := .sown }) (ws [(F.SWF_CFG_SRC 7, 1)] (oneF 7 { state := .sown } live)) ∧
    in28 1 7 ({ state := .ready, more := true, miss := 2 }) (ws [(F.SWF_CFG_SRC 7, 1), (F.EN_PSETL_POS 1, 1000), (F.SWF_EVERY_EVERY 7, 50), (F.SWF_ATL_AT 7, 100)] (oneF 7 { state := .ready, more := true, miss := 2 } live)) ∧
    in28 1 7 ({ state := .ready, more := true, miss := 2 }) (ws [(F.SWF_CFG_SRC 7, 1), (F.EN_PSETL_POS 1, 100), (F.SWF_EVERY_EVERY 7, 1), (F.SWF_ATL_AT 7, 100)] (oneF 7 { state := .ready, more := true, miss := 2 } live)) ∧
    in31 (live.w F.SR_STAT_STATE 0) ∧
    in32 1 (ws [(F.SR_STAT_STATE, 4), (F.SR_STAT_MASTER, 1), (F.EN_RING_RSRC, 1)] { live with en := [(1, { pos := 2 ^ 40 + 5 })] }) ∧
    in33 (ws [(F.SR_STAT_STATE, 4)] { live with sr := { shownPos := 2 ^ 40 + 5 } }) ∧
    in0 1 live ∧
    in1 ({ live with ck := { live.ck with ladder := .fallow } }) ∧
    in1 ({ live with ck := { live.ck with ladder := .nap, xrun := false } }) ∧
    in2 1 true false ({ live with ns := 5000, en := [(1, { ready := true, a := ⟨false, false, 0⟩, b := ⟨false, false, 0⟩ })] }.w (F.EN_CFG_FILTER 1) 3) ∧
    in2 1 false false ({ live with ns := 5000, en := [(1, { ready := true, a := ⟨false, false, 0⟩, b := ⟨false, false, 0⟩ })] }) ∧
    in3 1 true true ({ live with ns := 5000, en := [(1, { ready := true, a := ⟨false, false, 0⟩, b := ⟨false, false, 0⟩, qerrs := [4001, 4000] })] }) ∧
    in3 1 true true ({ live with ns := 5000, en := [(1, { ready := true, a := ⟨false, false, 0⟩, b := ⟨false, false, 0⟩ })] }.w (F.EN_CNT_QERR 1) 65535) ∧
    in4 1 true false true ({ live with ns := 5000, tlt := 7, en := [(1, { ready := true, a := ⟨false, false, 0⟩, b := ⟨false, false, 0⟩, pos := 2 ^ 48 - 1, edges := [5, 4, 3], counts := [4001, 4000] })] }) ∧
    in4 1 true false true ({ live with ns := 5000, tlt := 7000, en := [(1, { ready := true, a := ⟨false, true, 4986⟩, b := ⟨false, false, 0⟩, pos := 2 ^ 48 - 1, edges := [5, 4, 3], counts := [6500, 5000], net := (5001, 2) })] }.w (F.EN_CFG_FILTER 1) 3) ∧
    in4 1 false false false (ws [(F.EN_STAT_DIR 1, 1), (F.EN_STAT_STOP 1, 1), (F.EN_CFG_NAVG 1, 4)] { live with ns := 5000, tlt := 700, en := [(1, { ready := true, a := ⟨true, true, 0⟩, b := ⟨false, false, 0⟩, any := true, edges := [5, 4, 3] })] }) ∧
    in4 1 false true true (ws [(F.EN_CFG_INV 1, 1)] { live with ns := 5000, tlt := 700, en := [(1, { ready := true, a := ⟨false, false, 0⟩, b := ⟨false, false, 0⟩, any := true, edges := [5, 4, 3], zAt := some (4995, 3, 0) })] }) ∧
    in5 1 true false true (ws [(F.EN_STAT_DIR 1, 1)] { live with ns := 5000, tlt := 700, en := [(1, { ready := true, a := ⟨false, false, 0⟩, b := ⟨false, false, 0⟩, any := true, edges := [5, 4, 3], vel := 77, upd := 1, updAt := 5000 })] }) ∧
    in5 1 true false true (ws [(F.EN_STAT_DIR 1, 1)] { live with ns := 5000, tlt := 700, en := [(1, { ready := true, a := ⟨false, false, 0⟩, b := ⟨false, false, 0⟩, any := true, edges := [5, 4, 3], vel := 77, upd := 1, updAt := 4000 })] }) ∧
    in6 1 true false true 3 ({ st := .set, f := 7, tfire := 1200 }) (ws [(F.EN_STAT_DIR 1, 1), (F.SWF_CFG_SRC 7, 1)] (oneS 3 { st := .set, f := 7, tfire := 1200 } { live with ns := 5000, tlt := 1000, en := [(1, { ready := true, a := ⟨false, false, 0⟩, b := ⟨false, false, 0⟩, any := true })] })) ∧
    in6 1 true false true 3 ({ st := .set, f := 7, tfire := 1200 }) (ws [(F.EN_STAT_DIR 1, 1), (F.SWF_CFG_SRC 7, 1)] (oneS 3 { st := .set, f := 7, tfire := 1200 } { live with ns := 5000, tlt := 1001, en := [(1, { ready := true, a := ⟨false, false, 0⟩, b := ⟨false, false, 0⟩, any := true })] })) ∧
    in7 1 true false true ({ live with ns := 5000, en := [(1, { ready := true, a := ⟨false, false, 0⟩, b := ⟨false, false, 0⟩, pos := 9, zAt := some (5001, 3, 0), zpos := 9 })] }) ∧
    in11 1 4500 (ws [(F.EN_STAT_FROZEN 1, 1)] { live with ns := 30000, tlt := 5100, en := [(1, { lastEdge := some 4500, edges := [4500, 4200], vel := 7, pos := 5, onset := 9 })] }) ∧
    in13 1 ({ live with ck := { live.ck with ladder := .nap } }) := by
  refine ⟨?_, ?_, ?_, ?_, ?_, ?_, ?_, ?_, ?_, ?_, ?_, ?_, ?_, ?_, ?_, ?_, ?_, ?_, ?_, ?_, ?_, ?_, ?_, ?_, ?_, ?_, ?_, ?_, ?_, ?_, ?_, ?_, ?_, ?_, ?_, ?_, ?_, ?_, ?_, ?_⟩ <;> decide +kernel

theorem witness_EncoderInputs_1 :
    in12 1 (ws [(F.EN_STAT_FROZEN 1, 1)] { live with ns := 100, tlt := 5100, en := [(1, { edges := [3999], vel := 7, clear := some 50 })] }) ∧
    in16 1 false (ws [(F.EN_BCFG_QB 1, 1), (F.EN_STAT_FROZEN 1, 1)] { live with ns := 1800, en := [(1, { qerrs := [801], onset := 5, edges := [3] })] }) ∧
    in15 1 true (ws [(F.EN_BCFG_CM 1, 1), (F.EN_STAT_FROZEN 1, 1)] { live with ns := 30000, en := [(1, { onset := 5, edges := [3] })] }) ∧
    in22 1 live ∧
    in23 1 true ({ live with ns := 5000, en := [(1, { zready := true, z := ⟨false, false, 0⟩, pos := 77, zpos := 3 })] }) ∧
    in23 1 true (ws [(F.EN_CFG_ZGATE 1, 1), (F.EN_STAT_ZCAP 1, 1)] { live with ns := 5000, en := [(1, { zready := true, z := ⟨false, false, 0⟩, a := ⟨true, true, 0⟩, b := ⟨true, true, 0⟩, pos := 77, zpos := 3 })] }) ∧
    in24 1 true (ws [(F.EN_CFG_ZGATE 1, 1)] { live with ns := 5000, en := [(1, { zready := true, z := ⟨false, false, 0⟩, a := ⟨true, true, 0⟩, b := ⟨false, false, 0⟩, pos := 77, zpos := 3 })] }) ∧
    in25 1 false ({ live with ns := 5000, en := [(1, { zready := true, z := ⟨true, true, 0⟩ })] }) ∧
    in25 1 true ({ live with ns := 5000, en := [(1, { zready := true, z := ⟨false, false, 0⟩ })] }.w (F.EN_CFG_FILTER 1) 1) := by
  refine ⟨?_, ?_, ?_, ?_, ?_, ?_, ?_, ?_, ?_⟩ <;> decide +kernel

end W_EncoderInputs

namespace W_FurrowCommandsAndHeadlands

abbrev idle (f : Fin 256) (d : Dev) : Prop := (d.fu f).state = .fallow ∨ (d.fu f).state = .faulted
abbrev usable (f : Fin 256) (d : Dev) : Prop := d.r (F.SWF_CFG_BANK f) ≤ 5 ∧ d.r (F.SWF_CFG_MASK f) ≠ 0
abbrev mapped (f : Fin 256) (d : Dev) : Prop := ∀ i, i ≤ d.r (F.SWF_PAGE_PAGESM1 f) → (d.pte f ((d.r (F.SWF_PAGE_PAGE0 f) + i) % 256)).v = true
abbrev now (f : Fin 256) (d : Dev) : Nat := presentOf d (d.r (F.SWF_CFG_SRC f))
abbrev sane (f : Fin 256) (d : Dev) : Prop := d.r (F.SWF_ATL_AT f) < 2 ^ 32 ∧ d.r (F.SWF_ATH_AT f) < 2 ^ 16 ∧ d.r (F.SWF_EVERY_EVERY f) < 2 ^ 32 ∧ (now f) d < 2 ^ 48
abbrev calm (d : Dev) : Prop := d.sw.pend = [] ∧ d.sw.forcing = [] ∧ d.com = [] ∧ d.ld.banks = [] ∧ d.tlt % 65536 ≤ 63536
abbrev in0 (f : Fin 256) (d : Dev) : Prop :=
  (idle f) d ∧ ¬(usable f) d
abbrev in1 (f : Fin 256) (d : Dev) : Prop :=
  (idle f) d ∧ (usable f) d ∧ ¬(mapped f) d
abbrev in2 (f : Fin 256) (d : Dev) : Prop :=
  (idle f) d ∧ (usable f) d ∧ (mapped f) d ∧ d.r (F.LD_BSTAT_STATE (d.r (F.SWF_CFG_BANK f))) = 2
abbrev in3 (f : Fin 256) (d : Dev) : Prop :=
  (idle f) d ∧ (usable f) d ∧ (mapped f) d ∧ d.r (F.LD_BSTAT_STATE (d.r (F.SWF_CFG_BANK f))) ≠ 2 ∧ (sane f) d
abbrev in4 (f : Fin 256) (d : Dev) : Prop :=
  ¬(idle f) d
abbrev in5 (f : Fin 256) (d : Dev) : Prop :=
  (idle f) d
abbrev in6 (f : Fin 256) (d : Dev) : Prop :=
  ¬(idle f) d ∧ d.sw.slots = []
abbrev in7 (f : Fin 256) (k : Nat) (s : Slot) (d : Dev) : Prop :=
  ¬(idle f) d ∧ d.sw.slots = [(k, s)] ∧ s.st ≠ .free ∧ s.f = f
abbrev in9 (f : Fin 256) (d : Dev) : Prop :=
  (d.fu f).state = .sown
abbrev in10 (f : Fin 256) (i : Fin 6) (x : Fld) (d : Dev) : Prop :=
  ((i.val, x) ∈ [(1, F.SWF_ATL_AT f), (2, F.SWF_ATH_AT f), (3, F.SWF_EVERY_EVERY f), (5, F.SWF_SLACK_SLACK f)]) ∧ ((d.fu f).state ≠ .sown)
abbrev in11 (f : Fin 256) (i : Fin 6) (x : Fld) (d : Dev) : Prop :=
  ((i.val, x) ∈ [(0, F.SWF_CFG_MASK f), (0, F.SWF_CFG_DIST f), (0, F.SWF_CFG_FAULT f), (0, F.SWF_CFG_CLASS f), (0, F.SWF_CFG_PRI f), (0, F.SWF_CFG_HEADEN f), (0, F.SWF_CFG_HEAD f), (0, F.SWF_CFG_BANK f), (0, F.SWF_CFG_SRC f), (4, F.SWF_PAGE_CAP f), (4, F.SWF_PAGE_PAGESM1 f), (4, F.SWF_PAGE_PAGE0 f)]) ∧ ((d.fu f).state ≠ .sown ∧ calm d ∧ d.sw.slots = [] ∧ d.r (F.SWF_CFG_BANK f) < 8)
abbrev in12 (f : Fin 256) (x : Fld) (d : Dev) : Prop :=
  (x ∈ [F.SWF_PAGE_CAP f, F.SWF_PAGE_PAGESM1 f, F.SWF_PAGE_PAGE0 f]) ∧ ((d.fu f).state ≠ .sown ∧ d.com = [] ∧ bankFiring d (d.r (F.SWF_CFG_BANK f)) = true)
abbrev cap (f : Fin 256) : Fld := F.SWF_PAGE_CAP f
abbrev waits (f : Fin 256) (b : Fin 6) (u : Furrow) (old : Nat) (t0 : Nat) (v : Nat) (d : Dev) : Prop := d.sw.pend = [⟨[b.val], .fields [((cap f).key, v)]⟩] ∧ d.com = [((cap f).key, old)] ∧ d.sw.waitSince = [(b.val, t0)] ∧ d.ld.banks = [] ∧
          d.tlt % 65536 ≤ 63536 ∧ d.sw.furrows = [(f.val, u)] ∧ d.r (F.SWF_CFG_BANK f) = b.val
abbrev forced (t0 : Nat) (d : Dev) : Prop := d.sw.forcing = [] ∧ t0 + 10000000 ≤ d.ns
abbrev in21 (f : Fin 256) (b : Fin 6) (u : Furrow) (old : Nat) (t0 : Nat) (v : Nat) (d : Dev) : Prop :=
  (waits f b u old t0 v) d ∧ d.sw.slots = [] ∧ d.sw.forcing = []
abbrev in22 (f : Fin 256) (b : Fin 6) (u : Furrow) (old : Nat) (t0 : Nat) (v : Nat) (d : Dev) : Prop :=
  (waits f b u old t0 v) d ∧ d.sw.slots = [] ∧ d.sw.forcing = [b.val]
abbrev in23 (b : Fin 6) (d : Dev) : Prop :=
  bankFiring d b = true
abbrev in25 (f : Fin 256) (b : Fin 6) (u : Furrow) (old : Nat) (t0 : Nat) (v : Nat) (k : Nat) (s : Slot) (d : Dev) : Prop :=
  (waits f b u old t0 v) d ∧ (forced t0) d ∧ d.sw.slots = [(k, s)] ∧ s.st = .firing ∧ s.bank = b.val
abbrev in26 (f : Fin 256) (b : Fin 6) (u : Furrow) (old : Nat) (t0 : Nat) (v : Nat) (k : Nat) (s : Slot) (d : Dev) : Prop :=
  (waits f b u old t0 v) d ∧ (forced t0) d ∧ d.sw.slots = [(k, s)] ∧ s.st = .armed ∧ s.bank = b.val ∧ s.f = f.val ∧
              sd s.tfire d.tlt < 4000 ∧ d.r (F.SWF_CFG_HEADEN f) = 0 ∧ s.pos ∉ u.deferred
abbrev in27 (b : Fin 6) (t0 : Nat) (d : Dev) : Prop :=
  d.sw.waitSince = [(b.val, t0)] ∧ d.ns < t0 + 10000000
abbrev in24 (f : Fin 256) (b : Fin 6) (old : Nat) (v : Nat) (b' : Nat) (w : Nat) (k : Nat) (s : Slot) (d : Dev) : Prop :=
  (b' ≠ b.val) ∧ (s.st = .firing) ∧ (s.bank = b') ∧ (d.sw.pend = [⟨[b.val], .fields [((cap f).key, v)]⟩, ⟨[b.val, b'], .fields [((cap f).key, w)]⟩] ∧ d.com = [((cap f).key, old)] ∧
              d.sw.slots = [(k, s)] ∧ d.ld.banks = [] ∧ d.tlt % 65536 ≤ 63536)

theorem witness_FurrowCommandsAndHeadlands :
    in0 255 live ∧
    in1 255 (ws [(F.SWF_CFG_MASK 255, 1), (F.SWF_CFG_BANK 255, 5)] live) ∧
    in2 255 (ws [(F.SWF_CFG_MASK 255, 1), (F.SWF_CFG_BANK 255, 5), (F.LD_BSTAT_STATE 5, 2)] { live with gr := { pte := [(65280, ⟨true, false, 0, 3⟩)] } }) ∧
    in3 255 (ws [(F.SWF_CFG_MASK 255, 1), (F.SWF_CFG_BANK 255, 5), (F.SWF_CFG_SRC 255, 3), (F.SWF_ATL_AT 255, 100), (F.SWF_EVERY_EVERY 255, 50)] (oneF 255 { state := .faulted, fcause := 1, miss := 4, defer := 5 } { live with tlt := 100, gr := { pte := [(65280, ⟨true, false, 0, 3⟩)] } })) ∧
    in3 255 (ws [(F.SWF_CFG_MASK 255, 1), (F.SWF_CFG_BANK 255, 5), (F.SWF_CFG_SRC 255, 3), (F.SWF_ATL_AT 255, 100)] { live with tlt := 200, gr := { pte := [(65280, ⟨true, false, 0, 3⟩)] } }) ∧
    in4 255 (oneF 255 { state := .held, offp := true } live) ∧
    in5 255 (oneF 255 { state := .faulted, offp := true } live) ∧
    in6 255 (oneF 255 { state := .held, offp := true, miss := 3, needs := [⟨3, 4, false⟩] } live) ∧
    in7 255 3 ({ st := .set, f := 255 }) (oneS 3 { st := .set, f := 255 } (oneF 255 { state := .sown } live)) ∧
    in9 255 (oneF 255 { state := .sown } live) ∧
    in9 255 ((oneF 255 { state := .sown } live).w F.SYS_LOCKV_TAG 1) ∧
    in10 255 1 (F.SWF_ATL_AT 255) (oneF 255 { state := .ready } live) ∧
    in10 255 5 (F.SWF_SLACK_SLACK 255) (oneF 255 { state := .held } live) ∧
    in10 255 3 (F.SWF_EVERY_EVERY 255) (oneF 255 { state := .faulted } live) ∧
    in11 255 4 (F.SWF_PAGE_CAP 255) ((oneF 255 { state := .ready } live).w (F.SWF_PAGE_CAP 255) 77) ∧
    in11 255 0 (F.SWF_CFG_BANK 255) ((oneF 255 { state := .ready } live).w (F.SWF_CFG_BANK 255) 2) ∧
    in12 255 (F.SWF_PAGE_CAP 255) (oneS 3 { st := .firing, f := 255 } ((oneF 255 { state := .ready } live).w (F.SWF_PAGE_CAP 255) 77)) ∧
    in21 255 5 ({ state := .ready, defer := 7 }) 9 500 44 (ws [(F.SWF_CFG_BANK 255, 5), (F.SWF_PAGE_CAP 255, 77)] { live with com := [((F.SWF_PAGE_CAP 255).key, 9)], sw := { furrows := [(255, { state := .ready, defer := 7 })], pend := [⟨[5], .fields [((F.SWF_PAGE_CAP 255).key, 44)]⟩], waitSince := [(5, 500)] } }) ∧
    in22 255 5 ({ state := .ready, defer := 7 }) 9 500 44 (ws [(F.SWF_CFG_BANK 255, 5), (F.SWF_PAGE_CAP 255, 77)] { live with com := [((F.SWF_PAGE_CAP 255).key, 9)], sw := { furrows := [(255, { state := .ready, defer := 7 })], pend := [⟨[5], .fields [((F.SWF_PAGE_CAP 255).key, 44)]⟩], waitSince := [(5, 500)], forcing := [5] } }) ∧
    in22 255 5 ({ state := .held }) 9 500 44 (ws [(F.SWF_CFG_BANK 255, 5), (F.SWF_PAGE_CAP 255, 77), (F.SW_FHL_COUNT 5, 65535)] { live with com := [((F.SWF_PAGE_CAP 255).key, 9)], sw := { furrows := [(255, { state := .held })], pend := [⟨[5], .fields [((F.SWF_PAGE_CAP 255).key, 44)]⟩], waitSince := [(5, 500)], forcing := [5] } }) ∧
    in23 5 (oneS 3 { st := .firing, bank := 5 } live) ∧
    in25 255 5 ({ state := .ready, defer := 7 }) 9 500 44 3 ({ st := .firing, f := 9, bank := 5 }) (oneS 3 { st := .firing, f := 9, bank := 5 } (ws [(F.SWF_CFG_BANK 255, 5), (F.SWF_PAGE_CAP 255, 77)] { live with ns := 10000500, com := [((F.SWF_PAGE_CAP 255).key, 9)], sw := { furrows := [(255, { state := .ready, defer := 7 })], pend := [⟨[5], .fields [((F.SWF_PAGE_CAP 255).key, 44)]⟩], waitSince := [(5, 500)] } })) ∧
    in26 255 5 ({ state := .ready, defer := 7 }) 9 500 44 3 ({ st := .armed, f := 255, bank := 5, pos := 60 }) (oneS 3 { st := .armed, f := 255, bank := 5, pos := 60 } (ws [(F.SWF_CFG_BANK 255, 5), (F.SWF_PAGE_CAP 255, 77)] { live with ns := 10000500, com := [((F.SWF_PAGE_CAP 255).key, 9)], sw := { furrows := [(255, { state := .ready, defer := 7 })], pend := [⟨[5], .fields [((F.SWF_PAGE_CAP 255).key, 44)]⟩], waitSince := [(5, 500)] } })) ∧
    in27 5 500 ({ live with ns := 10000499, sw := { waitSince := [(5, 500)] } }) ∧
    in24 255 5 9 44 2 55 3 ({ st := .firing, f := 9, bank := 2 }) (oneS 3 { st := .firing, f := 9, bank := 2 } (ws [(F.SWF_CFG_BANK 255, 5), (F.SWF_PAGE_CAP 255, 77)] { live with com := [((F.SWF_PAGE_CAP 255).key, 9)], sw := { pend := [⟨[5], .fields [((F.SWF_PAGE_CAP 255).key, 44)]⟩, ⟨[5, 2], .fields [((F.SWF_PAGE_CAP 255).key, 55)]⟩] } })) ∧
    in12 255 (F.SWF_PAGE_PAGESM1 255) (oneS 3 { st := .firing, f := 255, bank := 5 } (ws [(F.SWF_CFG_BANK 255, 5), (F.SWF_PAGE_CAP 255, 77)] (oneF 255 { state := .ready } live))) := by
  refine ⟨?_, ?_, ?_, ?_, ?_, ?_, ?_, ?_, ?_, ?_, ?_, ?_, ?_, ?_, ?_, ?_, ?_, ?_, ?_, ?_, ?_, ?_, ?_, ?_, ?_, ?_⟩ <;> decide +kernel

end W_FurrowCommandsAndHeadlands

namespace W_EvaluationAndDrill

abbrev next (f : Fin 256) (p : Nat) (d : Dev) : Nat := (p + d.r (F.SWF_EVERY_EVERY f)) % 2 ^ 48
abbrev bank (f : Fin 256) (d : Dev) : Nat := d.r (F.SWF_CFG_BANK f)
abbrev deadline (f : Fin 256) (p : Nat) (d : Dev) : Nat := (p + 2 ^ 48 - max (min (d.r (F.SWF_SLACK_SLACK f)) 1000000) 1000) % 2 ^ 48
abbrev sows (f : Fin 256) (u : Furrow) (p : Nat) (d : Dev) : Prop := d.ck.ladder = .run ∧ d.r F.SW_CTL_EN = 1 ∧ d.sw.frozen = false ∧ d.r F.CK_STAT_PLLLOCK = 1 ∧ d.r F.CK_STAT_UNLOCK = 0 ∧
      d.r F.CK_ROOT_BUSY = 0 ∧ d.sw.slots = [] ∧ d.com = [] ∧ d.sw.furrows = [(f.val, u)] ∧ u.state = .ready ∧ u.offp = false ∧ u.rebase = false ∧ u.more = true ∧
      u.budget = false ∧ u.slots = false ∧ u.deferred = [] ∧ u.next = p ∧ p < 2 ^ 48 ∧ d.r (F.SWF_CFG_SRC f) = 3 ∧ d.r (F.SWF_CFG_HEADEN f) = 0 ∧
      (bank f) d ≤ 5 ∧ 1000 ≤ d.r (F.SWF_EVERY_EVERY f) ∧ 10000 ≤ d.r F.SW_HZN_HZN ∧ d.r F.SW_HZN_HZN ≤ 1000000 ∧ 0 < sd p d.tlt ∧ sd p d.tlt ≤ d.r F.SW_HZN_HZN ∧
      d.r F.SW_HZN_HZN < sd ((next f p) d) d.tlt
abbrev cyc (x : Nat) (d : Dev) : Nat := (x + d.ck.phase) / 4
abbrev timeOf (x : Nat) (d : Dev) : Nat := ((d.ns : Int) + sd x d.tlt).toNat
abbrev early (f : Fin 256) (p : Nat) (d : Dev) : Prop := 0 < sd ((deadline f p) d) d.tlt
abbrev cool (f : Fin 256) (d : Dev) : Prop := d.r (F.BD_FQ_QOCC f) = 0 ∧ ∀ c, c < 64 → testOf d c < d.r (F.BD_BTH_TMAX ((bank f) d)) ∧ testOf d c < d.r (F.BD_BTH_TWARN ((bank f) d))
abbrev one (f : Fin 256) (k : Fin 64) (s : Slot) (d : Dev) : Prop := d.sw.slots = [(k.val, s)] ∧ s.f = f ∧ d.r (F.SWF_CFG_HEADEN f) = 0 ∧ d.sw.pend = [] ∧ d.sw.forcing = []
abbrev sets (f : Fin 256) (k : Fin 64) (s : Slot) (d : Dev) : Prop := (one f k s) d ∧ s.st = .armed ∧ sd s.tset d.tlt ≤ 0
abbrev fires (f : Fin 256) (s : Slot) (d : Dev) : Prop := s.st = .set ∧ s.f = f ∧ sd s.tfire d.tlt ≤ 0 ∧ darkened d = false ∧ d.r (F.SWF_CFG_HEADEN f) = 0
abbrev late (s : Slot) (d : Dev) : Prop := cyc (timeOf s.tset d) d < cyc d.ns d
abbrev in6 (f : Fin 256) (k : Fin 64) (s : Slot) (plots : List Nat) (d : Dev) : Prop :=
  (sets f k s) d ∧ s.pages.map (residentOf d f) = plots.map some ∧
          (∀ q ∈ plots, cyc (d.pl q).came d ≤ cyc (timeOf s.tset d) d)
abbrev in7 (k : Fin 64) (d : Dev) : Prop :=
  (d.sl k).st ≠ .armed ∨ 0 < sd (d.sl k).tset d.tlt
abbrev in11 (f : Fin 256) (k : Fin 64) (s : Slot) (d : Dev) : Prop :=
  (fires f s) d ∧ (one f k s) d ∧ d.r (F.SWF_CFG_SRC f) = 3 ∧ d.r (F.SWF_CFG_FAULT f) ≠ 2
abbrev in12 (f : Fin 256) (k : Fin 64) (s : Slot) (j : Nat) (x : Slot) (d : Dev) : Prop :=
  (j ≠ k.val) ∧ ((fires f s) d ∧ d.sw.slots = [(k.val, s), (j, x)] ∧ d.sw.pend = [] ∧ x.bank = s.bank ∧
            (x.st = .firing ∨ (x.st = .set ∧ x.tfire = s.tfire ∧ d.r (F.SWF_CFG_PRI f) < d.r (F.SWF_CFG_PRI x.f))))
abbrev in13 (k : Fin 64) (d : Dev) : Prop :=
  (d.sl k).st ≠ .set ∨ 0 < sd (d.sl k).tfire d.tlt
abbrev at0 (s : Slot) (q : Nat) : Nat := 0x30000000 + 1024 * q + 16 * (s.step % 64)
abbrev steps (f : Fin 256) (k : Fin 64) (s : Slot) (d : Dev) : Prop := (one f k s) d ∧ s.st = .firing ∧ s.pulse = false ∧ s.start ≤ d.ns ∧ s.trigs = [] ∧ s.sag = false ∧ s.burst = false ∧ s.ring = false ∧
          s.verdict = none ∧ s.deliv ≤ s.q ∧ d.ld.banks = [] ∧ d.tlt % 65536 ≤ 63536
abbrev in14 (f : Fin 256) (k : Fin 64) (s : Slot) (q : Nat) (d : Dev) : Prop :=
  (steps f k s) d ∧ s.plots[s.step / 64]? = some q ∧ (d.load 3 (at0 s q) < 100 ∨ d.load 16 (at0 s q) / 2 ^ 79 ≠ 0)
abbrev in15 (f : Fin 256) (k : Fin 64) (s : Slot) (d : Dev) : Prop :=
  (steps f k s) d ∧ s.plots[s.step / 64]? = none
abbrev in16 (f : Fin 256) (k : Fin 64) (s : Slot) (q : Nat) (d : Dev) : Prop :=
  (one f k s) d ∧ s.st = .firing ∧ s.pulse = false ∧ s.start ≤ d.ns ∧ s.prev = none ∧ s.plots[s.step / 64]? = some q ∧
            100 ≤ d.load 3 (at0 s q) ∧ d.load 16 (at0 s q) / 2 ^ 79 = 0 ∧ d.r (F.LD_BSTAT_STATE s.bank) = 1
abbrev in17 (k : Fin 64) (d : Dev) : Prop :=
  (d.sl k).st ≠ .firing ∨ (d.sl k).pulse = true ∨ d.ns < (d.sl k).start
abbrev ends (f : Fin 256) (k : Fin 64) (s : Slot) (d : Dev) : Prop := (one f k s) d ∧ s.st = .firing ∧ s.pulse = true ∧ s.start + s.cur.width ≤ d.ns ∧ s.sag = false ∧ s.burst = false ∧ s.ring = false ∧
            s.verdict = none ∧ s.trigs = [] ∧ d.ld.sinks = [] ∧ d.ld.banks = []
abbrev in18 (f : Fin 256) (k : Fin 64) (s : Slot) (d : Dev) : Prop :=
  (ends f k s) d ∧ s.cur.last = true ∧ s.deliv ≤ s.q
abbrev in19 (f : Fin 256) (k : Fin 64) (s : Slot) (q : Nat) (d : Dev) : Prop :=
  (ends f k s) d ∧ s.cur.last = false ∧ s.plots[(s.step + 1) / 64]? = some q ∧ s.cur.scanEn = false
abbrev in20 (k : Fin 64) (d : Dev) : Prop :=
  (d.sl k).st ≠ .firing ∨ (d.sl k).pulse = false ∨ d.ns < (d.sl k).start + (d.sl k).cur.width
abbrev in1 (f : Fin 256) (c : Instr) (d : Dev) : Prop :=
  (c = .furrowEvaluation f ∨ c = .refillEvaluation f) ∧ ((d.ck.ladder ≠ .run ∧ d.ck.ladder ≠ .hold) ∨ (d.fu f).state = .fallow ∨ (d.fu f).state = .faulted)
abbrev in2 (f : Fin 256) (c : Instr) (d : Dev) : Prop :=
  (c = .furrowEvaluation f ∨ c = .refillEvaluation f) ∧ (d.ck.ladder = .run ∧ ((d.fu f).state = .ready ∨ (d.fu f).state = .sown ∨ (d.fu f).state = .held) ∧
          (d.r F.SW_CTL_EN = 0 ∨ d.sw.frozen = true ∨ (d.fu f).offp = true))
abbrev in3 (f : Fin 256) (u : Furrow) (p : Nat) (c : Instr) (d : Dev) : Prop :=
  (c = .furrowEvaluation f ∨ c = .refillEvaluation f) ∧ ((sows f u p) d ∧ (early f p) d ∧ holdBits d f = 0 ∧ (cool f) d ∧ d.r (F.GR_CUR_ADV f) = 0 ∧
          d.r (F.GR_CUR_START f) ≤ d.r (F.SWF_PAGE_PAGESM1 f))
abbrev in4 (f : Fin 256) (u : Furrow) (p : Nat) (c : Instr) (d : Dev) : Prop :=
  (c = .furrowEvaluation f ∨ c = .refillEvaluation f) ∧ ((sows f u p) d ∧ cyc (timeOf ((deadline f p) d) d) d < cyc d.ns d ∧ holdBits d f = 0)
abbrev in5 (f : Fin 256) (u : Furrow) (p : Nat) (c : Instr) (d : Dev) : Prop :=
  (c = .furrowEvaluation f ∨ c = .refillEvaluation f) ∧ ((sows f u p) d ∧ (early f p) d ∧ holdBits d f ≠ 0)
abbrev in8 (f : Fin 256) (k : Fin 64) (s : Slot) (g : Nat) (d : Dev) : Prop :=
  (sets f k s) d ∧ ¬ (late s) d ∧ s.pages = [g] ∧ residentOf d f g = none
abbrev in9 (f : Fin 256) (k : Fin 64) (s : Slot) (g : Nat) (d : Dev) : Prop :=
  (sets f k s) d ∧ (late s) d ∧ s.pages = [g] ∧ residentOf d f g = none ∧ d.r (F.SWF_CFG_FAULT f) = 0
abbrev in10 (f : Fin 256) (k : Fin 64) (s : Slot) (g : Nat) (q : Nat) (d : Dev) : Prop :=
  (sets f k s) d ∧ (late s) d ∧ s.pages = [g] ∧ residentOf d f g = none ∧ d.r (F.SWF_CFG_FAULT f) = 1 ∧ d.com = [] ∧
            residentOf d f (d.r (F.SWF_PAGE_PAGE0 f)) = some q

theorem witness_EvaluationAndDrill :
    in6 255 63 ({ st := .armed, f := 255, bank := 5, tfire := 60000, pages := [3] }) ([9]) (oneS 63 { st := .armed, f := 255, bank := 5, tfire := 60000, pages := [3] } { live with gr := { plots := [(9, { st := .resident, f := 255, page := 3 })] } }) ∧
    in7 63 (oneS 63 { st := .armed, tset := 1 } live) ∧
    in11 255 63 ({ st := .set, f := 255, bank := 5, tfire := 60000, plots := [9], sub := true }) (oneS 63 { st := .set, f := 255, bank := 5, tfire := 60000, plots := [9], sub := true } ({ live with tlt := 60003, ns := 70000 }.w (F.SWF_CFG_SRC 255) 3)) ∧
    in12 255 63 ({ st := .set, f := 255, bank := 5, tfire := 60000, plots := [9] }) 7 ({ st := .firing, f := 9, bank := 5 }) ({ live with tlt := 60000, sw := { slots := [(63, { st := .set, f := 255, bank := 5, tfire := 60000, plots := [9] }), (7, { st := .firing, f := 9, bank := 5 })] } }) ∧
    in12 255 63 ({ st := .set, f := 255, bank := 5, tfire := 60000, plots := [9] }) 7 ({ st := .set, f := 9, bank := 5, tfire := 60000 }) ({ live with tlt := 60000, sw := { slots := [(63, { st := .set, f := 255, bank := 5, tfire := 60000, plots := [9] }), (7, { st := .set, f := 9, bank := 5, tfire := 60000 })] } }.w (F.SWF_CFG_PRI 9) 3) ∧
    in13 63 (oneS 63 { st := .set, tfire := 1 } live) ∧
    in14 255 63 ({ st := .firing, f := 255, bank := 5, plots := [9] }) 9 (oneS 63 { st := .firing, f := 255, bank := 5, plots := [9] } (oneF 255 { state := .sown } live)) ∧
    in15 255 63 ({ st := .firing, f := 255, bank := 5, plots := [9], step := 64 }) (oneS 63 { st := .firing, f := 255, bank := 5, plots := [9], step := 64 } (oneF 255 { state := .sown } live)) ∧
    in16 255 63 ({ st := .firing, f := 255, bank := 5, plots := [9], step := 63 }) 9 (oneS 63 { st := .firing, f := 255, bank := 5, plots := [9], step := 63 } ((oneF 255 { state := .sown } (live.store 4 (0x30000000 + 9216 + 1008) 100)).w (F.LD_BSTAT_STATE 5) 1)) ∧
    in17 63 live ∧
    in18 255 63 ({ st := .firing, f := 255, bank := 5, plots := [9], pulse := true, cur := { width := 100, last := true } }) (oneS 63 { st := .firing, f := 255, bank := 5, plots := [9], pulse := true, cur := { width := 100, last := true } } ((oneF 255 { state := .sown } { live with ns := 100 }).w (F.LD_BSTAT_LIT 5) 1)) ∧
    in19 255 63 ({ st := .firing, f := 255, bank := 5, plots := [9], pulse := true, cur := { width := 100, gap := 50 } }) 9 (oneS 63 { st := .firing, f := 255, bank := 5, plots := [9], pulse := true, cur := { width := 100, gap := 50 } } ((oneF 255 { state := .sown } { live with ns := 100 }).w (F.LD_BSTAT_LIT 5) 1)) ∧
    in20 63 (oneS 63 { st := .firing, f := 255, pulse := true, cur := { width := 100 } } { live with ns := 99 }) ∧
    in1 255 (Instr.furrowEvaluation 255) live ∧
    in1 255 (Instr.refillEvaluation 255) (oneF 255 { state := .ready } { live with ck := { live.ck with ladder := .nap } }) ∧
    in2 255 (Instr.furrowEvaluation 255) (oneF 255 { state := .sown, needs := [⟨3, 4, false⟩] } (live.w F.SW_CTL_EN 0)) ∧
    in2 255 (Instr.refillEvaluation 255) (oneF 255 { state := .held, offp := true } (live.w F.SW_CTL_EN 1)) ∧
    in3 255 ({ state := .ready, more := true, next := 60000, miss := 3, defer := 4, occ := 5 }) 60000 (Instr.furrowEvaluation 255) (ws [(F.SW_CTL_EN, 1), (F.CK_STAT_PLLLOCK, 1), (F.LD_BSTAT_STATE 5, 0), (F.LD_CHSTAT_STATE 40, 0), (F.SWF_CFG_MASK 255, 1), (F.SW_QEN_MISS, 1), (F.SWF_CFG_SRC 255, 3), (F.SWF_CFG_BANK 255, 5), (F.SWF_EVERY_EVERY 255, 200000), (F.SWF_SLACK_SLACK 255, 5000)] (oneF 255 { state := .ready, more := true, next := 60000, miss := 3, defer := 4, occ := 5 } live)) ∧
    in4 255 ({ state := .ready, more := true, next := 60000, miss := 3, defer := 4, occ := 5 }) 60000 (Instr.furrowEvaluation 255) (ws [(F.SW_CTL_EN, 1), (F.CK_STAT_PLLLOCK, 1), (F.LD_BSTAT_STATE 5, 0), (F.LD_CHSTAT_STATE 40, 0), (F.SWF_CFG_MASK 255, 1), (F.SW_QEN_MISS, 1), (F.SWF_CFG_SRC 255, 3), (F.SWF_CFG_BANK 255, 5), (F.SWF_EVERY_EVERY 255, 200000), (F.SWF_SLACK_SLACK 255, 5000)] (oneF 255 { state := .ready, more := true, next := 60000, miss := 3, defer := 4, occ := 5 } { live with tlt := 57000, ns := 57000 })) ∧
    in5 255 ({ state := .ready, more := true, next := 60000, miss := 3, defer := 4, occ := 5 }) 60000 (Instr.furrowEvaluation 255) ((ws [(F.SW_CTL_EN, 1), (F.CK_STAT_PLLLOCK, 1), (F.LD_BSTAT_STATE 5, 0), (F.LD_CHSTAT_STATE 40, 0), (F.SWF_CFG_MASK 255, 1), (F.SW_QEN_MISS, 1), (F.SWF_CFG_SRC 255, 3), (F.SWF_CFG_BANK 255, 5), (F.SWF_EVERY_EVERY 255, 200000), (F.SWF_SLACK_SLACK 255, 5000)] (oneF 255 { state := .ready, more := true, next := 60000, miss := 3, defer := 4, occ := 5 } live)).w (F.LD_BSTAT_STATE 5) 1) ∧
    in3 255 ({ state := .ready, more := true, next := 60000, miss := 3, defer := 4, occ := 5 }) 60000 (Instr.refillEvaluation 255) (ws [(F.SW_CTL_EN, 1), (F.CK_STAT_PLLLOCK, 1), (F.LD_BSTAT_STATE 5, 0), (F.LD_CHSTAT_STATE 40, 0), (F.SWF_CFG_MASK 255, 1), (F.SW_QEN_MISS, 1), (F.SWF_CFG_SRC 255, 3), (F.SWF_CFG_BANK 255, 5), (F.SWF_EVERY_EVERY 255, 200000), (F.SWF_SLACK_SLACK 255, 5000)] (oneF 255 { state := .ready, more := true, next := 60000, miss := 3, defer := 4, occ := 5 } live)) ∧
    in4 255 ({ state := .ready, more := true, next := 60000, miss := 3, defer := 4, occ := 5 }) 60000 (Instr.refillEvaluation 255) (ws [(F.SW_CTL_EN, 1), (F.CK_STAT_PLLLOCK, 1), (F.LD_BSTAT_STATE 5, 0), (F.LD_CHSTAT_STATE 40, 0), (F.SWF_CFG_MASK 255, 1), (F.SW_QEN_MISS, 1), (F.SWF_CFG_SRC 255, 3), (F.SWF_CFG_BANK 255, 5), (F.SWF_EVERY_EVERY 255, 200000), (F.SWF_SLACK_SLACK 255, 5000)] (oneF 255 { state := .ready, more := true, next := 60000, miss := 3, defer := 4, occ := 5 } { live with tlt := 57000, ns := 57000 })) ∧
    in5 255 ({ state := .ready, more := true, next := 60000, miss := 3, defer := 4, occ := 5 }) 60000 (Instr.refillEvaluation 255) ((ws [(F.SW_CTL_EN, 1), (F.CK_STAT_PLLLOCK, 1), (F.LD_BSTAT_STATE 5, 0), (F.LD_CHSTAT_STATE 40, 0), (F.SWF_CFG_MASK 255, 1), (F.SW_QEN_MISS, 1), (F.SWF_CFG_SRC 255, 3), (F.SWF_CFG_BANK 255, 5), (F.SWF_EVERY_EVERY 255, 200000), (F.SWF_SLACK_SLACK 255, 5000)] (oneF 255 { state := .ready, more := true, next := 60000, miss := 3, defer := 4, occ := 5 } live)).w (F.LD_BSTAT_STATE 5) 1) ∧
    in8 255 63 ({ st := .armed, f := 255, bank := 5, tfire := 60000, tset := 1000, pages := [3] }) 3 (oneS 63 { st := .armed, f := 255, bank := 5, tfire := 60000, tset := 1000, pages := [3] } { live with tlt := 1002, ns := 2002 }) ∧
    in9 255 63 ({ st := .armed, f := 255, bank := 5, tfire := 60000, tset := 1000, pages := [3] }) 3 (oneS 63 { st := .armed, f := 255, bank := 5, tfire := 60000, tset := 1000, pages := [3] } { live with tlt := 1005, ns := 2005, gr := { plots := [(9, { st := .loading, f := 255, page := 3 })] } }) ∧
    in9 255 63 ({ st := .armed, f := 255, bank := 5, tfire := 60000, tset := 1000, pages := [3] }) 3 (oneS 63 { st := .armed, f := 255, bank := 5, tfire := 60000, tset := 1000, pages := [3] } { live with tlt := 1005, ns := 2005 }) ∧
    in10 255 63 ({ st := .armed, f := 255, bank := 5, tfire := 60000, tset := 1000, pages := [3] }) 3 8 (oneS 63 { st := .armed, f := 255, bank := 5, tfire := 60000, tset := 1000, pages := [3] } (ws [(F.SWF_CFG_FAULT 255, 1), (F.SWF_PAGE_PAGE0 255, 2)] { live with tlt := 1005, ns := 2005, gr := { plots := [(8, { st := .resident, f := 255, page := 2 }), (9, { st := .loading, f := 255, page := 3 })] } })) := by
  refine ⟨?_, ?_, ?_, ?_, ?_, ?_, ?_, ?_, ?_, ?_, ?_, ?_, ?_, ?_, ?_, ?_, ?_, ?_, ?_, ?_, ?_, ?_, ?_, ?_, ?_, ?_, ?_⟩ <;> decide +kernel

end W_EvaluationAndDrill

namespace W_GranaryAndGleaner

abbrev quiet (d : Dev) : Prop := d.sw.furrows = []
abbrev entry (f : Fin 256) (g : Fin 256) (d : Dev) : Pte := d.pte f g
abbrev names (f : Fin 256) (g : Fin 256) (d : Dev) : Prop := d.r F.GR_PTIDX_F = f.val ∧ d.r F.GR_PTIDX_PAGE = g.val
abbrev holds (f : Fin 256) (g : Fin 256) (p : Nat) (x : Plot) (d : Dev) : Prop := d.gr.plots = [(p, x)] ∧ x.st ≠ .free ∧ x.f = f ∧ x.page = g
abbrev none1 (d : Dev) : Prop := d.gr.plots = [] ∧ d.gr.places = []
abbrev in0 (f : Fin 256) (g : Fin 256) (v : Word) (d : Dev) : Prop :=
  (names f g) d ∧ d.gr.plots = [] ∧ (((entry f g) d).v = false ∨ v.getLsbD 31 = true ∨ (d.fu f).state = .fallow)
abbrev in1 (f : Fin 256) (g : Fin 256) (v : Word) (d : Dev) : Prop :=
  (names f g) d ∧ ((entry f g) d).v = true ∧ v.getLsbD 31 = false ∧ (d.fu f).state ≠ .fallow
abbrev in2 (f : Fin 256) (g : Fin 256) (v : Word) (p : Nat) (x : Plot) (d : Dev) : Prop :=
  (names f g) d ∧ (holds f g) p x d ∧ v.getLsbD 31 = false ∧ (d.fu f).state = .fallow
abbrev in3 (f : Fin 256) (g : Fin 256) (v : Word) (p : Nat) (x : Plot) (d : Dev) : Prop :=
  (names f g) d ∧ (holds f g) p x d ∧ ((entry f g) d).v = true ∧ v.getLsbD 31 = true ∧
            (((entry f g) d).sel ≠ v.toNat / 2 ^ 24 % 4 ∨ ((entry f g) d).addr ≠ v.toNat % 2 ^ 18) ∧ bankFiring d (d.r (F.SWF_CFG_BANK f)) = true
abbrev in4 (f : Fin 256) (g : Fin 256) (v : Word) (p : Nat) (x : Plot) (d : Dev) : Prop :=
  (names f g) d ∧ (holds f g) p x d ∧ ((entry f g) d).v = true ∧ v.getLsbD 31 = true ∧
            (((entry f g) d).sel ≠ v.toNat / 2 ^ 24 % 4 ∨ ((entry f g) d).addr ≠ v.toNat % 2 ^ 18) ∧ d.sw.slots = [] ∧ d.sw.pend = [] ∧ d.sw.forcing = [] ∧ d.ld.banks = [] ∧
            d.tlt % 65536 ≤ 63536
abbrev in5 (f : Fin 256) (g : Fin 256) (v : Word) (p : Nat) (x : Plot) (d : Dev) : Prop :=
  (names f g) d ∧ (holds f g) p x d ∧ ((entry f g) d).v = true ∧ v.getLsbD 31 = true ∧ ((entry f g) d).sel = v.toNat / 2 ^ 24 % 4 ∧
            ((entry f g) d).addr = v.toNat % 2 ^ 18
abbrev free (d : Dev) : Prop := d.gr.waiting = none
abbrev there (f : Fin 256) (g : Fin 256) (d : Dev) : Prop := ((entry f g) d).v = true ∧ d.r (F.SP_ID_PRESENT ((entry f g) d).sel) ≠ 0
abbrev in6 (f : Fin 256) (g : Fin 256) (d : Dev) : Prop :=
  free d ∧ ((entry f g) d).v = false
abbrev in7 (f : Fin 256) (g : Fin 256) (d : Dev) : Prop :=
  free d ∧ ((entry f g) d).v = true ∧ d.r (F.SP_ID_PRESENT ((entry f g) d).sel) = 0
abbrev in10 (f : Fin 256) (g : Fin 256) (p : Nat) (x : Plot) (d : Dev) : Prop :=
  free d ∧ (there f g) d ∧ (holds f g) p x d ∧ x.pin = false
abbrev in11 (f : Fin 256) (g : Fin 256) (p : Nat) (x : Plot) (d : Dev) : Prop :=
  free d ∧ (there f g) d ∧ (holds f g) p x d ∧ x.pin = true
abbrev in12 (f : Fin 256) (g : Fin 256) (p : Nat) (x : Plot) (d : Dev) : Prop :=
  free d ∧ (there f g) d ∧ (holds f g) p x d
abbrev in13 (f : Fin 256) (g : Fin 256) (p : Nat) (x : Plot) (d : Dev) : Prop :=
  free d ∧ (holds f g) p x d
abbrev in14 (f : Fin 256) (g : Fin 256) (d : Dev) : Prop :=
  free d ∧ (there f g) d ∧ 384 ≤ pinCount d ∧ plotOf d f g = none
abbrev in15 (f : Fin 256) (g : Fin 256) (d : Dev) : Prop :=
  free d ∧ plotOf d f g = none
abbrev in16 (f : Fin 256) (g : Fin 256) (d : Dev) : Prop :=
  free d ∧ (there f g) d ∧ none1 d ∧ quiet d ∧ d.r F.GR_CTL_EN ≠ 0
abbrev in18 (f : Fin 256) (g : Fin 256) (d : Dev) : Prop :=
  free d ∧ (there f g) d ∧ none1 d ∧ d.r F.GR_CTL_EN = 0
abbrev in19 (c : GrCmd) (d : Dev) : Prop :=
  d.gr.waiting = some c
abbrev fetched (f : Fin 256) (g : Fin 256) (p : Nat) (x : Plot) (w : Fetch) (d : Dev) : Prop := d.gr.plots = [(p, x)] ∧ x.st = .loading ∧ p < 512 ∧ d.gr.places = [w] ∧ w.f = f ∧ w.page = g ∧ w.plot = p ∧ quiet d ∧
        d.gr.waiting = none ∧ d.sw.slots = []
abbrev in22 (f : Fin 256) (g : Fin 256) (p : Nat) (x : Plot) (w : Fetch) (bytes : Bytes) (d : Dev) : Prop :=
  (bytes.length = 1024) ∧ ((fetched f g p x w) d ∧ w.onBus = true ∧ ∃ o ∈ d.sp.bus, o.op = .page f g ∧ o.stop ≤ d.ns)
abbrev in23 (f : Fin 256) (g : Fin 256) (w : Fetch) (bytes : Bytes) (d : Dev) : Prop :=
  (bytes.length = 1024) ∧ (d.gr.places = [] ∨ (d.gr.places = [w] ∧ w.f = f ∧ w.page = g ∧ w.onBus = false))
abbrev in24 (f : Fin 256) (g : Fin 256) (p : Nat) (x : Plot) (w : Fetch) (d : Dev) : Prop :=
  (fetched f g p x w) d ∧ w.onBus = false ∧
          (d.r (F.SP_ID_PRESENT ((entry f g) d).sel) = 0 ∨ d.r (F.SP_SEL_GEN ((entry f g) d).sel) = 0 ∨ withinSel d ((entry f g) d).sel (1024 * ((entry f g) d).addr) 1024 = false) ∧ d.r F.GR_QEN_ERROR ≠ 0 ∧ evStaged d < 16
abbrev in25 (d : Dev) : Prop :=
  d.gr.places = []

theorem witness_GranaryAndGleaner :
    in0 255 3 0x80012345 (ws [(F.GR_PTIDX_F, 255), (F.GR_PTIDX_PAGE, 3)] live) ∧
    in0 255 3 0x7FFFFFFF (ws [(F.GR_PTIDX_F, 255), (F.GR_PTIDX_PAGE, 3)] { live with gr := { pte := [(65283, ⟨true, true, 1, 2⟩)] } }) ∧
    in1 255 3 0x03000000 (ws [(F.GR_PTIDX_F, 255), (F.GR_PTIDX_PAGE, 3)] (oneF 255 { state := .ready } { live with gr := { pte := [(65283, ⟨true, true, 1, 2⟩)] } })) ∧
    in2 255 3 0 511 ({ st := .resident, pin := true, f := 255, page := 3, stamp := 6 }) (ws [(F.GR_PTIDX_F, 255), (F.GR_PTIDX_PAGE, 3)] { live with gr := { pte := [(65283, ⟨true, true, 1, 2⟩)], plots := [(511, { st := .resident, pin := true, f := 255, page := 3, stamp := 6 })] } }) ∧
    in3 255 3 0x80012345 511 ({ st := .resident, pin := true, f := 255, page := 3, stamp := 6 }) (ws [(F.GR_PTIDX_F, 255), (F.GR_PTIDX_PAGE, 3), (F.SWF_CFG_BANK 255, 5)] (oneS 4 { st := .firing, bank := 5 } { live with gr := { pte := [(65283, ⟨true, true, 1, 2⟩)], plots := [(511, { st := .resident, pin := true, f := 255, page := 3, stamp := 6 })] } })) ∧
    in4 255 3 0x80012345 511 ({ st := .resident, pin := true, f := 255, page := 3, stamp := 6 }) (ws [(F.GR_PTIDX_F, 255), (F.GR_PTIDX_PAGE, 3), (F.SWF_CFG_BANK 255, 5)] { live with gr := { pte := [(65283, ⟨true, true, 1, 2⟩)], plots := [(511, { st := .resident, pin := true, f := 255, page := 3, stamp := 6 })] } }) ∧
    in5 255 3 0x80012345 511 ({ st := .resident, pin := true, f := 255, page := 3, stamp := 6 }) (ws [(F.GR_PTIDX_F, 255), (F.GR_PTIDX_PAGE, 3), (F.SWF_CFG_BANK 255, 5)] { live with gr := { pte := [(65283, ⟨true, true, 0, 0x12345⟩)], plots := [(511, { st := .resident, pin := true, f := 255, page := 3, stamp := 6 })] } }) ∧
    in6 255 3 live ∧
    in7 255 3 ({ live with gr := { pte := [(65283, ⟨true, true, 1, 2⟩)] } }) ∧
    in6 255 3 live ∧
    in7 255 3 ({ live with gr := { pte := [(65283, ⟨true, true, 1, 2⟩)] } }) ∧
    in10 255 3 511 ({ st := .resident, pin := false, f := 255, page := 3, stamp := 6 }) ({ live with gr := { pte := [(65283, ⟨true, true, 1, 2⟩)], plots := [(511, { st := .resident, pin := false, f := 255, page := 3, stamp := 6 })] } }.w (F.SP_ID_PRESENT 1) 1) ∧
    in11 255 3 511 ({ st := .resident, pin := true, f := 255, page := 3, stamp := 6 }) ({ live with gr := { pte := [(65283, ⟨true, true, 1, 2⟩)], plots := [(511, { st := .resident, pin := true, f := 255, page := 3, stamp := 6 })] } }.w (F.SP_ID_PRESENT 1) 1) ∧
    in12 255 3 511 ({ st := .resident, pin := true, f := 255, page := 3, stamp := 6 }) ({ live with gr := { pte := [(65283, ⟨true, true, 1, 2⟩)], plots := [(511, { st := .resident, pin := true, f := 255, page := 3, stamp := 6 })] } }.w (F.SP_ID_PRESENT 1) 1) ∧
    in13 255 3 511 ({ st := .resident, pin := true, f := 255, page := 3, stamp := 6 }) ({ live with gr := { plots := [(511, { st := .resident, pin := true, f := 255, page := 3, stamp := 6 })] } }) ∧
    in14 255 3 ({ live with gr := { pte := [(65283, ⟨true, true, 1, 2⟩)], plots := (List.range 384).map fun p => (p, { st := .resident, pin := true }) } }.w (F.SP_ID_PRESENT 1) 1) ∧
    in15 255 3 live ∧
    in15 255 3 ({ live with gr := { pte := [(65283, ⟨true, true, 1, 2⟩)] } }) ∧
    in16 255 3 (ws [(F.SP_ID_PRESENT 1, 1), (F.GR_CTL_EN, 1)] { live with gr := { pte := [(65283, ⟨true, true, 1, 2⟩)], stamp := 8 } }) ∧
    in16 255 3 (ws [(F.SP_ID_PRESENT 1, 1), (F.GR_CTL_EN, 1)] { live with gr := { pte := [(65283, ⟨true, true, 1, 2⟩)], stamp := 8 } }) ∧
    in18 255 3 (ws [(F.SP_ID_PRESENT 1, 1), (F.GR_CTL_EN, 0)] { live with gr := { pte := [(65283, ⟨true, true, 1, 2⟩)], stamp := 8 } }) ∧
    in19 (⟨1, 2, 3⟩) ({ live with gr := { waiting := some ⟨1, 2, 3⟩ } }) ∧
    in19 (⟨1, 2, 3⟩) ({ live with gr := { waiting := some ⟨1, 2, 3⟩ } }) ∧
    in19 (⟨1, 2, 3⟩) ({ live with gr := { waiting := some ⟨1, 2, 3⟩ } }) ∧
    in22 255 3 511 ({ st := .loading, rsv := true, f := 255, page := 3, stamp := 6 }) (⟨255, 3, 511, some 900, true⟩) (List.replicate 1024 7) ({ live with ns := 500, gr := { plots := [(511, { st := .loading, rsv := true, f := 255, page := 3, stamp := 6 })], places := [⟨255, 3, 511, some 900, true⟩], stamp := 9 }, sp := { bus := some ⟨.page 255 3, 0, 1, 100, 500, 64, []⟩ } }) ∧
    in23 255 3 (⟨255, 3, 511, some 900, false⟩) (List.replicate 1024 7) ({ live with ns := 500, gr := { places := [⟨255, 3, 511, some 900, false⟩] } }) ∧
    in24 255 3 511 ({ st := .loading, rsv := true, f := 255, page := 3, stamp := 6 }) (⟨255, 3, 511, some 900, false⟩) ({ live with ns := 500, gr := { plots := [(511, { st := .loading, rsv := true, f := 255, page := 3, stamp := 6 })], places := [⟨255, 3, 511, some 900, false⟩], stamp := 9 } }.w F.GR_QEN_ERROR 1) ∧
    in25 live ∧
    in22 255 3 511 ({ st := .loading, rsv := true, f := 255, page := 3, stamp := 6 }) (⟨255, 3, 511, some 2, true⟩) (List.replicate 1024 7) ({ live with ns := 500, gr := { plots := [(511, { st := .loading, rsv := true, f := 255, page := 3, stamp := 6 })], places := [⟨255, 3, 511, some 2, true⟩], stamp := 9 }, sp := { bus := some ⟨.page 255 3, 0, 1, 100, 500, 64, []⟩ } }) ∧
    in24 255 3 511 ({ st := .loading, rsv := true, f := 255, page := 3, stamp := 6 }) (⟨255, 3, 511, some 900, false⟩) (ws [(F.GR_QEN_ERROR, 1), (F.SP_ID_PRESENT 0, 1), (F.SP_SEL_GEN 0, 1), (F.SP_XDEV_SIZE 0, 1)] { live with ns := 500, gr := { plots := [(511, { st := .loading, rsv := true, f := 255, page := 3, stamp := 6 })], places := [⟨255, 3, 511, some 900, false⟩], stamp := 9, pte := [(65283, ⟨true, false, 0, 0x8000⟩)] } }) := by
  refine ⟨?_, ?_, ?_, ?_, ?_, ?_, ?_, ?_, ?_, ?_, ?_, ?_, ?_, ?_, ?_, ?_, ?_, ?_, ?_, ?_, ?_, ?_, ?_, ?_, ?_, ?_, ?_, ?_, ?_, ?_⟩ <;> decide +kernel

end W_GranaryAndGleaner

namespace W_LightChannelsAndBoosters

abbrev only (k : Fin 64) (s : Slot) (b : Fin 6) (d : Dev) : Prop := d.sw.slots = [(k.val, s)] ∧ s.bank = b.val ∧ d.com = [] ∧ d.r (F.SWF_CFG_HEADEN s.f) = 0
abbrev pulses (k : Fin 64) (s : Slot) (b : Fin 6) (d : Dev) : Prop := (only k s b) d ∧ s.st = .firing ∧ s.pulse = true
abbrev lit (b : Fin 6) (d : Dev) : Prop := d.r (F.LD_BSTAT_STATE b) ≠ 1
abbrev open1 (d : Dev) : Prop := d.sw.slots = [] ∧ d.sw.pend = [] ∧ d.sw.forcing = [] ∧ d.com = [] ∧ d.ld.banks = [] ∧ d.tlt % 65536 ≤ 63536
abbrev fires (b : Fin 6) (d : Dev) : Prop := bankFiring d b = true
abbrev x (s : Slot) (q : Nat) (d : Dev) : Step := stepAt d q (s.step % 64)
abbrev code (s : Slot) (q : Nat) (d : Dev) (c : Nat) : Nat := min ((x s q) d).level (min (d.r (F.SWF_PAGE_CAP s.f)) (d.r (F.LD_CHCFG_CAP c))) * s.scale / 1024
abbrev in0 (k : Fin 64) (s : Slot) (b : Fin 6) (q : Nat) (d : Dev) : Prop :=
  (only k s b) d ∧ (lit b) d ∧ s.st = .firing ∧ s.pulse = false ∧ s.start ≤ d.ns ∧ s.prev = none ∧
          s.plots[s.step / 64]? = some q ∧ 100 ≤ ((x s q) d).width ∧ ((x s q) d).rsvd = 0 ∧ ((x s q) d).scanEn = false ∧ vgdOf b ∉ d.ld.vgdLow
abbrev leads (k : Fin 64) (s : Slot) (b : Fin 6) (q : Nat) (d : Dev) : Prop := (only k s b) d ∧ (lit b) d ∧ s.st = .set ∧ s.step = 0 ∧ s.plots[0]? = some q ∧ darkened d = false ∧ (stepAt d q 0).scanEn = true ∧
         sd s.tfire d.tlt ≤ min (d.r (F.LD_BSCN_SLEAD b)) 1000
abbrev in1 (k : Fin 64) (s : Slot) (b : Fin 6) (q : Nat) (d : Dev) : Prop :=
  (leads k s b q) d ∧ d.ld.banks = []
abbrev in2 (k : Fin 64) (s : Slot) (b : Fin 6) (q : Nat) (j : Fin 6) (o : BankOut) (d : Dev) : Prop :=
  (leads k s b q) d ∧ d.ld.banks = [(j.val, o)] ∧ o.cut = none ∧ j ≠ b ∧ ∃ y ∈ o.lines, y ≠ (stepAt d q 0).scan
abbrev in3 (k : Fin 64) (s : Slot) (b : Fin 6) (d : Dev) : Prop :=
  (only k s b) d ∧ ¬(lit b) d ∧ ∀ i, i < 6 → (d.bo i).cut = none
abbrev in6 (r : Fin 8) (d : Dev) : Prop :=
  d.ld.banks = [] ∨ d.ns < Tab.getD d.ld.lineSince r 0 + 200
abbrev drives (k : Fin 64) (s : Slot) (b : Fin 6) (c : Fin 48) (w : Sink) (d : Dev) : Prop := (pulses k s b) d ∧ d.ld.sinks = [(c.val, w)] ∧ w.code ≠ 0 ∧ s.start + 100 ≤ d.ns ∧ d.r (F.LD_CHSTAT_STATE c) = 0 ∧
        d.r (F.LD_CHCFG_PGRP c) = 0 ∧ d.sw.pend = []
abbrev inReg (c : Fin 48) (reg : Byte) : Bool := bitAt reg.toNat (c % 8)
abbrev in7 (k : Fin 64) (s : Slot) (b : Fin 6) (c : Fin 48) (w : Sink) (reg : Byte) (low : Byte) (d : Dev) : Prop :=
  (c.val / 8 = b.val) ∧ ((drives k s b c w) d ∧ ((inReg c reg) = true ∨ bitAt low.toNat (c % 8) = false ∨ w.code < 40 ∨ s.tripped = true ∨ d.r (F.BD_BSAG_TRIP b) ≠ 0))
abbrev in8 (k : Fin 64) (s : Slot) (b : Fin 6) (c : Fin 48) (w : Sink) (reg : Byte) (low : Byte) (d : Dev) : Prop :=
  (c.val / 8 = b.val) ∧ ((drives k s b c w) d ∧ (inReg c reg) = false ∧ bitAt low.toNat (c % 8) = true ∧ 40 ≤ w.code ∧ s.tripped = false ∧
            d.r (F.BD_BSAG_TRIP b) = 0)
abbrev in10 (k : Fin 64) (s : Slot) (b : Fin 6) (c : Fin 48) (w : Sink) (d : Dev) : Prop :=
  (c.val / 8 = b.val) ∧ ((drives k s b c w) d ∧ s.start + 150 ≤ d.ns)
abbrev in9 (b : Fin 6) (c : Fin 48) (d : Dev) : Prop :=
  (c.val / 8 = b.val) ∧ (d.sw.slots = [] ∧ d.ld.banks = [])
abbrev in11 (k : Fin 64) (s : Slot) (b : Fin 6) (c : Fin 48) (d : Dev) : Prop :=
  (c.val / 8 = b.val) ∧ ((pulses k s b) d ∧ ((d.sink c).code = 0 ∨ d.ns < s.start + 150))
abbrev in12 (b : Fin 6) (c : Fin 48) (d : Dev) : Prop :=
  (c.val / 8 = b.val) ∧ (d.r (F.LD_CHSTAT_STATE c) ≠ 0 ∧ d.r (F.LD_CHCFG_PGRP c) = 0 ∧ open1 d)
abbrev in13 (b : Fin 6) (c : Fin 48) (d : Dev) : Prop :=
  (c.val / 8 = b.val) ∧ (d.r (F.LD_CHSTAT_STATE c) ≠ 0 ∧ (fires b) d)
abbrev in14 (b : Fin 6) (c : Fin 48) (d : Dev) : Prop :=
  (c.val / 8 = b.val) ∧ (d.r (F.LD_CHSTAT_STATE c) = 0)
abbrev in15 (b : Fin 6) (c : Fin 48) (d : Dev) : Prop :=
  (c.val / 8 = b.val) ∧ (d.r (F.LD_CHSTAT_STATE c) = 0 ∧ open1 d)
abbrev in16 (b : Fin 6) (c : Fin 48) (d : Dev) : Prop :=
  (c.val / 8 = b.val) ∧ (d.r (F.LD_CHSTAT_STATE c) = 0 ∧ (fires b) d)
abbrev in17 (b : Fin 6) (c : Fin 48) (d : Dev) : Prop :=
  (c.val / 8 = b.val) ∧ (d.r (F.LD_CHSTAT_STATE c) ≠ 0)
abbrev in18 (b : Fin 6) (c : Fin 48) : Prop :=
  (c.val / 8 = b.val)
abbrev duty (c : Fin 48) (d : Dev) : Nat := min (max (d.r (F.LD_CHCFG_DUTY c)) 100) 63536
abbrev charge (c : Fin 48) (d : Dev) : Rat := ((d.r (F.LD_CHCFG_CAP c) * (duty c) d : Nat) : Rat) / 20000
abbrev period (d : Dev) : Nat := d.tlt / 65536
abbrev start (d : Dev) : Nat := d.ns - d.tlt % 65536
abbrev aims (c : Fin 48) (d : Dev) : Prop := d.ld.aimPeriod ≠ period d + 1 ∧ d.r F.CK_STAT_PLLLOCK = 1 ∧ d.r F.CK_STAT_UNLOCK = 0 ∧ darkened d = false ∧ d.ck.ladder = .run ∧
         d.com = [] ∧ ∀ j, j < 48 → ((d.r (F.LD_BSTAT_STATE (j / 8)) = 2 ∧ d.r (F.LD_CHCFG_DUTY j) ≠ 0 ∧ d.r (F.LD_CHSTAT_STATE j) = 0) ↔ j = c.val)
abbrev admits (b : Fin 6) (c : Fin 48) (d : Dev) : Prop := testOf d c < d.r (F.BD_BTH_TMAX b) ∧ (charge c) d ≤ roomOf (windowRoll d) b (period d * 65536)
abbrev in19 (b : Fin 6) (c : Fin 48) (d : Dev) : Prop :=
  (c.val / 8 = b.val) ∧ ((aims c) d ∧ (admits b c) d)
abbrev in20 (b : Fin 6) (c : Fin 48) (d : Dev) : Prop :=
  (c.val / 8 = b.val) ∧ ((aims c) d ∧ ¬(admits b c) d)
abbrev in21 (b : Fin 6) (c : Fin 48) (d : Dev) : Prop :=
  (c.val / 8 = b.val) ∧ (d.ld.aimPeriod = period d + 1 ∨ d.r F.CK_STAT_PLLLOCK = 0 ∨ d.ck.ladder = .nap)
abbrev in22 (b : Fin 6) (c : Fin 48) (o : BankOut) (e : Nat) (d : Dev) : Prop :=
  (c.val / 8 = b.val) ∧ (o.aim = [(c.val, e)]) ∧ (d.ld.banks = [(b.val, o)] ∧ e ≤ d.ns ∧ d.sw.pend = [] ∧ d.sw.forcing = [])
abbrev in23 (b : Fin 6) (c : Fin 48) (o : BankOut) (e : Nat) (d : Dev) : Prop :=
  (c.val / 8 = b.val) ∧ (o.aim = [(c.val, e)]) ∧ (d.ld.banks = [(b.val, o)] ∧ d.ns < e)
abbrev goal (b : Fin 6) (d : Dev) : Nat := 50 * (d.bo b).boost
abbrev boosts (k : Fin 64) (s : Slot) (b : Fin 6) (d : Dev) : Prop := (pulses k s b) d ∧ 200 ≤ (d.bo b).boost ∧ d.ld.vgdLow = [] ∧ s.sag = false ∧ s.burst = false ∧ s.ring = false ∧ s.verdict = none
abbrev checks (k : Fin 64) (s : Slot) (b : Fin 6) (d : Dev) : Prop := (boosts k s b) d ∧ s.start + min (min (max (d.r (F.LD_BBST_BRISE b)) 100) 1000) s.cur.width ≤ d.ns
abbrev in24 (k : Fin 64) (s : Slot) (b : Fin 6) (sense : Nat) (d : Dev) : Prop :=
  (checks k s b) d ∧ 4 * sense < (goal b) d
abbrev in25 (k : Fin 64) (s : Slot) (b : Fin 6) (sense : Nat) (d : Dev) : Prop :=
  (checks k s b) d ∧ (goal b) d ≤ 4 * sense ∧ 10 * sense < 9 * (goal b) d
abbrev in26 (k : Fin 64) (s : Slot) (b : Fin 6) (sense : Nat) (d : Dev) : Prop :=
  (checks k s b) d ∧ 9 * (goal b) d ≤ 10 * sense
abbrev high (b : Fin 6) (sense : Nat) (d : Dev) : Prop := 3 * (goal b) d + 20000 < 2 * sense ∨ 250000 < sense
abbrev in28 (k : Fin 64) (s : Slot) (b : Fin 6) (sense : Nat) (d : Dev) : Prop :=
  (boosts k s b) d ∧ (high b sense) d
abbrev in29 (k : Fin 64) (s : Slot) (b : Fin 6) (sense : Nat) (d : Dev) : Prop :=
  (boosts k s b) d ∧ ¬(high b sense) d
abbrev in27 (d : Dev) : Prop :=
  d.sw.slots = []
abbrev in30 (k : Fin 64) (s : Slot) (b : Fin 6) (i : Fin 2) (d : Dev) : Prop :=
  (pulses k s b) d ∧ b.val / 3 = i.val
abbrev plain (b : Fin 6) (d : Dev) : Prop := ∀ j : Nat, j < 8 → d.r (F.LD_CHCFG_DUTY (8 * b.val + j)) = 0
abbrev in32 (b : Fin 6) (d : Dev) : Prop :=
  d.r (F.LD_BSTAT_STATE b) = 1 ∧ (plain b) d ∧ open1 d
abbrev in33 (b : Fin 6) (d : Dev) : Prop :=
  d.r (F.LD_BSTAT_STATE b) ≠ 1 ∧ open1 d
abbrev in34 (b : Fin 6) (d : Dev) : Prop :=
  d.r (F.LD_BSTAT_STATE b) ≠ 1 ∧ (fires b) d
abbrev in35 (b : Fin 6) (d : Dev) : Prop :=
  d.r (F.LD_BSTAT_STATE b) ≠ 1
abbrev in36 (b : Fin 6) (d : Dev) : Prop :=
  d.r (F.LD_BSTAT_STATE b) = 1
abbrev in4 (k : Fin 64) (s : Slot) (b : Fin 6) (o : BankOut) (q : Nat) (d : Dev) : Prop :=
  (o.lines = []) ∧ (o.released = none) ∧ (s.st = .firing) ∧ (s.bank = b.val) ∧ (s.plots[s.step / 64]? = some q) ∧ (d.ld.banks = [(b.val, o)] ∧ o.cut = some (d.ns, k.val, s) ∧ d.sw.slots = [] ∧ (lit b) d ∧ darkened d = false ∧
          (stepAt d q (s.step % 64)).scanEn = true ∧ s.start ≤ d.ns + min (d.cv (F.LD_BSCN_SLEAD b)) 1000)

theorem witness_LightChannelsAndBoosters :
    in0 63 ({ st := .firing, f := 7, bank := 5, plots := [9], scale := 1024, start := 50 }) 5 9 (oneS 63 { st := .firing, f := 7, bank := 5, plots := [9], scale := 1024, start := 50 } (ws [(F.SWF_CFG_MASK 7, 255), (F.SWF_CFG_BANK 7, 5), (F.SWF_PAGE_CAP 7, 80), (F.LD_CHCFG_CAP 40, 90), (F.LD_CHCFG_CAP 47, 70), (F.LD_CHSTAT_STATE 40, 0), (F.LD_CHSTAT_STATE 47, 0), (F.LD_BSTAT_STATE 5, 0), (F.LD_BBST_BCAP 5, 2000)] ({ live with ns := 70 }.store 16 805315584 442795644887162754695368))) ∧
    in0 63 ({ st := .firing, f := 7, bank := 5, plots := [9], scale := 512, start := 50 }) 5 9 (oneS 63 { st := .firing, f := 7, bank := 5, plots := [9], scale := 512, start := 50 } (ws [(F.SWF_CFG_MASK 7, 255), (F.SWF_CFG_BANK 7, 5), (F.SWF_PAGE_CAP 7, 80), (F.LD_CHCFG_CAP 40, 90), (F.LD_CHCFG_CAP 47, 70), (F.LD_CHSTAT_STATE 40, 0), (F.LD_CHSTAT_STATE 47, 0), (F.LD_BSTAT_STATE 5, 0), (F.LD_BBST_BCAP 5, 4095), (F.SWF_PAGE_CAP 7, 4095)] ({ live with ns := 70 }.store 16 805315584 442795644887162754695368))) ∧
    in1 63 ({ st := .set, f := 7, bank := 5, plots := [9], tfire := 1000 }) 5 9 (oneS 63 { st := .set, f := 7, bank := 5, plots := [9], tfire := 1000 } (ws [(F.SWF_CFG_MASK 7, 255), (F.SWF_CFG_BANK 7, 5), (F.SWF_PAGE_CAP 7, 80), (F.LD_CHCFG_CAP 40, 90), (F.LD_CHCFG_CAP 47, 70), (F.LD_CHSTAT_STATE 40, 0), (F.LD_CHSTAT_STATE 47, 0), (F.LD_BSTAT_STATE 5, 0), (F.LD_BSCN_SLEAD 5, 500)] ({ live with tlt := 500 }.store 16 805315584 142592914227400))) ∧
    in2 63 ({ st := .set, f := 7, bank := 5, plots := [9], tfire := 1000 }) 5 9 0 ({ lines := [2] }) (oneS 63 { st := .set, f := 7, bank := 5, plots := [9], tfire := 1000 } (ws [(F.SWF_CFG_MASK 7, 255), (F.SWF_CFG_BANK 7, 5), (F.SWF_PAGE_CAP 7, 80), (F.LD_CHCFG_CAP 40, 90), (F.LD_CHCFG_CAP 47, 70), (F.LD_CHSTAT_STATE 40, 0), (F.LD_CHSTAT_STATE 47, 0), (F.LD_BSTAT_STATE 5, 0), (F.LD_BSCN_SLEAD 5, 500)] ({ live with tlt := 500, ld := { banks := [(0, { lines := [2] })] } }.store 16 805315584 142592914227400))) ∧
    in3 63 ({ st := .set, f := 7, bank := 5, plots := [9], tfire := 1000 }) 5 (oneS 63 { st := .set, f := 7, bank := 5, plots := [9], tfire := 1000 } (live)) ∧
    in6 7 ({ live with ns := 699, ld := { banks := [(5, { lines := [7] })], lineSince := [(7, 500)] } }) ∧
    in7 63 ({ st := .firing, f := 7, bank := 5, plots := [9], start := 50, pulse := true, cur := { width := 400 } }) 5 47 ({ code := 50 }) 0x80 0xFF (oneS 63 { st := .firing, f := 7, bank := 5, plots := [9], start := 50, pulse := true, cur := { width := 400 } } (ws [(F.SWF_CFG_MASK 7, 255), (F.SWF_CFG_BANK 7, 5), (F.SWF_PAGE_CAP 7, 80), (F.LD_CHCFG_CAP 40, 90), (F.LD_CHCFG_CAP 47, 70), (F.LD_CHSTAT_STATE 40, 0), (F.LD_CHSTAT_STATE 47, 0), (F.LD_BSTAT_STATE 5, 0), (F.LD_QEN_CAUSE, 63)] { live with ns := 150, ld := { sinks := [(47, { code := 50 })] } })) ∧
    in7 63 ({ st := .firing, f := 7, bank := 5, plots := [9], start := 50, pulse := true, cur := { width := 400 } }) 5 47 ({ code := 39 }) 0x7F 0xFF (oneS 63 { st := .firing, f := 7, bank := 5, plots := [9], start := 50, pulse := true, cur := { width := 400 } } (ws [(F.SWF_CFG_MASK 7, 255), (F.SWF_CFG_BANK 7, 5), (F.SWF_PAGE_CAP 7, 80), (F.LD_CHCFG_CAP 40, 90), (F.LD_CHCFG_CAP 47, 70), (F.LD_CHSTAT_STATE 40, 0), (F.LD_CHSTAT_STATE 47, 0), (F.LD_BSTAT_STATE 5, 0), (F.LD_QEN_CAUSE, 63)] { live with ns := 150, ld := { sinks := [(47, { code := 39 })] } })) ∧
    in8 63 ({ st := .firing, f := 7, bank := 5, plots := [9], start := 50, pulse := true, cur := { width := 400 } }) 5 47 ({ code := 40 }) 0x7F 0xFF (oneS 63 { st := .firing, f := 7, bank := 5, plots := [9], start := 50, pulse := true, cur := { width := 400 } } (ws [(F.SWF_CFG_MASK 7, 255), (F.SWF_CFG_BANK 7, 5), (F.SWF_PAGE_CAP 7, 80), (F.LD_CHCFG_CAP 40, 90), (F.LD_CHCFG_CAP 47, 70), (F.LD_CHSTAT_STATE 40, 0), (F.LD_CHSTAT_STATE 47, 0), (F.LD_BSTAT_STATE 5, 0), (F.LD_QEN_CAUSE, 63)] { live with ns := 150, ld := { sinks := [(47, { code := 40 })] } })) ∧
    in10 63 ({ st := .firing, f := 7, bank := 5, plots := [9], start := 50, pulse := true, cur := { width := 400 } }) 5 47 ({ code := 50 }) (oneS 63 { st := .firing, f := 7, bank := 5, plots := [9], start := 50, pulse := true, cur := { width := 400 } } (ws [(F.SWF_CFG_MASK 7, 255), (F.SWF_CFG_BANK 7, 5), (F.SWF_PAGE_CAP 7, 80), (F.LD_CHCFG_CAP 40, 90), (F.LD_CHCFG_CAP 47, 70), (F.LD_CHSTAT_STATE 40, 0), (F.LD_CHSTAT_STATE 47, 0), (F.LD_BSTAT_STATE 5, 0), (F.LD_QEN_CAUSE, 63)] { live with ns := 200, ld := { sinks := [(47, { code := 50 })] } })) ∧
    in9 5 47 live ∧
    in11 63 ({ st := .firing, f := 7, bank := 5, plots := [9], start := 50, pulse := true, cur := { width := 400 } }) 5 47 (oneS 63 { st := .firing, f := 7, bank := 5, plots := [9], start := 50, pulse := true, cur := { width := 400 } } (ws [(F.SWF_CFG_MASK 7, 255), (F.SWF_CFG_BANK 7, 5), (F.SWF_PAGE_CAP 7, 80), (F.LD_CHCFG_CAP 40, 90), (F.LD_CHCFG_CAP 47, 70), (F.LD_CHSTAT_STATE 40, 0), (F.LD_CHSTAT_STATE 47, 0), (F.LD_BSTAT_STATE 5, 0), (F.LD_QEN_CAUSE, 63)] { live with ns := 149, ld := { sinks := [(47, { code := 50 })] } })) ∧
    in12 5 47 (live.w (F.LD_CHSTAT_STATE 47) 2) ∧
    in13 5 47 (oneS 63 { st := .firing, f := 7, bank := 5 } (live.w (F.LD_CHSTAT_STATE 47) 2)) ∧
    in14 5 47 (live.w (F.LD_CHSTAT_STATE 47) 0) ∧
    in15 5 47 (live.w (F.LD_CHSTAT_STATE 47) 0) ∧
    in16 5 47 (oneS 63 { st := .firing, f := 7, bank := 5 } (live.w (F.LD_CHSTAT_STATE 47) 0)) ∧
    in17 5 47 (live.w (F.LD_CHSTAT_STATE 47) 2) ∧
    in18 5 47 ∧
    in19 5 47 (ws [(F.LD_BSTAT_STATE 5, 2), (F.LD_CHCFG_DUTY 47, 500), (F.LD_CHSTAT_STATE 47, 0), (F.LD_CHCFG_CAP 47, 10), (F.CK_STAT_PLLLOCK, 1), (F.BD_BCFG_QLIM 5, 1000)] { live with ns := 70000, tlt := 65540 }) ∧
    in20 5 47 (ws [(F.LD_BSTAT_STATE 5, 2), (F.LD_CHCFG_DUTY 47, 500), (F.LD_CHSTAT_STATE 47, 0), (F.LD_CHCFG_CAP 47, 10), (F.CK_STAT_PLLLOCK, 1), (F.BD_BCFG_QLIM 5, 1000), (F.BD_ADC_CODE 7, 1000)] { live with ns := 70000, tlt := 65540 }) ∧
    in21 5 47 (ws [(F.LD_BSTAT_STATE 5, 2), (F.LD_CHCFG_DUTY 47, 500), (F.LD_CHSTAT_STATE 47, 0), (F.LD_CHCFG_CAP 47, 10), (F.CK_STAT_PLLLOCK, 1), (F.BD_BCFG_QLIM 5, 1000)] { live with ns := 70000, tlt := 65540, ld := { aimPeriod := 2 } }) ∧
    in22 5 47 ({ aim := [(47, 900)] }) 900 (ws [(F.LD_BSTAT_LIT 5, 1)] { live with ns := 900, ld := { banks := [(5, { aim := [(47, 900)] })], sinks := [(47, { code := 50 })] } }) ∧
    in23 5 47 ({ aim := [(47, 900)] }) 900 ({ live with ns := 899, ld := { banks := [(5, { aim := [(47, 900)] })] } }) ∧
    in24 63 ({ st := .firing, f := 7, bank := 5, plots := [9], start := 50, pulse := true, cur := { width := 400 } }) 5 4999 (oneS 63 { st := .firing, f := 7, bank := 5, plots := [9], start := 50, pulse := true, cur := { width := 400 } } (ws [(F.SWF_CFG_MASK 7, 255), (F.SWF_CFG_BANK 7, 5), (F.SWF_PAGE_CAP 7, 80), (F.LD_CHCFG_CAP 40, 90), (F.LD_CHCFG_CAP 47, 70), (F.LD_CHSTAT_STATE 40, 0), (F.LD_CHSTAT_STATE 47, 0), (F.LD_BSTAT_STATE 5, 0), (F.LD_QEN_CAUSE, 63)] { live with ns := 1050, ld := { banks := [(5, { boost := 400 })] } })) ∧
    in25 63 ({ st := .firing, f := 7, bank := 5, plots := [9], start := 50, pulse := true, cur := { width := 400 } }) 5 5000 (oneS 63 { st := .firing, f := 7, bank := 5, plots := [9], start := 50, pulse := true, cur := { width := 400 } } (ws [(F.SWF_CFG_MASK 7, 255), (F.SWF_CFG_BANK 7, 5), (F.SWF_PAGE_CAP 7, 80), (F.LD_CHCFG_CAP 40, 90), (F.LD_CHCFG_CAP 47, 70), (F.LD_CHSTAT_STATE 40, 0), (F.LD_CHSTAT_STATE 47, 0), (F.LD_BSTAT_STATE 5, 0), (F.LD_QEN_CAUSE, 63)] { live with ns := 1050, ld := { banks := [(5, { boost := 400 })] } })) ∧
    in25 63 ({ st := .firing, f := 7, bank := 5, plots := [9], start := 50, pulse := true, cur := { width := 400 } }) 5 17999 (oneS 63 { st := .firing, f := 7, bank := 5, plots := [9], start := 50, pulse := true, cur := { width := 400 } } (ws [(F.SWF_CFG_MASK 7, 255), (F.SWF_CFG_BANK 7, 5), (F.SWF_PAGE_CAP 7, 80), (F.LD_CHCFG_CAP 40, 90), (F.LD_CHCFG_CAP 47, 70), (F.LD_CHSTAT_STATE 40, 0), (F.LD_CHSTAT_STATE 47, 0), (F.LD_BSTAT_STATE 5, 0), (F.LD_QEN_CAUSE, 63)] { live with ns := 1050, ld := { banks := [(5, { boost := 400 })] } })) ∧
    in26 63 ({ st := .firing, f := 7, bank := 5, plots := [9], start := 50, pulse := true, cur := { width := 400 } }) 5 18000 (oneS 63 { st := .firing, f := 7, bank := 5, plots := [9], start := 50, pulse := true, cur := { width := 400 } } (ws [(F.SWF_CFG_MASK 7, 255), (F.SWF_CFG_BANK 7, 5), (F.SWF_PAGE_CAP 7, 80), (F.LD_CHCFG_CAP 40, 90), (F.LD_CHCFG_CAP 47, 70), (F.LD_CHSTAT_STATE 40, 0), (F.LD_CHSTAT_STATE 47, 0), (F.LD_BSTAT_STATE 5, 0), (F.LD_QEN_CAUSE, 63)] { live with ns := 1050, ld := { banks := [(5, { boost := 400 })] } })) ∧
    in28 63 ({ st := .firing, f := 7, bank := 5, plots := [9], start := 50, pulse := true, cur := { width := 400 } }) 5 40001 (oneS 63 { st := .firing, f := 7, bank := 5, plots := [9], start := 50, pulse := true, cur := { width := 400 } } (ws [(F.SWF_CFG_MASK 7, 255), (F.SWF_CFG_BANK 7, 5), (F.SWF_PAGE_CAP 7, 80), (F.LD_CHCFG_CAP 40, 90), (F.LD_CHCFG_CAP 47, 70), (F.LD_CHSTAT_STATE 40, 0), (F.LD_CHSTAT_STATE 47, 0), (F.LD_BSTAT_STATE 5, 0), (F.LD_QEN_CAUSE, 63)] { live with ns := 1050, ld := { banks := [(5, { boost := 400 })] } })) ∧
    in29 63 ({ st := .firing, f := 7, bank := 5, plots := [9], start := 50, pulse := true, cur := { width := 400 } }) 5 40000 (oneS 63 { st := .firing, f := 7, bank := 5, plots := [9], start := 50, pulse := true, cur := { width := 400 } } (ws [(F.SWF_CFG_MASK 7, 255), (F.SWF_CFG_BANK 7, 5), (F.SWF_PAGE_CAP 7, 80), (F.LD_CHCFG_CAP 40, 90), (F.LD_CHCFG_CAP 47, 70), (F.LD_CHSTAT_STATE 40, 0), (F.LD_CHSTAT_STATE 47, 0), (F.LD_BSTAT_STATE 5, 0), (F.LD_QEN_CAUSE, 63)] { live with ns := 1050, ld := { banks := [(5, { boost := 400 })] } })) ∧
    in28 63 ({ st := .firing, f := 7, bank := 5, plots := [9], start := 50, pulse := true, cur := { width := 400 } }) 5 250001 (oneS 63 { st := .firing, f := 7, bank := 5, plots := [9], start := 50, pulse := true, cur := { width := 400 } } (ws [(F.SWF_CFG_MASK 7, 255), (F.SWF_CFG_BANK 7, 5), (F.SWF_PAGE_CAP 7, 80), (F.LD_CHCFG_CAP 40, 90), (F.LD_CHCFG_CAP 47, 70), (F.LD_CHSTAT_STATE 40, 0), (F.LD_CHSTAT_STATE 47, 0), (F.LD_BSTAT_STATE 5, 0), (F.LD_QEN_CAUSE, 63)] { live with ns := 1050, ld := { banks := [(5, { boost := 4000 })] } })) ∧
    in27 live ∧
    in30 63 ({ st := .firing, f := 7, bank := 5, plots := [9], start := 50, pulse := true, cur := { width := 400 } }) 5 1 (oneS 63 { st := .firing, f := 7, bank := 5, plots := [9], start := 50, pulse := true, cur := { width := 400 } } (ws [(F.SWF_CFG_MASK 7, 255), (F.SWF_CFG_BANK 7, 5), (F.SWF_PAGE_CAP 7, 80), (F.LD_CHCFG_CAP 40, 90), (F.LD_CHCFG_CAP 47, 70), (F.LD_CHSTAT_STATE 40, 0), (F.LD_CHSTAT_STATE 47, 0), (F.LD_BSTAT_STATE 5, 0), (F.LD_QEN_CAUSE, 63)] { live with ns := 1050, ld := { banks := [(5, { boost := 400 })] } })) ∧
    in32 5 live ∧
    in33 5 (live.w (F.LD_BSTAT_STATE 5) 2) ∧
    in34 5 (oneS 63 { st := .firing, f := 7, bank := 5 } (live.w (F.LD_BSTAT_STATE 5) 0)) ∧
    in35 5 (live.w (F.LD_BSTAT_STATE 5) 0) ∧
    in36 5 live ∧
    in4 63 ({ st := .firing, f := 7, bank := 5, plots := [9], start := 800 }) 5 ({ cut := some (500, 63, { st := .firing, f := 7, bank := 5, plots := [9], start := 800 }) }) 9 (ws [(F.LD_BSTAT_STATE 5, 0), (F.LD_BSCN_SLEAD 5, 500)] ({ live with ns := 500, ld := { banks := [(5, { cut := some (500, 63, { st := .firing, f := 7, bank := 5, plots := [9], start := 800 }) })] } }.store 16 805315584 142592914227400)) := by
  refine ⟨?_, ?_, ?_, ?_, ?_, ?_, ?_, ?_, ?_, ?_, ?_, ?_, ?_, ?_, ?_, ?_, ?_, ?_, ?_, ?_, ?_, ?_, ?_, ?_, ?_, ?_, ?_, ?_, ?_, ?_, ?_, ?_, ?_, ?_, ?_, ?_, ?_, ?_, ?_⟩ <;> decide +kernel

end W_LightChannelsAndBoosters

theorem witness_LightChannelsAndBoosters_line :
    (∃ o, (ws [(F.LD_QEN_CAUSE, 63)] { live with ns := 700, ld := { banks := [(5, { lines := [7] })], lineSince := [(7, 500)] } }).ld.banks = [(5, o)] ∧ 7 ∈ o.lines) ∧
    (fun d : Dev => Tab.getD d.ld.lineSince 7 0 + 200 ≤ d.ns ∧ bitAt (d.r F.LD_QEN_CAUSE) 5 = true ∧ evStaged d < 16)
      (ws [(F.LD_QEN_CAUSE, 63)] { live with ns := 700, ld := { banks := [(5, { lines := [7] })], lineSince := [(7, 500)] } }) :=
  ⟨⟨{ lines := [7] }, by decide +kernel, by decide +kernel⟩, by decide +kernel⟩

namespace W_BudgetsAndDisturbance

abbrev asleep (d : Dev) : Prop := d.ck.ladder = .nap ∨ d.ck.ladder = .fallow ∨ d.ck.ladder = .waking
abbrev now (d : Dev) : Nat := if asleep d then (d.ck.sleepTlt + (if d.ck.xrun then d.ns - d.ck.sleepNs else 0)) % 2 ^ 48 else d.tlt
abbrev still (d : Dev) : Prop := d.ck.ladder = .dormant ∨ d.ck.ladder = .resetting ∨ (d.ck.ladder = .fallow ∧ d.ck.xrun = false) ∨
    (d.ck.ladder = .waking ∧ d.ck.xrun = false ∧ d.r F.CK_STAT_PLLLOCK = 0)
abbrev unticked (d : Dev) : Prop := d.awake = true ∧ ∀ n, n < 8 → peTicked d n = none
abbrev in0 (b : Fin 6) (l : List Rat) (n : Nat) (d : Dev) : Prop :=
  (l.length = 32) ∧ (1 ≤ n) ∧ (n ≤ 32) ∧ (d.bd.ledger = [(b.val, l)] ∧ now d / 100000 = d.bd.wNow + n)
abbrev in1 (d : Dev) : Prop :=
  now d / 100000 = d.bd.wNow
abbrev in2 (d : Dev) : Prop :=
  ¬ still d
abbrev senses (b : Fin 6) (d : Dev) : Prop := (d.bo b).sensed = true ∧ d.ck.ladder = .run
abbrev in6 (b : Fin 6) (d : Dev) : Prop :=
  (senses b) d ∧ d.r (F.LD_BSTAT_STATE b) = 0 ∧ inHeadland d b = true ∧ d.com = []
abbrev in7 (b : Fin 6) (d : Dev) : Prop :=
  (senses b) d ∧ (d.r (F.LD_BSTAT_STATE b) = 2 ∨ inHeadland d b = false)
abbrev in8 (b : Fin 6) (d : Dev) : Prop :=
  (d.bo b).sensed = false ∨ asleep d ∨ d.ck.ladder = .dormant ∨ d.ck.ladder = .resetting
abbrev pulses (b : Fin 6) (k : Fin 64) (s : Slot) (d : Dev) : Prop := d.sw.slots = [(k.val, s)] ∧ s.st = .firing ∧ s.bank = b.val ∧ s.pulse = true
abbrev ended (b : Fin 6) (k : Fin 64) (s : Slot) (d : Dev) : Prop := d.sw.slots = [(k.val, s)] ∧ s.st = .firing ∧ s.bank = b.val ∧ s.pulse = false ∧
      s.last.any (fun e => decide (e.2 = d.ns ∧ e.1 + 10 * d.r (F.BD_BCFG_SBLANK b) ≤ d.ns)) = true
abbrev armed (b : Fin 6) (k : Fin 64) (s : Slot) (d : Dev) : Prop := (((pulses b k s) d ∧ s.start + 10 * d.r (F.BD_BCFG_SBLANK b) ≤ d.ns) ∨ (ended b k s) d) ∧ d.com = [] ∧ d.r (F.BD_BSAG_NOREF b) = 0 ∧
      (d.r (F.BD_BSAG_TRIP b) = 0 ∨ s.tripped = false)
abbrev plain (s : Slot) (d : Dev) : Prop := d.r (F.SWF_CFG_HEADEN s.f) = 0 ∧ d.r F.SR_STAT_STATE = 0 ∧ s.verdict = none ∧ s.deliv ≤ s.q ∧ d.ld.sinks = [] ∧ d.ld.banks = [] ∧
      d.sw.pend = [] ∧ d.sw.forcing = [] ∧ s.trigs = [] ∧ unticked d
abbrev in9 (b : Fin 6) (k : Fin 64) (s : Slot) (d : Dev) : Prop :=
  (armed b k s) d ∧ d.r (F.SWF_CFG_DIST s.f) ≠ 2
abbrev in10 (b : Fin 6) (k : Fin 64) (s : Slot) (d : Dev) : Prop :=
  (armed b k s) d ∧ (plain s) d ∧ d.r (F.SWF_CFG_DIST s.f) = 2
abbrev in11 (b : Fin 6) (k : Fin 64) (s : Slot) (d : Dev) : Prop :=
  d.sw.slots = [] ∨ ((pulses b k s) d ∧ (d.ns < s.start + 10 * d.cv (F.BD_BCFG_SBLANK b) ∨ d.r (F.BD_BSAG_NOREF b) ≠ 0))
abbrev in13 (b : Fin 6) (k : Fin 64) (s : Slot) (d : Dev) : Prop :=
  (pulses b k s) d ∧ (plain s) d ∧ s.sag = true ∧ d.r (F.SWF_CFG_DIST s.f) = 1 ∧ s.start + s.cur.width / 4 ≤ d.ns
abbrev in14 (b : Fin 6) (k : Fin 64) (s : Slot) (d : Dev) : Prop :=
  d.sw.slots = [] ∨ ((pulses b k s) d ∧ s.sag = false)
abbrev longer (s : Slot) (short : Nat) : Nat := min short (s.cur.width / 4)
abbrev in15 (b : Fin 6) (k : Fin 64) (s : Slot) (short : Nat) (q : Nat) (d : Dev) : Prop :=
  (pulses b k s) d ∧ (plain s) d ∧ s.sag = true ∧ d.r (F.SWF_CFG_DIST s.f) = 1 ∧ s.start + s.cur.width + (longer s short) ≤ d.ns ∧
          s.cur.last = false ∧ s.cur.scanEn = false ∧ s.plots[(s.step + 1) / 64]? = some q
abbrev in3 (d : Dev) : Prop :=
  still d
abbrev in4 (d : Dev) : Prop :=
  d.ck.ladder ≠ .dormant ∧ d.ck.ladder ≠ .resetting

theorem witness_BudgetsAndDisturbance :
    in0 5 ((List.range 32).map fun i => ((i : Nat) : Rat)) 2 ({ live with tlt := 300000, bd := { ledger := [(5, (List.range 32).map fun i => ((i : Nat) : Rat))], wNow := 1, x1 := [(3, 7)] } }) ∧
    in0 5 ((List.range 32).map fun i => ((i : Nat) : Rat)) 32 ({ live with tlt := 3300000, bd := { ledger := [(5, (List.range 32).map fun i => ((i : Nat) : Rat))], wNow := 1, x1 := [(3, 7)] } }) ∧
    in1 ({ live with tlt := 199999, bd := { wNow := 1 } }) ∧
    in2 (ws [(F.BD_TC_A1_A1 47, 5000), (F.BD_TC_G_G1 47, 300), (F.BD_TC_A2_A2 47, 100), (F.BD_TC_G_G2 47, 1000)] { live with ns := 1000, ld := { sinks := [(47, { code := 90, since := 500, acc := 100 })] }, bd := { x1 := [(47, 9)], x2 := [(3, 7)] } }) ∧
    in2 (ws [(F.BD_TC_A1_A1 47, 5000), (F.BD_TC_G_G1 47, 300), (F.BD_TC_A2_A2 47, 100), (F.BD_TC_G_G2 47, 1000), (F.BD_ADC_CODE 7, 1000), (F.BD_QEN_CAUSE, 255)] { live with ns := 1000, ld := { sinks := [(47, { code := 90, since := 500, acc := 100 })] }, bd := { hot := [3] } }) ∧
    in6 5 (ws [(F.LD_BSTAT_STATE 5, 0), (F.BD_BCFG_SAG 5, 100)] { live with ld := { banks := [(5, { sensed := true })] } }) ∧
    in7 5 ((({ live with ld := { banks := [(5, { sensed := true })] } } : Dev).w (F.LD_BSTAT_STATE 5) 2)) ∧
    in8 5 live ∧
    in9 5 63 ({ st := .firing, f := 7, bank := 5, plots := [9], start := 50, pulse := true, cur := { width := 400, gap := 9 } }) (oneS 63 { st := .firing, f := 7, bank := 5, plots := [9], start := 50, pulse := true, cur := { width := 400, gap := 9 } } (ws [(F.BD_BCFG_SBLANK 5, 3), (F.BD_BSAG_NOREF 5, 0), (F.BD_QEN_CAUSE, 255)] { live with ns := 80 })) ∧
    in10 5 63 ({ st := .firing, f := 7, bank := 5, plots := [9], start := 50, pulse := true, cur := { width := 400, gap := 9 } }) (oneS 63 { st := .firing, f := 7, bank := 5, plots := [9], start := 50, pulse := true, cur := { width := 400, gap := 9 } } (ws [(F.BD_BCFG_SBLANK 5, 3), (F.BD_BSAG_NOREF 5, 0), (F.BD_QEN_CAUSE, 255), (F.SWF_CFG_DIST 7, 2)] { live with ns := 80 })) ∧
    in11 5 63 ({ st := .firing, f := 7, bank := 5, plots := [9], start := 50, pulse := true, cur := { width := 400, gap := 9 } }) (oneS 63 { st := .firing, f := 7, bank := 5, plots := [9], start := 50, pulse := true, cur := { width := 400, gap := 9 } } (ws [(F.BD_BCFG_SBLANK 5, 3), (F.BD_BSAG_NOREF 5, 0), (F.BD_QEN_CAUSE, 255)] { live with ns := 79 })) ∧
    in13 5 63 ({ st := .firing, f := 7, bank := 5, plots := [9], start := 50, pulse := true, sag := true, cur := { width := 400, gap := 9 } }) (oneS 63 { st := .firing, f := 7, bank := 5, plots := [9], start := 50, pulse := true, sag := true, cur := { width := 400, gap := 9 } } (ws [(F.BD_BCFG_SBLANK 5, 3), (F.BD_BSAG_NOREF 5, 0), (F.BD_QEN_CAUSE, 255), (F.SWF_CFG_DIST 7, 1)] { live with ns := 150 })) ∧
    in14 5 63 ({ st := .firing, f := 7, bank := 5, plots := [9], start := 50, pulse := true, cur := { width := 400, gap := 9 } }) (oneS 63 { st := .firing, f := 7, bank := 5, plots := [9], start := 50, pulse := true, cur := { width := 400, gap := 9 } } (live)) ∧
    in15 5 63 ({ st := .firing, f := 7, bank := 5, plots := [9], start := 50, pulse := true, sag := true, cur := { width := 400, gap := 9 } }) 77 9 (oneS 63 { st := .firing, f := 7, bank := 5, plots := [9], start := 50, pulse := true, sag := true, cur := { width := 400, gap := 9 } } (ws [(F.BD_BCFG_SBLANK 5, 3), (F.BD_BSAG_NOREF 5, 0), (F.BD_QEN_CAUSE, 255), (F.SWF_CFG_DIST 7, 1)] { live with ns := 527 })) ∧
    in15 5 63 ({ st := .firing, f := 7, bank := 5, plots := [9], start := 50, pulse := true, sag := true, cur := { width := 400, gap := 9 } }) 101 9 (oneS 63 { st := .firing, f := 7, bank := 5, plots := [9], start := 50, pulse := true, sag := true, cur := { width := 400, gap := 9 } } (ws [(F.BD_BCFG_SBLANK 5, 3), (F.BD_BSAG_NOREF 5, 0), (F.BD_QEN_CAUSE, 255), (F.SWF_CFG_DIST 7, 1)] { live with ns := 550 })) ∧
    in0 5 ((List.range 32).map fun i => ((i : Nat) : Rat)) 1 ({ live with tlt := 5, ns := 1200, ck := { live.ck with ladder := .nap, sleepTlt := 199000, sleepNs := 100 }, bd := { ledger := [(5, (List.range 32).map fun i => ((i : Nat) : Rat))], wNow := 1 } }) ∧
    in1 ({ live with ck := { live.ck with ladder := .fallow, sleepTlt := 199000, sleepNs := 100 }, ns := 1099, bd := { wNow := 1 } }) ∧
    in3 ({ live with ck := { live.ck with ladder := .dormant } }) ∧
    in3 ({ live with ck := { live.ck with ladder := .fallow, xrun := false } }) ∧
    in4 live ∧
    in4 live ∧
    in8 5 ({ live with ck := { live.ck with ladder := .nap } }) ∧
    in9 5 63 ({ st := .firing, f := 7, bank := 5, plots := [9], start := 500, step := 1, last := some (50, 80) }) (oneS 63 { st := .firing, f := 7, bank := 5, plots := [9], start := 500, step := 1, last := some (50, 80) } (ws [(F.BD_BCFG_SBLANK 5, 3), (F.BD_BSAG_NOREF 5, 0)] { live with ns := 80 })) := by
  refine ⟨?_, ?_, ?_, ?_, ?_, ?_, ?_, ?_, ?_, ?_, ?_, ?_, ?_, ?_, ?_, ?_, ?_, ?_, ?_, ?_, ?_, ?_, ?_⟩ <;> decide +kernel

end W_BudgetsAndDisturbance

namespace W_ArithmeticThatSetsNoFlag

abbrev in0 (t : BitVec 4) (a : BitVec 4) (b : BitVec 4) (d : Dev) : Prop :=
  (Due [t, a, b]) d
abbrev in11 (t : BitVec 4) (a : BitVec 4) (d : Dev) : Prop :=
  (Due [t, a]) d
abbrev in15 (t : BitVec 4) (a : BitVec 4) (imm : BitVec 16) (n : Nat) (d : Dev) : Prop :=
  (n < 32) ∧ (imm.toNat = n) ∧ (Due [t, a]) d
abbrev in16 (t : BitVec 4) (a : BitVec 4) (imm : BitVec 16) (n : Nat) (d : Dev) : Prop :=
  (n < 32) ∧ (imm.toNat = 32 + n) ∧ (Due [t, a]) d
abbrev in17 (t : BitVec 4) (a : BitVec 4) (imm : BitVec 16) (n : Nat) (d : Dev) : Prop :=
  (n < 32) ∧ (imm.toNat = 64 + n) ∧ (Due [t, a]) d
abbrev in18 (t : BitVec 4) (a : BitVec 4) (imm : BitVec 16) (n : Nat) (d : Dev) : Prop :=
  (n < 32) ∧ (imm.toNat = 96 + n) ∧ (Due [t, a]) d
abbrev in19 (t : BitVec 4) (d : Dev) : Prop :=
  (Due [t]) d

theorem witness_ArithmeticThatSetsNoFlag :
    in0 4 3 1 cpu ∧
    in0 4 3 1 cpu ∧
    in0 4 3 1 cpu ∧
    in0 4 3 1 cpu ∧
    in0 4 3 1 cpu ∧
    in0 4 3 1 cpu ∧
    in0 4 3 1 cpu ∧
    in0 4 3 1 cpu ∧
    in0 4 3 1 cpu ∧
    in0 4 3 1 cpu ∧
    in0 4 3 1 cpu ∧
    in0 0 3 3 cpu ∧
    in11 4 3 cpu ∧
    in11 15 15 cpu ∧
    in11 4 3 cpu ∧
    in11 4 3 cpu ∧
    in11 4 3 cpu ∧
    in15 4 3 31 31 cpu ∧
    in15 4 3 0 0 cpu ∧
    in16 4 3 63 31 cpu ∧
    in17 4 3 95 31 cpu ∧
    in17 4 3 64 0 cpu ∧
    in18 4 3 127 31 cpu ∧
    in19 4 cpu ∧
    in19 4 cpu := by
  refine ⟨?_, ?_, ?_, ?_, ?_, ?_, ?_, ?_, ?_, ?_, ?_, ?_, ?_, ?_, ?_, ?_, ?_, ?_, ?_, ?_, ?_, ?_, ?_, ?_, ?_⟩ <;> decide +kernel

end W_ArithmeticThatSetsNoFlag

namespace W_AdditionFlags

abbrev in0 (t : BitVec 4) (a : BitVec 4) (b : BitVec 4) (d : Dev) : Prop :=
  (Due [t, a, b]) d
abbrev in4 (t : BitVec 4) (a : BitVec 4) (d : Dev) : Prop :=
  (Due [t, a]) d
abbrev in7 (a : BitVec 4) (d : Dev) : Prop :=
  (Due [a]) d

theorem witness_AdditionFlags :
    in0 4 3 1 cpu ∧
    in0 4 3 1 cpu ∧
    in0 4 3 1 cpu ∧
    in0 4 3 1 cpu ∧
    in4 4 3 cpu ∧
    in4 4 3 cpu ∧
    in4 1 1 cpu ∧
    in0 4 3 1 cpu ∧
    in7 3 cpu := by
  refine ⟨?_, ?_, ?_, ?_, ?_, ?_, ?_, ?_, ?_⟩ <;> decide +kernel

end W_AdditionFlags

theorem witness_BitFieldsAndCounts : ((31 : BitVec 5).toNat + (0 : BitVec 5).toNat + 1 ≤ 32) ∧ ((0 : BitVec 5).toNat + (31 : BitVec 5).toNat + 1 ≤ 32) ∧ Due [4, 3] cpu := by
  decide +kernel

theorem witness_LongProductAndDivision : Due [4, 4, 3, 0] cpu ∧ Due [4, 3, 1] cpu := by decide +kernel

namespace W_HeadPorts

abbrev port (p : Fin 6) (d : Dev) : Nat := d.r (F.HP_STAT_STATE p)
abbrev msg (typ : Nat) (pl : List Nat) : List Nat := (typ :: pl.length :: pl) ++ [crc8 (typ :: pl.length :: pl)]
abbrev past (x : Nat) (d : Dev) : Prop := (x + d.ck.phase) / 8 < (d.ns + d.ck.phase) / 8
abbrev timeOf (x : Nat) (d : Dev) : Nat := ((d.ns : Int) + sd x d.tlt).toNat
abbrev fresh (y : Notice) (d : Dev) : Prop := (d.ns + d.ck.phase) / 8 < (timeOf y.trig d + d.ck.phase) / 8
abbrev free (p : Fin 6) (d : Dev) : Prop := d.ck.ladder = .run ∧ (d.head p).await = .none ∧ (d.head p).lineIdle + 2000 ≤ d.ns
abbrev still (p : Fin 6) (d : Dev) : Prop := (d.head p).taints = [] ∧ (d.head p).notices = []
abbrev noFlow (p : Fin 6) (d : Dev) : Prop := (port p) d ≠ 2 ∨ ((d.r (F.Q_STAT_WM 1) ≠ 0 ↔ d.r (F.HP_STAT_HOLD p) ≠ 0) ∧ (d.head p).flowDue = false)
abbrev quiet (p : Fin 6) (d : Dev) : Prop := (still p) d ∧ (noFlow p) d ∧ (d.head p).param = false ∧ (d.head p).hello = false
abbrev alone (d : Dev) : Prop := d.sw.slots = []
abbrev in0 (p : Fin 6) (x : List Nat) (r : List (List Nat)) (d : Dev) : Prop :=
  (free p) d ∧ (d.head p).taints = x :: r
abbrev in1 (p : Fin 6) (a : List Notice) (r : List Notice) (x : Notice) (d : Dev) : Prop :=
  ((∀ y ∈ a, y.disarm = false)) ∧ (x.disarm = true) ∧ ((free p) d ∧ (d.head p).taints = [] ∧ (d.head p).notices = a ++ x :: r)
abbrev in2 (p : Fin 6) (x : Notice) (r : List Notice) (d : Dev) : Prop :=
  (x.disarm = false) ∧ ((∀ y ∈ r, y.disarm = false)) ∧ ((free p) d ∧ (d.head p).taints = [] ∧ (d.head p).notices = x :: r ∧ ∀ y ∈ x :: r, fresh y d)
abbrev in3 (p : Fin 6) (x : Notice) (r : List Notice) (d : Dev) : Prop :=
  (x.disarm = false) ∧ ((∀ y ∈ r, y.disarm = false)) ∧ ((d.head p).notices = [x] ∧ ¬ fresh x d)
abbrev in4 (p : Fin 6) (d : Dev) : Prop :=
  (free p) d ∧ (still p) d ∧ (port p) d = 2 ∧ d.r (F.Q_STAT_WM 1) ≠ 0 ∧ d.r (F.HP_STAT_HOLD p) = 0
abbrev in5 (p : Fin 6) (d : Dev) : Prop :=
  (free p) d ∧ (still p) d ∧ (port p) d = 2 ∧ d.r (F.Q_STAT_WM 1) = 0 ∧ d.r (F.HP_STAT_HOLD p) ≠ 0
abbrev in6 (p : Fin 6) (d : Dev) : Prop :=
  (free p) d ∧ (still p) d ∧ (noFlow p) d ∧ (d.head p).param = true ∧ (d.head p).due ≤ d.ns
abbrev in7 (p : Fin 6) (d : Dev) : Prop :=
  (free p) d ∧ (still p) d ∧ (noFlow p) d ∧ (d.head p).param = false ∧ (d.head p).hello = true ∧ (d.head p).due ≤ d.ns
abbrev in8 (p : Fin 6) (d : Dev) : Prop :=
  (free p) d ∧ (quiet p) d ∧ (d.head p).bye = true ∧ ¬ past (d.head p).byeEnd d ∧ alone d
abbrev in9 (p : Fin 6) (d : Dev) : Prop :=
  (free p) d ∧ (quiet p) d ∧ (d.head p).bye = false ∧ (d.head p).poll = true ∧ (port p) d = 2 ∧ d.q1.staged = [] ∧ d.q1.left = []
abbrev busy (p : Fin 6) (d : Dev) : Prop := d.ck.ladder = .nap ∨ (d.head p).await ≠ .none ∨ d.ns < (d.head p).lineIdle + 2000
abbrev in10 (p : Fin 6) (d : Dev) : Prop :=
  (busy p) d
abbrev in18 (p : Fin 6) (d : Dev) : Prop :=
  (busy p) d ∧ (d.head p).notices = []
abbrev inTime (p : Fin 6) (age : Nat) (d : Dev) : Prop := d.ck.ladder = .run ∧ d.ns - age + 8 ≤ (d.head p).windowEnd ∧ d.q1.staged = []
abbrev pl (idl : Nat) (idh : Nat) (lat : Nat) (per : Nat) (win : Nat) : List Nat := leBytes 4 idl ++ leBytes 4 idh ++ leBytes 4 lat ++ leBytes 4 per ++ leBytes 4 win
abbrev comes (p : Fin 6) (age : Nat) (bytes : Bytes) (idl : Nat) (idh : Nat) (lat : Nat) (per : Nat) (win : Nat) (d : Dev) : Prop := (inTime p age) d ∧ Bytes.nats bytes = msg 0x81 (pl idl idh lat per win) ∧ (d.head p).await = .ident
abbrev other (p : Fin 6) (idl : Nat) (idh : Nat) (d : Dev) : Bool := decide (d.r (F.HP_STAT_IDV p) ≠ 0 ∧ (d.r (F.HP_IDL_ID p) ≠ idl ∨ d.r (F.HP_IDH_ID p) ≠ idh))
abbrev allowed (p : Fin 6) (idl : Nat) (idh : Nat) (d : Dev) : Prop := (other p idl idh) d = false ∨ bitAt (d.r F.HP_POLICY_ANY) p = true
abbrev in19 (p : Fin 6) (age : Nat) (bytes : Bytes) (idl : Nat) (idh : Nat) (lat : Nat) (per : Nat) (win : Nat) (d : Dev) : Prop :=
  (idl < 2 ^ 32) ∧ (idh < 2 ^ 32) ∧ (lat < 2 ^ 32) ∧ (per < 2 ^ 32) ∧ (win < 2 ^ 32) ∧ ((comes p age bytes idl idh lat per win) d ∧ (allowed p idl idh) d ∧ lat + d.r (F.HP_TCFG_SKEW p) ≤ 500000)
abbrev in20 (p : Fin 6) (age : Nat) (bytes : Bytes) (idl : Nat) (idh : Nat) (lat : Nat) (per : Nat) (win : Nat) (d : Dev) : Prop :=
  (idl < 2 ^ 32) ∧ (idh < 2 ^ 32) ∧ (lat < 2 ^ 32) ∧ (per < 2 ^ 32) ∧ (win < 2 ^ 32) ∧ ((comes p age bytes idl idh lat per win) d ∧ ¬(allowed p idl idh) d)
abbrev in22 (p : Fin 6) (bytes : Bytes) (idl : Nat) (idh : Nat) (lat : Nat) (per : Nat) (win : Nat) (d : Dev) : Prop :=
  (idl < 2 ^ 32) ∧ (idh < 2 ^ 32) ∧ (lat < 2 ^ 32) ∧ (per < 2 ^ 32) ∧ (win < 2 ^ 32) ∧ (d.ck.ladder = .run ∧ Bytes.nats bytes = msg 0x81 (pl idl idh lat per win) ∧ (d.head p).await = .none)
abbrev in23 (p : Fin 6) (age : Nat) (bytes : Bytes) (idl : Nat) (idh : Nat) (lat : Nat) (per : Nat) (win : Nat) (d : Dev) : Prop :=
  (idl < 2 ^ 32) ∧ (idh < 2 ^ 32) ∧ (lat < 2 ^ 32) ∧ (per < 2 ^ 32) ∧ (win < 2 ^ 32) ∧ (d.ck.ladder = .run ∧ Bytes.nats bytes = msg 0x81 (pl idl idh lat per win) ∧ (d.head p).await = .ident ∧
            (d.head p).windowEnd + 8 ≤ d.ns - age ∧ (d.head p).tries < 4)
abbrev in21 (p : Fin 6) (age : Nat) (bytes : Bytes) (idl : Nat) (idh : Nat) (lat : Nat) (per : Nat) (win : Nat) (d : Dev) : Prop :=
  (idl < 2 ^ 32) ∧ (idh < 2 ^ 32) ∧ (lat < 2 ^ 32) ∧ (per < 2 ^ 32) ∧ (win < 2 ^ 32) ∧ ((comes p age bytes idl idh lat per win) d ∧ (allowed p idl idh) d ∧ 500000 < lat + d.r (F.HP_TCFG_SKEW p))
abbrev comes2 (p : Fin 6) (age : Nat) (bytes : Bytes) (v : Nat) (a : Await) (d : Dev) : Prop := (inTime p age) d ∧ Bytes.nats bytes = msg 0x82 [v] ∧ (d.head p).await = a
abbrev in24 (p : Fin 6) (age : Nat) (bytes : Bytes) (v : Nat) (d : Dev) : Prop :=
  (v < 256) ∧ ((comes2 p age bytes v) .ack d ∧ v = 0 ∧ (port p) d = 1 ∧ ∀ f, f < 256 → fHead d f ≠ some p.val)
abbrev in25 (p : Fin 6) (age : Nat) (bytes : Bytes) (v : Nat) (f : Nat) (d : Dev) : Prop :=
  (v < 256) ∧ ((comes2 p age bytes v) .ack d ∧ v = 0 ∧ (port p) d = 1 ∧ (∀ g, g < 256 → (fHead d g = some p.val ↔ g = f)) ∧ f < 256 ∧ bankFiring d (fBank d f) = true)
abbrev in28 (p : Fin 6) (age : Nat) (bytes : Bytes) (v : Nat) (d : Dev) : Prop :=
  (v < 256) ∧ ((comes2 p age bytes v) .poll) d
abbrev in29 (p : Fin 6) (age : Nat) (bytes : Bytes) (v : Nat) (d : Dev) : Prop :=
  (v < 256) ∧ (d.ck.ladder = .run ∧ Bytes.nats bytes = msg 0x82 [v] ∧ (d.head p).await = .poll ∧ (d.ns - age + d.ck.phase) / 8 = ((d.head p).windowEnd + d.ck.phase) / 8)
abbrev in26 (p : Fin 6) (age : Nat) (bytes : Bytes) (v : Nat) (d : Dev) : Prop :=
  (v < 256) ∧ ((comes2 p age bytes v) .ack d ∧ v ≠ 0 ∧ (port p) d = 1)
abbrev in27 (p : Fin 6) (age : Nat) (bytes : Bytes) (v : Nat) (d : Dev) : Prop :=
  (v < 256) ∧ ((comes2 p age bytes v) .ack d ∧ v ≠ 0 ∧ (port p) d = 2)
abbrev in30 (p : Fin 6) (age : Nat) (bytes : Bytes) (v : Nat) (d : Dev) : Prop :=
  (v < 256) ∧ ((inTime p age) d ∧ Bytes.nats bytes = msg 0x89 [v] ∧ (d.head p).await = .poll ∧ alone d ∧ bitAt (d.r F.HP_QEN_CAUSE) 2 = false)
abbrev in31 (p : Fin 6) (age : Nat) (bytes : Bytes) (pl : List Nat) (d : Dev) : Prop :=
  (1 ≤ pl.length) ∧ (pl.length ≤ 61) ∧ ((inTime p age) d ∧ Bytes.nats bytes = msg 0x83 pl ∧ (d.head p).await = .poll)
abbrev bad (bytes : Bytes) (m : List Nat) (c : Nat) (d : Dev) : Prop := d.ck.ladder = .run ∧ Bytes.nats bytes = m ++ [c]
abbrev in32 (bytes : Bytes) (m : List Nat) (c : Nat) (d : Dev) : Prop :=
  (c ≠ crc8 m) ∧ (bad bytes m c) d
abbrev in36 (d : Dev) : Prop :=
  d.ck.ladder = .run
abbrev in37 (d : Dev) : Prop :=
  d.ck.ladder = .nap
abbrev over1 (p : Fin 6) (a : Await) (d : Dev) : Prop := (d.head p).await = a ∧ past (d.head p).windowEnd d
abbrev in38 (p : Fin 6) (d : Dev) : Prop :=
  (over1 p) .ident d ∧ (d.head p).tries < 4
abbrev in39 (p : Fin 6) (d : Dev) : Prop :=
  (over1 p) .ident d ∧ 4 ≤ (d.head p).tries
abbrev in40 (p : Fin 6) (d : Dev) : Prop :=
  (over1 p) .ack d ∧ (port p) d = 1 ∧ (d.head p).tries < 4
abbrev in41 (p : Fin 6) (d : Dev) : Prop :=
  (over1 p) .ack d ∧ (port p) d = 1 ∧ 4 ≤ (d.head p).tries
abbrev in42 (p : Fin 6) (d : Dev) : Prop :=
  (over1 p) .poll d ∧ (d.head p).silent + 1 < max (d.r (F.HP_HCFG_SILN p)) 1
abbrev in43 (p : Fin 6) (d : Dev) : Prop :=
  (over1 p) .poll d ∧ max (d.r (F.HP_HCFG_SILN p)) 1 ≤ (d.head p).silent + 1 ∧ alone d
abbrev in44 (p : Fin 6) (d : Dev) : Prop :=
  (d.head p).await = .none ∨ ¬ past (d.head p).windowEnd d
abbrev in45 (p : Fin 6) (d : Dev) : Prop :=
  (port p) d = 2 ∧ (d.head p).poll = false ∧ (d.head p).pollDue ≤ d.ns ∧ d.ck.ladder = .run ∧ (d.head p).await = .none
abbrev in46 (p : Fin 6) (d : Dev) : Prop :=
  (port p) d ≠ 2 ∨ d.ns < (d.head p).pollDue
abbrev in47 (d : Dev) : Prop :=
  d.awake = true
abbrev in48 (d : Dev) : Prop :=
  d.awake = false
abbrev lasts (p : Fin 6) (low : Bool) (d : Dev) : Prop := d.ck.ladder = .run ∧ (d.head p).raw = low ∧ (d.head p).rawSince + 10000000 ≤ d.ns ∧ d.r (F.HP_STAT_PRES p) = (if low = true then 0 else 1)
abbrev in49 (p : Fin 6) (d : Dev) : Prop :=
  (lasts p) true d ∧ d.r (F.HP_CTL_AUTO p) ≠ 0
abbrev in50 (p : Fin 6) (d : Dev) : Prop :=
  (lasts p) true d ∧ d.r (F.HP_CTL_AUTO p) = 0
abbrev in51 (p : Fin 6) (d : Dev) : Prop :=
  (lasts p) false d ∧ (port p) d = 2 ∧ alone d
abbrev in52 (p : Fin 6) (d : Dev) : Prop :=
  (lasts p) false d ∧ (port p) d ≠ 2
abbrev in53 (p : Fin 6) (d : Dev) : Prop :=
  d.ns < (d.head p).rawSince + 10000000
abbrev at1 (s : Slot) (d : Dev) : Int := (timeOf s.tfire d : Int) - s.lead
abbrev due (p : Fin 6) (k : Fin 64) (s : Slot) (q : Nat) (d : Dev) : Prop := d.sw.slots = [(k.val, s)] ∧ s.st = .set ∧ s.step = 0 ∧ s.plots[0]? = some q ∧ (stepAt d q 0).trg = true ∧
        (∀ e ∈ s.trigs, e.1 ≠ 0) ∧ 0 ∉ s.supp ∧
        d.r (F.SWF_CFG_HEADEN s.f) ≠ 0 ∧ d.r (F.SWF_CFG_HEAD s.f) = p.val ∧ (port p) d = 2 ∧ darkened d = false ∧ (at1 s) d ≤ d.ns ∧ (d.head p).notices = []
abbrev clear1 (p : Fin 6) (s : Slot) (d : Dev) : Prop := ∀ u ∈ (d.head p).lastTrig, u + d.r (F.HP_PER_PERIOD p) ≤ (at1 s) d
abbrev in54 (p : Fin 6) (k : Fin 64) (s : Slot) (q : Nat) (d : Dev) : Prop :=
  (due p k s q) d ∧ (clear1 p s) d
abbrev in55 (p : Fin 6) (k : Fin 64) (s : Slot) (q : Nat) (d : Dev) : Prop :=
  (due p k s q) d ∧ ¬(clear1 p s) d
abbrev in56 (k : Fin 64) (s : Slot) (d : Dev) : Prop :=
  d.sw.slots = [(k.val, s)] ∧ s.st = .armed
abbrev leaves (p : Fin 6) (d : Dev) : Prop := (d.head p).bye = true ∧ past (d.head p).byeEnd d
abbrev in57 (p : Fin 6) (d : Dev) : Prop :=
  (leaves p) d ∧ alone d
abbrev in58 (p : Fin 6) (k : Fin 64) (s : Slot) (d : Dev) : Prop :=
  (leaves p) d ∧ d.sw.slots = [(k.val, s)] ∧ s.st = .armed ∧ d.r (F.SWF_CFG_HEADEN s.f) ≠ 0 ∧ d.r (F.SWF_CFG_HEAD s.f) = p.val ∧
           (s.born + d.ck.phase) / 4 ≠ (d.ns + d.ck.phase) / 4 ∧ s.trigs = [] ∧ s.pos ∉ (d.fu s.f).deferred ∧ d.sw.pend = []
abbrev in59 (p : Fin 6) (d : Dev) : Prop :=
  (d.head p).bye = false ∨ ¬ past (d.head p).byeEnd d
abbrev in60 (p : Fin 6) (d : Dev) : Prop :=
  (d.head p).trig = true ∧ (d.head p).trigEnd ≤ d.ns
abbrev in61 (p : Fin 6) (d : Dev) : Prop :=
  (d.head p).trig = false ∨ (d.ns : Int) < (d.head p).trigEnd
abbrev ready (p : Fin 6) (c : Check) (r : List Check) (e : Nat) (d : Dev) : Prop := (d.head p).checks = c :: r ∧ c.stop = some e ∧ e ≤ d.ns
abbrev in62 (p : Fin 6) (c : Check) (r : List Check) (e : Nat) (d : Dev) : Prop :=
  (ready p c r e) d
abbrev in64 (p : Fin 6) (c : Check) (r : List Check) (e : Nat) (cover : Fin 3) (d : Dev) : Prop :=
  (ready p c r e) d ∧ cover.val < 2 ∧ bitAt (d.r F.HP_QEN_CAUSE) 0 = true ∧ evStaged d < 16
abbrev in65 (p : Fin 6) (c : Check) (r : List Check) (e : Nat) (d : Dev) : Prop :=
  (d.head p).checks = [] ∨ ((d.head p).checks = c :: r ∧ c.stop = some e ∧ d.ns < e)
abbrev in66 (p : Fin 6) (d : Dev) : Prop :=
  (port p) d = 3
abbrev in67 (p : Fin 6) (d : Dev) : Prop :=
  (port p) d ≠ 3
abbrev in68 (p : Fin 6) (d : Dev) : Prop :=
  (port p) d = 1
abbrev in69 (p : Fin 6) (d : Dev) : Prop :=
  (port p) d = 2 ∧ (d.head p).bye = false
abbrev in70 (p : Fin 6) (d : Dev) : Prop :=
  (port p) d = 0 ∨ (port p) d = 3 ∨ ((port p) d = 2 ∧ (d.head p).bye = true)
abbrev in71 (p : Fin 6) (d : Dev) : Prop :=
  (port p) d = 1 ∨ (port p) d = 3
abbrev in72 (p : Fin 6) (d : Dev) : Prop :=
  (port p) d = 2 ∧ alone d
abbrev in73 (p : Fin 6) (d : Dev) : Prop :=
  (port p) d = 0
abbrev in74 (p : Fin 6) (d : Dev) : Prop :=
  (port p) d = 2
abbrev in75 (p : Fin 6) (d : Dev) : Prop :=
  (port p) d ≠ 2

theorem witness_HeadPorts_0 :
    in0 5 ([1, 2, 3]) ([[4]]) (({ live with ns := 2000 }.w (F.HP_HCFG_RWIN 5) 40).onH 5 fun h => { h with taints := [[1, 2, 3], [4]] }) ∧
    in0 5 ([1, 2, 3]) ([[4]]) (({ live with ns := 12000 }).onH 5 fun h => { h with taints := [[1, 2, 3], [4]], lineIdle := 10000 }) ∧
    in1 5 ([⟨false, 1, 2, 9⟩]) ([⟨true, 3, 4, 9⟩]) (⟨true, 0x1FF, 7, 9⟩) ({ live with ns := 2000 }.onH 5 fun h => { h with notices := [⟨false, 1, 2, 9⟩, ⟨true, 0x1FF, 7, 9⟩, ⟨true, 3, 4, 9⟩] }) ∧
    in2 5 (⟨false, 0x1FF, 7, 109⟩) ([⟨false, 3, 4, 300⟩]) ({ live with ns := 2000, tlt := 100 }.onH 5 fun h => { h with notices := [⟨false, 0x1FF, 7, 109⟩, ⟨false, 3, 4, 300⟩] }) ∧
    in3 5 (⟨false, 0x1FF, 7, 109⟩) ([⟨false, 3, 4, 300⟩]) ({ live with ns := 2000, tlt := 109 }.onH 5 fun h => { h with notices := [⟨false, 0x1FF, 7, 109⟩] }) ∧
    in3 5 (⟨false, 0x1FF, 7, 109⟩) ([⟨false, 3, 4, 300⟩]) ((ws [(F.HP_CNT_ASTALE 5, 255)] { live with ns := 2000, tlt := 300 }).onH 5 fun h => { h with notices := [⟨false, 0x1FF, 7, 109⟩] }) ∧
    in4 5 (ws [(F.HP_STAT_STATE 5, 2), (F.Q_STAT_WM 1, 1)] { live with ns := 2000 }) ∧
    in5 5 ((ws [(F.HP_STAT_STATE 5, 2), (F.HP_STAT_HOLD 5, 1)] { live with ns := 2000 }).onH 5 fun h => { h with flowDue := true }) ∧
    in6 5 ((ws [(F.HP_STAT_STATE 5, 2), (F.HP_EXPT_EXPT 5, 0x12345678)] { live with ns := 2050 }).onH 5 fun h => { h with param := true, due := 2050, tries := 1 }) ∧
    in7 5 ((ws [(F.HP_STAT_STATE 5, 1)] { live with ns := 2050 }).onH 5 fun h => { h with hello := true, due := 2050, tries := 3 }) ∧
    in8 5 ((ws [(F.HP_STAT_STATE 5, 2)] { live with ns := 2050 }).onH 5 fun h => { h with bye := true, byeEnd := 2050, trig := true, checks := [⟨1, 2, 3, none⟩] }) ∧
    in9 5 ((ws [(F.HP_STAT_STATE 5, 2), (F.HP_HCFG_PIVL 5, 20), (F.HP_HCFG_RWIN 5, 30)] { live with ns := 2050 }).onH 5 fun h => { h with poll := true }) ∧
    in10 5 (live.onH 5 fun h => { h with taints := [[1]], await := .poll }) ∧
    in10 5 (live.onH 5 fun h => { h with notices := [⟨true, 3, 4, 9⟩], lineIdle := 1 }) ∧
    in10 5 (ws [(F.HP_STAT_STATE 5, 2), (F.Q_STAT_WM 1, 1)] { live with ck := { ladder := .nap } }) ∧
    in10 5 ((ws [(F.HP_STAT_STATE 5, 2), (F.HP_STAT_HOLD 5, 1)] live).onH 5 fun h => { h with lineIdle := 1 }) ∧
    in10 5 ((live).onH 5 fun h => { h with param := true, await := .poll }) ∧
    in10 5 (({ live with ns := 1999 }).onH 5 fun h => { h with hello := true }) ∧
    in10 5 (({ live with ns := 1999 }).onH 5 fun h => { h with bye := true, byeEnd := 5000 }) ∧
    in10 5 (ws [(F.HP_STAT_STATE 5, 2)] ({ live with ns := 1999 }.onH 5 fun h => { h with poll := true })) ∧
    in18 5 (live.onH 5 fun h => { h with await := .ack }) ∧
    in19 5 4 (bts ([0x81, 20] ++ leBytes 4 0x11223344 ++ leBytes 4 0x55667788 ++ leBytes 4 300 ++ leBytes 4 700 ++ leBytes 4 900 ++ [crc8 ([0x81, 20] ++ leBytes 4 0x11223344 ++ leBytes 4 0x55667788 ++ leBytes 4 300 ++ leBytes 4 700 ++ leBytes 4 900)])) 0x11223344 0x55667788 300 700 900 ((ws [(F.HP_STAT_STATE 5, 1), (F.HP_TCFG_SKEW 5, 20)] { live with ns := 1000 }).onH 5 fun h => { h with await := .ident, windowEnd := 1004, tries := 2 }) ∧
    in19 5 4 (bts ([0x81, 20] ++ leBytes 4 0x11223344 ++ leBytes 4 0x55667788 ++ leBytes 4 300 ++ leBytes 4 700 ++ leBytes 4 900 ++ [crc8 ([0x81, 20] ++ leBytes 4 0x11223344 ++ leBytes 4 0x55667788 ++ leBytes 4 300 ++ leBytes 4 700 ++ leBytes 4 900)])) 0x11223344 0x55667788 300 700 900 ((ws [(F.HP_STAT_STATE 5, 1), (F.HP_STAT_IDV 5, 1), (F.HP_IDL_ID 5, 9), (F.HP_POLICY_ANY, 32)] { live with ns := 1000 }).onH 5 fun h => { h with await := .ident, windowEnd := 1004, tries := 2 }) ∧
    in19 5 4 (bts ([0x81, 20] ++ leBytes 4 0x11223344 ++ leBytes 4 0x55667788 ++ leBytes 4 300 ++ leBytes 4 700 ++ leBytes 4 900 ++ [crc8 ([0x81, 20] ++ leBytes 4 0x11223344 ++ leBytes 4 0x55667788 ++ leBytes 4 300 ++ leBytes 4 700 ++ leBytes 4 900)])) 0x11223344 0x55667788 300 700 900 ((ws [(F.HP_STAT_STATE 5, 1), (F.HP_STAT_IDV 5, 1), (F.HP_IDL_ID 5, 0x11223344), (F.HP_IDH_ID 5, 0x55667788)] { live with ns := 1000 }).onH 5 fun h => { h with await := .ident, windowEnd := 1004, tries := 2 }) ∧
    in20 5 4 (bts ([0x81, 20] ++ leBytes 4 0x11223344 ++ leBytes 4 0x55667788 ++ leBytes 4 300 ++ leBytes 4 700 ++ leBytes 4 900 ++ [crc8 ([0x81, 20] ++ leBytes 4 0x11223344 ++ leBytes 4 0x55667788 ++ leBytes 4 300 ++ leBytes 4 700 ++ leBytes 4 900)])) 0x11223344 0x55667788 300 700 900 ((ws [(F.HP_STAT_STATE 5, 1), (F.HP_STAT_IDV 5, 1), (F.HP_IDL_ID 5, 9), (F.HP_LAT_LAT 5, 6)] { live with ns := 1000 }).onH 5 fun h => { h with await := .ident, windowEnd := 1004, tries := 2 }) ∧
    in22 5 (bts ([0x81, 20] ++ leBytes 4 0x11223344 ++ leBytes 4 0x55667788 ++ leBytes 4 300 ++ leBytes 4 700 ++ leBytes 4 900 ++ [crc8 ([0x81, 20] ++ leBytes 4 0x11223344 ++ leBytes 4 0x55667788 ++ leBytes 4 300 ++ leBytes 4 700 ++ leBytes 4 900)])) 0x11223344 0x55667788 300 700 900 ((ws [(F.HP_STAT_STATE 5, 1), (F.HP_TCFG_SKEW 5, 20)] { live with ns := 1012 }).onH 5 fun h => { h with windowEnd := 1000, tries := 2 }) ∧
    in23 5 4 (bts ([0x81, 20] ++ leBytes 4 0x11223344 ++ leBytes 4 0x55667788 ++ leBytes 4 300 ++ leBytes 4 700 ++ leBytes 4 900 ++ [crc8 ([0x81, 20] ++ leBytes 4 0x11223344 ++ leBytes 4 0x55667788 ++ leBytes 4 300 ++ leBytes 4 700 ++ leBytes 4 900)])) 0x11223344 0x55667788 300 700 900 ((ws [(F.HP_STAT_STATE 5, 1), (F.HP_TCFG_SKEW 5, 20)] { live with ns := 1012 }).onH 5 fun h => { h with await := .ident, windowEnd := 1000, tries := 2 }) ∧
    in21 5 4 (bts ([0x81, 20] ++ leBytes 4 1 ++ leBytes 4 2 ++ leBytes 4 500001 ++ leBytes 4 700 ++ leBytes 4 900 ++ [crc8 ([0x81, 20] ++ leBytes 4 1 ++ leBytes 4 2 ++ leBytes 4 500001 ++ leBytes 4 700 ++ leBytes 4 900)])) 1 2 500001 700 900 ((ws [(F.HP_STAT_STATE 5, 1), (F.HP_LAT_LAT 5, 6)] { live with ns := 1000 }).onH 5 fun h => { h with await := .ident, windowEnd := 1004, tries := 2 }) ∧
    in24 5 4 (bts [0x82, 1, 0, crc8 [0x82, 1, 0]]) 0 ((ws [(F.HP_STAT_STATE 5, 1), (F.HP_HCFG_PIVL 5, 20), (F.HP_STAT_BYE 5, 1)] { live with ns := 1000 }).onH 5 fun h => { h with await := .ack, windowEnd := 1004, tries := 2 }) ∧
    in25 5 4 (bts [0x82, 1, 0, crc8 [0x82, 1, 0]]) 0 200 (oneS 3 { st := .firing, bank := 5 } ((ws [(F.HP_STAT_STATE 5, 1), (F.SWF_CFG_HEADEN 200, 1), (F.SWF_CFG_HEAD 200, 5), (F.SWF_CFG_BANK 200, 5)] { live with ns := 1000 }).onH 5 fun h => { h with await := .ack, windowEnd := 1004, tries := 2 })) ∧
    in28 5 4 (bts [0x82, 1, 0, crc8 [0x82, 1, 0]]) 0 ((ws [(F.HP_STAT_STATE 5, 2)] { live with ns := 1000 }).onH 5 fun h => { h with await := .poll, windowEnd := 1004, silent := 2 }) ∧
    in29 5 4 (bts [0x82, 1, 0, crc8 [0x82, 1, 0]]) 0 ((ws [(F.HP_STAT_STATE 5, 2)] { live with ns := 1000 }).onH 5 fun h => { h with await := .poll, windowEnd := 999, silent := 2 }) ∧
    in29 5 4 (bts [0x82, 1, 0, crc8 [0x82, 1, 0]]) 0 ((ws [(F.HP_STAT_STATE 5, 2)] { live with ns := 1000 }).onH 5 fun h => { h with await := .poll, windowEnd := 992, silent := 2 }) ∧
    in26 5 4 (bts [0x82, 1, 255, crc8 [0x82, 1, 255]]) 255 ((ws [(F.HP_STAT_STATE 5, 1), (F.HP_LAT_LAT 5, 6)] { live with ns := 1000 }).onH 5 fun h => { h with await := .ack, windowEnd := 1004, tries := 2 }) ∧
    in27 5 4 (bts [0x82, 1, 255, crc8 [0x82, 1, 255]]) 255 ((ws [(F.HP_STAT_STATE 5, 2), (F.HP_LAT_LAT 5, 6)] { live with ns := 1000 }).onH 5 fun h => { h with await := .ack, windowEnd := 1004, tries := 2 }) ∧
    in30 5 4 (bts [0x89, 1, 3, crc8 [0x89, 1, 3]]) 3 ((ws [(F.HP_STAT_STATE 5, 2), (F.HP_QEN_CAUSE, 0x3B)] { live with ns := 1000 }).onH 5 fun h => { h with await := .poll, windowEnd := 1004, bye := true }) ∧
    in31 5 4 (bts [0x83, 2, 7, 8, crc8 [0x83, 2, 7, 8]]) ([7, 8]) ((ws [(F.HP_STAT_STATE 5, 2)] { live with ns := 1000 }).onH 5 fun h => { h with await := .poll, windowEnd := 1004, silent := 1 }) ∧
    in32 (bts [0x83, 1, 5, (crc8 [0x83, 1, 5] + 1) % 256]) ([0x83, 1, 5]) ((crc8 [0x83, 1, 5] + 1) % 256) ({ live with ns := 1000 }) ∧
    in32 (bts [0x83, 1, 5, (crc8 [0x83, 1, 5] + 1) % 256]) ([0x83, 1, 5]) ((crc8 [0x83, 1, 5] + 1) % 256) ({ live with ns := 1000 }) ∧
    in32 (bts [0x83, 1, 5, (crc8 [0x83, 1, 5] + 1) % 256]) ([0x83, 1, 5]) ((crc8 [0x83, 1, 5] + 1) % 256) (({ live with ns := 1000 }.w (F.HP_CNT_CRCE 5) 255).onH 5 fun h => { h with await := .poll, windowEnd := 1004 }) := by
  refine ⟨?_, ?_, ?_, ?_, ?_, ?_, ?_, ?_, ?_, ?_, ?_, ?_, ?_, ?_, ?_, ?_, ?_, ?_, ?_, ?_, ?_, ?_, ?_, ?_, ?_, ?_, ?_, ?_, ?_, ?_, ?_, ?_, ?_, ?_, ?_, ?_, ?_, ?_, ?_, ?_⟩ <;> decide +kernel

theorem witness_HeadPorts_1 :
    in32 (bts [0x83, 1, 5, (crc8 [0x83, 1, 5] + 1) % 256]) ([0x83, 1, 5]) ((crc8 [0x83, 1, 5] + 1) % 256) ({ live with ns := 1000 }) ∧
    in36 ({ live with ns := 1000 }) ∧
    in37 ({ live with ns := 1000, ck := { ladder := .nap } }) ∧
    in38 5 ({ live with ns := 1008 }.onH 5 fun h => { h with await := .ident, windowEnd := 1000, tries := 3 }) ∧
    in39 5 ((ws [(F.HP_STAT_STATE 5, 1)] { live with ns := 1008 }).onH 5 fun h => { h with await := .ident, windowEnd := 1000, tries := 4 }) ∧
    in39 5 ((ws [(F.HP_STAT_STATE 5, 1)] { live with ns := 1008 }).onH 5 fun h => { h with await := .ident, windowEnd := 1000, tries := 4, old := some (5, 6, 7) }) ∧
    in40 5 ((ws [(F.HP_STAT_STATE 5, 1)] { live with ns := 1008 }).onH 5 fun h => { h with await := .ack, windowEnd := 1000, tries := 3 }) ∧
    in41 5 ((ws [(F.HP_STAT_STATE 5, 1)] { live with ns := 1008 }).onH 5 fun h => { h with await := .ack, windowEnd := 1000, tries := 4 }) ∧
    in42 5 ((ws [(F.HP_STAT_STATE 5, 2), (F.HP_HCFG_SILN 5, 3)] { live with ns := 1008 }).onH 5 fun h => { h with await := .poll, windowEnd := 1000, silent := 1 }) ∧
    in43 5 ((ws [(F.HP_STAT_STATE 5, 2), (F.HP_HCFG_SILN 5, 0)] { live with ns := 1008 }).onH 5 fun h => { h with await := .poll, windowEnd := 1000, silent := 0, notices := [⟨true, 3, 4, 9⟩] }) ∧
    in43 5 ((ws [(F.HP_STAT_STATE 5, 2), (F.HP_HCFG_SILN 5, 3)] { live with ns := 1008 }).onH 5 fun h => { h with await := .poll, windowEnd := 1000, silent := 2 }) ∧
    in44 5 ((ws [(F.HP_STAT_STATE 5, 2)] { live with ns := 999 }).onH 5 fun h => { h with await := .poll, windowEnd := 1000, silent := 9 }) ∧
    in44 5 ((ws [(F.HP_STAT_STATE 5, 2)] { live with ns := 1000 })) ∧
    in45 5 ((ws [(F.HP_STAT_STATE 5, 2)] { live with ns := 1000 }).onH 5 fun h => { h with pollDue := 1000 }) ∧
    in46 5 ((ws [(F.HP_STAT_STATE 5, 2)] { live with ns := 999 }).onH 5 fun h => { h with pollDue := 1000 }) ∧
    in47 ({ live with ns := 1000 }) ∧
    in47 ({ live with ns := 1000 }.w (F.HP_STAT_PRSRAW 5) 1) ∧
    in48 ({ live with ns := 1000, ck := { live.ck with ladder := .nap } }) ∧
    in49 5 ((ws [(F.HP_CTL_AUTO 5, 1)] { live with ns := 10001000 }).onH 5 fun h => { h with raw := true, rawSince := 1000 }) ∧
    in50 5 ((ws [(F.HP_CTL_AUTO 5, 0)] { live with ns := 10001000 }).onH 5 fun h => { h with raw := true, rawSince := 1000 }) ∧
    in51 5 ((ws [(F.HP_STAT_STATE 5, 2), (F.HP_STAT_PRES 5, 1)] { live with ns := 10001000 }).onH 5 fun h => { h with raw := false, rawSince := 1000, await := .poll }) ∧
    in52 5 ((ws [(F.HP_STAT_STATE 5, 1), (F.HP_STAT_PRES 5, 1)] { live with ns := 10001000 }).onH 5 fun h => { h with raw := false, rawSince := 1000, await := .ident }) ∧
    in53 5 ((ws [(F.HP_STAT_STATE 5, 1), (F.HP_STAT_PRES 5, 1)] { live with ns := 10000999 }).onH 5 fun h => { h with raw := false, rawSince := 1000, await := .ident }) ∧
    in54 5 63 ({ st := .set, f := 200, plots := [9], tfire := 600, lead := 150 }) 9 (oneS 63 { st := .set, f := 200, plots := [9], tfire := 600, lead := 150 } ((ws [(F.SWF_CFG_HEADEN 200, 1), (F.SWF_CFG_HEAD 200, 5), (F.HP_STAT_STATE 5, 2), (F.HP_PER_PERIOD 5, 1000), (F.HP_TCFG_TWID 5, 99)] ({ live with ns := 5000, tlt := 450 }.store 16 (0x30000000 + 1024 * 9) (2 ^ 64))).onH 5 fun h => { h with lastTrig := some 4000 })) ∧
    in54 5 63 ({ st := .set, f := 200, plots := [9], tfire := 600, lead := 150 }) 9 (oneS 63 { st := .set, f := 200, plots := [9], tfire := 600, lead := 150 } (ws [(F.SWF_CFG_HEADEN 200, 1), (F.SWF_CFG_HEAD 200, 5), (F.HP_STAT_STATE 5, 2), (F.HP_PER_PERIOD 5, 1000), (F.HP_TCFG_TWID 5, 101)] ({ live with ns := 5000, tlt := 470 }.store 16 (0x30000000 + 1024 * 9) (2 ^ 64)))) ∧
    in55 5 63 ({ st := .set, f := 200, plots := [9], tfire := 600, lead := 150 }) 9 (oneS 63 { st := .set, f := 200, plots := [9], tfire := 600, lead := 150 } ((ws [(F.SWF_CFG_HEADEN 200, 1), (F.SWF_CFG_HEAD 200, 5), (F.HP_STAT_STATE 5, 2), (F.HP_PER_PERIOD 5, 1001), (F.HP_TCFG_TWID 5, 99), (F.HP_CNT_SUPP 5, 255)] ({ live with ns := 5000, tlt := 450 }.store 16 (0x30000000 + 1024 * 9) (2 ^ 64))).onH 5 fun h => { h with lastTrig := some 4000 })) ∧
    in56 63 ({ st := .armed, f := 200 }) (oneS 63 { st := .armed, f := 200 } live) ∧
    in57 5 ((ws [(F.HP_STAT_STATE 5, 2)] { live with ns := 1008 }).onH 5 fun h => { h with bye := true, byeEnd := 1000 }) ∧
    in58 5 63 ({ st := .armed, f := 200 }) (oneS 63 { st := .armed, f := 200 } ((ws [(F.HP_STAT_STATE 5, 2), (F.SWF_CFG_HEADEN 200, 1), (F.SWF_CFG_HEAD 200, 5)] { live with ns := 1008 }).onH 5 fun h => { h with bye := true, byeEnd := 1000 })) ∧
    in59 5 ((ws [(F.HP_STAT_STATE 5, 2)] { live with ns := 999 }).onH 5 fun h => { h with bye := true, byeEnd := 1000 }) ∧
    in60 5 ({ live with ns := 1000 }.onH 5 fun h => { h with trig := true, trigEnd := 1000 }) ∧
    in61 5 ({ live with ns := 999 }.onH 5 fun h => { h with trig := true, trigEnd := 1000 }) ∧
    in62 5 (⟨200, 63, 77, some 1000⟩) ([⟨1, 2, 3, none⟩]) 1000 ({ live with ns := 1000 }.onH 5 fun h => { h with checks := [⟨200, 63, 77, some 1000⟩, ⟨1, 2, 3, none⟩] }) ∧
    in62 5 (⟨200, 63, 77, some 1000⟩) ([⟨1, 2, 3, none⟩]) 1000 (({ live with ns := 1000 }.w (F.HP_XCNT_CHECKS 5) 65535).onH 5 fun h => { h with checks := [⟨200, 63, 77, some 1000⟩, ⟨1, 2, 3, none⟩] }) ∧
    in64 5 (⟨200, 63, 77, some 1000⟩) ([⟨1, 2, 3, none⟩]) 1000 1 ((ws [(F.HP_QEN_CAUSE, 63), (F.HP_XCNT_MISSES 5, 65535)] { live with ns := 1000 }).onH 5 fun h => { h with checks := [⟨200, 63, 77, some 1000⟩, ⟨1, 2, 3, none⟩] }) ∧
    in65 5 (⟨200, 63, 77, some 1000⟩) ([⟨1, 2, 3, none⟩]) 1000 ({ live with ns := 999 }.onH 5 fun h => { h with checks := [⟨200, 63, 77, some 1000⟩, ⟨1, 2, 3, none⟩] }) ∧
    in66 5 (live.w (F.HP_STAT_STATE 5) 3) ∧
    in67 5 (live.w (F.HP_STAT_STATE 5) 2) ∧
    in68 5 (live.w (F.HP_STAT_STATE 5) 1) ∧
    in69 5 (live.w (F.HP_STAT_STATE 5) 2) := by
  refine ⟨?_, ?_, ?_, ?_, ?_, ?_, ?_, ?_, ?_, ?_, ?_, ?_, ?_, ?_, ?_, ?_, ?_, ?_, ?_, ?_, ?_, ?_, ?_, ?_, ?_, ?_, ?_, ?_, ?_, ?_, ?_, ?_, ?_, ?_, ?_, ?_, ?_, ?_, ?_, ?_⟩ <;> decide +kernel

theorem witness_HeadPorts_2 :
    in70 5 (live.w (F.HP_STAT_STATE 5) 3) ∧
    in71 5 (live.w (F.HP_STAT_STATE 5) 1) ∧
    in72 5 ((live.w (F.HP_STAT_STATE 5) 2).onH 5 fun h => { h with taints := [[1]], trig := true, bye := true }) ∧
    in73 5 (live.w (F.HP_STAT_STATE 5) 0) ∧
    in74 5 (live.w (F.HP_STAT_STATE 5) 2) ∧
    in75 5 (live.w (F.HP_STAT_STATE 5) 1) := by
  refine ⟨?_, ?_, ?_, ?_, ?_, ?_⟩ <;> decide +kernel

end W_HeadPorts

namespace W_NearLoads

abbrev in0 (t : BitVec 4) (a : BitVec 4) (imm : BitVec 16) (d : Dev) : Prop :=
  Due [t, a] d ∧ NearAt .r 4 (d.wr a.toNat + imm.signExtend 32).toNat d
abbrev in1 (t : BitVec 4) (a : BitVec 4) (imm : BitVec 16) (d : Dev) : Prop :=
  Due [t, a] d ∧ NearAt .r 2 (d.wr a.toNat + imm.signExtend 32).toNat d
abbrev in3 (t : BitVec 4) (a : BitVec 4) (imm : BitVec 16) (d : Dev) : Prop :=
  Due [t, a] d ∧ NearAt .r 1 (d.wr a.toNat + imm.signExtend 32).toNat d
abbrev in5 (t : BitVec 4) (a : BitVec 4) (b : BitVec 4) (d : Dev) : Prop :=
  Due [t, a, b] d ∧ NearAt .r 4 (d.wr a.toNat + 4 * d.wr b.toNat).toNat d
abbrev in6 (t : BitVec 4) (c : BitVec 12) (d : Dev) : Prop :=
  Due [t] d ∧ guardOk d .r (crAddr c.toNat) = true ∧ coreReg (crAddr c.toNat) = true ∧
        d.co.wb.all (fun p => decide (p.addr / 0x1000 ≠ 0xE0000)) = true
abbrev sees (t : BitVec 4) (c : BitVec 12) (p : Posted) (d : Dev) : Prop := Due [t] d ∧ guardOk d .r (crAddr c.toNat) = true ∧ d.co.wb = [p] ∧ p.addr = crAddr c.toNat
abbrev in7 (t : BitVec 4) (c : BitVec 12) (p : Posted) (d : Dev) : Prop :=
  (crAddr c.toNat = 0xE0000010) ∧ (sees t c p) d
abbrev in8 (t : BitVec 4) (c : BitVec 12) (p : Posted) (d : Dev) : Prop :=
  (crAddr c.toNat ∈ [0xE0000000, 0xE000001C]) ∧ (sees t c p) d

theorem witness_NearLoads :
    in0 5 4 0xFFFC (cpu.store 4 0x10002FFC 0xF1E2D3C4) ∧
    in1 5 4 0xFFFC (cpu.store 4 0x10002FFC 0xF1E2D3C4) ∧
    in1 5 4 0xFFFC (cpu.store 4 0x10002FFC 0xF1E2D3C4) ∧
    in1 5 4 0xFFFE ({ cpu.store 4 0x10002FFC 0xF1E2D3C4 with co := { cpu.co with wb := [⟨0, 0x10002FFF, 1, 0x88⟩] } }) ∧
    in3 5 4 0xFFFC (cpu.store 4 0x10002FFC 0xF1E2D3C4) ∧
    in3 5 4 0xFFFC (cpu.store 4 0x10002FFC 0xF1E2D3C4) ∧
    in5 5 4 2 (cpu.store 4 0x1000301C 0xF1E2D3C4) ∧
    in5 0 4 2 (cpu.store 4 0x1000301C 0xF1E2D3C4) ∧
    in6 5 8 cpu ∧
    in6 5 8 ({ cpu with co := { cpu.co with wb := [⟨0, 0x10002FFF, 1, 0x88⟩] } }) ∧
    in7 5 4 (⟨0, 0xE0000010, 4, 0xDEADBEEF⟩) ({ cpu with co := { cpu.co with wb := [⟨0, 0xE0000010, 4, 0xDEADBEEF⟩] } }) ∧
    in8 5 0 (⟨0, 0xE0000000, 4, 0xDEADBEEF⟩) ({ cpu with co := { cpu.co with wb := [⟨0, 0xE0000000, 4, 0xDEADBEEF⟩] } }) ∧
    in8 5 7 (⟨0, 0xE000001C, 4, 0xDEADBEEF⟩) ({ cpu with co := { cpu.co with wb := [⟨0, 0xE000001C, 4, 0xDEADBEEF⟩] } }) := by
  refine ⟨?_, ?_, ?_, ?_, ?_, ?_, ?_, ?_, ?_, ?_, ?_, ?_, ?_⟩ <;> decide +kernel

end W_NearLoads

namespace W_StoresPost

abbrev in0 (r : BitVec 4) (a : BitVec 4) (imm : BitVec 16) (d : Dev) : Prop :=
  Due [r, a] d ∧ dataFault d true 4 (eaImm d a.toNat imm) = 0 ∧ d.co.wb.length < 4
abbrev in1 (r : BitVec 4) (a : BitVec 4) (imm : BitVec 16) (d : Dev) : Prop :=
  Due [r, a] d ∧ dataFault d true 2 (eaImm d a.toNat imm) = 0 ∧ d.co.wb.length < 4
abbrev in2 (r : BitVec 4) (a : BitVec 4) (imm : BitVec 16) (d : Dev) : Prop :=
  Due [r, a] d ∧ dataFault d true 1 (eaImm d a.toNat imm) = 0 ∧ d.co.wb.length < 4
abbrev in3 (r : BitVec 4) (a : BitVec 4) (b : BitVec 4) (d : Dev) : Prop :=
  Due [r, a, b] d ∧ dataFault d true 4 (eaIdx d a.toNat b.toNat) = 0 ∧ d.co.wb.length < 4
abbrev in4 (r : BitVec 4) (c : BitVec 12) (d : Dev) : Prop :=
  Due [r] d ∧ dataFault d true 4 (crAddr c.toNat) = 0 ∧ d.co.wb.length < 4
abbrev in5 (r : BitVec 4) (a : BitVec 4) (imm : BitVec 16) (d : Dev) : Prop :=
  Due [r, a] d ∧ dataFault d true 4 (eaImm d a.toNat imm) = 0 ∧ 4 ≤ d.co.wb.length

theorem witness_StoresPost :
    in0 3 4 0xFFFC cpu ∧
    in1 3 4 0xFFFC cpu ∧
    in2 3 4 0xFFFC cpu ∧
    in3 3 4 2 cpu ∧
    in4 3 8 cpu ∧
    in5 3 4 0xFFFC ({ cpu with co := { cpu.co with wb := List.replicate 4 ⟨0, 0x10002FFF, 1, 0x88⟩ } }) ∧
    in0 3 4 0xFFFC ({ cpu with co := { cpu.co with wb := List.replicate 3 ⟨0, 0x10002FFF, 1, 0x88⟩ } }) := by
  refine ⟨?_, ?_, ?_, ?_, ?_, ?_, ?_⟩ <;> decide +kernel

end W_StoresPost

namespace W_DrainStores

abbrev in0 (p : Posted) (r : List Posted) (d : Dev) : Prop :=
  d.co.wb = p :: r ∧ inRam p.addr = true
abbrev in1 (p : Posted) (r : List Posted) (d : Dev) : Prop :=
  d.co.wb = p :: r ∧ inRam p.addr = false ∧ isFar p.addr = false
abbrev in2 (p : Posted) (r : List Posted) (d : Dev) : Prop :=
  d.co.wb = p :: r ∧ inRam p.addr = false ∧ isFar p.addr = true ∧
        farFails (d.onCo fun k => { k with wb := r }) true p.width p.addr = false
abbrev in3 (p : Posted) (r : List Posted) (d : Dev) : Prop :=
  d.co.wb = p :: r ∧ inRam p.addr = false ∧ isFar p.addr = true ∧ d.co.loads = [] ∧
        farFails (d.onCo fun k => { k with wb := r }) true p.width p.addr = true
abbrev in4 (d : Dev) : Prop :=
  d.co.wb = []

theorem witness_DrainStores :
    in0 (⟨0, 0x10007FFC, 4, 0xF1E2D3C4⟩) ([⟨1, 0x10002FFF, 1, 0x88⟩]) ({ cpu with co := { cpu.co with wb := [⟨0, 0x10007FFC, 4, 0xF1E2D3C4⟩, ⟨1, 0x10002FFF, 1, 0x88⟩] } }) ∧
    in1 (⟨0, 0xE0000010, 4, 7⟩) ([⟨1, 0x10002FFF, 1, 0x88⟩]) ({ cpu with co := { cpu.co with wb := [⟨0, 0xE0000010, 4, 7⟩, ⟨1, 0x10002FFF, 1, 0x88⟩] } }) ∧
    in2 (⟨0, 0x40000014, 4, 7⟩) ([⟨1, 0x10002FFF, 1, 0x88⟩]) ({ cpu with co := { cpu.co with wb := [⟨0, 0x40000014, 4, 7⟩, ⟨1, 0x10002FFF, 1, 0x88⟩] } }) ∧
    in3 (⟨0, 0x40000014, 1, 7⟩) ([⟨1, 0x10002FFF, 1, 0x88⟩]) ({ cpu with co := { cpu.co with wb := [⟨0, 0x40000014, 1, 7⟩, ⟨1, 0x10002FFF, 1, 0x88⟩] } }) ∧
    in4 cpu := by
  refine ⟨?_, ?_, ?_, ?_, ?_⟩ <;> decide +kernel

end W_DrainStores

theorem witness_LoadSeesLatestStore : Due [3, 4] cpu ∧ dataFault cpu true 4 (eaImm cpu 4 0) = 0 ∧ inRam (eaImm cpu 4 0) = true ∧ cpu.co.wb.length < 4 ∧
    ∃ u : State, exec (.stw 3 4 0) ⟨cpu, []⟩ = .next u ∧ Due [5, 4] u.dev ∧ NearAt .r 4 (eaImm u.dev 4 0) u.dev :=
  ⟨by decide +kernel, by decide +kernel, by decide +kernel, by decide +kernel, _, rfl, by decide +kernel, by decide +kernel⟩

namespace W_FarLoads

abbrev in0 (t : BitVec 4) (a : BitVec 4) (imm : BitVec 16) (d : Dev) : Prop :=
  Due [t, a] d ∧ eaImm d a.toNat imm = 0x40000020 ∧ guardOk d .r 0x40000020 = true ∧ d.co.loads.length < 2 ∧
        d.co.loads.all (fun l => l.reached && decide (l.id ≠ d.co.nextLoad)) = true ∧ d.co.wb = []
abbrev in1 (t : BitVec 4) (a : BitVec 4) (imm : BitVec 16) (d : Dev) : Prop :=
  Due [t, a] d ∧ dataFault d false 4 (eaImm d a.toNat imm) = 0 ∧ isFar (eaImm d a.toNat imm) = true ∧
        2 ≤ d.co.loads.length
abbrev in2 (l : FarLoad) (r : List FarLoad) (v : Nat) (d : Dev) : Prop :=
  (l.res = some v) ∧ (l.width = 4) ∧ (l.sgn = false) ∧ (r.all (fun x => x.reached && decide (x.id ≠ l.id)) = true) ∧ (d.co.loads = l :: r ∧ d.co.busi = none)
abbrev in4 (t : BitVec 4) (a : BitVec 4) (b : BitVec 4) (d : Dev) : Prop :=
  CpuReady d ∧ (busyReg d t.toNat || busyReg d a.toNat || busyReg d b.toNat) = true
abbrev told (l : FarLoad) (v : Nat) (d : Dev) : Dev := (d.setW l.dst (BitVec.ofNat 32 v)).onCo fun k => { k with loads := [], busi := none }
abbrev in3 (l : FarLoad) (r : List FarLoad) (v : Nat) (a : Nat) (d : Dev) : Prop :=
  (l.res = some v) ∧ (l.width = 4) ∧ (l.sgn = false) ∧ (r.all (fun x => x.reached && decide (x.id ≠ l.id)) = true) ∧ (d.co.loads = [l] ∧ d.co.busi = some a ∧ d.co.level < 8 ∧ CanEnter 6 d.co.pc ((told l v) d))

theorem witness_FarLoads :
    in0 5 4 0 (wregs [(4, 0x40000020)] { cpu with tlt := 2 ^ 48 - 1 }) ∧
    in0 0 4 0 (wregs [(4, 0x40000020)] { cpu with tlt := 2 ^ 48 - 1, co := { cpu.co with loads := [⟨3, 0x40000020, 9, 4, false, true, none⟩] } }) ∧
    in1 5 4 0 (wregs [(4, 0x40000020)] { cpu with co := { cpu.co with loads := [⟨3, 0x40000020, 9, 4, false, true, none⟩, ⟨4, 0x40000020, 9, 4, false, true, none⟩] } }) ∧
    in2 (⟨3, 0x40000020, 9, 4, false, true, some 0xFFFFFFFF⟩) ([⟨4, 0x40000020, 9, 4, false, true, none⟩]) 0xFFFFFFFF ({ cpu with co := { cpu.co with loads := [⟨3, 0x40000020, 9, 4, false, true, some 0xFFFFFFFF⟩, ⟨4, 0x40000020, 9, 4, false, true, none⟩] } }) ∧
    in4 5 4 2 ({ cpu with co := { cpu.co with loads := [⟨3, 0x40000020, 2, 4, false, true, none⟩] } }) ∧
    in3 (⟨3, 0x40000020, 9, 4, false, true, some 0xFFFFFFFF⟩) ([⟨4, 0x40000020, 9, 4, false, true, none⟩]) 0xFFFFFFFF 0x40099000 ({ cpu with co := { cpu.co with loads := [⟨3, 0x40000020, 9, 4, false, true, some 0xFFFFFFFF⟩], busi := some 0x40099000 } }) := by
  refine ⟨?_, ?_, ?_, ?_, ?_, ?_⟩ <;> decide +kernel

end W_FarLoads

namespace W_Branches

abbrev in0 (d : Dev) : Prop :=
  CpuReady d
abbrev in15 (d : Dev) : Prop :=
  CpuReady d ∧ d.co.level < 8 ∧ CanEnter 1 d.co.pc (fetched d)

theorem witness_Branches :
    in0 cpu ∧
    in0 cpu ∧
    in0 cpu ∧
    in0 cpu ∧
    in0 cpu ∧
    in0 cpu ∧
    in0 cpu ∧
    in0 cpu ∧
    in0 cpu ∧
    in0 cpu ∧
    in0 cpu ∧
    in0 cpu ∧
    in0 cpu ∧
    in0 cpu ∧
    in0 cpu ∧
    in15 ({ cpu with co := { cpu.co with level := 7 } }) ∧
    in0 ({ cpu with co := { cpu.co with n := false, z := true, c := false, v := true } }) ∧
    in0 ({ cpu with co := { cpu.co with n := false, z := true, c := false, v := true } }) ∧
    in0 ({ cpu with co := { cpu.co with n := false, z := true, c := false, v := true } }) ∧
    in0 ({ cpu with co := { cpu.co with n := false, z := true, c := false, v := true } }) ∧
    in0 ({ cpu with co := { cpu.co with n := false, z := true, c := false, v := true } }) ∧
    in0 ({ cpu with co := { cpu.co with n := false, z := true, c := false, v := true } }) ∧
    in0 ({ cpu with co := { cpu.co with n := false, z := true, c := false, v := true } }) ∧
    in0 ({ cpu with co := { cpu.co with n := false, z := true, c := false, v := true } }) ∧
    in0 ({ cpu with co := { cpu.co with n := false, z := true, c := false, v := true } }) ∧
    in0 ({ cpu with co := { cpu.co with n := false, z := true, c := false, v := true } }) ∧
    in0 ({ cpu with co := { cpu.co with n := false, z := true, c := false, v := true } }) ∧
    in0 ({ cpu with co := { cpu.co with n := false, z := true, c := false, v := true } }) ∧
    in0 ({ cpu with co := { cpu.co with n := false, z := true, c := false, v := true } }) ∧
    in0 ({ cpu with co := { cpu.co with n := false, z := true, c := false, v := true } }) := by
  refine ⟨?_, ?_, ?_, ?_, ?_, ?_, ?_, ?_, ?_, ?_, ?_, ?_, ?_, ?_, ?_, ?_, ?_, ?_, ?_, ?_, ?_, ?_, ?_, ?_, ?_, ?_, ?_, ?_, ?_, ?_⟩ <;> decide +kernel

end W_Branches

namespace W_CallsAndJumps

abbrev in0 (d : Dev) : Prop :=
  (Due [15]) d
abbrev in1 (a : BitVec 4) (d : Dev) : Prop :=
  Due [a] d ∧ (d.wr a.toNat).toNat % 4 = 0
abbrev in2 (a : BitVec 4) (d : Dev) : Prop :=
  Due [a, 15] d ∧ (d.wr a.toNat).toNat % 4 = 0
abbrev in3 (a : BitVec 4) (d : Dev) : Prop :=
  Due [a, 15] d ∧ (d.wr a.toNat).toNat % 4 ≠ 0 ∧ d.co.level < 8 ∧ CanEnter 2 d.co.pc (fetched d)

theorem witness_CallsAndJumps :
    in0 cpu ∧
    in1 4 cpu ∧
    in2 4 cpu ∧
    in2 15 (wregs [(15, 0x10001010)] cpu) ∧
    in3 3 cpu ∧
    in3 15 (wregs [(15, 0x10001012)] cpu) := by
  refine ⟨?_, ?_, ?_, ?_, ?_, ?_⟩ <;> decide +kernel

end W_CallsAndJumps

namespace W_SystemInstructions

abbrev in0 (d : Dev) : Prop :=
  CpuReady d
abbrev in1 (d : Dev) : Prop :=
  CpuReady d ∧ d.co.wb = [] ∧ d.co.loads = [] ∧ d.b F.IC_CTL_INV = false ∧ d.co.vwait = false
abbrev in2 (d : Dev) : Prop :=
  CpuReady d ∧ (d.co.wb ≠ [] ∨ d.co.loads ≠ [] ∨ d.b F.IC_CTL_INV = true)
abbrev in3 (d : Dev) : Prop :=
  CpuReady d ∧ d.r F.CK_LADDER_REQ = 0 ∧ irqAbove (fetched d) d.co.level = none
abbrev in4 (d : Dev) : Prop :=
  CpuReady d ∧ d.r F.CK_LADDER_REQ = 0 ∧ (irqAbove (fetched d) d.co.level).isSome = true
abbrev in5 (t : BitVec 4) (d : Dev) : Prop :=
  (Due [t]) d
abbrev in6 (d : Dev) : Prop :=
  CpuReady d ∧ d.r F.KY_LC_DBGEN = 1

theorem witness_SystemInstructions :
    in0 cpu ∧
    in1 cpu ∧
    in2 (cpu.w F.IC_CTL_INV 1) ∧
    in3 cpu ∧
    in4 (ws [(F.SYS_LOCKV_TAG, 1), (F.CO_IPRI_L3 1, 3)] cpu) ∧
    in5 9 cpu ∧
    in6 (cpu.w F.KY_LC_DBGEN 1) := by
  refine ⟨?_, ?_, ?_, ?_, ?_, ?_, ?_⟩ <;> decide +kernel

end W_SystemInstructions

namespace W_Exceptions

abbrev in0 (w : Word) (d : Dev) : Prop :=
  (definedWord w.toNat = false) ∧ (CpuReady d ∧ d.co.level < 8 ∧ CanEnter 1 d.co.pc (fetched d))
abbrev in1 (w : Word) (d : Dev) : Prop :=
  (definedWord w.toNat = false) ∧ (CpuReady d ∧ 8 ≤ d.co.level)
abbrev in2 (t : BitVec 4) (a : BitVec 4) (imm : BitVec 16) (d : Dev) : Prop :=
  Due [t, a] d ∧ d.co.level < 8 ∧ eaImm d a.toNat imm % 4 ≠ 0 ∧ CanEnter 2 d.co.pc (fetched d)
abbrev in3 (t : BitVec 4) (a : BitVec 4) (imm : BitVec 16) (d : Dev) : Prop :=
  Due [t, a] d ∧ d.co.level < 8 ∧ guardOk d .w (eaImm d a.toNat imm) = false ∧ CanEnter 4 d.co.pc (fetched d)
abbrev in4 (t : BitVec 4) (a : BitVec 4) (imm : BitVec 16) (d : Dev) : Prop :=
  Due [t, a] d ∧ d.co.level < 8 ∧ guardOk d .r (eaImm d a.toNat imm) = true ∧
        0x80000000 ≤ eaImm d a.toNat imm ∧ CanEnter 5 d.co.pc (fetched d)
abbrev in5 (d : Dev) : Prop :=
  CpuReady d ∧ d.r F.KY_LC_DBGEN = 0 ∧ d.co.level < 8 ∧ CanEnter 8 d.co.pc (fetched d)
abbrev in6 (d : Dev) : Prop :=
  imageRuns d = true ∧ d.co.waiting = false ∧ d.co.busi = none ∧ irqNow d = none ∧ d.co.pc % 4 ≠ 0 ∧ d.co.level < 8 ∧ CanEnter 2 d.co.pc d
abbrev in7 (d : Dev) : Prop :=
  imageRuns d = true ∧ d.co.waiting = false ∧ d.co.busi = none ∧ irqNow d = none ∧ d.co.pc % 4 = 0 ∧ executable d d.co.pc = false ∧
      d.co.level < 8 ∧ CanEnter 3 d.co.pc d
abbrev in8 (d : Dev) : Prop :=
  imageRuns d = true ∧ d.co.busi = none ∧ (irqNow d).isSome = true ∧ frameBusy d = false ∧ frameOk d .w (d.wr 14 - 40).toNat = false

theorem witness_Exceptions :
    in0 0xFFFFFFFF cpu ∧
    in1 0xFFFFFFFF ({ cpu with co := { cpu.co with level := 8 } }) ∧
    in2 5 4 2 cpu ∧
    in3 5 4 0 (ws [(F.GUARD_ATTR_EN 0, 1), (F.GUARD_BASE_BASE 0, 0x800180), (F.GUARD_LIM_LIM 0, 0x800180)] cpu) ∧
    in4 5 4 0 (wregs [(4, 0x80000000)] cpu) ∧
    in5 cpu ∧
    in6 ({ cpu with co := { cpu.co with pc := 0x10001002 } }) ∧
    in7 ({ cpu with co := { cpu.co with pc := 0x40000000 } }) ∧
    in8 (ws [(F.SYS_LOCKV_TAG, 1), (F.CO_IPRI_L3 1, 3)] (wregs [(14, 0x40000000)] { cpu with co := { cpu.co with ie := true } })) := by
  refine ⟨?_, ?_, ?_, ?_, ?_, ?_, ?_, ?_, ?_⟩ <;> decide +kernel

end W_Exceptions

namespace W_InterruptEntry

abbrev in0 (src : Nat) (lv : Nat) (d : Dev) : Prop :=
  imageRuns d = true ∧ d.co.busi = none ∧ irqNow d = some (src, lv) ∧ CanEnter (16 + src) d.co.pc d
abbrev in1 (d : Dev) (src : Nat) (lv : Nat) : Prop :=
  (irqNow d = some (src, lv))
abbrev in6 (d : Dev) (src : Nat) (lv : Nat) (k : Nat) : Prop :=
  (irqNow d = some (src, lv)) ∧ (k < 64) ∧ (irqPending d k = true)
abbrev in7 (d : Dev) (src : Nat) (lv : Nat) (k : Nat) : Prop :=
  (irqNow d = some (src, lv)) ∧ (k < 64) ∧ (irqPending d k = true) ∧ (irqLevel d k = lv)
abbrev in8 (d : Dev) : Prop :=
  Due [14] d ∧ d.co.level ≠ 0 ∧ frameOk d .r (d.wr 14).toNat = true ∧ frameBusy d = false ∧
      (if (frameWord d 36).testBit 8 then irqAbove (fetched d) (frameWord d 36 % 16) else none) = none
abbrev in9 (src : Nat) (lv : Nat) (v : Nat) (d : Dev) : Prop :=
  Due [14] d ∧ d.co.level ≠ 0 ∧ frameOk d .r (d.wr 14).toNat = true ∧ (frameWord d 36).testBit 8 = true ∧
        irqAbove (fetched d) (frameWord d 36 % 16) = some (src, lv) ∧ vectorOf (fetched d) (16 + src) = some v
abbrev in10 (d : Dev) : Prop :=
  Due [14] d ∧ d.co.level = 0 ∧ CanEnter 1 d.co.pc (fetched d)

theorem witness_InterruptEntry :
    in0 11 3 (ws [(F.SYS_LOCKV_TAG, 1), (F.CO_IPRI_L3 1, 3)] { cpu.store 4 0x1000006C 0x10002000 with co := { cpu.co with ie := true } }) ∧
    in1 (ws [(F.SYS_LOCKV_TAG, 1), (F.CO_IPRI_L3 1, 3)] { cpu.store 4 0x1000006C 0x10002000 with co := { cpu.co with ie := true } }) 11 3 ∧
    in1 (ws [(F.SYS_LOCKV_TAG, 1), (F.CO_IPRI_L3 1, 3)] { cpu.store 4 0x1000006C 0x10002000 with co := { cpu.co with ie := true } }) 11 3 ∧
    in1 (ws [(F.SYS_LOCKV_TAG, 1), (F.CO_IPRI_L3 1, 3)] { cpu.store 4 0x1000006C 0x10002000 with co := { cpu.co with ie := true } }) 11 3 ∧
    in1 (ws [(F.SYS_LOCKV_TAG, 1), (F.CO_IPRI_L3 1, 3)] { cpu.store 4 0x1000006C 0x10002000 with co := { cpu.co with ie := true } }) 11 3 ∧
    in1 (ws [(F.SYS_LOCKV_TAG, 1), (F.CO_IPRI_L3 1, 3)] { cpu.store 4 0x1000006C 0x10002000 with co := { cpu.co with ie := true } }) 11 3 ∧
    in6 (ws [(F.SYS_LOCKV_TAG, 1), (F.CO_IPRI_L3 1, 3)] { cpu.store 4 0x1000006C 0x10002000 with co := { cpu.co with ie := true } }) 11 3 11 ∧
    in7 (ws [(F.SYS_LOCKV_TAG, 1), (F.CO_IPRI_L3 1, 3)] { cpu.store 4 0x1000006C 0x10002000 with co := { cpu.co with ie := true } }) 11 3 11 ∧
    in8 (wregs [(14, 0x10007000)] (({ cpu with co := { cpu.co with level := 3 } }).storeBytes 0x10007000 ((List.range 36) ++ [5, 1, 0, 0xF0]))) ∧
    in9 11 3 0x10002000 (ws [(F.SYS_LOCKV_TAG, 1), (F.CO_IPRI_L3 1, 3)] (wregs [(14, 0x10007000)] (({ cpu.store 4 0x1000006C 0x10002000 with co := { cpu.co with level := 3 } }).storeBytes 0x10007000 ((List.range 36) ++ [2, 1, 0, 0xF0])))) ∧
    in10 cpu := by
  refine ⟨?_, ?_, ?_, ?_, ?_, ?_, ?_, ?_, ?_, ?_, ?_⟩ <;> decide +kernel

end W_InterruptEntry

/-- Image code at level 0 with source 11 pending at level 3. -/
def interrupted : Dev := ws [(F.SYS_LOCKV_TAG, 1), (F.CO_IPRI_L3 1, 3)] { cpu.store 4 0x1000006C 0x10002000 with co := { cpu.co with ie := true } }
/-- The same after its entry, the source no longer pending. -/
def handled : Dev := (interruptEntry interrupted).w F.SYS_LOCKV_TAG 0
theorem handled_keeps (d : Dev) : (d.w F.SYS_LOCKV_TAG 0).co = d.co ∧ (d.w F.SYS_LOCKV_TAG 0).mem = d.mem := ⟨rfl, rfl⟩
theorem witness_EntryThenReturn :
    imageRuns interrupted = true ∧ irqNow interrupted = some (11, 3) ∧ CanEnter 27 interrupted.co.pc interrupted ∧ interrupted.co.wb = [] ∧
      interrupted.co.level < 16 ∧ interrupted.co.pc < 2 ^ 32 ∧ exec .interruptEntry ⟨interrupted, []⟩ = .next ⟨interruptEntry interrupted, []⟩ ∧
      handled.co = (interruptEntry interrupted).co ∧ handled.mem = (interruptEntry interrupted).mem ∧ Due [14] handled ∧ frameBusy handled = false ∧
      frameOk handled .r (handled.wr 14).toNat = true ∧ irqAbove (fetched handled) interrupted.co.level = none ∧
      exec .reti ⟨handled, []⟩ = .next ⟨retiInstr handled, []⟩ :=
  ⟨by decide +kernel, by decide +kernel, by decide +kernel, by decide +kernel, by decide +kernel, by decide +kernel, rfl,
    (handled_keeps _).1, (handled_keeps _).2, by decide +kernel, by decide +kernel, by decide +kernel, by decide +kernel, rfl⟩

theorem witness_DecodeOfEncode : encodeWord (.movl 1 0x20) = some 0x20400020 := by decide +kernel

theorem witness_UndefinedFields : decodeWord 0x20400020 = some (.movl 1 0x20) := by decide +kernel

namespace W_SyncRing

abbrev live0 (d : Dev) : Prop := d.r F.SR_CTL_EN ≠ 0 ∧ d.ck.ladder = .run ∧ darkened d = false
abbrev calm (d : Dev) : Prop := d.sw.slots = [] ∧ d.sw.furrows = []
abbrev state (d : Dev) : Nat := d.r F.SR_STAT_STATE
abbrev master (d : Dev) : Prop := live0 d ∧ d.r F.SR_STAT_MASTER ≠ 0 ∧ d.r F.SR_STAT_ADDR = 0 ∧ d.r F.SR_STAT_ADDRV ≠ 0
abbrev member (a : Nat) (d : Dev) : Prop := live0 d ∧ d.r F.SR_STAT_MASTER = 0 ∧ d.r F.SR_STAT_ADDRV ≠ 0 ∧ d.r F.SR_STAT_ADDR = a
abbrev only (d t : Dev) : Prop := t = { d with regs := t.regs, sr := t.sr, q1 := t.q1, st := { d.st with tun := t.st.tun } }
abbrev past (d : Dev) (w : Nat) : Prop := (w + d.ck.phase) / 4 < (d.ns + d.ck.phase) / 4
abbrev e (d : Dev) : Nat := d.tlt / 1000
abbrev n (d : Dev) : Nat := d.r F.EN_RING_RSRC
abbrev due (d : Dev) : Prop := master d ∧ state d = 2 ∧ d.sr.step = .none ∧ d.sr.nextE ≤ e d
abbrev in0 (c : Cell) (r : List Cell) (d : Dev) : Prop :=
  due d ∧ d.sr.held = c :: r
abbrev in1 (c : Cell) (r : List Cell) (d : Dev) : Prop :=
  due d ∧ d.sr.held = [] ∧ d.sr.taints = c :: r
abbrev in2 (d : Dev) : Prop :=
  due d ∧ d.sr.held = [] ∧ d.sr.taints = [] ∧ d.sr.ctrl = [] ∧ d.sr.lines = []
abbrev in4 (d : Dev) : Prop :=
  (d.r F.SR_CTL_EN = 0 ∧ d.sr.step = .none) ∨ (d.r F.SR_STAT_MASTER = 0 ∧ d.sr.downLeft = 0) ∨ (live0 d ∧ e d < d.sr.nextE)
abbrev in5 (d : Dev) : Prop :=
  d.r F.SR_CTL_EN = 0 ∧ d.r F.SR_STAT_MASTER ≠ 0 ∧ d.sr.step = .discovery ∧ d.sr.stepEnd < d.ns
abbrev in3 (c : Cell) (r : List Cell) (u : Tunnel) (d : Dev) : Prop :=
  due d ∧ d.sr.held = [] ∧ d.sr.taints = [] ∧ d.sr.ctrl = [] ∧ d.sr.lines = c :: r ∧ (∀ x ∈ r, x.typ ≠ 10) ∧ d.st.tun = some u ∧ u.stop = none
abbrev body (x : Epoch) : List Nat := (0xE0 + 8 * bit x.busy + 4 * bit x.rhl + 2 * bit x.up + bit x.stop) ::
      (leBytes 5 x.e ++ leBytes 6 x.pos ++ leBytes 3 (x.vel % 16777216).toNat)
abbrev whole (x : Epoch) : Prop := x.e < 2 ^ 40 ∧ x.pos < 2 ^ 48 ∧ -8388608 ≤ x.vel ∧ x.vel ≤ 8388607
abbrev off (x : Epoch) (frac : Fin 16) (d : Dev) : Int := (d.r F.SR_DLY_D : Int) - (16 * sd d.tlt (1000 * x.e % 2 ^ 48) + frac.val)
abbrev untied (d : Dev) : Prop := state d = 1 ∨ ∀ w ∈ d.sr.watchdog, (d.ns + d.ck.phase) / 4 < (w + d.ck.phase) / 4
abbrev hears (a : Nat) (x : Epoch) (frac : Fin 16) (bytes : Bytes) (d : Dev) : Prop := member a d ∧ calm d ∧ (whole x) ∧ Bytes.nats bytes = (body x) ++ [crc8 (body x)] ∧ -32768 ≤ (off x frac) d ∧ (off x frac) d ≤ 32767
abbrev good (a : Nat) (x : Epoch) (frac : Fin 16) (bytes : Bytes) (d : Dev) : Prop := (hears a x frac bytes) d ∧ untied d ∧ x.rhl = false ∧ (d.sr.last.up = true → x.up = true)
abbrev in6 (a : Nat) (x : Epoch) (frac : Fin 16) (bytes : Bytes) (d : Dev) : Prop :=
  (good a x frac bytes) d ∧ state d = 2 ∧ d.sr.haveD = false
abbrev in7 (a : Nat) (x : Epoch) (frac : Fin 16) (bytes : Bytes) (d : Dev) : Prop :=
  (hears a x frac bytes) d ∧ (∃ w ∈ d.sr.watchdog, (w + d.ck.phase) / 4 = (d.ns + d.ck.phase) / 4) ∧ x.rhl = false ∧ x.up = true ∧ state d = 2 ∧ d.sr.haveD = false
abbrev in8 (a : Nat) (x : Epoch) (frac : Fin 16) (bytes : Bytes) (d : Dev) : Prop :=
  (hears a x frac bytes) d ∧ (∃ w ∈ d.sr.watchdog, past d w) ∧ x.rhl = false ∧ x.up = true ∧ state d = 2 ∧ d.sr.haveD = false ∧
        d.r F.SR_CTL_AUTOJ = 0
abbrev in9 (a : Nat) (x : Epoch) (frac : Fin 16) (bytes : Bytes) (d : Dev) : Prop :=
  (good a x frac bytes) d ∧ state d = 1 ∧ x.up = true ∧ d.sr.haveD = true ∧ d.sr.loaded = false
abbrev slews (a : Nat) (x : Epoch) (frac : Fin 16) (bytes : Bytes) (d : Dev) : Prop := (good a x frac bytes) d ∧ d.sr.haveD = true ∧ d.sr.loaded = true ∧ d.tlt < 2 ^ 48
abbrev in10 (a : Nat) (x : Epoch) (frac : Fin 16) (bytes : Bytes) (d : Dev) : Prop :=
  (slews a x frac bytes) d ∧ state d = 2 ∧ d.r F.SR_STAT_ALIGNED ≠ 0 ∧ ((off x frac) d).natAbs ≤ 128
abbrev in11 (a : Nat) (x : Epoch) (frac : Fin 16) (bytes : Bytes) (d : Dev) : Prop :=
  (slews a x frac bytes) d ∧ state d = 1 ∧ d.r F.SR_STAT_ALIGNED = 0 ∧ ((off x frac) d).natAbs < 16 ∧ 7 ≤ d.sr.small
abbrev in12 (a : Nat) (x : Epoch) (frac : Fin 16) (bytes : Bytes) (d : Dev) : Prop :=
  (slews a x frac bytes) d ∧ state d = 2 ∧ d.r F.SR_STAT_ALIGNED ≠ 0 ∧ 128 < ((off x frac) d).natAbs ∧ 3 ≤ d.sr.large ∧ d.r F.SR_CTL_AUTOJ = 0
abbrev in16 (bytes : Bytes) (k : Nat) (d : Dev) : Prop :=
  (k ≠ 0) ∧ (live0 d ∧ bytes.length = 16 ∧ calm d)
abbrev in17 (bytes : Bytes) (d : Dev) : Prop :=
  bytes.length = 16 ∧ (d.r F.SR_CTL_EN = 0 ∨ d.ck.ladder = .nap)
abbrev in13 (a : Nat) (x : Epoch) (frac : Fin 16) (bytes : Bytes) (d : Dev) : Prop :=
  (hears a x frac bytes) d ∧ state d = 2 ∧ d.sr.last.up = true ∧ x.up = false
abbrev in14 (a : Nat) (x : Epoch) (frac : Fin 16) (bytes : Bytes) (d : Dev) : Prop :=
  (hears a x frac bytes) d ∧ untied d ∧ x.up = true ∧ x.rhl = true ∧ state d = 5 ∧ d.sr.join = true ∧ d.sr.ctrl = [] ∧
        d.r F.SR_STAT_ALIGNED ≠ 0 ∧ d.sr.haveD = false
abbrev in15 (bytes : Bytes) (m : List Nat) (c : Nat) (d : Dev) : Prop :=
  (c ≠ crc8 m) ∧ (m.length = 15) ∧ (live0 d ∧ Bytes.nats bytes = m ++ [c])
abbrev ends (w : Nat) (d : Dev) : Prop := d.sr.watchdog = some w ∧ past d w
abbrev in18 (a : Nat) (w : Nat) (d : Dev) : Prop :=
  member a d ∧ calm d ∧ (ends w) d ∧ state d = 2
abbrev in19 (a : Nat) (w : Nat) (u : Tunnel) (d : Dev) : Prop :=
  member a d ∧ calm d ∧ (ends w) d ∧ state d = 2 ∧ d.st.tun = some u ∧ u.stop = none
abbrev in20 (w : Nat) (d : Dev) : Prop :=
  master d ∧ (ends w) d ∧ state d = 2
abbrev in21 (a : Nat) (w : Nat) (d : Dev) : Prop :=
  d.sr.watchdog = none ∨ (d.sr.watchdog = some w ∧ (¬ past d w ∨ state d = 1 ∨ d.ck.ladder = .nap)) ∨ (member a d ∧ state d = 4)
abbrev outside (d : Dev) : Prop := live0 d ∧ d.r F.SR_STAT_MASTER = 0
abbrev in22 (arg : Byte) (d : Dev) : Prop :=
  outside d ∧ (state d = 0 ∨ state d = 1) ∧ arg.toNat < 16
abbrev in23 (arg : Byte) (d : Dev) : Prop :=
  outside d ∧ state d = 3 ∧ arg.toNat < 16
abbrev in24 (d : Dev) : Prop :=
  outside d ∧ (state d = 0 ∨ state d = 1)
abbrev in25 (d : Dev) : Prop :=
  outside d ∧ state d = 2
abbrev in26 (arg : Byte) (d : Dev) : Prop :=
  master d ∧ d.sr.step = .discovery ∧ arg.toNat < 128
abbrev in27 (arg : Byte) (d : Dev) : Prop :=
  member arg.toNat d
abbrev in28 (d : Dev) : Prop :=
  master d ∧ d.sr.step = .measure ∧ d.sr.linkNow = 0 ∧ 0 < d.sr.members
abbrev measures (src : BitVec 4) (d : Dev) : Prop := master d ∧ d.sr.step = .measure ∧ src.toNat = d.sr.linkNow ∧ src ≠ 0
abbrev in29 (src : BitVec 4) (d : Dev) : Prop :=
  (measures src) d ∧ d.sr.linkNow < d.sr.members
abbrev in30 (src : BitVec 4) (d : Dev) : Prop :=
  (measures src) d ∧ d.sr.linkNow = d.sr.members ∧ d.sr.full = false
abbrev in31 (d : Dev) : Prop :=
  outside d
abbrev in33 (a : Nat) (arg : Byte) (d : Dev) : Prop :=
  member a d ∧ a ≠ arg.toNat
abbrev fromMember (src : BitVec 4) (d : Dev) : Prop := master d ∧ src ≠ 0
abbrev in34 (src : BitVec 4) (d : Dev) : Prop :=
  (fromMember src) d ∧ d.sr.step = .none
abbrev in35 (src : BitVec 4) (d : Dev) : Prop :=
  (fromMember src) d ∧ d.sr.step = .align ∧ d.sr.full = false ∧ ∀ i, i < d.sr.members + 1 → 1 ≤ i → i = src.toNat ∨ i ∈ d.sr.aligned
abbrev in36 (src : BitVec 4) (d : Dev) : Prop :=
  (fromMember src) d ∧ src.toNat ∉ d.sr.joins
abbrev in37 (src : BitVec 4) (d : Dev) : Prop :=
  (fromMember src) d
abbrev joins (a : Nat) (st : Nat) (d t : Dev) : Prop := state t = st ∧ t.sr.join = true ∧ t.sr.admitted = false ∧ t.sr.ctrl = d.sr.ctrl ++ [⟨a, 6, 0, 0⟩] ∧ only d t
abbrev in41 (a : Nat) (d : Dev) : Prop :=
  member a d ∧ state d = 2
abbrev in42 (a : Nat) (d : Dev) : Prop :=
  member a d ∧ (state d = 3 ∨ state d = 4)
abbrev in43 (a : Nat) (d : Dev) : Prop :=
  member a d ∧ a ≠ 0 ∧ state d = 2
abbrev in44 (d : Dev) : Prop :=
  master d
abbrev in45 (d : Dev) : Prop :=
  outside d ∧ (d.r F.SR_STAT_ADDRV = 0 ∨ state d = 1)
abbrev in47 (d : Dev) : Prop :=
  d.r F.SR_STAT_MASTER ≠ 0 ∨ d.r F.SR_STAT_ADDRV = 0 ∨ state d = 2
abbrev in48 (a : Nat) (src : BitVec 4) (data : Word) (k : Nat) (s : Slot) (d : Dev) : Prop :=
  member a d ∧ a ≠ src.toNat ∧ d.r F.BD_CTL_RFOLLOW ≠ 0 ∧ d.sw.slots = [(k, s)] ∧ s.st ≠ .free ∧ d.r (F.SWF_CFG_SRC s.f) = 2 ∧
          s.tfire / 1000 % 2 ^ 32 = data.toNat ∧ s.verdict = none ∧ d.r (F.SWF_CFG_HEADEN s.f) = 0 ∧ ∀ n, n < 8 → peTicked d n = none
abbrev in49 (a : Nat) (src : BitVec 4) (d : Dev) : Prop :=
  member a d ∧ (a = src.toNat ∨ d.r F.BD_CTL_RFOLLOW = 0)
abbrev chars (data : Word) : List Nat := (leBytes 4 data.toNat).filter (· ≠ 0)
abbrev mine (a : Nat) (src : BitVec 4) (arg : Byte) (d : Dev) : Prop := member a d ∧ a ≠ src.toNat ∧ arg.toNat % 16 = a
abbrev alone (a : Nat) (src : BitVec 4) (arg : Byte) (reply : Bool) (d : Dev) : Prop := (mine a src arg) d ∧ (reply = true → d.st.tun = none)
abbrev first (arg : Byte) : Prop := arg.getLsbD 4 = true
abbrev isLast (arg : Byte) : Prop := arg.getLsbD 5 = true
abbrev opened (src : BitVec 4) (reply : Bool) (old : List Nat) (sq : Nat) (d : Dev) : Prop := d.sr.gather = [⟨src.toNat, reply, sq, old⟩]
abbrev in50 (a : Nat) (src : BitVec 4) (arg : Byte) (reply : Bool) (d : Dev) : Prop :=
  (alone a src arg reply) d ∧ d.sr.gather = [] ∧ (first arg) ∧ (isLast arg)
abbrev in51 (a : Nat) (src : BitVec 4) (arg : Byte) (d : Dev) : Prop :=
  (mine a src arg) d ∧ d.sr.gather = [] ∧ (first arg) ∧ ¬(isLast arg)
abbrev in52 (a : Nat) (src : BitVec 4) (arg : Byte) (data : Word) (reply : Bool) (old : List Nat) (sq : Nat) (d : Dev) : Prop :=
  (alone a src arg reply) d ∧ (opened src reply old sq) d ∧ ¬(first arg) ∧ sq = arg.toNat / 64 ∧ (isLast arg) ∧ (old ++ (chars data)).length ≤ 256
abbrev in53 (a : Nat) (src : BitVec 4) (arg : Byte) (data : Word) (reply : Bool) (old : List Nat) (sq : Nat) (u : Tunnel) (x : Nat) (d : Dev) : Prop :=
  (mine a src arg) d ∧ reply = true ∧ (opened src reply old sq) d ∧ ¬(first arg) ∧ sq = arg.toNat / 64 ∧ (isLast arg) ∧ (old ++ (chars data)).length ≤ 256 ∧ d.st.tun = some u ∧ u.dead = false ∧
          u.came = false ∧ finalPacket u ((0x70 + src.toNat) :: (old ++ (chars data)) ++ [13]) = true ∧ u.stop = some x ∧
          (d.ns + d.ck.aphase) / 1000 < (x + d.ck.aphase) / 1000
abbrev in54 (a : Nat) (src : BitVec 4) (arg : Byte) (reply : Bool) (old : List Nat) (sq : Nat) (d : Dev) : Prop :=
  (mine a src arg) d ∧ (opened src reply old sq) d ∧ ¬(first arg) ∧ sq ≠ arg.toNat / 64
abbrev in55 (a : Nat) (src : BitVec 4) (arg : Byte) (d : Dev) : Prop :=
  member a d ∧ (a = src.toNat ∨ arg.toNat % 16 ≠ a)
abbrev in56 (a : Nat) (d : Dev) : Prop :=
  member a d ∧ state d = 2 ∧ calm d ∧ d.sr.ctrl = []
abbrev in57 (d : Dev) : Prop :=
  d.r F.SR_STAT_MASTER ≠ 0 ∨ d.r F.SR_STAT_ADDRV = 0 ∨ state d = 4 ∨ state d = 0
abbrev in58 (d : Dev) : Prop :=
  d.sr.step = .align ∧ d.sr.stepEnd ≤ d.ns
abbrev in59 (d : Dev) : Prop :=
  d.sr.step ≠ .align ∨ d.ns < d.sr.stepEnd
abbrev in60 (d : Dev) : Prop :=
  state d = 0 ∧ d.r F.SR_STAT_MASTER = 0
abbrev in61 (d : Dev) : Prop :=
  state d ≠ 0 ∨ d.r F.SR_STAT_MASTER ≠ 0
abbrev in62 (d : Dev) : Prop :=
  d.r F.SR_STAT_MASTER ≠ 0
abbrev in63 (d : Dev) : Prop :=
  d.r F.SR_STAT_MASTER = 0

theorem witness_SyncRing_0 :
    in0 (⟨2, 3, 0, 5⟩) ([⟨4, 6, 0, 0⟩]) (ringMaster 2 { Tests.live with tlt := 7000, sr := { held := [⟨2, 3, 0, 5⟩, ⟨4, 6, 0, 0⟩], nextE := 7, taints := [⟨0, 8, 0, 0⟩], downLeft := 3 } }) ∧
    in1 (⟨2, 3, 0, 5⟩) ([⟨4, 6, 0, 0⟩]) (ringMaster 2 { Tests.live with tlt := 100000, sr := { taints := [⟨2, 3, 0, 5⟩, ⟨4, 6, 0, 0⟩], nextE := 99 } }) ∧
    in2 (ringMaster 2 { Tests.live with tlt := 2 ^ 48 - 1, sr := { nextE := 99 }, en := [(0, { pos := 77, vel := -9000000 })] }) ∧
    in4 (ringMaster 2 { Tests.live with tlt := 7999, sr := { nextE := 8 } }) ∧
    in4 (ringMember 3 2 { Tests.live with tlt := 7999 }) ∧
    in5 ({ Tests.live with ns := 9000, sr := { step := .discovery, stepEnd := 8999 } }.w F.SR_STAT_MASTER 1) ∧
    in3 (⟨0, 10, 0x52, 0x414243⟩) ([⟨0, 11, 0, 0⟩]) (⟨{}, false, 2, 7, none, false, false⟩) (ringMaster 2 { Tests.live with ns := 7000, tlt := 7000, sr := { lines := [⟨0, 10, 0x52, 0x414243⟩, ⟨0, 11, 0, 0⟩], nextE := 7 }, st := { tun := some ⟨{}, false, 2, 7, none, false, false⟩ } }) ∧
    in6 3 ({ e := 5, pos := 0x123456, vel := -5, up := true, stop := false }) 3 (frame (0xE2 :: (leBytes 5 5 ++ leBytes 6 0x123456 ++ leBytes 3 16777211))) (ringMember 3 2 { Tests.live with ns := 9000, tlt := 5010, sr := { watchdog := some 9004 } }) ∧
    in6 3 ({ e := 5, pos := 0x123456, vel := -5, up := true, stop := false }) 3 (frame (0xE2 :: (leBytes 5 5 ++ leBytes 6 0x123456 ++ leBytes 3 16777211))) (ringMember 3 2 { Tests.live with ns := 9000, tlt := 5010 }) ∧
    in7 3 ({ e := 5, pos := 0x123456, vel := -5, up := true, stop := false }) 3 (frame (0xE2 :: (leBytes 5 5 ++ leBytes 6 0x123456 ++ leBytes 3 16777211))) (ringMember 3 2 { Tests.live with ns := 9000, tlt := 5010, sr := { watchdog := some 9003 } }) ∧
    in8 3 ({ e := 5, pos := 0x123456, vel := -5, up := true, stop := false }) 3 (frame (0xE2 :: (leBytes 5 5 ++ leBytes 6 0x123456 ++ leBytes 3 16777211))) ((ringMember 3 2 { Tests.live with ns := 9004, tlt := 5010, sr := { watchdog := some 9003, last := { up := true } } }).w F.SR_CTL_AUTOJ 0) ∧
    in8 3 ({ e := 5, pos := 0x123456, vel := -5, up := true, stop := false }) 3 (frame (0xE2 :: (leBytes 5 5 ++ leBytes 6 0x123456 ++ leBytes 3 16777211))) ((ringMember 3 2 { Tests.live with ns := 9004, tlt := 5010, sr := { watchdog := some 9003 } }).w F.SR_CTL_AUTOJ 0) ∧
    in9 3 ({ e := 5, pos := 0x123456, vel := -5, up := true, stop := false }) 3 (frame (0xE2 :: (leBytes 5 5 ++ leBytes 6 0x123456 ++ leBytes 3 16777211))) ((ringMember 3 1 { Tests.live with ns := 9000, tlt := 4900, sr := { haveD := true }, bd := { wNow := 0 } }).w F.SR_DLY_D 100) ∧
    in10 3 ({ e := 5, pos := 0x123456, vel := -5, up := true, stop := false }) 3 (frame (0xE2 :: (leBytes 5 5 ++ leBytes 6 0x123456 ++ leBytes 3 16777211))) ((ringMember 3 2 { Tests.live with ns := 9000, tlt := 5008, sr := { haveD := true, loaded := true, small := 5 } }).w F.SR_DLY_D 3 |>.w F.SR_STAT_ALIGNED 1) ∧
    in10 3 ({ e := 5, pos := 0x123456, vel := -5, up := true, stop := false }) 3 (frame (0xE2 :: (leBytes 5 5 ++ leBytes 6 0x123456 ++ leBytes 3 16777211))) ((ringMember 3 2 { Tests.live with ns := 9000, tlt := 5001, sr := { haveD := true, loaded := true, small := 5, large := 2 } }).w F.SR_DLY_D 34 |>.w F.SR_STAT_ALIGNED 1) ∧
    in11 3 ({ e := 5, pos := 0x123456, vel := -5, up := true, stop := false }) 3 (frame (0xE2 :: (leBytes 5 5 ++ leBytes 6 0x123456 ++ leBytes 3 16777211))) ((ringMember 3 1 { Tests.live with ns := 9000, tlt := 5001, sr := { haveD := true, loaded := true, small := 7, large := 2 } }).w F.SR_DLY_D 34) ∧
    in12 3 ({ e := 5, pos := 0x123456, vel := -5, up := true, stop := false }) 3 (frame (0xE2 :: (leBytes 5 5 ++ leBytes 6 0x123456 ++ leBytes 3 16777211))) ((ringMember 3 2 { Tests.live with ns := 9000, tlt := 5009, sr := { haveD := true, loaded := true, small := 7, large := 3, watchdog := some 20000 } }).w F.SR_DLY_D 3 |>.w F.SR_STAT_ALIGNED 1 |>.w F.SR_CTL_AUTOJ 0) ∧
    in16 (frame (0xE2 :: (leBytes 5 5 ++ leBytes 6 0x123456 ++ leBytes 3 16777211))) 5 (ringMember 3 2 { Tests.live with ns := 9000 }) ∧
    in17 (frame (0xE2 :: (leBytes 5 5 ++ leBytes 6 0x123456 ++ leBytes 3 16777211))) ({ (ringMember 3 2 Tests.live) with ck := { ladder := .nap } }) ∧
    in17 (frame (0xE2 :: (leBytes 5 5 ++ leBytes 6 0x123456 ++ leBytes 3 16777211))) (Tests.live) ∧
    in13 3 ({ e := 5, pos := 0x123456, vel := 8388607, up := false, stop := true }) 3 (frame (0xE1 :: (leBytes 5 5 ++ leBytes 6 0x123456 ++ leBytes 3 8388607))) (ringMember 3 2 { Tests.live with ns := 9000, tlt := 5009, sr := { last := { up := true }, haveD := true, watchdog := some 20000 } }) ∧
    in14 3 ({ e := 100, pos := 0x123456, vel := -8388608, up := true, stop := true, rhl := true }) 3 (frame (0xE7 :: (leBytes 5 100 ++ leBytes 6 0x123456 ++ leBytes 3 8388608))) ((ringMember 3 5 { Tests.live with ns := 9000, tlt := 100009, sr := { join := true } }).w F.SR_STAT_ALIGNED 1) ∧
    in15 (bts (List.replicate 15 1 ++ [crc8 (List.replicate 15 1) + 1])) (List.replicate 15 1) (crc8 (List.replicate 15 1) + 1) (ringMember 3 2 { Tests.live with ns := 9000 }) ∧
    in18 3 9000 (ringMember 3 2 { Tests.live with ns := 9004, sr := { watchdog := some 9000, shownVel := 5 } }) ∧
    in19 3 9000 (⟨{}, false, 2, 7, none, false, false⟩) (ringMember 3 2 { Tests.live with ns := 9004, sr := { watchdog := some 9000, shownVel := 5, lines := [⟨3, 10, 0x52, 0x414243⟩, ⟨3, 11, 0, 0⟩] }, st := { tun := some ⟨{}, false, 2, 7, none, false, false⟩ } }) ∧
    in20 9000 (ringMaster 2 { Tests.live with ns := 9004, sr := { watchdog := some 9000, shownVel := 5 } }) ∧
    in21 3 9000 (ringMember 3 2 { Tests.live with ns := 8999, sr := { watchdog := some 9000, shownVel := 5 } }) ∧
    in21 3 9000 (ringMember 3 1 { Tests.live with ns := 9000, sr := { watchdog := some 9000, shownVel := 5 } }) ∧
    in21 3 9000 (Tests.live) ∧
    in22 15 ((Tests.live.w F.SR_CTL_EN 1)) ∧
    in22 0 ((Tests.live.w F.SR_CTL_EN 1)) ∧
    in23 15 ((ringMember 9 3 Tests.live)) ∧
    in24 ((Tests.live.w F.SR_CTL_EN 1)) ∧
    in25 ((ringMember 9 2 Tests.live)) ∧
    in26 15 (ringMaster 1 { Tests.live with ns := 9000, sr := { step := .discovery } }) ∧
    in26 1 (ringMaster 1 { Tests.live with ns := 9000, sr := { step := .discovery } }) ∧
    in27 15 (ringMember 15 1 Tests.live) ∧
    in27 15 (ringMember 15 2 Tests.live) ∧
    in28 (ringMaster 1 { Tests.live with ns := 9000, sr := { step := .measure, members := 3 } }) ∧
    in29 2 (ringMaster 1 { Tests.live with ns := 9000, sr := { step := .measure, members := 3, linkNow := 2, linksD := [7, 8] } }) := by
  refine ⟨?_, ?_, ?_, ?_, ?_, ?_, ?_, ?_, ?_, ?_, ?_, ?_, ?_, ?_, ?_, ?_, ?_, ?_, ?_, ?_, ?_, ?_, ?_, ?_, ?_, ?_, ?_, ?_, ?_, ?_, ?_, ?_, ?_, ?_, ?_, ?_, ?_, ?_, ?_, ?_⟩ <;> decide +kernel

theorem witness_SyncRing_1 :
    in30 2 (ringMaster 1 { Tests.live with ns := 9000, sr := { step := .measure, members := 2, linkNow := 2, linksD := [7, 8] } }) ∧
    in31 (ringMember 15 1 Tests.live) ∧
    in27 15 (ringMember 15 2 { Tests.live with sr := { loaded := true, small := 3 } }) ∧
    in33 3 15 (ringMember 3 2 { Tests.live with sr := { loaded := true, small := 3 } }) ∧
    in34 2 (ringMaster 2 { Tests.live with sr := { joins := [1, 2, 3] } }) ∧
    in35 2 (ringMaster 1 { Tests.live with ns := 9000, sr := { step := .align, members := 3, aligned := [3, 1] } }) ∧
    in36 2 (ringMaster 2 { Tests.live with sr := { joins := [1, 3] } }) ∧
    in37 2 ((ringMaster 2 { Tests.live with sr := { joins := [1, 3] } }).w F.SR_MEM_MEM 7) ∧
    in31 (ringMember 15 1 Tests.live) ∧
    in31 (ringMember 15 1 Tests.live) ∧
    in31 (ringMember 15 1 Tests.live) ∧
    in41 3 (ringMember 3 2 { Tests.live with sr := { admitted := true } }) ∧
    in42 3 (ringMember 3 3 { Tests.live with sr := { admitted := true } }) ∧
    in42 3 (ringMember 3 4 { Tests.live with sr := { admitted := true } }) ∧
    in43 3 (ringMember 3 2 Tests.live) ∧
    in44 (ringMaster 2 Tests.live) ∧
    in45 (Tests.live.w F.SR_CTL_EN 1) ∧
    in42 3 (ringMember 3 3 { Tests.live with sr := { admitted := true } }) ∧
    in42 3 (ringMember 3 4 { Tests.live with sr := { admitted := true } }) ∧
    in47 (ringMaster 2 Tests.live) ∧
    in47 (Tests.live) ∧
    in47 (ringMember 3 2 Tests.live) ∧
    in48 3 2 4294967295 63 ({ st := .set, f := 9, tfire := 4294967295999 }) (oneS 63 { st := .set, f := 9, tfire := 4294967295999 } (ws [(F.BD_CTL_RFOLLOW, 1), (F.SWF_CFG_SRC 9, 2)] (ringMember 3 2 Tests.live))) ∧
    in48 3 2 5 63 ({ st := .firing, f := 9, tfire := 5000 }) (oneS 63 { st := .firing, f := 9, tfire := 5000 } (ws [(F.BD_CTL_RFOLLOW, 1), (F.SWF_CFG_SRC 9, 2), (F.BD_QEN_CAUSE, 63)] (ringMember 3 2 Tests.live))) ∧
    in49 2 2 ((ringMember 2 2 Tests.live).w F.BD_CTL_RFOLLOW 1) ∧
    in49 3 2 (ringMember 3 2 Tests.live) ∧
    in50 3 2 0x33 true (ringMember 3 2 Tests.live) ∧
    in51 3 2 0xD3 (ringMember 3 2 Tests.live) ∧
    in52 3 2 0x63 0x4142 true ([65]) 1 (ringMember 3 2 { Tests.live with sr := { gather := [⟨2, true, 1, [65]⟩] } }) ∧
    in53 3 2 0x63 0x42412A4B true (ascii "#0007 @2 O") 1 (⟨{}, false, 2, 7, some 5000, false, false⟩) 5000 (ringMember 3 2 { Tests.live with st := { tun := some ⟨{}, false, 2, 7, some 5000, false, false⟩ }, sr := { gather := [⟨2, true, 1, ascii "#0007 @2 O"⟩] } }) ∧
    in54 3 2 0x63 true ([65]) 2 (ringMember 3 2 { Tests.live with sr := { gather := [⟨2, true, 2, [65]⟩] } }) ∧
    in55 3 2 0x64 (ringMember 3 2 { Tests.live with sr := { gather := [⟨2, true, 2, [65]⟩] } }) ∧
    in55 2 2 0x62 (ringMember 2 2 { Tests.live with sr := { gather := [⟨2, true, 2, [65]⟩] } }) ∧
    in56 3 (ringMember 3 2 { Tests.live with sr := { join := true } }) ∧
    in57 (ringMaster 2 Tests.live) ∧
    in57 (Tests.live) ∧
    in57 (ringMember 3 4 Tests.live) ∧
    in58 ((Tests.live.w F.SR_STAT_STATE 1 |> fun d => { d with ns := 9000, sr := { step := .align, stepEnd := 9000, members := 3, aligned := [1, 3], full := true } })) ∧
    in58 ({ Tests.live with ns := 9000, sr := { step := .align, stepEnd := 9000, members := 2, aligned := [1, 2] } }) ∧
    in59 ({ Tests.live with ns := 8999, sr := { step := .align, stepEnd := 9000, members := 2, aligned := [1, 2] } }) := by
  refine ⟨?_, ?_, ?_, ?_, ?_, ?_, ?_, ?_, ?_, ?_, ?_, ?_, ?_, ?_, ?_, ?_, ?_, ?_, ?_, ?_, ?_, ?_, ?_, ?_, ?_, ?_, ?_, ?_, ?_, ?_, ?_, ?_, ?_, ?_, ?_, ?_, ?_, ?_, ?_, ?_⟩ <;> decide +kernel

theorem witness_SyncRing_2 :
    in59 (Tests.live) ∧
    in60 ({ Tests.live with ns := 8999, tlt := 5999, sr := { answer := some 3, ctrl := [⟨1, 1, 1, 1⟩] } }) ∧
    in61 (ringMaster 0 Tests.live) ∧
    in61 (ringMember 3 3 Tests.live) ∧
    in62 (ringMaster 2 { Tests.live with sr := { watchdog := some 7 } }) ∧
    in62 (ringMaster 0 { Tests.live with sr := { watchdog := some 7 } }) ∧
    in63 (ringMember 3 2 Tests.live) := by
  refine ⟨?_, ?_, ?_, ?_, ?_, ?_, ?_⟩ <;> decide +kernel

end W_SyncRing

end Sys2Proof.Tests
end

section
/-! PROOFS. What a write of a register does: fields by their access codes, the block that performs the write, and the locked-write record. -/

namespace Sys2Proof.Proofs

open Sys2Proof.Machine Sys2Proof.Laws

/-! ### One field by its access code [00 R11, R12] -/

/-- What field `f` of a device reads once the word `v` is written to its register. -/
def fieldAfter (v : Nat) (d : Dev) (f : Fld) : Nat :=
  match f.acc with
  | .rw | .lk | .wo => bitsAt v f.lo f.width
  | .w1c => d.r f &&& (2 ^ f.width - 1 - bitsAt v f.lo f.width)
  | .ro | .w1s => d.r f

theorem bitsAt_lt (v lo n : Nat) : bitsAt v lo n < 2 ^ n := Nat.mod_lt _ (Nat.two_pow_pos n)

/-- The bits that a W1C write leaves: flipping `n` bits is subtracting from all ones. -/
theorem xor_ones {x n : Nat} (h : x < 2 ^ n) : x ^^^ (2 ^ n - 1) = 2 ^ n - 1 - x := by
  refine Nat.eq_of_testBit_eq fun i => ?_
  rw [show 2 ^ n - 1 - x = 2 ^ n - (x + 1) by omega, Nat.testBit_two_pow_sub_succ h, Nat.testBit_xor, Nat.testBit_two_pow_sub_one]
  by_cases hi : i < n
  · simp [hi]
  · simp [hi, Nat.testBit_lt_two_pow (h.trans_le (Nat.pow_le_pow_right (by decide) (Nat.le_of_not_lt hi)))]

theorem fieldWrite_r_same (v : Nat) (f : Fld) (d : Dev) : (fieldWrite v f d).r f = fieldAfter v d f := by
  unfold fieldWrite fieldAfter
  cases f.acc with
  | rw | lk | wo => simp [Nat.mod_eq_of_lt (bitsAt_lt v f.lo f.width)]
  | ro | w1s => rfl
  | w1c =>
    have hx := bitsAt_lt v f.lo f.width
    have fits : d.r f &&& (2 ^ f.width - 1 - bitsAt v f.lo f.width) < 2 ^ f.width := Nat.and_lt_two_pow _ (by omega)
    simp only [r_w_same, xor_ones hx, Nat.mod_eq_of_lt fits]

theorem fieldWrite_r_other (v : Nat) {f g : Fld} (d : Dev) (h : g.key ≠ f.key) : (fieldWrite v f d).r g = d.r g := by
  unfold fieldWrite
  cases f.acc with
  | rw | lk | wo | w1c => exact r_w_other d _ h
  | ro | w1s => rfl

theorem fieldWrite_frame (v : Nat) (f : Fld) (d : Dev) : fieldWrite v f d = { d with regs := (fieldWrite v f d).regs } := by
  unfold fieldWrite
  cases f.acc <;> rfl

theorem fieldAfter_congr (v : Nat) {d e : Dev} {f : Fld} (h : e.r f = d.r f) : fieldAfter v e f = fieldAfter v d f := by
  unfold fieldAfter
  rw [h]

/-! ### The fields of a register, one after the other -/

theorem fieldWrites_r_other (v : Nat) {g : Fld} (fs : List Fld) (d : Dev) (h : g.key ∉ fs.map Fld.key) :
    (fs.foldl (fun d f => fieldWrite v f d) d).r g = d.r g := by
  induction fs generalizing d with
  | nil => rfl
  | cons f fs ih =>
    obtain ⟨hf, hfs⟩ := not_or.mp (mt List.mem_cons.mpr h)
    rw [List.foldl_cons, ih _ hfs, fieldWrite_r_other v d hf]

/-- Fields held under different numbers do not disturb each other: each takes what its own access code says. -/
theorem fieldWrites_r_mem (v : Nat) {g : Fld} (fs : List Fld) (d : Dev) (apart : (fs.map Fld.key).Nodup) (h : g ∈ fs) :
    (fs.foldl (fun d f => fieldWrite v f d) d).r g = fieldAfter v d g := by
  induction fs generalizing d with
  | nil => cases h
  | cons f fs ih =>
    obtain ⟨hf, hfs⟩ := List.nodup_cons.mp apart
    rw [List.foldl_cons]
    rcases List.mem_cons.mp h with rfl | hg
    · rw [fieldWrites_r_other v fs _ hf, fieldWrite_r_same]
    · have hgf : g.key ≠ f.key := fun e => hf (e ▸ List.mem_map_of_mem hg)
      rw [ih _ hfs hg, fieldAfter_congr v (fieldWrite_r_other v d hgf)]

theorem fieldWrites_frame (v : Nat) (fs : List Fld) (d : Dev) :
    fs.foldl (fun d f => fieldWrite v f d) d = { d with regs := (fs.foldl (fun d f => fieldWrite v f d) d).regs } := by
  induction fs generalizing d with
  | nil => rfl
  | cons f fs ih =>
    rw [List.foldl_cons, ih, fieldWrite_frame v f d]

/-- A plain write of a register whose fields are held under different numbers. -/
theorem plainWrite_r_mem {a : Nat} (v : Nat) (d : Dev) {f : Fld} (apart : ((fldsAt a).map Fld.key).Nodup) (h : f ∈ fldsAt a) :
    (plainWrite a v d).r f = fieldAfter v d f := fieldWrites_r_mem v _ d apart h

theorem plainWrite_sameRegs (a v : Nat) (d : Dev) : SameRegs (fldsAt a) d (plainWrite a v d) :=
  fun _ h => fieldWrites_r_other v _ d h

theorem plainWrite_frame (a v : Nat) (d : Dev) : plainWrite a v d = { d with regs := (plainWrite a v d).regs } :=
  fieldWrites_frame v _ d

theorem plainWrite_noFields {a : Nat} (v : Nat) (d : Dev) (h : fldsAt a = []) : plainWrite a v d = d := by
  simp [plainWrite, h]

/-! ### The block that performs a write [09 R178, R179] -/

/-- Registers without an effect of their own, of the blocks CK, SYS, SW, DR, BD, HP and core control. -/
def plainRegs : List Nat :=
  [0x40000014, 0x40000018, 0x4000001C, 0x40000028, 0x40001044, 0x40001010, 0x4000C004, 0x4000C01C, 0x4000C020, 0x4000D004, 0x400180C8, 0x40019804,
    0xE0000010]

theorem plainRegs_lt {a : Nat} (h : a ∈ plainRegs) : a < 2 ^ 32 := by
  revert a; decide

theorem plainRegs_apart {a : Nat} (h : a ∈ plainRegs) : ((fldsAt a).map Fld.key).Nodup := by
  revert a; decide +kernel

theorem busWrite_plainRegs {a : Nat} (v : Nat) (d : Dev) (h : a ∈ plainRegs) : busWrite a v d = plainWrite a v d := by
  simp only [plainRegs, List.mem_cons, List.not_mem_nil, or_false] at h
  rcases h with rfl | rfl | rfl | rfl | rfl | rfl | rfl | rfl | rfl | rfl | rfl | rfl | rfl <;> rfl

/-- In the CK block the registers at 0, 8 and 0xC are not plain, and each holds a field. -/
theorem ckWrite_noFields {a : Nat} (v : Nat) (d : Dev) (page : a / 0x1000 = 0x40000) (empty : fldsAt a = []) : ckWrite a v d = d := by
  have named : a ≠ 0x40000000 ∧ a ≠ 0x40000008 ∧ a ≠ 0x4000000C := by
    refine ⟨?_, ?_, ?_⟩ <;> (rintro rfl; revert empty; decide)
  unfold ckWrite
  split
  case h_4 => exact plainWrite_noFields v d empty
  all_goals omega

theorem busWrite_ck {a : Nat} (v : Nat) (d : Dev) (page : a / 0x1000 = 0x40000) : busWrite a v d = ckWrite a v d := by
  simp [busWrite, page]

theorem busWrite_tp {a : Nat} (v : Nat) (d : Dev) (page : a / 0x1000 = 0x40004) : busWrite a v d = plainWrite a v d := by
  simp [busWrite, page]

theorem busWrite_core {a : Nat} (v : Nat) (d : Dev) (page : a / 0x1000 = 0xE0000) : busWrite a v d = coreWrite a v d := by
  simp [busWrite, page]

/-- Between the channel array and the core control space there is no block. -/
theorem busWrite_noBlock {a : Nat} (v : Nat) (d : Dev) (lo : 0x40021000 ≤ a) (hi : a < 0xE0000000) : busWrite a v d = d := by
  unfold busWrite
  split
  case h_26 => exact if_neg (by omega)
  all_goals omega

/-! ### The locked-write record [09 R183, R184] -/

theorem ckWrite_cfgLocked (v : Nat) {d : Dev} (h : d.bt.cfgLocked = true) : ckWrite 0x40000000 v d = d.lockV Tag.ck 0x40000000 := by
  simp [ckWrite, h]

theorem coreWrite_guardLocked {a : Nat} (v : Nat) {d : Dev} (lo : 0xE0000200 ≤ a) (hi : a < 0xE0000240) (h : d.r F.GUARD_LOCK_LOCK = 1) :
    coreWrite a v d = d.lockV Tag.co a := by
  have page : 0x200 ≤ a % 0x1000 ∧ a % 0x1000 < 0x240 := by omega
  have locked : d.b F.GUARD_LOCK_LOCK = true := by simp [Dev.b, h]
  unfold coreWrite
  simp only
  rw [if_neg (by omega), if_neg (by omega), if_neg (by omega), if_pos ⟨page.1, page.2, locked⟩]

section

variable (d : Dev) (t a : Nat)

/-- The record's register fields, before a bit that rises is noted. -/
theorem lockV_regs : (d.lockV t a).regs =
    ((if d.r F.SYS_LOCKV_TAG = 0 then d.w F.SYS_LOCKA_ADDR a else d.set F.SYS_LOCKV_MULTI).orBit F.SYS_LOCKV_TAG t).regs := by
  unfold Dev.lockV
  simp only
  split <;> rfl

theorem lockV_r_other {f : Fld} (h : f.key ∉ [F.SYS_LOCKV_TAG, F.SYS_LOCKV_MULTI, F.SYS_LOCKA_ADDR].map Fld.key) : (d.lockV t a).r f = d.r f := by
  simp only [List.map_cons, List.map_nil, List.mem_cons, List.not_mem_nil, or_false, not_or] at h
  obtain ⟨tag, multi, addr⟩ := h
  rw [r_congr (lockV_regs d t a), Dev.orBit, r_w_other _ _ tag]
  split
  · exact r_w_other d _ addr
  · exact r_w_other d _ multi

theorem lockV_tag (h : t < F.SYS_LOCKV_TAG.width) : bitAt ((d.lockV t a).r F.SYS_LOCKV_TAG) t = true := by
  rw [r_congr (lockV_regs d t a), Dev.orBit, r_w_same, bitAt, Nat.testBit_mod_two_pow, Nat.testBit_or, Nat.testBit_two_pow_self]
  simp [h]

theorem lockV_addr : (d.lockV t a).r F.SYS_LOCKA_ADDR = if d.r F.SYS_LOCKV_TAG = 0 then a % 2 ^ 32 else d.r F.SYS_LOCKA_ADDR := by
  rw [r_congr (lockV_regs d t a), Dev.orBit, r_w_other _ _ (by decide)]
  split
  · exact r_w_same d _ a
  · exact r_w_other d _ (by decide)

theorem lockV_multi : (d.lockV t a).r F.SYS_LOCKV_MULTI = if d.r F.SYS_LOCKV_TAG = 0 then d.r F.SYS_LOCKV_MULTI else 1 := by
  rw [r_congr (lockV_regs d t a), Dev.orBit, r_w_other _ _ (by decide)]
  split
  · exact r_w_other d _ (by decide)
  · exact r_w_same d _ 1

theorem lockV_frame : d.lockV t a = { d with regs := (d.lockV t a).regs, st := { d.st with rose := (d.lockV t a).st.rose } } := by
  unfold Dev.lockV
  simp only
  split <;> split <;> rfl

end

theorem busWrite_locked {a v : Word} {g : Nat} {d : Dev}
    (reg : (a = 0x40000000 ∧ g = Tag.ck) ∨ (0xE0000200 ≤ a.toNat ∧ a.toNat < 0xE0000240 ∧ g = Tag.co))
    (locked : if g = Tag.ck then d.bt.cfgLocked = true else d.r F.GUARD_LOCK_LOCK = 1) : busWrite a.toNat v.toNat d = d.lockV g a.toNat := by
  rcases reg with ⟨rfl, rfl⟩ | ⟨lo, hi, rfl⟩
  · exact (busWrite_ck _ d (by decide)).trans (ckWrite_cfgLocked _ locked)
  · exact (busWrite_core _ d (by omega)).trans (coreWrite_guardLocked _ lo hi locked)

/-! ### The command REGISTER_WRITE -/

theorem exec_registerWrite (a v : Word) (s : State) : exec (.registerWrite a v) s = .next { s with dev := busWrite a.toNat v.toNat s.dev } := rfl

theorem registerWrite_does {a v : Word} {P : Dev → Prop} {Q : Dev → Dev → Prop} (h : ∀ d, P d → Q d (busWrite a.toNat v.toNat d)) :
    Does (.registerWrite a v) P Q :=
  fun s hs => ⟨_, exec_registerWrite a v s, rfl, h s.dev hs⟩

theorem registerWrite_next {a v : Word} {s : State} (h : busWrite a.toNat v.toNat s.dev = s.dev) : exec (.registerWrite a v) s = .next s := by
  rw [exec_registerWrite, h]

theorem registerWrite_keeps {a v : Word} (h : ∀ d, busWrite a.toNat v.toNat d = d) : Runs (.registerWrite a v) (fun _ => True) (fun d => d) :=
  fun s _ => registerWrite_next (h s.dev)

/-- A write that acts on the device as the command `c` does is the command `c`. -/
theorem registerWrite_eq_command {a v : Word} {c : Instr} (f : Dev → Dev) {s : State} (command : exec c s = onDev f s)
    (h : busWrite a.toNat v.toNat s.dev = f s.dev) : exec (.registerWrite a v) s = exec c s := by
  rw [exec_registerWrite, command, onDev, h]

theorem plainRegs_write {a : Nat} (v : Word) (h : a ∈ plainRegs) :
    Does (.registerWrite (BitVec.ofNat 32 a) v) (fun _ => True) (fun d t =>
      (∀ f ∈ fldsAt a, t.r f = fieldAfter v.toNat d f) ∧ SameRegs (fldsAt a) d t ∧ t = { d with regs := t.regs }) := by
  refine registerWrite_does fun d _ => ?_
  rw [BitVec.toNat_ofNat, Nat.mod_eq_of_lt (plainRegs_lt h), busWrite_plainRegs _ d h]
  exact ⟨fun f hf => plainWrite_r_mem _ d (plainRegs_apart h) hf, plainWrite_sameRegs a _ d, plainWrite_frame a _ d⟩

theorem noFields_write {a : Word} (v : Word) (page : a.toNat / 0x1000 = 0x40000 ∨ a.toNat / 0x1000 = 0x40004) (empty : fldsAt a.toNat = []) :
    Runs (.registerWrite a v) (fun _ => True) (fun d => d) := by
  refine registerWrite_keeps fun d => ?_
  rcases page with ck | tp
  · rw [busWrite_ck _ d ck, ckWrite_noFields _ d ck empty]
  · rw [busWrite_tp _ d tp, plainWrite_noFields _ d empty]

theorem locked_write (a v : Word) (g : Nat)
    (reg : (a = 0x40000000 ∧ g = Tag.ck) ∨ (0xE0000200 ≤ a.toNat ∧ a.toNat < 0xE0000240 ∧ g = Tag.co)) :
    Does (.registerWrite a v) (fun d => if g = Tag.ck then d.bt.cfgLocked = true else d.r F.GUARD_LOCK_LOCK = 1) (fun d t =>
      bitAt (t.r F.SYS_LOCKV_TAG) g = true ∧
      (d.r F.SYS_LOCKV_TAG = 0 → t.r F.SYS_LOCKA_ADDR = a.toNat ∧ t.r F.SYS_LOCKV_MULTI = d.r F.SYS_LOCKV_MULTI) ∧
      (d.r F.SYS_LOCKV_TAG ≠ 0 → t.r F.SYS_LOCKA_ADDR = d.r F.SYS_LOCKA_ADDR ∧ t.r F.SYS_LOCKV_MULTI = 1) ∧
      SameRegs [F.SYS_LOCKV_TAG, F.SYS_LOCKV_MULTI, F.SYS_LOCKA_ADDR] d t ∧
      t = { d with regs := t.regs, st := { d.st with rose := t.st.rose } }) := by
  refine registerWrite_does fun d locked => ?_
  have tagged : g < F.SYS_LOCKV_TAG.width := by
    rcases reg with ⟨-, rfl⟩ | ⟨-, -, rfl⟩ <;> decide
  rw [busWrite_locked reg locked]
  refine ⟨lockV_tag d g _ tagged, fun untagged => ⟨?_, ?_⟩, fun taken => ⟨?_, ?_⟩, fun f hf => lockV_r_other d g _ hf, lockV_frame d g _⟩
  · rw [lockV_addr, if_pos untagged, Nat.mod_eq_of_lt a.isLt]
  · rw [lockV_multi, if_pos untagged]
  · rw [lockV_addr, if_neg taken]
  · rw [lockV_multi, if_neg taken]

/-! ### The command registers -/

theorem busWrite_sysRst (v : Nat) (d : Dev) : busWrite 0x40001060 v d = if v % 65536 = 0x5EB0 then softReset 0 d else d := rfl
theorem busWrite_otCmd (v : Nat) (d : Dev) : busWrite 0x40002000 v d = otCommand (v % 16) false d := rfl
theorem busWrite_kyCmd (v : Nat) (d : Dev) : busWrite 0x40003000 v d = kyCommand (v % 16) d := rfl
theorem busWrite_ckRoot (v : Nat) (d : Dev) : busWrite 0x40000008 v d = ckRootSelWrite (v % 2) d := rfl
theorem busWrite_coreVset (v : Nat) (d : Dev) : busWrite 0xE0000020 v d = vsetWrite v d := rfl
theorem busWrite_spCqc (v : Nat) (d : Dev) : busWrite 0x40008008 v d = cqPush v d := rfl
theorem busWrite_grPte (v : Nat) (d : Dev) : busWrite 0x4000E018 v d = grPteWrite v d := rfl
theorem busWrite_grCnt (v : Nat) (d : Dev) : busWrite 0x4000E028 v d = grCntClear d := rfl

/-- Settles O22: a plain register goes field by field, a word without fields folds over nothing, a locked register reaches only the locked-write
record, and a command register's write is the device function of its command. -/
theorem registerWrites : Obligations.RegisterWrites := by
  unfold Obligations.RegisterWrites
  refine ⟨fun a v plain => plainRegs_write v plain, fun a v page empty => noFields_write v page empty,
    fun a v lo hi => registerWrite_keeps fun d => busWrite_noBlock _ d lo hi, locked_write, fun s v => ⟨?_, ?_, ?_, ?_, ?_, ?_, ?_, ?_, ?_⟩⟩
  · exact fun key => registerWrite_eq_command (softReset 0) rfl ((busWrite_sysRst _ _).trans (if_pos key))
  · exact fun key => registerWrite_next ((busWrite_sysRst _ _).trans (if_neg key))
  · exact fun code => registerWrite_eq_command (otCommand 9 false) rfl ((busWrite_otCmd _ _).trans (by rw [code]))
  · exact fun code => registerWrite_eq_command (kyCommand 6) rfl ((busWrite_kyCmd _ _).trans (by rw [code]))
  · exact fun sel => registerWrite_eq_command (ckRootSelWrite 1) rfl ((busWrite_ckRoot _ _).trans (by rw [sel]))
  · exact registerWrite_eq_command (vsetWrite v.toNat) rfl (busWrite_coreVset _ _)
  · exact registerWrite_eq_command (cqPush v.toNat) rfl (busWrite_spCqc _ _)
  · exact registerWrite_eq_command (grPteWrite v.toNat) rfl (busWrite_grPte _ _)
  · exact registerWrite_eq_command grCntClear rfl (busWrite_grCnt _ _)

end Sys2Proof.Proofs
end

section
/-! PROOFS. A command that changes the device alone, and the core's window on the pattern RAM [01 R19; 17 R342]. -/

namespace Sys2Proof.Proofs

open Sys2Proof.Machine Sys2Proof.Laws

/-! ### A command that is a function of the device -/

theorem onDev_congr {g f : Dev → Dev} {s : State} (h : g s.dev = f s.dev) : onDev g s = onDev f s := by rw [onDev, onDev, h]

theorem runs_of_onDev {c : Instr} {g f : Dev → Dev} {P : Dev → Prop} (command : ∀ s, exec c s = onDev g s) (h : ∀ d, P d → g d = f d) : Runs c P f :=
  fun s hs => by rw [command, onDev, h s.dev hs]

theorem does_of_onDev {c : Instr} {g : Dev → Dev} {P : Dev → Prop} {Q : Dev → Dev → Prop} (command : ∀ s, exec c s = onDev g s)
    (h : ∀ d, P d → Q d (g d)) : Does c P Q :=
  fun s hs => ⟨_, command s, rfl, h s.dev hs⟩

/-! ### The window's addresses [09 Table AS-1] -/

/-- The address of the word of the pattern RAM at offset `o` of the window. -/
def windowAddr (o : BitVec 19) : Nat := 0x30000000 + o.toNat / 4 * 4

theorem windowAddr_bounds (o : BitVec 19) : 0x30000000 ≤ windowAddr o ∧ windowAddr o < 0x30080000 := by
  unfold windowAddr; omega

theorem windowAddr_plot (o : BitVec 19) : (windowAddr o - 0x30000000) / 1024 = o.toNat / 1024 := by
  unfold windowAddr; omega

theorem busRead_window {a : Nat} (d : Dev) (h : 0x30000000 ≤ a ∧ a < 0x30080000) : busRead a d = windowRead a d := by
  unfold busRead
  simp only
  iterate 12 rw [if_neg (by omega)]
  exact if_pos h

theorem busWrite_window {a : Nat} (v : Nat) (d : Dev) (h : 0x30000000 ≤ a ∧ a < 0x30080000) : busWrite a v d = windowWrite a v d := by
  unfold busWrite
  split
  case h_26 => exact if_pos h
  all_goals omega

theorem patternWindow_eq (write : Bool) (o : BitVec 19) (v : Nat) (d : Dev) :
    patternWindow write o.toNat v d = if write then busWrite (windowAddr o) v d else busRead (windowAddr o) d := by
  unfold patternWindow windowAddr
  rw [Nat.mod_eq_of_lt o.isLt]

/-! ### What a read and a write do at a plot that the core reaches, and at one that it does not -/

theorem windowOpen_iff (d : Dev) (p : Nat) : windowOpen d p = true ↔ d.r F.GR_CTL_CPUWIN ≠ 0 ∧ (d.pl p).pin = false ∧ useOf d p = false := by
  simp [windowOpen, Dev.b, and_assoc]

section

variable {d : Dev} {o : BitVec 19}

theorem busRead_resident (reach : windowOpen d (o.toNat / 1024) = true) (filled : (d.pl (o.toNat / 1024)).st = .resident) :
    busRead (windowAddr o) d = { d with rd := d.load 4 (windowAddr o) } := by
  rw [busRead_window d (windowAddr_bounds o)]
  simp [windowRead, windowAddr_plot, reach, filled]

theorem busRead_unfilled (reach : windowOpen d (o.toNat / 1024) = true) (empty : (d.pl (o.toNat / 1024)).st ≠ .resident) :
    busRead (windowAddr o) d = { d with rd := (Config.plotContents d.draws).toNat, draws := d.draws + 1 } := by
  rw [busRead_window d (windowAddr_bounds o)]
  simp [windowRead, windowAddr_plot, reach, empty, Dev.draw]

theorem busRead_unreached (shut : windowOpen d (o.toNat / 1024) = false) : busRead (windowAddr o) d = { d with rd := 0 } := by
  rw [busRead_window d (windowAddr_bounds o)]
  simp [windowRead, windowAddr_plot, shut]

theorem busWrite_reached (v : Nat) (reach : windowOpen d (o.toNat / 1024) = true) : busWrite (windowAddr o) v d = d.store 4 (windowAddr o) v := by
  rw [busWrite_window v d (windowAddr_bounds o)]
  simp [windowWrite, windowAddr_plot, reach]

theorem busWrite_unreached (v : Nat) (shut : windowOpen d (o.toNat / 1024) = false) : busWrite (windowAddr o) v d = d := by
  rw [busWrite_window v d (windowAddr_bounds o)]
  simp [windowWrite, windowAddr_plot, shut]

end

theorem exec_windowRead (o : BitVec 19) (v : Word) (s : State) : exec (.patternWindowAccess false o v) s = onDev (busRead (windowAddr o)) s :=
  onDev_congr (g := patternWindow false o.toNat v.toNat) (patternWindow_eq false o v.toNat s.dev)

theorem exec_windowWrite (o : BitVec 19) (v : Word) (s : State) :
    exec (.patternWindowAccess true o v) s = onDev (busWrite (windowAddr o) v.toNat) s :=
  onDev_congr (g := patternWindow true o.toNat v.toNat) (patternWindow_eq true o v.toNat s.dev)

/-- Settles O23: the command is the core's own bus access at the word's address, and that access asks whether the window is open on the plot. -/
theorem patternWindow : Obligations.PatternWindow := by
  unfold Obligations.PatternWindow
  intro o v a reach filled
  have opens (d : Dev) : reach d → windowOpen d (o.toNat / 1024) = true := (windowOpen_iff d _).mpr
  have shuts (d : Dev) (h : ¬ reach d) : windowOpen d (o.toNat / 1024) = false := Bool.eq_false_iff.mpr (mt (windowOpen_iff d _).mp h)
  refine ⟨runs_of_onDev (exec_windowRead o v) fun d h => busRead_resident (opens d h.1) h.2,
    does_of_onDev (exec_windowRead o v) fun d h => ?_,
    runs_of_onDev (exec_windowRead o v) fun d h => busRead_unreached (shuts d h),
    runs_of_onDev (exec_windowWrite o v) fun d h => busWrite_reached _ (opens d h),
    runs_of_onDev (exec_windowWrite o v) fun d h => busWrite_unreached _ (shuts d h),
    does_of_onDev (exec_windowWrite o v) fun d h => ?_, fun d h => ⟨fun full => ?_, busWrite_reached _ (opens d h)⟩,
    fun d h => ⟨?_, busWrite_unreached _ (shuts d h)⟩⟩
  · rw [busRead_unfilled (opens d h.1) h.2]
    exact ⟨(Config.plotContents d.draws).isLt, rfl⟩
  · rw [busWrite_reached _ (opens d h)]
    exact ⟨(load_store_same 4 d a v.toNat).trans (Nat.mod_eq_of_lt v.isLt), fun x hx => byte_store_other 4 d a v.toNat x hx⟩
  · exact congrArg Dev.rd (busRead_resident (opens d h) full)
  · exact congrArg Dev.rd (busRead_unreached (shuts d h))

end Sys2Proof.Proofs
end

section
/-! PROOFS. Laws of the serial memory port: the bus and who takes it, the command queue, a run's end, and a select that goes out of service [13]. -/

namespace Sys2Proof.Proofs

open Sys2Proof.Machine Sys2Proof.Laws

/-! ### Register fields beside the port's own state -/

@[simp] theorem onSp_r (d : Dev) (g : Serial → Serial) (f : Fld) : (d.onSp g).r f = d.r f := rfl
@[simp] theorem onSp_b (d : Dev) (g : Serial → Serial) (f : Fld) : (d.onSp g).b f = d.b f := rfl

theorem set_r_same (d : Dev) {f : Fld} (h : f.width = 1) : (d.set f).r f = 1 := by simp [Dev.set, h]

theorem set_r_other (d : Dev) {f g : Fld} (h : g.key ≠ f.key) : (d.set f).r g = d.r g := r_w_other d 1 h

theorem clr_r_same (d : Dev) (f : Fld) : (d.clr f).r f = 0 := by rw [Dev.clr, r_w_same, Nat.zero_mod]

theorem clr_r_other (d : Dev) {f g : Fld} (h : g.key ≠ f.key) : (d.clr f).r g = d.r g := r_w_other d 0 h

theorem b_of_ne {d : Dev} {f : Fld} (h : d.r f ≠ 0) : d.b f = true := decide_eq_true h

theorem b_of_zero {d : Dev} {f : Fld} (h : d.r f = 0) : d.b f = false := by simp [Dev.b, h]

/-- Fields of different registers are held under different numbers. -/
theorem key_ne_of_addr {f g : Fld} (h : g.addr ≠ f.addr) (hf : f.lo < 32) (hg : g.lo < 32) : g.key ≠ f.key := by
  unfold Fld.key; omega

theorem sameRegs_w (d : Dev) (f : Fld) (v : Nat) : SameRegs [f] d (d.w f v) :=
  fun _ h => r_w_other d v fun e => h (by simp [e])

theorem sameRegs_of_regs (fs : List Fld) {d t : Dev} (h : t.regs = d.regs) : SameRegs fs d t := fun f _ => r_congr h f

theorem sameRegs_append {fs gs : List Fld} {d e t : Dev} (h : SameRegs fs d e) (k : SameRegs gs e t) : SameRegs (fs ++ gs) d t := by
  intro f hf
  rw [List.map_append, List.mem_append, not_or] at hf
  rw [k f hf.2, h f hf.1]

theorem sameRegs_congr {fs gs : List Fld} {d t : Dev} (h : SameRegs fs d t) (sub : ∀ k ∈ fs.map Fld.key, k ∈ gs.map Fld.key) : SameRegs gs d t :=
  fun f hf => h f (mt (sub f.key) hf)

theorem coin_bit (d : Dev) {t : Nat} (h : t < F.SYS_COIN_TAG.width) : bitAt ((d.coin t).r F.SYS_COIN_TAG) t = true := by
  rw [Dev.coin, Dev.orBit, r_w_same, bitAt, Nat.testBit_mod_two_pow, Nat.testBit_or, Nat.testBit_two_pow_self]
  simp [h]

/-! ### The bus [13 R252] -/

/-- The time from which select `n` may fall: now, or the end of its deselect time. -/
def selFree (d : Dev) (n : Nat) : Nat :=
  match Tab.get? d.sp.rose n with
  | some x => max d.ns (x + (d.r (F.SP_SEL_DESEL n) + 1) * msck d n)
  | none => d.ns

/-- The transfer that the bus carries once `op` has taken it. -/
def busOf (op : Xfer) (n owner clocks period : Nat) (sends : List Nat) (d : Dev) : BusOp :=
  ⟨op, n, owner, selFree d n, selFree d n + (clocks + 1) * period, period, sends⟩

theorem takeBus_eq (op : Xfer) (n owner clocks period : Nat) (sends : List Nat) (d : Dev) :
    takeBus op n owner clocks period sends d =
      d.onSp fun s => { s with bus := some (busOf op n owner clocks period sends d), held := none } := by
  unfold takeBus busOf selFree
  cases Tab.get? d.sp.rose n with
  | none => simp only [Nat.max_zero]
  | some x => rfl

/-- What the start of a transfer on select `n` depends on, and what no grant changes, is in `e` as in `d`. -/
structure SameForBus (n : Nat) (d e : Dev) : Prop where
  ns : e.ns = d.ns
  rose : e.sp.rose = d.sp.rose
  desel : e.r (F.SP_SEL_DESEL n) = d.r (F.SP_SEL_DESEL n)
  div : e.r (F.SP_SEL_DIV n) = d.r (F.SP_SEL_DIV n)
  mem : e.mem = d.mem
  co : e.co = d.co

theorem SameForBus.refl (n : Nat) (d : Dev) : SameForBus n d d := ⟨rfl, rfl, rfl, rfl, rfl, rfl⟩

theorem selFree_congr {n : Nat} {d e : Dev} (h : SameForBus n d e) : selFree e n = selFree d n := by
  simp only [selFree, msck, h.ns, h.rose, h.desel, h.div]

/-- The bus carries `op`, no run waits any more, and memory and the core are as they were. -/
def Granted (op : Xfer) (n owner clocks period : Nat) (sends : List Nat) (d t : Dev) : Prop :=
  t.sp.held = none ∧ t.mem = d.mem ∧ t.co = d.co ∧ t.sp.bus = some (busOf op n owner clocks period sends d)

theorem takeBus_granted {n : Nat} {d e : Dev} (same : SameForBus n d e) (op : Xfer) (owner clocks period : Nat) (sends : List Nat) :
    Granted op n owner clocks period sends d (takeBus op n owner clocks period sends e) := by
  rw [takeBus_eq]
  exact ⟨rfl, same.mem, same.co, by simp only [onSp_sp, busOf, selFree_congr same]⟩

/-! ### The command queue [13 R254, R262] -/

theorem cqFeed_none {d : Dev} (h : d.sp.feed = []) : cqFeed d = d := by
  have cq : d.sp.cq ++ d.sp.feed.take (16 - d.sp.cq.length) = d.sp.cq := by simp [h]
  have feed : d.sp.feed.drop (16 - d.sp.cq.length) = d.sp.feed := by simp [h]
  unfold cqFeed Dev.onSp
  beta_reduce
  rw [cq, feed]

/-- The queue without its oldest entry. -/
def dequeued (s : Serial) : Serial := { s with cq := s.cq.tail, disc := s.disc.map fun x => { x with before := x.before - 1 } }

theorem cqTake_plain {d : Dev} (lost : d.sp.lost = none) (feed : d.sp.feed = []) : cqTake d = d.onSp dequeued := by
  have h : cqTake d = cqFeed (d.onSp dequeued) := by
    unfold cqTake
    simp only [onSp_sp, lost]
    rfl
  rw [h, cqFeed_none (by simpa [dequeued] using feed)]

/-- The push refused in this very cycle joins the queue after the removal, and its CQFULL is taken back. -/
theorem cqTake_refusedNow {d : Dev} {x : CqEntry} {was : Bool} (lost : d.sp.lost = some (d.ns, x, was)) (feed : d.sp.feed = []) :
    cqTake d = ((d.onSp dequeued).w F.SP_STAT_CQFULL (bit was)).onSp fun s => { s with cq := s.cq ++ [x], lost := none } := by
  have h : cqTake d = cqFeed (((d.onSp dequeued).w F.SP_STAT_CQFULL (bit was)).onSp fun s => { s with cq := s.cq ++ [x], lost := none }) := by
    unfold cqTake
    simp only [onSp_sp, lost, Dev.ties, onSp_ns, decide_true, if_true]
    rfl
  rw [h, cqFeed_none (by simpa [dequeued] using feed)]

theorem cqTake_sameForBus {d : Dev} (n : Nat) (feed : d.sp.feed = []) (lost : d.sp.lost = none ∨ ∃ x was, d.sp.lost = some (d.ns, x, was)) :
    SameForBus n d (cqTake d) := by
  rcases lost with none | ⟨x, was, now⟩
  · rw [cqTake_plain none feed]
    exact ⟨rfl, rfl, rfl, rfl, rfl, rfl⟩
  · have apart {f : Fld} (h : F.SP_STAT_CQFULL.addr < f.addr) (lo : f.lo < 32) : f.key ≠ F.SP_STAT_CQFULL.key :=
      key_ne_of_addr (Nat.ne_of_gt h) (by decide) lo
    have addr : F.SP_STAT_CQFULL.addr < 0x40008040 + 16 * n := by simp only [F.SP_STAT_CQFULL]; omega
    rw [cqTake_refusedNow now feed]
    exact ⟨rfl, rfl, r_w_other _ _ (apart addr (by simp [F.SP_SEL_DESEL])), r_w_other _ _ (apart addr (by simp [F.SP_SEL_DIV])), rfl, rfl⟩

/-! ### A run that waits for its continuation [13 R256] -/

theorem continueTimeout_free {d : Dev} (h : d.sp.held = none) : continueTimeout d = d := by simp [continueTimeout, h]

theorem continueTimeout_early {d : Dev} {h : Held} (held : d.sp.held = some h) (early : d.pclk d.ns ≤ d.pclk h.stop) : continueTimeout d = d := by
  simp [continueTimeout, held, Dev.over, Nat.not_lt.mpr early]

theorem continueTimeout_late {d : Dev} {h : Held} (held : d.sp.held = some h) (late : d.pclk h.stop < d.pclk d.ns) :
    continueTimeout d = runEnd h.last true h.stop d := by
  simp [continueTimeout, held, Dev.over, late]

theorem heldTry_free {d : Dev} (h : d.sp.held = none) : heldTry d = d := by simp [heldTry, h]

/-- The oldest entry, on the select held and ready, starts at once. -/
theorem continueRun_next {d : Dev} {c e : CqEntry} {period t : Nat} (old : oldestRun d = some c) (sel : c.sel = e.sel) (ready : entryReady d c = true) :
    continueRun e period t d =
      (cqTake d).onSp fun s => { s with bus := some ⟨.run c, c.sel, 4, t, t + c.clocks * period, period, c.sends⟩, held := none } := by
  simp [continueRun, old, sel, ready]

/-- In the PCLK cycle of the timeout a continuation that can start does, and the tie is recorded. -/
theorem heldTry_ties {d : Dev} {c : CqEntry} {h : Held} (held : d.sp.held = some h) (en : d.r F.SP_CTL_EN = 1) (old : oldestRun d = some c)
    (sel : c.sel = h.last.sel) (ready : entryReady d c = true) (tie : d.pclk h.stop = d.pclk d.ns) :
    heldTry d = (((cqTake d).onSp fun s =>
      { s with bus := some ⟨.run c, c.sel, 4, d.ns, d.ns + c.clocks * h.period, h.period, c.sends⟩, held := none }).set F.SP_STAT_COIN).coin Tag.sp := by
  have enabled : d.b F.SP_CTL_EN = true := b_of_ne (ne_of_eq_of_ne en one_ne_zero)
  have ties : d.ties Dev.pclk h.stop = true := decide_eq_true tie
  unfold heldTry
  simp only [held, enabled, ties]
  rw [continueRun_next old sel ready]
  rfl

theorem continueRun_empty {d : Dev} (e : CqEntry) (period t : Nat) (old : oldestRun d = none) : continueRun e period t d = d := by
  simp [continueRun, old]

theorem oldestRun_undiscovered {d : Dev} (h : d.sp.disc = none) : oldestRun d = d.sp.cq.head? := by simp [oldestRun, h]

theorem oldestRun_empty {d : Dev} (h : d.sp.cq = []) : oldestRun d = none := by
  unfold oldestRun
  cases d.sp.disc with
  | none => simp [h]
  | some x => by_cases none : x.before = 0 <;> simp [none, h]

theorem runEnd_sp (e : CqEntry) (brk : Bool) (t : Nat) (d : Dev) : (runEnd e brk t d).sp =
    { d.sp with bus := none, held := none, rose := Tab.put d.sp.rose e.sel t,
                ww := if e.wip then Tab.put d.sp.ww e.sel ⟨t, 1, false⟩ else d.sp.ww } := by
  unfold runEnd freeBus writeWaitEnter
  cases brk <;> cases e.wip <;> rfl

theorem runEnd_mem (e : CqEntry) (brk : Bool) (t : Nat) (d : Dev) : (runEnd e brk t d).mem = d.mem := by
  unfold runEnd freeBus writeWaitEnter
  cases brk <;> cases e.wip <;> rfl

theorem runEnd_regs (e : CqEntry) (brk : Bool) (t : Nat) (d : Dev) :
    (runEnd e brk t d).regs = (if brk then (d.set F.SP_STAT_RUNEND).set F.SP_STAT_CBRK else d.set F.SP_STAT_RUNEND).regs := by
  unfold runEnd freeBus writeWaitEnter
  cases brk <;> cases e.wip <;> rfl

theorem runEnd_runend (e : CqEntry) (brk : Bool) (t : Nat) (d : Dev) : (runEnd e brk t d).r F.SP_STAT_RUNEND = 1 := by
  rw [r_congr (runEnd_regs e brk t d)]
  cases brk with
  | false => exact set_r_same d rfl
  | true => exact (set_r_other _ (by decide)).trans (set_r_same d rfl)

theorem runEnd_cbrk (e : CqEntry) (t : Nat) (d : Dev) : (runEnd e true t d).r F.SP_STAT_CBRK = 1 := by
  rw [r_congr (runEnd_regs e true t d)]
  exact set_r_same _ rfl

theorem runEnd_sameRegs (e : CqEntry) (t : Nat) (d : Dev) : SameRegs [F.SP_STAT_RUNEND] d (runEnd e false t d) :=
  sameRegs_append (sameRegs_w d _ 1) (sameRegs_of_regs [] (runEnd_regs e false t d))

theorem runEnd_broken_sameRegs (e : CqEntry) (t : Nat) (d : Dev) : SameRegs [F.SP_STAT_CBRK, F.SP_STAT_RUNEND] d (runEnd e true t d) :=
  sameRegs_congr (sameRegs_append (sameRegs_append (sameRegs_w d F.SP_STAT_RUNEND 1) (sameRegs_w _ F.SP_STAT_CBRK 1))
    (sameRegs_of_regs [] (runEnd_regs e true t d))) (by decide)

/-! ### A select goes out of service [13 R257, R261] -/

/-- Of what is kept beside the core's failing loads, looking at the XIP accesses again changes the line wanted. -/
theorem xipRecheck_frame (d : Dev) : xipRecheck d =
    { d with co := { d.co with fails := (xipRecheck d).co.fails }, sp := { d.sp with fill := (xipRecheck d).sp.fill } } := by
  unfold xipRecheck
  simp only
  split
  · rfl
  · split <;> rfl

theorem xipRecheck_regs (d : Dev) : (xipRecheck d).regs = d.regs := by rw [xipRecheck_frame]
theorem xipRecheck_mem (d : Dev) : (xipRecheck d).mem = d.mem := by rw [xipRecheck_frame]

theorem dropPend_frame (c : Change) (d : Dev) : dropPend c d = { d with sw := (dropPend c d).sw } := by
  unfold dropPend
  simp only
  split <;> rfl

theorem dropPends_frame (c : Nat → Change) (l : List Nat) (d : Dev) :
    forAll l (fun b d => dropPend (c b) d) d = { d with sw := (forAll l (fun b d => dropPend (c b) d) d).sw } := by
  induction l generalizing d with
  | nil => rfl
  | cons b r ih =>
    rw [forAll, ih, dropPend_frame]

/-- The banks listed of select `n` join those that are out. -/
def outAfter (n : Nat) (l : List (Nat × Nat)) (bs : List Nat) : List (Nat × Nat) :=
  bs.foldl (fun l b => if l.contains (n, b) then l else l ++ [(n, b)]) l

theorem mem_outAfter_of_mem {n : Nat} {x : Nat × Nat} (bs : List Nat) {l : List (Nat × Nat)} (h : x ∈ l) : x ∈ outAfter n l bs := by
  induction bs generalizing l with
  | nil => exact h
  | cons b r ih =>
    refine ih ?_
    beta_reduce
    split
    · exact h
    · exact List.mem_append_left _ h

theorem mem_outAfter {n b : Nat} {bs : List Nat} (l : List (Nat × Nat)) (h : b ∈ bs) : (n, b) ∈ outAfter n l bs := by
  induction bs generalizing l with
  | nil => cases h
  | cons c r ih =>
    rcases List.mem_cons.mp h with rfl | later
    · refine mem_outAfter_of_mem r ?_
      beta_reduce
      split
      case isTrue out => exact List.contains_iff_mem.mp out
      case isFalse => simp
    · exact ih _ later

theorem genOut_sp (n : Nat) (d : Dev) : (genOut n d).sp = { d.sp with out := outAfter n d.sp.out (List.range 6) } := by
  unfold genOut
  simp only
  rw [dropPends_frame]
  rfl

theorem genOut_mem (n : Nat) (d : Dev) : (genOut n d).mem = d.mem := by
  unfold genOut
  simp only
  rw [dropPends_frame]
  rfl

theorem genOut_regs (n : Nat) (d : Dev) : (genOut n d).regs = (d.clr (F.SP_SEL_GEN n)).regs := by
  unfold genOut
  simp only
  rw [dropPends_frame]
  rfl

theorem selOut_sp (n : Nat) (d : Dev) :
    (selOut n d).sp = { d.sp with out := outAfter n d.sp.out (List.range 6), fill := (selOut n d).sp.fill } := by
  unfold selOut
  rw [xipRecheck_frame, clr_sp, genOut_sp]

theorem selOut_mem (n : Nat) (d : Dev) : (selOut n d).mem = d.mem := by
  unfold selOut
  rw [xipRecheck_mem, clr_mem, genOut_mem]

theorem selOut_regs (n : Nat) (d : Dev) : (selOut n d).regs = ((d.clr (F.SP_SEL_GEN n)).clr (F.SP_SEL_XEN n)).regs := by
  unfold selOut
  rw [xipRecheck_regs]
  unfold Dev.clr Dev.w
  simp only [genOut_regs, Dev.clr, Dev.w]

end Sys2Proof.Proofs
end

section
/-! PROOFS. The commands of the serial memory port: pushes, grants, the ends of transfers, timeouts and discovery [13; 01 R16-R18]. -/

namespace Sys2Proof.Proofs

open Sys2Proof.Machine Sys2Proof.Laws

/-! ### CQ_PUSH [13 R254, R256] -/

/-- The entry that a push of `n` makes. -/
def pushed (n : Nat) (d : Dev) : CqEntry := ⟨n, d.r F.SP_CQA_ADDR, d.r F.SP_CQD_DATA, none⟩

theorem pushed_afterWrite (n v : Nat) (d : Dev) : pushed n (d.w F.SP_CQC_CTRL v) = pushed n d := by
  simp only [pushed, r_w_other d v (show F.SP_CQA_ADDR.key ≠ F.SP_CQC_CTRL.key by decide),
    r_w_other d v (show F.SP_CQD_DATA.key ≠ F.SP_CQC_CTRL.key by decide)]

/-- The control word is written, and its entry joins the queue. -/
def queued (n : Nat) (d : Dev) : Dev := (d.w F.SP_CQC_CTRL n).onSp fun s => { s with cq := s.cq ++ [pushed n d] }

section

variable {n : Nat} {d : Dev}

theorem cqPush_joins (running : continueTimeout (d.w F.SP_CQC_CTRL n) = d.w F.SP_CQC_CTRL n) (room : d.sp.cq.length < 16) (code : cqReserved n = false) :
    cqPush n d = heldTry (queued n d) := by
  unfold cqPush
  rw [running]
  simp only [code, w_sp, Nat.not_le.mpr room, decide_false, Bool.false_eq_true, if_false]
  rw [queued, ← pushed_afterWrite n n d]
  rfl

theorem cqPush_queued (free : d.sp.held = none) (room : d.sp.cq.length < 16) (code : cqReserved n = false) : cqPush n d = queued n d :=
  (cqPush_joins (continueTimeout_free free) room code).trans (heldTry_free free)

theorem cqPush_full (free : d.sp.held = none) (full : 16 ≤ d.sp.cq.length) (code : cqReserved n = false) :
    cqPush n d = ((d.w F.SP_CQC_CTRL n).set F.SP_STAT_CQFULL).onSp fun s => { s with lost := some (d.ns, pushed n d, d.b F.SP_STAT_CQFULL) } := by
  have was : (d.w F.SP_CQC_CTRL n).b F.SP_STAT_CQFULL = d.b F.SP_STAT_CQFULL := by
    simp only [Dev.b, r_w_other d n (show F.SP_STAT_CQFULL.key ≠ F.SP_CQC_CTRL.key by decide)]
  unfold cqPush
  rw [continueTimeout_free (by simpa using free)]
  simp only [code, w_sp, full, decide_true, Bool.false_eq_true, if_false, if_true]
  rw [← pushed_afterWrite n n d, ← was]
  rfl

theorem cqPush_reserved (free : d.sp.held = none) (room : d.sp.cq.length < 16) (code : cqReserved n = true) :
    cqPush n d = (d.w F.SP_CQC_CTRL n).set F.SP_STAT_BADENT := by
  unfold cqPush
  rw [continueTimeout_free (by simpa using free)]
  simp only [code, w_sp, Nat.not_le.mpr room, decide_false, Bool.false_eq_true, if_false, if_true]

/-- A push in the timeout's own PCLK cycle: the continuation is on the bus, the queue is empty again, and the tie is recorded. -/
theorem cqPush_ties {h : Held} (held : d.sp.held = some h) (empty : d.sp.cq = []) (feed : d.sp.feed = []) (lost : d.sp.lost = none)
    (disc : d.sp.disc = none) (en : d.r F.SP_CTL_EN = 1) (code : cqReserved n = false) (sel : (pushed n d).sel = h.last.sel)
    (ready : entryReady d (pushed n d) = true) (tie : d.pclk h.stop = d.pclk d.ns) :
    let t := cqPush n d
    t.sp.bus = some ⟨.run (pushed n d), (pushed n d).sel, 4, d.ns, d.ns + (pushed n d).clocks * h.period, h.period, (pushed n d).sends⟩ ∧
      t.sp.held = none ∧ t.sp.cq = [] ∧ t.r F.SP_STAT_COIN = 1 ∧ bitAt (t.r F.SYS_COIN_TAG) Tag.sp = true ∧ t.mem = d.mem := by
  have cq : (queued n d).sp.cq = [pushed n d] := by simp [queued, empty]
  have old : oldestRun (queued n d) = some (pushed n d) := by rw [oldestRun_undiscovered (d := queued n d) disc, cq]; rfl
  have start := (cqPush_joins (continueTimeout_early (d := d.w F.SP_CQC_CTRL n) held (Nat.le_of_eq tie.symm)) (by simp [empty]) code).trans
    (heldTry_ties (d := queued n d) held ((r_w_other d n (by decide)).trans en) old sel ready tie)
  rw [start, cqTake_plain (d := queued n d) lost feed]
  exact ⟨rfl, rfl, congrArg List.tail cq, (r_w_other _ _ (by decide)).trans (set_r_same _ rfl), coin_bit _ (by decide), rfl⟩

end

/-! ### TRANSFER_GRANT [01 R16-R18; 13 R257, R262, R462] -/

/-- The port may grant: it is awake and enabled, and the bus is free. -/
def PortOpen (d : Dev) : Prop := d.awake = true ∧ d.r F.SP_CTL_EN ≠ 0 ∧ d.sp.bus = none ∧ d.sp.held = none

theorem transferGrant_shut {d : Dev} (h : ¬ PortOpen d) : transferGrant d = d := by
  have shut : d.awake = false ∨ d.b F.SP_CTL_EN = false ∨ d.sp.bus.isSome ∨ d.sp.held.isSome := by
    simp only [Dev.b, decide_eq_false_iff_not, ← Option.ne_none_iff_isSome]
    by_contra all
    simp only [not_or, not_not, Bool.not_eq_false] at all
    exact h all
  unfold transferGrant
  rw [if_pos shut]

section

variable {d : Dev} (port : PortOpen d)
include port

theorem transferGrant_urgent {x : Fetch} {e : Nat} (due : x.deadline = some e) (first : presented d = some x) (near : urgent d e = true) :
    transferGrant d = grantFetch 1 x d := by
  obtain ⟨awake, en, bus, held⟩ := port
  unfold transferGrant
  rw [if_neg (by simp [awake, b_of_ne en, bus, held])]
  cases wanted : fillNow d with
  | none => simp [first, due, near]
  | some a => simp [first, due, near]

theorem transferGrant_fill {n x : Nat} (first : presented d = none) (wanted : fillNow d = some (n, x)) : transferGrant d = grantFill n x d := by
  obtain ⟨awake, en, bus, held⟩ := port
  unfold transferGrant
  rw [if_neg (by simp [awake, b_of_ne en, bus, held])]
  simp [first, wanted]

theorem transferGrant_fourth (first : presented d = none) (wanted : fillNow d = none) : transferGrant d = grantFourth d := by
  obtain ⟨awake, en, bus, held⟩ := port
  unfold transferGrant
  rw [if_neg (by simp [awake, b_of_ne en, bus, held])]
  simp [first, wanted]

end

theorem presented_noPlaces {d : Dev} (h : d.gr.places = []) : presented d = none := by simp [presented, h]

theorem fillNow_unwanted {d : Dev} (h : d.sp.fill = none) : fillNow d = none := by simp [fillNow, h]

theorem pollNow_due {d : Dev} {n : Nat} {w : WriteWait} (ww : d.sp.ww = [(n, w)]) : pollNow d = if w.due = true then some n else none := by
  cases due : w.due <;> simp [pollNow, ww, due]

theorem pollNow_nothing {d : Dev} (ww : d.sp.ww = []) : pollNow d = none := by simp [pollNow, ww]

theorem discNow_idle {d : Dev} (disc : d.sp.disc = none) : discNow d = none := by simp [discNow, disc]

theorem discNow_free {d : Dev} {n k : Nat} {l : List Nat} (ww : d.sp.ww = []) (disc : d.sp.disc = some ⟨n :: l, 0, 0, k⟩) :
    discNow d = some (n, ⟨n :: l, 0, 0, k⟩) := by
  simp [discNow, disc, inWait, ww, Tab.get?]

theorem discNow_waits {d : Dev} {n k : Nat} {l : List Nat} {w : WriteWait} (ww : d.sp.ww = [(n, w)]) (disc : d.sp.disc = some ⟨n :: l, 0, 0, k⟩) :
    discNow d = none := by
  simp [discNow, disc, inWait, ww, Tab.get?]

theorem grantFourth_run {d : Dev} (poll : pollNow d = none) (disc : discNow d = none) : grantFourth d = grantRun d := by
  simp [grantFourth, poll, disc]

/-- A select whose poll waits is polled, whatever else of rank 4 waits. -/
theorem grantFourth_poll {d : Dev} {n : Nat} {w : WriteWait} (ww : d.sp.ww = [(n, w)]) (due : w.due = true) :
    Granted (.poll n) n 4 16 (msck d n) [0x05] d (grantFourth d) ∧ (grantFourth d).sp.ww = [(n, { w with due := false })] ∧
      (grantFourth d).sp.cq = d.sp.cq ∧ (grantFourth d).regs = d.regs := by
  have h : grantFourth d = takeBus (.poll n) n 4 16 (msck d n) [0x05] (d.onSp fun s => { s with ww := [(n, { w with due := false })] }) := by
    simp [grantFourth, pollNow_due ww, due, Dev.onSp, ww, msck, Dev.r]
  rw [h]
  exact ⟨takeBus_granted ⟨rfl, rfl, rfl, rfl, rfl, rfl⟩ _ _ _ _ _, by rw [takeBus_eq]; rfl, by rw [takeBus_eq]; rfl, by rw [takeBus_eq]; rfl⟩

theorem grantFourth_disc {d : Dev} {n k : Nat} {l : List Nat} (ww : d.sp.ww = []) (disc : d.sp.disc = some ⟨n :: l, 0, 0, k⟩) :
    Granted (.disc n 0) n 4 32 64 [0x9F] d (grantFourth d) ∧ (grantFourth d).sp.cq = d.sp.cq ∧ (grantFourth d).regs = d.regs := by
  have h : grantFourth d = takeBus (.disc n 0) n 4 32 64 [0x9F] d := by
    simp [grantFourth, pollNow_nothing ww, discNow_free ww disc, discClocks, discSends]
  rw [h]
  exact ⟨takeBus_granted (.refl n d) _ _ _ _ _, by rw [takeBus_eq]; rfl, by rw [takeBus_eq]; rfl⟩

theorem grantRun_none {d : Dev} (old : oldestRun d = none) : grantRun d = d := by simp [grantRun, old]

theorem grantRun_next {d : Dev} {e : CqEntry} (old : oldestRun d = some e) (ready : entryReady d e = true) :
    grantRun d = takeBus (.run e) e.sel 4 e.clocks (msck d e.sel) e.sends (cqTake d) := by
  simp [grantRun, old, ready]

/-- The oldest run starts, and its entry leaves the queue. -/
theorem grantRun_plain {d : Dev} {e : CqEntry} {r : List CqEntry} (old : oldestRun d = some e) (cq : d.sp.cq = e :: r)
    (ready : entryReady d e = true) (feed : d.sp.feed = []) (lost : d.sp.lost = none) :
    Granted (.run e) e.sel 4 e.clocks (msck d e.sel) e.sends d (grantRun d) ∧ (grantRun d).sp.cq = r ∧ (grantRun d).gr = d.gr ∧
      (grantRun d).regs = d.regs := by
  rw [grantRun_next old ready]
  refine ⟨takeBus_granted (cqTake_sameForBus _ feed (.inl lost)) _ _ _ _ _, ?_, ?_, ?_⟩ <;> rw [takeBus_eq, cqTake_plain lost feed]
  · simp [dequeued, cq]
  · rfl
  · rfl

/-- A push refused in the cycle of the start joins the queue that the oldest entry has left. -/
theorem grantRun_refusedNow {d : Dev} {e x : CqEntry} {r : List CqEntry} {was : Bool} (old : oldestRun d = some e) (cq : d.sp.cq = e :: r)
    (ready : entryReady d e = true) (feed : d.sp.feed = []) (lost : d.sp.lost = some (d.ns, x, was)) :
    Granted (.run e) e.sel 4 e.clocks (msck d e.sel) e.sends d (grantRun d) ∧ (grantRun d).sp.cq = r ++ [x] ∧
      (grantRun d).r F.SP_STAT_CQFULL = bit was := by
  rw [grantRun_next old ready]
  refine ⟨takeBus_granted (cqTake_sameForBus _ feed (.inr ⟨x, was, lost⟩)) _ _ _ _ _, ?_, ?_⟩ <;>
    rw [takeBus_eq, cqTake_refusedNow lost feed]
  · simp [dequeued, cq]
  · cases was <;> simp [bit, F.SP_STAT_CQFULL]

/-- What a read with select `n`'s command sends: its opcode, and the device address in three bytes or four. -/
def sendsOfRead (d : Dev) (n a : Nat) : List Nat := d.r (F.SP_SEL_RCMD n) :: addrBytes (if d.r (F.SP_SEL_ADDR4 n) ≠ 0 then 4 else 3) a

theorem readSends_eq (d : Dev) (n a : Nat) : readSends d n a = sendsOfRead d n a := by
  simp [readSends, sendsOfRead, Dev.b]

theorem grantFill_wanted {d : Dev} {a : Nat} (n x : Nat) (wanted : d.sp.fill = some a) :
    Granted (.fill a) n 2 (readClocks d n 32) (msck d n) (sendsOfRead d n x) d (grantFill n x d) ∧ (grantFill n x d).sp.cq = d.sp.cq ∧
      (grantFill n x d).gr = d.gr ∧ (grantFill n x d).regs = d.regs := by
  unfold grantFill
  rw [wanted, Option.getD_some, readSends_eq]
  exact ⟨takeBus_granted (.refl n d) _ _ _ _ _, by rw [takeBus_eq]; rfl, by rw [takeBus_eq]; rfl, by rw [takeBus_eq]; rfl⟩

theorem grantFetch_good {d : Dev} {x : Fetch} (owner : Nat) (good : fetchBad d x = false) :
    let s := (d.pte x.f x.page).sel
    Granted (.page x.f x.page) s owner (readClocks d s 1024) (msck d s) (sendsOfRead d s (1024 * (d.pte x.f x.page).addr)) d (grantFetch owner x d) ∧
      (grantFetch owner x d).sp.cq = d.sp.cq ∧ (grantFetch owner x d).regs = d.regs := by
  unfold grantFetch
  simp only [good, Bool.false_eq_true, if_false, readSends_eq]
  exact ⟨takeBus_granted ⟨rfl, rfl, rfl, rfl, rfl, rfl⟩ _ _ _ _ _, by rw [takeBus_eq]; rfl, by rw [takeBus_eq]; rfl⟩

/-- The wanted line's fill goes before rank 4. -/
theorem transferGrant_fills {d : Dev} {a n x : Nat} (port : PortOpen d) (places : d.gr.places = []) (fill : d.sp.fill = some a)
    (wanted : fillNow d = some (n, x)) :
    let t := transferGrant d
    Granted (.fill a) n 2 (readClocks d n 32) (msck d n) (sendsOfRead d n x) d t ∧ t.sp.cq = d.sp.cq ∧ t.gr = d.gr ∧ t.regs = d.regs := by
  rw [transferGrant_fill port (presented_noPlaces places) wanted]
  exact grantFill_wanted n x fill

/-- An urgent fetch goes before everything else. -/
theorem transferGrant_fetches {d : Dev} {x : Fetch} {e : Nat} (port : PortOpen d) (due : x.deadline = some e) (first : presented d = some x)
    (near : urgent d e = true) (good : fetchBad d x = false) :
    let s := (d.pte x.f x.page).sel
    let t := transferGrant d
    Granted (.page x.f x.page) s 1 (readClocks d s 1024) (msck d s) (sendsOfRead d s (1024 * (d.pte x.f x.page).addr)) d t ∧
      t.sp.cq = d.sp.cq ∧ t.regs = d.regs := by
  rw [transferGrant_urgent port due first near]
  exact grantFetch_good 1 good

section

variable {d : Dev} (port : PortOpen d) (places : d.gr.places = []) (fill : d.sp.fill = none)
include port places fill

theorem transferGrant_lowest : transferGrant d = grantFourth d := transferGrant_fourth port (presented_noPlaces places) (fillNow_unwanted fill)

theorem transferGrant_oldest (ww : d.sp.ww = []) (disc : d.sp.disc = none) : transferGrant d = grantRun d := by
  rw [transferGrant_lowest port places fill, grantFourth_run (pollNow_nothing ww) (discNow_idle disc)]

/-- While the select of discovery is in write-wait and no poll is due, only a run can start. -/
theorem transferGrant_pastDiscovery {n k : Nat} {l : List Nat} {w : WriteWait} (idle : w.due = false) (ww : d.sp.ww = [(n, w)])
    (disc : d.sp.disc = some ⟨n :: l, 0, 0, k⟩) : transferGrant d = grantRun d := by
  rw [transferGrant_lowest port places fill, grantFourth_run (by rw [pollNow_due ww, idle]; rfl) (discNow_waits ww disc)]

end

theorem oldestRun_before {d : Dev} {x : Discover} (disc : d.sp.disc = some x) : oldestRun d = if x.before = 0 then none else d.sp.cq.head? := by
  simp [oldestRun, disc]

/-! ### TRANSFER_END [01 R17; 13 R255-R257, R262] -/

/-- The transfer `o` is on the bus and its clocks have ended. -/
def Ended (o : BusOp) (d : Dev) : Prop := d.sp.bus = some o ∧ o.stop ≤ d.ns

theorem transferEnd_early {d : Dev} {o : BusOp} (bs : List Nat) (bus : d.sp.bus = some o) (early : d.ns < o.stop) : transferEnd bs d = d := by
  simp [transferEnd, bus, early]

section

variable {d : Dev} {o : BusOp} (bs : List Nat) (h : Ended o d)
include h

theorem transferEnd_run {e : CqEntry} (op : o.op = .run e) : transferEnd bs d = entryEnd e o.period o.stop bs d := by
  simp [transferEnd, h.1, Nat.not_lt.mpr h.2, op]

theorem transferEnd_poll {n : Nat} (op : o.op = .poll n) : transferEnd bs d = pollRead n bs (freeBus o.sel o.stop d) := by
  simp [transferEnd, h.1, Nat.not_lt.mpr h.2, op]

theorem transferEnd_disc {n s : Nat} (op : o.op = .disc n s) : transferEnd bs d = xipRecheck (discRead n s bs (freeBus o.sel o.stop d)) := by
  simp [transferEnd, h.1, Nat.not_lt.mpr h.2, op]

end

/-- The receive FIFO once entry `e` has read `bs`. -/
def received (e : CqEntry) (bs : List Nat) (d : Dev) : Dev :=
  d.onSp fun s => { s with rx := if e.reads = true ∧ e.own = none then s.rx ++ [le (bs.take e.nb)] else s.rx }

theorem received_eq (e : CqEntry) (bs : List Nat) (d : Dev) :
    (if e.reads = true ∧ e.own = none then d.onSp fun s => { s with rx := s.rx ++ [le (bs.take e.nb)] } else d) = received e bs d := by
  unfold received
  by_cases reads : e.reads = true ∧ e.own = none <;> simp [reads, Dev.onSp]

theorem entryEnd_last {e : CqEntry} (period t : Nat) (bs : List Nat) (d : Dev) (last : e.cont = false) :
    entryEnd e period t bs d = runEnd e false t (received e bs d) := by
  unfold entryEnd
  simp only [received_eq, last, Bool.false_eq_true, if_false]

/-- The run whose entry `e` has ended at `t` waits for its continuation with the select held. -/
def waiting (e : CqEntry) (period t : Nat) (d : Dev) : Dev :=
  d.onSp fun s => { s with bus := none, held := some ⟨e, t + 1000 * max (d.r F.SP_CTL_CTMO) 1, period⟩ }

theorem entryEnd_waits {e : CqEntry} (period t : Nat) (bs : List Nat) {d : Dev} (cont : e.cont = true) (empty : d.sp.cq = []) :
    entryEnd e period t bs d = waiting e period t (received e bs d) := by
  have stuck : continueRun e period t (waiting e period t (received e bs d)) = waiting e period t (received e bs d) :=
    continueRun_empty e period t (oldestRun_empty empty)
  unfold entryEnd
  simp only [received_eq, cont, if_true]
  exact (congrArg (fun d' => if d'.sp.held.isSome then waiting e period t (received e bs d) else d') stuck).trans (ite_self _)

theorem writeWaitTimeout_unlimited {d : Dev} (n : Nat) (h : d.r F.SP_CTL_WTMO = 0) : writeWaitTimeout n d = d := by
  unfold writeWaitTimeout
  cases Tab.get? d.sp.ww n with
  | none => rfl
  | some w => exact if_pos (.inl h)

/-- Without a limit a status byte with bit 0 at 1 changes nothing, and one with bit 0 at 0 ends write-wait. -/
theorem pollRead_unlimited {d : Dev} {n : Nat} {w : WriteWait} (bs : List Nat) (h : d.r F.SP_CTL_WTMO = 0) (ww : Tab.get? d.sp.ww n = some w) :
    pollRead n bs d = if bitAt (bs.headD 1) 0 then d else d.onSp fun s => { s with ww := Tab.erase s.ww n } := by
  unfold pollRead
  simp [writeWaitTimeout_unlimited n h, ww, h]

theorem le_lt (bs : List Nat) : le bs < 256 ^ bs.length := by
  induction bs with
  | nil => simp [le]
  | cons b r ih =>
    rw [le, List.length_cons, Nat.pow_succ]
    omega

/-- The three bytes of an identity fill its field. -/
theorem le_take_three (bs : List Nat) : le (bs.take 3) < 2 ^ 24 := by
  have fits : 256 ^ (bs.take 3).length ≤ 256 ^ 3 := Nat.pow_le_pow_right (by decide) (List.length_take_le 3 bs)
  have spelled := le_lt (bs.take 3)
  omega

/-- A select that had no device and answers 9Fh has one now, and its SFDP header is read next. -/
theorem discId_found {d : Dev} (n : Nat) (bs : List Nat) (zero : le (bs.take 3) ≠ 0) (ones : le (bs.take 3) ≠ 0xFFFFFF) (absent : d.r (F.SP_ID_PRESENT n) = 0) :
    discId n bs d = discStage 1 0 ((d.w (F.SP_ID_ID n) (le (bs.take 3))).set (F.SP_ID_PRESENT n)) := by
  simp [discId, zero, ones, b_of_zero absent]

/-! ### Timeouts of write-wait [13 R257] -/

theorem writeWaitTimeout_early {d : Dev} {n : Nat} {w : WriteWait} (ww : Tab.get? d.sp.ww n = some w) (early : d.pclk d.ns ≤ d.pclk (waitLimit d w)) :
    writeWaitTimeout n d = d := by
  simp [writeWaitTimeout, ww, Dev.over, Nat.not_lt.mpr early]

/-- At the limit write-wait ends, WTO is set and the select goes out of service; of the ledger's state a commit under way may note it. -/
theorem writeWaitTimeout_late {d : Dev} {n : Nat} {w : WriteWait} (ww : Tab.get? d.sp.ww n = some w) (limit : d.r F.SP_CTL_WTMO ≠ 0)
    (late : d.pclk (waitLimit d w) < d.pclk d.ns) :
    writeWaitTimeout n d =
      { selOut n ((d.onSp fun s => { s with ww := Tab.erase s.ww n }).set F.SP_STAT_WTO) with lg := (writeWaitTimeout n d).lg } := by
  unfold writeWaitTimeout
  simp only [ww, limit, Dev.over, late, decide_true, Bool.true_eq_false, or_self, if_false]
  generalize selOut n ((d.onSp fun s => { s with ww := Tab.erase s.ww n }).set F.SP_STAT_WTO) = e
  split <;> rfl

theorem pollDue_early {d : Dev} {n : Nat} {w : WriteWait} (ww : Tab.get? d.sp.ww n = some w)
    (early : d.ns < w.start + 1000 * (w.k * max (d.r F.SP_CTL_PIVL) 1)) : pollDue n d = d := by
  simp [pollDue, ww, early]

theorem pollDue_falls {d : Dev} {n : Nat} {w : WriteWait} (ww : Tab.get? d.sp.ww n = some w)
    (late : w.start + 1000 * (w.k * max (d.r F.SP_CTL_PIVL) 1) ≤ d.ns) (due : w.due = false) (bus : d.sp.bus = none) (en : d.r F.SP_CTL_EN = 1) :
    pollDue n d = d.onSp fun s => { s with ww := Tab.put s.ww n ⟨w.start, w.k + 1, true⟩ } := by
  simp [pollDue, ww, Nat.not_lt.mpr late, due, bus, b_of_ne (ne_of_eq_of_ne en one_ne_zero)]

/-! ### DISCOVERY_START and SP_RXD_POP [13 R255, R262] -/

theorem discoveryStart_busy {d : Dev} (m w : Nat) (h : d.sp.disc ≠ none) : discoveryStart m w d = d := by
  unfold discoveryStart
  rw [if_pos (Option.ne_none_iff_isSome.mp h)]

theorem selects_of_mask {m : BitVec 4} (h : m ≠ 0) : ((List.range 4).filter fun n => bitAt m.toNat n).isEmpty = false := by
  revert m; decide

theorem discoveryStart_begins {d : Dev} {m : BitVec 4} (w : Nat) (idle : d.sp.disc = none) (mask : m ≠ 0) :
    discoveryStart m.toNat w d = ((d.w F.SP_DISC_SELMASK m.toNat).w F.SP_DISC_WMAX w).onSp fun s =>
      { s with disc := some ⟨(List.range 4).filter (fun n => bitAt m.toNat n), 0, 0, s.cq.length⟩ } := by
  simp [discoveryStart, idle, selects_of_mask mask]

theorem spRxdPop_word {d : Dev} {w : Nat} {r : List Nat} (free : d.sp.held = none) (rx : d.sp.rx = w :: r) :
    spRxdPop d = { d.onSp fun s => { s with rx := r } with rd := w } := by
  unfold spRxdPop
  rw [continueTimeout_free free]
  simp only [rx]
  exact heldTry_free free

theorem spRxdPop_empty {d : Dev} (free : d.sp.held = none) (rx : d.sp.rx = []) : spRxdPop d = { d with rd := 0 } := by
  unfold spRxdPop
  rw [continueTimeout_free free]
  simp only [rx]

end Sys2Proof.Proofs
end

section
/-! PROOFS. The serial slave port and the pins of both ports [13 R252, R265-R270]. -/

namespace Sys2Proof.Proofs

open Sys2Proof.Machine Sys2Proof.Laws

/-! ### The pins [02 R33; 13 R252, R269, R270] -/

theorem pinOut_bright {d : Dev} (l : PinLevel) (h : d.ck.brown = false) : pinOut l d = l := by simp [pinOut, pinsDark, h]

section

variable {d : Dev} (bright : d.ck.brown = false)
include bright

theorem masterPins_free (bus : d.sp.bus = none) (held : d.sp.held = none) : (∀ n, mss d n = .high) ∧ msckPin d = .low ∧ mio d = .released := by
  refine ⟨fun n => ?_, ?_, ?_⟩
  · rw [mss, pinOut_bright _ bright]; simp [selected, bus, held]
  · rw [msckPin, pinOut_bright _ bright]; simp [clocking, bus]
  · rw [mio, pinOut_bright _ bright]; simp [clocking, bus]

theorem masterPins_transfer {o : BusOp} (bus : d.sp.bus = some o) (begun : o.start ≤ d.ns) (on : d.ns < o.stop) :
    mss d o.sel = .low ∧ msckPin d = .live ∧ mio d = .live ∧ mioSends d = o.sends := by
  refine ⟨?_, ?_, ?_, ?_⟩
  · rw [mss, pinOut_bright _ bright]; simp [selected, bus, begun]
  · rw [msckPin, pinOut_bright _ bright]; simp [clocking, bus, begun, on]
  · rw [mio, pinOut_bright _ bright]; simp [clocking, bus, begun, on]
  · simp [mioSends, bus]

theorem ssdo_bright : ssdo d = if d.sp.active = true ∧ d.sp.taken = true then .live else .hiz := by
  simp [ssdo, pinOut_bright _ bright]

theorem sbusyn_bright :
    sbusyn d = if slaveOpen d = true ∧ d.r (F.Q_STAT_WM 0) = 0 ∧ slaveStaged d < 2 ∧ d.sp.tx.length < 1024 then .high else .low := by
  rw [sbusyn, pinOut_bright _ bright]
  simp [slaveBusy, Dev.b, and_assoc]

end

theorem ssdoByte_first (d : Dev) : ssdoByte d 0 = d.sp.lat := by simp [ssdoByte]

theorem ssdoByte_later (d : Dev) (i : Nat) : ssdoByte d (i + 1) = if i < d.sp.lat then d.sp.tx.getD i 0 else 0 := by
  simp [ssdoByte]

/-! ### SSSN_FALL [13 R265, R269; 03 R62] -/

theorem sssnFall_inFrame {d : Dev} (h : d.sp.active = true) : sssnFall d = d := by simp [sssnFall, h]

theorem sssnFall_accepted {d : Dev} (en : d.r F.SP_SCTL_EN = 1) (awake : d.awake = true) (speaks : d.ck.silent = false) (idle : d.sp.active = false) :
    sssnFall d = (d.set F.SP_SSTAT_ACTIVE).onSp fun s =>
      { s with active := true, taken := true, mode := decide (d.r F.SP_SCTL_MODE ≠ 0), room := decide (slaveStaged d < 2), lat := min 255 s.tx.length } := by
  unfold sssnFall
  simp only [awake, idle, speaks, b_of_ne (ne_of_eq_of_ne en one_ne_zero), Bool.true_or]
  rfl

/-- With EN at 0, or asleep, the frame is not accepted and nothing is sent. -/
theorem sssnFall_refused {d : Dev} (idle : d.sp.active = false)
    (off : (d.r F.SP_SCTL_EN = 0 ∧ d.awake = true) ∨ d.ck.ladder = .nap ∨ d.ck.ladder = .fallow) :
    sssnFall d = (d.set F.SP_SSTAT_ACTIVE).onSp fun s =>
      { s with active := true, taken := false, mode := decide (d.r F.SP_SCTL_MODE ≠ 0), room := decide (slaveStaged d < 2), lat := 0 } := by
  have runs : (d.awake || d.asleep) = true := by
    rcases off with ⟨-, awake⟩ | nap | fallow
    · simp [awake]
    · simp [Dev.asleep, nap]
    · simp [Dev.asleep, fallow]
  have taken : (d.b F.SP_SCTL_EN && d.awake) = false := by
    rcases off with ⟨en, -⟩ | nap | fallow
    · simp [b_of_zero en]
    · simp [Dev.awake, nap]
    · simp [Dev.awake, fallow]
  unfold sssnFall
  simp only [runs, idle, taken, Bool.false_and]
  rfl

/-! ### SLAVE_FRAME [13 R265-R269] -/

/-- What waits to leave is nothing: no line and no event line goes. -/
theorem pumpOut_quiet {d : Dev} (out : d.st.out = []) (store : d.st.store = []) : pumpOut d = d := by
  have lines : flushOut d = d := by simp [flushOut, out, flushN]
  have events : flushEvents d = d := by simp [flushEvents, store, flushEventsN]
  simp [pumpOut, lines, events]

/-- SSSN has risen after `bits` bits: ACTIVE clears and the bytes sent whole leave the outbound buffer. -/
def frameGone (bits : Nat) (d : Dev) : Dev :=
  (d.clr F.SP_SSTAT_ACTIVE).onSp fun s => { s with active := false, tx := s.tx.drop (min s.lat (bits / 8 - 1)) }

theorem outboundSent_eq (bits : Nat) (d : Dev) :
    outboundSent (bits / 8) ((d.clr F.SP_SSTAT_ACTIVE).onSp fun s => { s with active := false }) = frameGone bits d := rfl

@[simp] theorem frameGone_st (bits : Nat) (d : Dev) : (frameGone bits d).st = d.st := rfl
@[simp] theorem frameGone_wakeDrop (bits : Nat) (d : Dev) : (frameGone bits d).sp.wakeDrop = d.sp.wakeDrop := rfl
@[simp] theorem frameGone_taken (bits : Nat) (d : Dev) : (frameGone bits d).sp.taken = d.sp.taken := rfl
@[simp] theorem frameGone_mode (bits : Nat) (d : Dev) : (frameGone bits d).sp.mode = d.sp.mode := rfl
@[simp] theorem frameGone_room (bits : Nat) (d : Dev) : (frameGone bits d).sp.room = d.sp.room := rfl

theorem frameGone_en (bits : Nat) (d : Dev) : (frameGone bits d).r F.SP_SCTL_EN = d.r F.SP_SCTL_EN :=
  clr_r_other d (f := F.SP_SSTAT_ACTIVE) (by decide)

theorem slaveFrame_idle {d : Dev} (bs : List Nat) (extra : Nat) (h : d.sp.active = false) :
    slaveFrame bs extra d = { d with sp := { d.sp with wakeDrop := false } } := by
  simp [slaveFrame, h, Dev.onSp]

section

variable {d : Dev} (bs : List Nat) (extra : Nat) (active : d.sp.active = true)
include active

/-- The frame whose fall woke the device is discarded to its end. -/
theorem slaveFrame_woke (woke : d.sp.wakeDrop = true) :
    slaveFrame bs extra d = (frameGone (frameBits bs extra) d).onSp fun s => { s with wakeDrop := false } := by
  unfold slaveFrame
  simp [active, outboundSent_eq, woke]

theorem slaveFrame_refused (woke : d.sp.wakeDrop = false) (off : d.sp.taken = false ∨ d.r F.SP_SCTL_EN = 0) :
    slaveFrame bs extra d = frameGone (frameBits bs extra) d := by
  have closed : d.sp.taken = false ∨ (frameGone (frameBits bs extra) d).b F.SP_SCTL_EN = false ∨ frameBits bs extra = 0 :=
    off.imp_right fun en => .inl (b_of_zero ((frameGone_en _ d).trans en))
  unfold slaveFrame
  simp [active, outboundSent_eq, woke, closed]

/-- An accepted frame of at least one bit is judged by its staging buffer, its length and its last byte. -/
theorem slaveFrame_accepted (taken : d.sp.taken = true) (en : d.r F.SP_SCTL_EN = 1) (woke : d.sp.wakeDrop = false) (bits : frameBits bs extra ≠ 0) :
    let e := frameGone (frameBits bs extra) d
    slaveFrame bs extra d =
      if d.sp.room = false then (e.set F.SP_SSTAT_OVF).inc F.SP_SCNT_DROPS
      else if 1016 < bs.length then (e.set F.SP_SSTAT_LONG).inc F.SP_SCNT_DROPS
      else if extra = 0 then slavePacket d.sp.mode bs (frameBits bs extra) e
      else if d.sp.mode = false then (e.set F.SP_SSTAT_ABRT).inc F.SP_SCNT_ABORTS
      else slavePacket true (frameBytes bs extra) (frameBits bs extra) ((e.set F.SP_SSTAT_ABRT).inc F.SP_SCNT_ABORTS) := by
  have enabled : (frameGone (frameBits bs extra) d).b F.SP_SCTL_EN = true := b_of_ne (by rw [frameGone_en, en]; decide)
  unfold slaveFrame
  by_cases whole : extra = 0
  · subst whole
    simp [active, outboundSent_eq, woke, taken, enabled, bits, frameBytes]
  · cases mode : d.sp.mode <;> simp [active, outboundSent_eq, woke, taken, enabled, bits, whole, mode]

end

/-- A packet of the slave port joins Q0's staged packets. -/
def stagedPacket (bytes : List Nat) (d : Dev) : Dev := { d with q0 := { d.q0 with staged := d.q0.staged ++ [(2, bytes)] } }

theorem slavePacket_commit (bs : List Nat) (bits : Nat) (d : Dev) : slavePacket false bs bits d = stagedPacket (0x40 :: bs) d := by
  simp [slavePacket, qStage, Dev.onQ, bit, stagedPacket]

theorem slavePacket_partial (bs : List Nat) (bits : Nat) (d : Dev) : slavePacket true bs bits d = stagedPacket (0x50 :: bs ++ leBytes 2 bits) d := by
  simp [slavePacket, qStage, Dev.onQ, bit, stagedPacket]

/-- An accepted frame is under way, taken in the mode `mode` and with a staging buffer free where `room`. -/
structure InFrame (mode room : Bool) (d : Dev) : Prop where
  active : d.sp.active = true
  taken : d.sp.taken = true
  en : d.r F.SP_SCTL_EN = 1
  woke : d.sp.wakeDrop = false
  mode : d.sp.mode = mode
  room : d.sp.room = room

section

variable {d : Dev} {bs : List Nat} {extra : Nat}

theorem slaveFrame_noBuffer {mode : Bool} (h : InFrame mode false d) (bits : frameBits bs extra ≠ 0) :
    slaveFrame bs extra d = ((frameGone (frameBits bs extra) d).set F.SP_SSTAT_OVF).inc F.SP_SCNT_DROPS := by
  rw [slaveFrame_accepted bs extra h.active h.taken h.en h.woke bits, if_pos h.room]

theorem slaveFrame_long {mode : Bool} (h : InFrame mode true d) (bits : frameBits bs extra ≠ 0) (long : 1016 < bs.length) :
    slaveFrame bs extra d = ((frameGone (frameBits bs extra) d).set F.SP_SSTAT_LONG).inc F.SP_SCNT_DROPS := by
  rw [slaveFrame_accepted bs extra h.active h.taken h.en h.woke bits, if_neg (by simp [h.room]), if_pos long]

theorem slaveFrame_whole {mode : Bool} (h : InFrame mode true d) (bits : frameBits bs extra ≠ 0) (short : bs.length ≤ 1016) (whole : extra = 0) :
    slaveFrame bs extra d = slavePacket mode bs (frameBits bs extra) (frameGone (frameBits bs extra) d) := by
  rw [slaveFrame_accepted bs extra h.active h.taken h.en h.woke bits, if_neg (by simp [h.room]), if_neg (Nat.not_lt.mpr short), if_pos whole, h.mode]

/-- A frame that ends inside a byte is counted as aborted; in PARTIAL mode its bits form a packet all the same. -/
theorem slaveFrame_cut {mode : Bool} (h : InFrame mode true d) (bits : frameBits bs extra ≠ 0) (short : bs.length ≤ 1016) (cut : extra ≠ 0) :
    let e := ((frameGone (frameBits bs extra) d).set F.SP_SSTAT_ABRT).inc F.SP_SCNT_ABORTS
    slaveFrame bs extra d = if mode = false then e else slavePacket true (frameBytes bs extra) (frameBits bs extra) e := by
  rw [slaveFrame_accepted bs extra h.active h.taken h.en h.woke bits, if_neg (by simp [h.room]), if_neg (Nat.not_lt.mpr short), if_neg cut, h.mode]

end

/-! ### The outbound buffer [13 R269] -/

theorem spStxWrite_room {d : Dev} (b : Byte) (h : d.sp.tx.length < 1024) : spStxWrite b.toNat d = d.onSp fun s => { s with tx := s.tx ++ [b.toNat] } := by
  simp [spStxWrite, Nat.not_le.mpr h, Nat.mod_eq_of_lt b.isLt]

theorem spStxWrite_full {d : Dev} (b : Nat) (h : 1024 ≤ d.sp.tx.length) : spStxWrite b d = d := if_pos h

end Sys2Proof.Proofs
end

section
/-! PROOFS. The statement about the serial ports, from what each command does [13; 01 R16-R18]. -/

namespace Sys2Proof.Proofs

open Sys2Proof.Machine Sys2Proof.Laws

/-! ### What the ends of transfers and the timeouts leave -/

section

variable {d : Dev} {o : BusOp} (bs : List Nat) (h : Ended o d)
include h

theorem transferEnd_lastEntry {e : CqEntry} (op : o.op = .run e) (last : e.cont = false) :
    let t := transferEnd bs d
    t.sp.bus = none ∧ t.sp.held = none ∧ t.r F.SP_STAT_RUNEND = 1 ∧
      t.sp.rx = (if e.reads = true ∧ e.own = none then d.sp.rx ++ [le (bs.take e.nb)] else d.sp.rx) ∧
      (e.wip = true → Tab.get? t.sp.ww e.sel = some ⟨o.stop, 1, false⟩) ∧ Tab.get? t.sp.rose e.sel = some o.stop ∧
      SameRegs [F.SP_STAT_RUNEND] d t ∧ t.mem = d.mem := by
  rw [transferEnd_run bs h op, entryEnd_last _ _ bs d last]
  refine ⟨?_, ?_, runEnd_runend .., ?_, fun wip => ?_, ?_, runEnd_sameRegs e o.stop (received e bs d), runEnd_mem ..⟩ <;> rw [runEnd_sp]
  · rfl
  · simp only [wip, if_true]
    exact tab_get_put_same ..
  · exact tab_get_put_same ..

theorem transferEnd_waits {e : CqEntry} (op : o.op = .run e) (cont : e.cont = true) (empty : d.sp.cq = []) :
    let t := transferEnd bs d
    t.sp.bus = none ∧ t.sp.held = some ⟨e, o.stop + 1000 * max (d.r F.SP_CTL_CTMO) 1, o.period⟩ ∧ t.regs = d.regs ∧ t.mem = d.mem := by
  rw [transferEnd_run bs h op, entryEnd_waits _ _ bs cont empty]
  exact ⟨rfl, rfl, rfl, rfl⟩

theorem transferEnd_polled {n : Nat} {w : WriteWait} (op : o.op = .poll n) (ww : Tab.get? d.sp.ww n = some w) (unlimited : d.r F.SP_CTL_WTMO = 0) :
    let t := transferEnd bs d
    t.sp.bus = none ∧ t.regs = d.regs ∧ t.mem = d.mem ∧ Tab.get? t.sp.ww n = (if bitAt (bs.headD 1) 0 = true then some w else none) := by
  rw [transferEnd_poll bs h op, pollRead_unlimited (d := freeBus o.sel o.stop d) bs unlimited ww]
  cases busy : bitAt (bs.headD 1) 0 with
  | true => exact ⟨rfl, rfl, rfl, ww⟩
  | false => exact ⟨rfl, rfl, rfl, tab_get_erase_same ..⟩

theorem transferEnd_found {n : Nat} (op : o.op = .disc n 0) (zero : le (bs.take 3) ≠ 0) (ones : le (bs.take 3) ≠ 0xFFFFFF)
    (absent : d.r (F.SP_ID_PRESENT n) = 0) :
    let t := transferEnd bs d
    t.sp.bus = none ∧ t.r (F.SP_ID_PRESENT n) = 1 ∧ t.r (F.SP_ID_ID n) = le (bs.take 3) ∧
      t.sp.disc = d.sp.disc.map (fun x => { x with stage := 1, table := 0 }) ∧ t.mem = d.mem := by
  have apart : (F.SP_ID_ID n).key ≠ (F.SP_ID_PRESENT n).key := by simp [Fld.key, F.SP_ID_ID, F.SP_ID_PRESENT]
  have read : transferEnd bs d = xipRecheck (discStage 1 0 (((freeBus o.sel o.stop d).w (F.SP_ID_ID n) (le (bs.take 3))).set (F.SP_ID_PRESENT n))) := by
    rw [transferEnd_disc bs h op, discRead, discId_found (d := freeBus o.sel o.stop d) n bs zero ones absent]
  rw [read]
  refine ⟨by rw [xipRecheck_frame]; rfl, ?_, ?_, by rw [xipRecheck_frame]; rfl, by rw [xipRecheck_mem]; rfl⟩ <;> rw [r_congr (xipRecheck_regs _)]
  · exact set_r_same (f := F.SP_ID_PRESENT n) _ rfl
  · exact ((set_r_other (f := F.SP_ID_PRESENT n) _ apart).trans (r_w_same ..)).trans (Nat.mod_eq_of_lt (le_take_three bs))

end

theorem continueTimeout_breaks {d : Dev} {h : Held} (held : d.sp.held = some h) (late : d.pclk h.stop < d.pclk d.ns) :
    let t := continueTimeout d
    t.sp.held = none ∧ t.sp.bus = none ∧ t.r F.SP_STAT_CBRK = 1 ∧ t.r F.SP_STAT_RUNEND = 1 ∧
      SameRegs [F.SP_STAT_CBRK, F.SP_STAT_RUNEND] d t ∧ t.sp.cq = d.sp.cq ∧ t.mem = d.mem := by
  rw [continueTimeout_late held late]
  exact ⟨by rw [runEnd_sp], by rw [runEnd_sp], runEnd_cbrk .., runEnd_runend .., runEnd_broken_sameRegs h.last h.stop d, by rw [runEnd_sp], runEnd_mem ..⟩

theorem writeWaitTimeout_outOfService {d : Dev} {n : Nat} {w : WriteWait} (ww : Tab.get? d.sp.ww n = some w) (limit : d.r F.SP_CTL_WTMO ≠ 0)
    (late : d.pclk (waitLimit d w) < d.pclk d.ns) :
    let t := writeWaitTimeout n d
    t.r F.SP_STAT_WTO = 1 ∧ t.r (F.SP_SEL_GEN n) = 0 ∧ t.r (F.SP_SEL_XEN n) = 0 ∧ Tab.get? t.sp.ww n = none ∧ (∀ b, b < 6 → (n, b) ∈ t.sp.out) ∧
      SameRegs [F.SP_STAT_WTO, F.SP_SEL_GEN n, F.SP_SEL_XEN n] d t ∧ t.mem = d.mem := by
  let e : Dev := (d.onSp fun s => { s with ww := Tab.erase s.ww n }).set F.SP_STAT_WTO
  have regs : (writeWaitTimeout n d).regs = ((e.clr (F.SP_SEL_GEN n)).clr (F.SP_SEL_XEN n)).regs := by
    rw [writeWaitTimeout_late ww limit late]
    exact selOut_regs n e
  have sp : (writeWaitTimeout n d).sp = { e.sp with out := outAfter n e.sp.out (List.range 6), fill := (selOut n e).sp.fill } := by
    rw [writeWaitTimeout_late ww limit late]
    exact selOut_sp n e
  have mem : (writeWaitTimeout n d).mem = d.mem := by
    rw [writeWaitTimeout_late ww limit late]
    exact selOut_mem n e
  have gen : (F.SP_SEL_GEN n).key ≠ (F.SP_SEL_XEN n).key := by simp [Fld.key, F.SP_SEL_GEN, F.SP_SEL_XEN]
  have wtoGen : F.SP_STAT_WTO.key ≠ (F.SP_SEL_GEN n).key := by simp only [Fld.key, F.SP_STAT_WTO, F.SP_SEL_GEN]; omega
  have wtoXen : F.SP_STAT_WTO.key ≠ (F.SP_SEL_XEN n).key := by simp only [Fld.key, F.SP_STAT_WTO, F.SP_SEL_XEN]; omega
  refine ⟨?_, ?_, ?_, ?_, fun b hb => ?_, ?_, mem⟩
  · rw [r_congr regs, clr_r_other _ wtoXen, clr_r_other _ wtoGen]
    exact set_r_same _ rfl
  · rw [r_congr regs, clr_r_other _ gen, clr_r_same]
  · rw [r_congr regs, clr_r_same]
  · rw [sp]
    exact tab_get_erase_same ..
  · rw [sp]
    exact mem_outAfter _ (List.mem_range.mpr hb)
  · exact sameRegs_append (sameRegs_w _ F.SP_STAT_WTO 1) (sameRegs_append (sameRegs_w _ (F.SP_SEL_GEN n) 0)
      (sameRegs_append (sameRegs_w _ (F.SP_SEL_XEN n) 0) (sameRegs_of_regs [] regs)))

theorem nats_length (bytes : Bytes) : (Bytes.nats bytes).length = bytes.length := List.length_map ..

theorem frameBits_nats (bytes : Bytes) (x : Fin 8) :
    frameBits (Bytes.nats bytes) x = if x = 0 then 8 * bytes.length else 8 * (bytes.length - 1) + x := by
  simp only [frameBits, nats_length, Fin.val_eq_zero_iff]

theorem frameBits_pos {bytes : Bytes} (full : bytes ≠ []) (x : Fin 8) : frameBits (Bytes.nats bytes) x ≠ 0 := by
  have length := List.length_pos_of_ne_nil full
  unfold frameBits
  rw [nats_length]
  split <;> omega

/-- The frame's end, where no line and no event line waits to leave. -/
theorem slaveFrame_runs {bytes : Bytes} {x : Fin 8} {P : Dev → Prop} {f : Dev → Dev}
    (h : ∀ d, P d → (d.st.out = [] ∧ d.st.store = []) ∧ slaveFrame (Bytes.nats bytes) x d = f d ∧ (f d).st = d.st) : Runs (.slaveFrame bytes x) P f :=
  runs_of_onDev (g := fun d => pumpOut (slaveFrame (Bytes.nats bytes) x d)) (fun _ => rfl) fun d hd => by
    obtain ⟨⟨out, store⟩, done, st⟩ := h d hd
    rw [done]
    exact pumpOut_quiet (by rw [st, out]) (by rw [st, store])

/-! ### The commands as functions of the device -/

theorem exec_cqPush (ctrl : Word) (s : State) : exec (.cqPush ctrl) s = onDev (cqPush ctrl.toNat) s := rfl
theorem exec_transferGrant (s : State) : exec .transferGrant s = onDev transferGrant s := rfl
theorem exec_transferEnd (bytes : Bytes) (s : State) : exec (.transferEnd bytes) s = onDev (transferEnd (Bytes.nats bytes)) s := rfl
theorem exec_continueTimeout (s : State) : exec .continueTimeout s = onDev continueTimeout s := rfl
theorem exec_pollDue (n : Fin 4) (s : State) : exec (.pollDue n) s = onDev (pollDue n) s := rfl
theorem exec_writeWaitTimeout (n : Fin 4) (s : State) : exec (.writeWaitTimeout n) s = onDev (writeWaitTimeout n) s := rfl
theorem exec_discoveryStart (m : BitVec 4) (w : BitVec 2) (s : State) : exec (.discoveryStart m w) s = onDev (discoveryStart m.toNat w.toNat) s := rfl
theorem exec_spRxdPop (s : State) : exec .spRxdPop s = onDev spRxdPop s := rfl
theorem exec_sssnFall (s : State) : exec .sssnFall s = onDev sssnFall s := rfl
theorem exec_spStxWrite (b : Byte) (s : State) : exec (.spStxWrite b) s = onDev (spStxWrite b.toNat) s := rfl
theorem exec_spScntClear (s : State) : exec .spScntClear s = onDev spScntClear s := rfl

/-- Settles O33: each clause is the law of its command for the case that the clause names. -/
theorem serialPorts : Obligations.SerialPorts := by
  unfold Obligations.SerialPorts
  refine ⟨fun ctrl => ⟨?_, ?_, ?_, fun h => ?_⟩, ⟨fun e r => ?_, fun e x r was => ?_, fun n k l => ⟨?_, fun e r w idle => ⟨?_, ?_⟩⟩,
      fun n w due => ?_, fun a n x => ?_, fun x e due => ?_, ?_⟩, fun d bright => ⟨?_, fun o bus begun on => ?_, ?_, ?_, fun i => ?_, ?_⟩,
    fun bytes o => ⟨fun e op last => ?_, fun e op cont => ?_, fun n w op => ?_, fun n op _ _ zero ones => ?_, ?_⟩, fun h => ⟨?_, ?_⟩,
    fun n w => ⟨?_, ?_, ?_, ?_⟩, fun m w => ⟨?_, ?_⟩, fun w r => ?_, ?_, ?_, ?_, ?_,
    fun bytes x full => ⟨fun whole short => ?_, fun whole short => ?_, fun cut short => ?_, fun cut short => ?_, fun long => ?_, ?_, ?_, ?_, ?_⟩,
    fun b => ⟨?_, ?_⟩, ?_⟩
  -- CQ_PUSH
  · exact runs_of_onDev (exec_cqPush ctrl) fun d ⟨free, room, code⟩ => cqPush_queued free room code
  · exact runs_of_onDev (exec_cqPush ctrl) fun d ⟨free, full, code⟩ => cqPush_full free full code
  · exact runs_of_onDev (exec_cqPush ctrl) fun d ⟨free, room, code⟩ => cqPush_reserved free room code
  · exact does_of_onDev (exec_cqPush ctrl) fun d ⟨held, empty, feed, lost, disc, en, code, sel, ready, tie⟩ =>
      cqPush_ties held empty feed lost disc en code sel ready tie
  -- TRANSFER_GRANT
  · refine does_of_onDev exec_transferGrant fun d ⟨port, places, fill, ww, disc, cq, ready, feed, lost⟩ => ?_
    rw [transferGrant_oldest port places fill ww disc]
    exact grantRun_plain (by rw [oldestRun_undiscovered disc, cq]; rfl) cq ready feed lost
  · refine does_of_onDev exec_transferGrant fun d ⟨port, places, fill, ww, disc, cq, ready, feed, lost⟩ => ?_
    rw [transferGrant_oldest port places fill ww disc]
    exact grantRun_refusedNow (by rw [oldestRun_undiscovered disc, cq]; rfl) cq ready feed lost
  · refine does_of_onDev exec_transferGrant fun d ⟨port, places, fill, ww, disc⟩ => ?_
    rw [transferGrant_lowest port places fill]
    exact grantFourth_disc ww disc
  · refine does_of_onDev exec_transferGrant fun d ⟨port, places, fill, ww, disc, cq, ready, feed, lost⟩ => ?_
    rw [transferGrant_pastDiscovery port places fill idle ww disc]
    obtain ⟨granted, queue, -, -⟩ := grantRun_plain (by rw [oldestRun_before disc, cq]; rfl) cq ready feed lost
    exact ⟨granted, queue⟩
  · refine runs_of_onDev exec_transferGrant fun d ⟨port, places, fill, ww, disc⟩ => ?_
    rw [transferGrant_pastDiscovery port places fill idle ww disc]
    exact grantRun_none (oldestRun_before disc)
  · refine does_of_onDev exec_transferGrant fun d ⟨port, places, fill, ww⟩ => ?_
    rw [transferGrant_lowest port places fill]
    exact grantFourth_poll ww due
  · exact does_of_onDev exec_transferGrant fun d ⟨port, places, fill, wanted⟩ => transferGrant_fills port places fill wanted
  · exact does_of_onDev exec_transferGrant fun d ⟨port, first, near, good⟩ => transferGrant_fetches port due first near good
  · exact runs_of_onDev exec_transferGrant fun d shut => transferGrant_shut shut
  -- the pins
  · exact masterPins_free bright
  · exact masterPins_transfer bright bus begun on
  · exact ssdo_bright bright
  · exact ssdoByte_first d
  · exact ssdoByte_later d i
  · exact sbusyn_bright bright
  -- TRANSFER_END
  · exact does_of_onDev (exec_transferEnd bytes) fun d ended => transferEnd_lastEntry _ ended op last
  · exact does_of_onDev (exec_transferEnd bytes) fun d ⟨ended, empty⟩ => transferEnd_waits _ ended op cont empty
  · exact does_of_onDev (exec_transferEnd bytes) fun d ⟨ended, ww, unlimited⟩ => transferEnd_polled _ ended op ww unlimited
  · exact does_of_onDev (exec_transferEnd bytes) fun d ⟨ended, absent, _⟩ => transferEnd_found _ ended op zero ones absent
  · exact runs_of_onDev (exec_transferEnd bytes) fun d ⟨bus, early⟩ => transferEnd_early _ bus early
  -- CONTINUE_TIMEOUT
  · exact does_of_onDev exec_continueTimeout fun d ⟨held, late⟩ => continueTimeout_breaks held late
  · exact runs_of_onDev exec_continueTimeout fun d ⟨held, early⟩ => continueTimeout_early held early
  -- POLL_DUE and WRITE_WAIT_TIMEOUT
  · exact runs_of_onDev (exec_pollDue n) fun d ⟨ww, late, due, bus, en⟩ => pollDue_falls ww late due bus en
  · exact runs_of_onDev (exec_pollDue n) fun d ⟨ww, early⟩ => pollDue_early ww early
  · exact does_of_onDev (exec_writeWaitTimeout n) fun d ⟨ww, limit, late⟩ => writeWaitTimeout_outOfService ww limit late
  · exact runs_of_onDev (exec_writeWaitTimeout n) fun d ⟨ww, early⟩ =>
      early.elim (writeWaitTimeout_unlimited n) (writeWaitTimeout_early ww)
  -- DISCOVERY_START and SP_RXD_POP
  · exact runs_of_onDev (exec_discoveryStart m w) fun d ⟨idle, mask⟩ => discoveryStart_begins _ idle mask
  · exact runs_of_onDev (exec_discoveryStart m w) fun d busy => discoveryStart_busy _ _ busy
  · exact runs_of_onDev exec_spRxdPop fun d ⟨free, rx⟩ => spRxdPop_word free rx
  · exact runs_of_onDev exec_spRxdPop fun d ⟨free, rx⟩ => spRxdPop_empty free rx
  -- SSSN_FALL
  · exact runs_of_onDev exec_sssnFall fun d ⟨en, awake, speaks, idle⟩ => sssnFall_accepted en awake speaks idle
  · exact runs_of_onDev exec_sssnFall fun d ⟨idle, off⟩ => sssnFall_refused idle off
  · exact runs_of_onDev exec_sssnFall fun d active => sssnFall_inFrame active
  -- SLAVE_FRAME
  · refine slaveFrame_runs fun d ⟨active, taken, en, woke, mode, room, quiet⟩ => ⟨quiet, ?_, rfl⟩
    rw [slaveFrame_whole ⟨active, taken, en, woke, mode, room⟩ (frameBits_pos full x) ((nats_length bytes).trans_le short) (Fin.val_eq_zero_iff.mpr whole),
      slavePacket_commit, frameBits_nats]
    rfl
  · refine slaveFrame_runs fun d ⟨active, taken, en, woke, mode, room, quiet⟩ => ⟨quiet, ?_, rfl⟩
    rw [slaveFrame_whole ⟨active, taken, en, woke, mode, room⟩ (frameBits_pos full x) ((nats_length bytes).trans_le short) (Fin.val_eq_zero_iff.mpr whole),
      slavePacket_partial, frameBits_nats]
    rfl
  · refine slaveFrame_runs fun d ⟨active, taken, en, woke, mode, room, quiet⟩ => ⟨quiet, ?_, rfl⟩
    rw [slaveFrame_cut ⟨active, taken, en, woke, mode, room⟩ (frameBits_pos full x) ((nats_length bytes).trans_le short) (Fin.val_ne_zero_iff.mpr cut),
      if_pos rfl, frameBits_nats]
    rfl
  · refine slaveFrame_runs fun d ⟨active, taken, en, woke, mode, room, quiet⟩ => ⟨quiet, ?_, rfl⟩
    rw [slaveFrame_cut ⟨active, taken, en, woke, mode, room⟩ (frameBits_pos full x) ((nats_length bytes).trans_le short) (Fin.val_ne_zero_iff.mpr cut),
      if_neg (by decide), slavePacket_partial, frameBytes, if_neg (Fin.val_ne_zero_iff.mpr cut), frameBits_nats]
    rfl
  · refine slaveFrame_runs fun d ⟨active, taken, en, woke, mode, room, quiet⟩ => ⟨quiet, ?_, rfl⟩
    rw [slaveFrame_long ⟨active, taken, en, woke, mode, room⟩ (frameBits_pos full x) (long.trans_eq (nats_length bytes).symm), frameBits_nats]
    rfl
  · refine slaveFrame_runs fun d ⟨active, taken, en, woke, mode, room, quiet⟩ => ⟨quiet, ?_, rfl⟩
    rw [slaveFrame_noBuffer ⟨active, taken, en, woke, mode, room⟩ (frameBits_pos full x), frameBits_nats]
    rfl
  · refine slaveFrame_runs fun d ⟨active, woke, off, quiet⟩ => ⟨quiet, ?_, rfl⟩
    rw [slaveFrame_refused _ _ active woke off, frameBits_nats]
    rfl
  · refine slaveFrame_runs fun d ⟨active, woke, quiet⟩ => ⟨quiet, ?_, rfl⟩
    rw [slaveFrame_woke _ _ active woke, frameBits_nats]
    rfl
  · exact slaveFrame_runs fun d ⟨idle, quiet⟩ => ⟨quiet, slaveFrame_idle _ _ idle, rfl⟩
  -- SP_STX_WRITE and SP_SCNT_CLEAR
  · exact runs_of_onDev (exec_spStxWrite b) fun d room => spStxWrite_room b room
  · exact runs_of_onDev (exec_spStxWrite b) fun d full => spStxWrite_full _ full
  · exact runs_of_onDev exec_spScntClear fun d _ => rfl

end Sys2Proof.Proofs
end

section
/-! PROOFS. Time: the idle step, and the reads of TLT [00 R8; 03 R59, R60; 10 R190; 14 R273]. -/

namespace Sys2Proof.Proofs

open Sys2Proof.Machine Sys2Proof.Laws

/-! ### TLT [03 R59, R60] -/

/-- TLT counts in Run, in Hold, and in the reset ladder once the PLL has locked. -/
theorem tltCounts_of {d : Dev} (h : d.ck.ladder = .run ∨ d.ck.ladder = .hold ∨ (d.ck.ladder = .resetting ∧ d.r F.CK_STAT_PLLLOCK ≠ 0)) :
    tltCounts d = true := by
  unfold tltCounts
  rcases h with h | h | ⟨h, locked⟩
  · rw [h]
  · rw [h]
  · simp [h, b_of_ne locked]

theorem tltStands_of {d : Dev} (h : d.ck.ladder = .nap ∨ d.ck.ladder = .fallow ∨ d.ck.ladder = .dormant ∨ d.ck.ladder = .waking) :
    tltCounts d = false := by
  unfold tltCounts
  rcases h with h | h | h | h <;> rw [h]

theorem asleep_not_awake {d : Dev} (h : d.ck.ladder = .nap ∨ d.ck.ladder = .fallow ∨ d.ck.ladder = .dormant ∨ d.ck.ladder = .waking) :
    d.awake = false := by
  rcases h with h | h | h | h <;> simp [Dev.awake, h]

/-! ### The end of an FCLK cycle [10 R190; 14 R273] -/

/-- The model time one nanosecond on lies in the next FCLK cycle where it is a multiple of 4 from the clock's edge. -/
theorem fclk_next_iff (d : Dev) : d.fclk d.ns < d.fclk (d.ns + 1) ↔ (d.ns + 1 + d.ck.phase) % 4 = 0 := by
  unfold Dev.fclk
  omega

theorem step_idle (d : Dev) : step ⟨d, []⟩ = .next ⟨tick d, []⟩ := rfl

/-- One nanosecond of model time, which TLT counts where it counts. -/
def nsPasses (d : Dev) : Dev := { d with ns := d.ns + 1, tlt := if tltCounts d then (d.tlt + 1) % tltMod else d.tlt }

theorem nsPasses_counts {d : Dev} (h : tltCounts d = true) : nsPasses d = { d with ns := d.ns + 1, tlt := (d.tlt + 1) % 2 ^ 48 } := by
  rw [nsPasses, if_pos h]
  rfl

theorem nsPasses_stands {d : Dev} (h : tltCounts d = false) : nsPasses d = { d with ns := d.ns + 1 } := by
  rw [nsPasses, if_neg (Bool.eq_false_iff.mp h)]

theorem tick_inCycle {d : Dev} (h : ¬ (d.ns + 1 + d.ck.phase) % 4 = 0) : tick d = nsPasses d := by
  unfold tick
  rw [if_neg (mt (fclk_next_iff d).mp h)]
  rfl

theorem tick_atEnd {d : Dev} (h : (d.ns + 1 + d.ck.phase) % 4 = 0) : tick d = nsPasses (cycleEnd d) := by
  unfold tick
  rw [if_pos ((fclk_next_iff d).mpr h)]
  rfl

theorem queueCycle_asleep {d : Dev} (h : d.awake = false) : queueCycle d = d := by simp [queueCycle, h]

theorem qWriteNext_none {i : Fin 2} {d : Dev} (h : (d.q i).left = []) : qWriteNext i d = d := by simp [qWriteNext, h]

theorem queueCycle_unstaged {d : Dev} (h0 : d.q0.left = []) (h1 : d.q1.left = []) : queueCycle d = d := by
  unfold queueCycle
  split
  · rw [qWriteNext_none (i := 0) h0, qWriteNext_none (i := 1) h1]
  · rfl

/-- Q0 once the byte `b` has left the staged packet, of which `r` is left, for the half-packed word. -/
def byteJoined (b : Nat) (r : List Nat) (q : Queue) : Queue := { q with left := r, half := q.half ++ [b % 256] }

/-- A byte of a packet that neither ends it nor completes its word joins the half-packed word. -/
theorem qWriteNext_joins {d : Dev} {b : Nat} {r : List Nat} (left : d.q0.left = b :: r) (more : r ≠ []) (keeps : d.q0.discard = false)
    (room : d.q0.half.length < 3) : qWriteNext 0 d = { d with q0 := byteJoined b r d.q0 } := by
  have goesOn : r.isEmpty = false := by simp [more]
  have short : d.q0.half.length ≠ 3 := by omega
  simp [qWriteNext, qByte, Dev.q, Dev.onQ, byteJoined, left, keeps, goesOn, short]

theorem queueCycle_joins {d : Dev} {b : Nat} {r : List Nat} (awake : d.awake = true) (left : d.q0.left = b :: r) (more : r ≠ [])
    (keeps : d.q0.discard = false) (room : d.q0.half.length < 3) (h1 : d.q1.left = []) :
    queueCycle d = { d with q0 := byteJoined b r d.q0 } := by
  rw [queueCycle, if_pos awake, qWriteNext_joins left more keeps room]
  exact qWriteNext_none (i := 1) h1

theorem cycleEnd_of {d e : Dev} (h : queueCycle d = e) : cycleEnd d = { e with seen := peLook e } := by rw [cycleEnd, h]

/-- Settles O3: the idle step is the tick, which asks whether TLT counts and whether an FCLK cycle ends; at its end only a staged packet's next byte and
the sampling of the pin engines come to pass. -/
theorem timePassesWhenNothingWaits : Obligations.TimePassesWhenNothingWaits := by
  unfold Obligations.TimePassesWhenNothingWaits
  intro counts stands ends none
  refine ⟨fun d c e => ?_, fun d s e => ?_, fun d c e n => ?_, fun d s e => ?_, fun d b r run e left more keeps room left1 => ?_⟩
  · rw [step_idle, tick_inCycle e, nsPasses_counts (tltCounts_of c)]
  · rw [step_idle, tick_inCycle e, nsPasses_stands (tltStands_of s)]
  · have counted : tltCounts { d with seen := peLook d } = true := tltCounts_of c
    rw [step_idle, tick_atEnd e, cycleEnd_of (queueCycle_unstaged n.1 n.2), nsPasses_counts counted]
  · have stood : tltCounts { d with seen := peLook d } = false := tltStands_of s
    rw [step_idle, tick_atEnd e, cycleEnd_of (queueCycle_asleep (asleep_not_awake s)), nsPasses_stands stood]
  · have awake : d.awake = true := by simp [Dev.awake, run]
    have counted : tltCounts { d with q0 := byteJoined b r d.q0, seen := peLook d } = true := tltCounts_of (.inl run)
    rw [step_idle, tick_atEnd e, cycleEnd_of (queueCycle_joins awake left more keeps room left1)]
    exact congrArg (fun t => Host.Outcome.next (State.mk t [])) (nsPasses_counts counted)

/-! ### CK_TLTL and CK_TLTH [03 R60] -/

theorem busRead_tltl (d : Dev) : busRead 0x40000020 d = ckTltlRead d := rfl

/-- CK_TLTH holds one field, which no live bits join. -/
theorem busRead_tlth (d : Dev) : busRead 0x40000024 d = { d with rd := d.r F.CK_TLTH_TLT } := by
  have one : fldsAt 0x40000024 = [F.CK_TLTH_TLT] := by decide +kernel
  have word : plainRead d 0x40000024 + liveRead d 0x40000024 = d.r F.CK_TLTH_TLT := by
    simp [plainRead, one, liveRead, F.CK_TLTH_TLT]
  rw [← word]
  rfl

/-- Settles O10: the read of CK_TLTL latches the high part of TLT into the one field of CK_TLTH. -/
theorem tltReads : Obligations.TltReads := by
  unfold Obligations.TltReads
  refine ⟨runs_of_onDev (g := ckTltlRead) (fun _ => rfl) fun _ _ => rfl, busRead_tltl, busRead_tlth, fun d fits => ?_⟩
  have latched : (d.w F.CK_TLTH_TLT (d.tlt / 2 ^ 32)).r F.CK_TLTH_TLT = d.tlt / 2 ^ 32 := by
    rw [r_w_same, show F.CK_TLTH_TLT.width = 16 from rfl]
    omega
  rw [busRead_tlth, busRead_tltl]
  exact latched

end Sys2Proof.Proofs
end

section
/-! PROOFS. What the output and communication blocks leave alone: the clocks, the core, memory, OTP, Q0, the Sower, and the registers of the blocks CK,
SYS, OT, KY, TP and SW [03; 06; 16-21]. -/

namespace Sys2Proof.Proofs

open Sys2Proof.Machine Sys2Proof.Laws

/-! ### A field beside the output blocks [09 Table AS-1] -/

/-- A field of the blocks CK, SYS, OT, KY, TP and SW. -/
abbrev Kept (f : Fld) : Prop := f.key < 32 * 0x40005000 ∨ (32 * 0x4000C000 ≤ f.key ∧ f.key < 32 * 0x4000D000)

/-- From `d` to `t` only output and communication blocks have moved. -/
structure Aside (d t : Dev) : Prop where
  ck : t.ck = d.ck
  co : t.co = d.co
  mem : t.mem = d.mem
  tlt : t.tlt = d.tlt
  ns : t.ns = d.ns
  sw : t.sw = d.sw
  ot : t.ot = d.ot
  q0 : t.q0 = d.q0
  r : ∀ f : Fld, Kept f → t.r f = d.r f

theorem Aside.refl (d : Dev) : Aside d d := ⟨rfl, rfl, rfl, rfl, rfl, rfl, rfl, rfl, fun _ _ => rfl⟩

theorem Aside.trans {d e t : Dev} (h : Aside d e) (k : Aside e t) : Aside d t :=
  ⟨k.ck.trans h.ck, k.co.trans h.co, k.mem.trans h.mem, k.tlt.trans h.tlt, k.ns.trans h.ns, k.sw.trans h.sw, k.ot.trans h.ot, k.q0.trans h.q0,
    fun f hf => (k.r f hf).trans (h.r f hf)⟩

theorem Aside.b {d t : Dev} (h : Aside d t) {f : Fld} (hf : Kept f) : t.b f = d.b f := by rw [Dev.b, Dev.b, h.r f hf]

/-- A device that differs in the state of such blocks alone. -/
theorem aside_blocks {d t : Dev} (h : t = { d with
    rd := t.rd, draws := t.draws, q1 := t.q1, qp := t.qp, qm := t.qm, ua := t.ua, gr := t.gr, ld := t.ld, bd := t.bd, hp := t.hp, en := t.en,
    pe := t.pe, seen := t.seen, gpWas := t.gpWas, sr := t.sr, com := t.com, sp := t.sp, ky := t.ky, st := t.st, bt := t.bt, lg := t.lg }) : Aside d t := by
  rw [h]
  exact ⟨rfl, rfl, rfl, rfl, rfl, rfl, rfl, rfl, fun _ _ => rfl⟩

theorem aside_onH (d : Dev) (p : Nat) (g : Head → Head) : Aside d (d.onH p g) := aside_blocks rfl
theorem aside_onB (d : Dev) (b : Nat) (g : BankOut → BankOut) : Aside d (d.onB b g) := aside_blocks rfl
theorem aside_onR (d : Dev) (g : Ring → Ring) : Aside d (d.onR g) := aside_blocks rfl
theorem aside_onSp (d : Dev) (g : Serial → Serial) : Aside d (d.onSp g) := aside_blocks rfl
theorem aside_onSt (d : Dev) (g : Interp → Interp) : Aside d (d.onSt g) := aside_blocks rfl

theorem aside_w (d : Dev) {g : Fld} (v : Nat) (h : ¬ Kept g) : Aside d (d.w g v) :=
  ⟨rfl, rfl, rfl, rfl, rfl, rfl, rfl, rfl, fun f hf => r_w_other d v fun e => h (by rwa [Kept, ← e])⟩

theorem aside_set (d : Dev) {g : Fld} (h : ¬ Kept g) : Aside d (d.set g) := aside_w d 1 h
theorem aside_clr (d : Dev) {g : Fld} (h : ¬ Kept g) : Aside d (d.clr g) := aside_w d 0 h
theorem aside_inc (d : Dev) {g : Fld} (h : ¬ Kept g) : Aside d (d.inc g) := aside_w d _ h
theorem aside_addSat (d : Dev) {g : Fld} (n : Nat) (h : ¬ Kept g) : Aside d (d.addSat g n) := aside_w d _ h

theorem aside_ite {d e t : Dev} {c : Prop} [Decidable c] (h : Aside d e) (k : Aside d t) : Aside d (if c then e else t) := by
  split
  · exact h
  · exact k

/-! ### An operation for every number of a list -/

/-- What every application keeps, all of them keep. -/
theorem forAll_keeps {P : Dev → Prop} {f : Nat → Dev → Dev} {l : List Nat} (keeps : ∀ n d, n ∈ l → P d → P (f n d)) {d : Dev} (h : P d) :
    P (forAll l f d) := by
  induction l generalizing d with
  | nil => exact h
  | cons n l ih => exact ih (fun k e hk => keeps k e (List.mem_cons_of_mem n hk)) (keeps n d List.mem_cons_self h)

/-- What no application changes, all of them leave. -/
theorem forAll_same {β : Sort*} (F : Dev → β) {f : Nat → Dev → Dev} {l : List Nat} (same : ∀ n d, n ∈ l → F (f n d) = F d) (d : Dev) :
    F (forAll l f d) = F d :=
  forAll_keeps (P := fun e => F e = F d) (fun n e hn he => (same n e hn).trans he) rfl

/-- What the application for `p` brings about and every application keeps holds after all of them. -/
theorem forAll_reaches {P : Dev → Prop} {f : Nat → Dev → Dev} {p : Nat} (keeps : ∀ n d, P d → P (f n d)) (sets : ∀ d, P (f p d)) {l : List Nat}
    (mem : p ∈ l) (d : Dev) : P (forAll l f d) := by
  induction l generalizing d with
  | nil => cases mem
  | cons n l ih =>
    rcases List.mem_cons.mp mem with rfl | later
    · exact forAll_keeps (l := l) (fun k e _ => keeps k e) (sets d)
    · exact ih later _

theorem aside_forAll {f : Nat → Dev → Dev} (h : ∀ n d, Aside d (f n d)) (l : List Nat) (d : Dev) : Aside d (forAll l f d) :=
  forAll_keeps (P := Aside d) (fun n e _ he => he.trans (h n e)) (.refl d)

/-! ### Event records, light and lines [10 R193; 18] -/

theorem aside_evRecordAt (t c u x a : Nat) (d : Dev) : Aside d (evRecordAt t c u x a d) :=
  aside_ite (aside_blocks rfl) ((aside_set d (by decide)).trans (aside_inc _ (by decide)))

theorem aside_evRecord (t c u a : Nat) (d : Dev) : Aside d (evRecord t c u a d) := aside_evRecordAt ..

theorem aside_releaseLine (b r t : Nat) (d : Dev) : Aside d (releaseLine b r t d) := aside_onB ..

theorem aside_releaseLines (l : List Nat) (d : Dev) : Aside d (releaseLines l d) :=
  aside_forAll (fun b e => aside_forAll (fun r e => aside_releaseLine b r e.ns e) (e.bo b).lines e) l d

theorem aside_sinkOff (c t : Nat) (d : Dev) : Aside d (sinkOff c t d) := aside_blocks rfl

theorem not_kept_lit (b : Nat) : ¬ Kept (F.LD_BSTAT_LIT b) := by simp only [Kept, Fld.key, F.LD_BSTAT_LIT]; omega
theorem not_kept_state (b : Nat) : ¬ Kept (F.LD_BSTAT_STATE b) := by simp only [Kept, Fld.key, F.LD_BSTAT_STATE]; omega
theorem not_kept_vth (b : Nat) : ¬ Kept (F.BD_BSAG_VTH b) := by simp only [Kept, Fld.key, F.BD_BSAG_VTH]; omega

/-- The aiming pulses of bank `b` end. -/
def aimOff (b : Nat) (d : Dev) : Dev :=
  forAll ((d.bo b).aim.map Prod.fst) (fun c d => sinkOff c d.ns d) ((d.w (F.LD_BSTAT_LIT b) 0).onB b fun o => { o with aim := [] })

/-- The trigger of port `p` falls. -/
def trigOff (p : Nat) (d : Dev) : Dev := d.onH p fun h => { h with trig := false }

theorem aside_aimOff (b : Nat) (d : Dev) : Aside d (aimOff b d) :=
  ((aside_w d 0 (not_kept_lit b)).trans (aside_onB ..)).trans (aside_forAll (fun c e => aside_sinkOff c e.ns e) _ _)

/-- Where no occurrence fires, aiming pulses and triggers are all there is to end. -/
theorem endAllLight_unfired {d : Dev} (h : slotsIf d (fun s => decide (s.st = .firing)) = []) :
    endAllLight d = forAll (List.range 6) trigOff (forAll (List.range 6) aimOff d) := by
  unfold endAllLight
  rw [h]
  rfl

theorem aside_endAllLight {d : Dev} (h : slotsIf d (fun s => decide (s.st = .firing)) = []) : Aside d (endAllLight d) := by
  rw [endAllLight_unfired h]
  exact (aside_forAll aside_aimOff _ d).trans (aside_forAll (fun _ _ => aside_onH ..) _ _)

theorem slotsIf_noSlots {d : Dev} (h : d.sw.slots = []) (p : Slot → Bool) : slotsIf d p = [] := by simp [slotsIf, h]

theorem aside_lightOff {d : Dev} (h : d.sw.slots = []) : Aside d (lightOff d) :=
  (aside_endAllLight (slotsIf_noSlots h _)).trans (aside_releaseLines _ _)

theorem aside_assertLine (b r : Nat) (d : Dev) : Aside d (assertLine b r d) := by
  unfold assertLine
  refine aside_ite (.refl d) ?_
  have lit : Aside d ((if (assertedLines d).contains r then d else { d with ld := { d.ld with lineSince := Tab.put d.ld.lineSince r d.ns } }).onB b
      fun o => { o with lines := o.lines ++ [r] }) := (aside_ite (.refl d) (aside_blocks rfl)).trans (aside_onB ..)
  refine lit.trans (aside_ite ?_ (.refl _))
  have overlap (e : Dev) : Aside e ((e.set F.LD_EV_XSCAN).inc F.LD_SCSTAT_XCNT) := (aside_set e (by decide)).trans (aside_inc _ (by decide))
  exact (overlap _).trans (aside_ite (aside_evRecord ..) (.refl _))

theorem aside_aimRefresh (b : Nat) (d : Dev) : Aside d (aimRefresh b d) := by
  have releases (l : List Nat) (e : Dev) : Aside e (forAll l (fun x e => releaseLine b x e.ns e) e) :=
    aside_forAll (fun x e => aside_releaseLine b x e.ns e) l e
  have state : Aside d (if d.r (F.LD_BSTAT_STATE b) = 1 then d
      else d.w (F.LD_BSTAT_STATE b) (if (chansOf b 0xFF).any fun c => dutyOf d c ≠ 0 then 2 else 0)) :=
    aside_ite (.refl d) (aside_w d _ (not_kept_state b))
  exact state.trans <| aside_ite ((releases _ _).trans (aside_assertLine ..)) (aside_ite (.refl _) (releases _ _))

theorem aside_vthRefresh (b : Nat) (d : Dev) : Aside d (vthRefresh b d) := aside_ite (aside_w d _ (not_kept_vth b)) (.refl d)

/-! ### Heads [20] -/

theorem not_kept_nolight (p : Nat) : ¬ Kept (F.HP_STAT_NOLIGHT p) := by simp only [Kept, Fld.key, F.HP_STAT_NOLIGHT]; omega
theorem not_kept_tlost (p : Nat) : ¬ Kept (F.HP_CNT_TLOST p) := by simp only [Kept, Fld.key, F.HP_CNT_TLOST]; omega
theorem not_kept_astale (p : Nat) : ¬ Kept (F.HP_CNT_ASTALE p) := by simp only [Kept, Fld.key, F.HP_CNT_ASTALE]; omega
theorem not_kept_prsraw (p : Nat) : ¬ Kept (F.HP_STAT_PRSRAW p) := by simp only [Kept, Fld.key, F.HP_STAT_PRSRAW]; omega

theorem aside_queueTaint (p : Nat) (l : List Nat) (d : Dev) : Aside d (queueTaint p l d) :=
  aside_ite (aside_ite (aside_onH ..) (aside_inc d (not_kept_tlost p))) (.refl d)

theorem aside_noLight (s : Slot) (d : Dev) : Aside d (noLight s d) := by
  unfold noLight
  split
  · exact .refl d
  · rename_i p _
    split
    · exact .refl d
    · have taint (e : Dev) : Aside e (if s.verdict.isNone then queueTaint p (taintPayload s 3) e else e) := aside_ite (aside_queueTaint ..) (.refl e)
      exact ((aside_set d (not_kept_nolight p)).trans (taint _)).trans (aside_ite (aside_evRecordAt ..) (.refl _))

theorem aside_dropStale (p : Nat) (d : Dev) : Aside d (dropStale p d) :=
  aside_ite (.refl d) ((aside_onH ..).trans (aside_addSat _ _ (not_kept_astale p)))

/-- The clock of port `p` runs again. -/
def headResume (p : Nat) (d : Dev) : Dev :=
  dropStale p ((d.w (F.HP_STAT_PRSRAW p) (bit (d.head p).raw)).onH p fun h => if h = {} then h else { h with rawSince := d.ns })

theorem aside_headsResume (d : Dev) : Aside d (headsResume d) :=
  aside_forAll (f := headResume) (fun p e => ((aside_w e _ (not_kept_prsraw p)).trans (aside_onH ..)).trans (aside_dropStale p _)) _ d

theorem dropStale_st (p : Nat) (d : Dev) : (dropStale p d).st = d.st := by
  unfold dropStale
  simp only
  split <;> rfl

theorem headsResume_st (d : Dev) : (headsResume d).st = d.st :=
  forAll_same Dev.st (f := headResume) (fun p _ _ => dropStale_st p _) d

/-! ### The core's supply [07 R139, R140] -/

theorem aside_aimAt (t : Nat) (d : Dev) : Aside d (d.aimAt t) :=
  aside_ite (.refl d) (aside_ite (aside_w d t (by decide)) ((aside_w d t (by decide)).trans (aside_clr _ (by decide))))

theorem aimAt_st (t : Nat) (d : Dev) : (d.aimAt t).st = d.st := by
  unfold Dev.aimAt
  split
  · rfl
  · split <;> rfl

/-! ### The ring [21] -/

theorem aside_tunnelSent (d : Dev) : Aside d (tunnelSent d) := by
  unfold tunnelSent
  split
  · exact .refl d
  · exact aside_ite (.refl d) (aside_blocks rfl)

theorem aside_setState (n : Nat) (d : Dev) : Aside d (setState n d) :=
  (aside_w d n (by decide)).trans (aside_ite (.refl _) ((aside_onR ..).trans (aside_tunnelSent _)))

theorem slotsIf_unarmed {d : Dev} (h : armedAll d = 0) {p : Slot → Bool} (busy : ∀ s, p s = true → s.busy = true) : slotsIf d p = [] := by
  have none : d.sw.slots.filter (fun e => Slot.busy e.2) = [] := by simpa [armedAll, slotsIf] using h
  rw [slotsIf, List.map_eq_nil_iff, List.filter_eq_nil_iff]
  exact fun e he hp => List.filter_eq_nil_iff.mp none e he (busy _ hp)

/-- Where no slot is armed, none is withdrawn. -/
theorem withdrawSource_unarmed (src : Nat) {d : Dev} (h : armedAll d = 0) : withdrawSource src d = d := by
  unfold withdrawSource
  rw [slotsIf_unarmed h]
  · rfl
  · intro s hs
    have st : s.st = .armed ∨ s.st = .set := (of_decide_eq_true hs).1
    rcases st with st | st <;> simp [Slot.busy, st]

theorem armedAll_onR (d : Dev) (g : Ring → Ring) : armedAll (d.onR g) = armedAll d := rfl

theorem aside_ringStops {d : Dev} (h : armedAll d = 0) : Aside d (ringStops d) := by
  unfold ringStops
  refine aside_ite ?_ (.refl d)
  rw [withdrawSource_unarmed 2 ((armedAll_onR d _).trans h)]
  exact aside_onR ..

theorem aside_ringLeave {d : Dev} (h : armedAll d = 0) : Aside d (ringLeave d) :=
  aside_ite (.refl d) (((aside_ringStops h).trans ((aside_onR ..).trans (aside_onR ..))).trans (aside_setState 4 _))

theorem aside_ringQuit {d : Dev} (h : armedAll d = 0) : Aside d (ringQuit d) := by
  unfold ringQuit
  split
  · exact aside_ringLeave h
  · exact (aside_ringLeave h).trans (aside_onR ..)

/-! ### The interpreter's lines [11 R217, R218, R220] -/

theorem aside_flushN (n : Nat) (d : Dev) : Aside d (flushN n d) := by
  induction n generalizing d with
  | zero => exact .refl d
  | succ n ih =>
    unfold flushN
    split
    · exact .refl d
    · refine aside_ite (.refl d) (aside_ite (((aside_onSt ..).trans (aside_onR ..)).trans (ih _)) (aside_ite (Aside.trans ?_ (ih _)) (.refl d)))
      exact (aside_onSt d _).trans (aside_ite (aside_blocks rfl) (aside_onSp ..))

theorem aside_flushOut (d : Dev) : Aside d (flushOut d) := aside_flushN _ d

theorem aside_sendEvent (l : List Nat) (d : Dev) : Aside d (sendEvent l d) := (aside_onSt d _).trans (aside_flushOut _)

theorem aside_holdEvent (l : List Nat) (d : Dev) : Aside d (holdEvent l d) := aside_ite (aside_inc d (by decide)) (aside_onSt ..)

theorem aside_flushEventsN (n : Nat) (d : Dev) : Aside d (flushEventsN n d) := by
  induction n generalizing d with
  | zero => exact .refl d
  | succ n ih =>
    unfold flushEventsN
    split
    · exact .refl d
    · refine aside_ite (Aside.trans ?_ (ih _)) (.refl d)
      exact (aside_onSt d _).trans (aside_ite (aside_inc _ (by decide)) (aside_sendEvent ..))

theorem aside_flushEvents (d : Dev) : Aside d (flushEvents d) := aside_flushEventsN _ d

theorem aside_monitorEvent (i : Nat) (l : List (List Nat)) (d : Dev) : Aside d (monitorEvent i l d) :=
  aside_ite ((aside_holdEvent _ d).trans (aside_ite ((aside_flushOut _).trans (aside_flushEvents _)) (.refl _))) (.refl d)

end Sys2Proof.Proofs
end

section
/-! PROOFS. The PLL and its references: CK_ROOT.SEL, lock and unlock, the ring clock and holdover [03 R42, R61, R63]. -/

namespace Sys2Proof.Proofs

open Sys2Proof.Machine Sys2Proof.Laws

/-! ### CK_ROOT.SEL [03 R42] -/

/-- The write `v` of CK_ROOT.SEL takes: it changes SEL, no slot is armed, and a 1 finds RINGOK and a recovered clock. -/
abbrev RootFits (v : Bool) (d : Dev) : Prop :=
  bit v ≠ d.r F.CK_ROOT_SEL ∧ armedAll d = 0 ∧ (v = true → d.r F.CK_CFG_RINGOK ≠ 0 ∧ d.r F.CK_STAT_RINGCLK ≠ 0)

theorem ckRootSel_refused_iff (v : Bool) (d : Dev) :
    (bit v = d.r F.CK_ROOT_SEL ∨ (bit v = 1 ∧ ¬(d.b F.CK_CFG_RINGOK ∧ d.b F.CK_STAT_RINGCLK)) ∨ armedAll d ≠ 0) ↔ ¬ RootFits v d := by
  cases v <;> simp [RootFits, bit, Dev.b] <;> tauto

theorem ckRootSelWrite_takes {v : Bool} {d : Dev} (h : RootFits v d) :
    ckRootSelWrite (bit v) d = ((d.w F.CK_ROOT_SEL (bit v)).set F.CK_ROOT_BUSY).onCk fun c => { c with holdEnd := none } :=
  if_neg fun refused => (ckRootSel_refused_iff v d).mp refused h

theorem ckRootSelWrite_refused {v : Bool} {d : Dev} (h : ¬ RootFits v d) : ckRootSelWrite (bit v) d = d :=
  if_pos ((ckRootSel_refused_iff v d).mpr h)

/-! ### The PLL's lock [03 R42, R61] -/

theorem awake_iff (d : Dev) : d.awake = true ↔ d.ck.ladder = .run ∨ d.ck.ladder = .hold := decide_eq_true_iff

theorem pllLock_awake {v : Bool} {d : Dev} (awake : d.ck.ladder = .run ∨ d.ck.ladder = .hold) (ref : d.ck.xrun = true ∨ d.r F.CK_ROOT_SEL ≠ 0)
    (idle : d.ck.holdEnd = none) :
    pllLock v d = (((d.set F.CK_STAT_PLLLOCK).clr F.CK_ROOT_BUSY).w F.CK_STAT_ROOT (d.r F.CK_ROOT_SEL)).clr F.CK_STAT_HOLDOVER := by
  have refers : ¬ (d.ck.xrun = false ∧ d.r F.CK_ROOT_SEL = 0) := by rcases ref with h | h <;> simp [h]
  unfold pllLock
  rcases awake with h | h <;> simp [h, refers, idle]

/-! ### The ring clock [03 R63] -/

theorem ringClockLoss_asRoot {d : Dev} (awake : d.awake = true) (sel : d.r F.CK_ROOT_SEL = 1) (idle : d.ck.holdEnd = none) :
    ringClockLoss d =
      ckRecord 2 0 ((((d.clr F.CK_STAT_RINGCLK).set F.CK_STAT_RLOSS).set F.CK_STAT_HOLDOVER).onCk fun c => { c with holdEnd := some (d.ns + 20000) }) := by
  have same : (d.clr F.CK_STAT_RINGCLK).r F.CK_ROOT_SEL = 1 := (clr_r_other d (by decide)).trans sel
  exact if_pos ⟨awake, same, by simp [idle]⟩

theorem ringClockLoss_unused {d : Dev} (h : d.awake = false ∨ d.r F.CK_ROOT_SEL ≠ 1) : ringClockLoss d = d.clr F.CK_STAT_RINGCLK := by
  have same : (d.clr F.CK_STAT_RINGCLK).r F.CK_ROOT_SEL = d.r F.CK_ROOT_SEL := clr_r_other d (by decide)
  refine if_neg fun ⟨awake, sel, _⟩ => ?_
  rcases h with asleep | other
  · exact Bool.eq_false_iff.mp asleep awake
  · exact other (same.symm.trans sel)

theorem holdoverEnd_due {d : Dev} {e : Nat} (h : d.ck.holdEnd = some e) (due : e ≤ d.ns) : holdoverEnd d =
    (((d.w F.CK_ROOT_SEL 0).set F.CK_ROOT_BUSY).clr F.CK_STAT_HOLDOVER).onCk fun c => { c with holdEnd := none } := by
  simp only [holdoverEnd, h, if_pos due]

theorem holdoverEnd_early {d : Dev} {e : Nat} (h : d.ck.holdEnd = some e) (early : d.ns < e) : holdoverEnd d = d := by
  simp only [holdoverEnd, h, if_neg (Nat.not_le.mpr early)]

/-! ### Tables whose values a map changes -/

/-- The value under `k` once every value is changed by `g` and those that equal the default are dropped. -/
theorem tab_getD_mapped {α : Type} [DecidableEq α] (g : Nat → α → α) (z : α) (t : Tab α) {k : Nat} (absent : g k z = z)
    (listed : g k (Tab.getD t k z) ≠ z) :
    Tab.getD ((t.map fun e => (e.1, g e.1 e.2)).filter fun e => decide (e.2 ≠ z)) k z = g k (Tab.getD t k z) := by
  induction t with
  | nil => exact absurd absent listed
  | cons e t ih =>
    obtain ⟨j, v⟩ := e
    by_cases here : j = k
    · subst here
      have stays : g j v ≠ z := by simpa [Tab.getD, Tab.get?] using listed
      simp [Tab.getD, Tab.get?, stays]
    · have skip (w : α) (r : Tab α) : Tab.getD ((j, w) :: r) k z = Tab.getD r k z := by simp [Tab.getD, Tab.get?, here]
      rw [skip] at listed ⊢
      rw [List.map_cons]
      by_cases stays : g j v ≠ z
      · rw [List.filter_cons_of_pos (by simpa using stays), skip, ih listed]
      · rw [List.filter_cons_of_neg (by simpa using stays), ih listed]

/-- What a freeze makes of a furrow: points that pass from now on count with cause `c`, but in FALLOW. -/
def passed (c : Nat) (u : Furrow) : Furrow := if u.state = .fallow then u else { u with pass := c }

theorem passAs_fu {c f : Nat} {d : Dev} (listed : passed c (d.fu f) ≠ {}) : (passAs c d).fu f = passed c (d.fu f) :=
  tab_getD_mapped (fun _ u => passed c u) {} d.sw.furrows rfl listed

theorem passAs_sown {c f : Nat} {d : Dev} (h : (d.fu f).state ≠ .fallow) : (passAs c d).fu f = { d.fu f with pass := c } := by
  have kept : passed c (d.fu f) = { d.fu f with pass := c } := if_neg h
  rw [← kept]
  refine passAs_fu fun empty => h ?_
  have state : (passed c (d.fu f)).state = (d.fu f).state := by rw [kept]
  rw [← state, empty]

theorem passed_miss (c : Nat) (u : Furrow) : (passed c u).miss = u.miss := by unfold passed; split <;> rfl

theorem passAs_miss {c f : Nat} {d : Dev} (h : (d.fu f).miss ≠ 0) : ((passAs c d).fu f).miss = (d.fu f).miss := by
  rw [passAs_fu, passed_miss]
  intro empty
  rw [← passed_miss c, empty] at h
  exact h rfl

/-! ### All light ends [03 R61] -/

theorem bo_onB (d : Dev) (k b : Nat) (g : BankOut → BankOut) : (d.onB k g).bo b = if b = k then g (d.bo b) else d.bo b := by
  unfold Dev.bo Dev.onB
  by_cases h : b = k
  · subst h; simp [Dev.bo]
  · simp [h, tab_getD_setD_other d.ld.banks {} {} _ h]

theorem head_onH (d : Dev) (k p : Nat) (g : Head → Head) : (d.onH k g).head p = if p = k then g (d.head p) else d.head p := by
  unfold Dev.head Dev.onH
  by_cases h : p = k
  · subst h; simp [Dev.head]
  · simp [h, tab_getD_setD_other d.hp {} {} _ h]

/-- Bank `b` sends no aiming pulse once every bank's have ended. -/
theorem aimOff_all {b : Nat} (h : b < 6) (d : Dev) : ((forAll (List.range 6) aimOff d).bo b).aim = [] := by
  have sinks (l : List Nat) (e : Dev) : (forAll l (fun c e => sinkOff c e.ns e) e).bo = e.bo :=
    forAll_same Dev.bo (f := fun c e => sinkOff c e.ns e) (fun _ _ _ => rfl) e
  have step (k : Nat) (e : Dev) : ((aimOff k e).bo b).aim = if b = k then [] else (e.bo b).aim := by
    rw [aimOff, sinks, bo_onB]
    split <;> rfl
  refine forAll_reaches (P := fun e => (e.bo b).aim = []) (p := b) (fun k e he => ?_) (fun e => ?_) (List.mem_range.mpr h) d
  · simp only [step, he, ite_self]
  · simp only [step, if_true]

/-- Port `p` drives no trigger once every port's has fallen. -/
theorem trigOff_all {p : Nat} (h : p < 6) (d : Dev) : ((forAll (List.range 6) trigOff d).head p).trig = false := by
  refine forAll_reaches (P := fun e => (e.head p).trig = false) (p := p) (fun k e he => ?_) (fun e => ?_) (List.mem_range.mpr h) d
  · rw [trigOff, head_onH]
    split
    · rfl
    · exact he
  · rw [trigOff, head_onH, if_pos rfl]

theorem trigOffs_bo (l : List Nat) (d : Dev) : (forAll l trigOff d).bo = d.bo := forAll_same Dev.bo (f := trigOff) (fun _ _ _ => rfl) d

/-- Bank `b` releases the lines it asserts. -/
def releaseBank (b : Nat) (d : Dev) : Dev := forAll (d.bo b).lines (fun r d => releaseLine b r d.ns d) d

theorem releaseBank_head (b : Nat) (d : Dev) : (releaseBank b d).head = d.head :=
  forAll_same Dev.head (f := fun r e => releaseLine b r e.ns e) (fun _ _ _ => rfl) d

theorem releaseLine_aim (k r t b : Nat) (d : Dev) : ((releaseLine k r t d).bo b).aim = (d.bo b).aim := by
  rw [releaseLine, bo_onB]
  split
  · rename_i h; rw [h]
  · rfl

theorem releaseBank_aim (k b : Nat) (d : Dev) : ((releaseBank k d).bo b).aim = (d.bo b).aim :=
  forAll_same (fun e => (e.bo b).aim) (f := fun r e => releaseLine k r e.ns e) (fun r e _ => releaseLine_aim k r e.ns b e) d

theorem releaseLines_head (l : List Nat) (d : Dev) : (releaseLines l d).head = d.head :=
  forAll_same Dev.head (f := releaseBank) (fun b e _ => releaseBank_head b e) d

theorem releaseLines_aim (l : List Nat) (b : Nat) (d : Dev) : ((releaseLines l d).bo b).aim = (d.bo b).aim :=
  forAll_same (fun e => (e.bo b).aim) (f := releaseBank) (fun k e _ => releaseBank_aim k b e) d

/-! ### The PLL's unlock [03 R61] -/

/-- The device whose PLL has just lost its lock. -/
def unlocked (d : Dev) : Dev := (d.set F.CK_STAT_UNLOCK).clr F.CK_STAT_PLLLOCK

/-- Light ends at an unlock: the scan lines of banks that aim stand until their mode ends. -/
def lightEnds (d : Dev) : Dev := releaseLines ((List.range 6).filter fun b => decide (d.r (F.LD_BSTAT_STATE b) ≠ 2)) (endAllLight d)

theorem pllUnlock_none {d : Dev} (h : d.r F.CK_STAT_PLLLOCK = 0 ∨ (d.ck.xrun = false ∧ d.r F.CK_ROOT_SEL = 0)) : pllUnlock d = d := by
  refine if_pos (.inr ?_)
  rcases h with unlocked | lost
  · exact .inl (b_of_zero unlocked)
  · exact .inr lost

theorem pllUnlock_locked {d : Dev} (awake : d.awake = true) (locked : d.r F.CK_STAT_PLLLOCK = 1) (ref : d.ck.xrun = true ∨ d.r F.CK_ROOT_SEL ≠ 0) :
    pllUnlock d = passAs 3 (ckRecord 1 (slotsIf d fun s => decide (s.st = .armed ∨ s.st = .set)).length (cancelAll 3 (lightEnds (unlocked d)))) := by
  have holds : d.b F.CK_STAT_PLLLOCK = true := b_of_ne (by omega)
  refine if_neg ?_
  rcases ref with h | h <;> simp [awake, holds, h]

theorem aside_ckRecord (c a : Nat) (d : Dev) : Aside d (ckRecord c a d) := aside_ite (aside_evRecord ..) (.refl d)

theorem cancelAll_noSlots (c : Nat) {d : Dev} (h : d.sw.slots = []) : cancelAll c d = d := by
  rw [cancelAll, slotsIf_noSlots h]
  rfl

theorem lightEnds_aside {d : Dev} (h : slotsIf d (fun s => decide (s.st = .firing)) = []) : Aside d (lightEnds d) :=
  (aside_endAllLight h).trans (aside_releaseLines _ _)

theorem lightEnds_dark {d : Dev} (h : slotsIf d (fun s => decide (s.st = .firing)) = []) :
    (∀ p, p < 6 → ((lightEnds d).head p).trig = false) ∧ ∀ b, b < 6 → ((lightEnds d).bo b).aim = [] := by
  refine ⟨fun p hp => ?_, fun b hb => ?_⟩
  · rw [lightEnds, releaseLines_head, endAllLight_unfired h]
    exact trigOff_all hp _
  · rw [lightEnds, releaseLines_aim, endAllLight_unfired h, trigOffs_bo]
    exact aimOff_all hb d

theorem ckRecord_outputs (c a : Nat) (d : Dev) : (ckRecord c a d).head = d.head ∧ (ckRecord c a d).bo = d.bo := by
  unfold ckRecord
  split
  · unfold evRecord evRecordAt
    split <;> exact ⟨rfl, rfl⟩
  · exact ⟨rfl, rfl⟩

theorem unlocked_r (d : Dev) : (unlocked d).r F.CK_STAT_UNLOCK = 1 ∧ (unlocked d).r F.CK_STAT_PLLLOCK = 0 := by
  refine ⟨?_, clr_r_same _ _⟩
  rw [unlocked, clr_r_other _ (by decide), set_r_same _ rfl]

/-- An unlock with no slot in use ends light and changes how points that pass count, and nothing else of the Sower. -/
theorem pllUnlock_noSlots {d : Dev} (awake : d.awake = true) (locked : d.r F.CK_STAT_PLLLOCK = 1) (ref : d.ck.xrun = true ∨ d.r F.CK_ROOT_SEL ≠ 0)
    (free : d.sw.slots = []) : ∃ e, Aside (unlocked d) e ∧ pllUnlock d = passAs 3 e ∧ (∀ p, p < 6 → (e.head p).trig = false) ∧
      ∀ b, b < 6 → (e.bo b).aim = [] := by
  have unfired := slotsIf_noSlots (d := unlocked d) free (fun s => decide (s.st = .firing))
  have light := lightEnds_aside unfired
  obtain ⟨trig, aim⟩ := lightEnds_dark unfired
  rw [pllUnlock_locked awake locked ref, cancelAll_noSlots 3 ((congrArg Sower.slots light.sw).trans free)]
  refine ⟨_, light.trans (aside_ckRecord ..), rfl, ?_, ?_⟩
  · rw [(ckRecord_outputs ..).1]
    exact trig
  · rw [(ckRecord_outputs ..).2]
    exact aim

/-! ### An armed slot is cancelled as a miss [16 R321, R324] -/

/-- From `d` to `t` the slots, furrow `f`'s misses with their event, and the changes that wait stand, and so does memory. -/
structure SameMisses (f : Nat) (d t : Dev) : Prop where
  slots : t.sw.slots = d.sw.slots
  miss : (t.fu f).miss = (d.fu f).miss
  pend : t.sw.pend = d.sw.pend
  forcing : t.sw.forcing = d.sw.forcing
  mem : t.mem = d.mem
  ev : t.r F.SW_EV_MISS = d.r F.SW_EV_MISS

theorem SameMisses.refl (f : Nat) (d : Dev) : SameMisses f d d := ⟨rfl, rfl, rfl, rfl, rfl, rfl⟩

theorem SameMisses.trans {f : Nat} {d e t : Dev} (h : SameMisses f d e) (k : SameMisses f e t) : SameMisses f d t :=
  ⟨k.slots.trans h.slots, k.miss.trans h.miss, k.pend.trans h.pend, k.forcing.trans h.forcing, k.mem.trans h.mem, k.ev.trans h.ev⟩

theorem Aside.sameMisses {d t : Dev} (h : Aside d t) (f : Nat) : SameMisses f d t :=
  ⟨congrArg Sower.slots h.sw, by rw [Dev.fu, Dev.fu, h.sw], congrArg Sower.pend h.sw, congrArg Sower.forcing h.sw, h.mem, h.r _ (by decide)⟩

theorem fu_onF (d : Dev) (k f : Nat) (g : Furrow → Furrow) : (d.onF k g).fu f = if f = k then g (d.fu f) else d.fu f := by
  unfold Dev.fu Dev.onF
  by_cases h : f = k
  · subst h; simp [Dev.fu]
  · simp [h, tab_getD_setD_other d.sw.furrows {} {} _ h]

/-- A furrow changes in something else than its misses. -/
theorem sameMisses_onF (f k : Nat) (d : Dev) {g : Furrow → Furrow} (h : ∀ u, (g u).miss = u.miss) : SameMisses f d (d.onF k g) := by
  refine ⟨rfl, ?_, rfl, rfl, rfl, rfl⟩
  rw [fu_onF]
  split
  · exact h _
  · rfl

theorem furrowFreed_sameMisses (f k : Nat) (d : Dev) : SameMisses f d (furrowFreed k d) := by
  unfold furrowFreed
  simp only
  split
  · split
    · have idle := sameMisses_onF f k d (g := fun u => { u with state := .fallow, offp := false, needs := [] }) fun _ => rfl
      exact idle.trans (Aside.sameMisses (aside_blocks rfl) f)
    · exact sameMisses_onF f k d fun _ => rfl
  · exact .refl f d

/-- With no change waiting and no headland forced, a commit refreshes the bank's aiming and threshold alone. -/
theorem commitBank_quiet (f b : Nat) {d : Dev} (pend : d.sw.pend = []) (forcing : d.sw.forcing = []) : SameMisses f d (commitBank b d) := by
  have refresh (e : Dev) : Aside e (vthRefresh b (aimRefresh b e)) := (aside_aimRefresh b e).trans (aside_vthRefresh b _)
  have short (e : Dev) : Aside e (if (e.bo b).short then e.onB b fun o => { o with short := false } else e) := aside_ite (aside_onB ..) (.refl e)
  have same : SameMisses f d { d with sw := { d.sw with pend := d.sw.pend.filter fun p => !(p.banks.contains b && canCommit d p) } } :=
    ⟨rfl, rfl, by simp [pend], rfl, rfl, rfl⟩
  have waits (e : Dev) : SameMisses f e (if (Tab.get? e.sw.waitSince b).isNone then e
      else { e with sw := { e.sw with waitSince := if bankPend e b then Tab.put e.sw.waitSince b e.ns else Tab.erase e.sw.waitSince b } }) := by
    split
    · exact .refl f e
    · exact ⟨rfl, rfl, rfl, rfl, rfl, rfl⟩
  have committed := ((same.trans ((refresh _).sameMisses f)).trans ((short _).sameMisses f)).trans (waits _)
  have unforced {e : Dev} (h : SameMisses f d e) : forcedDone b e = e := by simp [forcedDone, h.forcing, forcing]
  have none : (d.sw.pend.filter fun p => p.banks.contains b && canCommit d p) = [] := by simp [pend]
  unfold commitBank
  split
  · simp only [none, commitReady]
    rw [unforced committed]
    exact committed
  · exact .refl f d

/-- The only slot in use is freed. -/
theorem freeSlot_only {d : Dev} {k f : Nat} {u : Slot} (only : d.sw.slots = [(k, u)]) (pend : d.sw.pend = []) (forcing : d.sw.forcing = []) :
    (freeSlot k d).sw.slots = [] ∧ ((freeSlot k d).fu f).miss = (d.fu f).miss ∧ (freeSlot k d).mem = d.mem ∧
      (freeSlot k d).r F.SW_EV_MISS = d.r F.SW_EV_MISS := by
  have none : (d.onS k fun _ => {}).sw.slots = [] := by simp [Dev.onS, only, Tab.setD, Tab.erase]
  have freed := furrowFreed_sameMisses f (d.sl k).f (d.onS k fun _ => {})
  have t := freed.trans (commitBank_quiet f (d.sl k).bank (freed.pend.trans pend) (freed.forcing.trans forcing))
  exact ⟨t.slots.trans none, t.miss, t.mem, t.ev⟩

theorem pointDone_sameMisses (f k p : Nat) (d : Dev) : SameMisses f d (pointDone k p d) := sameMisses_onF f k d fun _ => rfl

/-- One point of furrow `f` counts as missed, in the furrow and in the block, and the event is set. -/
def missCounted (f : Nat) (d : Dev) : Dev := ((d.onF f fun u => { u with miss := sat32 (u.miss + 1) }).addSat F.SW_MISS_COUNT 1).set F.SW_EV_MISS

theorem missAdd_one (f c : Nat) (d : Dev) :
    missAdd f 1 c d = if (missCounted f d).b F.SW_QEN_MISS then evRecord Tag.sw c f 1 (missCounted f d) else missCounted f d := rfl

theorem missCounted_miss (f : Nat) (d : Dev) : ((missCounted f d).fu f).miss = min ((d.fu f).miss + 1) 0xFFFFFFFF := by
  have counted : (missCounted f d).fu f = (d.onF f fun u => { u with miss := sat32 (u.miss + 1) }).fu f := rfl
  rw [counted, fu_onF, if_pos rfl, sat32]

theorem missAdd_sameMisses (f c : Nat) (d : Dev) : SameMisses f (missCounted f d) (missAdd f 1 c d) := by
  rw [missAdd_one]
  exact Aside.sameMisses (aside_ite (aside_evRecord ..) (.refl _)) f

/-- The only slot in use is cancelled as a miss. -/
theorem missSlot_only {d : Dev} {k : Nat} {u : Slot} (only : d.sw.slots = [(k, u)]) (pend : d.sw.pend = []) (forcing : d.sw.forcing = []) :
    (missSlot 3 k d).sw.slots = [] ∧ ((missSlot 3 k d).fu u.f).miss = min ((d.fu u.f).miss + 1) 0xFFFFFFFF ∧ (missSlot 3 k d).r F.SW_EV_MISS = 1 ∧
      (missSlot 3 k d).mem = d.mem := by
  have slot : d.sl k = u := by simp [Dev.sl, only, Tab.getD, Tab.get?]
  have missed := (missAdd_sameMisses u.f 3 d).trans (pointDone_sameMisses u.f u.f u.pos _)
  have done := missed.trans ((aside_noLight u _).sameMisses u.f)
  have eq : missSlot 3 k d = freeSlot k (noLight u (pointDone u.f u.pos (missAdd u.f 1 3 d))) := by
    unfold missSlot
    simp only [slot]
    split <;> rfl
  obtain ⟨tSlots, tMiss, tMem, tEv⟩ := freeSlot_only (f := u.f) (done.slots.trans only) (done.pend.trans pend) (done.forcing.trans forcing)
  rw [eq]
  exact ⟨tSlots, tMiss.trans (done.miss.trans (missCounted_miss u.f d)), tEv.trans (done.ev.trans (set_r_same _ rfl)), tMem.trans done.mem⟩

/-- An unlock cancels the one armed slot as a miss. -/
theorem pllUnlock_armed {d : Dev} {k : Nat} {u : Slot} (awake : d.awake = true) (locked : d.r F.CK_STAT_PLLLOCK = 1)
    (ref : d.ck.xrun = true ∨ d.r F.CK_ROOT_SEL ≠ 0) (pend : d.sw.pend = []) (forcing : d.sw.forcing = []) (only : d.sw.slots = [(k, u)])
    (armed : u.st = .armed) :
    (pllUnlock d).sw.slots = [] ∧ ((pllUnlock d).fu u.f).miss = min ((d.fu u.f).miss + 1) 0xFFFFFFFF ∧ (pllUnlock d).r F.SW_EV_MISS = 1 ∧
      (pllUnlock d).mem = d.mem := by
  have unfired : slotsIf (unlocked d) (fun s => decide (s.st = .firing)) = [] := by
    show ((unlocked d).sw.slots.filter _).map Prod.fst = []
    rw [show (unlocked d).sw.slots = [(k, u)] from only]
    simp [armed]
  have light := lightEnds_aside unfired
  have slots : (lightEnds (unlocked d)).sw.slots = [(k, u)] := (congrArg Sower.slots light.sw).trans only
  have cancels : cancelAll 3 (lightEnds (unlocked d)) = missSlot 3 k (lightEnds (unlocked d)) := by
    unfold cancelAll slotsIf
    rw [slots]
    simp [armed, forAll]
  obtain ⟨tSlots, tMiss, tEv, tMem⟩ := missSlot_only slots ((congrArg Sower.pend light.sw).trans pend) ((congrArg Sower.forcing light.sw).trans forcing)
  have miss : (lightEnds (unlocked d)).fu u.f = d.fu u.f := by
    unfold Dev.fu
    rw [light.sw]
    rfl
  rw [pllUnlock_locked awake locked ref, cancels]
  have record := (aside_ckRecord 1 (slotsIf d fun s => decide (s.st = .armed ∨ s.st = .set)).length (missSlot 3 k (lightEnds (unlocked d)))).sameMisses u.f
  rw [miss] at tMiss
  refine ⟨record.slots.trans tSlots, ?_, record.ev.trans tEv, record.mem.trans (tMem.trans light.mem)⟩
  have counted := record.miss.trans tMiss
  rw [passAs_miss (by rw [counted]; omega), counted]

end Sys2Proof.Proofs
end

section
/-! PROOFS. XCLK: the sleep counter, the alarm of its stop, and quarantine on its return [03 R57, R59, R62, R463; 06 R132-R136]. -/

namespace Sys2Proof.Proofs

open Sys2Proof.Machine Sys2Proof.Laws

/-! ### What a ladder state is -/

theorem awake_congr {d t : Dev} (h : t.ck.ladder = d.ck.ladder) : t.awake = d.awake := by rw [Dev.awake, Dev.awake, h]

theorem asleep_congr {d t : Dev} (h : t.ck.ladder = d.ck.ladder) : t.asleep = d.asleep := by rw [Dev.asleep, Dev.asleep, h]

theorem asleep_iff (d : Dev) : d.asleep = true ↔ d.ck.ladder = .nap ∨ d.ck.ladder = .fallow ∨ d.ck.ladder = .waking := decide_eq_true_iff

theorem awake_of_asleep {d : Dev} (h : d.asleep = true) : d.awake = false := by
  rcases (asleep_iff d).mp h with h | h | h <;> simp [Dev.awake, h]

theorem asleep_of_awake {d : Dev} (h : d.awake = true) : d.asleep = false := by
  rcases (awake_iff d).mp h with h | h <;> simp [Dev.asleep, h]

/-! ### The timers that sleep stops [03 Table CK-2] -/

/-- From `d` to `t` timers of blocks have moved, and how the Sower counts points that pass. -/
structure TimersOnly (d t : Dev) : Prop where
  ck : t.ck = d.ck
  regs : t.regs = d.regs
  mem : t.mem = d.mem
  co : t.co = d.co
  st : t.st = d.st
  tlt : t.tlt = d.tlt
  ns : t.ns = d.ns
  slots : t.sw.slots = d.sw.slots

theorem TimersOnly.refl (d : Dev) : TimersOnly d d := ⟨rfl, rfl, rfl, rfl, rfl, rfl, rfl, rfl⟩

theorem TimersOnly.trans {d e t : Dev} (h : TimersOnly d e) (k : TimersOnly e t) : TimersOnly d t :=
  ⟨k.ck.trans h.ck, k.regs.trans h.regs, k.mem.trans h.mem, k.co.trans h.co, k.st.trans h.st, k.tlt.trans h.tlt, k.ns.trans h.ns,
    k.slots.trans h.slots⟩

theorem timersOnly_forAll {f : Nat → Dev → Dev} (h : ∀ n d, TimersOnly d (f n d)) (l : List Nat) (d : Dev) : TimersOnly d (forAll l f d) :=
  forAll_keeps (P := TimersOnly d) (fun n e _ he => he.trans (h n e)) (.refl d)

theorem timersOnly_onH (d : Dev) (p : Nat) (g : Head → Head) : TimersOnly d (d.onH p g) := ⟨rfl, rfl, rfl, rfl, rfl, rfl, rfl, rfl⟩
theorem timersOnly_onE (d : Dev) (n : Nat) (g : Enc → Enc) : TimersOnly d (d.onE n g) := ⟨rfl, rfl, rfl, rfl, rfl, rfl, rfl, rfl⟩

theorem resumeTimers_timersOnly (dt : Nat) (d : Dev) : TimersOnly d (resumeTimers dt d) := by
  let blocks : Dev := resumeBlocks dt d
  let engines : Dev := { blocks with
    pe := blocks.pe.map fun e => (e.1, { e.2 with next := e.2.next + dt }), ua := { blocks.ua with lineEnd := blocks.ua.lineEnd.map (· + dt) } }
  let heads := forAll (engines.hp.map Prod.fst) (fun p d => d.onH p fun h =>
    { h with rawSince := d.ns, pollDue := h.pollDue + dt, due := h.due + dt, byeEnd := h.byeEnd + dt }) engines
  let inputs := forAll (List.range 2) (fun n d => d.onE n fun e => { e with edges := [], counts := [], qerrs := [] }) heads
  have h1 : TimersOnly d engines := ⟨rfl, rfl, rfl, rfl, rfl, rfl, rfl, rfl⟩
  have h2 : TimersOnly engines heads := timersOnly_forAll (fun p e => timersOnly_onH e p _) _ engines
  have h3 : TimersOnly heads inputs := timersOnly_forAll (fun n e => timersOnly_onE e n _) _ heads
  have h4 : TimersOnly inputs (passAs 0 inputs) := ⟨rfl, rfl, rfl, rfl, rfl, rfl, rfl, rfl⟩
  exact ((h1.trans h2).trans h3).trans h4

/-! ### XCLK stops or returns in sleep [03 R57, R59] -/

/-- The clocks' state once the sleep counter has counted up to now. -/
def slept (d : Dev) (c : Ck) : Ck :=
  { c with sleepTlt := if c.xrun then c.sleepTlt + (d.ns - d.ck.sleepNs) else c.sleepTlt, sleepNs := d.ns }

theorem sleepCount_eq (d : Dev) : sleepCount d = (resumeTimers (d.ns - d.ck.sleepNs) d).onCk (slept d) := rfl

theorem sleepCount_ck (d : Dev) : (sleepCount d).ck = slept d d.ck := by
  rw [sleepCount_eq, onCk_ck, (resumeTimers_timersOnly (d.ns - d.ck.sleepNs) d).ck]

theorem sleepCount_rest (d : Dev) : (sleepCount d).regs = d.regs ∧ (sleepCount d).mem = d.mem ∧ (sleepCount d).co = d.co := by
  have timers := resumeTimers_timersOnly (d.ns - d.ck.sleepNs) d
  rw [sleepCount_eq]
  exact ⟨timers.regs, timers.mem, timers.co⟩

/-- XCLK stands still: the device is silent if it runs, and a PLL that refers to XCLK holds its frequency. -/
def xclkHaltNow (d : Dev) : Dev :=
  let e := (d.onCk fun c => { c with xrun := false, silent := c.silent || d.awake }).clr F.CK_STAT_XOK
  let e := if e.awake ∨ e.asleep then e.set F.CK_STAT_XSTOP else e
  if e.awake ∧ e.r F.CK_ROOT_SEL = 0 then e.set F.CK_STAT_HOLDOVER else e

theorem xclkHalt_eq (d : Dev) : xclkHalt d = xclkHaltNow (if d.asleep then sleepCount d else d) := rfl

/-- XCLK stands still in sleep, where no light depends on it. -/
def xclkHaltedAsleep (d : Dev) : Dev := ((d.onCk fun c => { c with xrun := false }).clr F.CK_STAT_XOK).set F.CK_STAT_XSTOP

theorem xclkHaltNow_asleep {d : Dev} (asleep : d.asleep = true) : xclkHaltNow d = xclkHaltedAsleep d := by
  have awake := awake_of_asleep asleep
  have quiet : (d.onCk fun c => { c with xrun := false, silent := c.silent || d.awake }) = d.onCk fun c => { c with xrun := false } := by simp [awake]
  have halted : ((d.onCk fun c => { c with xrun := false }).clr F.CK_STAT_XOK).asleep = true := (asleep_congr (d := d) rfl).trans asleep
  have still : (((d.onCk fun c => { c with xrun := false }).clr F.CK_STAT_XOK).set F.CK_STAT_XSTOP).awake = false :=
    (awake_congr (d := d) rfl).trans awake
  unfold xclkHaltNow xclkHaltedAsleep
  simp only [quiet, halted, or_true, if_true, still, Bool.false_eq_true, false_and, if_false]

theorem xclkStop_running {d : Dev} (runs : d.ck.xrun = true) : xclkStop d = if d.awake then alarm 16 (xclkHalt d) else xclkHalt d := by
  have stop : bitAt 16 4 = true := by decide
  unfold xclkStop tamperAlarm
  cases h : d.awake <;> simp [runs, stop]

theorem xclkStop_asleep {d : Dev} (runs : d.ck.xrun = true) (asleep : d.asleep = true) : xclkStop d = xclkHaltedAsleep (sleepCount d) := by
  have ladder : (sleepCount d).ck.ladder = d.ck.ladder := by rw [sleepCount_ck]; rfl
  rw [xclkStop_running runs, if_neg (Bool.eq_false_iff.mp (awake_of_asleep asleep)), xclkHalt_eq, if_pos asleep,
    xclkHaltNow_asleep ((asleep_congr ladder).trans asleep)]

theorem xclkHaltedAsleep_stat (d : Dev) : (xclkHaltedAsleep d).ck = { d.ck with xrun := false } ∧ (xclkHaltedAsleep d).r F.CK_STAT_XOK = 0 ∧
    (xclkHaltedAsleep d).r F.CK_STAT_XSTOP = 1 ∧ SameRegs [F.CK_STAT_XOK, F.CK_STAT_XSTOP] d (xclkHaltedAsleep d) ∧
    (xclkHaltedAsleep d).mem = d.mem ∧ (xclkHaltedAsleep d).co = d.co :=
  ⟨rfl, (set_r_other _ (by decide)).trans (clr_r_same ..), set_r_same _ rfl,
    sameRegs_append (sameRegs_w _ F.CK_STAT_XOK 0) (sameRegs_w _ F.CK_STAT_XSTOP 1), rfl, rfl⟩

/-- In sleep the stop of XCLK is no alarm: it shows in CK_STAT, and the sleep counter has counted up to it. -/
theorem xclkStop_inSleep {d : Dev} (runs : d.ck.xrun = true) (asleep : d.asleep = true) :
    (xclkStop d).ck = { d.ck with xrun := false, sleepTlt := d.ck.sleepTlt + (d.ns - d.ck.sleepNs), sleepNs := d.ns } ∧
      (xclkStop d).r F.CK_STAT_XOK = 0 ∧ (xclkStop d).r F.CK_STAT_XSTOP = 1 ∧ SameRegs [F.CK_STAT_XOK, F.CK_STAT_XSTOP] d (xclkStop d) ∧
      (xclkStop d).mem = d.mem ∧ (xclkStop d).co = d.co := by
  obtain ⟨regs, mem, co⟩ := sleepCount_rest d
  obtain ⟨hCk, xok, xstop, hRegs, hMem, hCo⟩ := xclkHaltedAsleep_stat (sleepCount d)
  rw [xclkStop_asleep runs asleep]
  refine ⟨?_, xok, xstop, sameRegs_append (sameRegs_of_regs [] regs) hRegs, hMem.trans mem, hCo.trans co⟩
  rw [hCk, sleepCount_ck, slept, runs]
  rfl

/-- Taking a bit that is set off a number clears it. -/
theorem testBit_sub_two_pow {v i : Nat} (h : v.testBit i = true) : (v - 2 ^ i).testBit i = false := by
  have odd : v / 2 ^ i % 2 = 1 := by simpa [Nat.testBit_eq_decide_div_mod_eq] using h
  have quotient : (v - 2 ^ i) / 2 ^ i = v / 2 ^ i - 1 := by simpa using Nat.sub_mul_div v (2 ^ i) 1
  rw [Nat.testBit_eq_decide_div_mod_eq, quotient]
  exact decide_eq_false (by omega)

/-- A bit of a field reads 0 once it is cleared. -/
theorem clrBit_bit (d : Dev) (f : Fld) (i : Nat) : bitAt ((d.clrBit f i).r f) i = false := by
  unfold Dev.clrBit
  split
  · rename_i set
    rw [r_w_same, bitAt, Nat.testBit_mod_two_pow, testBit_sub_two_pow set, Bool.and_false]
  · rename_i clear
    exact Bool.eq_false_iff.mpr clear

theorem clrBit_frame (d : Dev) (f : Fld) (i : Nat) : d.clrBit f i = { d with regs := (d.clrBit f i).regs } := by
  unfold Dev.clrBit
  split <;> rfl

theorem clrBit_r_other (d : Dev) {f g : Fld} (i : Nat) (h : g.key ≠ f.key) : (d.clrBit f i).r g = d.r g := by
  unfold Dev.clrBit
  split
  · exact r_w_other d _ h
  · rfl

theorem sameRegs_clrBit (d : Dev) (f : Fld) (i : Nat) : SameRegs [f] d (d.clrBit f i) :=
  fun _ h => clrBit_r_other d i fun e => h (by simp [e])

/-- XCLK runs again, and its source alarms no longer. -/
def xclkBack (d : Dev) : Dev := ((d.onCk fun c => { c with xrun := true }).set F.CK_STAT_XOK).clrBit F.TP_LIVE_SRC 4

theorem xclkBack_frame (d : Dev) : xclkBack d = { d with regs := (xclkBack d).regs, ck := { d.ck with xrun := true } } := by
  unfold xclkBack
  rw [clrBit_frame]
  rfl

theorem xclkBack_ck (d : Dev) : (xclkBack d).ck = { d.ck with xrun := true } := by rw [xclkBack_frame]
theorem xclkBack_mem (d : Dev) : (xclkBack d).mem = d.mem := by rw [xclkBack_frame]
theorem xclkBack_co (d : Dev) : (xclkBack d).co = d.co := by rw [xclkBack_frame]

theorem xclkBack_xok (d : Dev) : (xclkBack d).r F.CK_STAT_XOK = 1 := (clrBit_r_other _ 4 (by decide)).trans (set_r_same _ rfl)

theorem xclkBack_sameRegs (d : Dev) : SameRegs [F.CK_STAT_XOK, F.TP_LIVE_SRC] d (xclkBack d) :=
  sameRegs_append (sameRegs_w _ F.CK_STAT_XOK 1) (sameRegs_clrBit _ F.TP_LIVE_SRC 4)

theorem xclkReturn_heard {d : Dev} (stopped : d.ck.xrun = false) (heard : d.ck.silent = false) (ladder : d.ck.ladder ≠ .dormant) :
    xclkReturn d = xclkBack (if d.asleep then sleepCount d else d) := by
  have silent : (xclkBack (if d.asleep then sleepCount d else d)).ck.silent = false := by
    rw [xclkBack_ck]
    split
    · rw [sleepCount_ck]
      exact heard
    · exact heard
  unfold xclkReturn
  rw [if_neg (by simp [stopped, ladder])]
  exact if_pos silent

theorem xclkReturn_asleep {d : Dev} (stopped : d.ck.xrun = false) (heard : d.ck.silent = false) (asleep : d.asleep = true) :
    (xclkReturn d).ck = { d.ck with xrun := true, sleepNs := d.ns } ∧ (xclkReturn d).r F.CK_STAT_XOK = 1 ∧
      bitAt ((xclkReturn d).r F.TP_LIVE_SRC) 4 = false ∧ SameRegs [F.CK_STAT_XOK, F.TP_LIVE_SRC] d (xclkReturn d) ∧ (xclkReturn d).mem = d.mem ∧
      (xclkReturn d).co = d.co := by
  have ladder : d.ck.ladder ≠ .dormant := by rcases (asleep_iff d).mp asleep with h | h | h <;> simp [h]
  obtain ⟨regs, mem, co⟩ := sleepCount_rest d
  rw [xclkReturn_heard stopped heard ladder, if_pos asleep]
  refine ⟨?_, xclkBack_xok _, clrBit_bit .., sameRegs_append (sameRegs_of_regs [] regs) (xclkBack_sameRegs _),
    (xclkBack_mem _).trans mem, (xclkBack_co _).trans co⟩
  rw [xclkBack_ck, sleepCount_ck, slept, stopped]
  rfl

theorem xclkReturn_awake {d : Dev} (stopped : d.ck.xrun = false) (heard : d.ck.silent = false) (awake : d.awake = true) :
    xclkReturn d = xclkBack d := by
  have ladder : d.ck.ladder ≠ .dormant := by rcases (awake_iff d).mp awake with h | h <;> simp [h]
  rw [xclkReturn_heard stopped heard ladder, asleep_of_awake awake]
  rfl

/-! ### The alarm of XCLK's stop [06 R132-R135; 03 R62] -/

/-- XCLK stands still in Run or Hold: the device is silent, and a PLL that refers to XCLK holds its frequency. -/
def xclkHalted (d : Dev) : Dev :=
  let e := ((d.onCk fun c => { c with xrun := false, silent := true }).clr F.CK_STAT_XOK).set F.CK_STAT_XSTOP
  if d.r F.CK_ROOT_SEL = 0 then e.set F.CK_STAT_HOLDOVER else e

theorem xclkHaltNow_awake {d : Dev} (awake : d.awake = true) : xclkHaltNow d = xclkHalted d := by
  have silent : (d.onCk fun c => { c with xrun := false, silent := c.silent || d.awake }) = d.onCk fun c => { c with xrun := false, silent := true } := by
    simp [awake]
  have runs (e : Dev) (h : e.ck.ladder = d.ck.ladder) : e.awake = true := (awake_congr h).trans awake
  have halted := runs ((d.onCk fun c => { c with xrun := false, silent := true }).clr F.CK_STAT_XOK) rfl
  have shown := runs (((d.onCk fun c => { c with xrun := false, silent := true }).clr F.CK_STAT_XOK).set F.CK_STAT_XSTOP) rfl
  have sel : (((d.onCk fun c => { c with xrun := false, silent := true }).clr F.CK_STAT_XOK).set F.CK_STAT_XSTOP).r F.CK_ROOT_SEL = d.r F.CK_ROOT_SEL := by
    rw [set_r_other _ (by decide), clr_r_other _ (by decide)]
    rfl
  unfold xclkHaltNow xclkHalted
  simp only [silent, halted, true_or, if_true, shown, sel, true_and]

theorem xclkHalt_awake {d : Dev} (awake : d.awake = true) : xclkHalt d = xclkHalted d := by
  rw [xclkHalt_eq, if_neg (Bool.eq_false_iff.mp (asleep_of_awake awake)), xclkHaltNow_awake awake]

theorem xclkHalted_frame (d : Dev) : xclkHalted d = { d with regs := (xclkHalted d).regs, ck := { d.ck with xrun := false, silent := true } } := by
  unfold xclkHalted
  simp only
  split <;> rfl

theorem xclkHalted_r_other {d : Dev} {f : Fld} (h : f.key ∉ [F.CK_STAT_XOK, F.CK_STAT_XSTOP, F.CK_STAT_HOLDOVER].map Fld.key) :
    (xclkHalted d).r f = d.r f := by
  simp only [List.map_cons, List.map_nil, List.mem_cons, List.not_mem_nil, or_false, not_or] at h
  obtain ⟨xok, xstop, holdover⟩ := h
  have shown : (((d.onCk fun c => { c with xrun := false, silent := true }).clr F.CK_STAT_XOK).set F.CK_STAT_XSTOP).r f = d.r f := by
    rw [set_r_other _ xstop, clr_r_other _ xok]
    rfl
  unfold xclkHalted
  simp only
  split
  · rw [set_r_other _ holdover, shown]
  · exact shown

theorem xclkHalted_stat (d : Dev) : (xclkHalted d).r F.CK_STAT_XSTOP = 1 ∧ (xclkHalted d).r F.CK_STAT_XOK = 0 ∧
    (d.r F.CK_ROOT_SEL = 0 → (xclkHalted d).r F.CK_STAT_HOLDOVER = 1) := by
  let e := ((d.onCk fun c => { c with xrun := false, silent := true }).clr F.CK_STAT_XOK).set F.CK_STAT_XSTOP
  have xstop : e.r F.CK_STAT_XSTOP = 1 := set_r_same _ rfl
  have xok : e.r F.CK_STAT_XOK = 0 := (set_r_other _ (by decide)).trans (clr_r_same ..)
  have eq : xclkHalted d = if d.r F.CK_ROOT_SEL = 0 then e.set F.CK_STAT_HOLDOVER else e := rfl
  rw [eq]
  split
  · exact ⟨(set_r_other _ (by decide)).trans xstop, (set_r_other _ (by decide)).trans xok, fun _ => set_r_same _ rfl⟩
  · exact ⟨xstop, xok, fun sel => absurd sel (by assumption)⟩

/-! ### What an alarm aborts [06 R133, R135] -/

/-- From `d` to `t` registers, the keys and OTP have changed, and nothing that clocks, memory or the Sower hold. -/
structure Latches (d t : Dev) : Prop where
  ck : t.ck = d.ck
  mem : t.mem = d.mem
  tlt : t.tlt = d.tlt
  sw : t.sw = d.sw

theorem Latches.refl (d : Dev) : Latches d d := ⟨rfl, rfl, rfl, rfl⟩

theorem Latches.trans {d e t : Dev} (h : Latches d e) (k : Latches e t) : Latches d t :=
  ⟨k.ck.trans h.ck, k.mem.trans h.mem, k.tlt.trans h.tlt, k.sw.trans h.sw⟩

theorem latches_w (d : Dev) (f : Fld) (v : Nat) : Latches d (d.w f v) := ⟨rfl, rfl, rfl, rfl⟩
theorem latches_set (d : Dev) (f : Fld) : Latches d (d.set f) := latches_w d f 1
theorem latches_orBit (d : Dev) (f : Fld) (i : Nat) : Latches d (d.orBit f i) := latches_w d f _

theorem zeroKyBuf_latches (d : Dev) : Latches d (zeroKyBuf d) :=
  forAll_keeps (P := Latches d) (f := fun i e => e.w (F.KY_BUF_W i) 0) (fun _ e _ he => he.trans (latches_w e _ 0)) (.refl d)

/-- KY_BUF holds its words from 0x40003100 to 0x400031FF. -/
theorem zeroKyBuf_r_other (d : Dev) {f : Fld} (h : f.key < 32 * 0x40003100 ∨ 32 * 0x40003200 ≤ f.key) : (zeroKyBuf d).r f = d.r f := by
  refine forAll_same (fun e => e.r f) (f := fun i e => e.w (F.KY_BUF_W i) 0) (fun i e hi => r_w_other e 0 ?_) d
  have word := List.mem_range.mp hi
  simp only [Fld.key, F.KY_BUF_W] at h ⊢
  omega

theorem kregClear_latches (d : Dev) : Latches d (kregClear d) := ⟨rfl, rfl, rfl, rfl⟩

theorem kregClear_kfull (d : Dev) : (kregClear d).r F.KY_STAT_KFULL = 0 := by
  show ((d.clr F.KY_STAT_KFULL).w F.KY_STAT_KATTR 0).r F.KY_STAT_KFULL = 0
  rw [r_w_other _ _ (by decide), clr_r_same]

theorem kregClear_r_other (d : Dev) {f : Fld} (full : f.key ≠ F.KY_STAT_KFULL.key) (attr : f.key ≠ F.KY_STAT_KATTR.key) :
    (kregClear d).r f = d.r f := by
  show ((d.clr F.KY_STAT_KFULL).w F.KY_STAT_KATTR 0).r f = d.r f
  rw [r_w_other _ _ attr, clr_r_other _ full]

/-- The job of a key command under an alarm. -/
def keyJobAbort (d : Dev) : Dev :=
  match d.ky.job with
  | some j => if j.burns ∧ otOwner d = some .ky then d else kyFail KyErr.abort d
  | none => d

theorem keyAbort_eq (d : Dev) : keyAbort d = kregClear (zeroKyBuf (keyJobAbort d)) := rfl

theorem keyJobAbort_latches (d : Dev) : Latches d (keyJobAbort d) ∧ (keyJobAbort d).regs = d.regs := by
  unfold keyJobAbort
  split
  · split
    · exact ⟨.refl d, rfl⟩
    · exact ⟨⟨rfl, rfl, rfl, rfl⟩, rfl⟩
  · exact ⟨.refl d, rfl⟩

theorem keyAbort_latches (d : Dev) : Latches d (keyAbort d) := by
  rw [keyAbort_eq]
  exact ((keyJobAbort_latches d).1.trans (zeroKyBuf_latches _)).trans (kregClear_latches _)

theorem keyAbort_kfull (d : Dev) : (keyAbort d).r F.KY_STAT_KFULL = 0 := by rw [keyAbort_eq, kregClear_kfull]

theorem keyAbort_r_other (d : Dev) {f : Fld} (h : f.key < 32 * 0x40003000 ∨ 32 * 0x40004000 ≤ f.key) : (keyAbort d).r f = d.r f := by
  have job : (keyJobAbort d).r f = d.r f := by rw [Dev.r, (keyJobAbort_latches d).2, Dev.r]
  have full : f.key ≠ F.KY_STAT_KFULL.key := by simp only [Fld.key, F.KY_STAT_KFULL] at h ⊢; omega
  have attr : f.key ≠ F.KY_STAT_KATTR.key := by simp only [Fld.key, F.KY_STAT_KATTR] at h ⊢; omega
  rw [keyAbort_eq, kregClear_r_other _ full attr, zeroKyBuf_r_other _ (by omega), job]

theorem otAbort_latches (d : Dev) : Latches d (otAbort d) := ⟨rfl, rfl, rfl, rfl⟩

theorem otAbort_r (d : Dev) (f : Fld) : (otAbort d).r f = d.r f := rfl

theorem beadDue_latches (d : Dev) : Latches d (beadDue d) := by
  unfold beadDue
  split
  · exact latches_set d _
  · split
    · exact ⟨rfl, rfl, rfl, rfl⟩
    · exact latches_set d _

theorem beadDue_r_other (d : Dev) {f : Fld} (full : f.key ≠ F.TP_STAT_CFULL.key) (latch : f.key ≠ F.OT_WIN_PEND.key) : (beadDue d).r f = d.r f := by
  unfold beadDue
  split
  · exact set_r_other d full
  · split
    · rfl
    · exact set_r_other d latch

/-- The alarm of XCLK is latched, and what it meets is aborted. -/
def xclkLatched (d : Dev) : Dev := otAbort (keyAbort ((d.set F.TP_STAT_XSTOP).orBit F.TP_LIVE_SRC 4))

theorem tamperDetect_xclk (d : Dev) :
    tamperDetect 16 d = if d.r F.TP_LIVE_SRC = 0 then beadDue ((xclkLatched d).set F.TP_STAT_QPEND) else xclkLatched d := by
  have one : ((List.range 6).filter fun s => bitAt 16 s) = [4] := by decide
  unfold tamperDetect
  simp only [one, decide_eq_true_eq]
  rfl

theorem xclkLatched_latches (d : Dev) : Latches d (xclkLatched d) := by
  unfold xclkLatched
  exact (((latches_set d _).trans (latches_orBit ..)).trans (keyAbort_latches _)).trans (otAbort_latches _)

theorem xclkLatched_r_other (d : Dev) {f : Fld} (h : f.key < 32 * 0x40003000 ∨ 32 * 0x40004000 ≤ f.key) :
    (xclkLatched d).r f = ((d.set F.TP_STAT_XSTOP).orBit F.TP_LIVE_SRC 4).r f := by
  rw [xclkLatched, otAbort_r, keyAbort_r_other _ h]

theorem tamperDetect_latches (d : Dev) : Latches d (tamperDetect 16 d) := by
  rw [tamperDetect_xclk]
  split
  · exact ((xclkLatched_latches d).trans (latches_set ..)).trans (beadDue_latches _)
  · exact xclkLatched_latches d

/-- The blocks CK and SYS hold no field that an alarm writes. -/
theorem tamperDetect_r_below (d : Dev) {f : Fld} (h : f.key < 32 * 0x40002000) : (tamperDetect 16 d).r f = d.r f := by
  have ne {g : Fld} (hg : 32 * 0x40002000 ≤ g.key) : f.key ≠ g.key := by omega
  have latched : (xclkLatched d).r f = d.r f := by
    rw [xclkLatched_r_other _ (by omega), Dev.orBit, r_w_other _ _ (ne (by decide)), set_r_other _ (ne (by decide))]
  rw [tamperDetect_xclk]
  split
  · rw [beadDue_r_other _ (ne (by decide)) (ne (by decide)), set_r_other _ (ne (by decide)), latched]
  · exact latched

theorem xclkLatched_r (d : Dev) : (xclkLatched d).r F.TP_STAT_XSTOP = 1 ∧ (xclkLatched d).r F.KY_STAT_KFULL = 0 ∧
    (d.r F.TP_LIVE_SRC = 0 → (xclkLatched d).r F.TP_LIVE_SRC = 16) := by
  refine ⟨?_, ?_, fun quiet => ?_⟩
  · rw [xclkLatched_r_other _ (by decide), Dev.orBit, r_w_other _ _ (by decide), set_r_same _ rfl]
  · rw [xclkLatched, otAbort_r, keyAbort_kfull]
  · rw [xclkLatched_r_other _ (by decide), Dev.orBit, r_w_same, set_r_other _ (by decide), quiet]
    rfl

theorem tamperDetect_latch (d : Dev) : (tamperDetect 16 d).r F.TP_STAT_XSTOP = 1 ∧ (tamperDetect 16 d).r F.KY_STAT_KFULL = 0 := by
  obtain ⟨latch, full, _⟩ := xclkLatched_r d
  rw [tamperDetect_xclk]
  split
  · refine ⟨?_, ?_⟩
    · rw [beadDue_r_other _ (by decide) (by decide), set_r_other _ (by decide), latch]
    · rw [beadDue_r_other _ (by decide) (by decide), set_r_other _ (by decide), full]
  · exact ⟨latch, full⟩

/-- Where nothing alarmed before, quarantine is pending, and XCLK is the one source that alarms. -/
theorem tamperDetect_onset {d : Dev} (quiet : d.r F.TP_LIVE_SRC = 0) :
    (tamperDetect 16 d).r F.TP_STAT_QPEND = 1 ∧ (tamperDetect 16 d).r F.TP_LIVE_SRC = 16 := by
  obtain ⟨_, _, live⟩ := xclkLatched_r d
  rw [tamperDetect_xclk, if_pos quiet]
  refine ⟨?_, ?_⟩
  · rw [beadDue_r_other _ (by decide) (by decide), set_r_same _ rfl]
  · rw [beadDue_r_other _ (by decide) (by decide), set_r_other _ (by decide), live quiet]

/-! ### The tamper entry and quarantine [06 R134, R136; 07 R158] -/

/-- The supply of the monitor: manual, at its reset code. -/
def supplyReset (d : Dev) : Dev := ((d.w F.CORE_VSET_AUTO 0).w F.CORE_VSET_VSET 35).aimAt 35

theorem aside_supplyReset (d : Dev) : Aside d (supplyReset d) :=
  ((aside_w d 0 (by decide)).trans (aside_w _ 35 (by decide))).trans (aside_aimAt 35 _)

/-- The core once the tamper entry has it run the monitor alone. -/
def monitorOnly (c : Cpu) : Cpu :=
  { c with image := false, waiting := false, halted := false, stalled := false, loads := [], wb := [], fails := [], busi := none, ie := false, level := 8 }

theorem tamperEntry_eq (d : Dev) : tamperEntry d = { supplyReset d with co := monitorOnly (supplyReset d).co } := rfl

theorem tamperEntry_image (d : Dev) : (tamperEntry d).co.image = false := by rw [tamperEntry_eq]; rfl

theorem tamperEntry_r (d : Dev) {f : Fld} (h : Kept f) : (tamperEntry d).r f = d.r f := by
  rw [tamperEntry_eq]
  exact (aside_supplyReset d).r f h

theorem tamperEntry_latches (d : Dev) : Latches d (tamperEntry d) := by
  have supply := aside_supplyReset d
  rw [tamperEntry_eq]
  exact ⟨supply.ck, supply.mem, supply.tlt, supply.sw⟩

/-- The device dark and silent, with the monitor's core. -/
def quarantineDark (d : Dev) : Dev := (lightOff (tamperEntry d)).clr F.TP_STAT_QPEND

/-- Program RAM and the program's data RAM are unwritten. -/
def ramDropped (d : Dev) : Dev := (d.clearMem progBase progSize).clearMem dataBase (monBase - dataBase)

/-- The key register, the verbs under way and the LEDGER reads are dropped. -/
def verbsDropped (d : Dev) : Dev :=
  ledgerDrop ((kregClear d).onSt fun s => { s with wait := none, answer := none, taken := none, opened := none, tun := none })

/-- The device is in QUARANTINE, with no image. -/
def stateQuarantine (d : Dev) : Dev :=
  let d := (d.w F.SYS_BOOT_LSTATE 5).w F.SYS_BLEN_N 0
  { d with bt := { d.bt with header := [] } }

/-- The device in quarantine, before its event line. -/
def quarantined (d : Dev) : Dev := stateQuarantine (verbsDropped (ramDropped (quarantineDark d)))

theorem enterQuarantine_eq (d : Dev) : ∃ ws, enterQuarantine d = monitorEvent 6 ws (quarantined d) := ⟨_, rfl⟩

theorem aside_enterQuarantine (d : Dev) : Aside (quarantined d) (enterQuarantine d) := by
  obtain ⟨ws, eq⟩ := enterQuarantine_eq d
  rw [eq]
  exact aside_monitorEvent ..

theorem stateQuarantine_mem (d : Dev) : (stateQuarantine d).mem = d.mem := rfl
theorem stateQuarantine_ck (d : Dev) : (stateQuarantine d).ck = d.ck := rfl
theorem stateQuarantine_r (d : Dev) (f : Fld) : (stateQuarantine d).r f = ((d.w F.SYS_BOOT_LSTATE 5).w F.SYS_BLEN_N 0).r f := rfl

theorem ledgerDrop_latches (d : Dev) : Latches d (ledgerDrop d) := ⟨rfl, rfl, rfl, rfl⟩

theorem verbsDropped_latches (d : Dev) : Latches d (verbsDropped d) := by
  have keys := kregClear_latches d
  unfold verbsDropped
  have verbs : Latches (kregClear d) ((kregClear d).onSt fun s => { s with wait := none, answer := none, taken := none, opened := none, tun := none }) :=
    ⟨rfl, rfl, rfl, rfl⟩
  exact (keys.trans verbs).trans (ledgerDrop_latches _)

theorem verbsDropped_qpend (d : Dev) : (verbsDropped d).r F.TP_STAT_QPEND = d.r F.TP_STAT_QPEND :=
  kregClear_r_other d (by decide) (by decide)

theorem ramDropped_ck (d : Dev) : (ramDropped d).ck = d.ck := rfl
theorem ramDropped_r (d : Dev) (f : Fld) : (ramDropped d).r f = d.r f := rfl

theorem quarantined_lstate (d : Dev) : (quarantined d).r F.SYS_BOOT_LSTATE = 5 := by
  rw [quarantined, stateQuarantine_r, r_w_other _ _ (by decide), r_w_same]
  rfl

theorem quarantined_qpend (d : Dev) : (quarantined d).r F.TP_STAT_QPEND = 0 := by
  rw [quarantined, stateQuarantine_r, r_w_other _ _ (by decide), r_w_other _ _ (by decide), verbsDropped_qpend, ramDropped_r, quarantineDark, clr_r_same]

/-- A read of a table whose entries are kept by their keys. -/
theorem tab_getD_filter {α : Type} (p : Nat → Bool) (z : α) (t : Tab α) (k : Nat) :
    Tab.getD (t.filter fun e => p e.1) k z = if p k then Tab.getD t k z else z := by
  induction t with
  | nil => simp [Tab.getD, Tab.get?]
  | cons e t ih =>
    obtain ⟨j, v⟩ := e
    by_cases here : j = k
    · subst here
      cases kept : p j with
      | true => simp [kept, Tab.getD, Tab.get?]
      | false => rw [List.filter_cons_of_neg (by simp [kept]), ih, kept]; rfl
    · have skip (r : Tab α) : Tab.getD ((j, v) :: r) k z = Tab.getD r k z := by simp [Tab.getD, Tab.get?, here]
      cases kept : p j with
      | true => rw [List.filter_cons_of_pos (by simp [kept]), skip, skip, ih]
      | false => rw [List.filter_cons_of_neg (by simp [kept]), skip, ih]

theorem byte_clearMem (d : Dev) (a n x : Nat) : (d.clearMem a n).byte x = if x < a ∨ a + n ≤ x then d.byte x else memDefault := by
  refine (tab_getD_filter (fun y => decide (y < a) || decide (a + n ≤ y)) memDefault d.mem x).trans ?_
  simp only [Bool.or_eq_true, decide_eq_true_eq]
  rfl

theorem byte_congr {d t : Dev} (h : t.mem = d.mem) (x : Nat) : t.byte x = d.byte x := by rw [Dev.byte, Dev.byte, h]

theorem ramDropped_prog (d : Dev) {x : Nat} (h : inProg x = true) : (ramDropped d).byte x = memDefault := by
  have range : ¬ (x < progBase ∨ progBase + progSize ≤ x) := by
    have := of_decide_eq_true h
    omega
  rw [ramDropped, byte_clearMem]
  split
  · rw [byte_clearMem, if_neg range]
  · rfl

/-- Quarantine leaves program RAM unwritten. -/
theorem quarantined_prog (d : Dev) {x : Nat} (h : inProg x = true) : (quarantined d).byte x = memDefault := by
  rw [quarantined, byte_congr ((stateQuarantine_mem _).trans (verbsDropped_latches _).mem), ramDropped_prog _ h]

theorem quarantined_ck {d : Dev} (free : d.sw.slots = []) : (quarantined d).ck = d.ck := by
  have entry := tamperEntry_latches d
  have dark := aside_lightOff (d := tamperEntry d) ((congrArg Sower.slots entry.sw).trans free)
  rw [quarantined, stateQuarantine_ck, (verbsDropped_latches _).ck, ramDropped_ck, quarantineDark, clr_ck, dark.ck, entry.ck]

theorem enterQuarantine_reached (d : Dev) : (enterQuarantine d).r F.SYS_BOOT_LSTATE = 5 ∧ (enterQuarantine d).r F.TP_STAT_QPEND = 0 ∧
    (∀ x, inProg x = true → (enterQuarantine d).byte x = memDefault) ∧ (d.sw.slots = [] → (enterQuarantine d).ck = d.ck) := by
  have event := aside_enterQuarantine d
  exact ⟨(event.r _ (by decide)).trans (quarantined_lstate d), (event.r _ (by decide)).trans (quarantined_qpend d),
    fun x hx => (byte_congr event.mem x).trans (quarantined_prog d hx), fun free => event.ck.trans (quarantined_ck free)⟩

/-! ### XCLK stops and returns in Run and Hold [03 R62; 06 Table TP-2] -/

theorem alarm_xclk (d : Dev) : alarm 16 d = tamperRespond (tamperDetect 16 d) := by
  unfold alarm
  exact if_neg fun h => h.1 (by decide)

theorem tamperRespond_silent {d : Dev} (awake : d.awake = true) (silent : d.ck.silent = true) :
    tamperRespond d = if d.r F.SYS_BOOT_LSTATE = 5 then d else tamperEntry (lightOff d) := by
  unfold tamperRespond
  rcases (awake_iff d).mp awake with h | h <;> simp [h, silent]

theorem xclkStop_detected {d : Dev} (runs : d.ck.xrun = true) (awake : d.awake = true) :
    xclkStop d = if d.r F.SYS_BOOT_LSTATE = 5 then tamperDetect 16 (xclkHalted d) else tamperEntry (lightOff (tamperDetect 16 (xclkHalted d))) := by
  have ck : (tamperDetect 16 (xclkHalted d)).ck = { d.ck with xrun := false, silent := true } := by
    rw [(tamperDetect_latches _).ck, xclkHalted_frame]
  have state : (tamperDetect 16 (xclkHalted d)).r F.SYS_BOOT_LSTATE = d.r F.SYS_BOOT_LSTATE :=
    (tamperDetect_r_below _ (by decide)).trans (xclkHalted_r_other (by decide))
  have stillAwake : (tamperDetect 16 (xclkHalted d)).awake = true := (awake_congr (by rw [ck])).trans awake
  rw [xclkStop_running runs, if_pos awake, xclkHalt_awake awake, alarm_xclk, tamperRespond_silent stillAwake (by rw [ck]), state]

/-- What the alarm of XCLK's stop brings about, wherever it meets the device in Run or Hold. -/
theorem xclkDetected (d : Dev) : (tamperDetect 16 (xclkHalted d)).ck = { d.ck with xrun := false, silent := true } ∧
    (tamperDetect 16 (xclkHalted d)).r F.CK_STAT_XSTOP = 1 ∧ (tamperDetect 16 (xclkHalted d)).r F.CK_STAT_XOK = 0 ∧
    (tamperDetect 16 (xclkHalted d)).r F.TP_STAT_XSTOP = 1 ∧ (tamperDetect 16 (xclkHalted d)).mem = d.mem ∧
    (tamperDetect 16 (xclkHalted d)).tlt = d.tlt ∧ (tamperDetect 16 (xclkHalted d)).sw = d.sw ∧
    (d.r F.CK_ROOT_SEL = 0 → (tamperDetect 16 (xclkHalted d)).r F.CK_STAT_HOLDOVER = 1) := by
  obtain ⟨xstop, xok, holdover⟩ := xclkHalted_stat d
  have latches := tamperDetect_latches (xclkHalted d)
  refine ⟨latches.ck.trans ?_, (tamperDetect_r_below _ (by decide)).trans xstop, (tamperDetect_r_below _ (by decide)).trans xok,
    (tamperDetect_latch _).1, latches.mem.trans ?_, latches.tlt.trans ?_, latches.sw.trans ?_,
    fun sel => (tamperDetect_r_below _ (by decide)).trans (holdover sel)⟩
  all_goals rw [xclkHalted_frame]

theorem xclkStop_quarantined {d : Dev} (runs : d.ck.xrun = true) (awake : d.awake = true) (state : d.r F.SYS_BOOT_LSTATE = 5) :
    (xclkStop d).ck = { d.ck with xrun := false, silent := true } ∧ (xclkStop d).r F.CK_STAT_XSTOP = 1 ∧ (xclkStop d).r F.TP_STAT_XSTOP = 1 ∧
      (xclkStop d).mem = d.mem ∧ (xclkStop d).tlt = d.tlt := by
  obtain ⟨ck, xstop, _, latch, mem, tlt, _, _⟩ := xclkDetected d
  rw [xclkStop_detected runs awake, if_pos state]
  exact ⟨ck, xstop, latch, mem, tlt⟩

theorem xclkStop_alarms {d : Dev} (runs : d.ck.xrun = true) (awake : d.awake = true) (state : d.r F.SYS_BOOT_LSTATE ≠ 5) (free : d.sw.slots = [])
    (quiet : d.r F.TP_LIVE_SRC = 0) :
    (xclkStop d).ck = { d.ck with xrun := false, silent := true } ∧ (xclkStop d).r F.CK_STAT_XSTOP = 1 ∧ (xclkStop d).r F.CK_STAT_XOK = 0 ∧
      (xclkStop d).r F.TP_STAT_XSTOP = 1 ∧ (xclkStop d).r F.TP_STAT_QPEND = 1 ∧ (xclkStop d).r F.KY_STAT_KFULL = 0 ∧
      (xclkStop d).co.image = false ∧ darkened (xclkStop d) = true ∧ (xclkStop d).r F.TP_LIVE_SRC = 16 ∧
      (d.r F.CK_ROOT_SEL = 0 → (xclkStop d).r F.CK_STAT_HOLDOVER = 1) ∧ (xclkStop d).mem = d.mem ∧ (xclkStop d).tlt = d.tlt := by
  obtain ⟨ck, xstop, xok, latch, mem, tlt, sw, holdover⟩ := xclkDetected d
  obtain ⟨qpend, live⟩ := tamperDetect_onset (d := xclkHalted d) ((xclkHalted_r_other (by decide)).trans quiet)
  have dark := aside_lightOff (d := tamperDetect 16 (xclkHalted d)) ((congrArg Sower.slots sw).trans free)
  have entry := tamperEntry_latches (lightOff (tamperDetect 16 (xclkHalted d)))
  rw [xclkStop_detected runs awake, if_neg state]
  have reads {f : Fld} (h : Kept f) : (tamperEntry (lightOff (tamperDetect 16 (xclkHalted d)))).r f = (tamperDetect 16 (xclkHalted d)).r f  := by
    rw [tamperEntry_r _ h, dark.r f h]
  have silent : (tamperEntry (lightOff (tamperDetect 16 (xclkHalted d)))).ck = { d.ck with xrun := false, silent := true } :=
    (entry.ck.trans dark.ck).trans ck
  refine ⟨silent, (reads (by decide)).trans xstop, (reads (by decide)).trans xok, (reads (by decide)).trans latch, (reads (by decide)).trans qpend,
    (reads (by decide)).trans (tamperDetect_latch _).2, tamperEntry_image _, ?_, (reads (by decide)).trans live,
    fun sel => (reads (by decide)).trans (holdover sel), (entry.mem.trans dark.mem).trans mem, (entry.tlt.trans dark.tlt).trans tlt⟩
  simp [darkened, silent]

/-- The device that was silent speaks again. -/
def xclkHeard (d : Dev) : Dev := (xclkBack d).onCk fun c => { c with silent := false }

theorem xclkReturn_silent {d : Dev} (stopped : d.ck.xrun = false) (silent : d.ck.silent = true) (awake : d.awake = true) :
    xclkReturn d = if d.r F.SYS_BOOT_LSTATE = 5 then flushEvents (flushOut (xclkHeard d)) else enterQuarantine (xclkHeard d) := by
  have ladder : d.ck.ladder ≠ .dormant := by rcases (awake_iff d).mp awake with h | h <;> simp [h]
  have mute : ¬ (xclkBack d).ck.silent = false := by
    rw [xclkBack_frame]
    simp [silent]
  have state : (xclkHeard d).r F.SYS_BOOT_LSTATE = d.r F.SYS_BOOT_LSTATE := xclkBack_sameRegs d _ (by decide)
  unfold xclkReturn
  rw [if_neg (by simp [stopped, ladder]), ← state]
  simp only [asleep_of_awake awake, Bool.false_eq_true, if_false]
  exact if_neg mute

theorem xclkHeard_frame (d : Dev) : xclkHeard d = { d with regs := (xclkHeard d).regs, ck := { d.ck with xrun := true, silent := false } } := by
  unfold xclkHeard
  rw [xclkBack_frame]
  rfl

theorem xclkReturn_inQuarantine {d : Dev} (stopped : d.ck.xrun = false) (silent : d.ck.silent = true) (awake : d.awake = true)
    (state : d.r F.SYS_BOOT_LSTATE = 5) :
    (xclkReturn d).ck = { d.ck with xrun := true, silent := false } ∧ (xclkReturn d).r F.CK_STAT_XOK = 1 ∧ (xclkReturn d).r F.SYS_BOOT_LSTATE = 5 ∧
      (xclkReturn d).mem = d.mem := by
  have lines := (aside_flushOut (xclkHeard d)).trans (aside_flushEvents _)
  have same : (xclkHeard d).r F.SYS_BOOT_LSTATE = 5 := (xclkBack_sameRegs d _ (by decide)).trans state
  rw [xclkReturn_silent stopped silent awake, if_pos state]
  refine ⟨lines.ck.trans ?_, (lines.r _ (by decide)).trans (xclkBack_xok d), (lines.r _ (by decide)).trans same, lines.mem.trans ?_⟩
  all_goals rw [xclkHeard_frame]

theorem xclkReturn_intoQuarantine {d : Dev} (stopped : d.ck.xrun = false) (silent : d.ck.silent = true) (awake : d.awake = true)
    (state : d.r F.SYS_BOOT_LSTATE ≠ 5) :
    (d.sw.slots = [] → (xclkReturn d).ck = { d.ck with xrun := true, silent := false }) ∧ (xclkReturn d).r F.SYS_BOOT_LSTATE = 5 ∧
      (xclkReturn d).r F.TP_STAT_QPEND = 0 ∧ ∀ x, inProg x = true → (xclkReturn d).byte x = memDefault := by
  obtain ⟨lstate, qpend, prog, ck⟩ := enterQuarantine_reached (xclkHeard d)
  rw [xclkReturn_silent stopped silent awake, if_neg state]
  refine ⟨fun free => ?_, lstate, qpend, prog⟩
  have slots : (xclkHeard d).sw.slots = [] := by rw [xclkHeard_frame]; exact free
  rw [ck slots, xclkHeard_frame]

/-! ### The commands as functions of the device -/

theorem exec_ckRootSelWrite (v : Bool) (s : State) : exec (.ckRootSelWrite v) s = onDev (ckRootSelWrite (bit v)) s := rfl
theorem exec_pllLock (v : Bool) (s : State) : exec (.pllLock v) s = onDev (pllLock v) s := rfl
theorem exec_pllUnlock (s : State) : exec .pllUnlock s = onDev pllUnlock s := rfl
theorem exec_ringClockReturn (s : State) : exec .ringClockReturn s = onDev ringClockReturn s := rfl
theorem exec_ringClockLoss (s : State) : exec .ringClockLoss s = onDev ringClockLoss s := rfl
theorem exec_holdoverEnd (s : State) : exec .holdoverEnd s = onDev holdoverEnd s := rfl
theorem exec_xclkStop (s : State) : exec .xclkStop s = onDev xclkStop s := rfl
theorem exec_xclkReturn (s : State) : exec .xclkReturn s = onDev xclkReturn s := rfl

/-- Settles O8: each command of the root and of XCLK by what it does in each of its cases; the light path, the heads and the interpreter, which they
call on, leave the clocks and the registers of CK, SYS, OT, KY and TP alone. -/
theorem rootClock : Obligations.RootClock := by
  unfold Obligations.RootClock
  refine ⟨fun v => ⟨?_, ?_, ?_⟩, runs_of_onDev exec_ringClockReturn fun _ _ => rfl, ?_, ?_, fun e => ⟨?_, ?_⟩, ⟨?_, fun k u armed => ?_, ?_⟩, ?_, ?_, ?_, ?_,
    ?_, ?_, ?_⟩
  · exact runs_of_onDev (exec_ckRootSelWrite v) fun d fits => ckRootSelWrite_takes fits
  · exact runs_of_onDev (exec_ckRootSelWrite v) fun d refused => ckRootSelWrite_refused refused
  · exact runs_of_onDev (exec_pllLock v) fun d ⟨awake, ref, idle⟩ => pllLock_awake awake ref idle
  · exact runs_of_onDev exec_ringClockLoss fun d ⟨awake, sel, idle⟩ => ringClockLoss_asRoot awake sel idle
  · exact runs_of_onDev exec_ringClockLoss fun d unused => ringClockLoss_unused unused
  · exact runs_of_onDev exec_holdoverEnd fun d ⟨ends, due⟩ => holdoverEnd_due ends due
  · exact runs_of_onDev exec_holdoverEnd fun d ⟨ends, early⟩ => holdoverEnd_early ends early
  · refine does_of_onDev exec_pllUnlock fun d ⟨⟨awake, locked, ref, _⟩, free⟩ => ?_
    obtain ⟨e, light, eq, trig, aim⟩ := pllUnlock_noSlots awake locked ref free
    rw [eq]
    have same (f : Nat) : e.fu f = d.fu f := by
      unfold Dev.fu
      rw [light.sw]
      rfl
    refine ⟨(light.r _ (by decide)).trans (unlocked_r d).1, (light.r _ (by decide)).trans (unlocked_r d).2, light.ck, light.co, light.mem,
      (congrArg Sower.slots light.sw).trans free, fun f sown => ?_, trig, aim⟩
    rw [passAs_sown (by rwa [same]), same]
    exact ⟨rfl, rfl⟩
  · exact does_of_onDev exec_pllUnlock fun d ⟨⟨awake, locked, ref, _, pend, forcing⟩, only⟩ => pllUnlock_armed awake locked ref pend forcing only armed
  · exact runs_of_onDev exec_pllUnlock fun d none => pllUnlock_none none
  · exact does_of_onDev exec_xclkStop fun d ⟨runs, asleep⟩ => xclkStop_inSleep runs ((asleep_iff d).mpr asleep)
  · exact does_of_onDev exec_xclkReturn fun d ⟨stopped, heard, asleep⟩ => xclkReturn_asleep stopped heard ((asleep_iff d).mpr asleep)
  · exact does_of_onDev exec_xclkStop fun d ⟨runs, awake, state, free, quiet⟩ => xclkStop_alarms runs awake state free quiet
  · exact does_of_onDev exec_xclkStop fun d ⟨runs, awake, state⟩ => xclkStop_quarantined runs awake state
  · exact runs_of_onDev exec_xclkReturn fun d ⟨stopped, heard, awake⟩ => xclkReturn_awake stopped heard awake
  · exact does_of_onDev exec_xclkReturn fun d ⟨stopped, silent, awake, state⟩ => xclkReturn_inQuarantine stopped silent awake state
  · exact does_of_onDev exec_xclkReturn fun d ⟨stopped, silent, awake, state⟩ => xclkReturn_intoQuarantine stopped silent awake state

end Sys2Proof.Proofs
end

section
/-! PROOFS. Hold, and a request on the power ladder: its quiesce, its refusal, and the entry of Nap, Fallow and Dormant [03 R47, R49, R51, R53-R55]. -/

namespace Sys2Proof.Proofs

open Sys2Proof.Machine Sys2Proof.Laws

/-! ### Hold [03 R49] -/

/-- The four conditions of Hold, with AUTOHOLD. -/
abbrev MayHold (d : Dev) : Prop :=
  d.r F.CK_LADDER_AUTOHOLD ≠ 0 ∧ armedLadder d = 0 ∧ d.co.waiting = true ∧ d.sp.bus = none ∧ d.sp.held = none ∧ ∀ p, p < 6 → lineFree d p = true

theorem busIdle_iff (d : Dev) : busIdle d = true ↔ d.sp.bus = none ∧ d.sp.held = none := by simp [busIdle]

theorem mayHold_iff (d : Dev) : MayHold d ↔ d.b F.CK_LADDER_AUTOHOLD = true ∧ armedLadder d = 0 ∧ d.co.waiting = true ∧ busIdle d = true ∧
    (List.range 6).all (fun p => lineFree d p) = true := by
  simp [MayHold, Dev.b, busIdle_iff, List.all_eq_true, and_assoc]

theorem holdEntry_holds {d : Dev} (run : d.ck.ladder = .run) (may : MayHold d) :
    holdEntry d = (d.w F.CK_LSTAT_LAST 1).onCk fun c => { c with ladder := .hold } :=
  if_pos ⟨run, (mayHold_iff d).mp may⟩

theorem holdEntry_stays {d : Dev} (may : ¬ MayHold d) : holdEntry d = d := if_neg fun h => may ((mayHold_iff d).mpr h.2)

theorem holdFails_iff (d : Dev) : (d.b F.CK_LADDER_AUTOHOLD = false ∨ armedLadder d ≠ 0 ∨ d.co.waiting = false ∨ busIdle d = false ∨
    (List.range 6).any (fun p => !lineFree d p) = true) ↔ ¬ MayHold d := by
  rw [mayHold_iff, List.any_eq_not_all_not]
  simp only [Bool.not_not, Bool.not_eq_true', not_and_or, Bool.not_eq_true, ne_eq]

theorem holdExit_leaves {d : Dev} (hold : d.ck.ladder = .hold) (may : ¬ MayHold d) : holdExit d = d.onCk fun c => { c with ladder := .run } :=
  if_pos ⟨hold, (holdFails_iff d).mpr may⟩

theorem holdExit_stays {d : Dev} (may : MayHold d) : holdExit d = d := if_neg fun h => (holdFails_iff d).mp h.2 may

/-! ### A request that is refused [03 R51] -/

theorem powerAnswer_none (why : Nat) {d : Dev} (h : d.st.wait = none) : powerAnswer why d = d := by simp [powerAnswer, h]

/-- The registers and the clocks' state after a refusal with cause `why`; arming is free again. -/
def refusedWith (why : Nat) (d : Dev) : Dev :=
  { (((d.w F.CK_LADDER_REQ 0).set F.CK_LSTAT_REF).w F.CK_LSTAT_WHY why).onCk fun c => { c with ask := none, woken := false } with
    sw := { d.sw with frozen := false } }

theorem ladderRefuse_quiet (why : Nat) {d : Dev} (h : d.st.wait = none) : ladderRefuse why d = refusedWith why d := powerAnswer_none why h

/-! ### The quiesce timer [03 R51; 09 R185] -/

theorem over_iff (d : Dev) (c : Dev → Nat → Nat) (t : Nat) : d.over c t = true ↔ c d t < c d d.ns := decide_eq_true_iff

theorem ties_iff (d : Dev) (c : Dev → Nat → Nat) (t : Nat) : d.ties c t = true ↔ c d t = c d d.ns := decide_eq_true_iff

section

variable {d : Dev} {g e : Nat} (asked : d.ck.ask = some (g, e))
include asked

theorem quiesceTimeout_over (late : d.aclk e < d.aclk d.ns) (quiet : d.st.wait = none) : quiesceTimeout d = refusedWith 5 d := by
  unfold quiesceTimeout
  rw [asked]
  simp only [if_pos ((over_iff d Dev.aclk e).mpr late), ladderRefuse_quiet 5 quiet]

theorem quiesceTimeout_within (within : d.aclk d.ns ≤ d.aclk e) : quiesceTimeout d = d := by
  have still := mt (over_iff d Dev.aclk e).mp (Nat.not_lt.mpr within)
  unfold quiesceTimeout
  rw [asked]
  simp only [if_neg still]

theorem ladderEntry_over (irq : Bool) (late : d.aclk e < d.aclk d.ns) (quiet : d.st.wait = none) : ladderEntry irq d = refusedWith 5 d := by
  rw [← quiesceTimeout_over asked late quiet]
  unfold ladderEntry
  rw [asked]
  exact if_pos ((over_iff d Dev.aclk e).mpr late)

theorem ladderEntry_woken (irq : Bool) (done : quiesced d = true) (before : d.aclk d.ns < d.aclk e) (woken : d.ck.woken = true)
    (quiet : d.st.wait = none) : ladderEntry irq d = refusedWith 4 d := by
  have still := mt (over_iff d Dev.aclk e).mp (by omega)
  have apart := mt (ties_iff d Dev.aclk e).mp (by omega)
  unfold ladderEntry
  rw [asked]
  simp only [if_neg still, done, Bool.true_eq_false, if_false, if_neg apart, woken, true_or, if_true, ladderRefuse_quiet 4 quiet]

/-- The device as it enters the state it asked for: completion in the timer's last cycle is a tie, which CK's tag notes. -/
def metBy (e : Nat) (d : Dev) : Dev := if d.ties Dev.aclk e then d.coin Tag.ck else d

theorem ladderEntry_enters (done : quiesced d = true) (within : d.aclk d.ns ≤ d.aclk e) (asleep : d.ck.woken = false) :
    ladderEntry false d = enterSleep g (metBy e d) := by
  have still := mt (over_iff d Dev.aclk e).mp (Nat.not_lt.mpr within)
  have woken : (metBy e d).ck.woken = false := by
    unfold metBy
    split
    · exact asleep
    · exact asleep
  unfold ladderEntry
  rw [asked]
  simp only [if_neg still, done, Bool.true_eq_false, if_false]
  exact if_neg (by simp only [Bool.false_eq_true, or_false]; exact Bool.eq_false_iff.mp woken)

end

/-! ### What a note in the registers leaves [03 Table CK-2] -/

/-- From `d` to `t` registers have changed, and the host ports, and nothing that clocks, core, memory, OTP or the Sower hold. -/
structure Noted (d t : Dev) : Prop where
  ck : t.ck = d.ck
  co : t.co = d.co
  mem : t.mem = d.mem
  tlt : t.tlt = d.tlt
  ns : t.ns = d.ns
  sw : t.sw = d.sw
  ot : t.ot = d.ot
  q0 : t.q0 = d.q0
  en : t.en = d.en
  st : t.st = d.st

theorem Noted.refl (d : Dev) : Noted d d := ⟨rfl, rfl, rfl, rfl, rfl, rfl, rfl, rfl, rfl, rfl⟩

theorem Noted.trans {d e t : Dev} (h : Noted d e) (k : Noted e t) : Noted d t :=
  ⟨k.ck.trans h.ck, k.co.trans h.co, k.mem.trans h.mem, k.tlt.trans h.tlt, k.ns.trans h.ns, k.sw.trans h.sw, k.ot.trans h.ot, k.q0.trans h.q0,
    k.en.trans h.en, k.st.trans h.st⟩

theorem noted_w (d : Dev) (f : Fld) (v : Nat) : Noted d (d.w f v) := ⟨rfl, rfl, rfl, rfl, rfl, rfl, rfl, rfl, rfl, rfl⟩

theorem noted_ite {d e t : Dev} {c : Prop} [Decidable c] (h : Noted d e) (k : Noted d t) : Noted d (if c then e else t) := by
  split
  · exact h
  · exact k

theorem metBy_noted (e : Nat) (d : Dev) : Noted d (metBy e d) := noted_ite (noted_w ..) (.refl d)

theorem metBy_r_other (e : Nat) (d : Dev) {f : Fld} (h : f.key ≠ F.SYS_COIN_TAG.key) : (metBy e d).r f = d.r f := by
  unfold metBy
  split
  · exact r_w_other d _ h
  · rfl

theorem metBy_ties {e : Nat} {d : Dev} (tie : d.aclk e = d.aclk d.ns) : bitAt ((metBy e d).r F.SYS_COIN_TAG) 0 = true := by
  rw [metBy, if_pos ((ties_iff d Dev.aclk e).mpr tie)]
  exact coin_bit d (by decide)

/-! ### Nap and Fallow are entered [03 R53-R55, Table CK-2] -/

/-- The request is answered: CK_LSTAT.LAST names the state, and in Fallow the PLL is off. -/
def entryShown (t : Nat) (d : Dev) : Dev :=
  let d := (d.w F.CK_LADDER_REQ 0).w F.CK_LSTAT_LAST t
  if t = 3 then d.clr F.CK_STAT_PLLLOCK else d

/-- VCA falls to 0.55 V. -/
def supplyLow (d : Dev) : Dev :=
  { (if 2 < d.r F.CORE_VSTAT_TARGET then d.clr F.CORE_VSTAT_SETTLED else d) with co := { d.co with vcaAt := 0 } }

/-- The clocks stop, and the sleep counter holds model time and TLT. -/
def clocksOff (t : Nat) (d : Dev) : Dev :=
  d.onCk fun c => { c with ladder := if t = 2 then .nap else .fallow, ask := none, woken := false, host := false, sleepNs := d.ns, sleepTlt := d.tlt }

theorem enterSleep_clocked {t : Nat} (h : t ≠ 4) (d : Dev) :
    enterSleep t d = forAll (List.range 2) (encoderSleep t) (clocksOff t (supplyLow (entryShown t (ringQuit d)))) := by
  unfold enterSleep
  simp only [if_neg h]
  rfl

theorem entryShown_noted (t : Nat) (d : Dev) : Noted d (entryShown t d) :=
  ((noted_w ..).trans (noted_w ..)).trans (noted_ite (noted_w ..) (.refl _))

theorem entryShown_r (t : Nat) (d : Dev) : (entryShown t d).r F.CK_LADDER_REQ = 0 ∧ (entryShown t d).r F.CK_LSTAT_LAST = t % 8 ∧
    (t = 3 → (entryShown t d).r F.CK_STAT_PLLLOCK = 0) := by
  have req : ((d.w F.CK_LADDER_REQ 0).w F.CK_LSTAT_LAST t).r F.CK_LADDER_REQ = 0 := (r_w_other _ _ (by decide)).trans (clr_r_same ..)
  have last : ((d.w F.CK_LADDER_REQ 0).w F.CK_LSTAT_LAST t).r F.CK_LSTAT_LAST = t % 8 := r_w_same ..
  unfold entryShown
  simp only
  split
  · exact ⟨(clr_r_other _ (by decide)).trans req, (clr_r_other _ (by decide)).trans last, fun _ => clr_r_same ..⟩
  · rename_i other
    exact ⟨req, last, fun h => absurd h other⟩

theorem entryShown_r_other (t : Nat) (d : Dev) {f : Fld} (h : f.key ∉ [F.CK_LADDER_REQ, F.CK_LSTAT_LAST, F.CK_STAT_PLLLOCK].map Fld.key) :
    (entryShown t d).r f = d.r f := by
  simp only [List.map_cons, List.map_nil, List.mem_cons, List.not_mem_nil, or_false, not_or] at h
  obtain ⟨req, last, lock⟩ := h
  have written : ((d.w F.CK_LADDER_REQ 0).w F.CK_LSTAT_LAST t).r f = d.r f := (r_w_other _ _ last).trans (r_w_other _ _ req)
  unfold entryShown
  simp only
  split
  · exact (clr_r_other _ lock).trans written
  · exact written

theorem supplyLow_frame (d : Dev) : supplyLow d = { d with regs := (supplyLow d).regs, co := (supplyLow d).co } := by
  unfold supplyLow
  split <;> rfl

theorem supplyLow_r (d : Dev) {f : Fld} (h : Kept f) : (supplyLow d).r f = d.r f :=
  (aside_ite (c := 2 < d.r F.CORE_VSTAT_TARGET) (aside_clr d (g := F.CORE_VSTAT_SETTLED) (by decide)) (.refl d)).r f h

theorem aside_encoderSleep (t n : Nat) (d : Dev) : Aside d (encoderSleep t n d) := aside_blocks rfl

/-- Nap or Fallow, by what its entry does to the device `d`. -/
structure Slept (t : Nat) (d s : Dev) : Prop where
  ck : s.ck = { d.ck with
    ladder := if t = 2 then .nap else .fallow, ask := none, woken := false, host := false, sleepNs := d.ns, sleepTlt := d.tlt }
  req : s.r F.CK_LADDER_REQ = 0
  last : s.r F.CK_LSTAT_LAST = t % 8
  lock : t = 3 → s.r F.CK_STAT_PLLLOCK = 0
  coin : s.r F.SYS_COIN_TAG = d.r F.SYS_COIN_TAG
  mem : s.mem = d.mem
  sw : s.sw = d.sw
  q0 : s.q0 = d.q0
  tlt : s.tlt = d.tlt

theorem enterSleep_slept {t : Nat} (h : t ≠ 4) {d : Dev} (free : armedAll d = 0) : Slept t d (enterSleep t d) := by
  have ring := aside_ringQuit free
  have shown := entryShown_noted t (ringQuit d)
  have low := supplyLow_frame (entryShown t (ringQuit d))
  have inputs := aside_forAll (f := encoderSleep t) (aside_encoderSleep t) (List.range 2) (clocksOff t (supplyLow (entryShown t (ringQuit d))))
  obtain ⟨req, last, lock⟩ := entryShown_r t (ringQuit d)
  have reads {f : Fld} (hf : Kept f) : (forAll (List.range 2) (encoderSleep t) (clocksOff t (supplyLow (entryShown t (ringQuit d))))).r f =
      (entryShown t (ringQuit d)).r f := (inputs.r f hf).trans (supplyLow_r _ hf)
  have ck : (supplyLow (entryShown t (ringQuit d))).ck = d.ck := by rw [low]; exact shown.ck.trans ring.ck
  have ns : (supplyLow (entryShown t (ringQuit d))).ns = d.ns := by rw [low]; exact shown.ns.trans ring.ns
  have tlt : (supplyLow (entryShown t (ringQuit d))).tlt = d.tlt := by rw [low]; exact shown.tlt.trans ring.tlt
  rw [enterSleep_clocked h]
  refine ⟨?_, (reads (by decide)).trans req, (reads (by decide)).trans last, fun e => (reads (by decide)).trans (lock e), ?_, inputs.mem.trans ?_,
    inputs.sw.trans ?_, inputs.q0.trans ?_, inputs.tlt.trans tlt⟩
  · rw [inputs.ck, clocksOff, onCk_ck, ck, ns, tlt]
  · rw [reads (by decide), entryShown_r_other t _ (by decide), ring.r _ (by decide)]
  · rw [clocksOff, onCk_mem, low]
    exact shown.mem.trans ring.mem
  · rw [clocksOff, onCk_sw, low]
    exact shown.sw.trans ring.sw
  · rw [clocksOff, onCk_q0, low]
    exact shown.q0.trans ring.q0

/-- In sleep the host paths are closed and the drivers are off. -/
theorem sleep_pins {d : Dev} (bright : d.ck.brown = false) (closed : d.ck.host = false) (asleep : d.asleep = true) :
    rtsn d = .high ∧ sbusyn d = .low ∧ syo d = .hiz ∧ ∀ p, trg d p = .hiz ∧ sbd d p = .released := by
  have awake := awake_of_asleep asleep
  have reset : d.ck.ladder ≠ .resetting := by rcases (asleep_iff d).mp asleep with h | h | h <;> simp [h]
  simp [rtsn, sbusyn, syo, trg, sbd, pinDriver, pinOut_bright _ bright, uartOpen, slaveOpen, closed, awake, reset]

/-! ### Dormant is entered [03 R47, R51, Table CK-2] -/

theorem keepFields_frame (old : Dev) (fs : List Fld) (d : Dev) : keepFields old fs d = { d with regs := (keepFields old fs d).regs } := by
  induction fs generalizing d with
  | nil => rfl
  | cons g fs ih => exact (ih (d.w g (old.r g))).trans rfl

theorem keepFields_cons (old : Dev) (g : Fld) (fs : List Fld) (d : Dev) : keepFields old (g :: fs) d = keepFields old fs (d.w g (old.r g)) := rfl

theorem keepFields_r_other (old : Dev) {fs : List Fld} {f : Fld} (h : f.key ∉ fs.map Fld.key) (d : Dev) : (keepFields old fs d).r f = d.r f := by
  induction fs generalizing d with
  | nil => rfl
  | cons g fs ih =>
    rw [List.map_cons, List.mem_cons, not_or] at h
    rw [keepFields_cons, ih h.2, r_w_other _ _ h.1]

theorem keepFields_r_mem (old : Dev) {fs : List Fld} (apart : (fs.map Fld.key).Nodup) {f : Fld} (h : f ∈ fs) (d : Dev) :
    (keepFields old fs d).r f = old.r f % 2 ^ f.width := by
  induction fs generalizing d with
  | nil => cases h
  | cons g fs ih =>
    rw [List.map_cons, List.nodup_cons] at apart
    rw [keepFields_cons]
    rcases List.mem_cons.mp h with rfl | later
    · rw [keepFields_r_other old apart.1, r_w_same]
    · exact ih apart.2 later _

/-- What keep RAM and the fuses hold, with every register and block at its reset state. -/
def bareKept (d : Dev) : Dev :=
  { ns := d.ns, draws := d.draws, hp := d.hp.foldl (fun t e => Tab.setD t e.1 {} ({ raw := e.2.raw, rawSince := d.ns } : Head)) [],
    ot := { fuses := d.ot.fuses }, mem := keepOnly d, ck := { resetLow := d.ck.resetLow, xrun := d.ck.xrun, brown := d.ck.brown } }

/-- The fields that Dormant keeps. -/
def dormantFields : List Fld := tamperFields ++ wakeFields ++ [F.SYS_STRAP_BOOTSEL]

theorem otReset_idle {d : Dev} (h : d.ot.job = none) : otReset d = d := by simp [otReset, pulseNow, h]

theorem baseReset_idle (fs : List Fld) {d : Dev} (h : d.ot.job = none) : baseReset fs true d = keepFields d fs (bareKept d) := by
  rw [baseReset, otReset_idle h]
  rfl

/-- Dormant, by what its entry leaves of the device `d`. -/
structure Dormant (d s : Dev) : Prop where
  ladder : s.ck.ladder = .dormant
  xrun : s.ck.xrun = false
  co : s.co = {}
  sw : s.sw = {}
  ky : s.ky = {}
  tlt : s.tlt = 0
  ot : s.ot = { fuses := d.ot.fuses }
  mem : s.mem = keepOnly d
  kept : ∀ f ∈ dormantFields, s.r f = d.r f % 2 ^ f.width
  reset : ∀ f : Fld, f.key ∉ dormantFields.map Fld.key → s.r f = f.rst

/-- The clocks of a device in Dormant, whose port sent `sent` last. -/
def dormantClocks (sent : Option Cell) (d : Dev) : Dev :=
  (d.onR fun s => { s with sentCell := sent }).onCk fun c => { c with ladder := .dormant, boot := .xclk, resample := false, xrun := false }

theorem enterSleep_dormant (d : Dev) : enterSleep 4 d = dormantClocks (ringQuit d).sr.sentCell (baseReset dormantFields true (ringQuit d)) := rfl

theorem bareKept_r (d : Dev) (f : Fld) : (bareKept d).r f = f.rst := rfl

theorem dormantFields_apart : (dormantFields.map Fld.key).Nodup := by decide

theorem dormantFields_kept : ∀ f ∈ dormantFields, Kept f ∧ f.key ≠ F.SYS_COIN_TAG.key := by decide

theorem dormantClocks_r (sent : Option Cell) (d : Dev) (f : Fld) : (dormantClocks sent d).r f = d.r f := rfl

theorem dormant_of_kept (sent : Option Cell) (d : Dev) : Dormant d (dormantClocks sent (keepFields d dormantFields (bareKept d))) := by
  have reads (f : Fld) := dormantClocks_r sent (keepFields d dormantFields (bareKept d)) f
  refine ⟨rfl, rfl, ?_, ?_, ?_, ?_, ?_, ?_, fun f hf => (reads f).trans (keepFields_r_mem d dormantFields_apart hf _), fun f hf => ?_⟩
  case refine_7 => rw [reads, keepFields_r_other d hf, bareKept_r]
  all_goals
    rw [keepFields_frame]
    rfl

/-- The device enters Dormant with its slots free and its OTP engine idle. -/
theorem enterSleep_dormant_kept {d : Dev} (free : armedAll d = 0) (idle : d.ot.job = none) : Dormant (ringQuit d) (enterSleep 4 d) := by
  have job : (ringQuit d).ot.job = none := by rw [(aside_ringQuit free).ot, idle]
  rw [enterSleep_dormant, baseReset_idle _ job]
  exact dormant_of_kept ..

/-- Keep RAM alone is written after the entry of Dormant. -/
theorem byte_keepOnly {d s : Dev} (h : s.mem = keepOnly d) (x : Nat) :
    s.byte x = if keepBase ≤ x ∧ x < keepBase + keepSize then d.byte x else memDefault := by
  rw [Dev.byte, h]
  refine (tab_getD_filter (fun y => decide (keepBase ≤ y ∧ y < keepBase + keepSize)) memDefault d.mem x).trans ?_
  simp only [decide_eq_true_eq]
  rfl

/-! ### The entry, from the request to the state [03 R51; 09 Table AS-4] -/

/-- A request for state `g` whose timer ends at `e` has quiesced, and neither a wake nor an interrupt has come. -/
abbrev Quiesced (g e : Nat) (d : Dev) : Prop :=
  d.ck.ask = some (g, e) ∧ quiesced d = true ∧ d.aclk d.ns ≤ d.aclk e ∧ armedAll d = 0 ∧ irqAbove d d.co.level = none ∧ d.ck.woken = false

theorem ladderEntry_quiesced {g e : Nat} {d : Dev} (h : Quiesced g e d) :
    ladderEntry (irqAbove d d.co.level).isSome d = enterSleep g (metBy e d) ∧ armedAll (metBy e d) = 0 := by
  obtain ⟨asked, done, within, free, calm, asleep⟩ := h
  rw [calm, Option.isSome_none, ladderEntry_enters asked done within asleep]
  refine ⟨rfl, ?_⟩
  rw [armedAll, slotsIf, (metBy_noted e d).sw]
  exact free

/-- A quiesced request for Nap or Fallow. -/
theorem ladderEntry_sleeps {g e : Nat} (target : g = 2 ∨ g = 3) {d t : Dev} (h : Quiesced g e d) (eq : ladderEntry (irqAbove d d.co.level).isSome d = t) :
    t.ck.ladder = (if g = 2 then .nap else .fallow) ∧ t.ck.ask = none ∧ t.ck.host = false ∧
      t.ck.sleepNs = d.ns ∧ t.ck.sleepTlt = d.tlt ∧ t.r F.CK_LADDER_REQ = 0 ∧ t.r F.CK_LSTAT_LAST = g ∧ (g = 3 → t.r F.CK_STAT_PLLLOCK = 0) ∧
      t.mem = d.mem ∧ t.sw = d.sw ∧ t.q0 = d.q0 ∧ t.tlt = d.tlt ∧ (d.aclk d.ns = d.aclk e → bitAt (t.r F.SYS_COIN_TAG) 0 = true) ∧
      (d.ck.brown = false → rtsn t = .high ∧ sbusyn t = .low ∧ syo t = .hiz ∧ ∀ p, trg t p = .hiz ∧ sbd t p = .released) := by
  obtain ⟨enters, free⟩ := ladderEntry_quiesced h
  have met := metBy_noted e d
  have slept := enterSleep_slept (t := g) (by omega) free
  rw [← enters.symm.trans eq]
  have ck := slept.ck
  rw [met.ck, met.ns, met.tlt] at ck
  have asleep : (enterSleep g (metBy e d)).asleep = true := by
    rw [asleep_iff, ck]
    rcases target with rfl | rfl <;> simp
  refine ⟨by rw [ck], by rw [ck], by rw [ck], by rw [ck], by rw [ck], slept.req, slept.last.trans (by omega), slept.lock, slept.mem.trans met.mem,
    slept.sw.trans met.sw, slept.q0.trans met.q0, slept.tlt.trans met.tlt, fun tie => ?_, fun bright => ?_⟩
  · rw [slept.coin]
    exact metBy_ties tie.symm
  · exact sleep_pins (by rw [ck]; exact bright) (by rw [ck]) asleep

/-- A quiesced request for Dormant, with no burn under way. -/
theorem ladderEntry_dormant {e : Nat} {d : Dev} (h : Quiesced 4 e d) (idle : d.ot.job = none) :
    Dormant (ringQuit (metBy e d)) (ladderEntry (irqAbove d d.co.level).isSome d) ∧ Aside (metBy e d) (ringQuit (metBy e d)) := by
  obtain ⟨enters, free⟩ := ladderEntry_quiesced h
  have job : (metBy e d).ot.job = none := by rw [(metBy_noted e d).ot, idle]
  rw [enters]
  exact ⟨enterSleep_dormant_kept free job, aside_ringQuit free⟩

theorem ladderEntry_dormant_leaves {e : Nat} {d t : Dev} (h : Quiesced 4 e d) (idle : d.ot.job = none)
    (eq : ladderEntry (irqAbove d d.co.level).isSome d = t) :
    t.ck.ladder = .dormant ∧ t.ck.xrun = false ∧ t.co = {} ∧ t.sw = {} ∧ t.ky = {} ∧ t.tlt = 0 ∧ t.ot = { fuses := d.ot.fuses } ∧
      (∀ f ∈ tamperFields ++ wakeFields, t.r f = d.r f % 2 ^ f.width) ∧
      (∀ f : Fld, f.key ∉ (tamperFields ++ wakeFields ++ [F.SYS_STRAP_BOOTSEL]).map Fld.key → t.r f = f.rst) ∧
      ∀ x, t.byte x = if keepBase ≤ x ∧ x < keepBase + keepSize then d.byte x else memDefault := by
  subst eq
  obtain ⟨dormant, ring⟩ := ladderEntry_dormant h idle
  have met := metBy_noted e d
  refine ⟨dormant.ladder, dormant.xrun, dormant.co, dormant.sw, dormant.ky, dormant.tlt, ?_, fun f hf => ?_, dormant.reset, fun x => ?_⟩
  · rw [dormant.ot, ring.ot, met.ot]
  · have kept : f ∈ dormantFields := List.mem_append_left _ hf
    obtain ⟨block, other⟩ := dormantFields_kept f kept
    rw [dormant.kept f kept, ring.r f block, metBy_r_other e d other]
  · rw [byte_keepOnly dormant.mem, byte_congr (ring.mem.trans met.mem)]

/-! ### POWER dormant [12 R236] -/

/-- CK_LADDER.REQ holds the state `t`, and nothing arms. -/
def requested (t : Nat) (d : Dev) : Dev := { d.w F.CK_LADDER_REQ t with sw := { d.sw with frozen := true } }

theorem requested_fu (t f : Nat) (d : Dev) : (requested t d).fu f = d.fu f := rfl

/-- The device once entry of state `t` is asked for: arming is frozen, and points that pass count by it. -/
def asked (t : Nat) (d : Dev) : Dev := passAs 2 (requested t d)

theorem asked_rest (t : Nat) (d : Dev) : (asked t d).ck = d.ck ∧ (asked t d).st = d.st ∧ (asked t d).sw.frozen = true ∧
    (asked t d).sw.slots = d.sw.slots ∧ (asked t d).mem = d.mem ∧ (asked t d).co = d.co ∧ (asked t d).ua = d.ua := ⟨rfl, rfl, rfl, rfl, rfl, rfl, rfl⟩

theorem asked_r (t : Nat) (d : Dev) (f : Fld) : (asked t d).r f = (d.w F.CK_LADDER_REQ t).r f := rfl

theorem ladderCheck_congr (t : Nat) {d e : Dev} (r : ∀ f : Fld, f.key ≠ F.CK_LADDER_REQ.key → e.r f = d.r f) (slots : e.sw.slots = d.sw.slots) :
    ladderCheck t e = ladderCheck t d := by
  have state (b : Nat) : e.r (F.LD_BSTAT_STATE b) = d.r (F.LD_BSTAT_STATE b) := r _ <| by
    simp only [Fld.key, F.LD_BSTAT_STATE, F.CK_LADDER_REQ]
    omega
  have armed : armedLadder e = armedLadder d := by simp only [armedLadder, armedAll, slotsIf, slots, state]
  have master : isMaster e = isMaster d := by rw [isMaster, isMaster, Dev.b, Dev.b, r F.SR_STAT_MASTER (by decide)]
  unfold ladderCheck
  rw [r F.CK_CFG_DEEPEST (by decide), r F.SR_MEM_MEM (by decide), armed, master]

theorem ladderRequest_asks {t : Nat} (target : t = 2 ∨ t = 3 ∨ t = 4) {d : Dev} (awake : d.awake = true) (free : d.ck.ask = none)
    (may : ladderCheck t d = 0) : ladderRequest t d = (asked t d).onCk fun c => { c with ask := some (t, d.ns + 1000000), woken := false } := by
  have check : ladderCheck t (asked t d) = 0 :=
    (ladderCheck_congr t (fun f hf => (asked_r t d f).trans (r_w_other d t hf)) rfl).trans may
  unfold ladderRequest
  rw [if_neg (by simp [awake, free, target])]
  exact if_neg (not_not.mpr check)

theorem flushEvents_none {d : Dev} (h : d.st.store = []) : flushEvents d = d := by simp [flushEvents, flushEventsN, h]

/-- The verb POWER waits no more. -/
def powerLeft (d : Dev) : Dev := d.onSt fun s => { s with wait := none }

theorem dormantRequest_asks {c : Ctx} {n : Nat} {d : Dev} (path : c.path = 1) (wait : d.st.wait = some (c, .leave true n)) (tx : d.ua.tx = [])
    (out : d.st.out = []) (store : d.st.store = []) (awake : d.awake = true) (free : d.ck.ask = none) (may : ladderCheck 4 d = 0) :
    dormantRequest d = (asked 4 (powerLeft d)).onCk fun c => { c with ask := some (4, d.ns + 1000000), woken := false } := by
  have left : hasLeft c.path d = true := by simp [hasLeft, path, tx]
  have same : ladderCheck 4 (powerLeft d) = 0 := (ladderCheck_congr 4 (d := d) (fun _ _ => rfl) rfl).trans may
  have asks := ladderRequest_asks (t := 4) (by omega) (d := powerLeft d) awake free same
  have quiet : (ladderRequest 4 (powerLeft d)).st.store = [] := by rw [asks]; exact store
  unfold dormantRequest
  rw [wait]
  simp only [left, out, and_self, if_true]
  exact (flushEvents_none quiet).trans asks

theorem dormantRequest_leaves {c : Ctx} {n : Nat} {d : Dev} (path : c.path = 1) (wait : d.st.wait = some (c, .leave true n)) (tx : d.ua.tx = [])
    (out : d.st.out = []) (store : d.st.store = []) (awake : d.awake = true) (free : d.ck.ask = none) (may : ladderCheck 4 d = 0) :
    (dormantRequest d).r F.CK_LADDER_REQ = 4 ∧ (dormantRequest d).ck = { d.ck with ask := some (4, d.ns + 1000000), woken := false } ∧
      (dormantRequest d).st = { d.st with wait := none } ∧ (dormantRequest d).sw.frozen = true ∧ (dormantRequest d).sw.slots = d.sw.slots ∧
      (∀ f, (d.fu f).state ≠ .fallow → ((dormantRequest d).fu f).pass = 2) ∧ (dormantRequest d).mem = d.mem ∧ (dormantRequest d).co = d.co ∧
      (dormantRequest d).ua = d.ua := by
  rw [dormantRequest_asks path wait tx out store awake free may]
  obtain ⟨ck, st, frozen, slots, mem, co, ua⟩ := asked_rest 4 (powerLeft d)
  refine ⟨(asked_r 4 (powerLeft d) _).trans (r_w_same ..), ?_, st, frozen, slots, fun f sown => ?_, mem, co, ua⟩
  · rw [onCk_ck, ck]
    rfl
  have counts : ((asked 4 (powerLeft d)).fu f).pass = 2 := by
    rw [asked, passAs_sown (by rwa [requested_fu])]
  exact counts

end Sys2Proof.Proofs
end

section
/-! PROOFS. Wakes: the exit of Nap, of Fallow and of Dormant [03 R53-R59, Tables CK-4, CK-6 to CK-8]. -/

namespace Sys2Proof.Proofs

open Sys2Proof.Machine Sys2Proof.Laws

/-! ### Nap or Fallow ends [03 R59, Tables CK-6, CK-7] -/

/-- The device `t` runs again where `d` slept: TLT is the sleep counter's, `slip` away, the clocks stand at any phase, and arming is free. -/
def Awoken (slip : Int) (d t : Dev) : Prop :=
  t.ck = { d.ck with ladder := .run, host := true, phase := t.ck.phase, aphase := t.ck.aphase } ∧ t.ck.phase < 8 ∧ t.ck.aphase < 1000 ∧
    t.sw.frozen = false ∧ t.sw.slots = d.sw.slots ∧ t.mem = d.mem ∧ t.co = d.co ∧
    t.tlt = (((d.ck.sleepTlt + (d.ns - d.ck.sleepNs) : Nat) + slip) % (2 ^ 48 : Int)).toNat

/-- A device that sleeps as `d` does, but for notes in the registers, wakes as `d` does. -/
theorem Noted.awoken {d e t : Dev} {slip : Int} (h : Noted d e) (k : Awoken slip e t) : Awoken slip d t := by
  unfold Awoken at k ⊢
  rwa [h.ck, h.sw, h.mem, h.co, h.ns] at k

/-- TLT is loaded from the sleep counter, and the host paths open. -/
def tltLoaded (slip : Int) (d : Dev) : Dev :=
  { d with tlt := (((d.ck.sleepTlt + (d.ns - d.ck.sleepNs) : Nat) + slip) % (tltMod : Int)).toNat }.onCk fun c =>
    { c with ladder := .run, host := true }

/-- Arming is free again. -/
def armingFree (d : Dev) : Dev := { d with sw := { d.sw with frozen := false } }

/-- The clocks and the blocks' timers run again. -/
def timersRun (slip : Int) (d : Dev) : Dev := resumeTimers (d.ns - d.ck.sleepNs) (clocksResume (tltLoaded slip d))

/-- The device out of Nap or Fallow, before the answer to the verb that sent it there. -/
def outOfSleep (slip : Int) (d : Dev) : Dev := vsetApply (headsResume (armingFree (timersRun slip d)))

theorem leaveSleep_eq (slip : Int) (d : Dev) : leaveSleep slip d =
    if (outOfSleep slip d).b F.TP_STAT_QPEND then enterQuarantine (outOfSleep slip d) else powerAnswer 0 (outOfSleep slip d) := rfl

theorem clocksResume_frame (d : Dev) : clocksResume d = { d with draws := d.draws + 2, ck := (clocksResume d).ck } := rfl

theorem clocksResume_ck (d : Dev) : (clocksResume d).ck = { d.ck with phase := (clocksResume d).ck.phase, aphase := (clocksResume d).ck.aphase } := rfl

theorem clocksResume_phases (d : Dev) : (clocksResume d).ck.phase < 8 ∧ (clocksResume d).ck.aphase < 1000 :=
  ⟨Nat.mod_lt _ (by decide), (Config.clockPhase _).isLt⟩

theorem clocksResume_rest (d : Dev) : (clocksResume d).regs = d.regs ∧ (clocksResume d).mem = d.mem ∧ (clocksResume d).co = d.co ∧
    (clocksResume d).st = d.st ∧ (clocksResume d).tlt = d.tlt ∧ (clocksResume d).sw = d.sw := by
  rw [clocksResume_frame]
  exact ⟨rfl, rfl, rfl, rfl, rfl, rfl⟩

theorem timersRun_awoken (slip : Int) (d : Dev) : Awoken slip d (armingFree (timersRun slip d)) ∧ (timersRun slip d).regs = d.regs ∧
    (timersRun slip d).st = d.st := by
  have timers := resumeTimers_timersOnly (d.ns - d.ck.sleepNs) (clocksResume (tltLoaded slip d))
  obtain ⟨regs, mem, co, st, tlt, sw⟩ := clocksResume_rest (tltLoaded slip d)
  obtain ⟨phase, aphase⟩ := clocksResume_phases (tltLoaded slip d)
  have clocks := clocksResume_ck (tltLoaded slip d)
  have ck : (armingFree (timersRun slip d)).ck = (clocksResume (tltLoaded slip d)).ck := timers.ck
  refine ⟨⟨?_, ?_, ?_, rfl, (timers.slots.trans (congrArg Sower.slots sw)).trans rfl, (timers.mem.trans mem).trans rfl, (timers.co.trans co).trans rfl,
    (timers.tlt.trans tlt).trans rfl⟩, (timers.regs.trans regs).trans rfl, (timers.st.trans st).trans rfl⟩
  · rw [ck]
    exact clocks
  · rwa [ck]
  · rwa [ck]

/-- Blocks that output keep a device that runs again as it is. -/
theorem Awoken.aside {slip : Int} {d e t : Dev} (h : Awoken slip d e) (k : Aside e t) : Awoken slip d t := by
  unfold Awoken at h ⊢
  rwa [k.ck, k.sw, k.mem, k.co, k.tlt]

theorem aside_vsetApply (d : Dev) : Aside d (vsetApply d) := aside_aimAt ..

theorem vsetApply_st (d : Dev) : (vsetApply d).st = d.st := aimAt_st ..

theorem armingFree_st (d : Dev) : (armingFree d).st = d.st := rfl

theorem armingFree_regs (d : Dev) : (armingFree d).regs = d.regs := rfl

theorem outOfSleep_aside (slip : Int) (d : Dev) : Aside (armingFree (timersRun slip d)) (outOfSleep slip d) := by
  unfold outOfSleep
  exact (aside_headsResume _).trans (aside_vsetApply _)

theorem outOfSleep_awoken (slip : Int) (d : Dev) : Awoken slip d (outOfSleep slip d) ∧ (outOfSleep slip d).st = d.st ∧
    ∀ f : Fld, Kept f → (outOfSleep slip d).r f = d.r f := by
  obtain ⟨awoken, regs, st⟩ := timersRun_awoken slip d
  have blocks := outOfSleep_aside slip d
  refine ⟨awoken.aside blocks, ?_, fun f hf => (blocks.r f hf).trans (r_congr ((armingFree_regs _).trans regs) f)⟩
  rw [outOfSleep, vsetApply_st, headsResume_st, armingFree_st, st]

/-- No verb waits for the end of sleep, and no quarantine is pending. -/
abbrev Calm (d : Dev) : Prop := d.st.wait = none ∧ d.r F.TP_STAT_QPEND = 0

theorem leaveSleep_calm (slip : Int) {d : Dev} (h : Calm d) : Awoken slip d (leaveSleep slip d) ∧ ∀ f : Fld, Kept f → (leaveSleep slip d).r f = d.r f := by
  obtain ⟨wait, pend⟩ := h
  obtain ⟨awoken, st, r⟩ := outOfSleep_awoken slip d
  have none : ¬ (outOfSleep slip d).b F.TP_STAT_QPEND = true := by simp [b_of_zero ((r F.TP_STAT_QPEND (by decide)).trans pend)]
  have quiet : (outOfSleep slip d).st.wait = Option.none := by rw [st, wait]
  rw [leaveSleep_eq, if_neg none, powerAnswer_none 0 quiet]
  exact ⟨awoken, r⟩

/-- The end of sleep of a device whose registers have noted the wake. -/
theorem leaveSleep_noted (slip : Int) {d e : Dev} (h : Calm d) (noted : Noted d e) (pend : e.r F.TP_STAT_QPEND = d.r F.TP_STAT_QPEND) :
    Awoken slip d (leaveSleep slip e) ∧ ∀ f : Fld, Kept f → (leaveSleep slip e).r f = e.r f := by
  obtain ⟨wait, none⟩ := h
  have calm : Calm e := ⟨by rw [noted.st, wait], pend.trans none⟩
  obtain ⟨awoken, r⟩ := leaveSleep_calm slip calm
  exact ⟨noted.awoken awoken, r⟩

theorem exitSleep_nap {d : Dev} (nap : d.ck.ladder = .nap) (runs : d.ck.xrun = true) : exitSleep d = leaveSleep 0 d := by
  simp [exitSleep, nap, runs]

theorem exitSleep_fallow {d : Dev} (fallow : d.ck.ladder = .fallow) : exitSleep d = d.onCk fun c => { c with ladder := .waking } := by
  simp [exitSleep, fallow]

theorem exitSleep_dormant {d : Dev} (dormant : d.ck.ladder = .dormant) : exitSleep d = ladderBegin false (d.set F.CK_WSRC_DORM) := by
  simp [exitSleep, dormant]

/-! ### A wake source asserts [03 R55, R56, Table CK-4] -/

/-- The sources of `m` that are enabled. -/
def enabled (m : Nat) (d : Dev) : Nat := m &&& (d.r F.CK_WAKE_EN ||| 0x80)

/-- Input `n` lost its position if source `2 + n` is in `m`. -/
def lostNoted (m n : Nat) (d : Dev) : Dev := if bitAt m (2 + n) then d.set (F.EN_STAT_LF n) else d

/-- The UART drops the character that woke the device. -/
def uartNoted (m : Nat) (d : Dev) : Dev := if bitAt m 4 ∧ d.ck.ladder ≠ .dormant then { d with ua := { d.ua with wakeDrop := true } } else d

/-- The slave port drops the frame that woke the device. -/
def slaveNoted (m : Nat) (d : Dev) : Dev := if bitAt m 5 ∧ d.ck.ladder ≠ .dormant then d.onSp fun s => { s with wakeDrop := true } else d

/-- The sources in `m` have woken the device. -/
def wakeNoted (m : Nat) (d : Dev) : Dev :=
  lostNoted m 1 (lostNoted m 0 (slaveNoted m (uartNoted m (d.w F.CK_WSRC_SRC (d.r F.CK_WSRC_SRC ||| m)))))

/-- The enabled sources of `m` that wake from the state the device is in: motion wakes by counts, but from Fallow. -/
def wakesBy (m : Nat) (d : Dev) : Nat := if d.ck.ladder = .fallow then enabled m d else enabled m d &&& 0xF3

theorem wake_sleeping (m : Nat) {d : Dev} (h : d.ck.ladder = .nap ∨ d.ck.ladder = .fallow ∨ d.ck.ladder = .dormant) :
    wake m d = if wakesBy m d = 0 then d else exitSleep (wakeNoted (wakesBy m d) d) := by
  unfold wake
  rcases h with h | h | h
  all_goals
    simp only [h]
    unfold wakesBy wakeNoted slaveNoted uartNoted lostNoted enabled
    simp only [h]

theorem wake_unheard {m : Nat} {d : Dev} (h : d.ck.ladder = .nap ∨ d.ck.ladder = .fallow ∨ d.ck.ladder = .dormant) (none : enabled m d = 0) :
    wake m d = d := by
  rw [wake_sleeping m h, if_pos]
  unfold wakesBy
  rw [none]
  exact ite_self 0

theorem uartNoted_noted (m : Nat) (d : Dev) : Noted d (uartNoted m d) := noted_ite ⟨rfl, rfl, rfl, rfl, rfl, rfl, rfl, rfl, rfl, rfl⟩ (.refl d)

theorem uartNoted_r (m : Nat) (d : Dev) (f : Fld) : (uartNoted m d).r f = d.r f := by unfold uartNoted; split <;> rfl

theorem slaveNoted_noted (m : Nat) (d : Dev) : Noted d (slaveNoted m d) := noted_ite ⟨rfl, rfl, rfl, rfl, rfl, rfl, rfl, rfl, rfl, rfl⟩ (.refl d)

theorem slaveNoted_r (m : Nat) (d : Dev) (f : Fld) : (slaveNoted m d).r f = d.r f := by unfold slaveNoted; split <;> rfl

theorem lostNoted_noted (m n : Nat) (d : Dev) : Noted d (lostNoted m n d) := noted_ite (noted_w ..) (.refl d)

theorem lostNoted_r_other (m n : Nat) (d : Dev) {f : Fld} (h : f.key ≠ (F.EN_STAT_LF n).key) : (lostNoted m n d).r f = d.r f := by
  unfold lostNoted
  split
  · exact set_r_other d h
  · rfl

theorem lostNoted_r_same {m n : Nat} (h : bitAt m (2 + n) = true) (d : Dev) : (lostNoted m n d).r (F.EN_STAT_LF n) = 1 := by
  rw [lostNoted, if_pos h, set_r_same _ rfl]

theorem wakeNoted_noted (m : Nat) (d : Dev) : Noted d (wakeNoted m d) := by
  unfold wakeNoted
  exact ((((noted_w ..).trans (uartNoted_noted ..)).trans (slaveNoted_noted ..)).trans (lostNoted_noted ..)).trans (lostNoted_noted ..)

theorem wakeNoted_src (m : Nat) (d : Dev) : (wakeNoted m d).r F.CK_WSRC_SRC = (d.r F.CK_WSRC_SRC ||| m) % 256 := by
  rw [wakeNoted, lostNoted_r_other _ _ _ (by decide), lostNoted_r_other _ _ _ (by decide), slaveNoted_r, uartNoted_r, r_w_same]
  rfl

theorem wakeNoted_qpend (m : Nat) (d : Dev) : (wakeNoted m d).r F.TP_STAT_QPEND = d.r F.TP_STAT_QPEND := by
  rw [wakeNoted, lostNoted_r_other _ _ _ (by decide), lostNoted_r_other _ _ _ (by decide), slaveNoted_r, uartNoted_r, r_w_other _ _ (by decide)]

theorem wakeNoted_lost {m n : Nat} (input : n < 2) (h : bitAt m (2 + n) = true) (d : Dev) : (wakeNoted m d).r (F.EN_STAT_LF n) = 1 := by
  unfold wakeNoted
  match n, input with
  | 0, _ => rw [lostNoted_r_other _ _ _ (by decide), lostNoted_r_same h]
  | 1, _ => rw [lostNoted_r_same h]

/-! ### The exits, by the state that a wake finds [03 Tables CK-6 to CK-8] -/

section

variable {m : Nat} {d : Dev}

theorem wake_nap (calm : Calm d) (nap : d.ck.ladder = .nap) (runs : d.ck.xrun = true) (heard : enabled m d &&& 0xF3 ≠ 0) :
    (wake m d).r F.CK_WSRC_SRC = (d.r F.CK_WSRC_SRC ||| (enabled m d &&& 0xF3)) % 256 ∧ Awoken 0 d (wake m d) := by
  have sources : wakesBy m d = enabled m d &&& 0xF3 := by simp [wakesBy, nap]
  have noted := wakeNoted_noted (enabled m d &&& 0xF3) d
  obtain ⟨awoken, r⟩ := leaveSleep_noted 0 calm noted (wakeNoted_qpend ..)
  rw [wake_sleeping m (.inl nap), sources, if_neg heard, exitSleep_nap (by rw [noted.ck, nap]) (by rw [noted.ck, runs])]
  exact ⟨(r _ (by decide)).trans (wakeNoted_src ..), awoken⟩

theorem wake_fallow (fallow : d.ck.ladder = .fallow) (heard : enabled m d ≠ 0) :
    (wake m d).r F.CK_WSRC_SRC = (d.r F.CK_WSRC_SRC ||| enabled m d) % 256 ∧ (wake m d).ck = { d.ck with ladder := .waking } ∧ (wake m d).mem = d.mem ∧
      (∀ n, n < 2 → bitAt (enabled m d) (2 + n) = true → (wake m d).r (F.EN_STAT_LF n) = 1) ∧ (wake m d).en = d.en ∧ (wake m d).co = d.co ∧
      (wake m d).tlt = d.tlt := by
  have sources : wakesBy m d = enabled m d := by simp [wakesBy, fallow]
  have noted := wakeNoted_noted (enabled m d) d
  rw [wake_sleeping m (.inr (.inl fallow)), sources, if_neg heard, exitSleep_fallow (by rw [noted.ck, fallow])]
  refine ⟨wakeNoted_src .., ?_, noted.mem, fun n input lost => wakeNoted_lost input lost d, noted.en, noted.co, noted.tlt⟩
  rw [onCk_ck, noted.ck]

theorem onCk_r (d : Dev) (g : Ck → Ck) (f : Fld) : (d.onCk g).r f = d.r f := rfl

theorem ladderBegin_dormant (d : Dev) : (ladderBegin false (d.set F.CK_WSRC_DORM)).r F.CK_WSRC_DORM = 1 ∧
    (ladderBegin false (d.set F.CK_WSRC_DORM)).ck = { d.ck with ladder := .resetting, boot := if d.ck.xrun then .pll else .xclk, resample := false } ∧
    (ladderBegin false (d.set F.CK_WSRC_DORM)).mem = d.mem :=
  ⟨(r_w_other _ _ (by decide)).trans ((onCk_r ..).trans (set_r_same d rfl)), rfl, rfl⟩

theorem wake_dormant (dormant : d.ck.ladder = .dormant) (heard : enabled m d &&& 0xF3 ≠ 0) :
    (wake m d).r F.CK_WSRC_DORM = 1 ∧ (wake m d).ck.ladder = .resetting ∧ (d.ck.xrun = false → (wake m d).ck.boot = .xclk) ∧
      (wake m d).ck.resample = false ∧ (wake m d).mem = d.mem := by
  have sources : wakesBy m d = enabled m d &&& 0xF3 := by simp [wakesBy, dormant]
  have noted := wakeNoted_noted (enabled m d &&& 0xF3) d
  obtain ⟨dorm, ck, mem⟩ := ladderBegin_dormant (wakeNoted (enabled m d &&& 0xF3) d)
  rw [wake_sleeping m (.inr (.inr dormant)), sources, if_neg heard, exitSleep_dormant (by rw [noted.ck, dormant])]
  refine ⟨dorm, by rw [ck], fun off => ?_, by rw [ck], mem.trans noted.mem⟩
  rw [ck, noted.ck]
  simp [off]

end

/-! ### Fallow's exit once the PLL has locked [03 R59] -/

theorem pllLock_waking {sel : Bool} {d : Dev} (calm : Calm d) (waking : d.ck.ladder = .waking) (runs : d.ck.xrun = true)
    (unlocked : d.r F.CK_STAT_PLLLOCK = 0) :
    (pllLock sel d).r F.CK_STAT_PLLLOCK = 1 ∧ ∃ slip : Int, -1 ≤ slip ∧ slip ≤ 1 ∧ Awoken slip d (pllLock sel d) := by
  have exits : pllLock sel d = leaveSleep (((Config.fallowSlip d.draws).val : Int) - 1) (d.draw.2.set F.CK_STAT_PLLLOCK) := by
    unfold pllLock
    simp only [waking, runs, if_true, b_of_zero unlocked, Bool.false_eq_true, if_false]
    rfl
  have noted : Noted d (d.draw.2.set F.CK_STAT_PLLLOCK) := ⟨rfl, rfl, rfl, rfl, rfl, rfl, rfl, rfl, rfl, rfl⟩
  have pend : (d.draw.2.set F.CK_STAT_PLLLOCK).r F.TP_STAT_QPEND = d.r F.TP_STAT_QPEND := set_r_other d.draw.2 (by decide)
  obtain ⟨awoken, r⟩ := leaveSleep_noted (((Config.fallowSlip d.draws).val : Int) - 1) calm noted pend
  have within := (Config.fallowSlip d.draws).isLt
  rw [exits]
  exact ⟨(r _ (by decide)).trans (set_r_same _ rfl), _, by omega, by omega, awoken⟩

/-! ### Motion in Nap [03 R54] -/

theorem orBit_bit (d : Dev) (f : Fld) {i : Nat} (h : i < f.width) : bitAt ((d.orBit f i).r f) i = true := by
  rw [Dev.orBit, r_w_same, bitAt, Nat.testBit_mod_two_pow, Nat.testBit_or, Nat.testBit_two_pow_self]
  simp [h]

/-- Motion of input `n` wakes the device from Nap. -/
def moved (n : Nat) (d : Dev) : Dev := d.orBit F.CK_WSRC_SRC (2 + n)

/-- Motion of input `n` wakes the device from Nap for its rate. -/
def movedFast (n : Nat) (d : Dev) : Dev := (moved n d).set F.CK_WSRC_ENCFAST

section

variable {n : Fin 2} {d : Dev}

theorem napMotionWake_wakes (calm : Calm d) (nap : d.ck.ladder = .nap) (runs : d.ck.xrun = true) (on : bitAt (d.r F.CK_WAKE_EN) (2 + n) = true)
    (far : max (d.r F.CK_WENC_THRESH) 1 ≤ (sd (d.enc n).pos (d.enc n).napPos).natAbs) :
    bitAt ((napMotionWake n d).r F.CK_WSRC_SRC) (2 + n) = true ∧ Awoken 0 d (napMotionWake n d) := by
  have exits : napMotionWake n d = exitSleep (moved n d) := if_pos ⟨nap, on, far⟩
  have noted : Noted d (moved n d) := noted_w ..
  obtain ⟨awoken, r⟩ := leaveSleep_noted 0 calm noted (r_w_other d _ (by decide))
  rw [exits, exitSleep_nap (by rw [noted.ck, nap]) (by rw [noted.ck, runs]), r _ (by decide)]
  exact ⟨orBit_bit d _ (by have := n.isLt; simp only [F.CK_WSRC_SRC]; omega), awoken⟩

theorem napMotionWake_near (near : (sd (d.enc n).pos (d.enc n).napPos).natAbs < max (d.r F.CK_WENC_THRESH) 1) : napMotionWake n d = d :=
  if_neg fun h => Nat.not_le.mpr near h.2.2

theorem napRateWake_wakes (calm : Calm d) (nap : d.ck.ladder = .nap) (runs : d.ck.xrun = true) (on : bitAt (d.r F.CK_WAKE_EN) (2 + n) = true)
    (fast : 4 < (lastMicro d (d.enc n).counts).length) :
    bitAt ((napRateWake n d).r F.CK_WSRC_SRC) (2 + n) = true ∧ (napRateWake n d).r F.CK_WSRC_ENCFAST = 1 ∧ Awoken 0 d (napRateWake n d) := by
  have exits : napRateWake n d = exitSleep (movedFast n d) := if_pos ⟨nap, on, fast⟩
  have noted : Noted d (movedFast n d) := (noted_w ..).trans (noted_w ..)
  have pend : (movedFast n d).r F.TP_STAT_QPEND = d.r F.TP_STAT_QPEND := (set_r_other _ (by decide)).trans (r_w_other d _ (by decide))
  obtain ⟨awoken, r⟩ := leaveSleep_noted 0 calm noted pend
  rw [exits, exitSleep_nap (by rw [noted.ck, nap]) (by rw [noted.ck, runs]), r _ (by decide), r _ (by decide)]
  refine ⟨?_, set_r_same _ rfl, awoken⟩
  rw [movedFast, set_r_other _ (by decide)]
  exact orBit_bit d _ (by have := n.isLt; simp only [F.CK_WSRC_SRC]; omega)

theorem napRateWake_slow (slow : (lastMicro d (d.enc n).counts).length ≤ 4) : napRateWake n d = d :=
  if_neg fun h => Nat.not_lt.mpr slow h.2.2

end

/-! ### The commands as functions of the device -/

theorem exec_holdEntry (s : State) : exec .holdEntry s = onDev holdEntry s := rfl
theorem exec_holdExit (s : State) : exec .holdExit s = onDev holdExit s := rfl
theorem exec_ladderEntry (s : State) : exec .ladderEntry s = onDev (fun d => ladderEntry (irqAbove d d.co.level).isSome d) s := rfl
theorem exec_quiesceTimeout (s : State) : exec .quiesceTimeout s = onDev quiesceTimeout s := rfl
theorem exec_dormantRequest (s : State) : exec .dormantRequest s = onDev dormantRequest s := rfl
theorem exec_wake (m : BitVec 8) (s : State) : exec (.wake m) s = onDev (wake m.toNat) s := rfl
theorem exec_napMotionWake (n : Fin 2) (s : State) : exec (.napMotionWake n) s = onDev (napMotionWake n) s := rfl
theorem exec_napRateWake (n : Fin 2) (s : State) : exec (.napRateWake n) s = onDev (napRateWake n) s := rfl

/-- Settles O9: each command of the ladder by what it does in each of its cases; what leaves sleep goes through one lemma on its end, of which a wake is
but a note in the registers. -/
theorem powerLadder : Obligations.PowerLadder := by
  unfold Obligations.PowerLadder
  refine ⟨?_, ?_, ?_, ?_, fun g e => ⟨fun target => ?_, ?_, ?_, fun c hc => ?_, ?_⟩, fun c n path => ?_, fun m => ⟨?_, ?_, ?_, ?_⟩, fun sel => ?_,
    fun n => ⟨?_, ?_, ?_, ?_⟩⟩
  · exact runs_of_onDev exec_holdEntry fun d ⟨run, may⟩ => holdEntry_holds run may
  · exact runs_of_onDev exec_holdEntry fun d may => holdEntry_stays may
  · exact runs_of_onDev exec_holdExit fun d ⟨hold, may⟩ => holdExit_leaves hold may
  · exact runs_of_onDev exec_holdExit fun d may => holdExit_stays may
  · exact does_of_onDev exec_ladderEntry fun d waits => ladderEntry_sleeps target waits rfl
  · rintro rfl
    exact does_of_onDev exec_ladderEntry fun d ⟨waits, idle⟩ => ladderEntry_dormant_leaves waits idle rfl
  · exact runs_of_onDev exec_ladderEntry fun d ⟨asked, done, before, woken, quiet⟩ => ladderEntry_woken asked _ done before woken quiet
  · rcases List.mem_pair.mp hc with rfl | rfl
    · exact runs_of_onDev exec_quiesceTimeout fun d ⟨asked, late, quiet⟩ => quiesceTimeout_over asked late quiet
    · exact runs_of_onDev exec_ladderEntry fun d ⟨asked, late, quiet⟩ => ladderEntry_over asked _ late quiet
  · exact runs_of_onDev exec_quiesceTimeout fun d ⟨asked, within⟩ => quiesceTimeout_within asked within
  · exact does_of_onDev exec_dormantRequest fun d ⟨wait, tx, out, store, awake, free, may⟩ =>
      dormantRequest_leaves path wait tx out store awake free may
  · exact does_of_onDev (exec_wake m) fun d ⟨calm, nap, runs, heard⟩ => wake_nap calm nap runs heard
  · exact does_of_onDev (exec_wake m) fun d ⟨fallow, heard⟩ => wake_fallow fallow heard
  · exact does_of_onDev (exec_wake m) fun d ⟨dormant, heard⟩ => wake_dormant dormant heard
  · exact runs_of_onDev (exec_wake m) fun d ⟨sleeps, deaf⟩ => wake_unheard sleeps deaf
  · exact does_of_onDev (exec_pllLock sel) fun d ⟨calm, waking, runs, unlocked⟩ => pllLock_waking calm waking runs unlocked
  · exact does_of_onDev (exec_napMotionWake n) fun d ⟨⟨calm, nap, runs, on⟩, far⟩ => napMotionWake_wakes calm nap runs on far
  · exact runs_of_onDev (exec_napMotionWake n) fun d near => napMotionWake_near near
  · exact does_of_onDev (exec_napRateWake n) fun d ⟨⟨calm, nap, runs, on⟩, fast⟩ => napRateWake_wakes calm nap runs on fast
  · exact runs_of_onDev (exec_napRateWake n) fun d slow => napRateWake_slow slow

end Sys2Proof.Proofs
end

section
/-! PROOFS. The memory's canonical form. -/

namespace Sys2Proof.Proofs

open Sys2Proof.Machine Sys2Proof.Laws

/-- The memory of `d` is in its canonical form. -/
def Formed (d : Dev) : Prop := Memory.wf d.mem = true

/-- `f` leaves a memory in its canonical form. -/
def Keeps (f : Dev → Dev) : Prop := ∀ d, Formed d → Formed (f d)

variable {d : Dev}

/-- What the other fields hold does not matter. -/
protected theorem Formed.same {ns tlt draws rd regs q0 q1 qp qm ua co ck sw gr ld bd hp en pe seen gpWas sr com sp ot ky st bt lg} (wf : Formed d) :
    Formed ⟨ns, tlt, draws, rd, regs, q0, q1, qp, qm, ua, co, ck, sw, gr, ld, bd, hp, en, pe, seen, gpWas, sr, com, sp, ot, ky, st, bt, lg, d.mem⟩ := wf

protected theorem Formed.ite {c : Prop} {inst : Decidable c} {x y : Dev} (hx : Formed x) (hy : Formed y) : Formed (@ite Dev c inst x y) := by
  by_cases h : c
  · rwa [if_pos h]
  · rwa [if_neg h]

protected theorem Formed.iteSnd {α : Type} {c : Prop} {inst : Decidable c} {x y : α × Dev} (hx : Formed x.2) (hy : Formed y.2) :
    Formed (@ite (α × Dev) c inst x y).2 := by
  by_cases h : c
  · rwa [if_pos h]
  · rwa [if_neg h]

protected theorem Formed.foldl {α : Type} {g : Dev → α → Dev} {l : List α} (wf : Formed d) (keeps : ∀ x d, Formed d → Formed (g d x)) :
    Formed (l.foldl g d) := by
  induction l generalizing d with
  | nil => exact wf
  | cons x l ih => exact ih (keeps x d wf)

/-- The device of an answer that is taken apart. -/
protected theorem Formed.ofPair {α : Type} {x : α × Dev} {a : α} {e : Dev} (wf : Formed x.2) (h : x = (a, e)) : Formed e := by rwa [h] at wf

end Sys2Proof.Proofs
end

section
/-! PROOFS. Operations on the device keep the memory in its form. -/

namespace Sys2Proof.Proofs

open Sys2Proof.Machine Sys2Proof.Laws

variable {d : Dev}

protected theorem Formed.clrBit {f : Fld} {i : Nat} (wf : Formed d) : Formed (Dev.clrBit d f i) := .ite wf.same wf

protected theorem Formed.lockV {t a : Nat} (wf : Formed d) : Formed (Dev.lockV d t a) :=
  .same (.ite (.ite wf.same wf.same) (.same (.ite wf.same wf.same)))

protected theorem Formed.draw (wf : Formed d) : Formed ((Dev.draw d).2) := wf.same

protected theorem Formed.store {n a v : Nat} (wf : Formed d) : Formed (d.store n a v) := wf_store n d a v wf

protected theorem Formed.storeBytes {a : Nat} {bs : List Nat} (wf : Formed d) : Formed (d.storeBytes a bs) := wf_storeBytes bs d a wf

/-- Cells left out leave the others in order. -/
protected theorem Formed.filter {p : Host.Cell → Bool} (wf : Formed d) : Memory.wf (d.mem.filter p) = true := by
  simp only [Formed, Memory.wf, Bool.and_eq_true, List.all_eq_true] at wf ⊢
  exact ⟨rising_filter _ wf.1, fun e he => wf.2 e (List.mem_of_mem_filter he)⟩

protected theorem Formed.clearMem {a n : Nat} (wf : Formed d) : Formed (d.clearMem a n) := wf_clearMem d a n wf

protected theorem Formed.aimAt {t : Nat} (wf : Formed d) : Formed (Dev.aimAt d t) := .ite wf (.ite wf.same wf.same.same)

end Sys2Proof.Proofs
end

section
/-! PROOFS. The byte queues and the UART keep the memory in its form. -/

namespace Sys2Proof.Proofs

open Sys2Proof.Machine Sys2Proof.Laws

variable {d : Dev}

protected theorem Formed.onQ {i : Fin 2} {f : Queue → Queue} (wf : Formed d) : Formed (Dev.onQ d i f) := .ite wf.same wf.same

protected theorem Formed.qCutCheck {i : Fin 2} (wf : Formed d) : Formed (qCutCheck i d) := .ite wf.onQ.same wf

protected theorem Formed.qFullCheck {i : Fin 2} (wf : Formed d) : Formed (qFullCheck i d) := .ite wf.onQ.same wf

protected theorem Formed.qLatchTag {i : Fin 2} {w : QWord} (wf : Formed d) : Formed (qLatchTag i w d) := wf.same.same.same.same.same.same

protected theorem Formed.qDeliver {i : Fin 2} {load : Option Nat} {tie : Bool} {w : QWord} (wf : Formed d) : Formed (qDeliver i load tie w d) := by
  unfold Machine.qDeliver
  extract_lets d1 d2 d3
  have w1 : Formed d1 := wf.qLatchTag
  have w2 : Formed d2 := w1.onQ
  have w3 : Formed d3 := .ite w2.same.same w2
  split
  · exact w3
  · exact w3.same

protected theorem Formed.qWatermark {i : Fin 2} (wf : Formed d) : Formed (qWatermark i d) :=
  .ite wf (.ite wf.same.same.same.same (.ite wf.same.same.same wf.same.same.same))

protected theorem Formed.qUnhold {i : Fin 2} (wf : Formed d) : Formed (qUnhold i d) := by
  unfold Machine.qUnhold
  extract_lets q
  split
  · exact wf
  · extract_lets d1
    have w1 : Formed d1 := wf.onQ.same
    exact .ite (.ite w1.same w1) wf

protected theorem Formed.qTimedOut {i : Fin 2} {load : Option Nat} (wf : Formed d) : Formed (qTimedOut i load d) := by
  unfold Machine.qTimedOut
  extract_lets d1 d2
  have w1 : Formed d1 := wf.qLatchTag.same
  have w2 : Formed d2 := w1.onQ
  split
  · exact w2
  · exact w2.same

protected theorem Formed.qServe {i : Fin 2} {n : Nat} (wf : Formed d) : Formed (qServe i n d) := by
  induction n generalizing d with
  | zero => exact wf
  | succ n ih =>
    unfold Machine.qServe
    split
    · exact .ite wf (.ite (ih wf.onQ.qTimedOut) (ih wf.onQ.qDeliver.qUnhold))
    · exact wf

protected theorem Formed.qSettle {i : Fin 2} (wf : Formed d) : Formed (qSettle i d) := wf.qUnhold.qFullCheck.qCutCheck.qServe.qWatermark

protected theorem Formed.qLose {i : Fin 2} (wf : Formed d) : Formed (qLose i d) :=
  .onQ (.ite (.same (.ite wf wf.same)) (.same (.same (.ite wf wf.same))))

protected theorem Formed.qPush {i : Fin 2} {bytes : List Nat} {eop : Bool} (wf : Formed d) : Formed (qPush i bytes eop d) := by
  unfold Machine.qPush
  extract_lets q w d1 d2 d3 d4
  have w1 : Formed d1 := wf.onQ
  have w2 : Formed d2 := w1.onQ
  have w3 : Formed d3 := w2.qCutCheck
  have w4 : Formed d4 := .ite w3.onQ.same w3
  refine .ite w1.qLose.qSettle ?_
  exact .ite w4.qSettle (.ite w1.onQ.qSettle w1.qLose.qSettle)

protected theorem Formed.qComplete {i : Fin 2} {bytes : List Nat} {eop : Bool} (wf : Formed d) : Formed (qComplete i bytes eop d) := wf.same.qPush

protected theorem Formed.qByte {i : Fin 2} {last : Bool} {b : Nat} (wf : Formed d) : Formed (qByte i last b d) :=
  .ite (.ite wf.onQ wf) (.ite wf.qComplete wf.onQ)

protected theorem Formed.qOpen {i : Fin 2} {s : Nat} (wf : Formed d) : Formed (qOpen i s d) := wf.onQ

protected theorem Formed.qWriteNext {i : Fin 2} (wf : Formed d) : Formed (qWriteNext i d) := by
  unfold Machine.qWriteNext
  split
  · exact wf
  · exact wf.onQ.qByte

protected theorem Formed.queueCycle (wf : Formed d) : Formed (queueCycle d) := .ite wf.qWriteNext.qWriteNext wf

protected theorem Formed.uartWrite {c : Nat} (wf : Formed d) : Formed (uartWrite c d) := wf.same.qByte

protected theorem Formed.uartDrain {n : Nat} (wf : Formed d) : Formed (uartDrain n d) := by
  induction n generalizing d with
  | zero => exact wf
  | succ n ih =>
    unfold Machine.uartDrain
    split
    · exact wf
    · exact .ite (ih wf.same.uartWrite) wf

protected theorem Formed.qGrantTo {i : Fin 2} {s : Nat} (wf : Formed d) : Formed (qGrantTo i s d) := by
  unfold Machine.qGrantTo
  refine .ite wf.qOpen.qByte.uartDrain ?_
  split
  · exact wf
  · exact wf.qOpen.onQ

protected theorem Formed.writeSideGrant {i : Fin 2} (wf : Formed d) : Formed (writeSideGrant i d) := by
  unfold Machine.writeSideGrant
  refine .ite ?_ wf
  split
  · exact wf
  · exact wf.qGrantTo

protected theorem Formed.uartKick (wf : Formed d) : Formed (uartKick d) := .ite wf.uartDrain (.ite wf.qGrantTo wf)

protected theorem Formed.idleClose (wf : Formed d) : Formed (idleClose d) := .ite wf.qComplete wf

protected theorem Formed.lineTimeout (wf : Formed d) : Formed (lineTimeout d) := by
  unfold Machine.lineTimeout
  split
  · exact wf
  · exact .ite wf.same.uartKick wf

protected theorem Formed.uartCharacter {c : Byte} {stopOk : Bool} (wf : Formed d) : Formed (uartCharacter c stopOk d) := by
  unfold Machine.uartCharacter
  extract_lets _ d1 c d2 _
  have w1 : Formed d1 := wf.lineTimeout.idleClose
  have w2 : Formed d2 := .ite w1 w1.same
  exact .ite wf.same (.ite wf (.ite w2.same w2.same.uartKick))

protected theorem Formed.qPopWait {i : Fin 2} {load : Option Nat} (wf : Formed d) : Formed (qPopWait i load d) := .ite wf.qTimedOut wf.onQ

protected theorem Formed.qPopNow {i : Fin 2} {load : Option Nat} (wf : Formed d) : Formed (qPopNow i load d) := by
  unfold Machine.qPopNow
  extract_lets q
  split
  · exact .ite wf.onQ.qDeliver.qSettle wf.qPopWait
  · exact wf.qPopWait

protected theorem Formed.qUndo {i : Fin 2} {c : QCycle} (wf : Formed d) : Formed (qUndo i c d) :=
  .same (.ite (wf.onQ.foldl (fun _ _ h => h.same)) (wf.onQ.foldl (fun _ _ h => h.same)).clrBit)

protected theorem Formed.qPushAgain {i : Fin 2} {bytes : List Nat} {eop : Bool} (wf : Formed d) : Formed (qPushAgain i bytes eop d) :=
  .ite (.ite wf.onQ wf) wf.qPush

protected theorem Formed.qBefore {i : Fin 2} {g : Dev → Dev} (wf : Formed d) (keeps : Keeps g) : Formed (qBefore i g d) := by
  unfold Machine.qBefore
  split
  · exact keeps _ wf
  · refine .ite ?_ (keeps _ wf)
    extract_lets d1 d2
    have w1 : Formed d1 := keeps _ wf.qUndo
    have w2 : Formed d2 := by
      unfold d2
      split
      · exact w1.qPopNow
      · exact w1
    split
    · exact w2.qPushAgain
    · exact w2

protected theorem Formed.qPopFor {i : Fin 2} {load : Option Nat} (wf : Formed d) : Formed (qPopFor i load d) := by
  unfold Machine.qPopFor
  extract_lets c
  split
  · exact wf.same.qPopNow
  · extract_lets d1
    have w1 : Formed d1 := .ite (wf.qBefore (fun _ h => h.qPopNow)) wf.qPopNow
    exact .ite wf.same.qPopNow w1.same

protected theorem Formed.queuePop {i : Fin 2} (wf : Formed d) : Formed (queuePop i d) := wf.qPopFor

protected theorem Formed.popTimeout {i : Fin 2} (wf : Formed d) : Formed (popTimeout i d) := by
  unfold Machine.popTimeout
  split
  · exact wf
  · exact wf.onQ.qTimedOut

protected theorem Formed.qEmpty {i : Fin 2} (wf : Formed d) : Formed (qEmpty i d) := wf.onQ.qWatermark

protected theorem Formed.queueFlush {i : Fin 2} (wf : Formed d) : Formed (queueFlush i d) := wf.qBefore (fun _ h => h.qEmpty)

protected theorem Formed.qDropOne {i : Fin 2} (wf : Formed d) : Formed (qDropOne i d) := .ite wf.onQ.qSettle wf.onQ.qSettle

protected theorem Formed.queueDrop {i : Fin 2} (wf : Formed d) : Formed (queueDrop i d) := wf.qBefore (fun _ h => h.qDropOne)

protected theorem Formed.qCmdWrite {i : Fin 2} {v : Nat} (wf : Formed d) : Formed (qCmdWrite i v d) := .ite wf.queueFlush (.ite wf.queueDrop wf)

protected theorem Formed.qnLostClear {i : Fin 2} (wf : Formed d) : Formed (qnLostClear i d) := wf.same.same.same

protected theorem Formed.qStage {i : Fin 2} {s : Nat} {bytes : List Nat} (wf : Formed d) : Formed (qStage i s bytes d) := wf.onQ

protected theorem Formed.evRecordAt {tagn cause unit tlt arg : Nat} (wf : Formed d) : Formed (evRecordAt tagn cause unit tlt arg d) :=
  .ite wf.qStage wf.same.same

protected theorem Formed.evRecord {tagn cause unit arg : Nat} (wf : Formed d) : Formed (evRecord tagn cause unit arg d) := wf.evRecordAt

protected theorem Formed.uaTxWrite {b : Byte} (wf : Formed d) : Formed (uaTxWrite b d) := .ite wf wf.same

protected theorem Formed.uartTransmit {ctsn : Bool} (wf : Formed d) : Formed (uartTransmit ctsn d) := by
  unfold Machine.uartTransmit
  extract_lets d1 _
  have w1 : Formed d1 := wf.same
  refine .ite w1 ?_
  split
  · exact w1
  · exact w1.same

protected theorem Formed.uaCtlWritten (wf : Formed d) : Formed (uaCtlWritten d) := .ite wf.same wf

end Sys2Proof.Proofs
end

section
/-! PROOFS. The pin engines' ticks keep the memory in its form. -/

namespace Sys2Proof.Proofs

open Sys2Proof.Machine Sys2Proof.Laws

variable {d : Dev}

protected theorem Formed.padsSampled {pads : Nat} (wf : Formed d) : Formed (padsSampled pads d) := .ite wf.same wf

protected theorem Formed.peTick {n pads : Nat} (wf : Formed d) : Formed (peTick n pads d) :=
  .same (.same (.same (.same (.same (.same (.ite wf.same.same wf))))))

protected theorem Formed.pePulse {f : Engine → Engine} {n : Nat} (wf : Formed d) : Formed (pePulse f n d) := by
  unfold Machine.pePulse
  split
  · exact wf.same
  · extract_lets d1 d2
    have w1 : Formed d1 := wf.same.same.same
    have w2 : Formed d2 := w1.same
    exact w2.same.peTick

protected theorem Formed.peTaint (wf : Formed d) : Formed (peTaint d) := .ite (wf.foldl (fun _ _ h => h.pePulse)) wf

protected theorem Formed.peFire (wf : Formed d) : Formed (peFire d) := .ite (wf.foldl (fun _ _ h => h.pePulse)) wf

end Sys2Proof.Proofs
end

section
/-! PROOFS. The operations on channels, banks and slots keep the memory in its form. -/

namespace Sys2Proof.Proofs

open Sys2Proof.Machine Sys2Proof.Laws

variable {d : Dev}

protected theorem Formed.forAll {l : List Nat} {f : Nat → Dev → Dev} (wf : Formed d) (keeps : ∀ n, Keeps (f n)) : Formed (forAll l f d) :=
  forAll_keeps (fun n d _ => keeps n d) wf

protected theorem Formed.missAdd {f n c : Nat} (wf : Formed d) : Formed (missAdd f n c d) :=
  .ite wf (.ite wf.same.same.same.evRecord wf.same.same.same)

protected theorem Formed.deferPoint {f p : Nat} (wf : Formed d) : Formed (deferPoint f p d) := .ite wf wf.same.same

protected theorem Formed.assertLine {b r : Nat} (wf : Formed d) : Formed (assertLine b r d) := by
  unfold Machine.assertLine
  extract_lets other _ d1 d2 d3
  have w1 : Formed d1 := .ite wf wf.same
  have w2 : Formed d2 := w1.same
  have w3 : Formed d3 := w2.same.same
  exact .ite wf (.ite (.ite w3.evRecord w3) w2)

protected theorem Formed.aimLine {b : Nat} (wf : Formed d) : Formed (aimLine b d) :=
  .ite (wf.forAll (fun _ _ h => h.same)).assertLine (.ite wf (wf.forAll (fun _ _ h => h.same)))

protected theorem Formed.aimRefresh {b : Nat} (wf : Formed d) : Formed (aimRefresh b d) := .aimLine (.ite wf wf.same)

protected theorem Formed.vthRefresh {b : Nat} (wf : Formed d) : Formed (vthRefresh b d) := .ite wf.same wf

protected theorem Formed.sinkOn {c code t : Nat} (wf : Formed d) : Formed (sinkOn c code t d) := wf.same.same

protected theorem Formed.dropPend {c : Change} (wf : Formed d) : Formed (dropPend c d) := .ite wf.same wf

protected theorem Formed.dropRelease {p : Nat} (wf : Formed d) : Formed (dropRelease p d) := wf.dropPend

protected theorem Formed.freePlot {p : Nat} (wf : Formed d) : Formed (freePlot p d) := wf.same.dropRelease

protected theorem Formed.applyChange {c : Change} (wf : Formed d) : Formed (applyChange c d) := by
  unfold Machine.applyChange
  extract_lets _
  split
  · exact wf.foldl (fun _ _ h => h.same)
  · exact wf.forAll (fun _ _ h => h.same)
  · exact .ite wf.same.same wf
  · exact .ite wf.same.same.same wf
  · exact .ite wf wf.same.same
  · extract_lets d1 _
    have w1 : Formed d1 := wf.freePlot
    exact w1.same
  · split
    · exact .ite wf.same wf
    · exact wf.same
  · exact .ite wf.same wf

protected theorem Formed.commitReady {l : List Pending} (wf : Formed d) : Formed (commitReady l d) := by
  induction l generalizing d with
  | nil => exact wf
  | cons p l ih => exact ih wf.applyChange

protected theorem Formed.forcedDone {b : Nat} (wf : Formed d) : Formed (forcedDone b d) := .ite (.ite wf.same.same.same.evRecord wf.same.same.same) wf

protected theorem Formed.commitBank {b : Nat} (wf : Formed d) : Formed (commitBank b d) := by
  unfold Machine.commitBank
  extract_lets ready _ d1 d2 d3 d4 _ d5
  have w1 : Formed d1 := wf.same
  have w2 : Formed d2 := w1.commitReady
  have w3 : Formed d3 := w2.aimRefresh.vthRefresh
  have w4 : Formed d4 := .ite w3.same w3
  have w5 : Formed d5 := .ite w4 w4.same
  exact .ite w5.forcedDone wf

protected theorem Formed.gapEnds {b : Nat} (wf : Formed d) : Formed (gapEnds b d) := .ite (.same (.ite wf wf.same)) (.ite wf wf.same)

protected theorem Formed.addChange {banks : List Nat} {c : Change} (wf : Formed d) : Formed (addChange banks c d) :=
  (wf.same.forAll (fun _ _ h => .ite (.ite h h.same) (.same (.ite h h.same)))).forAll (fun _ _ h => h.commitBank)

protected theorem Formed.writeLights {banks : List Nat} {l : List (Fld × Nat)} (wf : Formed d) : Formed (writeLights banks l d) :=
  .ite wf (wf.foldl (fun _ _ h => .same (.ite h h.same))).addChange

protected theorem Formed.writeLight {banks : List Nat} {f : Fld} {v : Nat} (wf : Formed d) : Formed (writeLight banks f v d) := wf.writeLights

protected theorem Formed.dropStale {p : Nat} (wf : Formed d) : Formed (dropStale p d) := .ite wf wf.same.same

protected theorem Formed.queueArmn {p k tfire trig : Nat} (wf : Formed d) : Formed (queueArmn p k tfire trig d) :=
  .ite (.ite wf.dropStale.same wf.dropStale.same.same) wf.dropStale

protected theorem Formed.queueDisarm {p k tfire : Nat} (wf : Formed d) : Formed (queueDisarm p k tfire d) :=
  .ite (.ite wf.dropStale.same (.ite wf.dropStale.same wf.dropStale.same.same)) wf.dropStale

protected theorem Formed.queueTaint {p : Nat} {payload : List Nat} (wf : Formed d) : Formed (queueTaint p payload d) := .ite (.ite wf.same wf.same) wf

protected theorem Formed.furrowFreed {f : Nat} (wf : Formed d) : Formed (furrowFreed f d) := .ite (.ite wf.same.same wf.same) wf

protected theorem Formed.freeSlot {k : Nat} (wf : Formed d) : Formed (freeSlot k d) := wf.same.furrowFreed.commitBank

protected theorem Formed.noLight {s : Slot} (wf : Formed d) : Formed (noLight s d) := by
  unfold Machine.noLight
  split
  · exact wf
  · extract_lets d1 d2
    have w1 : Formed d1 := wf.same
    have w2 : Formed d2 := .ite w1.queueTaint w1
    split
    · exact wf
    · exact .ite w2.evRecordAt w2

protected theorem Formed.withdraw {counts : Bool} {k : Nat} (wf : Formed d) : Formed (withdraw counts k d) := by
  unfold Machine.withdraw
  extract_lets s d1 d2 d3 d4 d5
  have w1 : Formed d1 := wf.same.same
  have w2 : Formed d2 := .ite w1.deferPoint w1
  have w3 : Formed d3 := w2.same
  have w4 : Formed d4 := by
    unfold d4
    split
    · exact w3.queueDisarm
    · exact w3
  have w5 : Formed d5 := w4.noLight
  exact w5.freeSlot

protected theorem Formed.missSlot {c k : Nat} (wf : Formed d) : Formed (missSlot c k d) := by
  unfold Machine.missSlot
  extract_lets s d1 d2 d3
  have w1 : Formed d1 := wf.missAdd.same
  have w2 : Formed d2 := by
    unfold d2
    split
    · exact .ite w1.queueDisarm w1
    · exact w1
  have w3 : Formed d3 := w2.noLight
  exact w3.freeSlot

protected theorem Formed.withdrawSource {src : Nat} (wf : Formed d) : Formed (withdrawSource src d) :=
  wf.forAll (fun _ _ h => .ite h (.ite h.withdraw (.ite h.same.same.evRecord h.same.same)))

protected theorem Formed.book {b t : Nat} {q : Rat} (wf : Formed d) : Formed (book b t q d) := .ite wf wf.same

protected theorem Formed.pulseSinkOff {k t c : Nat} (wf : Formed d) : Formed (pulseSinkOff k t c d) := .ite wf wf.same.same

protected theorem Formed.boostOff {k b t : Nat} (wf : Formed d) : Formed (boostOff k b t d) := .ite wf wf.same.same

protected theorem Formed.pulseStop {k t : Nat} (wf : Formed d) : Formed (pulseStop k t d) := by
  unfold Machine.pulseStop
  extract_lets s d1 d2 d3
  have w1 : Formed d1 := (wf.forAll (fun _ _ h => h.pulseSinkOff)).boostOff
  have w2 : Formed d2 := w1.same
  have w3 : Formed d3 := by
    unfold d3
    split
    · exact w2.same
    · exact w2
  exact w3.same

protected theorem Formed.bookingUpdate {s : Slot} (wf : Formed d) : Formed (bookingUpdate s d) := .ite (.ite wf.book.same.evRecordAt wf.book.same) wf

protected theorem Formed.ringTaint {s : Slot} {v : Nat} (wf : Formed d) : Formed (ringTaint s v d) := .ite (.ite wf.same wf.same) wf

protected theorem Formed.taintReport {s : Slot} {v : Nat} (wf : Formed d) : Formed (taintReport s v d) := by
  unfold Machine.taintReport
  extract_lets d1 d2 d3
  have w1 : Formed d1 := wf.same.peTaint
  have w2 : Formed d2 := by
    unfold d2
    split
    · exact w1.queueTaint
    · exact w1
  have w3 : Formed d3 := .ite w2 w2.ringTaint
  exact .ite w3.evRecordAt w3

protected theorem Formed.occEnd {early : Bool} {k t : Nat} (wf : Formed d) : Formed (occEnd early k t d) := by
  unfold Machine.occEnd
  extract_lets d1 s d2 new s d3 d4 d5
  have w1 : Formed d1 := .ite wf.pulseStop wf
  have w2 : Formed d2 := w1.forAll (fun _ _ h => h.same)
  have w3 : Formed d3 := w2.bookingUpdate
  have w4 : Formed d4 := by
    unfold d4
    split
    · exact .ite w3.taintReport w3
    · exact w3
  have w5 : Formed d5 := w4.noLight
  exact w5.freeSlot

protected theorem Formed.abortOcc {k : Nat} (wf : Formed d) : Formed (abortOcc k d) := by
  unfold Machine.abortOcc
  exact .occEnd wf.same.same.same

end Sys2Proof.Proofs
end

section
/-! PROOFS. The fuse commands keep the memory in its form. -/

namespace Sys2Proof.Proofs

open Sys2Proof.Machine Sys2Proof.Laws

variable {d : Dev}

protected theorem Formed.normalRead {w : Nat} (wf : Formed d) : Formed ((normalRead d w).2) := .iteSnd wf wf.draw

protected theorem Formed.shadowRegs (wf : Formed d) : Formed (shadowRegs d) := wf.same.same

protected theorem Formed.resense {w : Nat} (wf : Formed d) : Formed (resense w d) := wf.normalRead.same.shadowRegs

protected theorem Formed.senseAll (wf : Formed d) : Formed (senseAll d) :=
  .ite (wf.forAll (fun _ _ h => h.resense)).shadowRegs (wf.forAll (fun _ _ h => h.resense)).shadowRegs.same.same

protected theorem Formed.displayCount {xs : List (Nat × Nat)} (wf : Formed d) : Formed (displayCount xs d).2 := by
  induction xs generalizing d with
  | nil => exact wf
  | cons x xs ih => exact ih wf.normalRead

protected theorem Formed.countRegs (wf : Formed d) : Formed (countRegs d) := wf.same.same.same

protected theorem Formed.otTasks {ts : List (Nat × Nat)} (wf : Formed d) : Formed (otTasks ts d) := by
  induction ts generalizing d with
  | nil => exact wf.same
  | cons x ts ih => exact .ite (ih wf.same.resense) (.ite wf.same wf.same)

protected theorem Formed.burnCmd {w target : Nat} (wf : Formed d) : Formed (burnCmd w target d) :=
  .ite wf.lockV.same (.ite wf.same (.ite wf.same wf.otTasks))

protected theorem Formed.incCmd {c : Nat} (wf : Formed d) : Formed (incCmd c d) := .ite wf.same (.ite wf.same (.ite wf.same wf.same.otTasks))

protected theorem Formed.retireBead {second : Bool} (wf : Formed d) : Formed (retireBead second d) := .ite wf.otTasks wf.incCmd

protected theorem Formed.otRun {q : OtReq} (wf : Formed d) : Formed (otRun q d) := by
  unfold Machine.otRun
  refine .ite wf.same ?_
  dsimp only
  split
  · exact wf
  · exact wf.normalRead.same.same
  · exact wf.same.same
  · exact wf.same.same
  · exact wf.burnCmd
  · exact wf.burnCmd
  · exact wf.incCmd
  · exact .ite wf.same wf.same
  · exact .ite wf.same wf.otTasks
  · exact wf.senseAll
  · exact wf.otTasks
  · exact wf.retireBead
  · exact wf.same

protected theorem Formed.otBegin {q : OtReq} (wf : Formed d) : Formed (otBegin q d) := wf.same.same.otRun

protected theorem Formed.latchServe (wf : Formed d) : Formed (latchServe d) := .ite wf (.ite wf.same.countRegs wf.otBegin)

protected theorem Formed.otAsk {q : OtReq} (wf : Formed d) : Formed (otAsk q d) := .ite wf.latchServe.otBegin wf.latchServe.same

protected theorem Formed.otCommand {code : Nat} {rom : Bool} (wf : Formed d) : Formed (otCommand code rom d) :=
  .ite wf.latchServe.same wf.latchServe.same.otBegin

protected theorem Formed.wordEnd {p : Pulse} (wf : Formed d) : Formed (wordEnd p d) := by
  unfold Machine.wordEnd
  extract_lets d1
  have w1 : Formed d1 := wf.same.resense
  split
  · exact w1
  · exact .ite w1.same (.ite (.ite w1.same.retireBead w1.same) w1.otTasks)

protected theorem Formed.pulseCut {p : Pulse} {lo hi : Nat} (wf : Formed d) : Formed (pulseCut p lo hi d) := wf.same.same.resense.same

protected theorem Formed.cutIfLeft (wf : Formed d) : Formed (cutIfLeft d) := by
  unfold Machine.cutIfLeft
  split
  · exact wf
  · exact .ite wf wf.draw.draw.pulseCut

protected theorem Formed.setWindow {v : Nat} (wf : Formed d) : Formed (setWindow v d) := wf.same.same.same.cutIfLeft

protected theorem Formed.tempWindow {code : Nat} (wf : Formed d) : Formed (tempWindow code d) := wf.same.same.cutIfLeft

protected theorem Formed.winSample (wf : Formed d) : Formed (winSample d) := .ite wf wf.draw.setWindow.latchServe

protected theorem Formed.burnPulseEnd {lo hi : Nat} {tie : Bool} (wf : Formed d) : Formed (burnPulseEnd lo hi tie d) := by
  unfold Machine.burnPulseEnd
  split
  · exact wf
  · extract_lets d1 d2 q abort
    have w1 : Formed d1 := wf.same
    have w2 : Formed d2 := .ite w1.same.same w1
    exact .ite wf (.ite wf.pulseCut (.ite w2.same w2.wordEnd))

protected theorem Formed.burnWindowFall {w lo hi : Nat} (wf : Formed d) : Formed (burnWindowFall w lo hi d) := by
  unfold Machine.burnWindowFall
  extract_lets d1 d2 d3 d4
  have w1 : Formed d1 := .ite wf.same wf
  have w2 : Formed d2 := .ite w1.same w1
  have w3 : Formed d3 := .ite w2.same w2
  have w4 : Formed d4 := w3.same
  split
  · exact .ite w4 w4.pulseCut
  · exact w4

protected theorem Formed.writeCounts {c : Nat} (wf : Formed d) : Formed (writeCounts c d) := wf.displayCount.same.same

protected theorem Formed.otFinish {j : OtJob} (wf : Formed d) : Formed (otFinish j d) := by
  unfold Machine.otFinish
  extract_lets err d1 d2 d3 d4 d5 d6 d7
  have w1 : Formed d1 := by
    unfold d1
    split
    · exact wf.same
    · exact wf
  have w2 : Formed d2 := by
    unfold d2
    split
    · exact w1.same
    · exact w1
  have w3 : Formed d3 := by
    unfold d3
    split
    · exact .ite w2.same w2
    · exact w2
  have w4 : Formed d4 := .ite w3.same w3
  have w5 : Formed d5 := .ite (w4.forAll (fun _ _ h => h.resense)) w4
  have w6 : Formed d6 := .ite w5.writeCounts w5
  have w7 : Formed d7 := w6.same.same.same
  exact w7.same.countRegs

protected theorem Formed.otNext (wf : Formed d) : Formed (otNext d) := by
  unfold Machine.otNext
  refine .ite wf ?_
  split
  · exact wf
  · exact wf.same.otBegin

protected theorem Formed.latchEnd (wf : Formed d) : Formed (latchEnd d) := wf.same.same

protected theorem Formed.tamperBeadBurn {win : Nat} (wf : Formed d) : Formed (tamperBeadBurn win d) := wf.setWindow.latchServe

protected theorem Formed.otReset (wf : Formed d) : Formed (otReset d) := by
  unfold Machine.otReset
  split
  · exact wf.draw.draw.same
  · exact wf

end Sys2Proof.Proofs
end

section
/-! PROOFS. The key commands keep the memory in its form. -/

namespace Sys2Proof.Proofs

open Sys2Proof.Machine Sys2Proof.Laws

variable {d : Dev}

protected theorem Formed.trng {n : Nat} (wf : Formed d) : Formed (trng n d).2 := by
  induction n generalizing d with
  | zero => exact wf
  | succ n ih => exact ih wf.draw

protected theorem Formed.kregClear (wf : Formed d) : Formed (kregClear d) := wf.same.same.same

protected theorem Formed.kregFill {a : Nat} {key : List Nat} (wf : Formed d) : Formed (kregFill a key d) := wf.same.same.same

protected theorem Formed.pairDrop (wf : Formed d) : Formed (pairDrop d) := wf.same.same

protected theorem Formed.pairLoad {s : Nat} {hand : Bool} (wf : Formed d) : Formed (pairLoad s hand d) := wf.same.same

protected theorem Formed.setKyBuf {bs : List Nat} (wf : Formed d) : Formed (setKyBuf bs d) := wf.forAll (fun _ _ h => h.same)

protected theorem Formed.zeroKyBuf (wf : Formed d) : Formed (zeroKyBuf d) := wf.forAll (fun _ _ h => h.same)

protected theorem Formed.kyRefill (wf : Formed d) : Formed (kyRefill d) := wf.same.lockV.same

protected theorem Formed.kyDerive (wf : Formed d) : Formed (kyDerive d) := by
  unfold Machine.kyDerive
  refine .ite wf.kyRefill ?_
  split <;> exact wf.same

protected theorem Formed.kyUnwrap (wf : Formed d) : Formed (kyUnwrap d) := by
  unfold Machine.kyUnwrap
  extract_lets b a iv ct
  refine .ite wf.kyRefill ?_
  split
  · exact wf.same
  · extract_lets key
    exact .ite wf.same (.ite wf.same wf.same)

protected theorem Formed.gcmSeal {key aad text : List Nat} (wf : Formed d) : Formed (gcmSeal key aad text d).2 := by
  unfold Machine.gcmSeal
  split
  next h => exact wf.trng.ofPair h

protected theorem Formed.kyWrapkey (wf : Formed d) : Formed (kyWrapkey d) := by
  unfold Machine.kyWrapkey
  split
  · exact wf.same
  · refine .ite wf.same (.ite wf.same ?_)
    split
    next h => exact (wf.gcmSeal.ofPair h).same

protected theorem Formed.kyGcm {encrypts : Bool} (wf : Formed d) : Formed (kyGcm encrypts d) := by
  unfold Machine.kyGcm
  refine .ite wf.same (.ite wf.same (.ite wf.same (.ite (.ite wf.same ?_) (.ite wf.same wf.same))))
  split
  next h => exact (wf.gcmSeal.ofPair h).same

protected theorem Formed.kyClear (wf : Formed d) : Formed (kyClear d) := wf.kregClear

protected theorem Formed.kyGenpair (wf : Formed d) : Formed (kyGenpair d) := by
  unfold Machine.kyGenpair
  refine .ite wf.same ?_
  split
  next h =>
    split
    next k => exact ((wf.trng.ofPair h).gcmSeal.ofPair k).same.same

protected theorem Formed.kyLoadpair (wf : Formed d) : Formed (kyLoadpair d) := .ite wf.same wf.same.same

protected theorem Formed.kySign (wf : Formed d) : Formed (kySign d) := by
  unfold Machine.kySign
  split
  · exact wf.same
  · exact wf.draw.same

protected theorem Formed.kyAttest (wf : Formed d) : Formed (kyAttest d) := wf.draw.same

protected theorem Formed.kyEscrow (wf : Formed d) : Formed (kyEscrow d) := by
  unfold Machine.kyEscrow
  extract_lets
  split
  · exact wf.same
  · refine .ite wf.same (.ite wf.same ?_)
    split
    next h =>
      extract_lets
      split
      next k => exact ((wf.trng.ofPair h).gcmSeal.ofPair k).same

protected theorem Formed.kyBurn {q : OtReq} (wf : Formed d) : Formed (kyBurn q d) := wf.kregClear.pairDrop.same.otAsk

protected theorem Formed.kyInval (wf : Formed d) : Formed (kyInval d) := wf.kyBurn

protected theorem Formed.kyPerso (wf : Formed d) : Formed (kyPerso d) := by
  unfold Machine.kyPerso
  refine .ite wf.same ?_
  split
  next h => exact (wf.trng.ofPair h).kyBurn

protected theorem Formed.kyField (wf : Formed d) : Formed (kyField d) := .ite wf.same wf.kyBurn

protected theorem Formed.kyRetire (wf : Formed d) : Formed (kyRetire d) := .ite wf.same wf.kyBurn

protected theorem Formed.kyRun {code : Nat} (wf : Formed d) : Formed (kyRun code d) := by
  unfold Machine.kyRun
  split
  · exact wf
  · exact wf.kyDerive
  · exact wf.kyUnwrap
  · exact wf.kyWrapkey
  · exact wf.kyGcm
  · exact wf.kyGcm
  · exact wf.kyClear
  · exact wf.kyGenpair
  · exact wf.kyLoadpair
  · exact wf.kySign
  · exact wf.kyAttest
  · exact wf.kyEscrow
  · exact wf.kyInval
  · exact wf.kyPerso
  · exact wf.kyField
  · exact wf.kyRetire

protected theorem Formed.kyStart {code : Nat} {rom : Bool} {run : Dev → Dev} (wf : Formed d) (keeps : Keeps run) : Formed (kyStart code rom run d) :=
  .ite wf.same (keeps _ wf.same.same.same)

protected theorem Formed.kyCommand {code : Nat} (wf : Formed d) : Formed (kyCommand code d) := wf.kyStart (fun _ h => h.kyRun)

protected theorem Formed.kyFinish {j : KyJob} (wf : Formed d) : Formed (kyFinish j d) := by
  unfold Machine.kyFinish
  extract_lets d1 d2 d3 d4
  have w1 : Formed d1 := by
    unfold d1
    split
    · exact wf.setKyBuf
    · exact wf
  have w2 : Formed d2 := by
    unfold d2
    split
    · exact w1.kregFill
    · exact w1
  have w3 : Formed d3 := by
    unfold d3
    split
    · exact w2.pairLoad
    · exact w2
  have w4 : Formed d4 := .ite w3.zeroKyBuf w3
  exact w4.same.same.same.same

protected theorem Formed.kyBurned {e : Nat} (wf : Formed d) : Formed (kyBurned e d) := wf.same.same

protected theorem Formed.kregLost {e : Nat} (wf : Formed d) : Formed (kregLost e d) := by
  unfold Machine.kregLost
  refine .kregClear ?_
  split
  · exact .ite wf wf.same
  · exact wf

protected theorem Formed.kregRemask (wf : Formed d) : Formed (kregRemask d) := by
  unfold Machine.kregRemask
  refine .ite wf (.ite wf.kregLost ?_)
  split
  next h => exact (wf.trng.ofPair h).same

protected theorem Formed.debugEnable (wf : Formed d) : Formed (debugEnable d) := wf.same.kregLost.pairDrop.countRegs

protected theorem Formed.jtagLoad {ir : Nat} (wf : Formed d) : Formed (jtagLoad ir d) := .ite wf.same.debugEnable wf.same

protected theorem Formed.unlockCapture (wf : Formed d) : Formed (unlockCapture d) := by
  unfold Machine.unlockCapture
  refine .ite wf ?_
  split
  next h => exact (wf.trng.ofPair h).same

protected theorem Formed.unlockUpdate {v : Nat} (wf : Formed d) : Formed (unlockUpdate v d) := .ite wf wf.same.same

protected theorem Formed.unlockVerifyDone (wf : Formed d) : Formed (unlockVerifyDone d) := by
  unfold Machine.unlockVerifyDone
  split
  · exact wf
  · extract_lets d1
    have w1 : Formed d1 := wf.same
    exact .ite (.ite w1 w1.debugEnable) w1.same

end Sys2Proof.Proofs
end

section
/-! PROOFS. The page store keeps the memory in its form. -/

namespace Sys2Proof.Proofs

open Sys2Proof.Machine Sys2Proof.Laws

variable {d : Dev}

protected theorem Formed.assignPlot {p f g : Nat} {pin : Bool} (wf : Formed d) : Formed (assignPlot p f g pin d) :=
  .same (.same (.ite wf.dropRelease wf))

protected theorem Formed.takePlace {f : Nat} {n : Need} (wf : Formed d) : Formed (takePlace f n d) := by
  unfold Machine.takePlace
  split
  · exact wf.same
  · extract_lets d1 _
    have w1 : Formed d1 := wf.assignPlot
    exact w1.same

protected theorem Formed.grDone {e : Nat} (wf : Formed d) : Formed (grDone e d) := wf.same.same.same.same

protected theorem Formed.commandPlace {c : GrCmd} (wf : Formed d) : Formed (commandPlace c d) := by
  unfold Machine.commandPlace
  split
  · extract_lets d1 _
    have w1 : Formed d1 := .ite wf.same wf
    exact .ite w1.same.grDone w1.grDone
  · split
    · exact wf.same
    · extract_lets d1 _
      have w1 : Formed d1 := wf.assignPlot
      exact w1.same.grDone

protected theorem Formed.gleanerFill {n : Nat} (wf : Formed d) : Formed (gleanerFill n d) := by
  induction n generalizing d with
  | zero => exact wf
  | succ n ih =>
    refine .ite wf (.ite ?_ ?_)
    · split
      · exact .ite wf.commandPlace (ih wf.commandPlace)
      · exact wf
    · split
      · exact wf
      · refine .ite (.ite wf.takePlace (ih wf.takePlace)) ?_
        split
        · exact wf
        · exact .ite (ih wf.freePlot.same.takePlace) wf

protected theorem Formed.gleaner (wf : Formed d) : Formed (gleaner d) := wf.gleanerFill

protected theorem Formed.pageArrival {f g : Nat} {bytes : List Nat} (wf : Formed d) : Formed (pageArrival f g bytes d) := by
  unfold Machine.pageArrival
  split
  · exact wf
  · extract_lets d1 mine need tie d2 d3 d4 d5
    have w1 : Formed d1 := wf.storeBytes
    have w2 : Formed d2 := w1.same.same
    have w3 : Formed d3 := w2.same.same
    have w4 : Formed d4 := w3.same
    have w5 : Formed d5 := .ite w4.same.same w4
    exact .ite wf w5.gleaner

protected theorem Formed.pageFetchFailed {f g : Nat} (wf : Formed d) : Formed (pageFetchFailed f g d) := by
  unfold Machine.pageFetchFailed
  split
  · exact wf
  · extract_lets d1 _ d2 d3
    have w1 : Formed d1 := wf.freePlot.same
    have w2 : Formed d2 := w1.same.same
    have w3 : Formed d3 := .ite w2.evRecord w2
    exact w3.gleaner

protected theorem Formed.ptePut {map : Bool} {f g : Nat} {v : Bool} {sel addr : Nat} (wf : Formed d) : Formed (ptePut map f g v sel addr d) := by
  unfold Machine.ptePut
  extract_lets old d1 d2
  have w1 : Formed d1 := wf.same
  have w2 : Formed d2 := by
    unfold d2
    split
    · exact w1.same
    · exact w1
  refine .ite wf.lockV ?_
  split
  · exact w1
  · exact .ite w2.freePlot (.ite w1.addChange w1)

protected theorem Formed.grPteWrite {w : Nat} (wf : Formed d) : Formed (grPteWrite w d) := wf.ptePut

protected theorem Formed.grPin {f g : Nat} (wf : Formed d) : Formed (grPin f g d) := by
  unfold Machine.grPin
  extract_lets e d1 d2 _ d3
  have w1 : Formed d1 := by
    unfold d1
    split
    · exact wf.assignPlot
    · exact wf.same
  have w2 : Formed d2 := w1.same
  have w3 : Formed d3 := w2.same
  refine .ite wf ?_
  refine .ite wf.grDone ?_
  split
  · exact .ite wf.grDone (.ite wf.grDone wf.same.grDone)
  · exact .ite wf.grDone w3.gleaner

protected theorem Formed.grUnpin {f g : Nat} (wf : Formed d) : Formed (grUnpin f g d) := by
  unfold Machine.grUnpin
  refine .ite wf ?_
  split
  · exact wf.same.grDone
  · exact wf.grDone

protected theorem Formed.grFetch {f g : Nat} (wf : Formed d) : Formed (grFetch f g d) := by
  unfold Machine.grFetch
  extract_lets e d1 _
  have w1 : Formed d1 := wf.same
  refine .ite wf ?_
  refine .ite wf.grDone ?_
  split
  · exact wf.grDone
  · exact w1.same.gleaner

protected theorem Formed.grCmd {op f g : Nat} (wf : Formed d) : Formed (grCmd op f g d) := by
  unfold Machine.grCmd
  extract_lets d1
  have w1 : Formed d1 := wf.same.same.same
  exact .ite wf (.ite w1.grPin (.ite w1.grUnpin (.ite w1.grFetch w1)))

protected theorem Formed.grCntClear (wf : Formed d) : Formed (grCntClear d) := wf.same.same

protected theorem Formed.windowRead {a : Nat} (wf : Formed d) : Formed (windowRead a d) := .ite wf.same (.ite wf.same wf.draw.same)

protected theorem Formed.windowWrite {a v : Nat} (wf : Formed d) : Formed (windowWrite a v d) := .ite wf.store wf

end Sys2Proof.Proofs
end

section
/-! PROOFS. Admission and charge keep the memory in its form. -/

namespace Sys2Proof.Proofs

open Sys2Proof.Machine Sys2Proof.Laws

variable {d : Dev}

protected theorem Formed.admitNote {f t : Nat} {a : Admit} (wf : Formed d) : Formed (admitNote f t a d) := by
  unfold Machine.admitNote
  split
  · extract_lets d1 d2
    have w1 : Formed d1 := wf.book
    have w2 : Formed d2 := w1.same
    exact .ite (.ite w2.evRecordAt w2) w1
  · exact wf.same
  · exact wf.same

protected theorem Formed.windowRoll (wf : Formed d) : Formed (windowRoll d) := .ite wf wf.same

protected theorem Formed.hotCheck {c : Nat} (wf : Formed d) : Formed (hotCheck c d) :=
  .ite (.ite wf.same.same.evRecord wf.same.same) (.ite wf.same wf)

protected theorem Formed.thermalChannel {c : Nat} (wf : Formed d) : Formed (thermalChannel c d) := wf.same.same.hotCheck

protected theorem Formed.thermalUpdate (wf : Formed d) : Formed (thermalUpdate d) := .ite wf (wf.forAll (fun _ _ h => h.thermalChannel))

protected theorem Formed.vrefUpdate {b code : Nat} (wf : Formed d) : Formed (vrefUpdate b code d) := .ite (.vthRefresh (.ite wf.same wf.same.same)) wf

protected theorem Formed.adcSample {i code : Nat} (wf : Formed d) : Formed (adcSample i code d) :=
  .ite wf (.ite wf.same.vrefUpdate (.ite wf.same.tempWindow wf.same))

protected theorem Formed.sagTrip {b : Nat} (wf : Formed d) : Formed (sagTrip b d) := by
  unfold Machine.sagTrip
  extract_lets d1
  have w1 : Formed d1 := wf.same.same.same
  split
  · exact wf
  · extract_lets s d2
    have w2 : Formed d2 := w1.same
    exact .ite wf (.ite w2.abortOcc w2)

protected theorem Formed.compensationFail {b : Nat} (wf : Formed d) : Formed (compensationFail b d) := by
  unfold Machine.compensationFail
  split
  · exact wf
  · extract_lets s
    exact .ite wf.abortOcc wf

protected theorem Formed.disturb {isRing : Bool} {k : Nat} (wf : Formed d) : Formed (disturb isRing k d) := .ite wf.same.same.abortOcc wf.same.same

protected theorem Formed.disturbSource {isRing : Bool} {src : Nat} (wf : Formed d) : Formed (disturbSource isRing src d) :=
  wf.forAll (fun _ _ h => h.disturb)

protected theorem Formed.bdBcntClear {b : Nat} (wf : Formed d) : Formed (bdBcntClear b d) := wf.same.same

end Sys2Proof.Proofs
end

section
/-! PROOFS. The furrows' evaluation and commands keep the memory in its form. -/

namespace Sys2Proof.Proofs

open Sys2Proof.Machine Sys2Proof.Laws

variable {d : Dev}

protected theorem Formed.skipPoint {f : Nat} (wf : Formed d) : Formed (skipPoint f d) := wf.same.same

protected theorem Formed.renextSource {src : Nat} (wf : Formed d) : Formed (renextSource src d) := wf.forAll (fun _ _ h => h.same)

protected theorem Formed.formNeeds {f : Nat} (wf : Formed d) : Formed (formNeeds f d) := wf.same.same.gleaner

protected theorem Formed.claimPages {f : Nat} {gs : List Nat} (wf : Formed d) : Formed (claimPages f gs d) := by
  unfold Machine.claimPages
  exact wf.forAll (fun _ _ h => (by split; exacts [h.same.same, h]))

protected theorem Formed.armSlot {f p t scale : Nat} {q : Rat} (wf : Formed d) : Formed (armSlot f p t scale q d) := by
  unfold Machine.armSlot
  extract_lets lead s pages
  split
  · exact wf
  · extract_lets d1 d2 d3 d4 _ d5
    have w1 : Formed d1 := wf.same
    have w2 : Formed d2 := w1.claimPages
    have w3 : Formed d3 := .ite w2.same w2
    have w4 : Formed d4 := by
      unfold d4
      split
      · exact w3.queueArmn
      · exact w3
    have w5 : Formed d5 := w4.same
    exact w5.same.same

protected theorem Formed.decideCand {next : Dev × Nat × Nat → Dev × Nat × Nat} {f p t dl : Nat} {x : Dev × Nat × Nat} (wf : Formed x.1)
    (keeps : ∀ x, Formed x.1 → Formed (next x).1) : Formed (decideCand next f p t dl x).1 := by
  obtain ⟨e, a, b⟩ := x
  unfold Machine.decideCand
  dsimp only
  split
  · exact (Formed.windowRoll wf).admitNote.deferPoint.same
  · exact keeps _ (Formed.windowRoll wf).admitNote.skipPoint
  · refine keeps _ ?_
    dsimp only
    exact .armSlot (.ite (Formed.windowRoll wf).admitNote.same (Formed.windowRoll wf).admitNote)

protected theorem Formed.evalLoop {n f : Nat} {x : Dev × Nat × Nat} (wf : Formed x.1) : Formed (evalLoop n f x).1 := by
  induction n generalizing x with
  | zero => exact wf
  | succ n ih =>
    have more {y : Dev} {a b : Nat} (wf : Formed y) : Formed (Machine.evalLoop n f (y, a, b)).1 := ih wf
    have decided {t dl p a b : Nat} {y : Dev} (wf : Formed y) : Formed (Machine.decideCand (Machine.evalLoop n f) f p t dl (y, a, b)).1 :=
      Formed.decideCand wf fun _ => ih
    obtain ⟨e, a, b⟩ := x
    change Formed e at wf
    unfold Machine.evalLoop
    dsimp only
    split
    · exact wf
    · split
      · exact wf
      · split
        · exact wf
        · split
          · exact more wf.skipPoint
          · split
            · exact more wf.skipPoint
            · split
              · exact wf.deferPoint
              · split
                · split
                  · exact wf.deferPoint.same
                  · exact decided wf
                · exact decided wf.same.withdraw

protected theorem Formed.skipPassed {f : Nat} (wf : Formed d) : Formed (skipPassed f d) := .same (.ite wf wf.missAdd)

protected theorem Formed.reproject {k : Nat} (wf : Formed d) : Formed (reproject k d) := by
  unfold Machine.reproject
  extract_lets s
  refine .ite wf ?_
  split
  · exact wf.withdraw
  · exact .ite wf.withdraw wf.same

protected theorem Formed.settleStill {f : Nat} (wf : Formed d) : Formed (settleStill f d) := .ite wf wf.furrowFreed

protected theorem Formed.evaluate {f : Nat} (wf : Formed d) : Formed (evaluate f d) := by
  unfold Machine.evaluate
  extract_lets u d1 d2 d3 d4
  have w1 : Formed d1 := wf.same
  have w2 : Formed d2 := .ite w1.same w1
  have w3 : Formed d3 := w2.forAll (fun _ _ h => h.reproject)
  have w4 : Formed d4 := w3.skipPassed
  refine .ite wf (.ite wf (.ite wf.formNeeds (.ite w4.settleStill.formNeeds ?_)))
  have w5 : Formed (Machine.evalLoop pointsBound f (d4, 0, 0)).1 := Formed.evalLoop w4
  generalize Machine.evalLoop pointsBound f (d4, 0, 0) = x at w5 ⊢
  exact .formNeeds (.ite w5.missAdd.missAdd.furrowFreed w5.missAdd.missAdd.same)

protected theorem Formed.furrowEvaluation {f : Nat} (wf : Formed d) : Formed (furrowEvaluation f d) := wf.evaluate

protected theorem Formed.refillEvaluation {f : Nat} (wf : Formed d) : Formed (refillEvaluation f d) := wf.evaluate

protected theorem Formed.furrowResult {e : Nat} (wf : Formed d) : Formed (furrowResult e d) := wf.same.same

protected theorem Formed.furrowOn {f : Nat} (wf : Formed d) : Formed (furrowOn f d) :=
  .ite (.ite wf.furrowResult wf.same.same.furrowResult) wf.same.furrowResult

protected theorem Formed.furrowOff {f : Nat} (wf : Formed d) : Formed (furrowOff f d) := .ite wf.furrowResult wf.same.furrowFreed.furrowResult

protected theorem Formed.furrowClr {f : Nat} (wf : Formed d) : Formed (furrowClr f d) := wf.same.furrowResult

protected theorem Formed.fcmdWrite {op f : Nat} (wf : Formed d) : Formed (fcmdWrite op f d) :=
  .ite wf.same.same.furrowOn (.ite wf.same.same.furrowOff (.ite wf.same.same.furrowClr wf.same.same))

protected theorem Formed.spreadAll {light : List Fld} {banks : List Nat} {l : List (Fld × Nat)} (wf : Formed d) :
    Formed (spreadAll light banks l d) :=
  (wf.foldl (fun _ _ h => h.same)).writeLights

protected theorem Formed.spread {light : List Fld} {banks : List Nat} {w : Nat} {fs : List Fld} (wf : Formed d) :
    Formed (spread light banks w fs d) :=
  wf.spreadAll

protected theorem Formed.furrowWords {f : Nat} {l : List (Nat × Nat)} (wf : Formed d) : Formed (furrowWords f l d) := by
  unfold Machine.furrowWords
  extract_lets policy src port new d1 d2 d3 moved
  have w1 : Formed d1 := wf.spreadAll
  have w2 : Formed d2 := .ite w1.same w1
  have w3 : Formed d3 := .ite w2.same w2
  exact .ite (wf.forAll (fun _ _ h => h.lockV)) (.ite w3.same w3)

protected theorem Formed.furrowConfigWrite {f i w : Nat} (wf : Formed d) : Formed (furrowConfigWrite f i w d) := wf.furrowWords

protected theorem Formed.forcedHeadland {b : Nat} (wf : Formed d) : Formed (forcedHeadland b d) := by
  unfold Machine.forcedHeadland
  extract_lets _ d1
  have w1 : Formed d1 := wf.same
  split
  · exact wf
  · exact .ite wf (w1.forAll (fun _ _ h => h.withdraw)).commitBank

protected theorem Formed.headlandCommit {b : Nat} (wf : Formed d) : Formed (headlandCommit b d) := wf.commitBank

end Sys2Proof.Proofs
end

section
/-! PROOFS. The slots and their pulses keep the memory in its form. -/

namespace Sys2Proof.Proofs

open Sys2Proof.Machine Sys2Proof.Laws

variable {d : Dev}

protected theorem Formed.pageFault {k g : Nat} (wf : Formed d) : Formed (pageFault k g d) := by
  unfold Machine.pageFault
  extract_lets f late d1 d2
  have w1 : Formed d1 := wf.same.same
  have w2 : Formed d2 := .ite w1.evRecord w1
  split
  · exact w2.same
  · exact w2.missSlot

protected theorem Formed.slotSet {k : Nat} (wf : Formed d) : Formed (slotSet k d) := by
  unfold Machine.slotSet
  extract_lets s
  refine .ite wf ?_
  split
  · exact .ite wf.pageFault wf
  · exact wf.same

protected theorem Formed.keepStart {k : Nat} (wf : Formed d) : Formed (keepStart k d) := by
  unfold Machine.keepStart
  extract_lets s
  refine .ite ?_ wf
  split
  · exact wf.same.same
  · exact wf

protected theorem Formed.fireCauses {k : Nat} (wf : Formed d) : Formed (fireCauses k d) := by
  unfold Machine.fireCauses
  extract_lets src d1
  have w1 : Formed d1 := by
    unfold d1
    split
    · exact .ite wf.disturb wf
    · exact wf
  exact .ite w1.disturb w1

protected theorem Formed.slotFire {k : Nat} (wf : Formed d) : Formed (slotFire k d) := by
  unfold Machine.slotFire
  extract_lets s start d1 d2 d3 d4 d5
  have w1 : Formed d1 := wf.same
  have w2 : Formed d2 := w1.gapEnds
  have w3 : Formed d3 := w2.same.same
  have w4 : Formed d4 := w3.same.same.same
  have w5 : Formed d5 := .ite w4.same w4
  exact .ite wf (.ite wf.same.missSlot w5.peFire.keepStart.fireCauses)

protected theorem Formed.patternFault {c k : Nat} (wf : Formed d) : Formed (patternFault c k d) := by
  unfold Machine.patternFault
  extract_lets s page d1 d2 d3 _ d4 d5
  have w1 : Formed d1 := wf.occEnd
  have w2 : Formed d2 := w1.forAll (fun _ _ h => h.withdraw)
  have w3 : Formed d3 := w2.same
  have w4 : Formed d4 := w3.same
  have w5 : Formed d5 := w4.same
  exact .ite (.ite w5.evRecord w5.evRecord) w5

protected theorem Formed.patternStepStart {k : Nat} (wf : Formed d) : Formed (patternStepStart k d) := by
  unfold Machine.patternStepStart
  extract_lets s bank
  refine .ite wf ?_
  split
  · exact wf.patternFault
  · extract_lets lit d1 boosted d2 d3 d4 t d5
    have w1 : Formed d1 := wf.forAll (fun _ _ h => h.sinkOn)
    have w2 : Formed d2 := .ite w1.same w1
    have w3 : Formed d3 := .ite w2.same w2
    have w4 : Formed d4 := .ite w3.assertLine w3
    have w5 : Formed d5 := by
      unfold d5
      split
      · exact .ite w4.same w4
      · exact w4
    exact .ite wf.patternFault w5.same

protected theorem Formed.pulseEnd {k short : Nat} (wf : Formed d) : Formed (pulseEnd k short d) := by
  unfold Machine.pulseEnd
  extract_lets s ext t d1
  have w1 : Formed d1 := wf.pulseStop
  refine .ite wf ?_
  refine .ite w1.occEnd ?_
  split
  · exact w1.patternFault
  · extract_lets keepLine d2
    have w2 : Formed d2 := .ite w1.same w1
    exact w2.same

protected theorem Formed.endAllLight (wf : Formed d) : Formed (endAllLight d) := by
  unfold Machine.endAllLight
  extract_lets d1 d2
  have w1 : Formed d1 := wf.forAll (fun _ _ h => h.occEnd)
  have w2 : Formed d2 := w1.forAll (fun _ _ h => h.same.same.forAll (fun _ _ h => h.same))
  exact w2.forAll (fun _ _ h => h.same)

protected theorem Formed.releaseLines {l : List Nat} (wf : Formed d) : Formed (releaseLines l d) :=
  wf.forAll (fun _ _ h => h.forAll (fun _ _ h => h.same))

protected theorem Formed.lightOff (wf : Formed d) : Formed (lightOff d) := wf.endAllLight.releaseLines

protected theorem Formed.cancelAll {c : Nat} (wf : Formed d) : Formed (cancelAll c d) := wf.forAll (fun _ _ h => h.missSlot)

protected theorem Formed.swCountClear {i : Nat} (wf : Formed d) : Formed (swCountClear i d) := .ite wf.same (.ite wf.same wf.same)

end Sys2Proof.Proofs
end

section
/-! PROOFS. Channels, banks and boosters keep the memory in its form. -/

namespace Sys2Proof.Proofs

open Sys2Proof.Machine Sys2Proof.Laws

variable {d : Dev}

protected theorem Formed.lineAssert {k : Nat} (wf : Formed d) : Formed (lineAssert k d) := by
  unfold Machine.lineAssert
  extract_lets s
  refine .ite wf ?_
  split
  · exact wf
  · exact .ite wf.assertLine wf

protected theorem Formed.scanAssert {k : Nat} (wf : Formed d) : Formed (scanAssert k d) := by
  unfold Machine.scanAssert
  split
  · exact wf.same.lineAssert.same.releaseLines
  · exact wf.lineAssert

protected theorem Formed.scanOverload {r : Nat} (wf : Formed d) : Formed (scanOverload r d) := .ite (.ite wf.same.same.evRecord wf.same.same) wf

protected theorem Formed.aimGap {b : Nat} (wf : Formed d) : Formed (aimGap b d) := .ite wf.same.commitBank wf

protected theorem Formed.chanDown {c st : Nat} (wf : Formed d) : Formed (chanDown c st d) := by
  unfold Machine.chanDown
  extract_lets d1 d2 d3
  have w1 : Formed d1 := by
    unfold d1
    split
    · exact .ite wf.pulseSinkOff wf
    · exact wf
  have w2 : Formed d2 := w1.same
  have w3 : Formed d3 := w2.same
  exact .dropPend (.ite w3.same w3)

protected theorem Formed.chanFault {opens : List Nat} {st c : Nat} (wf : Formed d) : Formed (chanFault opens st c d) := by
  unfold Machine.chanFault
  extract_lets owner aimed mates d1 d2 d3 d4 d5
  have w1 : Formed d1 := wf.chanDown
  have w2 : Formed d2 := w1.forAll (fun _ _ h => h.chanDown)
  have w3 : Formed d3 := .ite w2.same w2.same
  have w4 : Formed d4 := w3.same
  have w5 : Formed d5 := .ite w4.evRecord w4
  exact .ite w5.aimGap w5

protected theorem Formed.riseWindowEnd {b reg low : Nat} (wf : Formed d) : Formed (riseWindowEnd b reg low d) := by
  unfold Machine.riseWindowEnd
  extract_lets on d1
  have w1 : Formed d1 := wf.forAll (fun _ _ h => h.same)
  split
  · exact wf
  · extract_lets opens
    exact .ite wf (w1.forAll (fun _ _ h => h.chanFault))

protected theorem Formed.shortDetected {c : Nat} (wf : Formed d) : Formed (shortDetected c d) := by
  unfold Machine.shortDetected
  split
  · exact wf
  · exact .ite wf wf.chanFault

protected theorem Formed.boosterFault {b cause : Nat} (wf : Formed d) : Formed (boosterFault b cause d) := by
  unfold Machine.boosterFault
  extract_lets owner d1 d2 d3 d4
  have w1 : Formed d1 := by
    unfold d1
    split
    · exact wf.occEnd
    · exact wf
  have w2 : Formed d2 := w1.same.same
  have w3 : Formed d3 := w2.dropPend
  have w4 : Formed d4 := w3.same
  exact .ite w4.evRecord w4

protected theorem Formed.boosterCheck {b sense : Nat} (wf : Formed d) : Formed (boosterCheck b sense d) := by
  unfold Machine.boosterCheck
  split
  · exact wf
  · extract_lets s goal
    exact .ite wf (.ite wf.boosterFault wf.same)

protected theorem Formed.vgdUndervoltage {i : Nat} (wf : Formed d) : Formed (vgdUndervoltage i d) := by
  unfold Machine.vgdUndervoltage
  extract_lets _ d1
  have w1 : Formed d1 := wf.same
  exact w1.forAll (fun _ _ h => (by split; exacts [h.boostOff, h]))

protected theorem Formed.boosterOvercurrent {b sense : Nat} (wf : Formed d) : Formed (boosterOvercurrent b sense d) := by
  unfold Machine.boosterOvercurrent
  split
  · exact wf
  · exact .ite wf.boosterFault wf

protected theorem Formed.chanOnCmd {c : Nat} (wf : Formed d) : Formed (chanOnCmd c d) := .ite wf wf.addChange

protected theorem Formed.chanOffCmd {c : Nat} (wf : Formed d) : Formed (chanOffCmd c d) := .ite wf.addChange wf

protected theorem Formed.chCmdWrite {c v : Nat} (wf : Formed d) : Formed (chCmdWrite c v d) := .ite wf (.ite wf.chanOnCmd (.ite wf.chanOffCmd wf))

protected theorem Formed.bankOnCmd {b : Nat} (wf : Formed d) : Formed (bankOnCmd b d) := .ite wf.addChange wf

protected theorem Formed.bankOffCmd {b : Nat} (wf : Formed d) : Formed (bankOffCmd b d) := .ite wf wf.addChange

protected theorem Formed.bCmdWrite {b v : Nat} (wf : Formed d) : Formed (bCmdWrite b v d) := .ite wf (.ite wf.bankOnCmd (.ite wf.bankOffCmd wf))

protected theorem Formed.chCntClear {c : Nat} (wf : Formed d) : Formed (chCntClear c d) := wf.same.same

protected theorem Formed.aimChannel {t n c : Nat} (wf : Formed d) : Formed (aimChannel t n c d) := .ite wf.same wf.book.sinkOn.same.same

protected theorem Formed.aimingPeriodStart (wf : Formed d) : Formed (aimingPeriodStart d) :=
  .ite wf (wf.same.windowRoll.forAll (fun _ _ h => h.aimChannel))

protected theorem Formed.aimingPulseEnd {c : Nat} (wf : Formed d) : Formed (aimingPulseEnd c d) := by
  unfold Machine.aimingPulseEnd
  extract_lets b
  split
  · exact wf
  · exact .ite wf wf.same.same.aimGap

end Sys2Proof.Proofs
end

section
/-! PROOFS. The hitched heads' messages keep the memory in its form. -/

namespace Sys2Proof.Proofs

open Sys2Proof.Machine Sys2Proof.Laws

variable {d : Dev}

protected theorem Formed.armnStale {p k : Nat} (wf : Formed d) : Formed (armnStale p k d) := .ite wf.same.same wf

protected theorem Formed.triggerSuppress {p k i : Nat} {t : ℤ} (wf : Formed d) : Formed (triggerSuppress p k i t d) :=
  .ite wf.same.same.same.evRecordAt wf.same.same.same

protected theorem Formed.triggerDrive {p k i : Nat} {t : ℤ} (wf : Formed d) : Formed (triggerDrive p k i t d) := wf.same.same

protected theorem Formed.triggerAssert {k i : Nat} (wf : Formed d) : Formed (triggerAssert k i d) := by
  unfold Machine.triggerAssert
  extract_lets s t
  split
  · extract_lets d1
    have w1 : Formed d1 := wf.armnStale
    refine .ite wf ?_
    split
    · exact .ite w1.triggerSuppress w1.triggerDrive
    · exact w1.triggerDrive
  · exact wf

protected theorem Formed.triggerEnd {p : Nat} (wf : Formed d) : Formed (triggerEnd p d) := .ite wf.same wf

protected theorem Formed.exposureMiss {p : Nat} {c : Check} {partly : Bool} (wf : Formed d) : Formed (exposureMiss p c partly d) :=
  .ite wf.same.same.evRecordAt wf.same.same

protected theorem Formed.exposureCheck {p cover : Nat} {tie : Bool} (wf : Formed d) : Formed (exposureCheck p cover tie d) := by
  unfold Machine.exposureCheck
  split
  · exact wf
  · extract_lets d1
    have w1 : Formed d1 := wf.same.same
    split
    · exact wf
    · exact .ite wf (.ite w1.same.same (.ite w1 w1.exposureMiss))

protected theorem Formed.hitchEvent {p kind : Nat} (wf : Formed d) : Formed (hitchEvent p kind d) := .ite wf.same.evRecord wf.same

protected theorem Formed.headNote {p : Nat} (wf : Formed d) : Formed (headNote p d) := by
  unfold Machine.headNote
  split
  · exact .ite wf wf.same
  · exact wf.same

protected theorem Formed.hitchRestore {p : Nat} (wf : Formed d) : Formed (hitchRestore p d) := by
  unfold Machine.hitchRestore
  split
  · exact wf.same.same.same.same
  · exact wf

protected theorem Formed.hitchStart {p : Nat} (wf : Formed d) : Formed (hitchStart p d) := wf.hitchRestore.same.same.same

protected theorem Formed.hitchRefuse {p c : Nat} (wf : Formed d) : Formed (hitchRefuse p c d) := wf.hitchRestore.same.same.same.hitchEvent

protected theorem Formed.hitchDone {p : Nat} (wf : Formed d) : Formed (hitchDone p d) :=
  ((wf.headNote.same.same.same.same.forAll (fun _ _ h => h.same)).forAll (fun _ _ h => h.addChange)).hitchEvent

protected theorem Formed.dropStaging {p : Nat} (wf : Formed d) : Formed (dropStaging p d) := wf.onQ

protected theorem Formed.leaveService {p st c : Nat} (wf : Formed d) : Formed (leaveService p st c d) := by
  unfold Machine.leaveService
  extract_lets d1 d2 d3 d4
  have w1 : Formed d1 := wf.headNote.same.same.same
  have w2 : Formed d2 := w1.same.dropStaging
  have w3 : Formed d3 := w2.forAll (fun _ _ h => h.withdraw)
  have w4 : Formed d4 := w3.same
  exact .ite (.ite w4.evRecord w4) w3

protected theorem Formed.prsnChange {p : Nat} {low : Bool} (wf : Formed d) : Formed (prsnChange p low d) := .ite (.same (.ite wf.same wf)) wf

protected theorem Formed.headsResume (wf : Formed d) : Formed (headsResume d) := wf.forAll (fun _ _ h => h.same.same.dropStale)

protected theorem Formed.presenceDebounce {p : Nat} (wf : Formed d) : Formed (presenceDebounce p d) :=
  .ite wf (.ite (.ite wf.same.hitchStart wf.same.same) (.ite wf.same.leaveService wf.same.hitchRestore.same.same))

protected theorem Formed.sendWhen {p : Nat} {m : Msg} {send : Dev → Dev} (wf : Formed d) (keeps : Keeps send) : Formed (sendWhen p m send d) :=
  .ite (keeps _ wf) wf

protected theorem Formed.sendHello {p : Nat} (wf : Formed d) : Formed (sendHello p d) := wf.sendWhen (fun _ h => h.same.same)

protected theorem Formed.sendParam {p : Nat} (wf : Formed d) : Formed (sendParam p d) := wf.sendWhen (fun _ h => h.same.same)

protected theorem Formed.sendArmn {p : Nat} (wf : Formed d) : Formed (sendArmn p d) := by
  unfold Machine.sendArmn
  exact wf.dropStale.sendWhen (fun _ h => (by split; exacts [h.same.same, h]))

protected theorem Formed.sendDisarm {p : Nat} (wf : Formed d) : Formed (sendDisarm p d) := by
  unfold Machine.sendDisarm
  exact wf.sendWhen (fun _ h => (by split; exacts [h.same.same, h]))

protected theorem Formed.sendTaint {p : Nat} (wf : Formed d) : Formed (sendTaint p d) := by
  unfold Machine.sendTaint
  exact wf.sendWhen (fun _ h => (by split; exacts [h.same.same, h]))

protected theorem Formed.sendHold {p : Nat} (wf : Formed d) : Formed (sendHold p d) := wf.sendWhen (fun _ h => h.same.same.same)

protected theorem Formed.sendGo {p : Nat} (wf : Formed d) : Formed (sendGo p d) := wf.sendWhen (fun _ h => h.same.same.same)

protected theorem Formed.sendPoll {p : Nat} (wf : Formed d) : Formed (sendPoll p d) := wf.sendWhen (fun _ h => h.same.same)

protected theorem Formed.sendBye {p : Nat} (wf : Formed d) : Formed (sendBye p d) := wf.sendWhen (fun _ h => h.same.leaveService)

protected theorem Formed.byeStartTimeout {p : Nat} (wf : Formed d) : Formed (byeStartTimeout p d) := .ite wf.leaveService wf

protected theorem Formed.msgDiscard {p : Nat} (wf : Formed d) : Formed (msgDiscard p d) := wf.same.same

protected theorem Formed.messageGapTimeout {p : Nat} (wf : Formed d) : Formed (messageGapTimeout p d) := .ite wf.msgDiscard.same wf

protected theorem Formed.stageMsg {p typ : Nat} {payload : List Nat} (wf : Formed d) : Formed (stageMsg p typ payload d) := wf.dropStaging.qStage

protected theorem Formed.replyWindowExpiry {p : Nat} (wf : Formed d) : Formed (replyWindowExpiry p d) := by
  unfold Machine.replyWindowExpiry
  extract_lets h d1
  have w1 : Formed d1 := wf.same
  refine .ite wf ?_
  split
  · exact w1
  · exact .ite w1.same w1.hitchRefuse
  · exact .ite (.ite w1.same w1.hitchRefuse) w1.same
  · exact .ite w1.leaveService w1.same

protected theorem Formed.receive {p typ age : Nat} {m : List Nat} {fits : Await → Bool} {act : Await → List Nat → Dev → Dev} (wf : Formed d)
    (keeps : ∀ a m, Keeps (act a m)) : Formed (receive p typ age m fits act d) := by
  unfold Machine.receive
  refine .ite wf ?_
  extract_lets d1
  have w1 : Formed d1 := wf.same
  split
  · exact w1.msgDiscard
  · exact .ite w1.replyWindowExpiry (.ite w1 (keeps _ _ _ (.same (.ite w1.same.same w1))))

protected theorem Formed.receiveIdent {p age : Nat} {m : List Nat} (wf : Formed d) : Formed (receiveIdent p age m d) := by
  unfold Machine.receiveIdent
  exact wf.receive (fun _ _ _ h => .ite h.stageMsg.hitchRefuse (.ite h.stageMsg.hitchRefuse
    h.stageMsg.headNote.same.same.same.same.same.same.same.same))

protected theorem Formed.receiveAck {p age : Nat} {m : List Nat} (wf : Formed d) : Formed (receiveAck p age m d) :=
  wf.receive (fun _ _ _ h => .ite h.same (.ite (.ite h.hitchDone h.hitchRefuse) (.ite h.same h.same.same)))

protected theorem Formed.receiveNote {p age : Nat} {m : List Nat} (wf : Formed d) : Formed (receiveNote p age m d) :=
  wf.receive (fun _ _ _ h => h.same.stageMsg)

protected theorem Formed.receiveHeadBye {p age : Nat} {m : List Nat} (wf : Formed d) : Formed (receiveHeadBye p age m d) :=
  wf.receive (fun _ _ _ h => h.leaveService.stageMsg)

protected theorem Formed.pollIntervalExpiry {p : Nat} (wf : Formed d) : Formed (pollIntervalExpiry p d) := .ite wf.same wf

protected theorem Formed.hpOn {p : Nat} (wf : Formed d) : Formed (hpOn p d) := .ite wf.hitchStart wf

protected theorem Formed.hpOff {p : Nat} (wf : Formed d) : Formed (hpOff p d) := .ite wf.hitchRestore.same.same.same (.ite wf.same wf)

protected theorem Formed.hpHitch {p : Nat} (wf : Formed d) : Formed (hpHitch p d) := .ite wf (.hitchStart (.ite wf.leaveService wf))

protected theorem Formed.hpCtlWrite {p v : Nat} (wf : Formed d) : Formed (hpCtlWrite p v d) := by
  unfold Machine.hpCtlWrite
  extract_lets d1 d2 d3
  have w1 : Formed d1 := wf.same.same.same
  have w2 : Formed d2 := .ite w1.hpOn w1
  have w3 : Formed d3 := .ite w2.hpOff w2
  exact .ite w3.hpHitch w3

protected theorem Formed.hpExptWrite {p v : Nat} (wf : Formed d) : Formed (hpExptWrite p v d) := .ite wf.same.same wf.same

protected theorem Formed.hpCntClear {p : Nat} (wf : Formed d) : Formed (hpCntClear p d) := wf.same.same.same.same

protected theorem Formed.hpXcntClear {p : Nat} (wf : Formed d) : Formed (hpXcntClear p d) := wf.same.same

end Sys2Proof.Proofs
end

section
/-! PROOFS. The encoder keeps the memory in its form. -/

namespace Sys2Proof.Proofs

open Sys2Proof.Machine Sys2Proof.Laws

variable {d : Dev}

protected theorem Formed.quadratureError {n : Nat} (wf : Formed d) : Formed (quadratureError n d) := wf.same.same.same

protected theorem Formed.reversal {n t : Nat} (wf : Formed d) : Formed (reversal n t d) := wf.same.same.same.forAll (fun _ _ h => h.withdrawSource)

protected theorem Formed.encCount {n : Nat} {c : ℤ} (wf : Formed d) : Formed (encCount n c d) := by
  unfold Machine.encCount
  extract_lets t e back turn d1 d2 d3 d4
  have w1 : Formed d1 := wf.same
  have w2 : Formed d2 := w1.same
  have w3 : Formed d3 := .ite w2.same.same w2
  have w4 : Formed d4 := .ite w3.reversal w3
  exact .ite (w4.forAll (fun _ _ h => h.renextSource)) w4

protected theorem Formed.zTake {n : Nat} (wf : Formed d) : Formed (zTake n d) := .ite wf wf.same.same

protected theorem Formed.zAgain {n : Nat} (wf : Formed d) : Formed (zAgain n d) := by
  unfold Machine.zAgain
  split
  · exact wf
  · exact .ite wf.same.same.zTake wf

protected theorem Formed.quadratureCount {n : Nat} {a b : Bool} (wf : Formed d) : Formed (quadratureCount n a b d) := by
  unfold Machine.quadratureCount
  extract_lets e fa fb d1
  have w1 : Formed d1 := wf.same
  refine .ite wf ?_
  refine .ite wf.same ?_
  split
  · exact w1.quadratureError.zAgain
  · extract_lets d2
    have w2 : Formed d2 := w1.encCount
    exact .ite w1 (.zAgain (.ite w2.same w2))

protected theorem Formed.encStop {n : Nat} (wf : Formed d) : Formed (encStop n d) :=
  .ite wf.same.same (wf.same.same.forAll (fun _ _ h => h.withdrawSource))

protected theorem Formed.ringShown (wf : Formed d) : Formed (ringShown d) := .ite wf.same wf

protected theorem Formed.freezeEnd {n : Nat} (wf : Formed d) : Formed (freezeEnd n d) := .ite wf.same.same wf

protected theorem Formed.velocityUpdate {n : Nat} (wf : Formed d) : Formed (velocityUpdate n d) := by
  unfold Machine.velocityUpdate
  extract_lets d1 e t d2 recent m
  have w1 : Formed d1 := wf.freezeEnd
  have w2 : Formed d2 := w1.same.ringShown
  exact .ite w1 (.ite w2 (.ite w2.same w2.encStop))

protected theorem Formed.burstOnset {n : Nat} {cm : Bool} (wf : Formed d) : Formed (burstOnset n cm d) := by
  unfold Machine.burstOnset
  extract_lets d1 d2 d3
  have w1 : Formed d1 := wf.same
  have w2 : Formed d2 := w1.same.same.freezeEnd
  have w3 : Formed d3 := .ite w2.same w2.same.same
  exact .ite w1 (w3.forAll (fun _ _ h => h.disturbSource))

protected theorem Formed.burstClear {n : Nat} (wf : Formed d) : Formed (burstClear n d) := .ite wf.same wf.same.same.same

protected theorem Formed.zCapture {n : Nat} {z : Bool} (wf : Formed d) : Formed (zCapture n z d) :=
  .ite wf (.ite wf.same (.ite wf.same.same.zTake wf.same))

protected theorem Formed.positionLoad {n : Nat} (wf : Formed d) : Formed (positionLoad n d) :=
  .ite wf.lockV (wf.same.same.same.same.forAll (fun _ _ h => h.renextSource))

protected theorem Formed.enPositionRead {n : Nat} (wf : Formed d) : Formed (enPositionRead n d) := wf.same.same

protected theorem Formed.enZcaptureRead {n : Nat} (wf : Formed d) : Formed (enZcaptureRead n d) := wf.same.same

protected theorem Formed.enRingPositionRead (wf : Formed d) : Formed (enRingPositionRead d) := wf.same.same

protected theorem Formed.enCntClear {n : Nat} (wf : Formed d) : Formed (enCntClear n d) := wf.same.same

end Sys2Proof.Proofs
end

section
/-! PROOFS. The ring keeps the memory in its form. -/

namespace Sys2Proof.Proofs

open Sys2Proof.Machine Sys2Proof.Laws

variable {d : Dev}

protected theorem Formed.srEvent {c : Nat} {f : Fld} {unit : Nat} (wf : Formed d) : Formed (srEvent c f unit d) := .ite wf.same.evRecord wf.same

protected theorem Formed.tunnelSent (wf : Formed d) : Formed (tunnelSent d) := by
  unfold Machine.tunnelSent
  extract_lets _
  split
  · exact wf
  · exact .ite wf wf.same

protected theorem Formed.takeCell (wf : Formed d) : Formed ((takeCell d).2) := by
  unfold Machine.takeCell
  split
  · exact wf.same
  · split
    · exact wf.same
    · split
      · exact wf.same.tunnelSent
      · exact wf

protected theorem Formed.fillCell (wf : Formed d) : Formed (fillCell d) := by
  have taken := wf.takeCell
  unfold Machine.fillCell
  generalize Machine.takeCell d = x at taken ⊢
  obtain ⟨_ | c, e⟩ := x
  · exact taken.same
  · exact taken.same

protected theorem Formed.ringStops (wf : Formed d) : Formed (ringStops d) := .ite wf.same.withdrawSource wf

protected theorem Formed.setState {st : Nat} (wf : Formed d) : Formed (setState st d) := .ite wf.same wf.same.same.tunnelSent

protected theorem Formed.enterBreak (wf : Formed d) : Formed (enterBreak d) := wf.ringStops.setState.same.srEvent

protected theorem Formed.memberDown (wf : Formed d) : Formed (memberDown d) := wf.ringStops.setState.same.same.same.same.srEvent

protected theorem Formed.ringFail (wf : Formed d) : Formed (ringFail d) := wf.setState.same.same.same

protected theorem Formed.measureLink {j : Nat} (wf : Formed d) : Formed (measureLink j d) := wf.same.same

protected theorem Formed.sendDelays (wf : Formed d) : Formed (sendDelays d) := wf.same.forAll (fun _ _ h => h.same)

protected theorem Formed.afterLinks (wf : Formed d) : Formed (afterLinks d) := .ite wf.sendDelays wf.same

protected theorem Formed.linkDone {v : Nat} (wf : Formed d) : Formed (linkDone v d) := .ite wf.same.measureLink wf.same.afterLinks

protected theorem Formed.ringUpDone (wf : Formed d) : Formed (ringUpDone d) := wf.setState.same.same.srEvent

protected theorem Formed.ringUp (wf : Formed d) : Formed (ringUp d) := wf.setState.same.same.same.same.same.same

protected theorem Formed.loopCheck {l : ℤ} (wf : Formed d) : Formed (loopCheck l d) := .ite wf.same.sendDelays wf.same.ringFail

protected theorem Formed.ringUpTick (wf : Formed d) : Formed (ringUpTick d) := by
  unfold Machine.ringUpTick
  split
  · exact wf
  · exact wf
  · exact .ite wf.same (.ite wf.ringFail wf)
  · exact .ite wf.ringFail wf

protected theorem Formed.epochSend (wf : Formed d) : Formed (epochSend d) := by
  unfold Machine.epochSend
  extract_lets e d1 n busy up rhl x d2
  have w1 : Formed d1 := wf.ringUpTick
  have w2 : Formed d2 := w1.same
  refine .ite wf.ringUpTick ?_
  refine .ite wf ?_
  split
  · exact w2.same
  · exact w2.fillCell

protected theorem Formed.codeErrors {n : Nat} (wf : Formed d) : Formed (codeErrors n d) := .ite wf (.ite wf.same.same.disturbSource wf.same.same)

protected theorem Formed.tltLoad {e : ℤ} (wf : Formed d) : Formed (tltLoad e d) := wf.same.same.same.renextSource

protected theorem Formed.becomesUp (wf : Formed d) : Formed (becomesUp d) := .ite wf.setState.same.same wf.setState.same.same.srEvent.renextSource

protected theorem Formed.takeTime {e : ℤ} {up : Bool} (wf : Formed d) : Formed (takeTime e up d) := by
  unfold Machine.takeTime
  extract_lets d1 d2 d3
  have w1 : Formed d1 := wf.same
  have w2 : Formed d2 := .ite w1.same (.ite w1.same w1)
  have w3 : Formed d3 := w2.same
  refine .ite wf ?_
  refine .ite (.ite wf.tltLoad wf) ?_
  exact .ite w2.same.same.enterBreak (.ite (.ite w3.becomesUp w3) w2)

protected theorem Formed.headlandAdmit (wf : Formed d) : Formed (headlandAdmit d) := .ite (.ite wf.becomesUp wf.same) wf

protected theorem Formed.sendJoin (wf : Formed d) : Formed (sendJoin d) := .ite wf.same.same wf.same.same.setState

protected theorem Formed.followEpoch {x : Epoch} (wf : Formed d) : Formed (followEpoch x d) :=
  .ite wf.same (.ite (.renextSource (.ite wf.same.withdrawSource wf.same)) (.ite wf.same.withdrawSource wf.same))

protected theorem Formed.memberEpoch {x : Epoch} {e : ℤ} (wf : Formed d) : Formed (memberEpoch x e d) := by
  unfold Machine.memberEpoch
  extract_lets d1 d2 d3
  have w1 : Formed d1 := wf.same
  have w2 : Formed d2 := w1.followEpoch.same
  have w3 : Formed d3 := .ite w2.sendJoin w2
  exact .ite wf.same.memberDown (.takeTime (.ite w3.headlandAdmit w3))

protected theorem Formed.masterEpoch {x : Epoch} {l : ℤ} (wf : Formed d) : Formed (masterEpoch x l d) :=
  .ite wf.same.same.loopCheck (.ite wf.same.same.setState.same.srEvent wf.same.same)

protected theorem Formed.epochWatchdogExpiry (wf : Formed d) : Formed (epochWatchdogExpiry d) := by
  unfold Machine.epochWatchdogExpiry
  extract_lets d1
  have w1 : Formed d1 := wf.setState.same.same
  split
  · exact wf
  · exact .ite wf (.ite w1.srEvent (.ite wf wf.enterBreak))

protected theorem Formed.epochReceive {m : List Nat} {frac errs : Nat} {empty : Bool} (wf : Formed d) :
    Formed (epochReceive m frac errs empty d) := by
  unfold Machine.epochReceive
  extract_lets d1 d2 tie d3
  have w1 : Formed d1 := wf.codeErrors
  have w2 : Formed d2 := w1.epochWatchdogExpiry
  have w3 : Formed d3 := .ite w2.same.same w2
  refine .ite wf ?_
  split
  · exact w1
  · extract_lets late d4 d5
    have w4 : Formed d4 := w3.same
    have w5 : Formed d5 := .ite w4.memberEpoch w4
    exact .ite w3.masterEpoch (.ite w5.fillCell w5)

protected theorem Formed.holdCell {c : Cell} (wf : Formed d) : Formed (holdCell c d) := .ite (.ite wf wf.same) wf.same

protected theorem Formed.cellDisc {src arg : Nat} (wf : Formed d) : Formed (cellDisc src arg d) := by
  unfold Machine.cellDisc
  extract_lets d1 d2 d3
  have w1 : Formed d1 := .ite wf.same wf
  have w2 : Formed d2 := .ite wf.srEvent wf
  have w3 : Formed d3 := w2.setState.same.same
  refine .ite wf ?_
  refine .ite (.ite w1.same.measureLink wf) ?_
  exact .ite wf.holdCell (.ite w2.same w3.same.same)

protected theorem Formed.cellMeas {src arg link : Nat} (wf : Formed d) : Formed (cellMeas src arg link d) :=
  .ite wf (.ite (.ite wf.same.linkDone wf) (.ite wf.holdCell.same.same wf.holdCell))

protected theorem Formed.cellMres {src data : Nat} (wf : Formed d) : Formed (cellMres src data d) := .ite wf (.ite wf.holdCell.linkDone wf.holdCell)

protected theorem Formed.cellDly {src arg data : Nat} (wf : Formed d) : Formed (cellDly src arg data d) :=
  .ite wf (.ite wf.holdCell.same.same wf.holdCell)

protected theorem Formed.setMember {k : Nat} {v : Bool} (wf : Formed d) : Formed (setMember k v d) := .ite wf (.ite wf.same wf.clrBit)

protected theorem Formed.cellAligned {src : Nat} (wf : Formed d) : Formed (cellAligned src d) := by
  unfold Machine.cellAligned
  extract_lets d1 d2
  have w1 : Formed d1 := wf.holdCell
  have w2 : Formed d2 := w1.setMember.same
  exact .ite wf (.ite w1 (.ite (.ite w2.ringUpDone w2) w2.srEvent))

protected theorem Formed.alignmentTimeout (wf : Formed d) : Formed (alignmentTimeout d) := .ite (wf.forAll (fun _ _ h => h.srEvent)).ringUpDone wf

protected theorem Formed.cellJoin {src : Nat} (wf : Formed d) : Formed (cellJoin src d) := .ite wf (.ite wf.holdCell.same wf.holdCell)

protected theorem Formed.cellLeave {src : Nat} (wf : Formed d) : Formed (cellLeave src d) := .ite wf (.ite wf.holdCell.setMember.srEvent wf.holdCell)

protected theorem Formed.cellRoll (wf : Formed d) : Formed (cellRoll d) := .ite wf (.ite wf.holdCell wf.holdCell.sendJoin)

protected theorem Formed.followTaint {frame k : Nat} (wf : Formed d) : Formed (followTaint frame k d) := .ite wf.same.same.taintReport wf

protected theorem Formed.cellTaint {src arg data : Nat} (wf : Formed d) : Formed (cellTaint src arg data d) :=
  .ite wf (.ite wf.holdCell (.ite (wf.holdCell.forAll (fun _ _ h => h.followTaint)) wf.holdCell))

protected theorem Formed.seqError {src : Nat} (wf : Formed d) : Formed (seqError src d) := wf.same.same.same

protected theorem Formed.lineToQueue {src : Nat} {reply : Bool} {chars : List Nat} (wf : Formed d) : Formed (lineToQueue src reply chars d) :=
  wf.qStage

protected theorem Formed.gatherAdd {src : Nat} {reply : Bool} {seq : Nat} {isLast : Bool} {chars : List Nat} (wf : Formed d) : Formed
    (gatherAdd src reply seq isLast chars d) :=
  .ite wf.same (.ite wf.same.lineToQueue wf.same.same)

protected theorem Formed.gatherCell {src : Nat} {reply : Bool} {arg data : Nat} (wf : Formed d) : Formed (gatherCell src reply arg data d) := by
  unfold Machine.gatherCell
  extract_lets seq chars
  split
  · exact .ite wf.seqError.gatherAdd (.ite wf.gatherAdd wf.seqError)
  · exact .ite wf.gatherAdd wf

protected theorem Formed.lineCell {typ src arg data : Nat} (wf : Formed d) : Formed (lineCell typ src arg data d) :=
  .ite wf (.ite wf.holdCell.gatherCell wf.holdCell)

protected theorem Formed.cellTun {src arg data : Nat} (wf : Formed d) : Formed (cellTun src arg data d) := wf.lineCell

protected theorem Formed.cellTunr {src arg data : Nat} (wf : Formed d) : Formed (cellTunr src arg data d) := wf.lineCell

protected theorem Formed.reqUp (wf : Formed d) : Formed ((reqUp d).2) := .iteSnd wf.ringUp wf

protected theorem Formed.reqDown (wf : Formed d) : Formed ((reqDown d).2) := .iteSnd wf.setState.same.same.same.srEvent.same wf

protected theorem Formed.reqJoin (wf : Formed d) : Formed ((reqJoin d).2) := .iteSnd wf (.iteSnd wf.sendJoin wf)

protected theorem Formed.ringLeave (wf : Formed d) : Formed (ringLeave d) := .ite wf wf.ringStops.same.same.setState

protected theorem Formed.ringQuit (wf : Formed d) : Formed (ringQuit d) := by
  unfold Machine.ringQuit
  split
  · exact wf.ringLeave
  · exact wf.ringLeave.same

protected theorem Formed.reqLeave (wf : Formed d) : Formed ((reqLeave d).2) := .iteSnd wf wf.ringLeave

protected theorem Formed.srUp (wf : Formed d) : Formed (srUp d) := wf.reqUp

protected theorem Formed.srDown (wf : Formed d) : Formed (srDown d) := wf.reqDown

protected theorem Formed.srJoin (wf : Formed d) : Formed (srJoin d) := wf.reqJoin

protected theorem Formed.srLeave (wf : Formed d) : Formed (srLeave d) := wf.reqLeave

protected theorem Formed.srCtlWrite {v : Nat} (wf : Formed d) : Formed (srCtlWrite v d) := by
  unfold Machine.srCtlWrite
  extract_lets d1 d2 d3 d4
  have w1 : Formed d1 := wf.same.same
  have w2 : Formed d2 := .ite w1.srUp w1
  have w3 : Formed d3 := .ite w2.srDown w2
  have w4 : Formed d4 := .ite w3.srJoin w3
  exact .ite w4.srLeave w4

protected theorem Formed.srCntClear (wf : Formed d) : Formed (srCntClear d) := wf.same.same.same

end Sys2Proof.Proofs
end

section
/-! PROOFS. The instruction cache keeps the memory in its form. -/

namespace Sys2Proof.Proofs

open Sys2Proof.Machine Sys2Proof.Laws

variable {d : Dev}

protected theorem Formed.cacheHit {a : Nat} (wf : Formed d) : Formed (cacheHit a d) := by
  unfold Machine.cacheHit
  extract_lets d1
  have w1 : Formed d1 := wf.same
  refine .ite w1 ?_
  split
  · exact w1.same
  · exact w1

protected theorem Formed.cacheInsert {a : Nat} {bs : List Nat} (wf : Formed d) : Formed (cacheInsert a bs d) := .ite wf.same.same wf

protected theorem Formed.lineArrives {a : Nat} {bs : List Nat} (wf : Formed d) : Formed (lineArrives a bs d) := wf.cacheInsert.same

protected theorem Formed.icInvalidate (wf : Formed d) : Formed (icInvalidate d) := wf.same.same

protected theorem Formed.icStatClear (wf : Formed d) : Formed (icStatClear d) := wf.same.same

end Sys2Proof.Proofs
end

section
/-! PROOFS. The pin engines' commands keep the memory in its form. -/

namespace Sys2Proof.Proofs

open Sys2Proof.Machine Sys2Proof.Laws

variable {d : Dev}

protected theorem Formed.engineTick {n pads : Nat} (wf : Formed d) : Formed (engineTick n pads d) := .ite wf.padsSampled.peTick wf.padsSampled

protected theorem Formed.peTimerExpiry {n pads : Nat} (wf : Formed d) : Formed (peTimerExpiry n pads d) := .ite wf.padsSampled.peTick wf.padsSampled

protected theorem Formed.engineStart {n : Nat} (wf : Formed d) : Formed (engineStart n d) := .ite wf wf.same.same.same.same.same.same

protected theorem Formed.engineStop {n : Nat} (wf : Formed d) : Formed (engineStop n d) := .ite wf.same.same wf

protected theorem Formed.peCtlWrite {n v : Nat} (wf : Formed d) : Formed (peCtlWrite n v d) :=
  .ite (.engineStart (.same (.same (.same (.ite wf.same wf))))) (.engineStop (.same (.same (.same (.ite wf.same wf)))))

protected theorem Formed.peConflicts (wf : Formed d) : Formed (peConflicts d) := wf.forAll (fun _ _ h => .ite h.same h)

protected theorem Formed.peRouted {n : Nat} {w : Dev → Dev} (wf : Formed d) (keeps : Keeps w) : Formed (peRouted n w d) :=
  (keeps _ wf).same.peConflicts

protected theorem Formed.peLutWrite {n j v : Nat} (wf : Formed d) : Formed (peLutWrite n j v d) := .ite wf.lockV wf.same

end Sys2Proof.Proofs
end

section
/-! PROOFS. The serial port keeps the memory in its form. -/

namespace Sys2Proof.Proofs

open Sys2Proof.Machine Sys2Proof.Laws

variable {d : Dev}

protected theorem Formed.xipRecheck (wf : Formed d) : Formed (xipRecheck d) := by
  unfold Machine.xipRecheck
  extract_lets bad _ d1
  have w1 : Formed d1 := wf.same
  split
  · exact w1
  · exact .ite w1 w1.same

protected theorem Formed.genOut {n : Nat} (wf : Formed d) : Formed (genOut n d) := (wf.forAll (fun _ _ h => h.dropPend)).same.same

protected theorem Formed.selOut {n : Nat} (wf : Formed d) : Formed (selOut n d) := wf.genOut.same.xipRecheck

protected theorem Formed.selReturn {n : Nat} (wf : Formed d) : Formed (selReturn n d) := wf.forAll (fun _ _ h => .ite h.addChange h)

protected theorem Formed.spSelWrite {n v : Nat} (wf : Formed d) : Formed (spSelWrite n v d) := by
  unfold Machine.spSelWrite
  extract_lets was d1 d2 d3 d4
  have w1 : Formed d1 := wf.same.same
  have w2 : Formed d2 := w1.same.same.same
  have w3 : Formed d3 := w2.same.same
  have w4 : Formed d4 := .ite w3.same w3
  exact .xipRecheck (.ite (.ite w4 w4.same.selReturn) (.ite w4.genOut w4))

protected theorem Formed.cqTake (wf : Formed d) : Formed (cqTake d) := by
  unfold Machine.cqTake
  extract_lets d1
  have w1 : Formed d1 := wf.same
  refine .same ?_
  split
  · exact .ite w1.same.same w1
  · exact w1

protected theorem Formed.runEnd {e : CqEntry} {brk : Bool} {t : Nat} (wf : Formed d) : Formed (runEnd e brk t d) :=
  .ite (.same (.ite wf.same.same.same wf.same.same)) (.ite wf.same.same.same wf.same.same)

protected theorem Formed.continueRun {e : CqEntry} {period t : Nat} (wf : Formed d) : Formed (continueRun e period t d) := by
  unfold Machine.continueRun
  split
  · exact wf
  · exact .ite wf.runEnd (.ite wf.cqTake.same wf)

protected theorem Formed.continueTimeout (wf : Formed d) : Formed (continueTimeout d) := by
  unfold Machine.continueTimeout
  split
  · exact wf
  · exact .ite wf.runEnd wf

protected theorem Formed.heldTry (wf : Formed d) : Formed (heldTry d) := by
  unfold Machine.heldTry
  split
  · exact wf
  · extract_lets d1
    have w1 : Formed d1 := wf.continueRun
    exact .ite wf (.ite wf (.ite w1.same.same w1))

protected theorem Formed.cqPush {ctrl : Nat} (wf : Formed d) : Formed (cqPush ctrl d) := by
  unfold Machine.cqPush
  extract_lets d1 e full
  have w1 : Formed d1 := wf.same.continueTimeout
  exact .ite (.same (.ite w1.same w1)) (.ite w1.same.same w1.same.heldTry)

protected theorem Formed.spRxdPop (wf : Formed d) : Formed (spRxdPop d) := by
  unfold Machine.spRxdPop
  extract_lets d1
  have w1 : Formed d1 := wf.continueTimeout
  split
  · exact w1.same
  · extract_lets d2
    have w2 : Formed d2 := w1.same
    exact w2.same.heldTry

protected theorem Formed.fetchFailed {f g : Nat} (wf : Formed d) : Formed (fetchFailed f g d) := by
  unfold Machine.fetchFailed
  split
  · exact wf
  · exact .ite wf.pageFetchFailed wf

protected theorem Formed.grantFetch {owner : Nat} {x : Fetch} (wf : Formed d) : Formed (grantFetch owner x d) := .ite wf.pageFetchFailed wf.same.same

protected theorem Formed.grantRun (wf : Formed d) : Formed (grantRun d) := by
  unfold Machine.grantRun
  split
  · exact wf
  · exact .ite wf.cqTake.same wf

protected theorem Formed.grantFourth (wf : Formed d) : Formed (grantFourth d) := by
  unfold Machine.grantFourth
  split
  · extract_lets d1
    have w1 : Formed d1 := wf.same
    exact w1.same
  · split
    · exact wf.same
    · exact wf.grantRun

protected theorem Formed.transferGrant (wf : Formed d) : Formed (transferGrant d) := by
  unfold Machine.transferGrant
  refine .ite wf ?_
  split
  · exact wf.grantFetch
  · exact .ite wf.grantFetch wf.same
  · exact wf.same
  · exact wf.grantFourth

protected theorem Formed.discNext (wf : Formed d) : Formed (discNext d) := by
  unfold Machine.discNext
  split
  · exact wf
  · split
    · exact wf.same.same
    · exact wf.same

protected theorem Formed.selGone {n : Nat} (wf : Formed d) : Formed (selGone n d) := wf.same.selOut

protected theorem Formed.discId {n : Nat} {bs : List Nat} (wf : Formed d) : Formed (discId n bs d) :=
  .ite (.discNext (.same (.same (.same (.ite wf.same.selGone wf.same))))) (.same (.same (.ite wf.same.selGone wf.same)))

protected theorem Formed.discHeader {n : Nat} {h : List Nat} (wf : Formed d) : Formed (discHeader n h d) := .ite wf.same.same wf.same.same.discNext

protected theorem Formed.discTable {n : Nat} {t : List Nat} (wf : Formed d) : Formed (discTable n t d) := wf.same.same.same.same.same.discNext

protected theorem Formed.discRead {n stage : Nat} {bs : List Nat} (wf : Formed d) : Formed (discRead n stage bs d) := by
  unfold Machine.discRead
  split
  · exact wf.discId
  · exact wf.discHeader
  · exact wf.discTable

protected theorem Formed.discoveryStart {mask wmax : Nat} (wf : Formed d) : Formed (discoveryStart mask wmax d) :=
  .ite wf (.ite wf.same.same wf.same.same.same)

protected theorem Formed.fillDone {a : Nat} {bs : List Nat} (wf : Formed d) : Formed (fillDone a bs d) := wf.lineArrives.same

protected theorem Formed.writeWaitTimeout {n : Nat} (wf : Formed d) : Formed (writeWaitTimeout n d) := by
  unfold Machine.writeWaitTimeout
  extract_lets d1 _
  have w1 : Formed d1 := wf.same.same.selOut
  split
  · exact wf
  · exact .ite wf (.ite w1.same w1)

protected theorem Formed.pollRead {n : Nat} {bs : List Nat} (wf : Formed d) : Formed (pollRead n bs d) := by
  unfold Machine.pollRead
  extract_lets d1 d2
  have w1 : Formed d1 := wf.writeWaitTimeout
  have w2 : Formed d2 := w1.same
  split
  · exact w1
  · exact .ite w1 (.ite w2.same.same w2)

protected theorem Formed.entryEnd {e : CqEntry} {period t : Nat} {bs : List Nat} (wf : Formed d) : Formed (entryEnd e period t bs d) :=
  .ite (.ite (.same (.ite wf.same wf)) (.continueRun (.same (.ite wf.same wf)))) (.runEnd (.ite wf.same wf))

protected theorem Formed.transferEnd {bs : List Nat} (wf : Formed d) : Formed (transferEnd bs d) := by
  unfold Machine.transferEnd
  split
  · exact wf
  · refine .ite wf ?_
    split
    · exact wf.pageArrival.same
    · exact .ite wf.same.fillDone wf.same
    · exact wf.same.discRead.xipRecheck
    · exact wf.same.pollRead
    · exact wf.entryEnd

protected theorem Formed.pageArrives {f g : Nat} {bs : List Nat} (wf : Formed d) : Formed (pageArrives f g bs d) := by
  unfold Machine.pageArrives
  split
  · exact .ite wf.pageArrival wf
  · exact wf

protected theorem Formed.xipFillDone {bs : List Nat} (wf : Formed d) : Formed (xipFillDone bs d) := by
  unfold Machine.xipFillDone
  split
  · split
    · exact .ite wf (.ite (.ite wf.fillDone wf) (.ite wf.same wf))
    · exact wf
  · exact wf

protected theorem Formed.pollDue {n : Nat} (wf : Formed d) : Formed (pollDue n d) := by
  unfold Machine.pollDue
  split
  · exact wf
  · extract_lets busy
    exact .ite wf wf.same

protected theorem Formed.spCtlWritten (wf : Formed d) : Formed (spCtlWritten d) := wf.continueTimeout.heldTry.xipRecheck

protected theorem Formed.ownRuns {l : List CqEntry} (wf : Formed d) : Formed (ownRuns l d) := wf.same.same.heldTry

protected theorem Formed.sssnFall (wf : Formed d) : Formed (sssnFall d) := .ite wf wf.same.same

protected theorem Formed.slavePacket {part : Bool} {bs : List Nat} {bits : Nat} (wf : Formed d) : Formed (slavePacket part bs bits d) := wf.qStage

protected theorem Formed.slaveFrame {bs : List Nat} {extra : Nat} (wf : Formed d) : Formed (slaveFrame bs extra d) := by
  unfold Machine.slaveFrame
  extract_lets bits d1 d2
  have w1 : Formed d1 := wf.same.same.same
  have w2 : Formed d2 := .ite w1 w1.same.same
  refine .ite wf.same ?_
  refine .ite w1.same ?_
  refine .ite w1 ?_
  exact .ite w1.same.same (.ite w1.same.same (.ite w2 w2.slavePacket))

protected theorem Formed.spStxWrite {b : Nat} (wf : Formed d) : Formed (spStxWrite b d) := .ite wf wf.same

protected theorem Formed.spScntClear (wf : Formed d) : Formed (spScntClear d) := wf.same.same

end Sys2Proof.Proofs
end

section
/-! PROOFS. The monitor's answers keep the memory in its form. -/

namespace Sys2Proof.Proofs

open Sys2Proof.Machine Sys2Proof.Laws

variable {d : Dev}

protected theorem Formed.sendBytes {path : Nat} {bs : List Nat} (wf : Formed d) : Formed (sendBytes path bs d) := .ite wf.same wf.same

protected theorem Formed.flushN {n : Nat} (wf : Formed d) : Formed (flushN n d) := by
  induction n generalizing d with
  | zero => exact wf
  | succ n ih =>
    unfold Machine.flushN
    split
    · exact wf
    · exact .ite wf (.ite (ih wf.same) (.ite (ih wf.same.sendBytes) wf))

protected theorem Formed.flushOut (wf : Formed d) : Formed (flushOut d) := wf.flushN

protected theorem Formed.queueOut {path member : Nat} {bs : List Nat} (wf : Formed d) : Formed (queueOut path member bs d) := wf.same.flushOut

protected theorem Formed.sendLine {c : Ctx} {text : List Nat} (wf : Formed d) : Formed (sendLine c text d) := wf.queueOut

protected theorem Formed.prompt {path : Nat} (wf : Formed d) : Formed (prompt path d) := .ite wf.queueOut wf

protected theorem Formed.sendEvent {text : List Nat} (wf : Formed d) : Formed (sendEvent text d) := wf.queueOut

protected theorem Formed.flushEventsN {n : Nat} (wf : Formed d) : Formed (flushEventsN n d) := by
  induction n generalizing d with
  | zero => exact wf
  | succ n ih =>
    unfold Machine.flushEventsN
    split
    · exact wf
    · exact .ite (ih (.ite wf.same wf.same.sendEvent)) wf

protected theorem Formed.flushEvents (wf : Formed d) : Formed (flushEvents d) := wf.flushEventsN

protected theorem Formed.holdEvent {text : List Nat} (wf : Formed d) : Formed (holdEvent text d) := .ite wf.same wf.same

protected theorem Formed.takeEvent {text : List Nat} (wf : Formed d) : Formed (takeEvent text d) := wf.holdEvent.flushEvents

protected theorem Formed.pumpOut (wf : Formed d) : Formed (pumpOut d) := .ite wf.flushOut.flushEvents wf

protected theorem Formed.monitorEvent {i : Nat} {ws : List (List Nat)} (wf : Formed d) : Formed (monitorEvent i ws d) := .ite wf.holdEvent.pumpOut wf

protected theorem Formed.respond {c : Ctx} {dataLines : List (List Nat)} {e : Nat} (wf : Formed d) : Formed (respond c dataLines e d) :=
  .flushEvents (.prompt (.sendLine (.foldl (.ite wf.same wf) (fun _ _ h => h.sendLine))))

protected theorem Formed.answerNow {dataLines : List (List Nat)} {e : Nat} (wf : Formed d) : Formed (answerNow dataLines e d) := by
  unfold Machine.answerNow
  split
  · exact wf.same.respond
  · exact wf

protected theorem Formed.finishVerb {dataLines : List (List Nat)} {e : Nat} (wf : Formed d) : Formed (finishVerb dataLines e d) :=
  .ite wf.answerNow wf.same

protected theorem Formed.byteLeft (wf : Formed d) : Formed (byteLeft d) := by
  unfold Machine.byteLeft
  split
  · exact wf.same
  · exact wf

protected theorem Formed.uartSend {ctsn : Bool} (wf : Formed d) : Formed (uartSend ctsn d) := .pumpOut (.ite wf.uartTransmit.byteLeft wf.uartTransmit)

end Sys2Proof.Proofs
end

section
/-! PROOFS. Clocks, power modes and quarantine keep the memory in its form. -/

namespace Sys2Proof.Proofs

open Sys2Proof.Machine Sys2Proof.Laws

variable {d : Dev}

protected theorem Formed.keepFields {old : Dev} {fs : List Fld} (wf : Formed d) : Formed (keepFields old fs d) := wf.foldl (fun _ _ h => h.same)

protected theorem Formed.baseReset {fs : List Fld} {ram : Bool} (wf : Formed d) : Formed (baseReset fs ram d) := by
  unfold Machine.baseReset
  extract_lets d1 heads
  have w1 : Formed d1 := wf.otReset
  refine .keepFields ?_
  cases ram
  · rfl
  · exact w1.filter

protected theorem Formed.ladderBegin {sample : Bool} (wf : Formed d) : Formed (ladderBegin sample d) := wf.same.same

protected theorem Formed.resetBy {m : Nat} (wf : Formed d) : Formed (resetBy m d) :=
  (wf.baseReset.foldl (fun _ _ h => .ite h.same h)).same.ladderBegin

protected theorem Formed.powerOnReset {also : Nat} (wf : Formed d) : Formed (powerOnReset also d) := wf.resetBy

protected theorem Formed.brownOutReset {also : Nat} (wf : Formed d) : Formed (brownOutReset also d) := wf.resetBy

protected theorem Formed.pinReset {also : Nat} (wf : Formed d) : Formed (pinReset also d) := wf.resetBy

protected theorem Formed.softReset {also : Nat} (wf : Formed d) : Formed (softReset also d) := .ite wf.resetBy.same wf.resetBy

protected theorem Formed.lockupReset (wf : Formed d) : Formed (lockupReset d) := wf.resetBy

protected theorem Formed.keyAbort (wf : Formed d) : Formed (keyAbort d) := by
  unfold Machine.keyAbort
  extract_lets d1
  have w1 : Formed d1 := by
    unfold d1
    split
    · exact .ite wf wf.same
    · exact wf
  exact w1.zeroKyBuf.kregClear

protected theorem Formed.otAbort (wf : Formed d) : Formed (otAbort d) := wf.same.same

protected theorem Formed.beadDue (wf : Formed d) : Formed (beadDue d) := .ite wf.same (.ite wf.same wf.same)

protected theorem Formed.tamperDetect {m : Nat} (wf : Formed d) : Formed (tamperDetect m d) := by
  unfold Machine.tamperDetect
  extract_lets onset d1 d2
  have w1 : Formed d1 := wf.forAll (fun _ _ h => h.same.same)
  have w2 : Formed d2 := w1.keyAbort.otAbort
  exact .ite w2.same.beadDue w2

protected theorem Formed.tamperEntry (wf : Formed d) : Formed (tamperEntry d) := wf.same.same.aimAt.same

protected theorem Formed.ledgerDrop (wf : Formed d) : Formed (ledgerDrop d) := wf.same.same

protected theorem Formed.enterQuarantine (wf : Formed d) : Formed (enterQuarantine d) :=
  wf.tamperEntry.lightOff.same.clearMem.clearMem.kregClear.same.ledgerDrop.same.same.same.monitorEvent

protected theorem Formed.powerAnswer {why : Nat} (wf : Formed d) : Formed (powerAnswer why d) := by
  unfold Machine.powerAnswer
  split
  · exact .ite wf.finishVerb wf.finishVerb
  · exact wf

protected theorem Formed.ladderRefuse {why : Nat} (wf : Formed d) : Formed (ladderRefuse why d) := wf.same.same.same.same.same.powerAnswer

protected theorem Formed.ladderRequest {t : Nat} (wf : Formed d) : Formed (ladderRequest t d) :=
  .ite wf (.ite wf.same.same.same.ladderRefuse wf.same.same.same.same)

protected theorem Formed.enterSleep {t : Nat} (wf : Formed d) : Formed (enterSleep t d) := by
  unfold Machine.enterSleep
  extract_lets d1 sent d2 d3 d4 d5 _ d6 d7
  have w1 : Formed d1 := wf.ringQuit
  have w2 : Formed d2 := w1.baseReset.same
  have w3 : Formed d3 := w1.same.same
  have w4 : Formed d4 := .ite w3.same w3
  have w5 : Formed d5 := .ite w4.same w4
  have w6 : Formed d6 := w5.same
  have w7 : Formed d7 := w6.same
  exact .ite w2.same (w7.forAll (fun _ _ h => h.same))

protected theorem Formed.quiesceTimeout (wf : Formed d) : Formed (quiesceTimeout d) := by
  unfold Machine.quiesceTimeout
  split
  · exact .ite wf.ladderRefuse wf
  · exact wf

protected theorem Formed.ladderEntry {irq : Bool} (wf : Formed d) : Formed (ladderEntry irq d) := by
  unfold Machine.ladderEntry
  split
  · exact wf
  · extract_lets d1
    have w1 : Formed d1 := .ite wf.same wf
    exact .ite wf.quiesceTimeout (.ite wf (.ite w1.ladderRefuse w1.enterSleep))

protected theorem Formed.holdEntry (wf : Formed d) : Formed (holdEntry d) := .ite wf.same.same wf

protected theorem Formed.holdExit (wf : Formed d) : Formed (holdExit d) := .ite wf.same wf

protected theorem Formed.resumeBlocks {dt : Nat} (wf : Formed d) : Formed (resumeBlocks dt d) := wf.same.same.same

protected theorem Formed.resumeTimers {dt : Nat} (wf : Formed d) : Formed (resumeTimers dt d) :=
  ((wf.resumeBlocks.same.same.forAll (fun _ _ h => h.same)).forAll (fun _ _ h => h.same)).same

protected theorem Formed.sleepCount (wf : Formed d) : Formed (sleepCount d) := wf.resumeTimers.same

protected theorem Formed.vsetApply (wf : Formed d) : Formed (vsetApply d) := wf.aimAt

protected theorem Formed.clocksResume (wf : Formed d) : Formed (clocksResume d) := wf.draw.draw.same

protected theorem Formed.leaveSleep {slip : ℤ} (wf : Formed d) : Formed (leaveSleep slip d) := by
  unfold Machine.leaveSleep
  extract_lets dt d1 d2 _ d3
  have w1 : Formed d1 := wf.same
  have w2 : Formed d2 := w1.same.clocksResume.resumeTimers
  have w3 : Formed d3 := w2.same.headsResume.vsetApply
  exact .ite w3.enterQuarantine w3.powerAnswer

protected theorem Formed.exitSleep (wf : Formed d) : Formed (exitSleep d) := by
  unfold Machine.exitSleep
  split
  · exact .ite wf.leaveSleep wf.same
  · exact wf.same
  · exact wf.same.ladderBegin
  · exact wf

protected theorem Formed.wake {m : Nat} (wf : Formed d) : Formed (wake m d) := by
  unfold Machine.wake
  extract_lets en motion d1 _ d2 d3 d4 d5
  have w1 : Formed d1 := wf.same
  have w2 : Formed d2 := .ite w1.same w1
  have w3 : Formed d3 := .ite w2.same w2
  have w4 : Formed d4 := .ite w3.same w3
  have w5 : Formed d5 := .ite w4.same w4
  split
  · exact .ite wf w5.exitSleep
  · exact .ite wf w5.exitSleep
  · exact .ite wf w5.exitSleep
  · exact wf.same
  · exact .ite wf.same wf
  · exact .ite wf.same wf
  · exact wf

protected theorem Formed.napMotionWake {n : Nat} (wf : Formed d) : Formed (napMotionWake n d) := .ite wf.same.exitSleep wf

protected theorem Formed.napRateWake {n : Nat} (wf : Formed d) : Formed (napRateWake n d) := .ite wf.same.same.exitSleep wf

protected theorem Formed.ckTltlRead (wf : Formed d) : Formed (ckTltlRead d) := wf.same.same

protected theorem Formed.tamperRespond (wf : Formed d) : Formed (tamperRespond d) := by
  unfold Machine.tamperRespond
  split
  · exact wf
  · exact wf
  · exact wf.same.exitSleep
  · exact wf.same.exitSleep
  · exact wf.same.exitSleep
  · exact .ite wf (.ite wf.lightOff.tamperEntry wf.enterQuarantine)
  · exact .ite wf (.ite wf.lightOff.tamperEntry wf.enterQuarantine)

protected theorem Formed.xclkHalt (wf : Formed d) : Formed (xclkHalt d) := by
  unfold Machine.xclkHalt
  extract_lets d1 d2 d3
  have w1 : Formed d1 := .ite wf.sleepCount wf
  have w2 : Formed d2 := w1.same.same
  have w3 : Formed d3 := .ite w2.same w2
  exact .ite w3.same w3

protected theorem Formed.alarm {m : Nat} (wf : Formed d) : Formed (alarm m d) := .ite wf.tamperDetect.tamperRespond.same wf.tamperDetect.tamperRespond

protected theorem Formed.tamperAlarm {m : Nat} (wf : Formed d) : Formed (tamperAlarm m d) := .ite (.ite wf.xclkHalt wf) (.alarm (.ite wf.xclkHalt wf))

protected theorem Formed.xclkStop (wf : Formed d) : Formed (xclkStop d) := wf.tamperAlarm

protected theorem Formed.xclkReturn (wf : Formed d) : Formed (xclkReturn d) := by
  unfold Machine.xclkReturn
  extract_lets d1 d2 d3
  have w1 : Formed d1 := .ite wf.sleepCount wf
  have w2 : Formed d2 := w1.same.same.clrBit
  have w3 : Formed d3 := w2.same
  exact .ite wf (.ite w2 (.ite w3.flushOut.flushEvents w3.enterQuarantine))

protected theorem Formed.tamperEnd {m : Nat} (wf : Formed d) : Formed (tamperEnd m d) := wf.forAll (fun _ _ h => h.clrBit)

protected theorem Formed.tamperAlarmClear (wf : Formed d) : Formed (tamperAlarmClear d) := wf.tamperEnd

protected theorem Formed.tamperFound {m : Nat} (wf : Formed d) : Formed (tamperFound m d) := wf.tamperAlarm.tamperEnd

protected theorem Formed.jtagInstructionUpdate {ir : Nat} (wf : Formed d) : Formed (jtagInstructionUpdate ir d) :=
  .ite wf (.ite wf.jtagLoad.tamperAlarm wf.jtagLoad)

protected theorem Formed.xclkValid (wf : Formed d) : Formed (xclkValid d) := .ite wf.same.same (.ite (.same (.same (.ite wf wf.sleepCount))) wf)

protected theorem Formed.bootLatch {sel : Bool} (wf : Formed d) : Formed (bootLatch sel d) := .same (.ite wf.same wf)

protected theorem Formed.pllLock {sel : Bool} (wf : Formed d) : Formed (pllLock sel d) := by
  unfold Machine.pllLock
  extract_lets d1 d2 d3 napped d4
  have w1 : Formed d1 := wf.same
  have w2 : Formed d2 := w1.same
  have w3 : Formed d3 := w2.same.headsResume
  have w4 : Formed d4 := wf.same.same.same
  split
  · exact .ite (.ite w3.same w3.bootLatch) wf
  · exact .ite wf.draw.same.leaveSleep wf
  · exact .ite wf (.ite w4 w4.same)
  · exact .ite wf (.ite w4 w4.same)
  · exact wf

protected theorem Formed.resetnRelease {sel : Bool} (wf : Formed d) : Formed (resetnRelease sel d) := .ite wf.same.bootLatch wf.same

protected theorem Formed.ckRecord {cause arg : Nat} (wf : Formed d) : Formed (ckRecord cause arg d) := .ite wf.evRecord wf

protected theorem Formed.pllUnlock (wf : Formed d) : Formed (pllUnlock d) := .ite wf wf.same.same.endAllLight.releaseLines.cancelAll.ckRecord.same

protected theorem Formed.ringClockLoss (wf : Formed d) : Formed (ringClockLoss d) := .ite wf.same.same.same.same.ckRecord wf.same

protected theorem Formed.holdoverEnd (wf : Formed d) : Formed (holdoverEnd d) := by
  unfold Machine.holdoverEnd
  split
  · exact .ite wf.same.same.same.same wf
  · exact wf

protected theorem Formed.ckRootSelWrite {v : Nat} (wf : Formed d) : Formed (ckRootSelWrite v d) := .ite wf wf.same.same.same

end Sys2Proof.Proofs
end

section
/-! PROOFS. The resets and the reset ladder keep the memory in its form. -/

namespace Sys2Proof.Proofs

open Sys2Proof.Machine Sys2Proof.Laws

variable {d : Dev}

protected theorem Formed.openHost (wf : Formed d) : Formed (openHost d) := .ite wf.same.same.same (.ite wf.same.same.same wf.same)

protected theorem Formed.otpSenseDone {ok : Bool} {alarms : Nat} (wf : Formed d) : Formed (otpSenseDone ok alarms d) := by
  unfold Machine.otpSenseDone
  extract_lets d1 d2 d3 d4
  have w1 : Formed d1 := .ite wf.senseAll.same.countRegs.same wf.same.same.same
  have w2 : Formed d2 := .ite w1 w1.tamperDetect
  have w3 : Formed d3 := w2.clearMem.clearMem
  have w4 : Formed d4 := w3.same.openHost
  exact .ite wf (.ite w4.enterQuarantine w4)

protected theorem Formed.autobaudCharacter {t c : Nat} {stop : Bool} (wf : Formed d) : Formed (autobaudCharacter t c stop d) :=
  .ite wf (.ite wf.same.same.same.same.queueOut.prompt wf.same)

protected theorem Formed.loadEmpty (wf : Formed d) : Formed (loadEmpty d) := wf.same.same.same

protected theorem Formed.loadCount {n : Nat} (wf : Formed d) : Formed (loadCount n d) := wf.same.same

protected theorem Formed.loadChunk {o : Nat} {bs : List Nat} (wf : Formed d) : Formed ((loadChunk o bs d).2) :=
  .iteSnd (.iteSnd wf.same.loadCount (.iteSnd wf.loadEmpty (.iteSnd wf wf.same.storeBytes.loadCount))) (.iteSnd wf wf)

protected theorem Formed.startFail {e : Nat} (wf : Formed d) : Formed (startFail e d) := wf.clearMem.kregClear.loadEmpty.finishVerb

protected theorem Formed.guardSet {n lo hi : Nat} (wf : Formed d) : Formed (guardSet n lo hi d) := wf.same.same.same.same.same.same

protected theorem Formed.guardStart (wf : Formed d) : Formed (guardStart d) := wf.guardSet.guardSet.guardSet.guardSet.same.same

protected theorem Formed.enterImage (wf : Formed d) : Formed (enterImage d) := wf.same.same.same.aimAt.same

protected theorem Formed.startEnd (wf : Formed d) : Formed (startEnd d) :=
  .enterImage (.finishVerb (.guardStart (.same (.same (.same (.same (.ite wf.clearMem wf)))))))

protected theorem Formed.startBeads (wf : Formed d) : Formed (startBeads d) := .ite wf.otAsk wf.startEnd

protected theorem Formed.startRun {c : Ctx} {advance : Bool} (wf : Formed d) : Formed (startRun c advance d) := by
  unfold Machine.startRun
  extract_lets d1 h n ct key iv
  have w1 : Formed d1 := wf.same.same
  refine .ite w1.startFail ?_
  refine .ite w1.startFail ?_
  exact .ite w1.startFail w1.storeBytes.kregClear.startBeads

protected theorem Formed.startGoesOn {e : Nat} (wf : Formed d) : Formed (startGoesOn e d) := .ite wf.startBeads wf.startFail

end Sys2Proof.Proofs
end

section
/-! PROOFS. Register reads and writes keep the memory in its form. -/

namespace Sys2Proof.Proofs

open Sys2Proof.Machine Sys2Proof.Laws

variable {d : Dev}

protected theorem Formed.throttle {tick : Bool} (wf : Formed d) : Formed (throttle tick d) := .ite wf.same.aimAt wf.same.aimAt

protected theorem Formed.throttleTick (wf : Formed d) : Formed (throttleTick d) := .ite wf.throttle wf

protected theorem Formed.demandChange (wf : Formed d) : Formed (demandChange d) := wf.throttle

protected theorem Formed.vsetWrite {v : Nat} (wf : Formed d) : Formed (vsetWrite v d) :=
  .ite (wf.foldl (fun _ _ h => h.same)) (wf.foldl (fun _ _ h => h.same)).throttle.same

protected theorem Formed.vcaSettled (wf : Formed d) : Formed (vcaSettled d) := wf.same.same

protected theorem Formed.fieldWrite {v : Nat} {f : Fld} (wf : Formed d) : Formed (fieldWrite v f d) := by
  unfold Machine.fieldWrite
  extract_lets x
  split
  · exact wf.same
  · exact wf.same
  · exact wf.same
  · exact wf.same
  · exact wf
  · exact wf

protected theorem Formed.plainWrite {a v : Nat} (wf : Formed d) : Formed (plainWrite a v d) := wf.foldl (fun _ _ h => h.fieldWrite)

protected theorem Formed.ckWrite {a v : Nat} (wf : Formed d) : Formed (ckWrite a v d) := by
  unfold Machine.ckWrite
  extract_lets d1 q
  have w1 : Formed d1 := wf.same
  split
  · exact .ite wf.lockV wf.plainWrite
  · exact wf.ckRootSelWrite
  · exact .ite w1 w1.same
  · exact wf.plainWrite

protected theorem Formed.sysWrite {a v : Nat} (wf : Formed d) : Formed (sysWrite a v d) := .ite (.ite wf.softReset wf) wf.plainWrite

protected theorem Formed.otWrite {a v : Nat} (wf : Formed d) : Formed (otWrite a v d) := by
  unfold Machine.otWrite
  split
  · exact wf.otCommand
  · exact .ite wf.same wf.plainWrite
  · exact .ite wf.same wf.plainWrite
  · exact wf.plainWrite

protected theorem Formed.kyWrite {a v : Nat} (wf : Formed d) : Formed (kyWrite a v d) :=
  .ite wf.kyCommand (.ite wf.plainWrite (.ite (.ite wf wf.same) wf.plainWrite))

protected theorem Formed.quWrite {i : Fin 2} {a v : Nat} (wf : Formed d) : Formed (quWrite i a v d) := by
  unfold Machine.quWrite
  split
  · exact wf.qBefore (fun _ h => h.plainWrite.qSettle)
  · exact wf.plainWrite.qSettle
  · exact wf.qCmdWrite
  · exact wf.qnLostClear
  · exact wf.plainWrite

protected theorem Formed.uaWrite {a v : Nat} (wf : Formed d) : Formed (uaWrite a v d) := by
  unfold Machine.uaWrite
  extract_lets d1
  have w1 : Formed d1 := wf.plainWrite
  split
  · exact wf.plainWrite.uaCtlWritten
  · exact .ite w1.same w1
  · exact wf.uaTxWrite
  · exact wf.plainWrite

protected theorem Formed.spWrite {a v : Nat} (wf : Formed d) : Formed (spWrite a v d) := by
  unfold Machine.spWrite
  extract_lets o
  refine .ite wf.plainWrite.spCtlWritten ?_
  refine .ite wf.cqPush ?_
  refine .ite wf.discoveryStart ?_
  exact .ite wf.spSelWrite (.ite wf.plainWrite.xipRecheck wf.plainWrite)

protected theorem Formed.slaveWrite {a v : Nat} (wf : Formed d) : Formed (slaveWrite a v d) := by
  unfold Machine.slaveWrite
  split
  · exact wf.spScntClear
  · exact wf.spStxWrite
  · exact wf.plainWrite

protected theorem Formed.peWrite {a v : Nat} (wf : Formed d) : Formed (peWrite a v d) := by
  unfold Machine.peWrite
  extract_lets o n
  refine .ite wf.peLutWrite ?_
  refine .ite wf.plainWrite ?_
  split
  · exact wf.peCtlWrite
  · exact wf.same
  · exact wf.plainWrite
  · refine .ite wf.lockV ?_
    exact .ite (wf.peRouted (fun _ h => h.plainWrite)) wf.plainWrite

protected theorem Formed.enWrite {a v : Nat} (wf : Formed d) : Formed (enWrite a v d) := by
  unfold Machine.enWrite
  extract_lets o n
  refine .ite wf.plainWrite ?_
  split
  · exact .ite wf.positionLoad wf
  · exact wf.enCntClear
  · exact wf.plainWrite

protected theorem Formed.swWrite {a v : Nat} (wf : Formed d) : Formed (swWrite a v d) :=
  .ite wf.fcmdWrite (.ite wf.swCountClear (.ite wf.same wf.plainWrite))

protected theorem Formed.drWrite {a v : Nat} (wf : Formed d) : Formed (drWrite a v d) := .ite wf.same wf.plainWrite

protected theorem Formed.grWrite {a v : Nat} (wf : Formed d) : Formed (grWrite a v d) := by
  unfold Machine.grWrite
  split
  · exact wf.plainWrite.gleaner
  · exact wf.grPteWrite
  · exact wf.grCmd
  · exact wf.grCntClear
  · exact wf.plainWrite

protected theorem Formed.furrowWrite {a v : Nat} (wf : Formed d) : Formed (furrowWrite a v d) := .ite wf.furrowConfigWrite wf

protected theorem Formed.ldWrite {a v : Nat} (wf : Formed d) : Formed (ldWrite a v d) :=
  .ite (.ite wf.bCmdWrite (.ite wf.spread wf.plainWrite)) (.ite wf.plainWrite.same wf.plainWrite)

protected theorem Formed.chWrite {a v : Nat} (wf : Formed d) : Formed (chWrite a v d) := by
  unfold Machine.chWrite
  extract_lets c
  refine .ite wf ?_
  split
  · exact wf.spread
  · exact wf.chCmdWrite
  · exact wf.chCntClear
  · exact wf

protected theorem Formed.bdWrite {a v : Nat} (wf : Formed d) : Formed (bdWrite a v d) :=
  .ite wf.spread (.ite wf.bdBcntClear (.ite wf.same wf.plainWrite))

protected theorem Formed.hpWrite {a v : Nat} (wf : Formed d) : Formed (hpWrite a v d) := by
  unfold Machine.hpWrite
  extract_lets o p
  refine .ite wf.plainWrite ?_
  split
  · exact wf.hpCtlWrite
  · exact wf.hpExptWrite
  · exact wf.hpCntClear
  · exact wf.hpXcntClear
  · exact wf.plainWrite

protected theorem Formed.srWrite {a v : Nat} (wf : Formed d) : Formed (srWrite a v d) := by
  unfold Machine.srWrite
  split
  · exact wf.srCtlWrite
  · exact wf.srCntClear
  · exact wf.plainWrite

protected theorem Formed.coreWrite {a v : Nat} (wf : Formed d) : Formed (coreWrite a v d) := by
  unfold Machine.coreWrite
  extract_lets o d1 d2 d3 _
  have w1 : Formed d1 := wf.same.same
  have w2 : Formed d2 := .ite w1.icInvalidate w1
  have w3 : Formed d3 := wf.same
  refine .ite (.ite w2.icStatClear w2) ?_
  refine .ite wf.vsetWrite ?_
  exact .ite (.ite wf.lockV (.ite w3.same wf)) (.ite wf.lockV wf.plainWrite)

protected theorem Formed.busWrite {a v : Nat} (wf : Formed d) : Formed (busWrite a v d) := by
  unfold Machine.busWrite
  split
  · exact wf.ckWrite
  · exact wf.sysWrite
  · exact wf.otWrite
  · exact wf.kyWrite
  · exact wf.plainWrite
  · exact wf.quWrite
  · exact wf.quWrite
  · exact wf.uaWrite
  · exact wf.spWrite
  · exact wf.slaveWrite
  · exact wf.peWrite
  · exact wf.enWrite
  · exact wf.swWrite
  · exact wf.drWrite
  · exact wf.grWrite
  · exact wf.ldWrite
  · exact wf.furrowWrite
  · exact wf.furrowWrite
  · exact wf.furrowWrite
  · exact wf.furrowWrite
  · exact wf.bdWrite
  · exact wf.hpWrite
  · exact wf.srWrite
  · exact wf.chWrite
  · exact wf.coreWrite
  · exact .ite wf.windowWrite wf

protected theorem Formed.vnowRead (wf : Formed d) : Formed (vnowRead d) := wf.draw.same

protected theorem Formed.busRead {a : Nat} (wf : Formed d) : Formed (busRead a d) := by
  unfold Machine.busRead
  extract_lets o d1
  have w1 : Formed d1 := wf.winSample
  refine .ite wf.ckTltlRead ?_
  refine .ite wf.spRxdPop ?_
  refine .ite wf.enPositionRead ?_
  refine .ite wf.enZcaptureRead ?_
  refine .ite wf.enRingPositionRead ?_
  refine .ite w1.same ?_
  refine .ite wf.vnowRead ?_
  refine .ite wf.same ?_
  refine .ite wf.same ?_
  refine .ite wf.same.same ?_
  refine .ite wf.same.same ?_
  exact .ite wf.same.same (.ite wf.windowRead (.ite wf.same wf.same))

end Sys2Proof.Proofs
end

section
/-! PROOFS. Register moves keep the memory in its form. -/

namespace Sys2Proof.Proofs

open Sys2Proof.Machine Sys2Proof.Laws

variable {d : Dev}

protected theorem Formed.setW {r : Nat} {v : Word} (wf : Formed d) : Formed (Dev.setW r v d) := .ite wf wf.same

end Sys2Proof.Proofs
end

section
/-! PROOFS. The core's instructions keep the memory in its form. -/

namespace Sys2Proof.Proofs

open Sys2Proof.Machine Sys2Proof.Laws

variable {d : Dev}

protected theorem Formed.nearLoad {n a : Nat} (wf : Formed d) : Formed (nearLoad d n a) := .ite wf.busRead.same wf.same

protected theorem Formed.wantLine {a : Nat} (wf : Formed d) : Formed (wantLine a d) := .ite wf wf.same

protected theorem Formed.reach {l : FarLoad} (wf : Formed d) : Formed (reach l d) := by
  unfold Machine.reach
  extract_lets d1 d2
  have w1 : Formed d1 := wf.same
  have w2 : Formed d2 := w1.busRead
  refine .ite w1.same ?_
  refine .ite ?_ (.ite w1.qPopFor (.ite w1.qPopFor w2.same))
  split
  · exact w1.same.cacheHit
  · exact w1.same.wantLine

protected theorem Formed.pump {n : Nat} (wf : Formed d) : Formed (pump n d) := by
  induction n generalizing d with
  | zero => exact wf
  | succ n ih =>
    unfold Machine.pump
    split
    · exact wf
    · exact .ite wf (ih wf.reach)

protected theorem Formed.writeBufferDrain (wf : Formed d) : Formed (writeBufferDrain d) := by
  unfold Machine.writeBufferDrain
  split
  · exact wf
  · extract_lets d1
    have w1 : Formed d1 := wf.same
    exact .ite w1.store (.ite (.pump (.ite w1.same w1.busWrite)) w1.busWrite)

protected theorem Formed.startHandler {e lv : Nat} (wf : Formed d) : Formed (startHandler e lv d) := by
  unfold Machine.startHandler
  split
  · exact wf.lockupReset
  · exact wf.same

protected theorem Formed.enterHandler {pc e lv : Nat} (wf : Formed d) : Formed (enterHandler pc e lv d) :=
  .ite wf.storeBytes.setW.startHandler wf.lockupReset

protected theorem Formed.raise {e pc : Nat} {addr : Option Nat} (wf : Formed d) : Formed (raise e pc addr d) := by
  unfold Machine.raise
  extract_lets d1 d2
  have w1 : Formed d1 := wf.same.same.same
  have w2 : Formed d2 := by
    unfold d2
    split
    · exact w1.same
    · exact w1
  exact .ite wf.lockupReset (.ite wf w2.enterHandler)

protected theorem Formed.busiEnter (wf : Formed d) : Formed (busiEnter d) := by
  unfold Machine.busiEnter
  split
  · exact wf
  · exact .ite wf wf.same.raise

protected theorem Formed.farLoadReturn (wf : Formed d) : Formed (farLoadReturn d) := by
  unfold Machine.farLoadReturn
  split
  · exact wf
  · exact wf.setW.same.pump.busiEnter

protected theorem Formed.interruptEntry (wf : Formed d) : Formed (interruptEntry d) := by
  unfold Machine.interruptEntry
  refine .ite ?_ wf
  split
  · exact wf
  · exact .ite wf wf.enterHandler

protected theorem Formed.loadFailed {l : Option Nat} (wf : Formed d) : Formed (loadFailed l d) := by
  unfold Machine.loadFailed
  split
  · exact wf
  · extract_lets dst
    exact wf.setW.same.pump

protected theorem Formed.busiReport (wf : Formed d) : Formed (busiReport d) := by
  unfold Machine.busiReport
  refine .ite ?_ wf
  split
  · exact wf
  · extract_lets d1
    have w1 : Formed d1 := wf.same.loadFailed
    exact .ite w1.lockupReset w1.busiEnter

protected theorem Formed.waitWake (wf : Formed d) : Formed (waitWake d) := .ite wf.same.same wf

protected theorem Formed.fetched (wf : Formed d) : Formed (fetched d) := .same (.ite wf.cacheHit wf)

protected theorem Formed.fetchMiss (wf : Formed d) : Formed (fetchMiss d) := .wantLine (.ite wf wf.same.same)

protected theorem Formed.fetch {act : Dev → Dev} (wf : Formed d) (keeps : Keeps act) : Formed (fetch act d) :=
  .ite wf (.ite wf.raise (.ite wf.raise (.ite (keeps _ wf.fetched) (.ite wf.fetchMiss wf.raise))))

protected theorem Formed.instr {regs : List Nat} {act : Dev → Dev} (wf : Formed d) (keeps : Keeps act) : Formed (instr regs act d) :=
  wf.fetch (fun _ h => .ite wf (keeps _ h))

protected theorem Formed.undef (wf : Formed d) : Formed (undef d) := wf.raise

protected theorem Formed.result {regs : List Nat} {t : Nat} {v : Dev → Word} {fl : Dev → Dev → Dev} (wf : Formed d) (keeps : ∀ e, Keeps (fl e)) :
    Formed (result regs t v fl d) :=
  wf.instr fun _ h => (keeps _ _ h).setW.same

protected theorem Formed.noFlags {e : Dev} (wf : Formed d) : Formed (noFlags e d) := wf

protected theorem Formed.aluRR {op : Word → Word → Word} {t a b : Nat} (wf : Formed d) : Formed (aluRR op t a b d) :=
  wf.result fun _ _ h => h.noFlags

protected theorem Formed.aluR {op : Word → Word} {t a : Nat} (wf : Formed d) : Formed (aluR op t a d) := wf.result fun _ _ h => h.noFlags

protected theorem Formed.aluAdd {regs : List Nat} {t a : Nat} {y : Dev → Word} {cin : Dev → Bool} (wf : Formed d) :
    Formed (aluAdd regs t a y cin d) :=
  wf.result fun _ _ h => h.same

protected theorem Formed.mulLong {op : Word → Word → Nat} {t u a b : Nat} (wf : Formed d) : Formed (mulLong op t u a b d) :=
  wf.instr (fun _ h => h.setW.setW.same)

protected theorem Formed.loadInstr {regs : List Nat} {ea : Dev → Nat} {n : Nat} {sgn : Bool} {t : Nat} (wf : Formed d) : Formed
    (loadInstr regs ea n sgn t d) :=
  wf.instr (fun _ h => .ite h.raise (.ite (.ite wf.same h.same.same.pump) h.nearLoad.setW.same))

protected theorem Formed.storeInstr {regs : List Nat} {ea : Dev → Nat} {n s : Nat} (wf : Formed d) : Formed (storeInstr regs ea n s d) :=
  wf.instr (fun _ h => .ite h.raise (.ite wf.same h.same.same))

protected theorem Formed.branch {cond : Nat} {disp : BitVec 22} (wf : Formed d) : Formed (branch cond disp d) :=
  wf.fetch (fun _ h => .ite h.undef (.ite h.same h.same))

protected theorem Formed.callTo {disp : BitVec 26} (wf : Formed d) : Formed (callTo disp d) := wf.instr (fun _ h => h.setW.same)

protected theorem Formed.jumpReg {link : Bool} {a : Nat} (wf : Formed d) : Formed (jumpReg link a d) :=
  wf.instr (fun _ h => .ite h.raise (.same (.ite h.setW h)))

protected theorem Formed.syncInstr (wf : Formed d) : Formed (syncInstr d) := wf.fetch (fun _ h => .ite h.same.same wf)

protected theorem Formed.waitInstr (wf : Formed d) : Formed (waitInstr d) :=
  wf.fetch (fun _ h => .waitWake (.ite h.same.same.ladderRequest h.same.same))

protected theorem Formed.unstack (wf : Formed d) : Formed (unstack d) := (wf.foldl (fun _ _ h => h.setW)).setW.same.same

protected theorem Formed.retiInstr (wf : Formed d) : Formed (retiInstr d) := by
  unfold Machine.retiInstr
  exact wf.instr (fun _ h => .ite h.undef (.ite h.lockupReset (by dsimp only; split; exacts [h.startHandler, .ite wf h.unstack])))

protected theorem Formed.brkInstr (wf : Formed d) : Formed (brkInstr d) := wf.fetch (fun _ h => .ite h.same.same h.raise)

protected theorem Formed.scratch {r : Nat} (wf : Formed d) : Formed (scratch r d) := wf.draw.setW

protected theorem Formed.results {r1 : Nat} {r2 : Option Nat} (wf : Formed d) : Formed (results r1 r2 d) := by
  unfold Machine.results
  extract_lets d1 d2
  have w1 : Formed d1 := wf.forAll (fun _ _ h => h.scratch)
  have w2 : Formed d2 := by
    unfold d2
    split
    · exact w1.setW
    · exact w1
  exact w2.setW

protected theorem Formed.drainAll {n : Nat} (wf : Formed d) : Formed (drainAll n d) := by
  induction n generalizing d with
  | zero => exact wf
  | succ n ih => exact ih wf.writeBufferDrain

protected theorem Formed.callm {n : Nat} {svc : Dev → Dev} (wf : Formed d) (keeps : Keeps svc) : Formed (callm n svc d) := by
  unfold Machine.callm
  exact wf.instr (fun _ h => .ite (.same (.same (.ite (keeps _ h.setW.same.same.same.drainAll) h.setW.same.same.same.drainAll)))
    (.ite (keeps _ h.setW.same.same.same.drainAll) h.setW.same.same.same.drainAll))

protected theorem Formed.setKyPath {bs : List Nat} (wf : Formed d) : Formed (setKyPath bs d) := wf.forAll (fun _ _ h => h.same)

protected theorem Formed.svcInfo (wf : Formed d) : Formed (svcInfo d) := wf.results

protected theorem Formed.svcKeygo (wf : Formed d) : Formed (svcKeygo d) :=
  .ite wf.results (.ite wf.results (.ite wf.results (.results (.kyCommand (.same (.setKyBuf (.ite wf wf.setKyPath)))))))

protected theorem Formed.svcKeyend (wf : Formed d) : Formed (svcKeyend d) := .ite wf.results (.ite wf.results wf.storeBytes.results)

protected theorem Formed.svcTamper (wf : Formed d) : Formed (svcTamper d) := wf.results

protected theorem Formed.svcUnused (wf : Formed d) : Formed (svcUnused d) := wf.results

protected theorem Formed.patternWindow {write : Bool} {o v : Nat} (wf : Formed d) :
    Formed (Machine.patternWindow write o v d) :=
  .ite wf.busWrite wf.busRead

end Sys2Proof.Proofs
end

section
/-! PROOFS. The ledger's commits and loads keep the memory in its form. -/

namespace Sys2Proof.Proofs

open Sys2Proof.Machine Sys2Proof.Laws

variable {d : Dev}

protected theorem Formed.readSlots {auto : Bool} {a b : List Nat} (wf : Formed d) : Formed (readSlots auto a b d) := wf.same.ownRuns

protected theorem Formed.ledgerEvent {s : Option Nat} {cause : String} {seq : Nat} (wf : Formed d) : Formed (ledgerEvent s cause seq d) :=
  wf.monitorEvent

protected theorem Formed.slotEvent {s : Nat} {t : List Nat} (wf : Formed d) : Formed (slotEvent s t d) := by
  unfold Machine.slotEvent
  split
  · exact wf.ledgerEvent
  · exact wf.ledgerEvent
  · exact wf

protected theorem Formed.selectSlots {a b : List Nat} (wf : Formed d) : Formed (selectSlots a b d) :=
  .ite wf.same.slotEvent.slotEvent.ledgerEvent wf.same.slotEvent.slotEvent

protected theorem Formed.selectNone (wf : Formed d) : Formed (selectNone d) := wf.same.ledgerEvent

protected theorem Formed.globalWrite {a v : Nat} (wf : Formed d) : Formed (globalWrite a v d) := .ite wf.same (.ite wf.same wf.busWrite)

protected theorem Formed.writeAll {as : List Nat} {r : Rec} {i : Nat} (wf : Formed d) : Formed (writeAll as r i d) := by
  induction as generalizing d i with
  | nil => exact wf
  | cons a as ih => exact ih wf.busWrite

protected theorem Formed.applyRecord {r : Rec} (wf : Formed d) : Formed (applyRecord d r) := by
  unfold Machine.applyRecord
  extract_lets d1
  have w1 : Formed d1 := wf.busWrite.busWrite
  split
  · exact wf.foldl (fun _ _ h => h.globalWrite)
  · exact w1.same
  · exact wf.writeAll
  · exact wf.writeAll
  · exact wf.busWrite.writeAll
  · exact (wf.forAll (fun _ _ h => h.ptePut)).writeAll
  · exact wf.foldl (fun _ _ h => h.ptePut)
  · exact wf.store.storeBytes
  · exact wf

protected theorem Formed.applyActions {rs : List Rec} (wf : Formed d) : Formed (applyActions rs d) := by
  unfold Machine.applyActions
  extract_lets d1 d2 d3
  have w1 : Formed d1 := wf.foldl (fun _ _ h => .ite (.ite h.bankOnCmd h.bankOffCmd) h)
  have w2 : Formed d2 := w1.foldl (fun _ _ h => .ite h.chanOffCmd h)
  have w3 : Formed d3 := w2.foldl (fun _ _ h => .ite (h.foldl (fun _ _ h => .ite h.grCmd h)) h)
  exact w3.foldl (fun _ _ h => .ite h.fcmdWrite h)

protected theorem Formed.applyRecords {rs : List Rec} (wf : Formed d) : Formed (applyRecords rs d) :=
  (wf.foldl fun _ _ wf => wf.applyRecord).applyActions

protected theorem Formed.ledgerAutoload {a b : List Nat} (wf : Formed d) : Formed (ledgerAutoload a b d) := by
  unfold Machine.ledgerAutoload
  extract_lets d1
  have w1 : Formed d1 := wf.same
  split
  · exact .ite wf.readSlots wf.same.selectNone
  · exact .ite wf w1.selectSlots.applyRecords

protected theorem Formed.loadStart {c : Ctx} {a b : List Nat} (wf : Formed d) : Formed (loadStart c a b d) := wf.same.readSlots

protected theorem Formed.ledgerLoaded {r : LedgerRead} (wf : Formed d) : Formed ((ledgerLoaded r d).2.2) := by
  unfold Machine.ledgerLoaded
  extract_lets d1 d2
  have w1 : Formed d1 := wf.same
  have w2 : Formed d2 := w1.selectSlots.applyRecords
  split
  · exact w1
  · exact w2

protected theorem Formed.saveStart {c : Ctx} (wf : Formed d) : Formed (saveStart c d) := wf.same.same

protected theorem Formed.commitFail {c : Commit} (wf : Formed d) : Formed (commitFail c d) := wf.same.finishVerb.ledgerEvent

protected theorem Formed.commitDone {c : Commit} (wf : Formed d) : Formed (commitDone c d) := wf.same.finishVerb

protected theorem Formed.ledgerCommitStep {good : Bool} {back : List Nat} (wf : Formed d) : Formed (ledgerCommitStep good back d) := by
  unfold Machine.ledgerCommitStep
  split
  · exact wf
  · refine .ite wf ?_
    refine .ite wf.commitFail ?_
    refine .ite wf ?_
    refine .ite wf.commitFail ?_
    split
    · exact wf.same.ownRuns
    · exact .ite wf.same.ownRuns (.ite wf.commitDone wf.commitFail)

end Sys2Proof.Proofs
end

section
/-! PROOFS. The ends of the light and key commands keep the memory in its form. -/

namespace Sys2Proof.Proofs

open Sys2Proof.Machine Sys2Proof.Laws

variable {d : Dev}

protected theorem Formed.marginLine {w : Nat} (wf : Formed d) : Formed ((marginLine w d).2) := wf.normalRead

protected theorem Formed.weakEvent {obj arg : Nat} {weak : Bool} (wf : Formed d) : Formed (weakEvent obj arg weak d) := .ite wf.monitorEvent wf

protected theorem Formed.otpVerbEnd {e : Nat} {cut weak : Bool} (wf : Formed d) : Formed (otpVerbEnd e cut weak d) := by
  unfold Machine.otpVerbEnd
  split
  · exact wf.startGoesOn
  · refine .ite wf.finishVerb.weakEvent ?_
    exact .ite wf.marginLine.finishVerb wf.finishVerb.weakEvent
  · exact wf

protected theorem Formed.latchDone {e : Nat} (wf : Formed d) : Formed (latchDone e d) := .ite wf.latchEnd.monitorEvent wf.latchEnd

protected theorem Formed.byVerb {act : Dev → Dev} (wf : Formed d) (keeps : Keeps act) : Formed (byVerb act d) := (keeps _ wf).same

protected theorem Formed.otTakeNext (wf : Formed d) : Formed (otTakeNext d) := by
  unfold Machine.otTakeNext
  split
  · exact .ite (wf.byVerb (fun _ h => h.otNext)) wf.otNext
  · exact wf.otNext

protected theorem Formed.otCommandDone (wf : Formed d) : Formed (otCommandDone d) := by
  unfold Machine.otCommandDone
  split
  · exact wf
  · extract_lets d1 e
    have w1 : Formed d1 := wf.otFinish
    refine .ite wf ?_
    refine .otTakeNext ?_
    split
    · exact w1.latchDone
    · exact w1.kyBurned
    · exact w1.otpVerbEnd
    · exact w1

protected theorem Formed.kyCommandDone (wf : Formed d) : Formed (kyCommandDone d) := by
  unfold Machine.kyCommandDone
  split
  · exact wf
  · extract_lets d1 e
    have w1 : Formed d1 := wf.kyFinish
    refine .ite wf ?_
    refine .ite ?_ w1
    split
    · exact w1.finishVerb.zeroKyBuf
    · exact w1.zeroKyBuf

end Sys2Proof.Proofs
end

section
/-! PROOFS. The verbs' handlers keep the memory in its form. -/

namespace Sys2Proof.Proofs

open Sys2Proof.Machine Sys2Proof.Laws

variable {d : Dev}

protected theorem Formed.okWith {ls : List (List Nat)} {c : Ctx} (wf : Formed d) : Formed (okWith ls c d) := wf.respond

protected theorem Formed.ok {c : Ctx} (wf : Formed d) : Formed (ok c d) := wf.respond

protected theorem Formed.er {e : Nat} {c : Ctx} (wf : Formed d) : Formed (er e c d) := wf.respond

protected theorem Formed.editField {f : Fld} {v : Nat} (wf : Formed d) : Formed (editField f v d) := wf.busWrite

protected theorem Formed.doHello {c : Ctx} (wf : Formed d) : Formed (doHello c d) := wf.okWith

protected theorem Formed.doIdent {c : Ctx} (wf : Formed d) : Formed (doIdent c d) := wf.okWith

protected theorem Formed.countPairs {cs : List Nat} (wf : Formed d) : Formed (countPairs cs d).2 := by
  induction cs generalizing d with
  | nil => exact wf
  | cons c cs ih => exact ih wf.displayCount

protected theorem Formed.beadsLine (wf : Formed d) : Formed (beadsLine d).2 := by
  unfold Machine.beadsLine
  split
  next h =>
    split
    next k => exact (wf.countPairs.ofPair h).countPairs.ofPair k

protected theorem Formed.startedLines (wf : Formed d) : Formed (startedLines d).2 := wf.draw

protected theorem Formed.doStatus {c : Ctx} (wf : Formed d) : Formed (doStatus c d) := by
  unfold Machine.doStatus
  split
  next h =>
    have w1 := wf.beadsLine.ofPair h
    split
    next k =>
      refine .okWith (.ofPair ?_ k)
      split
      · exact w1.startedLines
      · exact w1

protected theorem Formed.doMode {machine : Bool} {c : Ctx} (wf : Formed d) : Formed (doMode machine c d) := .ite wf.ok.same (.ite wf.ok.same wf.ok)

protected theorem Formed.doLoad {c : Ctx} {off : Nat} {text : List Nat} (wf : Formed d) : Formed (doLoad c off text d) := by
  unfold Machine.doLoad
  split
  · exact .ite wf.er wf.loadChunk.respond
  · exact wf.er

protected theorem Formed.doLoadAbort {c : Ctx} (wf : Formed d) : Formed (doLoadAbort c d) := wf.loadEmpty.ok

protected theorem Formed.doStart {adv : Bool} {c : Ctx} (wf : Formed d) : Formed (doStart adv c d) := .ite wf.er wf.startRun

protected theorem Formed.okLeaves {dormant : Bool} {c : Ctx} (wf : Formed d) : Formed (okLeaves dormant c d) := wf.ok.same

protected theorem Formed.doPower {t : Nat} {c : Ctx} (wf : Formed d) : Formed (doPower t c d) :=
  .ite wf.respond (.ite wf.er (.ite wf.okLeaves wf.same.ladderRequest))

protected theorem Formed.doReset {c : Ctx} (wf : Formed d) : Formed (doReset c d) := wf.okLeaves

protected theorem Formed.dormantRequest (wf : Formed d) : Formed (dormantRequest d) := by
  unfold Machine.dormantRequest
  split
  · exact .ite wf.same.ladderRequest.flushEvents wf
  · exact wf

protected theorem Formed.resetByVerb {also : Nat} (wf : Formed d) : Formed (resetByVerb also d) := by
  unfold Machine.resetByVerb
  split
  · exact .ite wf.softReset wf
  · exact wf

end Sys2Proof.Proofs
end

section
/-! PROOFS. The light verbs' handlers keep the memory in its form. -/

namespace Sys2Proof.Proofs

open Sys2Proof.Machine Sys2Proof.Laws

variable {d : Dev}

protected theorem Formed.doFurrowSet {f : Nat} {c : Ctx} {a : Args} (wf : Formed d) : Formed (doFurrowSet f c a d) :=
  .ite wf.furrowConfigWrite.er wf.furrowWords.ok

protected theorem Formed.doFurrowOn {f : Nat} {c : Ctx} (wf : Formed d) : Formed (doFurrowOn f c d) := .ite wf.er wf.fcmdWrite.ok

protected theorem Formed.doFurrowOff {f : Nat} {c : Ctx} (wf : Formed d) : Formed (doFurrowOff f c d) := wf.fcmdWrite.ok

protected theorem Formed.doFurrowShow {f : Nat} {c : Ctx} (wf : Formed d) : Formed (doFurrowShow f c d) := wf.okWith

protected theorem Formed.doPageMap {c : Ctx} {a : Args} (wf : Formed d) : Formed (doPageMap c a d) := .ite wf.er wf.ptePut.ok

protected theorem Formed.doPageUnmap {c : Ctx} {a : Args} (wf : Formed d) : Formed (doPageUnmap c a d) := .ite wf.er wf.ptePut.ok

protected theorem Formed.doPagePin {c : Ctx} {a : Args} (wf : Formed d) : Formed (doPagePin c a d) :=
  .ite wf.er (.ite wf.er (.ite wf.ok (.ite wf.er (.ite wf.er (.ite wf.er wf.grCmd.ok)))))

protected theorem Formed.doPageUnpin {c : Ctx} {a : Args} (wf : Formed d) : Formed (doPageUnpin c a d) := .ite wf.er (.ite wf.er wf.grCmd.ok)

protected theorem Formed.doPageFetch {c : Ctx} {a : Args} (wf : Formed d) : Formed (doPageFetch c a d) :=
  .ite wf.er (.ite wf.er (.ite wf.er wf.grCmd.ok))

protected theorem Formed.doPageShow {c : Ctx} {a : Args} (wf : Formed d) : Formed (doPageShow c a d) := wf.okWith

protected theorem Formed.doChanSet {c : Ctx} {a : Args} (wf : Formed d) : Formed (doChanSet c a d) := .ok (.ite wf.writeLight wf)

protected theorem Formed.doChanShow {n : Nat} {c : Ctx} (wf : Formed d) : Formed (doChanShow n c d) := wf.okWith

protected theorem Formed.doBankSet {c : Ctx} {a : Args} (wf : Formed d) : Formed (doBankSet c a d) := by
  unfold Machine.doBankSet
  extract_lets b e
  have put {k : String} {f : Fld} {m : Nat} : Keeps (e k f m) := fun _ h => .ite h.writeLight h
  exact (put _ (put _ (put _ (put _ (put _ wf))))).ok

protected theorem Formed.doBankShow {b : Nat} {c : Ctx} (wf : Formed d) : Formed (doBankShow b c d) := wf.okWith

protected theorem Formed.doBankAim {c : Ctx} {a : Args} (wf : Formed d) : Formed (doBankAim c a d) := .ite wf.er wf.writeLight.ok

end Sys2Proof.Proofs
end

section
/-! PROOFS. The port verbs' handlers keep the memory in its form. -/

namespace Sys2Proof.Proofs

open Sys2Proof.Machine Sys2Proof.Laws

variable {d : Dev}

protected theorem Formed.otpAsk {c : Ctx} {obj arg : Nat} {q : OtReq} (wf : Formed d) : Formed (otpAsk c obj arg q d) :=
  wf.same.byVerb (fun _ h => h.otAsk)

protected theorem Formed.otpBurn {c : Ctx} {obj arg : Nat} {q : OtReq} (wf : Formed d) : Formed (otpBurn c obj arg q d) := .ite wf.er wf.otpAsk

protected theorem Formed.doOtpRead {c : Ctx} {a : Args} (wf : Formed d) : Formed (doOtpRead c a d) := wf.okWith

protected theorem Formed.keyAsk {c : Ctx} {code arg : Nat} {buf : List Nat} {confirm : Nat} (wf : Formed d) : Formed
    (keyAsk c code arg buf confirm d) :=
  .ite wf.er (wf.setKyBuf.same.same.byVerb (fun _ h => h.kyStart (fun _ h => h.kyRun)))

protected theorem Formed.doHeadSet {c : Ctx} {a : Args} (wf : Formed d) : Formed (doHeadSet c a d) :=
  .ok (.ite (.ite (.same (.ite wf.editField wf)) (.clrBit (.ite wf.editField wf))) (.ite wf.editField wf))

protected theorem Formed.doHeadOn {p : Nat} {c : Ctx} (wf : Formed d) : Formed (doHeadOn p c d) := .ite wf.er (.ite wf.ok wf.hpOn.same)

protected theorem Formed.doHeadHitch {p : Nat} {c : Ctx} (wf : Formed d) : Formed (doHeadHitch p c d) := .ite wf.er wf.hpHitch.same

protected theorem Formed.doHeadShow {p : Nat} {c : Ctx} (wf : Formed d) : Formed (doHeadShow p c d) := wf.okWith

protected theorem Formed.doRingUp {c : Ctx} (wf : Formed d) : Formed (doRingUp c d) := .ite wf.reqUp.same wf.reqUp.er

protected theorem Formed.ringAsk {req : Dev → Bool × Dev} {c : Ctx} (wf : Formed d) (keeps : ∀ d, Formed d → Formed (req d).2) :
    Formed (ringAsk req c d) :=
  .ite (keeps _ wf).ok (keeps _ wf).er

protected theorem Formed.doRingShow {c : Ctx} (wf : Formed d) : Formed (doRingShow c d) := wf.okWith

protected theorem Formed.doEncSet {c : Ctx} {a : Args} (wf : Formed d) : Formed (doEncSet c a d) := by
  unfold Machine.doEncSet
  extract_lets e put d1 d2
  have edited {k : String} {f : Fld} : Keeps (put k f) := fun _ h => .ite h.editField h
  have w1 : Formed d1 := edited _ (edited _ (edited _ wf))
  have w2 : Formed d2 := .ite w1.same w1
  exact w2.ok

protected theorem Formed.doEncZero {c : Ctx} {a : Args} (wf : Formed d) : Formed (doEncZero c a d) := .ite wf.er wf.same.same.positionLoad.ok

protected theorem Formed.doEncShow {e : Nat} {c : Ctx} (wf : Formed d) : Formed (doEncShow e c d) := wf.okWith

protected theorem Formed.doLedgerSave {c : Ctx} (wf : Formed d) : Formed (doLedgerSave c d) := .ite wf.er wf.saveStart

protected theorem Formed.doLedgerLoad {a b : List Nat} {c : Ctx} (wf : Formed d) : Formed (doLedgerLoad a b c d) := .ite wf.er wf.loadStart

protected theorem Formed.doTrace {on : Bool} {is : List Nat} {c : Ctx} (wf : Formed d) : Formed (doTrace on is c d) := wf.same.ok

protected theorem Formed.doTraceShow {c : Ctx} (wf : Formed d) : Formed (doTraceShow c d) := wf.okWith

end Sys2Proof.Proofs
end

section
/-! PROOFS. The interpreter's lines, chunks and calls keep the memory in its form. -/

namespace Sys2Proof.Proofs

open Sys2Proof.Machine Sys2Proof.Laws

variable {d : Dev}

/-- What the handler does leaves a memory in its form. -/
def HandlerKeeps (h : Handler) : Prop := ∀ c a, Keeps (h.act c a)

/-- The handler that is found, if one is, leaves a memory in its form. -/
def Found (o : Option Handler) : Prop := ∀ h, o = some h → HandlerKeeps h

protected theorem Found.none : Found none := fun _ h => nomatch h

protected theorem Found.some {h : Handler} (keeps : HandlerKeeps h) : Found (some h) := fun _ e => by cases e; exact keeps

protected theorem Found.plain {t : Toks} {act : Ctx → Dev → Dev} (keeps : ∀ c, Keeps (act c)) : Found (some (plainHandler t act)) :=
  .some fun c _ => keeps c

protected theorem Found.ite {c : Prop} {inst : Decidable c} {x y : Option Handler} (hx : Found x) (hy : Found y) : Found (@ite _ c inst x y) := by
  by_cases h : c
  · rwa [if_pos h]
  · rwa [if_neg h]

protected theorem Found.map {α : Type} {o : Option α} {t : Toks} {act : α → Ctx → Dev → Dev} (keeps : ∀ x c, Keeps (act x c)) :
    Found (o.map fun x => plainHandler t (act x)) := by
  cases o with
  | none => exact .none
  | some x => exact .plain (keeps x)

theorem found_pageHandler {t : Toks} : Found (pageHandler t) := by
  unfold pageHandler
  split
  · exact .none
  · exact .ite (.some fun _ _ _ h => h.doPageMap) <| .ite (.some fun _ _ _ h => h.doPageUnmap) <| .ite (.some fun _ _ _ h => h.doPagePin) <|
      .ite (.some fun _ _ _ h => h.doPageUnpin) <| .ite (.some fun _ _ _ h => h.doPageFetch) <|
      .ite (.some fun _ _ _ h => h.doPageShow) .none

theorem found_furrowHandler {t : Toks} : Found (furrowHandler d t) := by
  unfold furrowHandler
  split
  · exact .none
  · exact .ite (.some fun _ _ _ h => h.doFurrowSet) <| .ite (.some fun _ _ _ h => h.doFurrowOn) <|
      .ite (.some fun _ _ _ h => h.doFurrowOff) <| .ite (.some fun _ _ _ h => h.doFurrowShow) .none

theorem found_chanHandler {t : Toks} : Found (chanHandler t) := by
  unfold chanHandler
  split
  · exact .none
  · exact .ite (.some fun _ _ _ h => h.doChanSet) <| .ite (.some fun _ _ _ h => h.chanOnCmd.ok) <|
      .ite (.some fun _ _ _ h => h.chanOffCmd.ok) <| .ite (.some fun _ _ _ h => h.doChanShow) .none

theorem found_bankHandler {t : Toks} : Found (bankHandler t) := by
  unfold bankHandler
  split
  · exact .none
  · exact .ite (.some fun _ _ _ h => h.doBankSet) <| .ite (.some fun _ _ _ h => h.bankOnCmd.ok) <|
      .ite (.some fun _ _ _ h => h.bankOffCmd.ok) <| .ite (.some fun _ _ _ h => h.doBankShow) <|
      .ite (.some fun _ _ _ h => h.doBankAim) .none

theorem found_otpHandler {t : Toks} : Found (otpHandler t) := by
  unfold otpHandler
  split
  · exact .none
  · exact .ite (.some fun _ _ _ h => h.doOtpRead) <| .ite (.some fun _ _ _ h => h.otpAsk) <| .ite (.some fun _ _ _ h => h.otpAsk) <|
      .ite (.some fun _ _ _ h => h.otpBurn) <| .ite (.some fun _ _ _ h => h.otpBurn) <| .ite (.some fun _ _ _ h => h.otpBurn) <|
      .ite (.some fun _ _ _ h => h.otpBurn) <| .ite (.some fun _ _ _ h => h.otpAsk) .none

theorem found_keyHandler {t : Toks} : Found (keyHandler t) := by
  unfold keyHandler
  split
  · exact .none
  · exact .ite (.some fun _ _ _ h => h.keyAsk) <| .ite (.some fun _ _ _ h => h.keyAsk) <| .ite (.some fun _ _ _ h => h.keyAsk) <|
      .ite (.some fun _ _ _ h => h.keyAsk) <| .ite (.some fun _ _ _ h => h.keyAsk) <| .ite (.some fun _ _ _ h => h.keyAsk) .none

theorem found_headHandler {t : Toks} : Found (headHandler t) := by
  unfold headHandler
  split
  · exact .none
  · exact .ite (.some fun _ _ _ h => h.doHeadSet) <| .ite (.some fun _ _ _ h => h.doHeadOn) <| .ite (.some fun _ _ _ h => h.hpOff.ok) <|
      .ite (.some fun _ _ _ h => h.doHeadHitch) <| .ite (.some fun _ _ _ h => h.doHeadShow) .none

theorem found_ringHandler {t : Toks} : Found (ringHandler t) := by
  unfold ringHandler
  split
  · exact .none
  · exact .ite (.plain fun _ _ h => h.doRingUp) <| .ite (.plain fun _ _ h => h.ringAsk fun _ h => h.reqDown) <|
      .ite (.plain fun _ _ h => h.ringAsk fun _ h => h.reqJoin) <| .ite (.plain fun _ _ h => h.ringAsk fun _ h => h.reqLeave) <|
      .ite (.plain fun _ _ h => h.doRingShow) .none

theorem found_encHandler {t : Toks} : Found (encHandler d t) := by
  unfold encHandler
  split
  · exact .none
  · exact .ite (.some fun _ _ _ h => h.doEncSet) (.ite (.some fun _ _ _ h => h.doEncZero) (.ite (.some fun _ _ _ h => h.doEncShow) .none))

theorem found_ledgerHandler {a b : List Nat} {t : Toks} : Found (ledgerHandler a b t) := by
  unfold ledgerHandler
  split
  · exact .none
  · exact .ite (.plain fun _ _ h => h.okWith) (.ite (.plain fun _ _ h => h.doLedgerSave) (.ite (.plain fun _ _ h => h.doLedgerLoad) .none))

theorem found_traceHandler {t : Toks} : Found (traceHandler t) := by
  unfold traceHandler
  split
  · exact .none
  · exact .ite (.map fun _ _ _ h => h.doTrace) (.ite (.map fun _ _ _ h => h.doTrace) (.ite (.ite (.plain fun _ _ h => h.doTraceShow) .none) .none))

theorem found_modeHandler {t : Toks} : Found (modeHandler t) := by
  unfold modeHandler
  split
  · exact .ite (.plain fun _ _ h => h.doMode) (.ite (.plain fun _ _ h => h.doMode) .none)
  · exact .none

theorem found_loadHandler {t : Toks} : Found (loadHandler t) := by
  unfold loadHandler
  split
  · exact .some fun _ _ _ h => h.doLoad
  · exact .ite (.plain fun _ _ h => h.doLoadAbort) .none
  · exact .none

theorem found_startHandler {t : Toks} : Found (startHandler' t) := by
  unfold startHandler'
  split
  · exact .plain fun _ _ h => h.doStart
  · exact .ite (.plain fun _ _ h => h.doStart) .none
  · exact .none

theorem found_powerHandler {t : Toks} : Found (powerHandler t) := by
  unfold powerHandler
  split
  · exact .map fun _ _ _ h => h.doPower
  · exact .none

theorem found_getHandler {t : Toks} : Found (getHandler t) := by
  unfold getHandler
  split
  · exact .ite (.plain fun _ _ h => h.okWith) (.map fun _ _ _ h => h.okWith)
  · exact .none

theorem found_setHandler {t : Toks} : Found (some (setHandler t)) := by
  refine .some fun c a d wf => ?_
  unfold setHandler
  dsimp only
  split
  · exact wf.editField.ok
  · exact wf.er

theorem found_handlerOf {a b : List Nat} {v : Nat} {t : Toks} : Found (handlerOf d a b v t) := by
  unfold handlerOf
  split
  · exact .plain fun _ _ h => h.doHello
  · exact .plain fun _ _ h => h.doIdent
  · exact .plain fun _ _ h => h.doStatus
  · exact found_modeHandler
  · exact found_loadHandler
  · exact found_startHandler
  · exact found_otpHandler
  · exact found_powerHandler
  · exact .plain fun _ _ h => h.doReset
  · exact found_setHandler
  · exact found_getHandler
  · exact found_furrowHandler
  · exact found_pageHandler
  · exact found_chanHandler
  · exact found_bankHandler
  · exact found_headHandler
  · exact found_ringHandler
  · exact found_encHandler
  · exact found_ledgerHandler
  · exact found_keyHandler
  · exact found_traceHandler
  · exact .none

protected theorem Formed.runBuiltin {c : Ctx} {a b : List Nat} {v : Nat} {t : Toks} (wf : Formed d) : Formed (runBuiltin c a b v t d) := by
  unfold Machine.runBuiltin
  dsimp only
  refine .ite wf.er (.ite wf.er ?_)
  split
  · exact wf.er
  next k found => exact .ite wf.er (.ite wf.er (wf.same.byVerb (found_handlerOf k found _ _)))

protected theorem Formed.openVerb {c : Ctx} {i : Nat} (wf : Formed d) : Formed (openVerb c i d) := wf.same.same

protected theorem Formed.runLine {c : Ctx} {a b text : List Nat} (wf : Formed d) : Formed (runLine c a b text d).2 := by
  unfold Machine.runLine
  extract_lets out
  split
  · exact wf.er
  · exact .ite wf.prompt wf.ok
  · split
    · exact wf.er
    · split
      · exact wf.er
      · split
        · exact wf.er
        · split
          · exact wf.er
          · exact wf.openVerb
        · exact wf.runBuiltin

protected theorem Formed.forwardLine {c : Ctx} {machine : Bool} {n : Nat} {whole : List Nat} (wf : Formed d) : Formed
    (forwardLine c machine n whole d) :=
  wf.same.same.same

protected theorem Formed.prefixCheck {c : Ctx} {machine : Bool} {a b whole body : List Nat} (wf : Formed d) : Formed
    ((prefixCheck c machine a b whole body d).2) :=
  .iteSnd wf.runLine (.iteSnd wf.er (.iteSnd wf.er (.iteSnd wf.runLine (.iteSnd wf.er wf.forwardLine))))

protected theorem Formed.checkLine {c : Ctx} {a b text : List Nat} {broken lost long bad : Bool} (wf : Formed d) :
    Formed (checkLine c a b text broken lost long bad d).2 := by
  unfold Machine.checkLine
  extract_lets machine c fail
  split
  · exact wf.er
  · split
    · exact wf.er
    · split
      · exact wf.er
      · split
        · split
          · exact wf.er
          · split
            · exact wf.er
            · exact wf.prefixCheck
        · exact wf.prefixCheck

protected theorem Formed.recordFrame {bs : List Nat} (wf : Formed d) : Formed (recordFrame bs d) := .ite wf.er (.ite wf.er wf.same.loadChunk.respond)

protected theorem Formed.frameIn {a b bs : List Nat} {broken lost : Bool} (wf : Formed d) : Formed ((frameIn a b bs broken lost d).2) := by
  unfold Machine.frameIn
  extract_lets c
  refine .iteSnd wf.checkLine ?_
  split
  · exact wf.recordFrame
  · exact wf.checkLine
  · exact wf.er

protected theorem Formed.partialIn {a b bs : List Nat} {broken lost : Bool} (wf : Formed d) : Formed ((partialIn a b bs broken lost d).2) :=
  .iteSnd wf.frameIn wf.er

protected theorem Formed.relayAnswer {t : Tunnel} {l : List Nat} (wf : Formed d) : Formed (relayAnswer t l d) :=
  .ite wf.queueOut.same.prompt.flushEvents wf.queueOut

protected theorem Formed.replyPacket {m : Nat} {broken : Bool} {text : List Nat} (wf : Formed d) : Formed (replyPacket m broken text d) := by
  unfold Machine.replyPacket
  extract_lets l
  refine .ite wf ?_
  refine .ite wf.takeEvent ?_
  split
  · exact .ite wf.relayAnswer wf
  · exact wf

protected theorem Formed.tunnelArrival (wf : Formed d) : Formed (tunnelArrival d) := by
  unfold Machine.tunnelArrival
  split
  · extract_lets d1
    have w1 : Formed d1 := wf.same
    exact .ite wf (.ite w1.same.same w1)
  · exact wf

protected theorem Formed.tunnelCell {src arg data : Nat} (wf : Formed d) : Formed (tunnelCell src arg data d) :=
  .ite wf.cellTunr wf.cellTunr.tunnelArrival

protected theorem Formed.tunnelFail (wf : Formed d) : Formed (tunnelFail d) := by
  unfold Machine.tunnelFail
  split
  · exact .ite wf.same.respond wf
  · exact wf

protected theorem Formed.tunnelTimeout (wf : Formed d) : Formed (tunnelTimeout d) := .ite wf (.ite wf.tunnelFail wf.same)

protected theorem Formed.echo {bs : List Nat} (wf : Formed d) : Formed (echo bs d) := wf.queueOut

protected theorem Formed.editChar {t : Taken} {ch : Nat} (wf : Formed d) : Formed (editChar t ch d) := by
  unfold Machine.editChar
  refine .ite wf.echo ?_
  refine .ite (.ite wf wf.same.echo) ?_
  refine .ite wf.same.echo.prompt ?_
  exact .ite wf.same (.ite (.ite wf.same.echo wf.same.echo) wf)

protected theorem Formed.takeChars {cs : List Nat} (wf : Formed d) : Formed (takeChars cs d) := by
  induction cs generalizing d with
  | nil => exact wf
  | cons c cs ih =>
    unfold Machine.takeChars
    split
    · exact wf
    · exact ih (.ite wf.editChar wf.same)

protected theorem Formed.takeWord {w : QWord} (wf : Formed d) : Formed (takeWord w d) := .ite wf.same.takeChars (.takeChars (.ite wf wf.same))

protected theorem Formed.takenDone {a b : List Nat} {t : Taken} {broken : Bool} (wf : Formed d) : Formed (takenDone a b t broken d).2 := by
  unfold Machine.takenDone
  extract_lets d1 console text c
  have w1 : Formed d1 := wf.same
  refine .iteSnd w1 (.iteSnd w1.replyPacket (.iteSnd ?_ w1.checkLine))
  split
  next h => exact .ofPair (.iteSnd w1.partialIn w1.frameIn) h

protected theorem Formed.takeLines {n : Nat} {a b : List Nat} (wf : Formed d) : Formed (takeLines n a b d).2 := by
  induction n generalizing d with
  | zero => exact wf
  | succ n ih =>
    unfold Machine.takeLines
    split
    · exact wf
    · split
      · exact wf
      · extract_lets await d1
        have w1 : Formed d1 := wf.queuePop.takeWord
        split
        · exact ih w1
        · split
          · exact ih w1
          · extract_lets d2
            have w2 : Formed d2 := .ite w1.echo w1
            split
            next h => exact w2.takenDone.ofPair h
            next h =>
              split
              · exact w2.takenDone.ofPair h
              · exact ih (w2.takenDone.ofPair h)

protected theorem Formed.continueVerb (wf : Formed d) : Formed ((continueVerb d).2) := by
  unfold Machine.continueVerb
  split
  · exact wf
  · exact wf.answerNow
  · exact .iteSnd wf wf.answerNow
  · split
    · exact wf.answerNow
    · exact wf
  · split
    · exact .iteSnd wf wf.ledgerLoaded.answerNow
    · exact wf
  · exact wf
  · exact wf

protected theorem Formed.lockvEvents (wf : Formed d) : Formed (lockvEvents d) := wf.same.foldl (fun _ _ h => h.monitorEvent)

protected theorem Formed.lineTurn {a b : List Nat} (wf : Formed d) : Formed ((lineTurn a b d).2) :=
  .iteSnd wf (.iteSnd wf.continueVerb (.iteSnd wf.tunnelFail (.iteSnd wf wf.takeLines)))

protected theorem Formed.lineService {a b : List Nat} (wf : Formed d) : Formed ((lineService a b d).2) := by
  unfold Machine.lineService
  extract_lets d1 d2
  have w1 : Formed d1 := wf.flushOut.lockvEvents
  have w2 : Formed d2 := .ite w1.ledgerAutoload w1
  exact .iteSnd w2 w2.flushEvents.lineTurn.flushEvents

protected theorem Formed.svcLine {a b : List Nat} (wf : Formed d) : Formed (svcLine a b d) := by
  unfold Machine.svcLine
  extract_lets buf
  refine .ite wf.results ?_
  split
  next h =>
    have w1 := wf.lineService.ofPair h
    split
    · exact w1.results
    · exact w1.storeBytes.results.setW

protected theorem Formed.callmLine {a b : List Nat} (wf : Formed d) : Formed (callmLine a b d) :=
  .ite (wf.callm (fun _ h => h.svcLine)) (.ite wf.lineService wf)

protected theorem Formed.svcVerb (wf : Formed d) : Formed (svcVerb d) := by
  unfold Machine.svcVerb
  split
  · exact wf.results
  · exact .ite wf.results (.ite wf.results wf.same.results)

protected theorem Formed.svcReply (wf : Formed d) : Formed (svcReply d) := by
  unfold Machine.svcReply
  extract_lets kind num text
  split
  · exact wf.results
  · refine .ite wf.results.scratch ?_
    refine .ite wf.results ?_
    split
    · exact wf.results
    · extract_lets d1 d2
      have w1 : Formed d1 := wf.sendLine
      have w2 : Formed d2 := .ite w1 w1.same.prompt.flushEvents
      exact .ite wf.results w2.results

protected theorem Formed.svcEvent (wf : Formed d) : Formed (svcEvent d) := by
  unfold Machine.svcEvent
  split
  · exact wf.results
  · split
    · exact wf.results
    · refine .ite wf.results ?_
      exact .ite wf.results (.ite wf.takeEvent.results wf.takeEvent.results)

protected theorem Formed.verbLine {c : Ctx} {name : String} {a b text : List Nat} (wf : Formed d) : Formed (verbLine c name a b text d) :=
  .ite wf.runLine wf

protected theorem Formed.registeredLine {c : Ctx} {i : Nat} {text : List Nat} (wf : Formed d) : Formed (registeredLine c i text d) := by
  unfold Machine.registeredLine
  split
  · exact .ite wf.runLine wf
  · exact wf

protected theorem Formed.monitorFrame {bs : List Nat} (wf : Formed d) : Formed (monitorFrame bs d) := .ite wf.frameIn wf

end Sys2Proof.Proofs
end

section
/-! PROOFS. A clock cycle keeps the memory in its form. -/

namespace Sys2Proof.Proofs

open Sys2Proof.Machine Sys2Proof.Laws

variable {d : Dev}

protected theorem Formed.cycleEnd (wf : Formed d) : Formed (cycleEnd d) := wf.queueCycle.same

protected theorem Formed.tick (wf : Formed d) : Formed (tick d) := .same (.ite wf.cycleEnd wf)

end Sys2Proof.Proofs
end

section
/-! PROOFS. Every command and the tick leave the memory in its canonical form. -/

namespace Sys2Proof.Proofs

open Sys2Proof.Machine

/-- The state that an answer goes on with has its memory in its form. -/
def GoesOnFormed (a : Answer) : Prop := ∀ t, a = .next t → Formed t.dev

section

variable {s : State} {f : Dev → Dev}

protected theorem GoesOnFormed.onDev (wf : Formed (f s.dev)) : GoesOnFormed (onDev f s) := by
  rintro t ⟨⟩
  exact wf

protected theorem GoesOnFormed.keeps (keeps : Keeps f) (wf : Formed s.dev) : GoesOnFormed (Machine.onDev f s) := .onDev (keeps _ wf)

protected theorem GoesOnFormed.onDevIf {ok : Bool} (wf : Formed (f s.dev)) : GoesOnFormed (onDevIf ok f s) := by
  cases ok
  · rintro t ⟨⟩
  · exact .onDev wf

end

theorem keeps_ite {c : Prop} {inst : Decidable c} {f g : Dev → Dev} (hf : Keeps f) (hg : Keeps g) : Keeps (@ite _ c inst f g) := by
  by_cases h : c
  · rwa [if_pos h]
  · rwa [if_neg h]

/-- What a command does to the device is built from operations that leave the memory in its form. -/
theorem exec_goesOnFormed (c : Instr) {s : State} (wf : Formed s.dev) : GoesOnFormed (exec c s) := by
  cases c with
  | powerOnReset => exact .onDev wf.powerOnReset
  | brownOutReset => exact .onDev wf.brownOutReset
  | pinReset => exact .onDev wf.pinReset
  | softReset => exact .keeps (keeps_ite (fun _ h => h.resetByVerb) fun _ h => h.softReset) wf
  | tapReset | trngHealthFail | trngHealthRecover | peDataInWrite | swFhlClear | drFiredClear | sagClear | bdAskipClear | ringClockReturn
  | vgdUndervoltageEnd | cacheInvalidationDone => exact .onDev wf.same
  | resetnRelease => exact .onDev wf.resetnRelease
  | xclkValid => exact .onDev wf.xclkValid
  | pllLock => exact .onDev wf.pllLock
  | otpSenseDone => exact .onDev wf.otpSenseDone
  | autobaudCharacter => exact .onDev wf.autobaudCharacter
  | ckRootSelWrite => exact .onDev wf.ckRootSelWrite
  | holdEntry => exact .onDev wf.holdEntry
  | holdExit => exact .onDev wf.holdExit
  | ladderEntry => exact .onDev wf.ladderEntry
  | quiesceTimeout => exact .onDev wf.quiesceTimeout
  | dormantRequest => exact .onDev wf.dormantRequest
  | wake => exact .onDev wf.wake
  | napMotionWake => exact .onDev wf.napMotionWake
  | napRateWake => exact .onDev wf.napRateWake
  | ckTltlRead => exact .onDev wf.ckTltlRead
  | pllUnlock => exact .onDev wf.pllUnlock
  | xclkStop => exact .onDev wf.xclkStop
  | xclkReturn => exact .onDev wf.xclkReturn
  | ringClockLoss => exact .onDev wf.ringClockLoss
  | holdoverEnd => exact .onDev wf.holdoverEnd
  | hello | ident | status | mode | load | loadAbort | power | reset | set | get | otpRead | otpMargin | otpCheck | otpSense | keyAttest
  | keyEscrow | furrowSet | furrowOn | furrowOff | furrowShow | pageMap | pageUnmap | pagePin | pageUnpin | pageFetch | pageShow | chanSet
  | chanOn | chanOff | chanShow | bankSet | bankOn | bankOff | bankShow | bankAim | headSet | headOn | headOff | headHitch | headShow
  | ringUp | ringDown | ringJoin | ringLeave | ringShow | encSet | encZero | encShow | ledgerShow | ledgerSave | ledgerLoad | traceOn
  | traceOff | traceShow => exact .onDev wf.verbLine
  | start | otpBurn | otpReburn | otpRevoke | otpLock | keyInval | keyPerso | keyField | keyRetire =>
    exact .keeps (fun _ h => h.setWindow.verbLine) wf
  | slaveRecordFrame | slaveLineFrame => exact .onDev wf.monitorFrame
  | otCmdNop | otCmdRead | otCmdMargl | otCmdMargh | otCmdCheck | otCmdSense | otCmdInvalid => exact .onDev wf.otCommand
  | otCmdBurn | otCmdReburn | otCmdInc | otCmdLock => exact .keeps (fun _ h => h.setWindow.otCommand) wf
  | burnPulseEnd => exact .onDev wf.burnPulseEnd
  | burnWindowFall => exact .onDev wf.burnWindowFall
  | otCommandDone => exact .onDev wf.otCommandDone
  | tamperBeadBurn => exact .onDev wf.tamperBeadBurn
  | kyNop | kyDerive | kyUnwrap | kyWrapkey | kyEncrypt | kyDecrypt | kyClear | kyGenpair | kyLoadpair | kySign | kyAttest | kyEscrow =>
    exact .onDev wf.kyCommand
  | kyInval | kyPerso | kyField | kyRetire => exact .keeps (fun _ h => h.setWindow.kyCommand) wf
  | kyCommandDone => exact .onDev wf.kyCommandDone
  | kregRemask => exact .onDev wf.kregRemask
  | jtagInstructionUpdate => exact .onDev wf.jtagInstructionUpdate
  | unlockCapture => exact .onDev wf.unlockCapture
  | unlockUpdate => exact .onDev wf.unlockUpdate
  | unlockVerifyDone => exact .onDev wf.unlockVerifyDone
  | tamperAlarm => exact .onDev wf.tamperFound
  | add | sub | and | or | xor | andn | shl | shr | sar | ror | mul | divu | divs | remu | rems => exact .onDev wf.aluRR
  | adds | adc | subs | sbc | addsi | subsi => exact .onDev wf.aluAdd
  | ands => exact .onDev (wf.result fun _ _ h => h.same)
  | addi | andi | ori | xori | popc | clz | revb | sexb | sexh => exact .onDev wf.aluR
  | shi | extu | exts => exact .keeps (keeps_ite (fun _ h => h.fetch fun _ h => h.undef) fun _ h => h.aluR) wf
  | movl | movh | mfstat => exact .onDev (wf.result fun _ _ h => h.noFlags)
  | ins => exact .keeps (keeps_ite (fun _ h => h.fetch fun _ h => h.undef) fun _ h => h.aluRR) wf
  | mullu | mulls => exact .onDev wf.mulLong
  | ldw | ldhu | ldhs | ldbu | ldbs | ldwx | mfc => exact .onDev wf.loadInstr
  | stw | sth | stb | stwx | mtc => exact .onDev wf.storeInstr
  | bCond => exact .onDev wf.branch
  | call => exact .onDev wf.callTo
  | jr | callr => exact .onDev wf.jumpReg
  | nop => exact .onDev (wf.fetch fun _ h => h.same)
  | sync => exact .onDev wf.syncInstr
  | wait => exact .onDev wf.waitInstr
  | reti => exact .onDev wf.retiInstr
  | brk => exact .onDev wf.brkInstr
  | mtstat => exact .onDev (wf.instr fun _ h => h.same.same)
  | undefinedEncoding => exact .onDevIf (wf.fetch fun _ h => h.undef)
  | callmInfo => exact .onDev (wf.callm fun _ h => h.svcInfo)
  | callmKeygo => exact .onDev (wf.callm fun _ h => h.svcKeygo)
  | callmKeyend => exact .onDev (wf.callm fun _ h => h.svcKeyend)
  | callmTamper => exact .onDev (wf.callm fun _ h => h.svcTamper)
  | callmLine => exact .keeps (fun _ h => h.setWindow.callmLine) wf
  | callmVerb => exact .onDev (wf.callm fun _ h => h.svcVerb)
  | callmReply => exact .onDev (wf.callm fun _ h => h.svcReply)
  | callmEvent => exact .onDev (wf.callm fun _ h => h.svcEvent)
  | callmUnused => exact .onDev (wf.callm fun _ h => h.svcUnused)
  | interruptEntry => exact .onDev wf.interruptEntry
  | waitWake => exact .onDev wf.waitWake
  | farLoadReturn => exact .onDev wf.farLoadReturn
  | busiReport => exact .onDev wf.busiReport
  | writeBufferDrain => exact .onDev wf.writeBufferDrain
  | xipLineFillDone => exact .onDevIf wf.xipFillDone
  | throttleTick => exact .onDev wf.throttleTick
  | demandChange => exact .onDev wf.demandChange
  | coreVsetWrite => exact .onDev wf.vsetWrite
  | icInvalidate => exact .onDev wf.icInvalidate
  | icStatClear => exact .onDev wf.icStatClear
  | registerWrite => exact .onDev wf.busWrite
  | patternWindowAccess => exact .onDev wf.patternWindow
  | uartCharacter => exact .onDev wf.uartCharacter
  | idleClose => exact .onDev wf.idleClose
  | writeSideGrant => exact .onDev wf.writeSideGrant
  | queuePop => exact .onDev wf.queuePop
  | popTimeout => exact .onDev wf.popTimeout
  | queueFlush => exact .onDev wf.queueFlush
  | queueDrop => exact .onDev wf.queueDrop
  | qnLostClear => exact .onDev wf.qnLostClear
  | lineTimeout => exact .onDev wf.lineTimeout
  | uartTransmit => exact .onDev wf.uartSend
  | uaTxWrite => exact .onDev wf.uaTxWrite
  | tunnelTimeout => exact .onDev wf.tunnelTimeout
  | registeredVerb => exact .onDev wf.registeredLine
  | cqPush => exact .onDev wf.cqPush
  | transferGrant => exact .onDev wf.transferGrant
  | transferEnd => exact .onDev wf.transferEnd
  | continueTimeout => exact .onDev wf.continueTimeout
  | pollDue => exact .onDev wf.pollDue
  | writeWaitTimeout => exact .onDev wf.writeWaitTimeout
  | discoveryStart => exact .onDev wf.discoveryStart
  | spRxdPop => exact .onDev wf.spRxdPop
  | sssnFall => exact .onDev wf.sssnFall
  | slaveFrame => exact .keeps (fun _ h => h.slaveFrame.pumpOut) wf
  | spStxWrite => exact .onDev wf.spStxWrite
  | spScntClear => exact .onDev wf.spScntClear
  | engineTick => exact .onDev wf.engineTick
  | peTimerExpiry => exact .onDev wf.peTimerExpiry
  | engineStart => exact .onDev wf.engineStart
  | engineStop => exact .onDev wf.engineStop
  | quadratureCount => exact .onDev wf.quadratureCount
  | velocityUpdate => exact .onDev wf.velocityUpdate
  | burstOnset => exact .onDev wf.burstOnset
  | burstClear => exact .onDev wf.burstClear
  | freezeEnd => exact .onDev wf.freezeEnd
  | zCapture => exact .onDev wf.zCapture
  | positionLoad => exact .onDev wf.positionLoad
  | enPositionRead => exact .onDev wf.enPositionRead
  | enZcaptureRead => exact .onDev wf.enZcaptureRead
  | enRingPositionRead => exact .onDev wf.enRingPositionRead
  | enCntClear => exact .onDev wf.enCntClear
  | furrowEvaluation => exact .onDev wf.furrowEvaluation
  | refillEvaluation => exact .onDev wf.refillEvaluation
  | swFcmdOn | swFcmdOff | swFcmdClrcnt => exact .onDev wf.fcmdWrite
  | furrowConfigWrite => exact .onDev wf.furrowConfigWrite
  | furrowNextRead | furrowLastRead | drTfireRead => exact .keeps (fun _ h => h.same.same) wf
  | swCountClear => exact .onDev wf.swCountClear
  | slotSet => exact .onDev wf.slotSet
  | slotFire => exact .onDev wf.slotFire
  | patternStepStart => exact .onDev wf.patternStepStart
  | pulseEnd => exact .onDev wf.pulseEnd
  | headlandCommit => exact .onDev wf.headlandCommit
  | forcedHeadland => exact .onDev wf.forcedHeadland
  | grPteWrite => exact .onDev wf.grPteWrite
  | grCmdPin | grCmdUnpin | grCmdFetch => exact .onDev wf.grCmd
  | pageArrival => exact .onDevIf wf.pageArrives
  | pageFetchFailed => exact .onDev wf.fetchFailed
  | grCntClear => exact .onDev wf.grCntClear
  | scanAssert => exact .onDev wf.scanAssert
  | scanOverload => exact .onDev wf.scanOverload
  | riseWindowEnd => exact .onDev wf.riseWindowEnd
  | shortDetected => exact .onDev wf.shortDetected
  | boosterCheck => exact .onDev wf.boosterCheck
  | boosterOvercurrent => exact .onDev wf.boosterOvercurrent
  | vgdUndervoltage => exact .onDev wf.vgdUndervoltage
  | ldChcmdOn => exact .onDev wf.chanOnCmd
  | ldChcmdOff => exact .onDev wf.chanOffCmd
  | ldBcmdOn => exact .onDev wf.bankOnCmd
  | ldBcmdOff => exact .onDev wf.bankOffCmd
  | ldChcntClear => exact .onDev wf.chCntClear
  | aimingPeriodStart => exact .onDev wf.aimingPeriodStart
  | aimingPulseEnd => exact .onDev wf.aimingPulseEnd
  | chargeWindowRoll => exact .onDev wf.windowRoll
  | thermalUpdate => exact .onDev wf.thermalUpdate
  | adcSample => exact .onDev wf.adcSample
  | sagTrip => exact .onDev wf.sagTrip
  | compensationFail => exact .onDev wf.compensationFail
  | bdBcntClear => exact .onDev wf.bdBcntClear
  | triggerAssert => exact .onDev wf.triggerAssert
  | triggerEnd => exact .onDev wf.triggerEnd
  | exposureCheck => exact .onDev wf.exposureCheck
  | prsnChange => exact .onDev wf.prsnChange
  | presenceDebounce => exact .onDev wf.presenceDebounce
  | sendHello => exact .onDev wf.sendHello
  | sendParam => exact .onDev wf.sendParam
  | sendArmn => exact .onDev wf.sendArmn
  | sendDisarm => exact .onDev wf.sendDisarm
  | sendTaint => exact .onDev wf.sendTaint
  | sendHold => exact .onDev wf.sendHold
  | sendGo => exact .onDev wf.sendGo
  | sendPoll => exact .onDev wf.sendPoll
  | sendBye => exact .onDev wf.sendBye
  | receiveIdent => exact .onDev wf.receiveIdent
  | receiveAck => exact .onDev wf.receiveAck
  | receiveNote => exact .onDev wf.receiveNote
  | receiveHeadBye => exact .onDev wf.receiveHeadBye
  | messageGapTimeout => exact .onDev wf.messageGapTimeout
  | replyWindowExpiry => exact .onDev wf.replyWindowExpiry
  | pollIntervalExpiry => exact .onDev wf.pollIntervalExpiry
  | hpCtlOn => exact .onDev wf.hpOn
  | hpCtlOff => exact .onDev wf.hpOff
  | hpCtlHitch => exact .onDev wf.hpHitch
  | hpExptWrite => exact .onDev wf.hpExptWrite
  | hpCntClear => exact .onDev wf.hpCntClear
  | hpXcntClear => exact .onDev wf.hpXcntClear
  | epochSend => exact .onDev wf.epochSend
  | epochReceive => exact .onDev wf.epochReceive
  | cellDisc => exact .onDev wf.cellDisc
  | cellMeas => exact .onDev wf.cellMeas
  | cellMres => exact .onDev wf.cellMres
  | cellDly => exact .onDev wf.cellDly
  | cellAligned => exact .onDev wf.cellAligned
  | cellJoin => exact .onDev wf.cellJoin
  | cellLeave => exact .onDev wf.cellLeave
  | cellRoll => exact .onDev wf.cellRoll
  | cellTaint => exact .onDev wf.cellTaint
  | cellTun => exact .onDev wf.cellTun
  | cellTunr => exact .onDev wf.tunnelCell
  | alignmentTimeout => exact .onDev wf.alignmentTimeout
  | epochWatchdogExpiry => exact .onDev wf.epochWatchdogExpiry
  | srCtlUp => exact .onDev wf.srUp
  | srCtlDown => exact .onDev wf.srDown
  | srCtlJoin => exact .onDev wf.srJoin
  | srCtlLeave => exact .onDev wf.srLeave
  | srCntClear => exact .onDev wf.srCntClear
  | ledgerCommitStep => exact .onDev wf.ledgerCommitStep
  | tamperAlarmClear => exact .onDev wf.tamperAlarmClear
  | vcaSettled => exact .onDev wf.vcaSettled
  | byeStartTimeout => exact .onDev wf.byeStartTimeout

/-- Settles O5: on an empty queue the tick, else the command at its front, leaves the memory in its form. -/
theorem memoryKeepsItsForm : Obligations.MemoryKeepsItsForm := by
  unfold Obligations.MemoryKeepsItsForm
  intro s t wf next
  unfold step at next
  split at next
  · cases next
    exact Formed.tick wf
  next c r _ => exact exec_goesOnFormed c (s := { s with pending := r }) wf t next

end Sys2Proof.Proofs
end

section
/-! PROOFS. The machine after reset: registers, memory and pins. -/

namespace Sys2Proof.Proofs

open Sys2Proof.Machine Sys2Proof.Laws

/-- Register words of the spec's tables after a power-on reset. -/
def resetWords : List (Nat × Nat) :=
  [(0x40000000, 0x0C), (0x4000000C, 0x100), (0x40000014, 0xFF), (0x40001000, 0x48060043), (0x40008000, 0x640A0401), (0x4000C004, 100000),
    (0xE0000020, 0x37000723), (0x40001044, 1)]

theorem reset_r_other {f : Fld} (h : f.key ≠ F.SYS_RSTC_POR.key) : State.reset.dev.r f = f.rst := by
  simp [State.reset, Dev.reset, Dev.r, Tab.getD, Tab.get?, h.symm]

theorem reset_plainRead : ∀ p ∈ resetWords, plainRead State.reset.dev p.1 = p.2 := by decide

/-- A pin whose driver waits for the supply carries nothing while the supply is below its threshold. -/
theorem pinOut_dark {d : Dev} (dark : d.ck.brown = true) (l : PinLevel) : pinOut l d = .hiz := if_pos dark

theorem pinDriver_dark {d : Dev} (dark : d.ck.brown = true) (l : PinLevel) : pinDriver l d = .hiz := pinOut_dark dark _

/-- Settles O4: the table of fields lists SYS_RSTC alone, so every other field reads its reset value, and no block that drives a pin is at work. -/
theorem resetValues : Obligations.ResetValues := by
  unfold Obligations.ResetValues
  refine ⟨fun f => reset_r_other, rfl, rfl, rfl, rfl, rfl, rfl, rfl, fun a => rfl, reset_plainRead, ?_, ?_⟩
  · exact ⟨rfl, rfl, rfl, rfl, rfl, rfl, rfl, rfl, fun n => rfl, fun p => ⟨rfl, rfl⟩, fun g => rfl, fun c => rfl, fun b => rfl, fun r => rfl⟩
  · intro d dark
    exact ⟨pinOut_dark dark _, pinOut_dark dark _, pinOut_dark dark _, pinOut_dark dark _, pinOut_dark dark _, pinOut_dark dark _,
      pinDriver_dark dark _, fun n => ⟨pinOut_dark dark _, pinDriver_dark dark _, pinOut_dark dark _, pinOut_dark dark _, pinOut_dark dark _,
        pinOut_dark dark _, pinOut_dark dark _⟩⟩

end Sys2Proof.Proofs
end

section
/-! PROOFS. The resets: what each source leaves, keeps and sends. -/

namespace Sys2Proof.Proofs

open Sys2Proof.Machine Sys2Proof.Laws

/-! ### A burn pulse that stops, and what is left beside the kept fields [04 R65, R66; 05 R98] -/

theorem otReset_frame (d : Dev) : otReset d = { d with draws := (otReset d).draws, ot := (otReset d).ot } := by
  unfold otReset
  split <;> rfl

theorem otReset_r (d : Dev) (f : Fld) : (otReset d).r f = d.r f := by rw [otReset_frame]; rfl

/-- The device of a reset before its fields take what they keep. -/
def bareReset (ram : Bool) (d : Dev) : Dev :=
  { ns := d.ns, draws := d.draws, hp := d.hp.foldl (fun t e => Tab.setD t e.1 {} ({ raw := e.2.raw, rawSince := d.ns } : Head)) [],
    ot := { fuses := d.ot.fuses }, mem := if ram then keepOnly d else [], ck := { resetLow := d.ck.resetLow, xrun := d.ck.xrun, brown := d.ck.brown } }

theorem baseReset_eq (fs : List Fld) (ram : Bool) (d : Dev) : baseReset fs ram d = keepFields (otReset d) fs (bareReset ram (otReset d)) := rfl

theorem bareReset_byte (ram : Bool) (d : Dev) (x : Nat) :
    (bareReset ram d).byte x = if ram = true ∧ keepBase ≤ x ∧ x < keepBase + keepSize then d.byte x else memDefault := by
  cases ram
  · rfl
  · simp only [true_and, byte_keepOnly (d := d) (s := bareReset true d) rfl x]

theorem baseReset_frame (fs : List Fld) (ram : Bool) (d : Dev) :
    baseReset fs ram d = { bareReset ram (otReset d) with regs := (baseReset fs ram d).regs } := keepFields_frame ..

theorem baseReset_r_mem {fs : List Fld} (apart : (fs.map Fld.key).Nodup) {f : Fld} (h : f ∈ fs) (ram : Bool) (d : Dev) :
    (baseReset fs ram d).r f = d.r f % 2 ^ f.width := by
  rw [baseReset_eq, keepFields_r_mem _ apart h, otReset_r]

theorem baseReset_r_other {fs : List Fld} {f : Fld} (h : f.key ∉ fs.map Fld.key) (ram : Bool) (d : Dev) : (baseReset fs ram d).r f = f.rst := by
  rw [baseReset_eq, keepFields_r_other _ h]
  rfl

/-! ### SYS_RSTC gains its sources -/

/-- SYS_RSTC with the bits of the sources `m` set. -/
def causesSet (m : Nat) (d : Dev) : Dev :=
  (List.range 5).foldl (fun d i => if bitAt m i then d.set (causeFields.getD i F.SYS_RSTC_POR) else d) d

theorem setIf_r_other {f g : Fld} (h : g.key ≠ f.key) (c : Bool) (d : Dev) : (if c then d.set f else d).r g = d.r g := by
  cases c
  · rfl
  · exact set_r_other d h

theorem setIf_r_same {f : Fld} (one : f.width = 1) (c : Bool) (d : Dev) : (if c then d.set f else d).r f = if c then 1 else d.r f := by
  cases c
  · rfl
  · exact set_r_same d one

theorem causesSet_frame (m : Nat) (d : Dev) : causesSet m d = { d with regs := (causesSet m d).regs } := by
  unfold causesSet
  induction List.range 5 generalizing d with
  | nil => rfl
  | cons i l ih =>
    refine (ih _).trans ?_
    cases h : bitAt m i <;> simp [h]

theorem causesSet_r_other (m : Nat) (d : Dev) {f : Fld} (h : f.key ∉ causeFields.map Fld.key) : (causesSet m d).r f = d.r f := by
  simp only [causeFields, List.map, List.mem_cons, not_or] at h
  obtain ⟨por, bor, pin, soft, lockup, -⟩ := h
  simp only [causesSet, causeFields, List.range, List.range.loop, List.foldl, List.getD_cons_zero, List.getD_cons_succ]
  rw [setIf_r_other lockup, setIf_r_other soft, setIf_r_other pin, setIf_r_other bor, setIf_r_other por]

theorem causesSet_r_cause (m : Nat) (d : Dev) {i : Nat} (h : i < 5) :
    (causesSet m d).r (causeFields.getD i F.SYS_RSTC_POR) = if bitAt m i then 1 else d.r (causeFields.getD i F.SYS_RSTC_POR) := by
  simp only [causesSet, causeFields, List.range, List.range.loop, List.foldl, List.getD_cons_zero, List.getD_cons_succ]
  interval_cases i <;>
    simp (disch := decide) only [List.getD_cons_zero, List.getD_cons_succ, setIf_r_other, setIf_r_same]

/-! ### A reset by a set of sources -/

/-- A power-on or brown-out reset, by its sources. -/
def hardReset (m : Nat) : Bool := bitAt m 0 || bitAt m 1

/-- The fields beside SYS_RSTC that a reset by the sources `m` keeps. -/
def resetKept (m : Nat) : List Fld :=
  if hardReset m then [] else if bitAt m 2 then tamperFields
  else tamperFields ++ wakeFields ++ rateFields ++ [F.SYS_STRAP_BOOTSEL]

/-- All the fields that the reset keeps. -/
def resetFields (m : Nat) : List Fld :=
  if hardReset m then [] else if bitAt m 2 then tamperFields ++ causeFields
  else tamperFields ++ causeFields ++ wakeFields ++ rateFields ++ [F.SYS_STRAP_BOOTSEL]

theorem resetFields_apart (m : Nat) : ((resetFields m).map Fld.key).Nodup := by
  unfold resetFields
  cases hardReset m <;> cases bitAt m 2 <;> decide

theorem kept_in_resetFields (m : Nat) : ∀ f ∈ resetKept m, f ∈ resetFields m ∧ f.key ∉ causeFields.map Fld.key ∧ f.key ≠ F.CK_STAT_XOK.key := by
  unfold resetFields resetKept
  cases hardReset m <;> cases bitAt m 2 <;> decide

theorem resetFields_of_kept {m : Nat} {k : Nat} (h : k ∉ (resetKept m).map Fld.key) (cause : k ∉ causeFields.map Fld.key) :
    k ∉ (resetFields m).map Fld.key := by
  unfold resetKept at h
  unfold resetFields
  cases hard : hardReset m <;> cases pin : bitAt m 2 <;> simp [hard, pin] at h cause ⊢ <;> tauto

theorem causes_in_resetFields {m : Nat} (soft : hardReset m = false) {i : Nat} (h : i < 5) : causeFields.getD i F.SYS_RSTC_POR ∈ resetFields m := by
  unfold resetFields
  rw [soft]
  cases bitAt m 2 <;> interval_cases i <;> decide

theorem resetBy_eq (m : Nat) (d : Dev) : resetBy m d =
    ladderBegin (hardReset m || bitAt m 2) ((causesSet m (baseReset (resetFields m) (!hardReset m) d)).onCk fun c =>
      { c with resetLow := c.resetLow || bitAt m 2, xrun := c.xrun && !hardReset m, brown := bitAt m 1 && !bitAt m 0 }) := rfl

theorem ladderBegin_r_other (sample : Bool) (d : Dev) {f : Fld} (h : f.key ≠ F.CK_STAT_XOK.key) : (ladderBegin sample d).r f = d.r f :=
  r_w_other _ _ h

theorem resetBy_r (m : Nat) (d : Dev) {f : Fld} (h : f.key ≠ F.CK_STAT_XOK.key) :
    (resetBy m d).r f = (causesSet m (baseReset (resetFields m) (!hardReset m) d)).r f := by
  rw [resetBy_eq, ladderBegin_r_other _ _ h]
  rfl

theorem resetBy_r_kept {m : Nat} {f : Fld} (h : f ∈ resetKept m) (d : Dev) : (resetBy m d).r f = d.r f % 2 ^ f.width := by
  obtain ⟨kept, cause, xok⟩ := kept_in_resetFields m f h
  rw [resetBy_r m d xok, causesSet_r_other m _ cause, baseReset_r_mem (resetFields_apart m) kept]

theorem causeField_facts : ∀ i < 5, (causeFields.getD i F.SYS_RSTC_POR).key ≠ F.CK_STAT_XOK.key ∧ (causeFields.getD i F.SYS_RSTC_POR).width = 1 ∧
    (causeFields.getD i F.SYS_RSTC_POR).rst = 0 := by decide

theorem resetBy_r_cause (m : Nat) {i : Nat} (h : i < 5) (d : Dev) : (resetBy m d).r (causeFields.getD i F.SYS_RSTC_POR) =
    if bitAt m i then 1 else if hardReset m then 0 else d.r (causeFields.getD i F.SYS_RSTC_POR) % 2 := by
  obtain ⟨xok, width, rst⟩ := causeField_facts i h
  rw [resetBy_r m d xok, causesSet_r_cause m _ h]
  congr 1
  cases hard : hardReset m
  · rw [baseReset_r_mem (resetFields_apart m) (causes_in_resetFields hard h), width]
    rfl
  · have none : resetFields m = [] := if_pos hard
    rw [none, baseReset_r_other (by simp), rst]
    rfl

theorem resetBy_r_other (m : Nat) (d : Dev) {f : Fld} (h : f.key ∉ (resetKept m ++ causeFields ++ [F.CK_STAT_XOK]).map Fld.key) :
    (resetBy m d).r f = f.rst := by
  simp only [List.map_append, List.mem_append, not_or, List.map_cons, List.map_nil, List.mem_singleton] at h
  obtain ⟨⟨kept, cause⟩, xok⟩ := h
  rw [resetBy_r m d xok, causesSet_r_other m _ cause, baseReset_r_other (resetFields_of_kept kept cause)]

/-- What a reset by the sources `m` leaves beside the registers. -/
structure Restarted (m : Nat) (d t : Dev) : Prop where
  byte : ∀ x, t.byte x = if hardReset m = false ∧ keepBase ≤ x ∧ x < keepBase + keepSize then d.byte x else memDefault
  xok : t.r F.CK_STAT_XOK = bit (d.ck.xrun && !hardReset m)
  ladder : t.ck.ladder = .resetting
  boot : t.ck.boot = if hardReset m = false ∧ d.ck.xrun = true then .pll else .xclk
  ot : d.ot.job = none → t.ot = { fuses := d.ot.fuses }
  blocks : t = { ns := d.ns, draws := t.draws, regs := t.regs, mem := t.mem, ot := t.ot, hp := t.hp, ck := t.ck }

theorem resetBy_frame (m : Nat) (d : Dev) : resetBy m d = { bareReset (!hardReset m) (otReset d) with
    regs := (resetBy m d).regs, ck := (resetBy m d).ck } := by
  rw [resetBy_eq, causesSet_frame, baseReset_frame]
  rfl

theorem resetBy_ck (m : Nat) (d : Dev) : (resetBy m d).ck =
    { resetLow := d.ck.resetLow || bitAt m 2, xrun := d.ck.xrun && !hardReset m, brown := bitAt m 1 && !bitAt m 0, ladder := .resetting,
      boot := if d.ck.xrun && !hardReset m then .pll else .xclk, resample := hardReset m || bitAt m 2 } := by
  rw [resetBy_eq, causesSet_frame, baseReset_frame, otReset_frame]
  rfl

theorem resetBy_restarted (m : Nat) (d : Dev) : Restarted m d (resetBy m d) where
  byte x := by
    have frame : (resetBy m d).byte x = (bareReset (!hardReset m) (otReset d)).byte x := by rw [resetBy_frame]; rfl
    rw [frame, bareReset_byte, otReset_frame]
    simp only [Bool.not_eq_true']
    rfl
  xok := by
    rw [resetBy_eq, causesSet_frame, baseReset_frame, otReset_frame]
    refine (r_w_same ..).trans ?_
    show bit (d.ck.xrun && !hardReset m) % 2 = _
    cases d.ck.xrun && !hardReset m <;> rfl
  ladder := by rw [resetBy_ck]
  boot := by
    rw [resetBy_ck]
    cases d.ck.xrun <;> cases hardReset m <;> rfl
  ot idle := by rw [resetBy_frame, otReset_idle idle]; rfl
  blocks := by rw [resetBy_frame, otReset_frame]; rfl

/-! ### The soft reset of a ring member [21 R413] -/

/-- A reset by the sources `m` of a device whose ring port sent the cell `sent` last. -/
def resetSending (m : Nat) (sent : Option Cell) (d : Dev) : Dev := { resetBy m d with sr := { sentCell := sent } }

theorem resetSending_r (m : Nat) (sent : Option Cell) (d : Dev) (f : Fld) : (resetSending m sent d).r f = (resetBy m d).r f := rfl

theorem resetBy_silent (m : Nat) (d : Dev) : resetBy m d = resetSending m none d := by
  unfold resetSending
  rw [(resetBy_restarted m d).blocks]

/-- The cell that a soft reset sends; `a` names what else resets at the same time. -/
def softCell (a : Nat) (d : Dev) : Option Cell := if a % 8 = 0 then leaveCell d else none

theorem softReset_sent (a : Nat) (d : Dev) : softReset a d = resetSending (a ||| 8) (softCell a d) d := by
  unfold softReset resetSending softCell
  rw [(resetBy_restarted (a ||| 8) d).blocks]
  dsimp only
  split <;> rfl

theorem leaveCell_noAddress {d : Dev} (h : d.r F.SR_STAT_ADDRV = 0) : leaveCell d = none := by simp [leaveCell, b_of_zero h]

theorem leaveCell_member {d : Dev} (on : d.r F.SR_CTL_EN ≠ 0) (runs : d.ck.ladder = .run) (bright : darkened d = false) (member : d.r F.SR_STAT_MASTER = 0)
    (addressed : d.r F.SR_STAT_ADDRV ≠ 0) (up : d.r F.SR_STAT_STATE = 2) : leaveCell d = some ⟨d.r F.SR_STAT_ADDR, 7, 0, 0⟩ := by
  simp [leaveCell, ringLive, b_of_ne on, Dev.awake, runs, bright, isMaster, b_of_zero member, b_of_ne addressed, srState, up, ringAddr]

/-! ### The claim -/

/-- The claim about a reset command by the sources `m`, whose soft reset alone may send a cell. -/
theorem resetBy_done (m : Nat) (d : Dev) (sent : Option Cell) {silent : Prop} (quiet : silent → sent = none) :
    let t := resetSending m sent d
    (∀ f ∈ resetKept m, t.r f = d.r f % 2 ^ f.width) ∧
    (∀ i, i < 5 → t.r (causeFields.getD i F.SYS_RSTC_POR) =
      if bitAt m i then 1 else if hardReset m then 0 else d.r (causeFields.getD i F.SYS_RSTC_POR) % 2) ∧
    t.r F.CK_STAT_XOK = bit (d.ck.xrun && !hardReset m) ∧
    (∀ f : Fld, f.key ∉ (resetKept m ++ causeFields ++ [F.CK_STAT_XOK]).map Fld.key → t.r f = f.rst) ∧
    (∀ x, t.byte x = if hardReset m = false ∧ keepBase ≤ x ∧ x < keepBase + keepSize then d.byte x else memDefault) ∧
    t.ck.ladder = .resetting ∧ t.ck.boot = (if hardReset m = false ∧ d.ck.xrun = true then .pll else .xclk) ∧
    (d.ot.job = none → t.ot = { fuses := d.ot.fuses }) ∧
    t = { ns := d.ns, draws := t.draws, regs := t.regs, mem := t.mem, ot := t.ot, hp := t.hp, ck := t.ck, sr := { sentCell := t.sr.sentCell } } ∧
    (silent → t.sr.sentCell = none) := by
  have done := resetBy_restarted m d
  refine ⟨fun f h => resetBy_r_kept h d, fun i h => resetBy_r_cause m h d, done.xok, fun f h => resetBy_r_other m d h, done.byte, done.ladder,
    done.boot, done.ot, ?_, quiet⟩
  unfold resetSending
  rw [done.blocks]

theorem verb_waits {d : Dev} (a : Nat) (h : d.st.wait = none) : resetByVerb a d = d := by simp [resetByVerb, h]

theorem verb_sends {d : Dev} (a : Nat) {c : Ctx} {n : Nat} (wait : d.st.wait = some (c, .leave false n)) (uart : c.path = 1) (more : n ≠ 0) :
    resetByVerb a d = d := by
  simp [resetByVerb, wait, okGone, uart, more]

theorem verb_resets {d : Dev} (a : Nat) {c : Ctx} {n : Nat} (wait : d.st.wait = some (c, .leave false n)) (out : d.st.out = [])
    (gone : (c.path = 1 ∧ n = 0) ∨ c.path = 2) : resetByVerb a d = softReset a d := by
  have ok : okGone c.path n d = true := by
    rcases gone with ⟨uart, none⟩ | slave
    · simp [okGone, uart, none]
    · simp [okGone, slave]
  simp [resetByVerb, wait, ok, out]

theorem exec_powerOnReset (a : BitVec 5) (s : State) : exec (.powerOnReset a) s = onDev (resetSending (a.toNat ||| 1) none) s :=
  onDev_congr (resetBy_silent _ s.dev)

theorem exec_brownOutReset (a : BitVec 5) (s : State) : exec (.brownOutReset a) s = onDev (resetSending (a.toNat ||| 2) none) s :=
  onDev_congr (resetBy_silent _ s.dev)

theorem exec_pinReset (a : BitVec 5) (s : State) : exec (.pinReset a) s = onDev (resetSending (a.toNat ||| 4) none) s :=
  onDev_congr (resetBy_silent _ s.dev)

theorem exec_softReset (a : BitVec 5) (s : State) :
    exec (.softReset false a) s = onDev (fun d => resetSending (a.toNat ||| 8) (softCell a.toNat d) d) s :=
  onDev_congr (softReset_sent _ s.dev)

/-- Settles O6: every reset is `resetBy` of its sources, and the soft reset adds the cell that it sent. -/
theorem resets : Obligations.Resets := by
  unfold Obligations.Resets
  refine ⟨fun a c m source => ?_, fun k => ?_, fun a => ⟨?_, ?_, ?_⟩, fun s _ => rfl⟩
  · simp only [List.mem_cons, Prod.mk.injEq, List.not_mem_nil, or_false] at source
    rcases source with ⟨rfl, rfl⟩ | ⟨rfl, rfl⟩ | ⟨rfl, rfl⟩ | ⟨rfl, rfl⟩
    · exact does_of_onDev (exec_powerOnReset a) fun d _ => resetBy_done _ d none fun _ => rfl
    · exact does_of_onDev (exec_brownOutReset a) fun d _ => resetBy_done _ d none fun _ => rfl
    · exact does_of_onDev (exec_pinReset a) fun d _ => resetBy_done _ d none fun _ => rfl
    · refine does_of_onDev (exec_softReset a) fun d _ => resetBy_done _ d _ fun silent => ?_
      rw [softCell, leaveCell_noAddress (silent.resolve_left fun differs => differs rfl), ite_self]
  · refine does_of_onDev (exec_softReset 0) fun d ⟨on, runs, bright, member, addressed, addr, up⟩ => ?_
    have sent : softCell 0 d = some ⟨d.r F.SR_STAT_ADDR, 7, 0, 0⟩ := (if_pos rfl).trans (leaveCell_member on runs bright member addressed up)
    rw [← addr]
    exact ⟨sent, (resetSending_r ..).trans (resetBy_r_other _ d (by decide)), (resetSending_r ..).trans (resetBy_r_other _ d (by decide))⟩
  · exact runs_of_onDev (fun s => rfl) fun d => verb_waits a.toNat
  · intro s c n wait out gone
    exact ⟨_, rfl, congrArg Host.Outcome.next (congrArg (State.mk · s.pending) (verb_resets a.toNat wait out gone))⟩
  · exact fun c n uart more => runs_of_onDev (fun s => rfl) fun d wait => verb_sends a.toNat wait uart more

end Sys2Proof.Proofs
end

section
/-! PROOFS. The reset ladder: XCLK and the PLL, sensing, the monitor's entry, and the UART's rate. -/

namespace Sys2Proof.Proofs

open Sys2Proof.Machine Sys2Proof.Laws

/-! ### XCLK and the PLL [03 R57, R460; 04 R67] -/

/-- The reset ladder stands at step `b`. -/
def AtStep (b : BootStep) (d : Dev) : Prop := d.ck.ladder = .resetting ∧ d.ck.boot = b

theorem xclkValid_reset {d : Dev} (h : AtStep .xclk d) :
    xclkValid d = (d.onCk fun c => { c with xrun := true, boot := .pll, brown := false }).set F.CK_STAT_XOK := if_pos h

theorem xclkValid_waking {d : Dev} (h : d.ck.ladder = .waking) :
    xclkValid d = ((if d.ck.xrun then d else sleepCount d).onCk fun c => { c with xrun := true }).set F.CK_STAT_XOK := by
  unfold xclkValid
  rw [if_neg (by simp [h]), if_pos h]

theorem xclkValid_run {d : Dev} (h : d.ck.ladder = .run) : xclkValid d = d := by simp [xclkValid, h]

/-- XCLK comes back to a device that waits for it on its way out of sleep. -/
theorem xclkValid_counts {d : Dev} (waking : d.ck.ladder = .waking) (stopped : d.ck.xrun = false) :
    (xclkValid d).ck = { d.ck with xrun := true, sleepNs := d.ns } ∧ (xclkValid d).r F.CK_STAT_XOK = 1 ∧ (xclkValid d).mem = d.mem := by
  rw [xclkValid_waking waking, if_neg (by simp [stopped])]
  refine ⟨?_, set_r_same _ rfl, (sleepCount_rest d).2.1⟩
  show { (sleepCount d).ck with xrun := true } = _
  rw [sleepCount_ck, slept, stopped]
  rfl

/-- The device with its PLL locked, and its clocks on an edge at TLT 0. -/
def edgesSet (d : Dev) : Dev :=
  let e := { d.set F.CK_STAT_PLLLOCK with tlt := 0 }
  e.onCk fun c => { c with phase := (8 - e.ns % 8) % 8, aphase := (1000 - e.ns % 1000) % 1000 }

theorem pllLock_reset (sel : Bool) {d : Dev} (h : AtStep .pll d) (runs : d.ck.xrun = true) :
    pllLock sel d = if d.ck.resetLow then (headsResume (edgesSet d)).onCk fun c => { c with boot := .resetn } else bootLatch sel (headsResume (edgesSet d)) := by
  have low : (headsResume (edgesSet d)).ck.resetLow = d.ck.resetLow := by rw [(aside_headsResume _).ck]; rfl
  rw [← low]
  unfold pllLock edgesSet
  simp only [h.1, h.2, runs, and_self, if_true]

/-- Port `p` shows the level of its presence pin. -/
def PrsShown (p : Nat) (d : Dev) : Prop := d.r (F.HP_STAT_PRSRAW p) = bit (d.head p).raw

theorem dropStale_raw (n p : Nat) (d : Dev) : ((dropStale n d).head p).raw = (d.head p).raw := by
  unfold dropStale
  simp only
  split
  · rfl
  · have same (e : Dev) (f : Fld) (k : Nat) : (e.addSat f k).head = e.head := rfl
    rw [same, head_onH]
    split
    · rename_i h; rw [h]
    · rfl

theorem dropStale_prs (n p : Nat) (d : Dev) : (dropStale n d).r (F.HP_STAT_PRSRAW p) = d.r (F.HP_STAT_PRSRAW p) := by
  unfold dropStale
  simp only
  split
  · rfl
  · refine r_w_other _ _ ?_
    simp only [Fld.key, F.HP_STAT_PRSRAW, F.HP_CNT_ASTALE]
    omega

theorem headResume_raw (n p : Nat) (d : Dev) : ((headResume n d).head p).raw = (d.head p).raw := by
  rw [headResume, dropStale_raw, head_onH]
  split
  · rename_i h
    subst h
    show (if d.head p = {} then d.head p else { d.head p with rawSince := _ }).raw = _
    split <;> rfl
  · rfl

theorem headResume_prs (n p : Nat) (d : Dev) :
    (headResume n d).r (F.HP_STAT_PRSRAW p) = if p = n then bit (d.head p).raw else d.r (F.HP_STAT_PRSRAW p) := by
  rw [headResume, dropStale_prs]
  show (d.w (F.HP_STAT_PRSRAW n) (bit (d.head n).raw)).r (F.HP_STAT_PRSRAW p) = _
  split
  · rename_i h
    rw [h, r_w_same]
    cases (d.head n).raw <;> rfl
  · rename_i h
    refine r_w_other _ _ ?_
    simp only [Fld.key, F.HP_STAT_PRSRAW]
    omega

theorem headResume_shows (p : Nat) (d : Dev) : PrsShown p (headResume p d) := by
  rw [PrsShown, headResume_prs, if_pos rfl, headResume_raw]

theorem headResume_keeps (n p : Nat) (d : Dev) (h : PrsShown p d) : PrsShown p (headResume n d) := by
  rw [PrsShown, headResume_prs, headResume_raw]
  split
  · rfl
  · exact h

theorem headsResume_shows {p : Nat} (h : p < 6) (d : Dev) : (headsResume d).r (F.HP_STAT_PRSRAW p) = bit (d.head p).raw := by
  have shown : PrsShown p (headsResume d) :=
    forAll_reaches (f := headResume) (fun n e => headResume_keeps n p e) (headResume_shows p) (List.mem_range.mpr h) d
  have raw : ((headsResume d).head p).raw = (d.head p).raw :=
    forAll_same (fun e => (e.head p).raw) (f := headResume) (fun n e _ => headResume_raw n p e) d
  rw [shown, raw]

/-- What the PLL's lock in the reset ladder leaves before BOOTSEL is sampled. -/
structure Locked (d t : Dev) : Prop where
  tlt : t.tlt = 0
  lock : t.r F.CK_STAT_PLLLOCK = 1
  mem : t.mem = d.mem
  co : t.co = d.co
  ot : t.ot = d.ot
  ck : t.ck = { d.ck with phase := t.ck.phase, aphase := t.ck.aphase }
  phase : (d.ns + t.ck.phase) % 8 = 0
  aphase : (d.ns + t.ck.aphase) % 1000 = 0
  raw : ∀ p, p < 6 → t.r (F.HP_STAT_PRSRAW p) = bit (d.head p).raw
  strap : t.r F.SYS_STRAP_BOOTSEL = d.r F.SYS_STRAP_BOOTSEL

theorem headsResume_locked (d : Dev) : Locked d (headsResume (edgesSet d)) := by
  have side := aside_headsResume (edgesSet d)
  refine ⟨side.tlt, (side.r _ (by decide)).trans ?_, side.mem, side.co, side.ot, ?_, ?_, ?_, fun p h => headsResume_shows h _,
    (side.r _ (by decide)).trans ?_⟩
  · exact set_r_same d (f := F.CK_STAT_PLLLOCK) rfl
  · rw [side.ck]; rfl
  · rw [side.ck]
    show (d.ns + (8 - d.ns % 8) % 8) % 8 = 0
    omega
  · rw [side.ck]
    show (d.ns + (1000 - d.ns % 1000) % 1000) % 1000 = 0
    omega
  · exact set_r_other d (f := F.CK_STAT_PLLLOCK) (by decide)

theorem bootLatch_frame (sel : Bool) (d : Dev) :
    bootLatch sel d = { d with regs := (bootLatch sel d).regs, ck := { d.ck with boot := .sense } } := by
  unfold bootLatch
  cases d.ck.resample <;> rfl

theorem bootLatch_r_other (sel : Bool) (d : Dev) {f : Fld} (h : f.key ≠ F.SYS_STRAP_BOOTSEL.key) : (bootLatch sel d).r f = d.r f := by
  unfold bootLatch
  cases d.ck.resample
  · rfl
  · exact r_w_other d _ h

theorem bootLatch_strap (sel : Bool) (d : Dev) :
    (bootLatch sel d).r F.SYS_STRAP_BOOTSEL = if d.ck.resample = true then bit sel else d.r F.SYS_STRAP_BOOTSEL := by
  unfold bootLatch
  cases d.ck.resample
  · rfl
  · refine (r_w_same ..).trans ?_
    cases sel <;> rfl

theorem not_strap_prsraw (p : Nat) : (F.HP_STAT_PRSRAW p).key ≠ F.SYS_STRAP_BOOTSEL.key := by
  simp only [Fld.key, F.HP_STAT_PRSRAW, F.SYS_STRAP_BOOTSEL]
  omega

theorem pllLock_done (sel : Bool) {d : Dev} (h : AtStep .pll d) (runs : d.ck.xrun = true) :
    let t := pllLock sel d
    t.tlt = 0 ∧ t.r F.CK_STAT_PLLLOCK = 1 ∧ t.mem = d.mem ∧ t.co = d.co ∧ t.ot = d.ot ∧
      t.ck = { d.ck with boot := if d.ck.resetLow then .resetn else .sense, phase := t.ck.phase, aphase := t.ck.aphase } ∧
      (d.ns + t.ck.phase) % 8 = 0 ∧ (d.ns + t.ck.aphase) % 1000 = 0 ∧ (∀ p, p < 6 → t.r (F.HP_STAT_PRSRAW p) = bit (d.head p).raw) ∧
      t.r F.SYS_STRAP_BOOTSEL = if d.ck.resetLow = false ∧ d.ck.resample = true then bit sel else d.r F.SYS_STRAP_BOOTSEL := by
  have locked := headsResume_locked d
  rw [pllLock_reset sel h runs]
  generalize headsResume (edgesSet d) = e at locked
  have resample : e.ck.resample = d.ck.resample := by rw [locked.ck]
  cases d.ck.resetLow
  · rw [if_neg Bool.false_ne_true]
    have ck : (bootLatch sel e).ck = { e.ck with boot := .sense } := by rw [bootLatch_frame]
    have other {f : Fld} (h : f.key ≠ F.SYS_STRAP_BOOTSEL.key) := bootLatch_r_other sel e h
    refine ⟨?_, (other (by decide)).trans locked.lock, ?_, ?_, ?_, ?_, ?_, ?_, fun p hp => (other (not_strap_prsraw p)).trans (locked.raw p hp), ?_⟩
    · exact (congrArg Dev.tlt (bootLatch_frame sel e)).trans locked.tlt
    · exact (congrArg Dev.mem (bootLatch_frame sel e)).trans locked.mem
    · exact (congrArg Dev.co (bootLatch_frame sel e)).trans locked.co
    · exact (congrArg Dev.ot (bootLatch_frame sel e)).trans locked.ot
    · show (bootLatch sel e).ck = _
      rw [ck]
      exact congrArg (fun c : Ck => { c with boot := .sense }) locked.ck
    · exact (congrArg (fun c : Ck => (d.ns + c.phase) % 8) ck).trans locked.phase
    · exact (congrArg (fun c : Ck => (d.ns + c.aphase) % 1000) ck).trans locked.aphase
    · refine (bootLatch_strap sel e).trans ?_
      rw [resample, locked.strap]
      simp
  · refine ⟨locked.tlt, locked.lock, locked.mem, locked.co, locked.ot, ?_, locked.phase, locked.aphase, locked.raw, locked.strap.trans (by simp)⟩
    exact congrArg (fun c : Ck => { c with boot := .resetn }) locked.ck

theorem resetnRelease_pause (sel : Bool) {d : Dev} (h : AtStep .resetn d) (samples : d.ck.resample = true) :
    resetnRelease sel d = (d.w F.SYS_STRAP_BOOTSEL (bit sel)).onCk fun c => { c with resetLow := false, boot := .sense } := by
  refine (if_pos h).trans ?_
  have sampled : (d.onCk fun c => { c with resetLow := false }).ck.resample = true := samples
  unfold bootLatch
  simp only [sampled, if_true]
  rfl

theorem resetnRelease_up (sel : Bool) {d : Dev} (h : d.ck.ladder ≠ .resetting) : resetnRelease sel d = d.onCk fun c => { c with resetLow := false } :=
  if_neg fun k => h k.1

end Sys2Proof.Proofs
end

section
/-! PROOFS. Sensing and the monitor's entry. -/

namespace Sys2Proof.Proofs

open Sys2Proof.Machine Sys2Proof.Laws

/-! ### Sensing fills the shadows [05 R94; 04 R68] -/

/-- The registers that follow what is sensed. -/
def sensedFields : List Fld :=
  [F.OT_LOCK_WLK, F.OT_LOCK_XLK, F.SYS_SERL_SER, F.SYS_SERH_SER, F.SYS_BOOT_SHV, F.KY_LC_CODE, F.TP_STAT_CFULL, F.KY_STAT_TESTROOT, F.KY_LC_SEEDBAD]

/-- From `d` to `t` words have been sensed: the shadows, the registers that follow them and the free values drawn have moved. -/
structure Sensed (d t : Dev) : Prop where
  frame : t = { d with draws := t.draws, regs := t.regs, ot := { d.ot with shadow := t.ot.shadow } }
  r : SameRegs sensedFields d t

theorem Sensed.refl (d : Dev) : Sensed d d := ⟨rfl, fun _ _ => rfl⟩

theorem Sensed.trans {d e t : Dev} (h : Sensed d e) (k : Sensed e t) : Sensed d t :=
  ⟨k.frame.trans (by rw [h.frame]), fun f hf => (k.r f hf).trans (h.r f hf)⟩

theorem Sensed.fuses {d t : Dev} (h : Sensed d t) : t.ot.fuses = d.ot.fuses := by rw [h.frame]

theorem Sensed.margl {d t : Dev} (h : Sensed d t) (w : Nat) : margl t w = margl d w := by rw [Machine.margl, Machine.margl, h.fuses]

theorem Sensed.weakBits {d t : Dev} (h : Sensed d t) (w : Nat) : weakBits t w = weakBits d w := by
  simp only [Machine.weakBits, Machine.margh, Machine.margl, h.fuses]

theorem sensed_w (d : Dev) {f : Fld} (v : Nat) (h : f ∈ sensedFields) : Sensed d (d.w f v) :=
  ⟨rfl, fun _ hg => r_w_other d v fun e => hg (e ▸ List.mem_map_of_mem h)⟩

theorem sensed_shadowRegs (d : Dev) : Sensed d (shadowRegs d) := (sensed_w d _ (by decide)).trans (sensed_w _ _ (by decide))

theorem normalRead_strong {d : Dev} {w : Nat} (strong : weakBits d w = 0) : normalRead d w = (margl d w, d) := if_pos strong

theorem sensed_normalRead (d : Dev) (w : Nat) : Sensed d (normalRead d w).2 := by
  unfold normalRead
  split
  · exact .refl d
  · exact ⟨rfl, fun _ _ => rfl⟩

/-- Word `w` is sensed as `v`. -/
def senseTo (w v : Nat) (d : Dev) : Dev := shadowRegs (d.onOt fun o => { o with shadow := Tab.setD o.shadow w 0 v })

theorem resense_eq (w : Nat) (d : Dev) : resense w d = senseTo w (normalRead d w).1 (normalRead d w).2 := rfl

theorem sensed_senseTo (w v : Nat) (d : Dev) : Sensed d (senseTo w v d) :=
  Sensed.trans (e := d.onOt fun o => { o with shadow := Tab.setD o.shadow w 0 v }) ⟨rfl, fun _ _ => rfl⟩ (sensed_shadowRegs _)

theorem sensed_resense (w : Nat) (d : Dev) : Sensed d (resense w d) := (sensed_normalRead d w).trans (sensed_senseTo ..)

/-- Word `w` holds no weak bit, and its shadow is what margin-low reads. -/
def Shadowed (w : Nat) (d : Dev) : Prop := weakBits d w = 0 → shadowOf d w = margl d w

theorem shadowOf_senseTo (w v k : Nat) (d : Dev) : shadowOf (senseTo w v d) k = if k = w then v else shadowOf d k := by
  show Tab.getD (Tab.setD d.ot.shadow w 0 v) k 0 = _
  split
  · rename_i h
    rw [h, tab_getD_setD_same]
  · rename_i h
    exact tab_getD_setD_other _ _ _ _ h

theorem resense_shadows (w : Nat) (d : Dev) : Shadowed w (resense w d) := by
  intro strong
  rw [(sensed_resense w d).weakBits] at strong
  rw [(sensed_resense w d).margl, resense_eq, normalRead_strong strong, shadowOf_senseTo, if_pos rfl]

theorem resense_keeps (w k : Nat) (d : Dev) (h : Shadowed k d) : Shadowed k (resense w d) := by
  by_cases same : k = w
  · exact same ▸ resense_shadows k d
  · intro strong
    rw [(sensed_resense w d).weakBits] at strong
    have read : shadowOf (normalRead d w).2 k = shadowOf d k := by
      unfold normalRead
      split <;> rfl
    rw [(sensed_resense w d).margl, resense_eq, shadowOf_senseTo, if_neg same, read, h strong]

theorem tab_get_none {α : Type} {t : Tab α} {k : Nat} (absent : k ∉ t.map Prod.fst) : Tab.get? t k = none := by
  induction t with
  | nil => rfl
  | cons e t ih =>
    rw [List.map_cons, List.mem_cons, not_or] at absent
    simp [Tab.get?, ih absent.2, Ne.symm absent.1]

/-- A burned word is one of the words listed. -/
theorem burned_listed {d : Dev} {w : Nat} (h : margh d w ≠ 0) : w ∈ d.ot.fuses.map Prod.fst := by
  by_contra absent
  have none : Tab.get? d.ot.fuses w = none := tab_get_none absent
  exact h (by simp [margh, Tab.getD, none])

/-- The shadows are filled. -/
def shadowsFilled (d : Dev) : Dev := forAll (d.ot.fuses.map Prod.fst) resense d

theorem sensed_shadowsFilled (d : Dev) : Sensed d (shadowsFilled d) :=
  forAll_keeps (P := Sensed d) (fun w e _ h => h.trans (sensed_resense w e)) (.refl d)

theorem shadowsFilled_shadows {d : Dev} {w : Nat} (h : margh d w ≠ 0) : Shadowed w (shadowsFilled d) :=
  forAll_reaches (fun k e => resense_keeps k w e) (resense_shadows w) (burned_listed h) d

/-- The serial is loaded but after a sense error. -/
def serialLoaded (d : Dev) : Dev :=
  if d.b F.SYS_BOOT_SNSERR then d else (d.w F.SYS_SERL_SER (shadowOf d 0)).w F.SYS_SERH_SER (shadowOf d 1)

theorem senseAll_eq (d : Dev) : senseAll d = serialLoaded (shadowRegs (shadowsFilled d)) := rfl

theorem sensed_serialLoaded (d : Dev) : Sensed d (serialLoaded d) := by
  unfold serialLoaded
  split
  · exact .refl d
  · exact (sensed_w d _ (by decide)).trans (sensed_w _ _ (by decide))

theorem sensed_senseAll (d : Dev) : Sensed d (senseAll d) :=
  ((sensed_shadowsFilled d).trans (sensed_shadowRegs _)).trans (sensed_serialLoaded _)

theorem senseAll_shadows {d : Dev} {w : Nat} (h : margh d w ≠ 0) : Shadowed w (senseAll d) := by
  have same : shadowOf (senseAll d) w = shadowOf (shadowsFilled d) w := by
    rw [senseAll_eq, serialLoaded]
    split <;> rfl
  have filled := sensed_shadowsFilled d
  have all := sensed_senseAll d
  intro strong
  rw [all.weakBits, ← filled.weakBits] at strong
  rw [same, shadowsFilled_shadows h strong, filled.margl, all.margl]

/-- What sensing leaves where it did not fail. -/
def sensedWell (d : Dev) : Dev := seedBadRefresh (countRegs ((senseAll d).set F.SYS_BOOT_SHV))

theorem sensed_countRegs (d : Dev) : Sensed d (countRegs d) :=
  ((sensed_w d _ (by decide)).trans (sensed_w _ _ (by decide))).trans (sensed_w _ _ (by decide))

theorem sensed_sensedWell (d : Dev) : Sensed d (sensedWell d) :=
  (((sensed_senseAll d).trans (sensed_w _ 1 (by decide))).trans (sensed_countRegs _)).trans (sensed_w _ _ (by decide))

theorem sensedWell_shadow {d : Dev} {w : Nat} (burned : margh d w ≠ 0) (strong : weakBits d w = 0) : shadowOf (sensedWell d) w = margl d w := by
  have all := sensed_senseAll d
  have refreshed (e : Dev) : (seedBadRefresh (countRegs e)).ot = e.ot := by simp [seedBadRefresh, countRegs]
  have same : shadowOf (sensedWell d) w = shadowOf (senseAll d) w := by
    rw [shadowOf, sensedWell, refreshed]
    rfl
  rw [same, senseAll_shadows burned ((all.weakBits w).trans strong), all.margl]

theorem sensedWell_shv (d : Dev) : (sensedWell d).r F.SYS_BOOT_SHV = 1 := by
  have counts (e : Dev) : (countRegs e).r F.SYS_BOOT_SHV = e.r F.SYS_BOOT_SHV := by
    unfold countRegs
    rw [r_w_other _ _ (by decide), r_w_other _ _ (by decide), r_w_other _ _ (by decide)]
  rw [sensedWell, seedBadRefresh, r_w_other _ _ (by decide), counts, set_r_same _ rfl]

theorem sensedWell_life (d : Dev) : (sensedWell d).r F.KY_LC_CODE = lifeCode (lifeCycle d) % 256 := by
  have life : lifeCycle ((senseAll d).set F.SYS_BOOT_SHV) = lifeCycle d := by
    have fuses : ((senseAll d).set F.SYS_BOOT_SHV).ot.fuses = d.ot.fuses := (sensed_senseAll d).fuses
    simp only [lifeCycle, securityCount, margh, fuses]
  rw [sensedWell, seedBadRefresh, r_w_other _ _ (by decide), countRegs, r_w_other _ _ (by decide), r_w_other _ _ (by decide), r_w_same, life]
  rfl

end Sys2Proof.Proofs
end

section
/-! PROOFS. The monitor's entry and the UART's rate. -/

namespace Sys2Proof.Proofs

open Sys2Proof.Machine Sys2Proof.Laws

/-! ### The monitor enters [04 R69, R70, R73] -/

/-- Program RAM and data RAM unwritten, in Run. -/
def ramCleared (d : Dev) : Dev := ((d.clearMem progBase progSize).clearMem dataBase dataSize).onCk fun c => { c with ladder := .run, boot := .up }

/-- The monitor has entered. -/
def monitorEntry (d : Dev) : Dev := openHost (ramCleared d)

/-- The fields of the ports that the monitor opens. -/
def portFields : List Fld := [F.SP_SCTL_EN, F.SP_SCTL_MODE, F.UA_CTL_RXEN, F.UA_CTL_TXEN]

theorem openHost_frame (d : Dev) : openHost d = { d with regs := (openHost d).regs, ck := { d.ck with host := true } } := by
  unfold openHost
  simp only
  split
  · rfl
  · split <;> rfl

theorem sameRegs_openHost (d : Dev) : SameRegs portFields d (openHost d) := by
  intro f h
  simp only [portFields, List.map_cons, List.map_nil, List.mem_cons, List.not_mem_nil, or_false, not_or] at h
  obtain ⟨en, mode, rx, tx⟩ := h
  unfold openHost
  simp only
  split
  · rw [clr_r_other _ mode, set_r_other _ en, onCk_r]
  · split
    · rw [set_r_other _ tx, set_r_other _ rx, onCk_r]
    · rfl

theorem openHost_slave {d : Dev} (h : bootPath d = 2) : (openHost d).r F.SP_SCTL_EN = 1 := by
  have path : bootPath (d.onCk fun c => { c with host := true }) = 2 := h
  unfold openHost
  simp only [path, if_true]
  rw [clr_r_other _ (by decide), set_r_same _ rfl]

theorem openHost_uart {d : Dev} (h : bootPath d = 1) (known : d.r F.SYS_BOOT_BAUDOK = 1) :
    (openHost d).r F.UA_CTL_RXEN = 1 ∧ (openHost d).r F.UA_CTL_TXEN = 1 := by
  have path : bootPath (d.onCk fun c => { c with host := true }) = 1 := h
  have rate : (d.onCk fun c => { c with host := true }).b F.SYS_BOOT_BAUDOK = true := b_of_ne (by rw [onCk_r, known]; decide)
  unfold openHost
  simp only [path, rate, if_true, OfNat.one_ne_ofNat, if_false]
  exact ⟨by rw [set_r_other _ (by decide), set_r_same _ rfl], set_r_same _ rfl⟩

theorem monitorEntry_frame (d : Dev) : monitorEntry d = { d with
    regs := (monitorEntry d).regs, mem := (ramCleared d).mem, ck := { d.ck with ladder := .run, boot := .up, host := true } } := by
  rw [monitorEntry, openHost_frame]
  rfl

theorem monitorEntry_ot (d : Dev) : (monitorEntry d).ot = d.ot := by rw [monitorEntry_frame]

theorem monitorEntry_ck (d : Dev) : (monitorEntry d).ck = { d.ck with ladder := .run, boot := .up, host := true } := by rw [monitorEntry_frame]

theorem monitorEntry_byte (d : Dev) (x : Nat) : (monitorEntry d).byte x = (ramCleared d).byte x := byte_congr (by rw [monitorEntry_frame]) x

theorem sameRegs_monitorEntry (d : Dev) : SameRegs portFields d (monitorEntry d) := fun f h => (sameRegs_openHost _ f h).trans rfl

theorem ramCleared_byte (d : Dev) (x : Nat) :
    (ramCleared d).byte x = if inProg x = true ∨ (dataBase ≤ x ∧ x < dataBase + dataSize) then memDefault else d.byte x := by
  have prog : inProg x = true ↔ progBase ≤ x ∧ x < progBase + progSize := decide_eq_true_iff
  show ((d.clearMem progBase progSize).clearMem dataBase dataSize).byte x = _
  have outside (a n : Nat) : x < a ∨ a + n ≤ x ↔ ¬ (a ≤ x ∧ x < a + n) := by omega
  simp only [byte_clearMem, prog, outside, ite_not]
  by_cases h : dataBase ≤ x ∧ x < dataBase + dataSize
  · simp only [h, and_self, or_true, if_true]
  · simp only [h, if_false, or_false]

theorem bootPath_congr {d t : Dev} (h : t.r F.SYS_STRAP_BOOTSEL = d.r F.SYS_STRAP_BOOTSEL) : bootPath t = bootPath d := by
  rw [bootPath, bootPath, Dev.b, Dev.b, h]

theorem monitorEntry_slave {d : Dev} (h : bootPath d = 2) : (monitorEntry d).r F.SP_SCTL_EN = 1 := openHost_slave (d := ramCleared d) h

theorem monitorEntry_uart {d : Dev} (h : bootPath d = 1) (known : d.r F.SYS_BOOT_BAUDOK = 1) :
    (monitorEntry d).r F.UA_CTL_RXEN = 1 ∧ (monitorEntry d).r F.UA_CTL_TXEN = 1 := openHost_uart (d := ramCleared d) h known

/-- The monitor's entry on a device `d` whose port waits for the host. -/
theorem monitorEntry_ready {d : Dev} (bright : d.ck.brown = false) :
    (bootPath d = 1 → d.r (F.Q_STAT_WM 0) = 0 → rtsn (monitorEntry d) = .low) ∧
      (bootPath d = 2 → slaveBusy d = false → sbusyn (monitorEntry d) = .high) := by
  have regs := sameRegs_monitorEntry d
  have frame := monitorEntry_frame d
  have path := bootPath_congr (regs F.SYS_STRAP_BOOTSEL (by decide))
  have mark := regs (F.Q_STAT_WM 0) (by decide)
  have host : (monitorEntry d).ck.host = true := by rw [frame]
  have brown : (monitorEntry d).ck.brown = false := by rw [frame]; exact bright
  refine ⟨fun uart below => ?_, fun slave free => ?_⟩
  · have low : (monitorEntry d).b (F.Q_STAT_WM 0) = false := b_of_zero (mark.trans below)
    simp [rtsn, pinOut_bright _ brown, uartOpen, host, path, uart, low]
  · have staged : slaveStaged (monitorEntry d) = slaveStaged d := by rw [frame]; rfl
    have tx : (monitorEntry d).sp.tx = d.sp.tx := by rw [frame]
    have busy : slaveBusy (monitorEntry d) = slaveBusy d := by rw [slaveBusy, slaveBusy, staged, tx, Dev.b, Dev.b, mark]
    simp [sbusyn, pinOut_bright _ brown, slaveOpen, host, path, slave, busy, free]

/-! ### Sensing done [04 R68-R70; 06 R134] -/

/-- The device with its shadows filled, or with SNSERR and a zero identity. -/
def senseShown (ok : Bool) (d : Dev) : Dev := if ok then sensedWell d else ((d.set F.SYS_BOOT_SNSERR).w F.SYS_ID_DEVICE 0).w F.SYS_ID_STEP 0

/-- The device with the sources of `alarms` detected. -/
def alarmsShown (alarms : Nat) (d : Dev) : Dev := if alarms % 64 = 0 then d else tamperDetect (alarms % 64) d

theorem otpSenseDone_eq (ok : Bool) (alarms : Nat) {d : Dev} (h : AtStep .sense d) : otpSenseDone ok alarms d =
    let t := monitorEntry (alarmsShown alarms (senseShown ok d))
    if t.b F.TP_STAT_QPEND ∨ t.r F.TP_LIVE_SRC ≠ 0 then enterQuarantine t else t :=
  if_neg fun k => k.elim (fun k => k h.1) fun k => k h.2

theorem senseShown_r_other (ok : Bool) (d : Dev) {f : Fld} (h : f.key ∉ (sensedFields ++ [F.SYS_BOOT_SNSERR, F.SYS_ID_DEVICE, F.SYS_ID_STEP]).map Fld.key) :
    (senseShown ok d).r f = d.r f := by
  simp only [List.map_append, List.mem_append, List.map_cons, List.map_nil, List.mem_cons, List.not_mem_nil, or_false, not_or] at h
  obtain ⟨sensed, failed, device, step⟩ := h
  cases ok
  · exact ((r_w_other _ _ step).trans (r_w_other _ _ device)).trans (set_r_other d failed)
  · exact (sensed_sensedWell d).r f sensed

theorem otpSenseDone_calm (ok : Bool) {d : Dev} (h : AtStep .sense d) (qpend : d.r F.TP_STAT_QPEND = 0) (live : d.r F.TP_LIVE_SRC = 0) :
    otpSenseDone ok 0 d = monitorEntry (senseShown ok d) := by
  have shown {f : Fld} (port : f.key ∉ portFields.map Fld.key)
      (other : f.key ∉ (sensedFields ++ [F.SYS_BOOT_SNSERR, F.SYS_ID_DEVICE, F.SYS_ID_STEP]).map Fld.key) :=
    (sameRegs_monitorEntry (senseShown ok d) f port).trans (senseShown_r_other ok d other)
  have qpend' := (shown (f := F.TP_STAT_QPEND) (by decide) (by decide)).trans qpend
  have live' := (shown (f := F.TP_LIVE_SRC) (by decide) (by decide)).trans live
  rw [otpSenseDone_eq ok 0 h]
  exact if_neg fun k => k.elim (Bool.eq_false_iff.mp (b_of_zero qpend')) fun k => k live'

/-- What the monitor finds once sensing has succeeded with no alarm. -/
theorem sensedWell_entry (d : Dev) :
    let t := monitorEntry (sensedWell d)
    t.ck = { d.ck with ladder := .run, boot := .up, host := true } ∧ t.r F.SYS_BOOT_SHV = 1 ∧
      (∀ w, margh d w ≠ 0 → weakBits d w = 0 → shadowOf t w = margl d w) ∧ t.ot.fuses = d.ot.fuses ∧
      t.r F.KY_LC_CODE = lifeCode (lifeCycle d) % 256 ∧ (bootPath d = 2 → t.r F.SP_SCTL_EN = 1) ∧
      (bootPath d = 1 → d.r F.SYS_BOOT_BAUDOK = 1 → t.r F.UA_CTL_RXEN = 1 ∧ t.r F.UA_CTL_TXEN = 1) ∧
      (d.ck.brown = false → (bootPath d = 1 → d.r (F.Q_STAT_WM 0) = 0 → rtsn t = .low) ∧ (bootPath d = 2 → slaveBusy d = false → sbusyn t = .high)) ∧
      (∀ x, t.byte x = if inProg x = true ∨ (dataBase ≤ x ∧ x < dataBase + dataSize) then memDefault else d.byte x) := by
  have sensed := sensed_sensedWell d
  have regs := sameRegs_monitorEntry (sensedWell d)
  have ck : (sensedWell d).ck = d.ck := by rw [sensed.frame]
  have mem : (sensedWell d).mem = d.mem := by rw [sensed.frame]
  have path : bootPath (sensedWell d) = bootPath d := bootPath_congr (sensed.r _ (by decide))
  have rate : (sensedWell d).r F.SYS_BOOT_BAUDOK = d.r F.SYS_BOOT_BAUDOK := sensed.r _ (by decide)
  have mark : (sensedWell d).r (F.Q_STAT_WM 0) = d.r (F.Q_STAT_WM 0) := sensed.r _ (by decide)
  have busy : slaveBusy (sensedWell d) = slaveBusy d := by
    have staged : slaveStaged (sensedWell d) = slaveStaged d := by rw [sensed.frame]; rfl
    have tx : (sensedWell d).sp.tx = d.sp.tx := by rw [sensed.frame]
    rw [slaveBusy, slaveBusy, staged, tx, Dev.b, Dev.b, mark]
  have shadow (w : Nat) : shadowOf (monitorEntry (sensedWell d)) w = shadowOf (sensedWell d) w := by rw [shadowOf, shadowOf, monitorEntry_ot]
  have ready := monitorEntry_ready (d := sensedWell d)
  rw [ck, path, mark, busy] at ready
  refine ⟨by rw [monitorEntry_ck, ck], (regs _ (by decide)).trans (sensedWell_shv d), fun w burned strong => (shadow w).trans (sensedWell_shadow burned strong),
    by rw [monitorEntry_ot, sensed.fuses], (regs _ (by decide)).trans (sensedWell_life d), fun slave => monitorEntry_slave (path.trans slave),
    fun uart known => monitorEntry_uart (path.trans uart) (rate.trans known), ready, fun x => ?_⟩
  rw [monitorEntry_byte, ramCleared_byte, byte_congr mem x]

/-- What the monitor finds once sensing has failed with no alarm. -/
theorem senseFailed_entry (d : Dev) :
    let t := monitorEntry (senseShown false d)
    t.ck.ladder = .run ∧ t.r F.SYS_BOOT_SNSERR = 1 ∧ t.r F.SYS_ID_DEVICE = 0 ∧ t.r F.SYS_ID_STEP = 0 ∧ monitorLife t = 3 := by
  have regs := sameRegs_monitorEntry (senseShown false d)
  have failed : (monitorEntry (senseShown false d)).r F.SYS_BOOT_SNSERR = 1 := by
    refine (regs _ (by decide)).trans ?_
    exact ((r_w_other _ _ (by decide)).trans (r_w_other _ _ (by decide))).trans (set_r_same d rfl)
  refine ⟨by rw [monitorEntry_ck], failed, (regs _ (by decide)).trans ?_, (regs _ (by decide)).trans (r_w_same ..), ?_⟩
  · exact (r_w_other _ _ (by decide)).trans (r_w_same ..)
  · exact if_pos (b_of_ne (by rw [failed]; decide))

/-! ### An alarm at sensing [06 R132, R134] -/

/-- Source `s` shows as alarming. -/
def sourceShown (s : Nat) (d : Dev) : Dev := (d.set (tamperLatch s)).orBit F.TP_LIVE_SRC s

theorem tamperDetect_eq (m : Nat) (d : Dev) : tamperDetect m d =
    let t := otAbort (keyAbort (forAll ((List.range 6).filter fun s => bitAt m s) sourceShown d))
    if decide (d.r F.TP_LIVE_SRC = 0) then beadDue (t.set F.TP_STAT_QPEND) else t := rfl

theorem tamperLatch_not_live (s : Nat) : F.TP_LIVE_SRC.key ≠ (tamperLatch s).key := by
  match s with
  | 0 | 1 | 2 | 3 | 4 | 5 => decide
  | n + 6 => exact show F.TP_LIVE_SRC.key ≠ F.TP_STAT_LOOP.key by decide

theorem sourceShown_live (s : Nat) (d : Dev) : (sourceShown s d).r F.TP_LIVE_SRC = (d.r F.TP_LIVE_SRC ||| 2 ^ s) % 64 := by
  rw [sourceShown, Dev.orBit, r_w_same, set_r_other d (tamperLatch_not_live s)]
  rfl

theorem sourceShown_bit (s k : Nat) (h : k < 6) (d : Dev) :
    bitAt ((sourceShown s d).r F.TP_LIVE_SRC) k = (bitAt (d.r F.TP_LIVE_SRC) k || decide (s = k)) := by
  rw [sourceShown_live, bitAt, show 64 = 2 ^ 6 from rfl, Nat.testBit_mod_two_pow, Nat.testBit_or, Nat.testBit_two_pow]
  simp [h, bitAt]

theorem tamperDetect_live {m : Nat} (some : m % 64 ≠ 0) (d : Dev) : (tamperDetect m d).r F.TP_LIVE_SRC ≠ 0 := by
  obtain ⟨k, hk, set⟩ : ∃ k < 6, bitAt m k = true := by
    by_contra none
    refine some (Nat.eq_of_testBit_eq fun i => ?_)
    rw [show 64 = 2 ^ 6 from rfl, Nat.testBit_mod_two_pow, Nat.zero_testBit]
    by_contra h
    simp only [Bool.not_eq_false, Bool.and_eq_true, decide_eq_true_eq] at h
    exact none ⟨i, h.1, h.2⟩
  have shown : bitAt ((forAll ((List.range 6).filter fun s => bitAt m s) sourceShown d).r F.TP_LIVE_SRC) k = true :=
    forAll_reaches (P := fun e => bitAt (e.r F.TP_LIVE_SRC) k = true) (fun s e h => by rw [sourceShown_bit s k hk, h, Bool.true_or])
      (fun e => by rw [sourceShown_bit k k hk]; simp) (List.mem_filter.mpr ⟨List.mem_range.mpr hk, set⟩) d
  have live : (tamperDetect m d).r F.TP_LIVE_SRC = (forAll ((List.range 6).filter fun s => bitAt m s) sourceShown d).r F.TP_LIVE_SRC := by
    rw [tamperDetect_eq]
    dsimp only
    split
    · rw [beadDue_r_other _ (by decide) (by decide), set_r_other _ (by decide), otAbort_r, keyAbort_r_other _ (by decide)]
    · rw [otAbort_r, keyAbort_r_other _ (by decide)]
  intro zero
  rw [← live, zero] at shown
  simp [bitAt] at shown

theorem verbsDropped_kfull (d : Dev) : (verbsDropped d).r F.KY_STAT_KFULL = 0 := kregClear_kfull d

theorem enterQuarantine_noKey (d : Dev) : (enterQuarantine d).r F.KY_STAT_KFULL = 0 := by
  refine ((aside_enterQuarantine d).r _ (by decide)).trans ?_
  rw [quarantined, stateQuarantine_r, r_w_other _ _ (by decide), r_w_other _ _ (by decide), verbsDropped_kfull]

theorem otpSenseDone_alarm (ok : Bool) {alarms : BitVec 6} (some : alarms ≠ 0) {d : Dev} (h : AtStep .sense d) :
    otpSenseDone ok alarms.toNat d = enterQuarantine (monitorEntry (tamperDetect (alarms.toNat % 64) (senseShown ok d))) := by
  have nonzero : alarms.toNat % 64 ≠ 0 := by
    intro zero
    exact some (BitVec.eq_of_toNat_eq (by simpa [Nat.mod_eq_of_lt alarms.isLt] using zero))
  have shown : alarmsShown alarms.toNat (senseShown ok d) = tamperDetect (alarms.toNat % 64) (senseShown ok d) := if_neg nonzero
  have live := tamperDetect_live (m := alarms.toNat % 64) (by rwa [Nat.mod_mod]) (senseShown ok d)
  rw [otpSenseDone_eq ok _ h, shown]
  exact if_pos (.inr fun k => live ((sameRegs_monitorEntry _ _ (by decide)).symm.trans k))

end Sys2Proof.Proofs
end

section
/-! PROOFS. The UART's rate, and the reset ladder as a whole. -/

namespace Sys2Proof.Proofs

open Sys2Proof.Machine Sys2Proof.Laws

/-! ### The UART's rate [04 R71, R72] -/

/-- The monitor waits for a CR on the UART. -/
def WaitsForRate (d : Dev) : Prop := d.ck.ladder = .run ∧ d.ck.host = true ∧ started d = false ∧ bootPath d = 1 ∧ d.r F.SYS_BOOT_BAUDOK = 0

/-- The rate is known, and the UART is open. -/
def rateFixed (n : Nat) (d : Dev) : Dev := (((d.w F.UA_DIV_DIV n).set F.SYS_BOOT_BAUDOK).set F.UA_CTL_RXEN).set F.UA_CTL_TXEN

theorem autobaud_waits {d : Dev} (h : WaitsForRate d) (t c : Nat) (stop : Bool) : autobaudCharacter t c stop d =
    let n := (2 * t + 9) / 18
    if decide (9408 * t ≤ 18000000000 ∧ 18000000000 ≤ 12240000 * t) ∧ decide (98 * 9 * n ≤ 100 * t ∧ 100 * t ≤ 102 * 9 * n ∧ 160 ≤ n) ∧ c = 13 ∧ stop
    then prompt 1 (queueOut 1 0 crlf (rateFixed n d)) else d.w F.SYS_BOOT_ABFAIL (min (d.r F.SYS_BOOT_ABFAIL + 1) 255) := by
  obtain ⟨runs, host, before, path, unknown⟩ := h
  refine if_neg ?_
  simp [runs, host, before, path, b_of_zero unknown]

theorem autobaud_other {d : Dev} (h : WaitsForRate d) (t : Nat) (c : Byte) {stop : Bool} (other : c ≠ 13 ∨ stop = false) :
    autobaudCharacter t c.toNat stop d = d.w F.SYS_BOOT_ABFAIL (min (d.r F.SYS_BOOT_ABFAIL + 1) 255) := by
  rw [autobaud_waits h]
  refine if_neg fun ⟨_, _, cr, sound⟩ => ?_
  rcases other with h | h
  · exact h (BitVec.eq_of_toNat_eq cr)
  · simp [h] at sound

/-- A CR whose nine bit times are `n` divisor units each. -/
theorem autobaud_cr {d : Dev} (h : WaitsForRate d) {n : Nat} (fast : 164 ≤ n) (slow : n ≤ 212585) :
    autobaudCharacter (9 * n) 13 true d = prompt 1 (queueOut 1 0 crlf (rateFixed n d)) := by
  have near : (2 * (9 * n) + 9) / 18 = n := by omega
  rw [autobaud_waits h]
  dsimp only
  rw [near]
  refine if_pos ⟨decide_eq_true ?_, decide_eq_true ?_, rfl, rfl⟩ <;> omega

/-- The lines in line are `l`. -/
def withOut (l : List (Nat × Nat × List Nat)) (d : Dev) : Dev := d.onSt fun s => { s with out := l }

theorem withOut_same {d : Dev} {l : List (Nat × Nat × List Nat)} (h : d.st.out = l) : withOut l d = d := by
  subst h
  rfl

theorem flushOut_one {d : Dev} (heard : d.ck.silent = false) (m : Nat) {bs : List Nat} (room : d.ua.tx.length + bs.length ≤ 2048) :
    flushOut (withOut [(1, m, bs)] d) = sendBytes 1 bs (withOut [] d) := by
  have silent : (withOut [(1, m, bs)] d).ck.silent = false := heard
  have fits : hasRoom (withOut [(1, m, bs)] d) 1 bs.length = true := decide_eq_true room
  show flushN 1 (withOut [(1, m, bs)] d) = _
  simp only [flushN, show (withOut [(1, m, bs)] d).st.out = [(1, m, bs)] from rfl, silent, fits, Bool.false_eq_true, if_false, if_true,
    OfNat.one_ne_ofNat]
  rfl

/-- Bytes for the UART leave at once where nothing waits and there is room. -/
theorem queueOut_uart {d : Dev} (out : d.st.out = []) (heard : d.ck.silent = false) (m : Nat) {bs : List Nat} (room : d.ua.tx.length + bs.length ≤ 2048) :
    queueOut 1 m bs d = { d with ua := { d.ua with tx := d.ua.tx ++ bs } } := by
  have queued : queueOut 1 m bs d = flushOut (withOut [(1, m, bs)] d) := by
    show flushOut (withOut (d.st.out ++ [(1, m, bs)]) d) = _
    rw [out, List.nil_append]
  rw [queued, flushOut_one heard m room, withOut_same out]
  rfl

theorem prompt_uart {d : Dev} (console : d.st.machU = false) : prompt 1 d = queueOut 1 0 (ascii "FD> ") d := if_pos ⟨rfl, console⟩

theorem echo_uart {d : Dev} (out : d.st.out = []) (heard : d.ck.silent = false) (console : d.st.machU = false) (empty : d.ua.tx = []) :
    prompt 1 (queueOut 1 0 crlf d) = { d with ua := { d.ua with tx := crlf ++ ascii "FD> " } } := by
  have echoed : queueOut 1 0 crlf d = { d with ua := { d.ua with tx := crlf } } := by
    rw [queueOut_uart out heard 0 (by rw [empty]; decide), empty]
    rfl
  rw [echoed, prompt_uart (d := { d with ua := { d.ua with tx := crlf } }) console]
  exact queueOut_uart (d := { d with ua := { d.ua with tx := crlf } }) out heard 0 (show crlf.length + (ascii "FD> ").length ≤ 2048 by decide)

theorem rateFixed_r (n : Nat) (small : n < 2 ^ 18) (d : Dev) : (rateFixed n d).r F.UA_DIV_DIV = n ∧ (rateFixed n d).r F.SYS_BOOT_BAUDOK = 1 ∧
    (rateFixed n d).r F.UA_CTL_RXEN = 1 ∧ (rateFixed n d).r F.UA_CTL_TXEN = 1 := by
  unfold rateFixed
  refine ⟨?_, ?_, ?_, set_r_same _ rfl⟩
  · rw [set_r_other _ (by decide), set_r_other _ (by decide), set_r_other _ (by decide), r_w_same]
    exact Nat.mod_eq_of_lt small
  · rw [set_r_other _ (by decide), set_r_other _ (by decide), set_r_same _ rfl]
  · rw [set_r_other _ (by decide), set_r_same _ rfl]

/-! ### The commands of the reset ladder -/

theorem exec_xclkValid (s : State) : exec .xclkValid s = onDev xclkValid s := rfl
theorem exec_resetnRelease (sel : Bool) (s : State) : exec (.resetnRelease sel) s = onDev (resetnRelease sel) s := rfl
theorem exec_otpSenseDone (ok : Bool) (alarms : BitVec 6) (s : State) : exec (.otpSenseDone ok alarms) s = onDev (otpSenseDone ok alarms.toNat) s := rfl
theorem exec_autobaud (t : Nat) (c : Byte) (stop : Bool) (s : State) :
    exec (.autobaudCharacter t c stop) s = onDev (autobaudCharacter t c.toNat stop) s := rfl

/-- Settles O7: each command of the reset ladder by what it does at the step that waits for it. -/
theorem resetLadder : Obligations.ResetLadder := by
  unfold Obligations.ResetLadder
  refine ⟨?_, ?_, ?_, ?_, fun sel => ⟨?_, ?_, ?_⟩, ?_, ?_, fun ok alarms some => ?_, fun n fast slow => ?_, fun t c stop other => ?_⟩
  · exact runs_of_onDev exec_xclkValid fun d h => xclkValid_reset h
  · exact runs_of_onDev exec_xclkValid fun d ⟨waking, runs⟩ => by rw [xclkValid_waking waking, if_pos runs]
  · exact does_of_onDev exec_xclkValid fun d ⟨waking, stopped⟩ => xclkValid_counts waking stopped
  · exact runs_of_onDev exec_xclkValid fun d h => xclkValid_run h
  · exact does_of_onDev (exec_pllLock sel) fun d ⟨h, runs⟩ => pllLock_done sel h runs
  · exact runs_of_onDev (exec_resetnRelease sel) fun d ⟨h, samples⟩ => resetnRelease_pause sel h samples
  · exact runs_of_onDev (exec_resetnRelease sel) fun d h => resetnRelease_up sel h
  · refine does_of_onDev (exec_otpSenseDone true 0) fun d ⟨h, qpend, live⟩ => ?_
    have entry := otpSenseDone_calm true h qpend live
    exact entry ▸ sensedWell_entry d
  · refine does_of_onDev (exec_otpSenseDone false 0) fun d ⟨h, qpend, live⟩ => ?_
    have entry := otpSenseDone_calm false h qpend live
    exact entry ▸ senseFailed_entry d
  · refine does_of_onDev (exec_otpSenseDone ok alarms) fun d h => ?_
    rw [otpSenseDone_alarm ok some h]
    obtain ⟨lstate, qpend, prog, -⟩ := enterQuarantine_reached (monitorEntry (tamperDetect (alarms.toNat % 64) (senseShown ok d)))
    exact ⟨lstate, qpend, enterQuarantine_noKey _, prog⟩
  · refine does_of_onDev (exec_autobaud (9 * n) 13 true) fun d ⟨waits, out, empty, heard, console⟩ => ?_
    obtain ⟨div, known, rx, tx⟩ := rateFixed_r n (by omega) d
    have fixed := autobaud_cr waits fast slow
    rw [echo_uart (d := rateFixed n d) out heard console empty] at fixed
    rw [show BitVec.toNat (13 : Byte) = 13 from rfl, fixed]
    exact ⟨div, known, rx, tx, rfl, rfl, rfl⟩
  · exact runs_of_onDev (exec_autobaud t c stop) fun d waits => autobaud_other waits t c other

end Sys2Proof.Proofs
end

section
/-! PROOFS. What the interpreter sends: a response on the UART and on the slave path, and what sending leaves alone. -/

namespace Sys2Proof.Proofs

open Sys2Proof.Machine Sys2Proof.Laws

/-! ### A line leaves at once [11 R216, R217] -/

theorem flushOut_slave {d : Dev} (heard : d.ck.silent = false) (m : Nat) {bs : List Nat} (room : d.sp.tx.length + bs.length ≤ 1024) :
    flushOut (withOut [(2, m, bs)] d) = sendBytes 2 bs (withOut [] d) := by
  have silent : (withOut [(2, m, bs)] d).ck.silent = false := heard
  have fits : hasRoom (withOut [(2, m, bs)] d) 2 bs.length = true := decide_eq_true room
  show flushN 1 (withOut [(2, m, bs)] d) = _
  simp only [flushN, show (withOut [(2, m, bs)] d).st.out = [(2, m, bs)] from rfl, silent, fits, Bool.false_eq_true, if_false, if_true,
    Nat.reduceEqDiff]
  rfl

/-- Bytes enter the slave's outbound buffer at once where nothing waits and there is room. -/
theorem queueOut_slave {d : Dev} (out : d.st.out = []) (heard : d.ck.silent = false) (m : Nat) {bs : List Nat}
    (room : d.sp.tx.length + bs.length ≤ 1024) : queueOut 2 m bs d = { d with sp := { d.sp with tx := d.sp.tx ++ bs } } := by
  have queued : queueOut 2 m bs d = flushOut (withOut [(2, m, bs)] d) := by
    show flushOut (withOut (d.st.out ++ [(2, m, bs)]) d) = _
    rw [out, List.nil_append]
  rw [queued, flushOut_slave heard m room, withOut_same out]
  rfl

/-- SYS_BOOTERR keeps a code of Table BU-7. -/
def codeNoted (e : Nat) (d : Dev) : Dev := if (60 ≤ e ∧ e ≤ 74) ∨ e = 43 then d.w F.SYS_BOOTERR_CODE e else d

theorem respond_final (c : Ctx) (e : Nat) (d : Dev) : respond c [] e d = flushEvents (prompt c.path (sendLine c (finalText e) (codeNoted e d))) := rfl

theorem codeNoted_frame (e : Nat) (d : Dev) : codeNoted e d = { d with regs := (codeNoted e d).regs } := by
  unfold codeNoted
  split <;> rfl

/-- A final line on the UART in console mode, with the prompt after it. -/
theorem respond_console {c : Ctx} {d : Dev} (path : c.path = 1) (plain : c.frame = false) (console : d.st.machU = false) (out : d.st.out = [])
    (store : d.st.store = []) (empty : d.ua.tx = []) (heard : d.ck.silent = false) {e : Nat} (free : codeNoted e d = d)
    (room : (finalText e).length ≤ 2000) :
    respond c [] e d = { d with ua := { d.ua with tx := finalText e ++ crlf ++ ascii "FD> " } } := by
  have form : lineForm c (finalText e) d = finalText e := by simp [lineForm, machineOn, path, console, plain, spaced]
  have crlfLength : crlf.length = 2 := rfl
  have promptLength : (ascii "FD> ").length = 4 := rfl
  have sent : sendLine c (finalText e) d = { d with ua := { d.ua with tx := finalText e ++ crlf } } := by
    rw [sendLine, form, path, if_neg (by decide), queueOut_uart out heard c.member (by simp [empty, crlfLength]; omega), empty]
    rfl
  rw [respond_final, free, sent, path, prompt_uart (d := { d with ua := { d.ua with tx := finalText e ++ crlf } }) console]
  rw [queueOut_uart (d := { d with ua := { d.ua with tx := finalText e ++ crlf } }) out heard 0 (by simp [crlfLength, promptLength]; omega)]
  exact flushEvents_none store

theorem spaced_pair (a b : List Nat) : spaced [a, b] = a ++ 32 :: b := by simp [spaced, List.intercalate]

theorem sendLine_frame {c : Ctx} {d : Dev} (path : c.path = 2) (frame : c.frame = true) (console : d.st.machS = false) (out : d.st.out = [])
    (empty : d.sp.tx = []) (heard : d.ck.silent = false) {text : List Nat} (room : (tagText c.tag).length + text.length ≤ 1000) :
    sendLine c text d = { d with sp := { d.sp with tx := tagText c.tag ++ 32 :: text ++ crlf } } := by
  have form : lineForm c text d = tagText c.tag ++ 32 :: text := by simp [lineForm, machineOn, path, console, frame, spaced_pair]
  have crlfLength : crlf.length = 2 := rfl
  rw [sendLine, form, path, if_neg (by decide), queueOut_slave out heard c.member (by simp [empty, crlfLength]; omega), empty]
  rfl

/-- A final line on the slave path in console mode, in answer to a record frame. -/
theorem respond_frame {c : Ctx} {d : Dev} (path : c.path = 2) (frame : c.frame = true) (console : d.st.machS = false) (out : d.st.out = [])
    (store : d.st.store = []) (empty : d.sp.tx = []) (heard : d.ck.silent = false) {e : Nat}
    (room : (tagText c.tag).length + (finalText e).length ≤ 1000) :
    respond c [] e d = { codeNoted e d with sp := { d.sp with tx := tagText c.tag ++ 32 :: finalText e ++ crlf } } := by
  have frameOf := codeNoted_frame e d
  have st : (codeNoted e d).st = d.st := by rw [frameOf]
  have sp : (codeNoted e d).sp = d.sp := by rw [frameOf]
  have ck : (codeNoted e d).ck = d.ck := by rw [frameOf]
  have sent := sendLine_frame (d := codeNoted e d) path frame (by rw [st, console]) (by rw [st, out]) (by rw [sp, empty]) (by rw [ck, heard]) room
  have unprompted (t : Dev) : prompt c.path t = t := if_neg fun h => by rw [path] at h; exact absurd h.1 (by decide)
  rw [respond_final, sent, unprompted, sp]
  exact flushEvents_none (show (codeNoted e d).st.store = [] by rw [st, store])

end Sys2Proof.Proofs
end

section
/-! PROOFS. A verb's line: its name is resolved, its checks pass, and its handler acts; a slave frame that carries a line is that line. -/

namespace Sys2Proof.Proofs

open Sys2Proof.Machine Sys2Proof.Laws

/-! ### From a line to its verb [11 R211, Table SL-4] -/

theorem head_ne_eq {v : List Nat} (plain : v.contains 61 = false) : v.head? ≠ some 61 := by
  intro h
  have member : 61 ∈ v := List.mem_of_mem_head? h
  simp [member] at plain

/-- A token with no `=` is no argument. -/
theorem notArgument {v : List Nat} (plain : v.contains 61 = false) :
    ¬ (v.head? = some 61 ∨ (v.contains 61 ∧ v.getLast? = some 61 ∧ (v.filter (· = 61)).length = 1)) := by
  rintro (head | ⟨has, -⟩)
  · exact head_ne_eq plain head
  · exact Bool.eq_false_iff.mp plain has

theorem runLine_builtin {c : Ctx} {a b text v : List Nat} {d : Dev} {ts : List (List Nat)} {t : Toks} {n : Nat} (toks : tokens text = some (v :: ts))
    (args : splitArgs ts = some (t.pos, t.args)) (plain : v.contains 61 = false) (verb : resolve d v = .ok (.builtin n)) :
    (runLine c a b text d).2 = runBuiltin c a b n t d := by
  have name := notArgument plain
  unfold runLine
  simp only [toks, args, name, if_false, verb]

theorem runLine_registered {c : Ctx} {a b text v : List Nat} {d : Dev} {ts : List (List Nat)} {x : List (List Nat) × List (List Nat × List Nat)}
    {i : Nat}
    (toks : tokens text = some (v :: ts)) (args : splitArgs ts = some x) (plain : v.contains 61 = false)
    (verb : resolve d v = .ok (.registered i)) : (runLine c a b text d).2 = if d.r F.SYS_BOOT_LSTATE = 5 then er 73 c d else openVerb c i d := by
  have name := notArgument plain
  unfold runLine
  simp only [toks, args, name, if_false, verb]
  split <;> rfl

/-- The built-in verbs with their names. -/
def builtinVerbs : List (VerbRef × List Nat) := (List.range 21).map fun i => (.builtin i, ascii (verbNames.getD i ""))

/-- The full name of a built-in verb stands for it, whatever verbs are registered. -/
theorem resolve_builtin {v : List Nat} {x : VerbRef × List Nat} (named : builtinVerbs.find? (fun x => decide (x.2 = upper v)) = some x) (d : Dev) :
    resolve d v = .ok x.1 := by
  have found : (allVerbs d).find? (fun x => decide (x.2 = upper v)) = some x := by
    show (builtinVerbs ++ _).find? _ = _
    rw [List.find?_append, named]
    rfl
  unfold resolve
  simp only [found]

theorem resolve_hello (d : Dev) : resolve d (ascii "HELLO") = .ok (.builtin 0) := resolve_builtin (x := (.builtin 0, ascii "HELLO")) (by decide) d

theorem resolve_ledger (d : Dev) : resolve d (ascii "LEDGER") = .ok (.builtin 18) :=
  resolve_builtin (x := (.builtin 18, ascii "LEDGER")) (by decide) d

/-- A line with no operands, whose verb is allowed. -/
theorem runBuiltin_plain {c : Ctx} {a b : List Nat} {n : Nat} {t : Toks} {d : Dev} {act : Ctx → Dev → Dev}
    (handler : handlerOf d a b n t = some (plainHandler ⟨[], []⟩ act)) (allowed : verbState d n t = 0) :
    runBuiltin c a b n t d = byVerb (act c) (acceptLine c d) := by
  unfold runBuiltin
  simp only [handler, allowed]
  rfl

theorem verbLine_ready {via : Via} {d : Dev} (ready : LineReady via d) (name : String) (a b text : List Nat) :
    verbLine (Via.ctx via) name a b text d = (runLine (Via.ctx via) a b (ascii name ++ 32 :: text) d).2 := if_pos ready

/-- What `lineArgs` finds is what the interpreter finds. -/
theorem lineArgs_some {name verb : String} {text : Bytes} {t : Toks} (h : lineArgs name verb text = some t) :
    ∃ ts, tokens (ascii name ++ 32 :: Bytes.nats text) = some (ascii verb :: ts) ∧ splitArgs ts = some (t.pos, t.args) := by
  unfold lineArgs at h
  split at h
  next v ts toks =>
    split at h
    next same =>
      obtain ⟨x, split, rfl⟩ := Option.map_eq_some_iff.mp h
      exact ⟨ts, same ▸ toks, split⟩
    · cases h
  · cases h

/-- The line of a built-in verb whose handler takes no further operands. -/
theorem verbLine_answers {via : Via} {d : Dev} {name verb : String} {text : Bytes} {a b : List Nat} {t : Toks} {n : Nat} {act : Ctx → Dev → Dev}
    (ready : LineReady via d) (args : lineArgs name verb text = some t) (plain : (ascii verb).contains 61 = false)
    (named : resolve d (ascii verb) = .ok (.builtin n)) (handler : handlerOf d a b n t = some (plainHandler ⟨[], []⟩ act))
    (allowed : verbState d n t = 0) : verbLine (Via.ctx via) name a b (Bytes.nats text) d = answers via act d := by
  obtain ⟨ts, toks, split⟩ := lineArgs_some args
  rw [verbLine_ready ready, runLine_builtin toks split plain named, runBuiltin_plain handler allowed, answers]

theorem answers_congr {via : Via} {d : Dev} {f g : Ctx → Dev → Dev}
    (h : f (Via.ctx via) (acceptLine (Via.ctx via) d) = g (Via.ctx via) (acceptLine (Via.ctx via) d)) : answers via f d = answers via g d := by
  rw [answers, answers, byVerb, byVerb, h]

/-! ### Slave frames [04 R83] -/

/-- The slave path as a line's origin. -/
def slaveVia : Via := ⟨1, none, 0⟩

theorem monitorFrame_taken {d : Dev} (up : monitorUp d = true) (before : started d = false) (path : bootPath d = 2) (free : responding d = false)
    (bs : List Nat) : monitorFrame bs d = (frameIn [] [] bs false false d).2 := if_pos ⟨up, before, path, free⟩

theorem letter_facts {ch : Nat} (letter : isLetter ch = true) : ch ≠ 35 ∧ ch ≠ 64 ∧ isSep ch = false := by
  have range : 65 ≤ upC ch ∧ upC ch ≤ 90 := of_decide_eq_true letter
  have low : 65 ≤ ch := by
    have same : upC ch ≤ ch := by
      unfold upC
      split <;> omega
    omega
  have sep : ¬ (ch = 32 ∨ ch = 9) := by omega
  exact ⟨by omega, by omega, decide_eq_false sep⟩

theorem tagOf_letter {ch : Nat} (letter : isLetter ch = true) (line : List Nat) : tagOf (ch :: line) = none := by
  have tag := (letter_facts letter).1
  unfold tagOf
  split
  · rename_i h
    exact absurd (List.cons.inj h).1 tag
  · rfl

theorem prefixCheck_letter (c : Ctx) (machine : Bool) (a b whole : List Nat) {ch : Nat} (letter : isLetter ch = true) (line : List Nat) (d : Dev) :
    prefixCheck c machine a b whole (ch :: line) d = runLine c a b (ch :: line) d := by
  obtain ⟨-, member, sep⟩ := letter_facts letter
  have trimmed : trimLeft (ch :: line) = ch :: line := by simp [trimLeft, sep]
  have head : ((ch :: line).takeWhile fun ch => !isSep ch).head? ≠ some 64 := by simp [sep, member]
  unfold prefixCheck
  simp only [trimmed]
  exact if_pos head

/-- A line on the slave path that begins with a letter carries neither tag nor member prefix. -/
theorem slaveLine_plain {d : Dev} (console : d.st.machS = false) {ch : Nat} {line : List Nat} (letter : isLetter ch = true)
    (sound : (ch :: line).all charOk = true) (fits : (ch :: line).length ≤ 240) :
    frameIn [] [] (0x54 :: ch :: line) false false d = runLine { path := 2 } [] [] (ch :: line) d := by
  have console' : machineOn d 2 = false := console
  have short : ¬ 240 < (ch :: line).length := by omega
  have whole : frameIn [] [] (0x54 :: ch :: line) false false d = checkLine { path := 2 } [] [] (ch :: line) false false false false d := rfl
  rw [whole]
  unfold checkLine
  simp only [console', tagOf_letter letter, short, sound, Bool.false_eq_true, if_false, or_false, Bool.true_eq_false]
  exact prefixCheck_letter _ _ _ _ _ letter _ _

/-- A slave line frame that carries `name` and a text is the line of that verb. -/
theorem slaveLine_is_verbLine {d : Dev} (ready : LineReady slaveVia d) (before : started d = false) (path : bootPath d = 2)
    (console : d.st.machS = false)
    {name : String} {ch : Nat} {r text : List Nat} (spelled : ascii name = ch :: r) (letter : isLetter ch = true)
    (sound : (ascii name ++ 32 :: text).all charOk = true) (fits : (ascii name ++ 32 :: text).length ≤ 240) :
    monitorFrame (0x54 :: (ascii name ++ 32 :: text)) d = verbLine (Via.ctx slaveVia) name [] [] text d := by
  obtain ⟨up, opened, free, room⟩ := ready
  rw [monitorFrame_taken up before path free, verbLine_ready ⟨up, opened, free, room⟩, spelled, List.cons_append]
  rw [spelled, List.cons_append] at sound fits
  rw [slaveLine_plain console letter sound fits]
  rfl

end Sys2Proof.Proofs
end

section
/-! PROOFS. Slave frames with a record chunk, registered verbs, and the end of a tunnelled line's wait. -/

namespace Sys2Proof.Proofs

open Sys2Proof.Machine Sys2Proof.Laws

/-! ### Numbers as bytes, and CRC-32 [00 R7, R458] -/

theorem leBytes_length (n v : Nat) : (leBytes n v).length = n := by
  induction n generalizing v with
  | zero => rfl
  | succ n ih => simp [leBytes, ih]

theorem le_leBytes (n v : Nat) : le (leBytes n v) = v % 256 ^ n := by
  induction n generalizing v with
  | zero => simp [leBytes, le, Nat.mod_one]
  | succ n ih =>
    have split : v % 256 ^ (n + 1) = v % 256 + 256 * (v / 256 % 256 ^ n) := by rw [Nat.pow_succ', Nat.mod_mul]
    simp [leBytes, le, ih, split]

theorem crc32Steps_lt (n : Nat) {c : Nat} (h : c < 2 ^ 32) : crc32Steps n c < 2 ^ 32 := by
  induction n generalizing c with
  | zero => exact h
  | succ n ih =>
    have half : c / 2 < 2 ^ 32 := by omega
    refine ih ?_
    split
    · exact Nat.xor_lt_two_pow half (by decide)
    · exact half

theorem crc32_lt {bs : List Nat} (bytes : ∀ b ∈ bs, b < 256) : crc32 bs < 2 ^ 32 := by
  have register (l : List Nat) (bytes : ∀ b ∈ l, b < 256) {c : Nat} (h : c < 2 ^ 32) : l.foldl (fun c b => crc32Steps 8 (c ^^^ b)) c < 2 ^ 32 := by
    induction l generalizing c with
    | nil => exact h
    | cons b l ih =>
      have byte : b < 2 ^ 32 := lt_trans (bytes b List.mem_cons_self) (by decide)
      exact ih (fun x hx => bytes x (List.mem_cons_of_mem b hx)) (crc32Steps_lt 8 (Nat.xor_lt_two_pow h byte))
  exact Nat.xor_lt_two_pow (register bs bytes (by decide)) (by decide)

theorem leBytes_bytes (n v : Nat) : ∀ b ∈ leBytes n v, b < 256 := by
  induction n generalizing v with
  | zero => simp [leBytes]
  | succ n ih =>
    intro b h
    rcases List.mem_cons.mp h with rfl | later
    · exact Nat.mod_lt _ (by decide)
    · exact ih _ b later

/-! ### A record frame [04 R81, R83, R84] -/

/-- What a record frame holds between its type and its CRC: tag, offset, length and chunk. -/
def frameHead (tag off : Nat) (chunk : List Nat) : List Nat := leBytes 2 tag ++ leBytes 3 off ++ leBytes 2 chunk.length ++ chunk

/-- The line that a record frame with tag `tag` stands for. -/
def frameCtx (tag : Nat) : Ctx := { path := 2, tag := some tag, frame := true }

/-- A record frame taken apart. -/
structure FrameParts (bs : List Nat) (tag off : Nat) (chunk : List Nat) (crc : Nat) : Prop where
  whole : bs.length = chunk.length + 12
  tagRead : le ((bs.drop 1).take 2) = tag
  offRead : le ((bs.drop 3).take 3) = off
  countRead : le ((bs.drop 6).take 2) = chunk.length
  chunkRead : (bs.drop 8).take chunk.length = chunk
  covered : bs.take (chunk.length + 8) = 0x4C :: frameHead tag off chunk
  crcRead : le (bs.drop (chunk.length + 8)) = crc

theorem frameParts {tag off crc : Nat} {chunk : List Nat} (small : chunk.length < 65536) (tagSmall : tag < 65536) (offSmall : off < 2 ^ 24)
    (crcSmall : crc < 2 ^ 32) :
    FrameParts (0x4C :: (frameHead tag off chunk ++ leBytes 4 crc)) tag off chunk crc := by
  have tagBytes : le (leBytes 2 tag) = tag := (le_leBytes 2 tag).trans (Nat.mod_eq_of_lt tagSmall)
  have offBytes : le (leBytes 3 off) = off := (le_leBytes 3 off).trans (Nat.mod_eq_of_lt offSmall)
  have countBytes : le (leBytes 2 chunk.length) = chunk.length := (le_leBytes 2 _).trans (Nat.mod_eq_of_lt small)
  have crcBytes : le (leBytes 4 crc) = crc := (le_leBytes 4 crc).trans (Nat.mod_eq_of_lt crcSmall)
  have cut : 0x4C :: (frameHead tag off chunk ++ leBytes 4 crc) = (0x4C :: frameHead tag off chunk) ++ leBytes 4 crc := rfl
  have headLength : (0x4C :: frameHead tag off chunk).length = chunk.length + 8 := by simp [frameHead, leBytes_length]; omega
  constructor
  · rw [cut, List.length_append, headLength, leBytes_length]
  · exact Eq.trans rfl tagBytes
  · exact Eq.trans rfl offBytes
  · exact Eq.trans rfl countBytes
  · exact List.take_left
  · rw [cut, ← headLength, List.take_left]
  · rw [cut, ← headLength, List.drop_left, crcBytes]

theorem monitorFrame_record {d : Dev} (up : monitorUp d = true) (before : started d = false) (path : bootPath d = 2) (free : responding d = false)
    (bs : List Nat) : monitorFrame (0x4C :: bs) d = recordFrame (0x4C :: bs) d := by
  rw [monitorFrame_taken up before path free]
  rfl

/-- A record frame with a wrong CRC. -/
theorem recordFrame_damaged {bs chunk : List Nat} {tag off crc : Nat} (parts : FrameParts bs tag off chunk crc)
    (damaged : crc ≠ crc32 (0x4C :: frameHead tag off chunk)) (d : Dev) : recordFrame bs d = er 70 (frameCtx tag) d := by
  obtain ⟨whole, tagRead, offRead, countRead, chunkRead, covered, crcRead⟩ := parts
  have long : ¬ bs.length < 3 := by omega
  unfold recordFrame
  simp only [countRead, covered, crcRead, tagRead, if_neg long]
  exact if_pos (.inr (.inr (.inr damaged.symm)))

/-- A sound record frame is a chunk of the load. -/
theorem recordFrame_sound {bs chunk : List Nat} {tag off : Nat} (parts : FrameParts bs tag off chunk (crc32 (0x4C :: frameHead tag off chunk)))
    (some : 0 < chunk.length) (short : chunk.length ≤ 512) {d : Dev} (allowed : verbState d 4 ⟨[], []⟩ = 0) :
    recordFrame bs d = respond (frameCtx tag) [] (loadChunk off chunk (acceptLine (frameCtx tag) d)).1 (loadChunk off chunk (acceptLine (frameCtx tag) d)).2 := by
  obtain ⟨whole, tagRead, offRead, countRead, chunkRead, covered, crcRead⟩ := parts
  have long : ¬ bs.length < 3 := by omega
  have sound : ¬ (chunk.length = 0 ∨ 512 < chunk.length ∨ bs.length ≠ chunk.length + 12 ∨
      crc32 (0x4C :: frameHead tag off chunk) ≠ crc32 (0x4C :: frameHead tag off chunk)) := by
    rintro (h | h | h | h)
    · omega
    · omega
    · exact h whole
    · exact h rfl
  unfold recordFrame
  simp only [countRead, covered, crcRead, tagRead, offRead, chunkRead, if_neg long]
  rw [if_neg sound, allowed]
  rfl

/-- The first chunk of a load, shorter than the header. -/
theorem loadChunk_first {d : Dev} (empty : d.r F.SYS_BLEN_N = 0) (header : d.bt.header = []) {chunk : List Nat} (short : chunk.length < 256) :
    loadChunk 0 chunk d = (0, loadCount chunk.length { d with bt := { d.bt with header := chunk } }) := by
  have taken : chunk.take 256 = chunk := List.take_of_length_le (by omega)
  unfold loadChunk
  simp only [empty, header, List.nil_append, Nat.sub_zero, taken, Nat.zero_add, if_true, short, Nat.ofNat_pos]

/-- The load once its first chunk has come. -/
def loadBegun (chunk : List Nat) (d : Dev) : Dev := loadCount chunk.length { d with bt := { d.bt with header := chunk } }

theorem loadBegun_frame (chunk : List Nat) (d : Dev) :
    loadBegun chunk d = { d with regs := (loadBegun chunk d).regs, bt := { d.bt with header := chunk } } := rfl

theorem loadBegun_count {chunk : List Nat} (some : 0 < chunk.length) (short : chunk.length < 256) (d : Dev) :
    (loadBegun chunk d).r F.SYS_BLEN_N = chunk.length ∧ (loadBegun chunk d).r F.SYS_BOOT_LSTATE = 1 := by
  have nonzero : chunk.length ≠ 0 := by omega
  unfold loadBegun loadCount
  simp only [nonzero, short, if_false, if_true]
  refine ⟨?_, r_w_same ..⟩
  rw [r_w_other _ _ (by decide), r_w_same]
  exact Nat.mod_eq_of_lt (lt_trans short (by decide))

theorem verbState_load {d : Dev} (before : d.r F.SYS_BOOT_LSTATE < 4) (alive : monitorLife d ≠ 3) : verbState d 4 ⟨[], []⟩ = 0 := by
  have quarantine : d.r F.SYS_BOOT_LSTATE ≠ 5 := by omega
  have notStarted : started d = false := decide_eq_false (by omega)
  simp [verbState, quarantine, notStarted, alive]

/-- The monitor waits for a frame on the slave path. -/
def WaitsForFrame (d : Dev) : Prop :=
  monitorUp d = true ∧ d.r F.SYS_BOOT_LSTATE < 4 ∧ bootPath d = 2 ∧ responding d = false ∧ monitorLife d ≠ 3 ∧ d.st.machS = false ∧ d.st.out = [] ∧
    d.st.store = [] ∧ d.sp.tx = []

theorem heard_of_up {d : Dev} (up : monitorUp d = true) : d.ck.silent = false := by
  simp only [monitorUp, Bool.and_eq_true, Bool.not_eq_true'] at up
  exact up.2

theorem tagText_length (tag : Nat) : (tagText (some tag)).length = 5 := by simp [tagText, hexDigits]

theorem monitorFrame_chunk {d : Dev} (free : WaitsForFrame d) (empty : d.r F.SYS_BLEN_N = 0) (header : d.bt.header = []) {tag : Nat}
    {chunk : List Nat}
    (some : 0 < chunk.length) (short : chunk.length < 256) {bs : List Nat}
    (parts : FrameParts (0x4C :: bs) tag 0 chunk (crc32 (0x4C :: frameHead tag 0 chunk))) :
    monitorFrame (0x4C :: bs) d = { loadBegun chunk (acceptLine (frameCtx tag) d) with
      sp := { d.sp with tx := 35 :: hexDigits 4 tag ++ ascii " OK" ++ crlf } } := by
  obtain ⟨up, before, path, quiet, alive, console, out, store, tx⟩ := free
  have notStarted : started d = false := decide_eq_false (by omega)
  rw [monitorFrame_record up notStarted path quiet, recordFrame_sound parts some (by omega) (verbState_load before alive),
    loadChunk_first (d := acceptLine (frameCtx tag) d) empty header short]
  have answer := respond_frame (c := frameCtx tag) (d := loadBegun chunk (acceptLine (frameCtx tag) d)) (e := 0) rfl rfl console out store tx
    (heard_of_up up) (room := by rw [frameCtx, tagText_length]; decide)
  exact answer

theorem monitorFrame_damaged {d : Dev} (free : WaitsForFrame d) {tag off crc : Nat} {chunk bs : List Nat}
    (parts : FrameParts (0x4C :: bs) tag off chunk crc) (damaged : crc ≠ crc32 (0x4C :: frameHead tag off chunk)) :
    monitorFrame (0x4C :: bs) d = { d.w F.SYS_BOOTERR_CODE 70 with sp := { d.sp with tx := 35 :: hexDigits 4 tag ++ ascii " ER 070 CHUNK" ++ crlf } } := by
  obtain ⟨up, before, path, quiet, alive, console, out, store, tx⟩ := free
  have notStarted : started d = false := decide_eq_false (by omega)
  rw [monitorFrame_record up notStarted path quiet, recordFrame_damaged parts damaged, er,
    respond_frame (c := frameCtx tag) (e := 70) rfl rfl console out store tx (heard_of_up up) (by rw [frameCtx, tagText_length]; decide)]
  exact congrArg (fun text => { d.w F.SYS_BOOTERR_CODE 70 with sp := { d.sp with tx := text } }) rfl

end Sys2Proof.Proofs
end

section
/-! PROOFS. The commands of slave frames, of registered verbs and of the tunnel's end of wait. -/

namespace Sys2Proof.Proofs

open Sys2Proof.Machine Sys2Proof.Laws

/-! ### A slave frame that carries a line [04 R83, R235] -/

theorem exec_slaveLineFrame (line : Bytes) (s : State) : exec (.slaveLineFrame line) s = onDev (monitorFrame (0x54 :: Bytes.nats line)) s := rfl

/-- The slave path takes lines in console form. -/
def TakesSlaveLines (d : Dev) : Prop := LineReady slaveVia d ∧ started d = false ∧ bootPath d = 2 ∧ d.st.machS = false

/-- The frame of a verb's line with text `text`: a verb that begins with a letter, and no more than 240 characters. -/
theorem slaveFrame_is_verbLine {d : Dev} (takes : TakesSlaveLines d) {name : String} {text line : Bytes} (sound : (Bytes.nats text).all charOk = true)
    (fits : text.length ≤ 230) (holds : Bytes.nats line = ascii name ++ 32 :: Bytes.nats text) (verb : (ascii name).all charOk = true)
    (short : (ascii name).length ≤ 9) {ch : Nat} {r : List Nat} (spelled : ascii name = ch :: r) (letter : isLetter ch = true) :
    monitorFrame (0x54 :: Bytes.nats line) d = verbLine (Via.ctx slaveVia) name [] [] (Bytes.nats text) d := by
  obtain ⟨ready, before, path, console⟩ := takes
  have whole : (ascii name ++ 32 :: Bytes.nats text).all charOk = true := by
    rw [List.all_append, List.all_cons, verb, sound]
    rfl
  have textLength : (Bytes.nats text).length = text.length := by simp [Bytes.nats]
  have length : (ascii name ++ 32 :: Bytes.nats text).length ≤ 240 := by
    rw [List.length_append, List.length_cons, textLength]
    omega
  rw [holds]
  exact slaveLine_is_verbLine ready before path console spelled letter whole length

theorem verbState_plain {d : Dev} {v : Nat} {t : Toks} (before : d.r F.SYS_BOOT_LSTATE < 4) (early : v < 4) : verbState d v t = 0 := by
  have quarantine : d.r F.SYS_BOOT_LSTATE ≠ 5 := by omega
  have notStarted : started d = false := decide_eq_false (by omega)
  have subset : v ≤ 8 ∧ v ≠ 6 ∧ v ≠ 4 ∧ v ≠ 5 := by omega
  simp [verbState, quarantine, notStarted, subset]

/-- HELLO before START: no image is named. -/
theorem doHello_before {d : Dev} (before : d.r F.SYS_BOOT_LSTATE < 4) (c : Ctx) :
    doHello c d = okWith [dataLine [ascii "fd4806", kv "step" (ascii "0x43"), kv "mon" (hexN 4 Config.monVersion.toNat), kv "img" (ascii "none")]] c d := by
  have notStarted : started d = false := decide_eq_false (by omega)
  have step : hexN 2 0x43 = ascii "0x43" := by decide
  simp only [doHello, notStarted, step, Bool.false_eq_true, if_false]

theorem slaveFrame_hello {d : Dev} {text line : Bytes} (takes : TakesSlaveLines d) (sound : (Bytes.nats text).all charOk = true)
    (fits : text.length ≤ 230) (holds : Bytes.nats line = ascii "HELLO" ++ 32 :: Bytes.nats text) (before : d.r F.SYS_BOOT_LSTATE < 4)
    (args : lineArgs "HELLO" "HELLO" text = some ⟨[], []⟩) : monitorFrame (0x54 :: Bytes.nats line) d = answers slaveVia (fun c d =>
      okWith [dataLine [ascii "fd4806", kv "step" (ascii "0x43"), kv "mon" (hexN 4 Config.monVersion.toNat), kv "img" (ascii "none")]] c d) d := by
  rw [slaveFrame_is_verbLine takes sound fits holds (by decide) (by decide) (ch := 72) rfl (by decide),
    verbLine_answers takes.1 args (by decide) (resolve_hello d) (act := doHello) rfl (verbState_plain before (by decide))]
  exact answers_congr (doHello_before (d := acceptLine (Via.ctx slaveVia) d) before _)

/-! ### A slave frame that carries a chunk [04 R84] -/

theorem exec_slaveRecordFrame (bs : Bytes) (s : State) : exec (.slaveRecordFrame bs) s = onDev (monitorFrame (0x4C :: Bytes.nats bs)) s := rfl

/-- The CRC of a record frame is a 32-bit number. -/
theorem frameCrc_lt {tag : Nat} {chunk : List Nat} (bytes : ∀ b ∈ chunk, b < 256) : crc32 (0x4C :: frameHead tag 0 chunk) < 2 ^ 32 := by
  refine crc32_lt fun b h => ?_
  simp only [frameHead, List.mem_cons, List.mem_append] at h
  obtain rfl | ((inTag | inOff) | inCount) | inChunk := h
  · decide
  · exact leBytes_bytes _ _ b inTag
  · exact leBytes_bytes _ _ b inOff
  · exact leBytes_bytes _ _ b inCount
  · exact bytes b inChunk

/-! ### A registered verb [11 R224] -/

theorem exec_registeredVerb (via : Via) (i : Fin 16) (text : Bytes) (s : State) :
    exec (.registeredVerb via i text) s = onDev (registeredLine (Via.ctx via) i (Bytes.nats text)) s := rfl

/-- The line of a registered verb, in quarantine and else. -/
theorem registeredLine_taken {via : Via} {i : Fin 16} {text : Bytes} {n : List Nat} {ts : List (List Nat)}
    {x : List (List Nat) × List (List Nat × List Nat)}
    (toks : tokens (n ++ 32 :: Bytes.nats text) = some (n :: ts)) (args : splitArgs ts = some x) (plain : n.contains 61 = false) {d : Dev}
    (ready : LineReady via d) (named : d.st.names[i.val]? = some n) (verb : resolve d n = .ok (.registered i)) :
    registeredLine (Via.ctx via) i (Bytes.nats text) d =
      if d.r F.SYS_BOOT_LSTATE = 5 then er 73 (Via.ctx via) d else openVerb (Via.ctx via) i d := by
  unfold registeredLine
  simp only [named]
  rw [if_pos ready, runLine_registered toks args plain verb]

theorem lstate_of_started {d : Dev} (h : started d = true) : d.r F.SYS_BOOT_LSTATE = 4 := of_decide_eq_true h

/-! ### The end of a tunnelled line's wait [11 R223, R227] -/

theorem exec_tunnelTimeout (s : State) : exec .tunnelTimeout s = onDev tunnelTimeout s := rfl

/-- The wait of the tunnelled line `w` is over and no final line has come. -/
def TunnelEnded (w : Tunnel) (x : Nat) (d : Dev) : Prop :=
  d.st.tun = some w ∧ w.stop = some x ∧ (x + d.ck.aphase) / 1000 < (d.ns + d.ck.aphase) / 1000 ∧ w.came = false

theorem tunnelOver_ended {w : Tunnel} {x : Nat} {d : Dev} (ended : TunnelEnded w x d) : tunnelOver d = true := by
  obtain ⟨waits, stop, past, none⟩ := ended
  simp [tunnelOver, waits, stop, none, Dev.over, Dev.aclk, past]

theorem tunnelTimeout_alone {w : Tunnel} {x : Nat} {d : Dev} (ended : TunnelEnded w x d) (alone : d.r F.SYS_BOOT_LSTATE ≠ 4) (path : w.ctx.path = 1)
    (frame : w.ctx.frame = false) (console : d.st.machU = false) (out : d.st.out = []) (store : d.st.store = []) (empty : d.ua.tx = [])
    (heard : d.ck.silent = false) : tunnelTimeout d =
      { d.onSt (fun s => { s with tun := none }) with ua := { d.ua with tx := ascii "ER 076 TUNNEL" ++ crlf ++ ascii "FD> " } } := by
  have passed := tunnelOver_ended ended
  have runs : runsAlone d = true := decide_eq_true alone
  have failed : tunnelFail d = respond w.ctx [] 76 (d.onSt fun s => { s with tun := none }) := by
    simp only [tunnelFail, ended.1, passed, if_true]
  rw [tunnelTimeout, passed, if_neg (by decide), if_pos runs, failed,
    respond_console (d := d.onSt fun s => { s with tun := none }) path frame console out store empty heard (e := 76) (if_neg (by decide)) (by decide)]
  rfl

theorem tunnelTimeout_dead {w : Tunnel} {x : Nat} {d : Dev} (ended : TunnelEnded w x d) (running : d.r F.SYS_BOOT_LSTATE = 4) :
    tunnelTimeout d = d.onSt fun s => { s with tun := some { w with dead := true } } := by
  have passed := tunnelOver_ended ended
  have waits : ¬ runsAlone d = true := by simp [runsAlone, running]
  rw [tunnelTimeout, passed, if_neg (by decide), if_neg waits, Dev.onSt, ended.1]
  rfl

theorem tunnelTimeout_early {w : Tunnel} {d : Dev} (waits : d.st.tun = some w) (alive : w.dead = false)
    (early : ∀ y, w.stop = some y → (d.ns + d.ck.aphase) / 1000 ≤ (y + d.ck.aphase) / 1000) : tunnelTimeout d = d := by
  have notOver : (w.stop.any fun y => d.over Dev.aclk y) = false := by
    cases stop : w.stop with
    | none => rfl
    | some y => exact decide_eq_false (Nat.not_lt.mpr (early y stop))
  refine if_pos ?_
  simp [tunnelOver, waits, alive, notOver]

end Sys2Proof.Proofs
end

section
/-! PROOFS. The ledger: its verbs, and the steps of a commit. -/

namespace Sys2Proof.Proofs

open Sys2Proof.Machine Sys2Proof.Laws

/-! ### The interpreter's runs [22 R423] -/

/-- Nothing stands before the interpreter's runs in the port's queue. -/
def QueueFree (d : Dev) : Prop := d.sp.held = none ∧ d.sp.cq = [] ∧ d.sp.feed = []

theorem ownRuns_free {d : Dev} (free : QueueFree d) (l : List CqEntry) :
    ownRuns l d = d.onSp fun s => { s with cq := l.take 16, feed := l.drop 16 } := by
  obtain ⟨held, cq, feed⟩ := free
  have entered : cqFeed (d.onSp fun s => { s with feed := s.feed ++ l }) = d.onSp fun s => { s with cq := l.take 16, feed := l.drop 16 } := by
    simp [cqFeed, Dev.onSp, cq, feed]
  have still : (d.onSp fun s => { s with cq := l.take 16, feed := l.drop 16 }).sp.held = none := held
  simp only [ownRuns, entered, heldTry, still]

/-! ### LEDGER SHOW, SAVE and LOAD [12 R248; 22 R430, R434] -/

theorem exec_ledgerShow (via : Via) (text : Bytes) (s : State) :
    exec (.ledgerShow via text) s = onDev (verbLine (Via.ctx via) "LEDGER SHOW" [] [] (Bytes.nats text)) s := rfl
theorem exec_ledgerSave (via : Via) (text : Bytes) (s : State) :
    exec (.ledgerSave via text) s = onDev (verbLine (Via.ctx via) "LEDGER SAVE" [] [] (Bytes.nats text)) s := rfl
theorem exec_ledgerLoad (via : Via) (text a b : Bytes) (s : State) :
    exec (.ledgerLoad via text a b) s = onDev (verbLine (Via.ctx via) "LEDGER LOAD" (Bytes.nats a) (Bytes.nats b) (Bytes.nats text)) s := rfl

/-- A line of LEDGER with the object `verb` is taken while an image runs. -/
def LedgerLine (via : Via) (text : Bytes) (verb : String) (d : Dev) : Prop :=
  LineReady via d ∧ started d = true ∧ lineArgs ("LEDGER " ++ verb) "LEDGER" text = some ⟨[ascii verb], []⟩

theorem verbState_started {d : Dev} {v : Nat} {t : Toks} (running : started d = true) (other : v ≠ 4 ∧ v ≠ 5) : verbState d v t = 0 := by
  have quarantine : d.r F.SYS_BOOT_LSTATE ≠ 5 := by rw [lstate_of_started running]; decide
  simp [verbState, quarantine, running, other]

theorem ledgerLine_answers {via : Via} {text : Bytes} {verb : String} {d : Dev} (line : LedgerLine via text verb d) {a b : List Nat}
    {act : Ctx → Dev → Dev}
    (handler : ledgerHandler a b ⟨[ascii verb], []⟩ = some (plainHandler ⟨[], []⟩ act)) :
    verbLine (Via.ctx via) ("LEDGER " ++ verb) a b (Bytes.nats text) d = answers via act d := by
  obtain ⟨ready, running, args⟩ := line
  exact verbLine_answers ready args (by decide) (resolve_ledger d) handler (verbState_started running (by decide))

theorem ledgerHandler_show (a b : List Nat) :
    ledgerHandler a b ⟨[ascii "SHOW"], []⟩ = some (plainHandler ⟨[], []⟩ fun c d => okWith [ledgerLine d] c d) := by
  have word : isWord "show" (ascii "SHOW") = true := by decide
  simp [ledgerHandler, word]

theorem ledgerHandler_save (a b : List Nat) : ledgerHandler a b ⟨[ascii "SAVE"], []⟩ = some (plainHandler ⟨[], []⟩ doLedgerSave) := by
  have notShow : isWord "show" (ascii "SAVE") = false := by decide
  have word : isWord "save" (ascii "SAVE") = true := by decide
  simp [ledgerHandler, notShow, word]

theorem ledgerHandler_load (a b : List Nat) : ledgerHandler a b ⟨[ascii "LOAD"], []⟩ = some (plainHandler ⟨[], []⟩ (doLedgerLoad a b)) := by
  have notShow : isWord "show" (ascii "LOAD") = false := by decide
  have notSave : isWord "save" (ascii "LOAD") = false := by decide
  have word : isWord "load" (ascii "LOAD") = true := by decide
  simp [ledgerHandler, notShow, notSave, word]

theorem ledgerShow_answers {via : Via} {text : Bytes} {d : Dev} (line : LedgerLine via text "SHOW" d) :
    verbLine (Via.ctx via) "LEDGER SHOW" [] [] (Bytes.nats text) d = answers via (fun c d => okWith [ledgerLine d] c d) d :=
  ledgerLine_answers line (ledgerHandler_show [] [])

theorem ledgerSave_answers {via : Via} {text : Bytes} {d : Dev} (line : LedgerLine via text "SAVE" d) :
    verbLine (Via.ctx via) "LEDGER SAVE" [] [] (Bytes.nats text) d = answers via doLedgerSave d := ledgerLine_answers line (ledgerHandler_save [] [])

theorem ledgerLoad_answers {via : Via} {text a b : Bytes} {d : Dev} (line : LedgerLine via text "LOAD" d) :
    verbLine (Via.ctx via) "LEDGER LOAD" (Bytes.nats a) (Bytes.nats b) (Bytes.nats text) d = answers via (doLedgerLoad (Bytes.nats a) (Bytes.nats b)) d :=
  ledgerLine_answers line (ledgerHandler_load _ _)

/-- What is saved does not depend on the path of the line that asks for it. -/
theorem saveBody_acceptLine (c : Ctx) (d : Dev) : saveBody (acceptLine c d) = saveBody d := rfl

theorem selPresent_iff {d : Dev} {n : Nat} : selPresent d n = true ↔ d.r (F.SP_ID_PRESENT n) ≠ 0 := by simp [selPresent, Dev.b]

theorem selPresent_false {d : Dev} {n : Nat} (absent : d.r (F.SP_ID_PRESENT n) = 0) : selPresent d n = false := b_of_zero absent

theorem saveRefuse_zero {d : Dev} (idle : d.lg.commit = none) (flash : d.r (F.SP_ID_PRESENT 0) ≠ 0) (fits : (saveBody d).length ≤ 65504) :
    saveRefuse d = 0 := by
  have small : ¬ 65504 < (saveBody d).length := by omega
  simp only [saveRefuse, idle, selPresent_iff.mpr flash, small, Option.isSome_none, Bool.false_eq_true, Bool.true_eq_false, if_false]

theorem saveRefuse_long {d : Dev} (idle : d.lg.commit = none) (flash : d.r (F.SP_ID_PRESENT 0) ≠ 0) (long : 65504 < (saveBody d).length) :
    saveRefuse d = 89 := by
  simp only [saveRefuse, idle, selPresent_iff.mpr flash, long, Option.isSome_none, Bool.false_eq_true, Bool.true_eq_false, if_false, if_true]

theorem saveRefuse_busy {d : Dev} (busy : d.lg.commit ≠ none) : saveRefuse d = 20 := if_pos (Option.isSome_iff_ne_none.mpr busy)

theorem saveRefuse_absent {d : Dev} (idle : d.lg.commit = none) (absent : d.r (F.SP_ID_PRESENT 0) = 0) : saveRefuse d = 88 := by
  simp only [saveRefuse, idle, selPresent_false absent, Option.isSome_none, Bool.false_eq_true, if_false, if_true]

theorem doLedgerSave_refused {d : Dev} {e : Nat} (refused : saveRefuse d = e) (some : e ≠ 0) (c : Ctx) : doLedgerSave c d = er e c d := by
  simp only [doLedgerSave, refused, some, ne_eq, not_false_eq_true, if_true]

/-- The slot that a save goes to: the one that does not stand. -/
def otherSlot (d : Dev) : Nat := if d.lg.standing = some 0 then 1 else 0

theorem saveStart_commit (c : Ctx) (d : Dev) : saveStart c d =
    { d with lg := { d.lg with commit := some ⟨otherSlot d, if d.lg.standing = none then 1 else (d.lg.seq + 1) % 2 ^ 32, saveBody d,
                                               commitOps (slotBase d (otherSlot d)) (saveBody d).length, false, false⟩ },
             st := { d.st with wait := some (c, .save) } } := by
  unfold saveStart otherSlot
  generalize saveBody d = body
  cases d.lg.standing with
  | none => rfl
  | some slot =>
    cases slot with
    | zero => rfl
    | succ n => simp [waitVerb, Dev.onSt, Dev.onLg]

theorem doLedgerSave_starts {d : Dev} (passes : saveRefuse d = 0) (c : Ctx) : doLedgerSave c d = saveStart c d := by
  simp only [doLedgerSave, passes, ne_eq, not_true_eq_false, if_false]

theorem loadRefuse_zero {d : Dev} (idle : d.lg.commit = none) (flash : d.r (F.SP_ID_PRESENT 0) ≠ 0) : loadRefuse d = 0 := by
  simp only [loadRefuse, idle, selPresent_iff.mpr flash, Option.isSome_none, Bool.false_eq_true, Bool.true_eq_false, if_false]

theorem loadRefuse_busy {d : Dev} (busy : d.lg.commit ≠ none) : loadRefuse d = 20 := if_pos (Option.isSome_iff_ne_none.mpr busy)

theorem loadRefuse_absent {d : Dev} (idle : d.lg.commit = none) (absent : d.r (F.SP_ID_PRESENT 0) = 0) : loadRefuse d = 88 := by
  simp only [loadRefuse, idle, selPresent_false absent, Option.isSome_none, Bool.false_eq_true, if_false, if_true]

theorem doLedgerLoad_refused {d : Dev} {e : Nat} (refused : loadRefuse d = e) (some : e ≠ 0) (a b : List Nat) (c : Ctx) :
    doLedgerLoad a b c d = er e c d := by
  simp only [doLedgerLoad, refused, some, ne_eq, not_false_eq_true, if_true]

/-- The runs that read both slots. -/
def slotsReads (d : Dev) (a b : List Nat) : List CqEntry := slotReads d 0 a ++ slotReads d 1 b

theorem doLedgerLoad_starts {d : Dev} (passes : loadRefuse d = 0) (free : QueueFree d) (a b : List Nat) (c : Ctx) :
    doLedgerLoad a b c d = { d with lg := { d.lg with read := some ⟨false, a, b⟩ }, st := { d.st with wait := some (c, .load) },
                                    sp := { d.sp with cq := (slotsReads d a b).take 16, feed := (slotsReads d a b).drop 16 } } := by
  have started : doLedgerLoad a b c d = readSlots false a b (waitVerb c .load d) := by
    simp only [doLedgerLoad, passes, loadStart, ne_eq, not_true_eq_false, if_false]
  rw [started]
  exact ownRuns_free (d := (waitVerb c .load d).onLg fun l => { l with read := some ⟨false, a, b⟩ }) free (slotsReads d a b)

end Sys2Proof.Proofs
end

section
/-! PROOFS. The steps of a ledger commit, and the statement about frames, tunnels and the ledger. -/

namespace Sys2Proof.Proofs

open Sys2Proof.Machine Sys2Proof.Laws

/-! ### What the interpreter sends leaves the ledger alone [22 R424] -/

@[simp] theorem flushN_lg (n : Nat) (d : Dev) : (flushN n d).lg = d.lg := by
  induction n generalizing d with
  | zero => rfl
  | succ n ih =>
    rw [flushN]
    split
    next => rfl
    next p m bs r _ =>
      have sent (e : Dev) : (sendBytes p bs e).lg = e.lg := by
        unfold sendBytes
        split <;> rfl
      split_ifs
      · rfl
      · exact ih _
      · rw [ih, sent, onSt_lg]
      · rfl

@[simp] theorem queueOut_lg (p m : Nat) (bs : List Nat) (d : Dev) : (queueOut p m bs d).lg = d.lg := flushN_lg _ _

@[simp] theorem sendLine_lg (c : Ctx) (text : List Nat) (d : Dev) : (sendLine c text d).lg = d.lg := queueOut_lg ..

@[simp] theorem prompt_lg (p : Nat) (d : Dev) : (prompt p d).lg = d.lg := by
  unfold prompt
  split
  · exact queueOut_lg ..
  · rfl

@[simp] theorem flushEventsN_lg (n : Nat) (d : Dev) : (flushEventsN n d).lg = d.lg := by
  induction n generalizing d with
  | zero => rfl
  | succ n ih =>
    have sent (text : List Nat) (e : Dev) : (if eventLong text e then e.inc F.UA_STAT_EVCNT else sendEvent text e).lg = e.lg := by
      split
      · exact inc_lg ..
      · exact queueOut_lg ..
    rw [flushEventsN]
    split
    next => rfl
    next =>
      split
      · exact (ih _).trans ((sent _ _).trans (onSt_lg ..))
      · rfl

@[simp] theorem codeNoted_lg (e : Nat) (d : Dev) : (codeNoted e d).lg = d.lg := by rw [codeNoted_frame]

theorem respond_lg (c : Ctx) (e : Nat) (d : Dev) : (respond c [] e d).lg = d.lg := by
  rw [respond_final, flushEvents, flushEventsN_lg, prompt_lg, sendLine_lg, codeNoted_lg]

theorem finishVerb_lg (e : Nat) (d : Dev) : (finishVerb [] e d).lg = d.lg := by
  unfold finishVerb answerNow
  split
  · split
    · rw [respond_lg, onSt_lg]
    · rfl
  · exact onSt_lg ..

@[simp] theorem holdEvent_lg (text : List Nat) (d : Dev) : (holdEvent text d).lg = d.lg := by
  unfold holdEvent
  split
  · exact inc_lg ..
  · exact onSt_lg ..

theorem pumpOut_lg (d : Dev) : (pumpOut d).lg = d.lg := by
  unfold pumpOut
  split
  · rw [flushEvents, flushEventsN_lg, flushOut, flushN_lg]
  · rfl

theorem monitorEvent_lg (i : Nat) (ws : List (List Nat)) (d : Dev) : (monitorEvent i ws d).lg = d.lg := by
  unfold monitorEvent
  split
  · rw [pumpOut_lg, holdEvent_lg]
  · rfl

/-! ### A commit's steps [22 R435] -/

theorem exec_ledgerCommitStep (good : Bool) (back : Bytes) (s : State) :
    exec (.ledgerCommitStep good back) s = onDev (ledgerCommitStep good (Bytes.nats back)) s := rfl

/-- The commit `c` is under way and nothing of it is on the port. -/
def CommitReady (c : Commit) (d : Dev) : Prop :=
  d.lg.commit = some c ∧ c.wto = false ∧ inWait d 0 = false ∧ ownPending d = false ∧ d.awake = true

theorem commitFail_commit (c : Commit) (d : Dev) : (commitFail c d).lg.commit = none := by
  rw [commitFail, ledgerEvent, monitorEvent_lg, finishVerb_lg]
  rfl

theorem commitStep_none {d : Dev} (idle : d.lg.commit = none) (good : Bool) (back : List Nat) : ledgerCommitStep good back d = d := by
  simp only [ledgerCommitStep, idle]

theorem commitStep_waits {c : Commit} {d : Dev} (commit : d.lg.commit = some c) (inTime : c.wto = false)
    (waits : inWait d 0 = true ∨ ownPending d = true) (good : Bool) (back : List Nat) : ledgerCommitStep good back d = d := by
  simp only [ledgerCommitStep, commit, inTime, waits, Bool.false_eq_true, if_false, if_true, ite_self]

theorem commitStep_late {c : Commit} {d : Dev} (commit : d.lg.commit = some c) (late : c.wto = true) (awake : d.awake = true) (good : Bool)
    (back : List Nat) : ledgerCommitStep good back d = commitFail c d := by
  simp only [ledgerCommitStep, commit, late, awake, Bool.true_eq_false, if_false, if_true]

theorem commitStep_bad {c : Commit} {d : Dev} (ready : CommitReady c d) (back : List Nat) : ledgerCommitStep false back d = commitFail c d := by
  obtain ⟨commit, inTime, noWait, noRun, awake⟩ := ready
  simp only [ledgerCommitStep, commit, inTime, noWait, noRun, awake, Bool.true_eq_false, Bool.false_eq_true, or_false, if_false, if_true]

/-- What a commit does next, with nothing of it on the port: an erase or a program, the read-back, or its end. -/
def commitNext (c : Commit) (back : List Nat) (d : Dev) : Dev :=
  match c.ops with
  | x :: r => ownRuns (opRuns d c x) (d.onLg fun l => { l with commit := some { c with ops := r } })
  | [] =>
    if c.back = false then
      ownRuns (readRuns d (slotBase d c.slot) c.bytes.length) (d.onLg fun l => { l with commit := some { c with back := true } })
    else if back.take c.bytes.length = c.bytes ∧ slotCheck back = .valid then commitDone c d
    else commitFail c d

theorem commitStep_good {c : Commit} {d : Dev} (ready : CommitReady c d) (back : List Nat) : ledgerCommitStep true back d = commitNext c back d := by
  obtain ⟨commit, inTime, noWait, noRun, awake⟩ := ready
  unfold ledgerCommitStep
  simp only [commit]
  rw [if_neg (by simp [awake]), if_neg (by simp [inTime]), if_neg (by simp [noWait, noRun]), if_neg (by decide)]
  rfl

/-- The next erase or program is asked of the port. -/
theorem commitStep_op {c : Commit} {d : Dev} (ready : CommitReady c d) (free : QueueFree d) {x : Nat × Nat × Nat} {r : List (Nat × Nat × Nat)}
    (ops : c.ops = x :: r) (back : List Nat) : ledgerCommitStep true back d =
      (d.onLg fun l => { l with commit := some { c with ops := r } }).onSp fun s => { s with cq := opRuns d c x, feed := [] } := by
  rw [commitStep_good ready, commitNext]
  simp only [ops]
  exact ownRuns_free (d := d.onLg fun l => { l with commit := some { c with ops := r } }) free (opRuns d c x)

/-- All is written, and is read back. -/
theorem commitStep_readBack {c : Commit} {d : Dev} (ready : CommitReady c d) (free : QueueFree d) (ops : c.ops = []) (unread : c.back = false)
    (back : List Nat) : ledgerCommitStep true back d =
      (d.onLg fun l => { l with commit := some { c with back := true } }).onSp fun s =>
        { s with cq := (readRuns d (slotBase d c.slot) c.bytes.length).take 16, feed := (readRuns d (slotBase d c.slot) c.bytes.length).drop 16 } := by
  have asked : ledgerCommitStep true back d =
      ownRuns (readRuns d (slotBase d c.slot) c.bytes.length) (d.onLg fun l => { l with commit := some { c with back := true } }) := by
    rw [commitStep_good ready, commitNext]
    split
    next more => exact absurd (ops.symm.trans more) (by simp)
    next => exact if_pos unread
  rw [asked]
  exact ownRuns_free (d := d.onLg fun l => { l with commit := some { c with back := true } }) free _

/-- What is read back is what was written: the slot stands, and the verb has its answer. -/
theorem commitStep_stands {c : Commit} {d : Dev} (ready : CommitReady c d) (running : d.r F.SYS_BOOT_LSTATE = 4) (ops : c.ops = [])
    (read : c.back = true)
    {back : List Nat} (same : back.take c.bytes.length = c.bytes) (sound : slotCheck back = .valid) : ledgerCommitStep true back d =
      { d with lg := { d.lg with commit := none, standing := some c.slot, seq := c.seq },
               st := { d.st with answer := if d.st.wait.isSome then some ([], 0) else none } } := by
  have done : ledgerCommitStep true back d = commitDone c d := by
    rw [commitStep_good ready, commitNext]
    simp only [ops, read, same, sound, Bool.true_eq_false, if_false, and_self, if_true]
  have waits : ¬ runsAlone (d.onLg fun l => { l with commit := none, standing := some c.slot, seq := c.seq }) = true := by
    intro alone
    exact of_decide_eq_true alone running
  rw [done, commitDone, finishVerb, if_neg waits]
  rfl

end Sys2Proof.Proofs
end

section
/-! PROOFS. The statement about slave frames, tunnelled lines, registered verbs and the ledger, clause by clause. -/

namespace Sys2Proof.Proofs

open Sys2Proof.Machine Sys2Proof.Laws

/-- HELLO, IDENT and STATUS in a slave frame are the verbs' own lines. -/
theorem exec_slaveFrame {text line : Bytes} (sound : (Bytes.nats text).all charOk = true) (fits : text.length ≤ 230) {p : String × Instr}
    (verb : p ∈ [("HELLO", Instr.hello slaveVia text), ("IDENT", .ident slaveVia text), ("STATUS", .status slaveVia text)])
    (holds : Bytes.nats line = ascii p.1 ++ 32 :: Bytes.nats text) {s : State} (takes : TakesSlaveLines s.dev) :
    exec (.slaveLineFrame line) s = exec p.2 s := by
  simp only [List.mem_cons, List.not_mem_nil, or_false] at verb
  obtain rfl | rfl | rfl := verb
  · exact onDev_congr (slaveFrame_is_verbLine takes sound fits holds (by decide) (by decide) (ch := 72) rfl (by decide))
  · exact onDev_congr (slaveFrame_is_verbLine takes sound fits holds (by decide) (by decide) (ch := 73) rfl (by decide))
  · exact onDev_congr (slaveFrame_is_verbLine takes sound fits holds (by decide) (by decide) (ch := 83) rfl (by decide))

/-- What LEDGER SHOW names as valid. -/
theorem ledgerLine_valid (d : Dev) : ledgerLine d = dataLine [ascii "ledger",
    kv "slot" (match d.lg.sel with | some 0 => ascii "a" | some _ => ascii "b" | none => ascii "none"), kn "seq" d.lg.selSeq, kn "len" d.lg.selLen,
    kv "valid" (match d.lg.validA, d.lg.validB with
      | true, true => ascii "a,b" | true, false => ascii "a" | false, true => ascii "b" | false, false => ascii "none")] := by
  unfold ledgerLine slotName
  cases d.lg.validA <;> cases d.lg.validB <;> rfl

/-- Settles O25: each command by what it does where the statement takes it. -/
theorem framesTunnelsAndLedger : Obligations.FramesTunnelsAndLedger := by
  unfold Obligations.FramesTunnelsAndLedger
  refine ⟨fun text sound fits => ⟨fun p verb line s holds takes => exec_slaveFrame sound fits verb holds takes, fun line holds => ?_⟩,
    fun tag n chunk frame some short length bytes small => ⟨fun holds => ?_, fun bad range damaged holds => ?_⟩,
    fun via i text n ts x toks args plain => ⟨?_, ?_⟩, fun w x => ⟨?_, ?_, ?_⟩,
    fun via text a b => ⟨?_, ?_, ?_, ?_, ?_, ?_, ?_, ?_⟩,
    fun good back c => ⟨fun x r ops => ?_, fun ops unread => ?_, fun ops read same sound => ?_, ?_, ?_, ?_, ?_⟩⟩
  · exact runs_of_onDev (exec_slaveLineFrame line) fun d ⟨takes, before, args⟩ => slaveFrame_hello takes sound fits holds before args
  · subst length
    refine does_of_onDev (exec_slaveRecordFrame frame) fun d ⟨free, empty, header⟩ => ?_
    obtain ⟨count, state⟩ := loadBegun_count some short (acceptLine (frameCtx tag) d)
    have parts := frameParts (tag := tag) (off := 0) (crc := crc32 (0x4C :: frameHead tag 0 chunk)) (chunk := chunk) (by omega) small (by decide)
      (frameCrc_lt bytes)
    rw [holds]
    exact monitorFrame_chunk free empty header some short parts ▸ ⟨rfl, count, state, rfl, rfl, rfl⟩
  · subst length
    refine does_of_onDev (exec_slaveRecordFrame frame) fun d free => ?_
    have parts := frameParts (tag := tag) (off := 0) (crc := bad) (chunk := chunk) (by omega) small (by decide) range
    rw [holds]
    exact monitorFrame_damaged free parts damaged ▸ ⟨rfl, (r_congr (e := d.w F.SYS_BOOTERR_CODE 70) rfl _).trans (r_w_same ..), rfl, rfl⟩
  · refine runs_of_onDev (exec_registeredVerb via i text) fun d ⟨⟨ready, named, verb⟩, running⟩ => ?_
    have allowed : d.r F.SYS_BOOT_LSTATE ≠ 5 := by rw [lstate_of_started running]; decide
    rw [registeredLine_taken toks args plain ready named verb, if_neg allowed]
    rfl
  · refine runs_of_onDev (exec_registeredVerb via i text) fun d ⟨⟨ready, named, verb⟩, quarantine⟩ => ?_
    rw [registeredLine_taken toks args plain ready named verb, if_pos quarantine]
  · refine does_of_onDev exec_tunnelTimeout fun d ⟨ended, alone, path, frame, console, out, store, empty, heard⟩ => ?_
    exact tunnelTimeout_alone ended alone path frame console out store empty heard ▸ ⟨rfl, rfl, rfl, rfl⟩
  · exact runs_of_onDev exec_tunnelTimeout fun d ⟨ended, running⟩ => tunnelTimeout_dead ended running
  · exact runs_of_onDev exec_tunnelTimeout fun d ⟨waits, alive, early⟩ => tunnelTimeout_early waits alive early
  · refine runs_of_onDev (exec_ledgerShow via text) fun d ⟨line, _⟩ => ?_
    rw [ledgerShow_answers line]
    exact answers_congr (congrArg (fun l => okWith [l] (Via.ctx via) _) (ledgerLine_valid (acceptLine (Via.ctx via) d)))
  · refine runs_of_onDev (exec_ledgerSave via text) fun d ⟨line, _, ⟨idle, flash⟩, fits⟩ => ?_
    rw [ledgerSave_answers line]
    have passes : saveRefuse (acceptLine (Via.ctx via) d) = 0 := saveRefuse_zero idle flash fits
    exact answers_congr ((doLedgerSave_starts passes _).trans (saveStart_commit _ _))
  · refine runs_of_onDev (exec_ledgerSave via text) fun d ⟨line, _, ⟨idle, flash⟩, long⟩ => ?_
    rw [ledgerSave_answers line]
    exact answers_congr (doLedgerSave_refused (d := acceptLine (Via.ctx via) d) (saveRefuse_long idle flash long) (by decide) _)
  · refine runs_of_onDev (exec_ledgerSave via text) fun d ⟨line, _, busy⟩ => ?_
    rw [ledgerSave_answers line]
    exact answers_congr (doLedgerSave_refused (d := acceptLine (Via.ctx via) d) (saveRefuse_busy busy) (by decide) _)
  · refine runs_of_onDev (exec_ledgerSave via text) fun d ⟨line, _, idle, absent⟩ => ?_
    rw [ledgerSave_answers line]
    exact answers_congr (doLedgerSave_refused (d := acceptLine (Via.ctx via) d) (saveRefuse_absent idle absent) (by decide) _)
  · refine does_of_onDev (exec_ledgerLoad via text a b) fun d ⟨line, _, ⟨idle, flash⟩, free⟩ => ?_
    rw [ledgerLoad_answers line, answers, byVerb, doLedgerLoad_starts (d := acceptLine (Via.ctx via) d) (loadRefuse_zero idle flash) free]
    exact ⟨rfl, rfl, List.take_append_drop 16 _, rfl, rfl⟩
  · refine runs_of_onDev (exec_ledgerLoad via text a b) fun d ⟨line, _, busy⟩ => ?_
    rw [ledgerLoad_answers line]
    exact answers_congr (doLedgerLoad_refused (d := acceptLine (Via.ctx via) d) (loadRefuse_busy busy) (by decide) _ _ _)
  · refine runs_of_onDev (exec_ledgerLoad via text a b) fun d ⟨line, _, idle, absent⟩ => ?_
    rw [ledgerLoad_answers line]
    exact answers_congr (doLedgerLoad_refused (d := acceptLine (Via.ctx via) d) (loadRefuse_absent idle absent) (by decide) _ _ _)
  · refine does_of_onDev (exec_ledgerCommitStep true back) fun d ⟨ready, free⟩ => ?_
    rw [commitStep_op ready free ops]
    exact ⟨rfl, rfl, rfl, rfl, rfl, rfl⟩
  · refine does_of_onDev (exec_ledgerCommitStep true back) fun d ⟨ready, free⟩ => ?_
    rw [commitStep_readBack ready free ops unread]
    exact ⟨rfl, rfl, rfl, rfl, List.take_append_drop 16 _⟩
  · refine does_of_onDev (exec_ledgerCommitStep true back) fun d ⟨ready, running⟩ => ?_
    rw [commitStep_stands ready running ops read same sound]
    exact ⟨rfl, rfl, fun waits => if_pos waits⟩
  · refine does_of_onDev (exec_ledgerCommitStep false back) fun d ready => ?_
    rw [commitStep_bad ready]
    exact commitFail_commit c d
  · refine does_of_onDev (exec_ledgerCommitStep good back) fun d ⟨commit, late, awake⟩ => ?_
    rw [commitStep_late commit late awake]
    exact commitFail_commit c d
  · exact runs_of_onDev (exec_ledgerCommitStep good back) fun d ⟨commit, inTime, waits⟩ => commitStep_waits commit inTime waits good _
  · exact runs_of_onDev (exec_ledgerCommitStep good back) fun d idle => commitStep_none idle good _

end Sys2Proof.Proofs
end

section
/-! PROOFS. The burn engine at work: what it moves, the pending-burn latch, and the commands that burn nothing [05 R92, R94, R96, R98, Table OT-3]. -/

namespace Sys2Proof.Proofs

open Sys2Proof.Machine Sys2Proof.Laws

/-! ### What the fuses alone decide [05 R105, R106] -/

section

variable {d t : Dev} (h : t.ot.fuses = d.ot.fuses)
include h

theorem margl_congr (w : Nat) : margl t w = margl d w := by rw [margl, margl, h]

theorem margh_congr (w : Nat) : margh t w = margh d w := by rw [margh, margh, h]

theorem weakBits_congr (w : Nat) : weakBits t w = weakBits d w := by rw [weakBits, weakBits, margh_congr h, margl_congr h]

theorem securityCount_congr (c : Nat) : securityCount t c = securityCount d c := by simp only [securityCount, margh_congr h]

theorem lifeCycle_congr : lifeCycle t = lifeCycle d := by rw [lifeCycle, lifeCycle, securityCount_congr h]

end

theorem windowMet_congr {d t : Dev} (h : t.r F.OT_WIN_OK = d.r F.OT_WIN_OK) : windowMet t = windowMet d := by
  rw [windowMet, windowMet, Dev.b, Dev.b, h]

/-! ### An engine at work that burns nothing -/

/-- From `d` to `t` the engine has been at work and has burned nothing: words have been sensed, and the job has gone on for the same request. -/
structure Worked (d t : Dev) : Prop where
  frame : t = { d with draws := t.draws, regs := t.regs, ot := { d.ot with shadow := t.ot.shadow, job := t.ot.job } }
  r : SameRegs sensedFields d t
  req : t.ot.job.map OtJob.req = d.ot.job.map OtJob.req

theorem Worked.refl (d : Dev) : Worked d d := ⟨rfl, fun _ _ => rfl, rfl⟩

theorem Worked.trans {d e t : Dev} (h : Worked d e) (k : Worked e t) : Worked d t :=
  ⟨k.frame.trans (by rw [h.frame]), fun f hf => (k.r f hf).trans (h.r f hf), k.req.trans h.req⟩

theorem Worked.fuses {d t : Dev} (h : Worked d t) : t.ot.fuses = d.ot.fuses := by rw [h.frame]

theorem Worked.mem {d t : Dev} (h : Worked d t) : t.mem = d.mem := by rw [h.frame]

theorem Sensed.job {d t : Dev} (h : Sensed d t) : t.ot.job = d.ot.job := by rw [h.frame]

theorem Sensed.worked {d t : Dev} (h : Sensed d t) : Worked d t := by
  refine ⟨?_, h.r, by rw [h.job]⟩
  rw [h.job]
  exact h.frame

theorem worked_onJob (d : Dev) {g : OtJob → OtJob} (h : ∀ j, (g j).req = j.req := by intro; rfl) : Worked d (d.onJob g) := by
  refine ⟨rfl, fun _ _ => rfl, ?_⟩
  show (d.ot.job.map g).map OtJob.req = _
  rw [Option.map_map]
  exact congrArg (d.ot.job.map ·) (funext h)

theorem worked_otFail (e : Nat) (d : Dev) : Worked d (otFail e d) := worked_onJob d

theorem worked_otTasks (ts : List (Nat × Nat)) (d : Dev) : Worked d (otTasks ts d) := by
  induction ts generalizing d with
  | nil => exact worked_onJob d
  | cons x ts ih =>
    unfold otTasks
    simp only
    split
    · exact ((worked_onJob d).trans (sensed_resense x.1 _).worked).trans (ih _)
    · split
      · exact worked_onJob d
      · exact worked_otFail _ d

theorem worked_incCmd (c : Nat) (d : Dev) : Worked d (incCmd c d) := by
  unfold incCmd
  split
  · exact worked_otFail _ d
  split
  · exact worked_otFail _ d
  split
  · exact worked_otFail _ d
  · exact (worked_onJob d).trans (worked_otTasks _ _)

/-! ### The pending-burn latch [05 R98; 06 R133] -/

/-- The latch asks for an increment of the tamper-event counter. -/
def latchRequest : OtReq := { owner := .latch, code := 6, ctr := 1 }

theorem latchServe_waits {d : Dev} (h : d.r F.OT_WIN_PEND = 0 ∨ windowMet d = false) : latchServe d = d :=
  if_pos (h.imp b_of_zero .inr)

theorem latchServe_taken {d : Dev} (h : d.ot.job ≠ none) : latchServe d = d :=
  if_pos (.inr (.inl (Option.isSome_iff_ne_none.mpr h)))

/-- The burn of the tamper bead is under way, with the latch as its owner. -/
def LatchBurns (d t : Dev) : Prop := t.ot.job.map (fun j => j.req) = some latchRequest ∧ t.r F.OT_STAT_BUSY = 1 ∧ t.mem = d.mem

theorem otBegin_latch (d : Dev) :
    otBegin latchRequest d = incCmd 1 ((d.onOt fun o => { o with job := some { req := latchRequest } }).set F.OT_STAT_BUSY) := rfl

theorem latchServe_burns {d : Dev} (pend : d.r F.OT_WIN_PEND = 1) (idle : d.ot.job = none) (met : windowMet d = true) (room : ctrFull d 1 = false) :
    LatchBurns d (latchServe d) := by
  have serves : latchServe d = otBegin latchRequest d := by
    have set : d.b F.OT_WIN_PEND = true := b_of_ne (by rw [pend]; decide)
    unfold latchServe
    rw [if_neg (by simp [set, idle, met]), if_neg (by simp [room])]
    rfl
  have worked := worked_incCmd 1 ((d.onOt fun o => { o with job := some { req := latchRequest } }).set F.OT_STAT_BUSY)
  rw [← otBegin_latch, ← serves] at worked
  exact ⟨worked.req, (worked.r _ (by decide)).trans (set_r_same _ rfl), worked.mem⟩

/-! ### A write of OT_CMD [05 R96] -/

/-- What a write of OT_CMD asks of the engine. -/
def otRequest (rom : Bool) (code : Nat) (d : Dev) : OtReq :=
  ⟨if rom then .rom else .sw, code, d.r F.OT_ADDR_WORD, d.r F.OT_ADDR_CTR, d.r F.OT_DATA_DATA, []⟩

theorem otStarted_r_other (rom : Bool) (code : Nat) (d : Dev) {f : Fld} (h : f.key ∉ [F.OT_CMD_CODE, F.OT_STAT_BUSY].map Fld.key) :
    (otStarted rom code d).r f = d.r f := by
  simp only [List.map_cons, List.map_nil, List.mem_cons, List.not_mem_nil, or_false, not_or] at h
  obtain ⟨cmd, busy⟩ := h
  exact (set_r_other _ busy).trans (r_w_other d code cmd)

theorem otStarted_readsZero (rom : Bool) (code : Nat) (d : Dev) (n : Nat) : readsZero (otStarted rom code d) n = readsZero d n := by
  rw [readsZero, readsZero, otStarted_r_other _ _ _ (by decide)]

theorem otStarted_wlk (rom : Bool) (code : Nat) (d : Dev) (n : Nat) : wlk (otStarted rom code d) n = wlk d n := by
  rw [wlk, wlk, otStarted_r_other _ _ _ (by decide)]

theorem otStarted_windowMet (rom : Bool) (code : Nat) (d : Dev) : windowMet (otStarted rom code d) = windowMet d :=
  windowMet_congr (otStarted_r_other _ _ _ (by decide))

theorem otCommand_starts {d : Dev} (code : Nat) (rom : Bool) (idle : d.r F.OT_STAT_BUSY = 0) (first : d.r F.OT_WIN_PEND = 0 ∨ windowMet d = false) :
    otCommand code rom d = otRun (otRequest rom code d) (otStarted rom code d) := by
  unfold otCommand
  rw [latchServe_waits first]
  exact if_neg (by simp [otBusy, b_of_zero idle])

theorem otCommand_busy {d : Dev} (code : Nat) (rom : Bool) (busy : (latchServe d).r F.OT_STAT_BUSY ≠ 0) :
    otCommand code rom d = (latchServe d).set F.OT_STAT_CMDLOST := if_pos (b_of_ne busy)

theorem otCommand_lost {d : Dev} (code : Nat) (rom : Bool) (busy : d.r F.OT_STAT_BUSY ≠ 0) (job : d.ot.job ≠ none) :
    otCommand code rom d = d.set F.OT_STAT_CMDLOST := by
  rw [otCommand_busy code rom (by rwa [latchServe_taken job]), latchServe_taken job]

theorem otCommand_latch {d : Dev} (code : Nat) (rom : Bool) (idle : d.ot.job = none) (pend : d.r F.OT_WIN_PEND = 1) (met : windowMet d = true)
    (room : ctrFull d 1 = false) :
    (otCommand code rom d).r F.OT_STAT_CMDLOST = 1 ∧ (otCommand code rom d).ot.job.map (fun j => j.req) = some latchRequest ∧
      (otCommand code rom d).mem = d.mem := by
  obtain ⟨req, busy, mem⟩ := latchServe_burns pend idle met room
  rw [otCommand_busy code rom (by rw [busy]; decide)]
  exact ⟨set_r_same _ rfl, req, mem⟩

/-! ### The job asked for, code by code [05 R97, Table OT-3] -/

section

variable {q : OtReq} {d : Dev}

theorem otRun_denied (h : otDenied d q = true) : otRun q d = otFail OtErr.denied d := if_pos h

/-- A job that burns nothing is denied to nobody. -/
theorem otDenied_reading (h : q.code ∉ [4, 5, 6, 8]) : otDenied d q = false := by
  simp only [List.mem_cons, List.not_mem_nil, or_false, not_or] at h
  obtain ⟨burn, reburn, inc, lock⟩ := h
  simp [otDenied, burn, reburn, inc, lock]

theorem otRun_nop (code : q.code = 0) : otRun q d = d := by
  obtain ⟨_, _, _, _, _, _⟩ := q
  subst code
  exact if_neg (by simp [otDenied_reading])

theorem otRun_read (code : q.code = 1) {v : Nat} {e : Dev} (read : normalRead d q.word = (v, e)) : otRun q d =
    (e.onJob fun j => { j with weak := bitAt (e.r F.OT_LOCK_XLK) (q.word / 64) && decide (weakBits e q.word ≠ 0) }).onJob fun j =>
      { j with data := some (if readsZero e (q.word / 64) then 0 else v) } := by
  obtain ⟨_, _, _, _, _, _⟩ := q
  subst code
  refine (if_neg (by simp [otDenied_reading])).trans ?_
  simp only [read]
  rfl

theorem otRun_margl (code : q.code = 2) : otRun q d =
    (d.onJob fun j => { j with weak := decide (weakBits d q.word ≠ 0) }).onJob fun j =>
      { j with data := some (if readsZero d (q.word / 64) then 0 else margl d q.word) } := by
  obtain ⟨_, _, _, _, _, _⟩ := q
  subst code
  exact if_neg (by simp [otDenied_reading])

theorem otRun_margh (code : q.code = 3) : otRun q d =
    (d.onJob fun j => { j with weak := decide (weakBits d q.word ≠ 0) }).onJob fun j =>
      { j with data := some (if readsZero d (q.word / 64) then 0 else margh d q.word) } := by
  obtain ⟨_, _, _, _, _, _⟩ := q
  subst code
  exact if_neg (by simp [otDenied_reading])

theorem otRun_check (code : q.code = 7) (known : ctrWords q.ctr ≠ []) : otRun q d = d.onJob fun j => { j with weak := ctrWeak d q.ctr } := by
  obtain ⟨_, _, _, _, _, _⟩ := q
  subst code
  exact (if_neg (by simp [otDenied_reading])).trans (if_neg known)

theorem otRun_sense (code : q.code = 9) : otRun q d = senseAll d := by
  obtain ⟨_, _, _, _, _, _⟩ := q
  subst code
  exact if_neg (by simp [otDenied_reading])

theorem otRun_invalid (k : Fin 6) (code : q.code = 10 + k) : otRun q d = otFail OtErr.range d := by
  obtain ⟨_, _, _, _, _, _⟩ := q
  subst code
  fin_cases k <;> exact if_neg (by simp [otDenied_reading])

end

/-! ### The counters of Table OT-5 -/

theorem ctrWords_known {c : Nat} (h : c < 14) : ctrWords c ≠ [] := by
  unfold ctrWords
  split_ifs <;> simp

theorem ctrWords_unknown {c : Nat} (h : 14 ≤ c) : ctrWords c = [] := by
  unfold ctrWords
  iterate 5 rw [if_neg (by omega)]

/-! ### The commands that burn nothing [05 R92, R94, R106] -/

/-- A normal read gives the strong bits and, of the weak ones, those of a free value; it moves nothing but the count of the values drawn. -/
theorem normalRead_free (d : Dev) (w : Nat) : ∃ x n : Nat, normalRead d w = (margl d w ||| (weakBits d w &&& x), { d with draws := n }) := by
  by_cases strong : weakBits d w = 0
  · exact ⟨0, d.draws, by simp [normalRead_strong strong]⟩
  · exact ⟨_, _, if_neg strong⟩

section

variable {d : Dev} (rom : Bool) (idle : d.r F.OT_STAT_BUSY = 0) (first : d.r F.OT_WIN_PEND = 0 ∨ windowMet d = false)
include idle first

theorem otCommand_read : ∃ x : Nat, { otCommand 1 rom d with draws := d.draws } = (otStarted rom 1 d).onJob fun j =>
    { j with data := some (if readsZero d (d.r F.OT_ADDR_WORD / 64) then 0
               else margl d (d.r F.OT_ADDR_WORD) ||| (weakBits d (d.r F.OT_ADDR_WORD) &&& x)),
             weak := bitAt (d.r F.OT_LOCK_XLK) (d.r F.OT_ADDR_WORD / 64) && decide (weakBits d (d.r F.OT_ADDR_WORD) ≠ 0) } := by
  obtain ⟨x, n, read⟩ := normalRead_free (otStarted rom 1 d) (d.r F.OT_ADDR_WORD)
  refine ⟨x, ?_⟩
  rw [otCommand_starts 1 rom idle first, otRun_read rfl read, ← otStarted_readsZero rom 1 d,
    ← otStarted_r_other rom 1 d (f := F.OT_LOCK_XLK) (by decide)]
  rfl

theorem otCommand_margl : otCommand 2 rom d = (otStarted rom 2 d).onJob fun j =>
    { j with data := some (if readsZero d (d.r F.OT_ADDR_WORD / 64) then 0 else margl d (d.r F.OT_ADDR_WORD)),
             weak := decide (weakBits d (d.r F.OT_ADDR_WORD) ≠ 0) } := by
  rw [otCommand_starts 2 rom idle first, otRun_margl rfl, ← otStarted_readsZero rom 2 d]
  rfl

theorem otCommand_margh : otCommand 3 rom d = (otStarted rom 3 d).onJob fun j =>
    { j with data := some (if readsZero d (d.r F.OT_ADDR_WORD / 64) then 0 else margh d (d.r F.OT_ADDR_WORD)),
             weak := decide (weakBits d (d.r F.OT_ADDR_WORD) ≠ 0) } := by
  rw [otCommand_starts 3 rom idle first, otRun_margh rfl, ← otStarted_readsZero rom 3 d]
  rfl

end

/-- Settles O11: an idle engine starts the command, whose code says what its job holds; a busy one, or one that the pending-burn latch takes first,
only sets CMDLOST. -/
theorem otpReads : Obligations.OtpReads := by
  intro rom
  refine ⟨?_, ?_, ?_, ?_, ?_, ?_, ?_, ?_⟩
  · exact runs_of_onDev (g := otCommand 0 rom) (fun _ => rfl) fun d ⟨idle, first⟩ => (otCommand_starts 0 rom idle first).trans (otRun_nop rfl)
  · exact does_of_onDev (g := otCommand 1 rom) (fun _ => rfl) fun d ⟨idle, first⟩ => otCommand_read rom idle first
  · exact runs_of_onDev (g := otCommand 2 rom) (fun _ => rfl) fun d ⟨idle, first⟩ => otCommand_margl rom idle first
  · exact runs_of_onDev (g := otCommand 3 rom) (fun _ => rfl) fun d ⟨idle, first⟩ => otCommand_margh rom idle first
  · exact runs_of_onDev (g := otCommand 7 rom) (fun _ => rfl) fun d ⟨⟨idle, first⟩, known⟩ =>
      (otCommand_starts 7 rom idle first).trans (otRun_check rfl (ctrWords_known known))
  · refine does_of_onDev (g := otCommand 9 rom) (fun _ => rfl) fun d ⟨idle, first⟩ => ?_
    have all := sensed_senseAll (otStarted rom 9 d)
    rw [otCommand_starts 9 rom idle first, otRun_sense rfl]
    exact ⟨fun w burned strong => (senseAll_shadows (d := otStarted rom 9 d) burned ((all.weakBits w).trans strong)).trans (all.margl w),
      all.fuses, all.worked.mem, all.job⟩
  · exact fun k => runs_of_onDev (g := otCommand (10 + k) rom) (fun _ => rfl) fun d ⟨idle, first⟩ =>
      (otCommand_starts _ rom idle first).trans (otRun_invalid k rfl)
  · intro c command
    obtain ⟨code, acts⟩ : ∃ code, ∀ s, exec c s = onDev (otCommand code rom) s := by
      simp only [List.mem_cons, List.not_mem_nil, or_false] at command
      rcases command with rfl | rfl | rfl | rfl | rfl | rfl <;> exact ⟨_, fun _ => rfl⟩
    exact ⟨runs_of_onDev acts fun d ⟨busy, job⟩ => otCommand_lost code rom busy job,
      does_of_onDev acts fun d ⟨idle, pend, met, room⟩ => otCommand_latch code rom idle pend met room⟩

end Sys2Proof.Proofs
end

section
/-! PROOFS. The OTP commands that burn: their checks, and their first pulse [05 R97, R99, R101, R105, R107, Table OT-6]. -/

namespace Sys2Proof.Proofs

open Sys2Proof.Machine Sys2Proof.Laws

/-! ### The window as the comparators give it [05 R99] -/

/-- The bits of OT_WIN that follow the supplies. -/
def supplyFields : List Fld := [F.OT_WIN_VPPOK, F.OT_WIN_VINOK, F.OT_WIN_OK]

theorem setWindow_free (v : Nat) {d : Dev} (idle : d.ot.job = none) :
    setWindow v d = winOk ((d.w F.OT_WIN_VPPOK (bit (bitAt v 0))).w F.OT_WIN_VINOK (bit (bitAt v 1))) := by
  simp [setWindow, cutIfLeft, pulseNow, winOk, idle]

section

variable (v : Nat) {d : Dev} (idle : d.ot.job = none)
include idle

theorem setWindow_ot : (setWindow v d).ot = d.ot := by rw [setWindow_free v idle]; rfl

theorem setWindow_ns : (setWindow v d).ns = d.ns := by rw [setWindow_free v idle]; rfl

theorem setWindow_mem : (setWindow v d).mem = d.mem := by rw [setWindow_free v idle]; rfl

theorem setWindow_r {f : Fld} (h : f.key ∉ supplyFields.map Fld.key) : (setWindow v d).r f = d.r f := by
  simp only [supplyFields, List.map_cons, List.map_nil, List.mem_cons, List.not_mem_nil, or_false, not_or] at h
  obtain ⟨vpp, vin, ok⟩ := h
  rw [setWindow_free v idle, winOk, r_w_other _ _ ok, r_w_other _ _ vin, r_w_other _ _ vpp]

theorem setWindow_wlk (n : Nat) : wlk (setWindow v d) n = wlk d n := by rw [wlk, wlk, setWindow_r v idle (by decide)]

end

/-! ### Who may burn [05 R97] -/

section

variable {q : OtReq} {d : Dev}

theorem otDenied_burn (alive : lifeCycle d ≠ 3) (burn : q.code = 4 ∨ q.code = 5) : otDenied d q = false := by
  rcases burn with burn | reburn
  · simp [otDenied, alive, burn]
  · simp [otDenied, alive, reburn]

theorem otDenied_rom (alive : lifeCycle d ≠ 3) (rom : q.owner = .rom) : otDenied d q = false := by simp [otDenied, alive, rom]

theorem otDenied_image_lock (image : q.owner = .sw) (lock : q.code = 8) : otDenied d q = true := by simp [otDenied, image, lock]

theorem otDenied_image_inc (image : q.owner = .sw) (inc : q.code = 6) (known : ctrWords q.ctr ≠ []) : otDenied d q = true := by
  simp [otDenied, image, inc, known]

theorem otDenied_unknown (alive : lifeCycle d ≠ 3) (inc : q.code = 6) (unknown : ctrWords q.ctr = []) : otDenied d q = false := by
  simp [otDenied, alive, inc, unknown]

/-! ### The burning jobs, code by code [05 Table OT-3] -/

theorem otRun_burn (alive : lifeCycle d ≠ 3) (code : q.code = 4) : otRun q d = burnCmd q.word q.data d := by
  obtain ⟨_, _, _, _, _, _⟩ := q
  subst code
  exact if_neg (by simp [otDenied_burn alive])

theorem otRun_reburn (alive : lifeCycle d ≠ 3) (code : q.code = 5) : otRun q d = burnCmd q.word (weakBits d q.word) d := by
  obtain ⟨_, _, _, _, _, _⟩ := q
  subst code
  exact if_neg (by simp [otDenied_burn alive])

theorem otRun_inc (allowed : otDenied d q = false) (code : q.code = 6) : otRun q d = incCmd q.ctr d := by
  obtain ⟨_, _, _, _, _, _⟩ := q
  subst code
  exact if_neg (by simp [allowed])

theorem otRun_lock (allowed : otDenied d q = false) (code : q.code = 8) (fits : q.data < 65536) : otRun q d = otTasks [(otLockWord, q.data)] d := by
  obtain ⟨_, _, _, _, _, _⟩ := q
  subst code
  exact (if_neg (by simp [allowed])).trans (if_neg (not_not_intro (Nat.div_eq_of_lt fits)))

end

/-! ### The checks of a burn, and its first pulse [05 R90, R91, R93, R101] -/

/-- The checks of burn_cmd pass for word `w`: it is not of region 3 or of a locked one, not reserved, and no bead word. -/
def Burnable (w : Nat) (d : Dev) : Prop := w / 64 ≠ 3 ∧ wlk d (w / 64) = false ∧ otReserved w = false ∧ otBead w = false

/-- A job that has not burned yet fails with nothing to drop. -/
theorem otFail_fresh {d : Dev} {q : OtReq} (fresh : d.ot.job = some { req := q }) (e : Nat) : otFail e d = d.onJob fun j => { j with err := e } := by
  simp [otFail, Dev.onJob, Dev.onOt, fresh]

theorem burnCmd_locked {w : Nat} {d : Dev} (target : Nat) (locked : w / 64 = 3 ∨ wlk d (w / 64) = true) :
    burnCmd w target d = otFail OtErr.locked (d.lockV Tag.ot 0x40002000) := if_pos locked

theorem burnCmd_passes {w target : Nat} {d : Dev} (free : Burnable w d) (fits : target &&& otReservedBits w = 0) :
    burnCmd w target d = otTasks [(w, target)] d := by
  obtain ⟨region, unlocked, used, plain⟩ := free
  unfold burnCmd
  rw [if_neg (by simp [region, unlocked]), if_neg (by simp [used, plain]), if_neg (not_not_intro fits)]

section

variable {w target : Nat} {d : Dev} (rest : List (Nat × Nat)) (new : target &&& (0xFFFFFFFF ^^^ margl d w) ≠ 0)
include new

theorem otTasks_pulses (met : windowMet d = true) : otTasks ((w, target) :: rest) d = d.onJob fun j =>
    { j with tasks := rest, cur := some ⟨w, target, target &&& (0xFFFFFFFF ^^^ margl d w), 0, d.ns⟩, retries := some 0, fail := some 0 } := by
  rw [otTasks]
  exact (if_neg new).trans (if_pos met)

theorem otTasks_unmet (unmet : windowMet d = false) : otTasks ((w, target) :: rest) d = otFail OtErr.window d := by
  rw [otTasks]
  exact (if_neg new).trans (if_neg (by simp [unmet]))

end

/-- The weak bits of a word are bits that margin-low does not read. -/
theorem weakBits_new (d : Dev) (w : Nat) : weakBits d w &&& (0xFFFFFFFF ^^^ margl d w) = weakBits d w := by
  rw [weakBits, Nat.and_assoc, Nat.and_self]

/-! ### The life-cycle beads below RETIRED [05 Table OT-5, R107] -/

section

variable {b : Nat} {d : Dev} (below : b < 3) (high : margh d 168 = 2 ^ b - 1)
include below high

theorem lifeCycle_room : ctrFull d 10 = false := by
  have beads : ctrFull d 10 = decide (popCount 0xF ≤ popCount ((2 ^ b - 1) &&& 0xF)) := by rw [← high]; rfl
  rw [beads]
  interval_cases b <;> decide

theorem lifeCycle_nextBead : nextBead d 10 = some (168, 2 ^ b) := by
  unfold nextBead
  rw [show ctrWords 10 = [(168, 0xF)] from rfl]
  simp only [List.findSome?, high]
  interval_cases b <;> rfl

section

variable (low : margl d 168 = 2 ^ b - 1)
include low

theorem lifeCycle_incTasks : incTasks d 10 = [(168, 2 ^ b)] := by
  have strong : weakBits d 168 = 0 := by
    rw [weakBits, high, low]
    interval_cases b <;> decide
  simp [incTasks, lifeCycle_nextBead below high, ctrWords, strong]

theorem lifeCycle_new : 2 ^ b &&& (0xFFFFFFFF ^^^ margl d 168) = 2 ^ b := by
  rw [low]
  interval_cases b <;> decide

/-- An increment of the life-cycle counter pulses its lowest unburned bead. -/
theorem incCmd_lifeCycle (met : windowMet d = true) : incCmd 10 d = (d.onJob fun j => { j with weak := ctrWordsWeak d 10 }).onJob fun j =>
    { j with tasks := [], cur := some ⟨168, 2 ^ b, 2 ^ b, 0, d.ns⟩, retries := some 0, fail := some 0 } := by
  have new (g : OtJob → OtJob) : 2 ^ b &&& (0xFFFFFFFF ^^^ margl (d.onJob g) 168) = 2 ^ b := lifeCycle_new below high low
  unfold incCmd
  rw [if_neg (ctrWords_known (by decide)), if_neg (by simp [lifeCycle_room below high]), if_neg (by simp [met]),
    lifeCycle_incTasks below high low, otTasks_pulses [] (ne_of_eq_of_ne (new _) (by positivity)) met, new]
  rfl

end

end

/-! ### Commands of an idle engine -/

theorem exec_otCmdBurn (rom : Bool) (win : BitVec 2) (s : State) :
    exec (.otCmdBurn rom win) s = onDev (fun d => otCommand 4 rom (setWindow win.toNat d)) s := rfl

theorem exec_otCmdReburn (rom : Bool) (win : BitVec 2) (s : State) :
    exec (.otCmdReburn rom win) s = onDev (fun d => otCommand 5 rom (setWindow win.toNat d)) s := rfl

theorem exec_otCmdInc (rom : Bool) (win : BitVec 2) (s : State) :
    exec (.otCmdInc rom win) s = onDev (fun d => otCommand 6 rom (setWindow win.toNat d)) s := rfl

theorem exec_otCmdLock (rom : Bool) (win : BitVec 2) (s : State) :
    exec (.otCmdLock rom win) s = onDev (fun d => otCommand 8 rom (setWindow win.toNat d)) s := rfl

/-- The engine is idle once the comparators have given `win`, and the pending-burn latch does not come first. -/
def IdleUnder (win : Nat) (d : Dev) : Prop :=
  (setWindow win d).r F.OT_STAT_BUSY = 0 ∧ d.ot.job = none ∧ (d.r F.OT_WIN_PEND = 0 ∨ windowMet (setWindow win d) = false)

/-- The job whose burn of word `w` has its first pulse. -/
def firstPulse (w target : Nat) (d : Dev) (j : OtJob) : OtJob :=
  { j with cur := some ⟨w, target, target &&& (0xFFFFFFFF ^^^ margl d w), 0, d.ns⟩, retries := some 0, fail := some 0 }

section

variable {win : Nat} {d : Dev} (rom : Bool) (idle : IdleUnder win d)
include idle

theorem otCommand_under (code : Nat) :
    otCommand code rom (setWindow win d) = otRun (otRequest rom code d) (otStarted rom code (setWindow win d)) := by
  obtain ⟨still, free, first⟩ := idle
  have asked : otRequest rom code (setWindow win d) = otRequest rom code d := by
    simp only [otRequest, setWindow_r win free (f := F.OT_ADDR_WORD) (by decide), setWindow_r win free (f := F.OT_ADDR_CTR) (by decide),
      setWindow_r win free (f := F.OT_DATA_DATA) (by decide)]
  rw [← asked]
  exact otCommand_starts code rom still (first.imp (setWindow_r win free (by decide)).trans id)

theorem started_fuses (code : Nat) : (otStarted rom code (setWindow win d)).ot.fuses = d.ot.fuses := by
  rw [← setWindow_ot win idle.2.1]
  rfl

theorem started_alive (code : Nat) (alive : lifeCycle d ≠ 3) : lifeCycle (otStarted rom code (setWindow win d)) ≠ 3 := by
  rwa [lifeCycle_congr (started_fuses rom idle code)]

theorem started_wlk (code n : Nat) : wlk (otStarted rom code (setWindow win d)) n = wlk d n :=
  (otStarted_wlk ..).trans (setWindow_wlk win idle.2.1 n)

theorem started_burnable {w : Nat} (code : Nat) (free : Burnable w d) : Burnable w (otStarted rom code (setWindow win d)) := by
  obtain ⟨region, unlocked, plain⟩ := free
  exact ⟨region, (started_wlk rom idle code _).trans unlocked, plain⟩

section

variable {w target : Nat} (code : Nat) (new : target &&& (0xFFFFFFFF ^^^ margl d w) ≠ 0)
include new

theorem started_pulses (met : windowMet (setWindow win d) = true) :
    otTasks [(w, target)] (otStarted rom code (setWindow win d)) = (otStarted rom code (setWindow win d)).onJob (firstPulse w target d) := by
  have burned := margl_congr (started_fuses rom idle code) w
  have now : (otStarted rom code (setWindow win d)).ns = d.ns := setWindow_ns win idle.2.1
  rw [otTasks_pulses [] (by rwa [burned]) ((otStarted_windowMet ..).trans met), burned, now]
  rfl

theorem started_unmet (unmet : windowMet (setWindow win d) = false) :
    otTasks [(w, target)] (otStarted rom code (setWindow win d)) = otFail OtErr.window (otStarted rom code (setWindow win d)) :=
  otTasks_unmet [] (by rwa [margl_congr (started_fuses rom idle code)]) ((otStarted_windowMet ..).trans unmet)

end

theorem otCommand_burn (alive : lifeCycle d ≠ 3) (free : Burnable (d.r F.OT_ADDR_WORD) d)
    (fits : d.r F.OT_DATA_DATA &&& otReservedBits (d.r F.OT_ADDR_WORD) = 0) :
    otCommand 4 rom (setWindow win d) = otTasks [(d.r F.OT_ADDR_WORD, d.r F.OT_DATA_DATA)] (otStarted rom 4 (setWindow win d)) := by
  rw [otCommand_under rom idle, otRun_burn (started_alive rom idle 4 alive) rfl]
  exact burnCmd_passes (started_burnable rom idle 4 free) fits

theorem otCommand_burn_locked (alive : lifeCycle d ≠ 3) (locked : d.r F.OT_ADDR_WORD / 64 = 3 ∨ wlk d (d.r F.OT_ADDR_WORD / 64) = true) :
    otCommand 4 rom (setWindow win d) =
      ((otStarted rom 4 (setWindow win d)).lockV Tag.ot 0x40002000).onJob fun j => { j with err := OtErr.locked } := by
  have fresh : ((otStarted rom 4 (setWindow win d)).lockV Tag.ot 0x40002000).ot.job = some { req := otRequest rom 4 (setWindow win d) } := by
    rw [lockV_frame]
    rfl
  rw [otCommand_under rom idle, otRun_burn (started_alive rom idle 4 alive) rfl, ← otFail_fresh fresh]
  exact burnCmd_locked _ (by rwa [started_wlk rom idle])

theorem otCommand_reburn (alive : lifeCycle d ≠ 3) (free : Burnable (d.r F.OT_ADDR_WORD) d)
    (fits : weakBits d (d.r F.OT_ADDR_WORD) &&& otReservedBits (d.r F.OT_ADDR_WORD) = 0) :
    otCommand 5 rom (setWindow win d) =
      otTasks [(d.r F.OT_ADDR_WORD, weakBits d (d.r F.OT_ADDR_WORD))] (otStarted rom 5 (setWindow win d)) := by
  rw [otCommand_under rom idle, otRun_reburn (started_alive rom idle 5 alive) rfl, weakBits_congr (started_fuses rom idle 5)]
  exact burnCmd_passes (started_burnable rom idle 5 free) fits

theorem otCommand_lock (alive : lifeCycle d ≠ 3) (fits : d.r F.OT_DATA_DATA < 65536) :
    otCommand 8 true (setWindow win d) = otTasks [(otLockWord, d.r F.OT_DATA_DATA)] (otStarted true 8 (setWindow win d)) := by
  rw [otCommand_under true idle]
  exact otRun_lock (otDenied_rom (started_alive true idle 8 alive) rfl) rfl fits

theorem otCommand_inc_lifeCycle (alive : lifeCycle d ≠ 3) (met : windowMet (setWindow win d) = true) (ctr : d.r F.OT_ADDR_CTR = 10) {b : Nat}
    (below : b < 3) (high : margh d 168 = 2 ^ b - 1) (low : margl d 168 = 2 ^ b - 1) :
    pulseNow (otCommand 6 true (setWindow win d)) = some ⟨168, 2 ^ b, 2 ^ b, 0, d.ns⟩ ∧
      (otCommand 6 true (setWindow win d)).ot.fuses = d.ot.fuses ∧ (otCommand 6 true (setWindow win d)).mem = d.mem := by
  have fuses := started_fuses true idle 6
  have asked : (otRequest true 6 d).ctr = 10 := ctr
  rw [otCommand_under true idle, otRun_inc (otDenied_rom (started_alive true idle 6 alive) rfl) rfl, asked,
    incCmd_lifeCycle below ((margh_congr fuses _).trans high) ((margl_congr fuses _).trans low) ((otStarted_windowMet ..).trans met),
    ← setWindow_ns win idle.2.1, ← setWindow_mem win idle.2.1]
  exact ⟨rfl, fuses, rfl⟩

theorem otCommand_lock_denied : otCommand 8 false (setWindow win d) = otFail OtErr.denied (otStarted false 8 (setWindow win d)) := by
  rw [otCommand_under false idle]
  exact otRun_denied (otDenied_image_lock rfl rfl)

theorem otCommand_inc_denied (known : d.r F.OT_ADDR_CTR < 14) :
    otCommand 6 false (setWindow win d) = otFail OtErr.denied (otStarted false 6 (setWindow win d)) := by
  rw [otCommand_under false idle]
  exact otRun_denied (otDenied_image_inc rfl rfl (ctrWords_known known))

theorem otCommand_inc_unknown (alive : lifeCycle d ≠ 3) (unknown : 14 ≤ d.r F.OT_ADDR_CTR) :
    otCommand 6 false (setWindow win d) = otFail OtErr.range (otStarted false 6 (setWindow win d)) := by
  have none : ctrWords (otRequest false 6 d).ctr = [] := ctrWords_unknown unknown
  rw [otCommand_under false idle, otRun_inc (otDenied_unknown (started_alive false idle 6 alive) rfl none) rfl]
  exact if_pos none

end

/-- Settles O12: the command passes its checks and its word burn takes the first pulse, or the first check that fails names the ERR. -/
theorem otpBurns : Obligations.OtpBurns := by
  intro rom win
  refine ⟨?_, ?_, ?_, ?_, ?_, ?_, ?_, ?_, ?_⟩
  · refine runs_of_onDev (exec_otCmdBurn rom win) fun d ⟨⟨idle, met, alive⟩, free, fits, new⟩ => ?_
    exact (otCommand_burn rom idle alive free fits).trans (started_pulses rom idle 4 new met)
  · refine runs_of_onDev (exec_otCmdReburn rom win) fun d ⟨⟨idle, met, alive⟩, free, fits, weak⟩ => ?_
    exact (otCommand_reburn rom idle alive free fits).trans (started_pulses rom idle 5 (ne_of_eq_of_ne (weakBits_new ..) weak) met)
  · intro b below
    exact does_of_onDev (exec_otCmdInc true win) fun d ⟨⟨idle, met, alive⟩, ctr, high, low⟩ =>
      otCommand_inc_lifeCycle idle alive met ctr below high low
  · refine runs_of_onDev (exec_otCmdLock true win) fun d ⟨⟨idle, met, alive⟩, fits, new⟩ => ?_
    exact (otCommand_lock idle alive fits).trans (started_pulses true idle 8 new met)
  · refine runs_of_onDev (exec_otCmdBurn rom win) fun d ⟨idle, unmet, alive, free, fits, new⟩ => ?_
    exact (otCommand_burn rom idle alive free fits).trans (started_unmet rom idle 4 new unmet)
  · exact runs_of_onDev (exec_otCmdBurn rom win) fun d ⟨idle, alive, locked⟩ => otCommand_burn_locked rom idle alive locked
  · exact runs_of_onDev (exec_otCmdLock false win) fun d idle => otCommand_lock_denied idle
  · exact runs_of_onDev (exec_otCmdInc false win) fun d ⟨idle, known⟩ => otCommand_inc_denied idle known
  · exact runs_of_onDev (exec_otCmdInc false win) fun d ⟨idle, alive, unknown⟩ => otCommand_inc_unknown idle alive unknown

end Sys2Proof.Proofs
end

section
/-! PROOFS. The burn pulses: their verify, their end, and the window that falls under one [05 R89, R100, R101, R103]. -/

namespace Sys2Proof.Proofs

open Sys2Proof.Machine Sys2Proof.Laws

/-! ### What a pulse leaves of its word [05 R89] -/

theorem margl_burnBits_same (w lo hi : Nat) (d : Dev) : margl (burnBits w lo hi d) w = margl d w ||| lo :=
  congrArg Prod.fst (tab_getD_setD_same d.ot.fuses w (0, 0) _)

section

variable {w k : Nat} (lo hi : Nat) (d : Dev) (h : k ≠ w)
include h

theorem burnBits_other : Tab.getD (burnBits w lo hi d).ot.fuses k (0, 0) = Tab.getD d.ot.fuses k (0, 0) := tab_getD_setD_other _ _ _ _ h

theorem margl_burnBits_other : margl (burnBits w lo hi d) k = margl d k := by rw [margl, margl, burnBits_other lo hi d h]

theorem margh_burnBits_other : margh (burnBits w lo hi d) k = margh d k := by rw [margh, margh, burnBits_other lo hi d h]

end

/-- From `d` to `t` the pulse `p` has burned those of its failing bits that are in `lo` strongly and those in `hi` at least weakly, and no other
bit has been burned. -/
structure Burned (p : Pulse) (lo hi : Nat) (d t : Dev) : Prop where
  fuses : t.ot.fuses = (burnBits p.word (lo &&& p.failing) (hi &&& p.failing) d).ot.fuses
  mem : t.mem = d.mem

namespace Burned

variable {p : Pulse} {lo hi : Nat} {d e t : Dev}

theorem then_worked (h : Burned p lo hi d e) (k : Worked e t) : Burned p lo hi d t := ⟨k.fuses.trans h.fuses, k.mem.trans h.mem⟩

theorem margl_same (h : Burned p lo hi d t) : margl t p.word = margl d p.word ||| (lo &&& p.failing) :=
  (margl_congr h.fuses _).trans (margl_burnBits_same ..)

theorem margl_other (h : Burned p lo hi d t) {w : Nat} (other : w ≠ p.word) : margl t w = margl d w :=
  (margl_congr h.fuses _).trans (margl_burnBits_other _ _ _ other)

theorem margh_other (h : Burned p lo hi d t) {w : Nat} (other : w ≠ p.word) : margh t w = margh d w :=
  (margh_congr h.fuses _).trans (margh_burnBits_other _ _ _ other)

theorem others (h : Burned p lo hi d t) (w : Nat) (other : w ≠ p.word) : margl t w = margl d w ∧ margh t w = margh d w :=
  ⟨h.margl_other other, h.margh_other other⟩

/-- No burned bit is unburned [05 R89]. -/
theorem keeps (h : Burned p lo hi d t) (w n : Nat) (burned : (margl d w).testBit n = true) : (margl t w).testBit n = true := by
  by_cases same : w = p.word
  · subst same
    rw [h.margl_same, Nat.testBit_or, burned, Bool.true_or]
  · rwa [h.margl_other same]

end Burned

/-! ### The job of a pulse -/

theorem pulseNow_some {d : Dev} {p : Pulse} : pulseNow d = some p ↔ ∃ j, d.ot.job = some j ∧ j.cur = some p := by
  unfold pulseNow
  cases d.ot.job <;> simp

theorem pulseNow_congr {d t : Dev} (h : t.ot.job = d.ot.job) : pulseNow t = pulseNow d := by rw [pulseNow, pulseNow, h]

theorem worked_retireBead (second : Bool) (d : Dev) : Worked d (retireBead second d) := by
  unfold retireBead
  split
  · exact worked_otTasks _ d
  · exact worked_incCmd _ d

/-- The word burn of `p` has ended: its shadow is sensed, and the job knows its retries and its failing bits. -/
def wordReported (p : Pulse) (d : Dev) : Dev :=
  resense p.word (d.onJob fun j => { j with cur := none, retries := some (p.tries - 1), fail := some p.failing })

theorem worked_wordReported (p : Pulse) (d : Dev) : Worked d (wordReported p d) := (worked_onJob d).trans (sensed_resense ..).worked

theorem wordReported_job (p : Pulse) (d : Dev) : (wordReported p d).ot.job =
    d.ot.job.map fun j => { j with cur := none, retries := some (p.tries - 1), fail := some p.failing } := (sensed_resense ..).job

theorem wordEnd_some {p : Pulse} {d : Dev} {j : OtJob} (job : (wordReported p d).ot.job = some j) : wordEnd p d =
    if j.abort then otFail OtErr.abort (wordReported p d)
    else if p.failing ≠ 0 then
      if j.req.code = 17 ∧ j.second = false then retireBead true ((wordReported p d).onJob fun j => { j with second := true })
      else otFail OtErr.verify (wordReported p d)
    else otTasks j.tasks (wordReported p d) := by
  unfold wordReported at job
  simp only [wordEnd, job]
  rfl

theorem wordEnd_none {p : Pulse} {d : Dev} (job : (wordReported p d).ot.job = none) : wordEnd p d = wordReported p d := by
  unfold wordReported at job
  simp only [wordEnd, job]
  rfl

theorem worked_wordEnd (p : Pulse) (d : Dev) : Worked d (wordEnd p d) := by
  refine (worked_wordReported p d).trans ?_
  cases job : (wordReported p d).ot.job with
  | none => exact wordEnd_none job ▸ .refl _
  | some j =>
    rw [wordEnd_some job]
    split
    · exact worked_otFail _ _
    split
    · split
      · exact (worked_onJob _).trans (worked_retireBead _ _)
      · exact worked_otFail _ _
    · exact worked_otTasks _ _

theorem wordEnd_verified {p : Pulse} {d : Dev} {j : OtJob} (job : d.ot.job = some j) (last : j.tasks = []) (goes : j.abort = false)
    (verified : p.failing = 0) :
    (wordEnd p d).ot.job = some { j with tasks := [], cur := none, retries := some (p.tries - 1), fail := some 0 } := by
  have reported := wordReported_job p d
  rw [job, Option.map_some] at reported
  rw [wordEnd_some reported, if_neg (by simp [goes]), if_neg (not_not_intro verified)]
  show (otTasks j.tasks _).ot.job = _
  rw [last]
  show (wordReported p d).ot.job.map _ = _
  rw [reported, verified]
  rfl

/-! ### A pulse that is cut [05 R100] -/

theorem worked_pulseCut (p : Pulse) (lo hi : Nat) (d : Dev) :
    Worked (burnBits p.word (lo &&& p.failing) (hi &&& p.failing) d) (pulseCut p lo hi d) :=
  ((worked_onJob _).trans (sensed_resense ..).worked).trans (worked_otFail ..)

theorem burned_pulseCut (p : Pulse) (lo hi : Nat) (d : Dev) : Burned p lo hi d (pulseCut p lo hi d) :=
  Burned.then_worked ⟨rfl, rfl⟩ (worked_pulseCut p lo hi d)

theorem pulseCut_r (p : Pulse) (lo hi : Nat) (d : Dev) {f : Fld} (h : f.key ∉ sensedFields.map Fld.key) : (pulseCut p lo hi d).r f = d.r f :=
  (worked_pulseCut p lo hi d).r f h

/-- The job of a cut pulse burns nothing more and will end with ERR WINDOW. -/
theorem pulseCut_job {p : Pulse} {d : Dev} {j : OtJob} (lo hi : Nat) (job : d.ot.job = some j) :
    ∃ fail, (pulseCut p lo hi d).ot.job =
      some { j with err := OtErr.window, tasks := [], cur := none, retries := some p.tries, fail := some fail, cut := true } := by
  refine ⟨p.failing &&& (0xFFFFFFFF ^^^ margl (burnBits p.word (lo &&& p.failing) (hi &&& p.failing) d) p.word), ?_⟩
  show Option.map _ (resense p.word _).ot.job = _
  rw [(sensed_resense ..).job]
  show Option.map _ (d.ot.job.map _) = _
  rw [job]
  rfl

/-! ### The end of a pulse [05 R101, R103] -/

/-- The verify of pulse `p` has been read; a tie with its deadline is recorded. -/
def verified (p : Pulse) (lo hi : Nat) (tie : Bool) (d : Dev) : Dev :=
  if tie then ((burnBits p.word (lo &&& p.failing) (hi &&& p.failing) d).set F.OT_STAT_COIN).coin Tag.ot
  else burnBits p.word (lo &&& p.failing) (hi &&& p.failing) d

/-- The pulse that follows `p`, for the bits that its verify found failing. -/
def nextPulse (p : Pulse) (lo : Nat) (d : Dev) : Pulse :=
  { p with failing := p.target &&& (0xFFFFFFFF ^^^ (margl d p.word ||| (lo &&& p.failing))), tries := p.tries + 1, start := d.ns }

theorem verified_frame (p : Pulse) (lo hi : Nat) (tie : Bool) (d : Dev) :
    verified p lo hi tie d = { burnBits p.word (lo &&& p.failing) (hi &&& p.failing) d with regs := (verified p lo hi tie d).regs } := by
  unfold verified
  split <;> rfl

theorem verified_job (p : Pulse) (lo hi : Nat) (tie : Bool) (d : Dev) : (verified p lo hi tie d).ot.job = d.ot.job := by
  rw [verified_frame]
  rfl

theorem burned_verified (p : Pulse) (lo hi : Nat) (tie : Bool) (d : Dev) : Burned p lo hi d (verified p lo hi tie d) := by
  rw [verified_frame]
  exact ⟨rfl, rfl⟩

section

variable {p : Pulse} {d : Dev} (lo hi : Nat) (tie : Bool)

theorem burnPulseEnd_none (none : pulseNow d = none) : burnPulseEnd lo hi tie d = d := by simp only [burnPulseEnd, none]

variable (pulse : pulseNow d = some p)
include pulse

theorem burnPulseEnd_early (early : d.ns < p.start + 50000) : burnPulseEnd lo hi tie d = d := by simp only [burnPulseEnd, pulse, if_pos early]

variable (due : p.start + 50000 ≤ d.ns)
include due

theorem burnPulseEnd_left (unmet : windowMet d = false) : burnPulseEnd lo hi tie d = pulseCut p lo hi d := by
  simp only [burnPulseEnd, pulse, if_neg (Nat.not_lt.mpr due), if_pos unmet]

theorem burnPulseEnd_met {j : OtJob} (job : d.ot.job = some j) (met : windowMet d = true) : burnPulseEnd lo hi tie d =
    if (nextPulse p lo d).failing ≠ 0 ∧ (nextPulse p lo d).tries < 5 ∧ j.abort = false then
      (verified p lo hi tie d).onJob fun j => { j with cur := some (nextPulse p lo d) }
    else wordEnd (nextPulse p lo d) (verified p lo hi tie d) := by
  have read : nextPulse p lo d =
      ⟨p.word, p.target, p.target &&& (0xFFFFFFFF ^^^ margl (verified p lo hi tie d) p.word), p.tries + 1, (verified p lo hi tie d).ns⟩ := by
    rw [(burned_verified p lo hi tie d).margl_same, verified_frame]
    rfl
  have going : (verified p lo hi tie d).ot.job = some j := (verified_job ..).trans job
  rw [read]
  unfold verified at going ⊢
  simp only [burnPulseEnd, pulse, if_neg (Nat.not_lt.mpr due), met, going]
  rfl

/-- A verify that finds every bit ends the last word burn of the job. -/
theorem burnPulseEnd_verified {j : OtJob} (job : d.ot.job = some j) (met : windowMet d = true) (all : (nextPulse p lo d).failing = 0)
    (last : j.tasks = []) (goes : j.abort = false) : Burned p lo hi d (burnPulseEnd lo hi tie d) ∧
      (burnPulseEnd lo hi tie d).ot.job = some { j with tasks := [], cur := none, retries := some p.tries, fail := some 0 } := by
  rw [burnPulseEnd_met lo hi tie pulse due job met, if_neg fun h => h.1 all]
  exact ⟨(burned_verified ..).then_worked (worked_wordEnd ..), wordEnd_verified ((verified_job ..).trans job) last goes all⟩

/-- A verify that leaves bits failing is followed by the next pulse, up to the fifth. -/
theorem burnPulseEnd_retries {j : OtJob} (job : d.ot.job = some j) (met : windowMet d = true) (left : (nextPulse p lo d).failing ≠ 0)
    (tries : p.tries < 4) (goes : j.abort = false) : Burned p lo hi d (burnPulseEnd lo hi tie d) ∧
      (burnPulseEnd lo hi tie d).ot.job = some { j with cur := some (nextPulse p lo d) } := by
  rw [burnPulseEnd_met lo hi tie pulse due job met, if_pos ⟨left, Nat.succ_lt_succ tries, goes⟩]
  exact ⟨(burned_verified ..).then_worked (worked_onJob _), congrArg (Option.map _) ((verified_job ..).trans job)⟩

end

/-! ### A window that falls [05 R99, R100] -/

/-- The window bit `f` falls where `falls`. -/
def windowDrop (falls : Bool) (f : Fld) (d : Dev) : Dev := if falls then d.clr f else d

theorem windowDrop_frame (falls : Bool) (f : Fld) (d : Dev) : windowDrop falls f d = { d with regs := (windowDrop falls f d).regs } := by
  unfold windowDrop
  split <;> rfl

theorem windowDrop_r_same {falls : Bool} (h : falls = true) (f : Fld) (d : Dev) : (windowDrop falls f d).r f = 0 := by
  rw [windowDrop, if_pos h, clr_r_same]

theorem windowDrop_r_other (falls : Bool) {f g : Fld} (d : Dev) (h : g.key ≠ f.key) : (windowDrop falls f d).r g = d.r g := by
  unfold windowDrop
  split
  · exact clr_r_other d h
  · rfl

/-- The conditions named by the bits of `c` have fallen, and OT_WIN.OK follows. -/
def windowFallen (c : Nat) (d : Dev) : Dev :=
  winOk (windowDrop (bitAt c 2) F.OT_WIN_TEMPOK (windowDrop (bitAt c 1) F.OT_WIN_VINOK (windowDrop (bitAt c 0) F.OT_WIN_VPPOK d)))

theorem windowFallen_frame (c : Nat) (d : Dev) : windowFallen c d = { d with regs := (windowFallen c d).regs } := by
  unfold windowFallen
  rw [windowDrop_frame (bitAt c 2), windowDrop_frame (bitAt c 1), windowDrop_frame (bitAt c 0)]
  rfl

theorem windowFallen_ot (c : Nat) (d : Dev) : (windowFallen c d).ot = d.ot := by rw [windowFallen_frame]

theorem windowFallen_mem (c : Nat) (d : Dev) : (windowFallen c d).mem = d.mem := by rw [windowFallen_frame]

section

variable {c : Nat} (d : Dev)

theorem windowFallen_vpp (h : bitAt c 0 = true) : (windowFallen c d).r F.OT_WIN_VPPOK = 0 := by
  rw [windowFallen, winOk, r_w_other _ _ (by decide), windowDrop_r_other _ _ (by decide), windowDrop_r_other _ _ (by decide), windowDrop_r_same h]

theorem windowFallen_vin (h : bitAt c 1 = true) : (windowFallen c d).r F.OT_WIN_VINOK = 0 := by
  rw [windowFallen, winOk, r_w_other _ _ (by decide), windowDrop_r_other _ _ (by decide), windowDrop_r_same h]

theorem windowFallen_temp (h : bitAt c 2 = true) : (windowFallen c d).r F.OT_WIN_TEMPOK = 0 := by
  rw [windowFallen, winOk, r_w_other _ _ (by decide), windowDrop_r_same h]

theorem winOk_unmet {e : Dev} (h : e.r F.OT_WIN_VPPOK = 0) : windowMet (winOk e) = false := by
  refine b_of_zero ?_
  rw [winOk, r_w_same, b_of_zero h]
  rfl

theorem windowFallen_unmet (h : bitAt c 0 = true) : windowMet (windowFallen c d) = false := by
  refine winOk_unmet ?_
  rw [windowDrop_r_other _ _ (by decide), windowDrop_r_other _ _ (by decide), windowDrop_r_same h]

end

/-- What the fall of the window does: it cuts a pulse under way, unless the conditions named leave it met, and does nothing else. -/
theorem burnWindowFall_eq (c lo hi : Nat) (d : Dev) : burnWindowFall c lo hi d =
    match pulseNow d with
    | some p => if windowMet (windowFallen c d) then windowFallen c d else pulseCut p lo hi (windowFallen c d)
    | none => windowFallen c d := by
  rw [← pulseNow_congr (congrArg Otp.job (windowFallen_ot c d))]
  rfl

theorem burnWindowFall_calm {d : Dev} (c lo hi : Nat) (none : pulseNow d = none) : burnWindowFall c lo hi d = windowFallen c d := by
  rw [burnWindowFall_eq, none]

theorem burnWindowFall_cuts {p : Pulse} {d : Dev} {c : Nat} (lo hi : Nat) (pulse : pulseNow d = some p) (unmet : windowMet (windowFallen c d) = false) :
    burnWindowFall c lo hi d = pulseCut p lo hi (windowFallen c d) := by
  rw [burnWindowFall_eq, pulse]
  exact if_neg (by simp [unmet])

theorem burned_windowFall {p : Pulse} (c lo hi : Nat) (d : Dev) : Burned p lo hi d (pulseCut p lo hi (windowFallen c d)) := by
  have cut := burned_pulseCut p lo hi (windowFallen c d)
  refine ⟨cut.fuses.trans ?_, cut.mem.trans (windowFallen_mem c d)⟩
  rw [windowFallen_frame]
  rfl

/-! ### No burned bit is unburned [05 R89] -/

/-- What a pulse's end burns: nothing, or what the verify of the present pulse found. -/
theorem burnPulseEnd_burns (lo hi : Nat) (tie : Bool) (d : Dev) :
    burnPulseEnd lo hi tie d = d ∨ ∃ p, Burned p lo hi d (burnPulseEnd lo hi tie d) := by
  cases pulse : pulseNow d with
  | none => exact .inl (burnPulseEnd_none lo hi tie pulse)
  | some p =>
    obtain ⟨j, job, -⟩ := pulseNow_some.mp pulse
    have read := burned_verified p lo hi tie d
    rcases Nat.lt_or_ge d.ns (p.start + 50000) with early | due
    · exact .inl (burnPulseEnd_early lo hi tie pulse early)
    refine .inr ⟨p, ?_⟩
    cases met : windowMet d with
    | false => exact burnPulseEnd_left lo hi tie pulse due met ▸ burned_pulseCut p lo hi d
    | true =>
      rw [burnPulseEnd_met lo hi tie pulse due job met]
      split
      · exact read.then_worked (worked_onJob _)
      · exact read.then_worked (worked_wordEnd _ _)

theorem burnPulseEnd_keeps (lo hi : Nat) (tie : Bool) (d : Dev) (w n : Nat) (burned : (margl d w).testBit n = true) :
    (margl (burnPulseEnd lo hi tie d) w).testBit n = true := by
  rcases burnPulseEnd_burns lo hi tie d with same | ⟨p, burns⟩
  · rwa [same]
  · exact burns.keeps w n burned

theorem burnWindowFall_keeps (c lo hi : Nat) (d : Dev) (w n : Nat) (burned : (margl d w).testBit n = true) :
    (margl (burnWindowFall c lo hi d) w).testBit n = true := by
  have fallen : (margl (windowFallen c d) w).testBit n = true := by rwa [margl, windowFallen_ot]
  rw [burnWindowFall_eq]
  split
  · split
    · exact fallen
    · exact (burned_windowFall c lo hi d).keeps w n burned
  · exact fallen

/-! ### The commands -/

theorem exec_burnPulseEnd (lo hi : Word) (tie : Bool) (s : State) :
    exec (.burnPulseEnd lo hi tie) s = onDev (burnPulseEnd lo.toNat hi.toNat tie) s := rfl

theorem exec_burnWindowFall (c : BitVec 3) (lo hi : Word) (s : State) :
    exec (.burnWindowFall c lo hi) s = onDev (burnWindowFall c.toNat lo.toNat hi.toNat) s := rfl

/-- Settles O13: the verify burns what it found and the job takes its next pulse, ends its word, or is cut; in every case the fuses only gain bits. -/
theorem burnPulses : Obligations.BurnPulses := by
  refine ⟨fun lo hi tie p => ⟨?_, ?_, ?_, fun c vpp => ?_, fun c => ?_⟩, ?_⟩
  · refine does_of_onDev (exec_burnPulseEnd lo hi tie) fun d ⟨pulse, due, met, all, last, goes⟩ => ?_
    obtain ⟨j, job, -⟩ := pulseNow_some.mp pulse
    simp only [job, Option.map_some, Option.some.injEq] at last goes
    obtain ⟨burned, ended⟩ := burnPulseEnd_verified lo.toNat hi.toNat tie pulse due job met all last goes
    refine ⟨burned.margl_same, burned.others, ?_, ?_, ?_, ?_, burned.mem⟩
    · rw [pulseNow, ended]
    · rw [ended]; rfl
    · rw [ended]; rfl
    · rw [ended, job]; rfl
  · refine does_of_onDev (exec_burnPulseEnd lo hi tie) fun d ⟨pulse, due, met, left, tries, goes⟩ => ?_
    obtain ⟨j, job, -⟩ := pulseNow_some.mp pulse
    simp only [job, Option.map_some, Option.some.injEq] at goes
    obtain ⟨burned, going⟩ := burnPulseEnd_retries lo.toNat hi.toNat tie pulse due job met left tries goes
    exact ⟨burned.margl_same, burned.others, pulseNow_some.mpr ⟨_, going, rfl⟩, burned.mem⟩
  · exact runs_of_onDev (exec_burnPulseEnd lo hi tie) fun d ⟨pulse, early⟩ => burnPulseEnd_early _ _ tie pulse early
  · refine does_of_onDev (exec_burnWindowFall c lo hi) fun d pulse => ?_
    obtain ⟨j, job, -⟩ := pulseNow_some.mp pulse
    have unmet := windowFallen_unmet d vpp
    have burned := burned_windowFall (p := p) c.toNat lo.toNat hi.toNat d
    obtain ⟨fail, ended⟩ := pulseCut_job (p := p) lo.toNat hi.toNat ((congrArg Otp.job (windowFallen_ot c.toNat d)).trans job)
    rw [burnWindowFall_cuts lo.toNat hi.toNat pulse unmet]
    refine ⟨(windowMet_congr (pulseCut_r _ _ _ _ (by decide))).trans unmet, (pulseCut_r _ _ _ _ (by decide)).trans (windowFallen_vpp d vpp),
      ?_, ?_, ?_, burned.others, burned.mem⟩
    · rw [pulseNow, ended]
    · rw [ended]; rfl
    · rw [ended]; rfl
  · refine does_of_onDev (exec_burnWindowFall c lo hi) fun d none => ?_
    rw [burnWindowFall_calm _ _ _ none]
    refine ⟨windowFallen_ot .., fun i named falls => ?_⟩
    interval_cases i
    · exact windowFallen_vpp d falls
    · exact windowFallen_vin d falls
    · exact windowFallen_temp d falls
  · rintro i lo hi tie c s t (rfl | rfl) next w n burned
    · cases next
      exact burnPulseEnd_keeps _ _ _ _ _ _ burned
    · cases next
      exact burnWindowFall_keeps _ _ _ _ _ _ burned

end Sys2Proof.Proofs
end

section
/-! PROOFS. The end of an OTP command, and the tamper bead [05 R94, R96, R98, R106; 06 R133]. -/

namespace Sys2Proof.Proofs

open Sys2Proof.Machine Sys2Proof.Laws

/-! ### What the end of a job reports [05 R96, R98] -/

/-- The ERR that the job's end writes: an alarm ends every job but the latch's own with ABORT. -/
def endErr (j : OtJob) : Nat := if j.abort ∧ j.req.owner ≠ .latch then OtErr.abort else j.err

/-- RETRIES and OT_FAIL of the last word burn are written. -/
def burnReported (j : OtJob) (d : Dev) : Dev :=
  let d := match j.retries with | some n => d.w F.OT_STAT_RETRIES n | none => d
  match j.fail with | some n => d.w F.OT_FAIL_BITS n | none => d

/-- What the job has read is written to OT_DATA where it ends in OK. -/
def dataReported (j : OtJob) (d : Dev) : Dev :=
  match j.data with | some n => if endErr j = 0 then d.w F.OT_DATA_DATA n else d | none => d

/-- A weak bit found sets WEAK. -/
def weakReported (j : OtJob) (d : Dev) : Dev := if j.weak then d.set F.OT_STAT_WEAK else d

/-- An increment that ends in OK senses its words. -/
def beadsSensed (j : OtJob) (d : Dev) : Dev :=
  if j.req.code = 6 ∧ endErr j = 0 then forAll ((ctrWords j.req.ctr).map Prod.fst) resense d else d

/-- The counts of an increment or a check are written to OT_CNT. -/
def countsReported (j : OtJob) (d : Dev) : Dev :=
  if (j.req.code = 6 ∨ j.req.code = 7) ∧ ctrWords j.req.ctr ≠ [] ∧ endErr j ≠ OtErr.denied then writeCounts j.req.ctr d else d

/-- ERR is written, DONE set and BUSY cleared, and the engine is idle. -/
def jobClosed (e : Nat) (d : Dev) : Dev :=
  countRegs ((((d.w F.OT_STAT_ERR e).set F.OT_STAT_DONE).clr F.OT_STAT_BUSY).onOt fun o => { o with job := none })

/-- From `d` to `t` only registers have been written and words sensed. -/
def Senses (d t : Dev) : Prop := t = { d with draws := t.draws, regs := t.regs, ot := { d.ot with shadow := t.ot.shadow } }

theorem Senses.trans {d e t : Dev} (h : Senses d e) (k : Senses e t) : Senses d t := by
  unfold Senses at h
  exact Eq.trans k (by rw [h])

theorem senses_burnReported (j : OtJob) (d : Dev) : Senses d (burnReported j d) := by
  unfold burnReported
  cases j.retries <;> cases j.fail <;> rfl

theorem senses_dataReported (j : OtJob) (d : Dev) : Senses d (dataReported j d) := by
  unfold dataReported
  cases j.data with
  | none => rfl
  | some v => exact iteInduction (motive := Senses d) (fun _ => rfl) fun _ => rfl

theorem dataReported_data {j : OtJob} {v : Nat} (read : j.data = some v) (ok : endErr j = 0) (d : Dev) :
    (dataReported j d).r F.OT_DATA_DATA = v % 2 ^ 32 := by
  simp only [dataReported, read, ok, if_true]
  exact r_w_same ..

theorem sensed_displayCount (xs : List (Nat × Nat)) (d : Dev) : Sensed d (displayCount xs d).2 := by
  induction xs generalizing d with
  | nil => exact .refl d
  | cons x xs ih => exact (sensed_normalRead d x.1).trans (ih _)

section

variable (j : OtJob) (d : Dev)

/-- The words that an increment senses move what sensing moves. -/
theorem sensed_ctrWords (c : Nat) : Sensed d (forAll ((ctrWords c).map Prod.fst) resense d) :=
  forAll_keeps (P := Sensed d) (fun w e _ h => h.trans (sensed_resense w e)) (.refl d)

theorem senses_weakReported : Senses d (weakReported j d) := iteInduction (fun _ => rfl) fun _ => rfl

theorem weakReported_data : (weakReported j d).r F.OT_DATA_DATA = d.r F.OT_DATA_DATA := by
  unfold weakReported
  split
  · exact set_r_other d (by decide)
  · rfl

theorem sensed_beadsSensed : Sensed d (beadsSensed j d) := iteInduction (fun _ => sensed_ctrWords ..) fun _ => .refl d

theorem senses_writeCounts (c : Nat) : Senses d (writeCounts c d) := Senses.trans (sensed_displayCount (ctrWords c) d).frame rfl

theorem writeCounts_high (c : Nat) : (writeCounts c d).r F.OT_CNT_MH = securityCount d c % 2 ^ 10 := by
  unfold writeCounts
  rw [r_w_other _ _ (by decide), r_w_same, securityCount_congr (sensed_displayCount (ctrWords c) d).fuses]
  rfl

theorem senses_countsReported : Senses d (countsReported j d) := iteInduction (fun _ => senses_writeCounts ..) fun _ => rfl

theorem countsReported_data : (countsReported j d).r F.OT_DATA_DATA = d.r F.OT_DATA_DATA := by
  unfold countsReported
  split
  · unfold writeCounts
    rw [r_w_other _ _ (by decide), r_w_other _ _ (by decide)]
    exact (sensed_displayCount _ d).r _ (by decide)
  · rfl

end

/-- What the job's end reports before it closes, up to the counts. -/
def burnsReported (j : OtJob) (d : Dev) : Dev := beadsSensed j (weakReported j (dataReported j (burnReported j d)))

theorem senses_burnsReported (j : OtJob) (d : Dev) : Senses d (burnsReported j d) :=
  (((senses_burnReported j d).trans (senses_dataReported j _)).trans (senses_weakReported j _)).trans (sensed_beadsSensed j _).frame

/-- What the job's end reports before it closes. -/
def jobReported (j : OtJob) (d : Dev) : Dev := countsReported j (burnsReported j d)

theorem senses_jobReported (j : OtJob) (d : Dev) : Senses d (jobReported j d) := (senses_burnsReported j d).trans (senses_countsReported j _)

theorem jobReported_data {j : OtJob} {v : Nat} (read : j.data = some v) (ok : endErr j = 0) (d : Dev) :
    (jobReported j d).r F.OT_DATA_DATA = v % 2 ^ 32 :=
  calc (jobReported j d).r F.OT_DATA_DATA
    _ = (burnsReported j d).r F.OT_DATA_DATA := countsReported_data j _
    _ = (weakReported j (dataReported j (burnReported j d))).r F.OT_DATA_DATA := (sensed_beadsSensed j _).r _ (by decide)
    _ = (dataReported j (burnReported j d)).r F.OT_DATA_DATA := weakReported_data j _
    _ = v % 2 ^ 32 := dataReported_data read ok _

/-- A check that ends in OK reports the security count of its counter [05 R106]. -/
theorem jobReported_check {j : OtJob} (check : j.req.code = 7) (known : j.req.ctr < 14) (ok : endErr j = 0) (d : Dev) :
    (jobReported j d).r F.OT_CNT_MH = securityCount d j.req.ctr % 2 ^ 10 := by
  have fuses : (burnsReported j d).ot.fuses = d.ot.fuses := by rw [senses_burnsReported j d]
  unfold jobReported countsReported
  rw [if_pos ⟨.inr check, ctrWords_known known, by rw [ok]; decide⟩, writeCounts_high, securityCount_congr fuses]

/-! ### The engine is idle again [05 R96] -/

section

variable (e : Nat) (d : Dev)

theorem jobClosed_frame : ∃ n r x, jobClosed e d = { d with draws := n, regs := r, ot := { d.ot with shadow := x, job := none } } :=
  ⟨_, _, _, (sensed_countRegs _).frame⟩

theorem jobClosed_r {f : Fld} (h : f.key ∉ sensedFields.map Fld.key) :
    (jobClosed e d).r f = (((d.w F.OT_STAT_ERR e).set F.OT_STAT_DONE).clr F.OT_STAT_BUSY).r f := (sensed_countRegs _).r f h

theorem jobClosed_err : (jobClosed e d).r F.OT_STAT_ERR = e % 16 := by
  rw [jobClosed_r e d (by decide), clr_r_other _ (by decide), set_r_other _ (by decide), r_w_same]
  rfl

theorem jobClosed_done : (jobClosed e d).r F.OT_STAT_DONE = 1 := by
  rw [jobClosed_r e d (by decide), clr_r_other _ (by decide), set_r_same _ rfl]

theorem jobClosed_busy : (jobClosed e d).r F.OT_STAT_BUSY = 0 := by rw [jobClosed_r e d (by decide), clr_r_same]

theorem jobClosed_r_other {f : Fld} (h : f.key ∉ ([F.OT_STAT_ERR, F.OT_STAT_DONE, F.OT_STAT_BUSY] ++ sensedFields).map Fld.key) :
    (jobClosed e d).r f = d.r f := by
  simp only [List.map_append, List.map_cons, List.map_nil, List.mem_append, List.mem_cons, List.not_mem_nil, or_false, not_or] at h
  obtain ⟨⟨err, done, busy⟩, sensed⟩ := h
  rw [jobClosed_r e d sensed, clr_r_other _ busy, set_r_other _ done, r_w_other _ _ err]

end

theorem otFinish_closes (j : OtJob) (d : Dev) : otFinish j d = jobClosed (endErr j) (jobReported j d) := rfl

theorem otFinish_frame (j : OtJob) (d : Dev) :
    ∃ n r x, otFinish j d = { d with draws := n, regs := r, ot := { d.ot with shadow := x, job := none } } := by
  obtain ⟨n, r, x, closed⟩ := jobClosed_frame (endErr j) (jobReported j d)
  exact ⟨n, r, x, by rw [otFinish_closes, closed, senses_jobReported j d]⟩

/-! ### OT_COMMAND_DONE -/

theorem otTakeNext_none {d : Dev} (wait : d.ot.wait = []) : otTakeNext d = d := by
  have next : otNext d = d := by
    simp only [otNext, wait]
    exact ite_self d
  simp only [otTakeNext, wait, next]

theorem otCommandDone_waits {d : Dev} {j : OtJob} (job : d.ot.job = some j) (pulse : j.cur.isSome = true) : otCommandDone d = d := by
  have going : otEnded j = false := by rw [otEnded, Option.isNone_eq_false_iff.mpr pulse, Bool.false_and]
  simp only [otCommandDone, job, going, if_true]

/-- A command of image or boot ROM code has nobody to tell of its end but the registers. -/
theorem otCommandDone_ends {d : Dev} {j : OtJob} (job : d.ot.job = some j) (owner : j.req.owner = .sw ∨ j.req.owner = .rom) (cur : j.cur = none)
    (tasks : j.tasks = []) (wait : d.ot.wait = []) : otCommandDone d = otFinish j d := by
  have ended : otEnded j ≠ false := by simp [otEnded, cur, tasks]
  obtain ⟨_, _, _, frame⟩ := otFinish_frame j d
  have left : (otFinish j d).ot.wait = [] := by rw [frame, wait]
  rcases owner with sw | rom
  · simp only [otCommandDone, job, if_neg ended, sw, otTakeNext_none left]
  · simp only [otCommandDone, job, if_neg ended, rom, otTakeNext_none left]

theorem exec_tamperBeadBurn (win : BitVec 2) (s : State) : exec (.tamperBeadBurn win) s = onDev (tamperBeadBurn win.toNat) s := rfl

theorem exec_otCommandDone (s : State) : exec .otCommandDone s = onDev otCommandDone s := rfl

/-- The tamper bead burn starts once the comparators give a window that is met [05 R98]. -/
theorem tamperBeadBurn_burns {win : Nat} {d : Dev} (pend : d.r F.OT_WIN_PEND = 1) (idle : d.ot.job = none)
    (met : windowMet (setWindow win d) = true) (room : ctrFull d 1 = false) : LatchBurns d (tamperBeadBurn win d) := by
  have ot := setWindow_ot win idle
  have full : ctrFull (setWindow win d) 1 = ctrFull d 1 := by rw [ctrFull, ctrFull, securityCount_congr (congrArg Otp.fuses ot)]
  obtain ⟨req, busy, mem⟩ := latchServe_burns ((setWindow_r win idle (by decide)).trans pend) ((congrArg Otp.job ot).trans idle) met (full.trans room)
  exact ⟨req, busy, mem.trans (setWindow_mem win idle)⟩

/-- Settles O14: the end of a command is its report and the return to idle; a job with a pulse goes on; the latch is served under its window. -/
theorem otpCommandEnds : Obligations.OtpCommandEnds := by
  refine ⟨fun j owner cur tasks goes => ?_, fun j pulse => ?_, fun win => ⟨?_, ?_⟩⟩
  · refine does_of_onDev exec_otCommandDone fun d ⟨job, wait⟩ => ?_
    have err : endErr j = j.err := if_neg (by simp [goes])
    obtain ⟨_, _, _, frame⟩ := otFinish_frame j d
    rw [otCommandDone_ends job owner cur tasks wait]
    refine ⟨?_, jobClosed_done .., jobClosed_busy .., by rw [frame], by rw [frame], fun v read ok => ?_, fun check known ok => ?_, by rw [frame],
      by rw [frame]⟩
    · rw [← err]
      exact jobClosed_err ..
    · exact (jobClosed_r_other _ _ (by decide)).trans (jobReported_data read (err.trans ok) d)
    · exact (jobClosed_r_other _ _ (by decide)).trans (jobReported_check check known (err.trans ok) d)
  · exact runs_of_onDev exec_otCommandDone fun d job => otCommandDone_waits job pulse
  · exact does_of_onDev (exec_tamperBeadBurn win) fun d ⟨pend, idle, met, room⟩ => tamperBeadBurn_burns pend idle met room
  · exact runs_of_onDev (exec_tamperBeadBurn win) fun d calm => latchServe_waits (.inl calm)

end Sys2Proof.Proofs
end

section
/-! PROOFS. The key engine: what its commands read, the free values they draw, and what a command that starts brings about [06 R110-R125]. -/

namespace Sys2Proof.Proofs

open Sys2Proof.Machine Sys2Proof.Laws

/-! ### What the key engine reads -/

/-- From `d` to `t` a command has started, and nothing that the command reads has changed. -/
structure SameKeys (d t : Dev) : Prop where
  ot : t.ot = d.ot
  kx : t.ky.kx = d.ky.kx
  km : t.ky.km = d.ky.km
  pair : t.ky.pair = d.ky.pair
  hand : t.ky.hand = d.ky.hand
  r : ∀ f : Fld, f.key ∉ [F.KY_CMD_CODE, F.KY_STAT_BUSY].map Fld.key → t.r f = d.r f

theorem kyStarted_sameKeys (code : Nat) (d : Dev) : SameKeys d (kyStarted code d) where
  ot := rfl
  kx := rfl
  km := rfl
  pair := rfl
  hand := rfl
  r f h := by
    simp only [List.map_cons, List.map_nil, List.mem_cons, List.not_mem_nil, or_false, not_or] at h
    exact (set_r_other _ h.2).trans (r_w_other d code h.1)

section

variable {d t : Dev} (same : SameKeys d t)
include same

theorem SameKeys.b {f : Fld} (h : f.key ∉ [F.KY_CMD_CODE, F.KY_STAT_BUSY].map Fld.key) : t.b f = d.b f := by
  rw [Dev.b, Dev.b, same.r f h]

theorem SameKeys.full : kregFull t = kregFull d := same.b (by decide)

theorem SameKeys.key : kregKey t = kregKey d := by rw [kregKey, kregKey, same.kx, same.km]

theorem SameKeys.buf : kyBuf t = kyBuf d := by
  refine congrArg List.flatten (List.map_congr_left fun i _ => ?_)
  rw [same.r (F.KY_BUF_W i)]
  simp [Fld.key, F.KY_BUF_W, F.KY_CMD_CODE, F.KY_STAT_BUSY]
  omega

theorem SameKeys.record (e : Nat) : pathRecord t e = pathRecord d e := by
  refine congrArg List.flatten (List.map_congr_left fun i _ => ?_)
  rw [same.r (F.KY_PATH_W _)]
  simp [Fld.key, F.KY_PATH_W, F.KY_CMD_CODE, F.KY_STAT_BUSY]
  omega

theorem SameKeys.path (attrs : List Nat) : customerPath attrs t = customerPath attrs d := by
  have els : pathEls t = pathEls d := by rw [pathEls, pathEls, funext same.record]
  rw [customerPath, customerPath, els]

theorem SameKeys.life : lifeCycle t = lifeCycle d := lifeCycle_congr (congrArg Otp.fuses same.ot)

theorem SameKeys.count (c : Nat) : securityCount t c = securityCount d c := securityCount_congr (congrArg Otp.fuses same.ot) c

theorem SameKeys.words (w n : Nat) : otpBytes t w n = otpBytes d w n := by simp only [otpBytes, shadowOf, same.ot]

theorem SameKeys.testRoot : testRooted t = testRooted d := by rw [testRooted, testRooted, same.life, same.b (by decide)]

theorem SameKeys.root : effectiveRoot t = effectiveRoot d := by rw [effectiveRoot, effectiveRoot, same.testRoot, same.words]

theorem SameKeys.keyIn (lc : Nat) (p : List PathEl) : pathKeyIn t lc p = pathKeyIn d lc p := by
  simp only [pathKeyIn, kdfInput, same.root, same.count]

theorem SameKeys.keyAt (p : List PathEl) : pathKey t p = pathKey d p := by rw [pathKey, pathKey, same.life, same.keyIn]

theorem SameKeys.wrapKey : pairWrapKey t = pairWrapKey d := same.keyAt _

theorem SameKeys.scalar (s : List Nat) : pairScalar t s = pairScalar d s := by rw [pairScalar, pairScalar, same.keyAt]

theorem SameKeys.identity : idkScalar t = idkScalar d := by rw [idkScalar, idkScalar, same.keyAt]

theorem SameKeys.usable (s : Nat) : signerUsable t s = signerUsable d s := by
  rw [signerUsable, signerUsable, signerHash, signerHash, same.words, same.count]

theorem SameKeys.signer (pub : List Nat) : signerOf t pub = signerOf d pub := by
  refine congrArg (List.find? · (List.range 3)) (funext fun s => ?_)
  rw [same.usable, signerHash, signerHash, same.words]

theorem SameKeys.stated : statedPair t = statedPair d := by rw [statedPair, statedPair, same.hand, same.pair]

theorem SameKeys.attested (nonce : List Nat) : attestMessage t nonce = attestMessage d nonce := by
  have latches : ∀ f ∈ [F.TP_STAT_DBG, F.TP_STAT_XSTOP, F.TP_STAT_TEMP, F.TP_STAT_VGL, F.TP_STAT_MESH, F.TP_STAT_LOOP], t.b f = d.b f :=
    fun f hf => same.b (by revert f; decide)
  simp only [List.forall_mem_cons] at latches
  obtain ⟨dbg, xstop, temp, vgl, mesh, loop, -⟩ := latches
  rw [attestMessage, attestMessage, serialBytes, serialBytes, same.stated, same.life, same.testRoot, same.words, funext same.count, same.identity,
    dbg, xstop, temp, vgl, mesh, loop]

end

/-! ### Free values -/

/-- The device once `k` free values have been drawn in all. -/
def afterDraws (k : Nat) (d : Dev) : Dev := { d with draws := k }

@[simp] theorem afterDraws_twice (j k : Nat) (d : Dev) : afterDraws k (afterDraws j d) = afterDraws k d := rfl

theorem SameKeys.afterDraws {d t : Dev} (same : SameKeys d t) (k : Nat) : SameKeys d (afterDraws k t) :=
  ⟨same.ot, same.kx, same.km, same.pair, same.hand, same.r⟩

/-- The TRNG gives as many bytes as are asked for, and nothing but the count of draws moves. -/
theorem trng_draws (n : Nat) (d : Dev) : ∃ (bs : List Nat) (k : Nat), bs.length = n ∧ trng n d = (bs, afterDraws k d) := by
  induction n generalizing d with
  | zero => exact ⟨[], d.draws, rfl, rfl⟩
  | succ n ih =>
    obtain ⟨bs, k, length, eq⟩ := ih (afterDraws (d.draws + 1) d)
    refine ⟨(Config.trng d.draws).toNat :: bs, k, by rw [List.length_cons, length], ?_⟩
    rw [trng]
    exact congrArg (fun x => ((Config.trng d.draws).toNat :: x.1, x.2)) eq

theorem gcmSeal_draws (key aad text : List Nat) (d : Dev) : ∃ (iv : List Nat) (k : Nat), iv.length = 12 ∧
    gcmSeal key aad text d = ((iv, gcmText key iv text, gcmTag key iv aad (gcmText key iv text)), afterDraws k d) := by
  obtain ⟨iv, k, length, eq⟩ := trng_draws 12 d
  exact ⟨iv, k, length, by simp only [gcmSeal, eq]⟩

theorem signWith_draws (x : Nat) (digest : List Nat) (d : Dev) : ∃ n k : Nat, signWith x digest d = (ecSign x n digest, afterDraws k d) :=
  ⟨_, _, rfl⟩

/-! ### A write of KY_CMD [06 R120] -/

theorem kyCommand_starts {d : Dev} (code : Nat) (idle : d.r F.KY_STAT_BUSY = 0) : kyCommand code d = kyRun code (kyStarted code d) := by
  rw [kyCommand, kyStart, b_of_zero idle]
  rfl

theorem kyCommand_lost {d : Dev} (code : Nat) (busy : d.r F.KY_STAT_BUSY ≠ 0) : kyCommand code d = d.set F.KY_STAT_CMDLOST := by
  rw [kyCommand, kyStart, b_of_ne busy, if_pos rfl]

theorem does_started {c : Instr} {code : Nat} {P : Dev → Prop} {Q : Dev → Dev → Prop} (command : ∀ s, exec c s = onDev (kyCommand code) s)
    (idle : ∀ d, P d → d.r F.KY_STAT_BUSY = 0) (h : ∀ d, P d → Q d (kyRun code (kyStarted code d))) : Does c P Q :=
  does_of_onDev command fun d hd => by
    rw [kyCommand_starts code (idle d hd)]
    exact h d hd

theorem runs_started {c : Instr} {code : Nat} {P : Dev → Prop} {f : Dev → Dev} (command : ∀ s, exec c s = onDev (kyCommand code) s)
    (idle : ∀ d, P d → d.r F.KY_STAT_BUSY = 0) (h : ∀ d, P d → kyRun code (kyStarted code d) = f d) : Runs c P f :=
  runs_of_onDev command fun d hd => (kyCommand_starts code (idle d hd)).trans (h d hd)

/-- The command that has started will end as `g` makes of its job. -/
theorem kyWill_onKj (code k : Nat) (g : KyJob → KyJob) (d : Dev) : kyWill code g d ((afterDraws k (kyStarted code d)).onKj g) := by
  have busy : (kyStarted code d).r F.KY_STAT_BUSY = 1 := set_r_same (f := F.KY_STAT_BUSY) (d.w F.KY_CMD_CODE code) rfl
  have shown : (kyStarted code d).r F.KY_CMD_CODE = code % 16 := by
    show ((d.w F.KY_CMD_CODE code).set F.KY_STAT_BUSY).r F.KY_CMD_CODE = code % 16
    rw [set_r_other _ (by decide), r_w_same]
    rfl
  exact ⟨rfl, busy, shown, rfl, rfl⟩

end Sys2Proof.Proofs
end

section
/-! PROOFS. The key commands that fill KREG or empty it, and those that leave their output in KY_BUF [06 R117, R118, R121-R125, R131]. -/

namespace Sys2Proof.Proofs

open Sys2Proof.Machine Sys2Proof.Laws

/-! ### Commands that fill KREG, and CLEAR [06 R117, R118, R123] -/

/-- The key of an escrow record in life-cycle code `lc` for the authorised point `q`, under the ephemeral scalar `e` [06 R125]. -/
def escrowKey (lc : Nat) (q : Nat × Nat) (e : Nat) (d : Dev) : List Nat :=
  hmac ((ecBytes (ecMul 256 (some q) e)).take 32) ([0, 0, 0, 1] ++ ascii "escrow" ++ [0] ++ serialBytes d ++ [lc, 0, 0, 1, 0])

theorem gcmSeal_some (key aad text : List Nat) (d : Dev) : ∃ (iv ct tag : List Nat) (k : Nat), iv.length = 12 ∧
    gcmSeal key aad text d = ((iv, ct, tag), afterDraws k d) :=
  let ⟨iv, k, length, eq⟩ := gcmSeal_draws key aad text d
  ⟨iv, _, _, k, length, eq⟩

section

variable {d t : Dev} (same : SameKeys d t)
include same

theorem kyDerive_fills {p : List PathEl} {e : PathEl} (empty : kregFull d = false) (path : customerPath [1, 2] d = some p) (last : p.getLast? = some e) :
    kyDerive t = t.onKj fun j => { j with fill := some (e.attr, pathKey d p) } := by
  simp [kyDerive, same.full, empty, same.path, path, last, same.keyAt]

theorem kyDerive_full (full : kregFull d = true) : kyDerive t = kyRefill t := by rw [kyDerive, same.full, full, if_pos rfl]

theorem kyUnwrap_full (full : kregFull d = true) : kyUnwrap t = kyRefill t := by rw [kyUnwrap, same.full, full, if_pos rfl]

theorem kyUnwrap_fills {p : List PathEl} (empty : kregFull d = false) (path : customerPath [3] d = some p)
    (attr : (kyBuf d).headD 0 = 1 ∨ (kyBuf d).headD 0 = 2)
    (tag : gcmTag (pathKey d p) (((kyBuf d).drop 1).take 12) [(kyBuf d).headD 0] (((kyBuf d).drop 13).take 32) = ((kyBuf d).drop 45).take 16) :
    kyUnwrap t = t.onKj fun j => { j with fill := some ((kyBuf d).headD 0,
      gcmText (pathKey d p) (((kyBuf d).drop 1).take 12) (((kyBuf d).drop 13).take 32)) } := by
  rw [kyUnwrap, same.full, empty, same.path, path, same.buf]
  simp only [same.keyAt, Bool.false_eq_true, if_false]
  rw [if_neg (not_not.mpr attr), if_neg (not_not.mpr tag)]

/-! ### Commands that answer in KY_BUF [06 R122-R125, R131] -/

theorem kyWrapkey_seals {p : List PathEl} (path : customerPath [3] d = some p) (attr : (kyBuf d).headD 0 = 1 ∨ (kyBuf d).headD 0 = 2)
    (healthy : d.r F.KY_STAT_TRNGF = 0) : ∃ (iv : List Nat) (k : Nat), iv.length = 12 ∧
      let ct := gcmText (pathKey d p) iv (((kyBuf d).drop 1).take 32)
      kyWrapkey t = kyOut ([(kyBuf d).headD 0] ++ iv ++ ct ++ gcmTag (pathKey d p) iv [(kyBuf d).headD 0] ct) (afterDraws k t) := by
  obtain ⟨iv, k, length, eq⟩ := gcmSeal_draws (pathKey d p) [(kyBuf d).headD 0] (((kyBuf d).drop 1).take 32) t
  refine ⟨iv, k, length, ?_⟩
  rw [kyWrapkey, same.path, path, same.buf, same.b (by decide), b_of_zero healthy]
  simp only [same.keyAt, Bool.false_eq_true, if_false, eq]
  rw [if_neg (not_not.mpr attr)]

/-- The fields of the record of Table KY-5 in KY_BUF: the lengths of its associated data and of its text, and the two. -/
def aadLength (d : Dev) : Nat := le (((kyBuf d).drop 28).take 2)
def textLength (d : Dev) : Nat := le (((kyBuf d).drop 30).take 2)
def recordAad (d : Dev) : List Nat := ((kyBuf d).drop 32).take (aadLength d)
def recordText (d : Dev) : List Nat := ((kyBuf d).drop (32 + aadLength d)).take (textLength d)

theorem kyEncrypt_seals (full : kregFull d = true) (attr : d.r F.KY_STAT_KATTR = 1) (fits : aadLength d + textLength d ≤ 224)
    (healthy : d.r F.KY_STAT_TRNGF = 0) : ∃ (iv : List Nat) (k : Nat), iv.length = 12 ∧
      let ct := gcmText (kregKey d) iv (recordText d)
      kyGcm true t = kyOut (iv ++ gcmTag (kregKey d) iv (recordAad d) ct ++ ((kyBuf d).drop 28).take (4 + aadLength d) ++ ct) (afterDraws k t) := by
  obtain ⟨iv, k, length, eq⟩ := gcmSeal_draws (kregKey d) (recordAad d) (recordText d) t
  refine ⟨iv, k, length, ?_⟩
  simp only [recordAad, recordText, aadLength, textLength] at eq fits ⊢
  rw [kyGcm, same.full, full, same.r F.KY_STAT_KATTR (by decide), attr, same.buf, same.key, same.b (by decide), b_of_zero healthy]
  simp only [Bool.true_eq_false, Bool.false_eq_true, if_false, if_true, if_neg (Nat.not_lt.mpr fits), eq, ne_eq, not_true_eq_false]

theorem kyDecrypt_opens (full : kregFull d = true) (attr : d.r F.KY_STAT_KATTR = 2) (fits : aadLength d + textLength d ≤ 224)
    (tag : gcmTag (kregKey d) ((kyBuf d).take 12) (recordAad d) (recordText d) = ((kyBuf d).drop 12).take 16) :
    kyGcm false t = kyOut ((kyBuf d).take (32 + aadLength d) ++ gcmText (kregKey d) ((kyBuf d).take 12) (recordText d)) t := by
  simp only [recordAad, recordText, aadLength, textLength] at tag fits ⊢
  rw [kyGcm, same.full, full, same.r F.KY_STAT_KATTR (by decide), attr, same.buf, same.key]
  simp only [Bool.true_eq_false, Bool.false_eq_true, if_false, if_neg (Nat.not_lt.mpr fits), tag, ne_eq, not_true_eq_false]

theorem kyGenpair_seals (healthy : d.r F.KY_STAT_TRNGF = 0) : ∃ (s iv : List Nat) (k : Nat), s.length = 32 ∧ iv.length = 12 ∧
    let ct := gcmText (pairWrapKey d) iv s
    kyGenpair t = (kyOut (iv ++ ct ++ gcmTag (pairWrapKey d) iv (ascii "PAIR") ct ++ ((kyBuf d).drop 60).take 4 ++ ecPub (pairScalar d s))
      (afterDraws k t)).onKj fun j => { j with load := some (pairScalar d s) } := by
  obtain ⟨s, m, seed, drawn⟩ := trng_draws 32 t
  obtain ⟨iv, k, length, eq⟩ := gcmSeal_draws (pairWrapKey d) (ascii "PAIR") s (afterDraws m t)
  refine ⟨s, iv, k, seed, length, ?_⟩
  rw [kyGenpair, same.b (by decide), b_of_zero healthy]
  simp only [drawn, (same.afterDraws m).wrapKey, eq, afterDraws_twice, (same.afterDraws k).scalar, (same.afterDraws k).buf, Bool.false_eq_true, if_false]

theorem kyLoadpair_opens
    (tag : gcmTag (pairWrapKey d) ((kyBuf d).take 12) (ascii "PAIR") (((kyBuf d).drop 12).take 32) = ((kyBuf d).drop 44).take 16) :
    let x := pairScalar d (gcmText (pairWrapKey d) ((kyBuf d).take 12) (((kyBuf d).drop 12).take 32))
    kyLoadpair t = (kyOut ((kyBuf d).take 64 ++ ecPub x) t).onKj fun j => { j with load := some x, hand := true } := by
  simp only [kyLoadpair, same.buf, same.wrapKey, same.scalar]
  rw [if_neg (not_not.mpr tag)]

theorem kySign_signs {x : Nat} (pair : d.ky.pair = some x) :
    ∃ n k : Nat, kySign t = kyOut (ecSign x n ((kyBuf d).take 32)) (afterDraws k t) := by
  obtain ⟨n, k, eq⟩ := signWith_draws x ((kyBuf d).take 32) t
  exact ⟨n, k, by simp only [kySign, same.pair, pair, same.buf, eq]⟩

theorem kySign_empty (unloaded : d.ky.pair = none) : kySign t = kyFail KyErr.empty t := by simp only [kySign, same.pair, unloaded]

theorem kyAttest_signs : ∃ n k : Nat,
    let m := attestMessage d ((kyBuf d).take 32)
    kyAttest t = kyOut (m ++ ecSign (idkScalar d) n (sha256 m)) (afterDraws k t) := by
  obtain ⟨n, k, eq⟩ := signWith_draws (idkScalar d) (sha256 (attestMessage d ((kyBuf d).take 32))) t
  exact ⟨n, k, by simp only [kyAttest, same.buf, same.attested, same.identity, eq]⟩

theorem kyEscrow_seals {q : Nat × Nat} (point : ecPoint ((kyBuf d).take 64) = some q) (signer : (signerOf d ((kyBuf d).take 64)).isSome = true)
    (life : lifeCycle d = 1 ∨ lifeCycle d = 2)
    (code : bitsAt (d.r F.KY_ARG_CONFIRM) 4 8 = lifeCode (lifeCycle d) ∨ bitsAt (d.r F.KY_ARG_CONFIRM) 4 8 = 0xB2)
    (healthy : d.r F.KY_STAT_TRNGF = 0) : ∃ (e : Nat) (iv ct tag : List Nat) (k : Nat), 1 ≤ e ∧ e < pN ∧ iv.length = 12 ∧
      kyEscrow t = kyOut (ecPub e ++ iv ++ ct ++ tag) (afterDraws k t) := by
  obtain ⟨seed, m, _, drawn⟩ := trng_draws 32 t
  let e : Nat := be seed % (pN - 1) + 1
  let lc : Nat := bitsAt (d.r F.KY_ARG_CONFIRM) 4 8
  have allowed : ¬((signerOf d ((kyBuf d).take 64)).isNone = true ∨ ¬(lifeCycle d = 1 ∨ lifeCycle d = 2) ∨
      ¬(bitsAt (d.r F.KY_ARG_CONFIRM) 4 8 = lifeCode (lifeCycle d) ∨ bitsAt (d.r F.KY_ARG_CONFIRM) 4 8 = 0xB2)) := by
    rintro (none | dead | other)
    · rw [Option.isNone_iff_eq_none.mp none] at signer
      cases signer
    · exact dead life
    · exact other code
  have below : e < pN := Nat.add_lt_of_lt_sub (Nat.mod_lt (be seed) (by decide))
  obtain ⟨iv, ct, tag, k, length, eq⟩ := gcmSeal_some (escrowKey lc q e (afterDraws m t)) (serialBytes (afterDraws m t) ++ [lc])
    (pathKeyIn (afterDraws m t) lc imagePath) (afterDraws m t)
  refine ⟨e, iv, ct, tag, k, Nat.le_add_left 1 _, below, length, ?_⟩
  rw [escrowKey] at eq
  rw [kyEscrow, same.buf, same.signer, same.life, same.r F.KY_ARG_CONFIRM (by decide), same.b (by decide), b_of_zero healthy]
  simp only [point, if_neg allowed, drawn, Bool.false_eq_true, if_false]
  rw [eq]
  rfl

end

/-! ### The commands -/

theorem exec_kyNop (s : State) : exec .kyNop s = onDev (kyCommand 0) s := rfl
theorem exec_kyDerive (s : State) : exec .kyDerive s = onDev (kyCommand 1) s := rfl
theorem exec_kyUnwrap (s : State) : exec .kyUnwrap s = onDev (kyCommand 2) s := rfl
theorem exec_kyWrapkey (s : State) : exec .kyWrapkey s = onDev (kyCommand 3) s := rfl
theorem exec_kyEncrypt (s : State) : exec .kyEncrypt s = onDev (kyCommand 4) s := rfl
theorem exec_kyDecrypt (s : State) : exec .kyDecrypt s = onDev (kyCommand 5) s := rfl
theorem exec_kyClear (s : State) : exec .kyClear s = onDev (kyCommand 6) s := rfl
theorem exec_kyGenpair (s : State) : exec .kyGenpair s = onDev (kyCommand 7) s := rfl
theorem exec_kyLoadpair (s : State) : exec .kyLoadpair s = onDev (kyCommand 8) s := rfl
theorem exec_kySign (s : State) : exec .kySign s = onDev (kyCommand 9) s := rfl
theorem exec_kyAttest (s : State) : exec .kyAttest s = onDev (kyCommand 10) s := rfl
theorem exec_kyEscrow (s : State) : exec .kyEscrow s = onDev (kyCommand 11) s := rfl

theorem kregClear_kattr (d : Dev) : (kregClear d).r F.KY_STAT_KATTR = 0 := (r_w_same (d.clr F.KY_STAT_KFULL) F.KY_STAT_KATTR 0).trans rfl

/-- What a fill command ends with while KREG is full: the locked-write record, and ERR LOCKED [06 R117]. -/
theorem kyRefill_started (code : Nat) (d : Dev) : kyRefill (kyStarted code d) =
    (((kyStarted code d).set F.KY_STAT_REFILL).lockV Tag.ky 0x40003000).onKy fun k => { k with job := some { code := code, err := KyErr.locked } } := by
  have job : (((kyStarted code d).set F.KY_STAT_REFILL).lockV Tag.ky 0x40003000).ky.job = some { code := code } := by rw [lockV_frame]; rfl
  simp only [kyRefill, kyFail, Dev.onKj, Dev.onKy, job, Option.map_some]

/-- Settles O15: a write of KY_CMD starts the command where no other is under way, and each command's conditions choose what its job will leave. -/
theorem keyCommandsThatFill : Obligations.KeyCommandsThatFill := by
  unfold Obligations.KeyCommandsThatFill
  intro idle
  refine ⟨?_, fun p e => ?_, fun p => ?_, ?_, ?_, ?_, ?_⟩
  · exact runs_started exec_kyNop (fun _ h => h) fun _ _ => rfl
  · refine does_started exec_kyDerive (fun _ h => h.1) fun d ⟨_, empty, path, last⟩ => ?_
    rw [kyRun, kyDerive_fills (kyStarted_sameKeys 1 d) empty path last]
    exact kyWill_onKj 1 _ _ d
  · refine does_started exec_kyUnwrap (fun _ h => h.1) fun d ⟨_, empty, path, attr, tag⟩ => ?_
    rw [kyRun, kyUnwrap_fills (kyStarted_sameKeys 2 d) empty path attr tag]
    exact kyWill_onKj 2 _ _ d
  · exact does_started exec_kyClear (fun _ h => h) fun _ _ => ⟨kregClear_kfull _, kregClear_kattr _, rfl, rfl, rfl, rfl, rfl, rfl⟩
  · refine runs_started exec_kyDerive (fun _ h => h.1) fun d ⟨_, full⟩ => ?_
    exact (kyDerive_full (kyStarted_sameKeys 1 d) full).trans (kyRefill_started 1 d)
  · refine runs_started exec_kyUnwrap (fun _ h => h.1) fun d ⟨_, full⟩ => ?_
    exact (kyUnwrap_full (kyStarted_sameKeys 2 d) full).trans (kyRefill_started 2 d)
  · exact runs_of_onDev exec_kyNop fun d busy => kyCommand_lost 0 busy

/-- ATTEST states no pair but one that was loaded through its handle [06 R131]. -/
theorem attestMessage_unstated {d : Dev} (nonce : List Nat) (unstated : statedPair d = none) :
    ∃ m : List Nat, attestMessage d nonce = m ++ [0, 0, 0, 0] ++ ecPub (idkScalar d) ++ List.replicate 64 0 :=
  ⟨_, by rw [attestMessage, unstated]; rfl⟩

theorem attestMessage_states {d : Dev} (nonce : List Nat) {x : Nat} (stated : statedPair d = some x) :
    ∃ m : List Nat, attestMessage d nonce = m ++ [3, 0, 0, 0] ++ ecPub (idkScalar d) ++ ecPub x :=
  ⟨_, by rw [attestMessage, stated]; rfl⟩

/-- Settles O16: each command that has started finds its conditions as they were, and its job will leave what they make of KY_BUF and the keys. -/
theorem keyCommandsThatAnswer : Obligations.KeyCommandsThatAnswer := by
  unfold Obligations.KeyCommandsThatAnswer
  intro idle aLen nLen aad text
  refine ⟨fun p => ?_, ?_, ?_, ?_, ?_, fun x => ?_, ?_, ?_, fun d nonce => ⟨fun byScalar => ?_, fun x byHandle pair => ?_⟩, fun q => ?_⟩
  · refine does_started exec_kyWrapkey (fun _ h => h.1) fun d ⟨_, path, attr, healthy⟩ => ?_
    obtain ⟨iv, k, length, run⟩ := kyWrapkey_seals (kyStarted_sameKeys 3 d) path attr healthy
    refine ⟨iv, length, ?_⟩
    rw [kyRun, run]
    exact kyWill_onKj 3 k _ d
  · refine does_started exec_kyEncrypt (fun _ h => h.1) fun d ⟨_, full, attr, fits, healthy⟩ => ?_
    obtain ⟨iv, k, length, run⟩ := kyEncrypt_seals (kyStarted_sameKeys 4 d) full attr fits healthy
    refine ⟨iv, length, ?_⟩
    rw [kyRun, run]
    exact kyWill_onKj 4 k _ d
  · refine does_started exec_kyDecrypt (fun _ h => h.1) fun d ⟨_, full, attr, fits, tag⟩ => ?_
    rw [kyRun, kyDecrypt_opens (kyStarted_sameKeys 5 d) full attr fits tag]
    exact kyWill_onKj 5 _ _ d
  · refine does_started exec_kyGenpair (fun _ h => h.1) fun d ⟨_, healthy⟩ => ?_
    obtain ⟨s, iv, k, seed, length, run⟩ := kyGenpair_seals (kyStarted_sameKeys 7 d) healthy
    refine ⟨s, iv, seed, length, ?_⟩
    rw [kyRun, run]
    exact kyWill_onKj 7 k _ d
  · refine does_started exec_kyLoadpair (fun _ h => h.1) fun d ⟨_, tag⟩ => ?_
    rw [kyRun, kyLoadpair_opens (kyStarted_sameKeys 8 d) tag]
    exact kyWill_onKj 8 _ _ d
  · refine does_started exec_kySign (fun _ h => h.1) fun d ⟨_, pair⟩ => ?_
    obtain ⟨n, k, run⟩ := kySign_signs (kyStarted_sameKeys 9 d) pair
    refine ⟨n, ?_⟩
    rw [kyRun, run]
    exact kyWill_onKj 9 k _ d
  · exact runs_started exec_kySign (fun _ h => h.1) fun d ⟨_, unloaded⟩ => kySign_empty (kyStarted_sameKeys 9 d) unloaded
  · refine does_started exec_kyAttest (fun _ h => h) fun d _ => ?_
    obtain ⟨n, k, run⟩ := kyAttest_signs (kyStarted_sameKeys 10 d)
    refine ⟨n, ?_⟩
    rw [kyRun, run]
    exact kyWill_onKj 10 k _ d
  · exact attestMessage_unstated nonce (by simp [statedPair, byScalar])
  · exact attestMessage_states nonce (by simp [statedPair, byHandle, pair])
  · refine does_started exec_kyEscrow (fun _ h => h.1) fun d ⟨_, point, signer, life, code, healthy⟩ => ?_
    obtain ⟨e, iv, ct, tag, k, positive, below, length, run⟩ := kyEscrow_seals (kyStarted_sameKeys 11 d) point signer life code healthy
    refine ⟨e, iv, ct, tag, positive, below, length, ?_⟩
    rw [kyRun, run]
    exact kyWill_onKj 11 k _ d

end Sys2Proof.Proofs
end

section
/-! PROOFS. The end of a key command, and the re-mask of KREG [06 R112, R117, R119, R120, R131]. -/

namespace Sys2Proof.Proofs

open Sys2Proof.Machine Sys2Proof.Laws

/-! ### KREG next to its mask -/

/-- A mask that is added twice is gone. -/
theorem xorBytes_twice {a m : List Nat} (h : a.length = m.length) : xorBytes (xorBytes a m) m = a := by
  refine List.ext_getElem (by simp [xorBytes, h]) fun i _ _ => ?_
  simp [xorBytes]

theorem xorBytes_length {a m : List Nat} (h : a.length = m.length) : (xorBytes a m).length = m.length := by simp [xorBytes, h]

/-! ### The end of a key command [06 R120] -/

/-- A key command reports `e`, and the engine is idle. -/
def keyClosed (e : Nat) (d : Dev) : Dev :=
  (((d.w F.KY_STAT_ERR e).set F.KY_STAT_DONE).clr F.KY_STAT_BUSY).onKy fun k => { k with job := none }

/-- The fields that the end of a key command writes. -/
def closedFields : List Fld := [F.KY_STAT_ERR, F.KY_STAT_DONE, F.KY_STAT_BUSY]

section

variable (e : Nat) (d : Dev)

theorem keyClosed_err : (keyClosed e d).r F.KY_STAT_ERR = e % 16 := by
  show (((d.w F.KY_STAT_ERR e).set F.KY_STAT_DONE).clr F.KY_STAT_BUSY).r F.KY_STAT_ERR = e % 16
  rw [clr_r_other _ (by decide), set_r_other _ (by decide), r_w_same]
  rfl

theorem keyClosed_done : (keyClosed e d).r F.KY_STAT_DONE = 1 := by
  show (((d.w F.KY_STAT_ERR e).set F.KY_STAT_DONE).clr F.KY_STAT_BUSY).r F.KY_STAT_DONE = 1
  rw [clr_r_other _ (by decide), set_r_same _ rfl]

theorem keyClosed_busy : (keyClosed e d).r F.KY_STAT_BUSY = 0 := clr_r_same ((d.w F.KY_STAT_ERR e).set F.KY_STAT_DONE) F.KY_STAT_BUSY

theorem keyClosed_mem : (keyClosed e d).mem = d.mem := rfl

theorem keyClosed_ky : (keyClosed e d).ky = { d.ky with job := none } := rfl

theorem keyClosed_key : kregKey (keyClosed e d) = kregKey d := rfl

theorem keyClosed_r_other {f : Fld} (h : f.key ∉ closedFields.map Fld.key) : (keyClosed e d).r f = d.r f := by
  simp only [closedFields, List.map_cons, List.map_nil, List.mem_cons, List.not_mem_nil, or_false, not_or] at h
  obtain ⟨err, done, busy⟩ := h
  show (((d.w F.KY_STAT_ERR e).set F.KY_STAT_DONE).clr F.KY_STAT_BUSY).r f = d.r f
  rw [clr_r_other _ busy, set_r_other _ done, r_w_other _ _ err]

end

theorem kyFinish_closes (j : KyJob) (d : Dev) : ∃ t, kyFinish j d = keyClosed j.err t := ⟨_, rfl⟩

theorem kyFinish_fill (code a : Nat) (key : List Nat) (d : Dev) :
    kyFinish { code := code, fill := some (a, key) } d = keyClosed 0 (kregFill a key d) := rfl

theorem kyFinish_load (code x : Nat) (hand : Bool) (d : Dev) :
    kyFinish { code := code, load := some x, hand := hand } d = keyClosed 0 (pairLoad x hand d) := rfl

theorem kyFinish_error {e : Nat} (code : Nat) (error : e ≠ 0) (other : e ≠ KyErr.locked) (d : Dev) :
    kyFinish { code := code, err := e } d = keyClosed e (zeroKyBuf d) := by
  simp only [kyFinish, if_pos (And.intro error other)]
  rfl

theorem kyCommandDone_ends {d : Dev} {j : KyJob} (job : d.ky.job = some j) (idle : j.burns = false) (own : j.rom = false) :
    kyCommandDone d = kyFinish j d := by
  simp [kyCommandDone, job, idle, own]

theorem kregFill_r (a : Nat) (key : List Nat) (d : Dev) : (kregFill a key d).r F.KY_STAT_KFULL = 1 ∧ (kregFill a key d).r F.KY_STAT_KATTR = a % 8 := by
  refine ⟨?_, (r_w_same (d.set F.KY_STAT_KFULL) F.KY_STAT_KATTR a).trans rfl⟩
  show ((d.set F.KY_STAT_KFULL).w F.KY_STAT_KATTR a).r F.KY_STAT_KFULL = 1
  rw [r_w_other _ _ (by decide), set_r_same _ rfl]

theorem kregFill_mem (a : Nat) (key : List Nat) (d : Dev) : (kregFill a key d).mem = d.mem := rfl

theorem kregFill_mask (a : Nat) (key : List Nat) (d : Dev) : (kregFill a key d).ky.km = d.ky.km := rfl

theorem kregFill_key {key : List Nat} {d : Dev} (h : key.length = d.ky.km.length) (a : Nat) : kregKey (kregFill a key d) = key := xorBytes_twice h

theorem pairLoad_shown (x : Nat) (hand : Bool) (d : Dev) : (pairLoad x hand d).r F.KY_STAT_PAIR = 1 := by
  show (d.set F.KY_STAT_PAIR).r F.KY_STAT_PAIR = 1
  exact set_r_same d rfl

theorem pairLoad_mem (x : Nat) (hand : Bool) (d : Dev) : (pairLoad x hand d).mem = d.mem := rfl

theorem zeroKyBuf_word (d : Dev) {i : Nat} (h : i < 64) : (zeroKyBuf d).r (F.KY_BUF_W i) = 0 := by
  refine forAll_reaches (P := fun e => e.r (F.KY_BUF_W i) = 0) (f := fun n e => e.w (F.KY_BUF_W n) 0) (p := i) (fun n e zero => ?_) (fun e => ?_)
    (List.mem_range.mpr h) d
  · by_cases here : n = i
    · rw [here, r_w_same, Nat.zero_mod]
    · have apart : (F.KY_BUF_W i).key ≠ (F.KY_BUF_W n).key := by
        simp only [Fld.key, F.KY_BUF_W]
        omega
      rw [r_w_other _ _ apart, zero]
  · rw [r_w_same, Nat.zero_mod]

theorem kyBufWord_open (i : Nat) : (F.KY_BUF_W i).key ∉ closedFields.map Fld.key := by
  simp [closedFields, Fld.key, F.KY_BUF_W, F.KY_STAT_ERR, F.KY_STAT_DONE, F.KY_STAT_BUSY]
  omega

/-! ### The re-mask, and KREG lost with the TRNG [06 R112, R119] -/

/-- A millisecond of ACLK passes for KREG. -/
def RemaskTicks (d : Dev) : Prop :=
  d.ck.ladder = .run ∨ d.ck.ladder = .hold ∨ d.ck.ladder = .nap ∨ ((d.ck.ladder = .fallow ∨ d.ck.ladder = .waking) ∧ d.ck.xrun = true)

theorem remask_due {d : Dev} (ticks : RemaskTicks d) : ¬ (aclkRuns d = false ∨ d.ck.ladder = .resetting) := by
  rcases ticks with l | l | l | ⟨l | l, runs⟩
  · simp [aclkRuns, l]
  · simp [aclkRuns, l]
  · simp [aclkRuns, l]
  · simp [aclkRuns, l, runs]
  · simp [aclkRuns, l, runs]

theorem kregRemask_stands {d : Dev} (fallow : d.ck.ladder = .fallow) (stopped : d.ck.xrun = false) : kregRemask d = d := by
  simp [kregRemask, aclkRuns, fallow, stopped]

/-- KREG under the new mask `m`. -/
def remasked (m : List Nat) (d : Dev) : Dev := d.onKy fun k => { k with kx := xorBytes (xorBytes k.kx k.km) m, km := m }

theorem kregRemask_draws {d : Dev} (ticks : RemaskTicks d) (healthy : d.r F.KY_STAT_TRNGF = 0) :
    ∃ (m : List Nat) (k : Nat), m.length = 32 ∧ kregRemask d = remasked m (afterDraws k d) := by
  obtain ⟨m, k, length, eq⟩ := trng_draws 32 d
  refine ⟨m, k, length, ?_⟩
  rw [kregRemask, if_neg (remask_due ticks), b_of_zero healthy]
  simp only [eq, Bool.false_eq_true, if_false]
  rfl

theorem remasked_key {m : List Nat} {d : Dev} (kx : d.ky.kx.length = d.ky.km.length) (length : m.length = d.ky.km.length) :
    kregKey (remasked m d) = kregKey d := xorBytes_twice ((xorBytes_length kx).trans length.symm)

theorem kregLost_idle {d : Dev} (idle : d.ky.job = none) (e : Nat) : kregLost e d = kregClear d := by simp [kregLost, idle]

theorem kregRemask_failed {d : Dev} (ticks : RemaskTicks d) (failed : d.r F.KY_STAT_TRNGF = 1) (idle : d.ky.job = none) :
    kregRemask d = kregClear d := by
  rw [kregRemask, if_neg (remask_due ticks), if_pos (b_of_ne (by rw [failed]; decide)), kregLost_idle idle]

/-! ### The commands -/

theorem exec_kyCommandDone (s : State) : exec .kyCommandDone s = onDev kyCommandDone s := rfl
theorem exec_kregRemask (s : State) : exec .kregRemask s = onDev kregRemask s := rfl

/-- Settles O18: the end of a key command is what its job leaves, and the report; a re-mask adds the old mask and the new. -/
theorem keyCommandEnds : Obligations.KeyCommandEnds := by
  unfold Obligations.KeyCommandEnds
  refine ⟨fun j idle own => ?_, fun a key length _ => ?_, fun c x hand => ?_, fun e error other => ?_, ?_, ?_, ?_⟩
  · refine does_of_onDev exec_kyCommandDone fun d job => ?_
    obtain ⟨t, closes⟩ := kyFinish_closes j d
    rw [kyCommandDone_ends job idle own, closes]
    exact ⟨keyClosed_err .., keyClosed_done .., keyClosed_busy .., rfl⟩
  · refine does_of_onDev exec_kyCommandDone fun d ⟨job, mask⟩ => ?_
    obtain ⟨full, attr⟩ := kregFill_r a key d
    rw [kyCommandDone_ends job rfl rfl, kyFinish_fill]
    exact ⟨(keyClosed_key ..).trans (kregFill_key (length.trans mask.symm) a), (keyClosed_r_other _ _ (by decide)).trans full, (keyClosed_r_other _ _ (by decide)).trans attr,
      (congrArg Keys.km (keyClosed_ky ..)).trans (kregFill_mask a key d), (keyClosed_mem ..).trans (kregFill_mem ..)⟩
  · refine does_of_onDev exec_kyCommandDone fun d job => ?_
    rw [kyCommandDone_ends job rfl rfl, kyFinish_load]
    exact ⟨rfl, rfl, (keyClosed_r_other _ _ (by decide)).trans (pairLoad_shown x hand d), (keyClosed_mem ..).trans (pairLoad_mem ..)⟩
  · refine does_of_onDev exec_kyCommandDone fun d job i word => ?_
    rw [kyCommandDone_ends job rfl rfl, kyFinish_error 1 error other, keyClosed_r_other _ _ (kyBufWord_open i), zeroKyBuf_word d word]
  · refine does_of_onDev exec_kregRemask fun d ⟨ticks, healthy, kx, km⟩ => ?_
    obtain ⟨m, k, length, eq⟩ := kregRemask_draws ticks healthy
    rw [eq]
    exact ⟨remasked_key (d := afterDraws k d) (kx.trans km.symm) (length.trans km.symm), rfl, rfl, length⟩
  · refine does_of_onDev exec_kregRemask fun d ⟨ticks, failed, idle⟩ => ?_
    rw [kregRemask_failed ticks failed idle]
    exact ⟨kregClear_kfull d, kregClear_kattr d, rfl, rfl⟩
  · exact runs_of_onDev exec_kregRemask fun d ⟨fallow, stopped⟩ => kregRemask_stands fallow stopped

end Sys2Proof.Proofs
end

section
/-! PROOFS. The TRNG's health, the instructions of the JTAG port, and the debug unlock [06 R111, R112, R129, R130; 02 R38]. -/

namespace Sys2Proof.Proofs

open Sys2Proof.Machine Sys2Proof.Laws

/-! ### The debug path [06 R111] -/

/-- The debug path opens with no key command under way: KREG and the pair are gone. -/
theorem debugEnable_idle {d : Dev} (idle : d.ky.job = none) : debugEnable d = countRegs (pairDrop (kregClear (d.set F.KY_LC_DBGEN))) := by
  rw [debugEnable, kregLost_idle (d := d.set F.KY_LC_DBGEN) idle]

theorem pairDrop_r_other (d : Dev) {f : Fld} (h : f.key ≠ F.KY_STAT_PAIR.key) : (pairDrop d).r f = d.r f := clr_r_other d h

theorem pairDrop_shown (d : Dev) : (pairDrop d).r F.KY_STAT_PAIR = 0 := clr_r_same d F.KY_STAT_PAIR

section

variable (d : Dev)

theorem countRegs_ky : (countRegs d).ky = d.ky := by rw [(sensed_countRegs d).frame]
theorem countRegs_mem : (countRegs d).mem = d.mem := by rw [(sensed_countRegs d).frame]
theorem pairDrop_ky : (pairDrop d).ky = { d.ky with pair := none, hand := false } := rfl
theorem pairDrop_mem : (pairDrop d).mem = d.mem := rfl
theorem kregClear_ky : (kregClear d).ky = { d.ky with kx := d.ky.km } := rfl
theorem kregClear_mem : (kregClear d).mem = d.mem := rfl

end

/-- What the opening of the debug path leaves. -/
structure DebugOpen (d t : Dev) : Prop where
  enabled : t.r F.KY_LC_DBGEN = 1
  empty : t.r F.KY_STAT_KFULL = 0
  unpaired : t.r F.KY_STAT_PAIR = 0
  ky : t.ky = { d.ky with kx := d.ky.km, pair := none, hand := false }
  mem : t.mem = d.mem

theorem debugEnable_opens {d : Dev} (idle : d.ky.job = none) : DebugOpen d (debugEnable d) := by
  have reads (e : Dev) {f : Fld} (h : f.key ∉ sensedFields.map Fld.key) : (countRegs e).r f = e.r f := (sensed_countRegs e).r f h
  rw [debugEnable_idle idle]
  refine ⟨?_, ?_, ?_, ?_, ?_⟩
  · rw [reads _ (by decide), pairDrop_r_other _ (by decide), kregClear_r_other _ (by decide) (by decide), set_r_same _ rfl]
  · rw [reads _ (by decide), pairDrop_r_other _ (by decide), kregClear_kfull]
  · rw [reads _ (by decide), pairDrop_shown]
  · rw [countRegs_ky, pairDrop_ky, kregClear_ky, set_ky]
  · rw [countRegs_mem, pairDrop_mem, kregClear_mem, set_mem]

/-! ### JTAG instructions [06 R129; 02 R38] -/

/-- The instruction register holds `ir`. -/
def irLoaded (ir : Nat) (d : Dev) : Dev := d.onKy fun k => { k with ir := ir }

theorem jtagUpdate_dormant {d : Dev} (ir : Nat) (dormant : d.ck.ladder = .dormant) : jtagInstructionUpdate ir d = d := if_pos dormant

/-- An update that is no debug attach loads the instruction and does no more. -/
theorem jtagUpdate_plain {d : Dev} {ir : Nat} (tap : d.ck.ladder ≠ .dormant) (extest : ir ≠ Jtag.extest) (access : ir ≠ Jtag.dbgacc) :
    jtagInstructionUpdate ir d = irLoaded (jtagActs d ir) d := by
  have attach : debugAttach d ir = false := by simp [debugAttach, extest, access]
  have load : jtagLoad ir d = irLoaded (jtagActs d ir) d := if_neg fun h => access h.1
  rw [jtagInstructionUpdate, if_neg tap, attach, load]
  rfl

/-- DBGACC in BLANK and PERSO opens the debug path. -/
theorem jtagUpdate_debug {d : Dev} (tap : d.ck.ladder ≠ .dormant) (early : lifeCycle d < 2) (shut : d.r F.KY_LC_DBGEN = 0) :
    jtagInstructionUpdate Jtag.dbgacc d = debugEnable (irLoaded Jtag.dbgacc d) := by
  have attach : debugAttach d Jtag.dbgacc = false := by simp [debugAttach, show lifeCycle d ≠ 2 by omega]
  have acts : jtagActs d Jtag.dbgacc = Jtag.dbgacc := by simp [jtagActs, Jtag.dbgacc, Jtag.unlock, early]
  have load : jtagLoad Jtag.dbgacc d = debugEnable (irLoaded (jtagActs d Jtag.dbgacc) d) := if_pos ⟨rfl, early, b_of_zero shut⟩
  rw [jtagInstructionUpdate, if_neg tap, attach, load, acts]
  rfl

/-! ### The unlock [06 R130, Table KY-17] -/

/-- An UNLOCK capture presents the challenge `c` and keeps it. -/
def challenged (c : List Nat) (d : Dev) : Dev := d.onKy fun k => { k with chal := some c, dr := le c * 2 ^ 2 }

theorem unlockCapture_draws {d : Dev} (loaded : d.ky.ir = Jtag.unlock) :
    ∃ (c : List Nat) (k : Nat), c.length = 32 ∧ unlockCapture d = challenged c (afterDraws k d) := by
  obtain ⟨c, k, length, eq⟩ := trng_draws 32 d
  refine ⟨c, k, length, ?_⟩
  rw [unlockCapture, if_neg (not_not.mpr loaded), eq]
  rfl

/-- The data register holds nothing below CHAL. -/
theorem challenged_low (c : List Nat) (d : Dev) {i : Nat} (h : i < 2) : tdoBit (challenged c d) i = false := by
  show (le c * 2 ^ 2).testBit i = false
  rw [Nat.testBit_mul_two_pow, decide_eq_false (by omega), Bool.false_and]

/-- The UNLOCK data register, of its bits below KEY, its KEY and its SIG. -/
def unlockReg (low : BitVec 258) (key sig : BitVec 512) : Nat := low.toNat + key.toNat * 2 ^ 258 + sig.toNat * 2 ^ 770

section

variable (low : BitVec 258) (key sig : BitVec 512)

theorem unlockReg_slot : bitsAt (unlockReg low key sig) 0 2 = low.toNat % 4 := by
  simp only [bitsAt, unlockReg, Nat.shiftRight_zero]
  omega

theorem unlockReg_key : bitsAt (unlockReg low key sig) 258 512 = key.toNat := by
  have := low.isLt
  have := key.isLt
  simp only [bitsAt, unlockReg, Nat.shiftRight_eq_div_pow]
  omega

theorem unlockReg_sig : bitsAt (unlockReg low key sig) 770 512 = sig.toNat := by
  have := low.isLt
  have := key.isLt
  have := sig.isLt
  simp only [bitsAt, unlockReg, Nat.shiftRight_eq_div_pow]
  omega

end

/-- The verdict on the signature `sig` of the signer in `slot`, whose key is `key`, for the challenge `c` [06 R130; 04 R78]. -/
def unlockVerdict (slot : Nat) (key sig c : List Nat) (d : Dev) : Bool :=
  signerUsable d slot && decide (sha256 key = signerHash d slot) && ecVerify key (sha256 (ascii "FDBG" ++ serialBytes d ++ c)) sig

section

variable {d : Dev}

theorem unlockUpdate_unloaded (v : Nat) (unloaded : d.ky.ir ≠ Jtag.unlock) : unlockUpdate v d = d := if_pos unloaded

theorem unlockUpdate_unchallenged (v : Nat) (loaded : d.ky.ir = Jtag.unlock) (fresh : d.ky.chal = none) :
    unlockUpdate v d = d.onKy fun k => { k with dr := v, verify := some false } := by
  rw [unlockUpdate, if_neg (not_not.mpr loaded)]
  simp only [Dev.onKy, fresh]

theorem unlockUpdate_challenged (v : Nat) {c : List Nat} (loaded : d.ky.ir = Jtag.unlock) (chal : d.ky.chal = some c) :
    unlockUpdate v d = d.onKy fun k => { k with dr := v, verify := some (unlockVerdict (bitsAt v 0 2) (leBytes 64 (bitsAt v 258 512))
      (leBytes 64 (bitsAt v 770 512)) c d) } := by
  rw [unlockUpdate, if_neg (not_not.mpr loaded)]
  simp only [Dev.onKy, chal]
  rfl

theorem unlockUpdate_verifies (low : BitVec 258) (key sig : BitVec 512) {c : List Nat} (loaded : d.ky.ir = Jtag.unlock) (chal : d.ky.chal = some c) :
    unlockUpdate (unlockReg low key sig) d = d.onKy fun k => { k with
      dr := unlockReg low key sig,
      verify := some (unlockVerdict (low.toNat % 4) (leBytes 64 key.toNat) (leBytes 64 sig.toNat) c d) } := by
  rw [unlockUpdate_challenged _ loaded chal, unlockReg_slot, unlockReg_key, unlockReg_sig]

/-- The verdict has been taken; a bad one has discarded the challenge. -/
def verdictTaken (good : Bool) (d : Dev) : Dev := d.onKy fun k => { k with verify := none, chal := if good then k.chal else none }

theorem unlockVerifyDone_good (good : d.ky.verify = some true) (shut : d.r F.KY_LC_DBGEN = 0) : unlockVerifyDone d = debugEnable (verdictTaken true d) := by
  have still : (verdictTaken true d).b F.KY_LC_DBGEN = false := b_of_zero (d := d) shut
  simp only [unlockVerifyDone, good, if_true]
  exact if_neg (Bool.eq_false_iff.mp still)

theorem unlockVerifyDone_bad (bad : d.ky.verify = some false) : unlockVerifyDone d = (verdictTaken false d).inc F.KY_LC_UNLKFAIL := by
  simp only [unlockVerifyDone, bad, Bool.false_eq_true, if_false]
  rfl

end

/-! ### The commands -/

theorem exec_trngHealthFail (s : State) : exec .trngHealthFail s = onDev trngHealthFail s := rfl
theorem exec_trngHealthRecover (s : State) : exec .trngHealthRecover s = onDev trngHealthRecover s := rfl
theorem exec_jtagUpdate (ir : BitVec 5) (s : State) : exec (.jtagInstructionUpdate ir) s = onDev (jtagInstructionUpdate ir.toNat) s := rfl
theorem exec_unlockCapture (s : State) : exec .unlockCapture s = onDev unlockCapture s := rfl
theorem exec_unlockUpdate (low : BitVec 258) (key sig : BitVec 512) (s : State) :
    exec (.unlockUpdate low key sig) s = onDev (unlockUpdate (unlockReg low key sig)) s := rfl
theorem exec_unlockVerifyDone (s : State) : exec .unlockVerifyDone s = onDev unlockVerifyDone s := rfl

/-- Settles O19: the life cycle chooses the instruction that acts, DBGACC and a good verdict open the debug path, and an unlock keeps its challenge. -/
theorem trngJtagAndUnlock : Obligations.TrngJtagAndUnlock := by
  unfold Obligations.TrngJtagAndUnlock
  refine ⟨runs_of_onDev exec_trngHealthFail fun _ _ => rfl, runs_of_onDev exec_trngHealthRecover fun _ _ => rfl,
    fun ir => runs_of_onDev (exec_jtagUpdate ir) fun d dormant => jtagUpdate_dormant _ dormant, ?_⟩
  intro tap
  refine ⟨?_, ?_, ?_, ?_, ?_, fun low key sig => ?_, ?_, ?_⟩
  · exact runs_of_onDev (exec_jtagUpdate 1) fun d tap => jtagUpdate_plain tap (by decide) (by decide)
  · refine runs_of_onDev (exec_jtagUpdate 8) fun d ⟨tap, alive⟩ => (jtagUpdate_plain tap (by decide) (by decide)).trans ?_
    have acts : jtagActs d 8 = 8 := by simp [jtagActs, Jtag.unlock, alive]
    exact congrArg (irLoaded · d) acts
  · refine runs_of_onDev (exec_jtagUpdate 8) fun d ⟨tap, retired⟩ => (jtagUpdate_plain tap (by decide) (by decide)).trans ?_
    have acts : jtagActs d 8 = 31 := by simp [jtagActs, Jtag.unlock, Jtag.bypass, retired]
    exact congrArg (irLoaded · d) acts
  · refine does_of_onDev (exec_jtagUpdate 9) fun d ⟨tap, early, shut, idle⟩ => ?_
    have opened := debugEnable_opens (d := irLoaded Jtag.dbgacc d) idle
    rw [show (9 : BitVec 5).toNat = Jtag.dbgacc from rfl, jtagUpdate_debug tap early shut]
    exact ⟨congrArg Keys.ir opened.ky, opened.enabled, opened.empty, opened.unpaired, congrArg Keys.pair opened.ky, congrArg Keys.kx opened.ky, opened.mem⟩
  · refine does_of_onDev exec_unlockCapture fun d loaded => ?_
    obtain ⟨c, k, length, eq⟩ := unlockCapture_draws loaded
    rw [eq]
    refine ⟨c, length, ?_, fun i low => challenged_low c _ low, rfl, rfl⟩
    rw [Nat.mul_comm 4]
    rfl
  · refine ⟨?_, ?_, fun c => ?_⟩
    · exact runs_of_onDev (exec_unlockUpdate low key sig) fun d ⟨loaded, fresh⟩ => unlockUpdate_unchallenged _ loaded fresh
    · exact runs_of_onDev (exec_unlockUpdate low key sig) fun d unloaded => unlockUpdate_unloaded _ unloaded
    · exact runs_of_onDev (exec_unlockUpdate low key sig) fun d ⟨loaded, chal⟩ => unlockUpdate_verifies low key sig loaded chal
  · refine does_of_onDev exec_unlockVerifyDone fun d ⟨good, shut, idle⟩ => ?_
    have opened := debugEnable_opens (d := verdictTaken true d) idle
    rw [unlockVerifyDone_good good shut]
    exact ⟨opened.enabled, congrArg Keys.verify opened.ky, (congrArg Keys.chal opened.ky).trans rfl, congrArg Keys.pair opened.ky, opened.empty, opened.mem⟩
  · exact runs_of_onDev exec_unlockVerifyDone fun d bad => unlockVerifyDone_bad bad

end Sys2Proof.Proofs
end

section
/-! PROOFS. The sources of a tamper alarm: what those of one handshake latch and abort, and what ends when they stop [06 R132, R133, R135]. -/

namespace Sys2Proof.Proofs

open Sys2Proof.Machine Sys2Proof.Laws

/-! ### Bits of a field -/

/-- Taking a bit that is set off a number leaves every other bit. -/
theorem testBit_sub_two_pow_other {v i j : Nat} (set : v.testBit i = true) (other : j ≠ i) : (v - 2 ^ i).testBit j = v.testBit j := by
  have clear := testBit_sub_two_pow set
  have parts : v = 2 ^ i + (v - 2 ^ i) := by have := Nat.ge_two_pow_of_testBit set; omega
  generalize v - 2 ^ i = x at clear parts
  subst parts
  rcases Nat.lt_or_gt_of_ne other with below | above
  · exact (Nat.testBit_two_pow_add_gt below x).symm
  · obtain ⟨k, rfl⟩ := Nat.exists_eq_add_of_lt above
    have even : x / 2 ^ i % 2 = 0 := by simpa [Nat.testBit_eq_decide_div_mod_eq] using clear
    have quotient : (2 ^ i + x) / 2 ^ (i + 1) = x / 2 ^ (i + 1) := by
      rw [Nat.pow_succ, ← Nat.div_div_eq_div_mul, ← Nat.div_div_eq_div_mul, Nat.add_div_left x (Nat.two_pow_pos i)]
      omega
    rw [show i + k + 1 = k + (i + 1) by omega, Nat.testBit_add, Nat.testBit_add, quotient]

theorem clrBit_bits (d : Dev) (f : Fld) (i : Nat) {s : Nat} (h : s < f.width) :
    bitAt ((d.clrBit f i).r f) s = (bitAt (d.r f) s && !decide (i = s)) := by
  by_cases here : i = s
  · rw [here, clrBit_bit, decide_eq_true rfl, Bool.not_true, Bool.and_false]
  · rw [decide_eq_false here, Bool.not_false, Bool.and_true]
    unfold Dev.clrBit
    split
    · rename_i set
      rw [r_w_same, bitAt, Nat.testBit_mod_two_pow, decide_eq_true h, Bool.true_and, testBit_sub_two_pow_other set (Ne.symm here), bitAt]
    · rfl

/-! ### The sources that stop [06 R132, R133] -/

theorem mem_sources {m s : Nat} (h : s < 6) : s ∈ (List.range 6).filter (fun i => bitAt m i) ↔ bitAt m s = true := by
  rw [List.mem_filter, List.mem_range]
  exact and_iff_right h

/-- The sources of the list `l` alarm no longer. -/
def sourcesEnd (l : List Nat) (d : Dev) : Dev := forAll l (fun s d => d.clrBit F.TP_LIVE_SRC s) d

theorem sourcesEnd_frame (l : List Nat) (d : Dev) : sourcesEnd l d = { d with regs := (sourcesEnd l d).regs } :=
  forAll_keeps (P := fun t => t = { d with regs := t.regs }) (fun s e _ same => (clrBit_frame e F.TP_LIVE_SRC s).trans (by rw [same])) rfl

theorem sourcesEnd_sameRegs (l : List Nat) (d : Dev) : SameRegs [F.TP_LIVE_SRC] d (sourcesEnd l d) :=
  forAll_keeps (P := SameRegs [F.TP_LIVE_SRC] d) (fun s e _ same f h => (sameRegs_clrBit e _ s f h).trans (same f h)) fun _ _ => rfl

theorem sourcesEnd_bits (l : List Nat) (d : Dev) {s : Nat} (h : s < 6) :
    bitAt ((sourcesEnd l d).r F.TP_LIVE_SRC) s = (bitAt (d.r F.TP_LIVE_SRC) s && !decide (s ∈ l)) := by
  induction l generalizing d with
  | nil => simp [sourcesEnd, forAll]
  | cons i l ih =>
    refine (ih (d.clrBit F.TP_LIVE_SRC i)).trans ?_
    rw [clrBit_bits d F.TP_LIVE_SRC i h, Bool.and_assoc, ← Bool.not_or, ← Bool.decide_or]
    simp only [List.mem_cons, eq_comm]

/-- The source of XCLK does not stop while XCLK stands still. -/
theorem tamperEnd_eq (m : Nat) (d : Dev) :
    tamperEnd m d = sourcesEnd ((List.range 6).filter fun s => bitAt m s && !(s == 4 && !d.ck.xrun)) d := rfl

theorem tamperEnd_frame (m : Nat) (d : Dev) : tamperEnd m d = { d with regs := (tamperEnd m d).regs } := sourcesEnd_frame ..

theorem tamperEnd_sameRegs (m : Nat) (d : Dev) : SameRegs [F.TP_LIVE_SRC] d (tamperEnd m d) := sourcesEnd_sameRegs _ d

theorem tamperEnd_bits (m : Nat) (d : Dev) {s : Nat} (h : s < 6) :
    bitAt ((tamperEnd m d).r F.TP_LIVE_SRC) s = (bitAt (d.r F.TP_LIVE_SRC) s && (!bitAt m s || (decide (s = 4) && !d.ck.xrun))) := by
  rw [tamperEnd_eq, sourcesEnd_bits _ d h]
  simp [List.mem_filter, h]

/-- Every source stops where none is found to alarm. -/
def AlarmsEnded (d t : Dev) : Prop :=
  SameRegs [F.TP_LIVE_SRC] d t ∧ t.mem = d.mem ∧ t.co = d.co ∧ t.ot = d.ot ∧
    ∀ s, s < 6 → bitAt (t.r F.TP_LIVE_SRC) s = (bitAt (d.r F.TP_LIVE_SRC) s && (decide (s = 4) && !d.ck.xrun))

theorem tamperEnd_all (d : Dev) : AlarmsEnded d (tamperEnd 63 d) := by
  have every : ∀ s, s < 6 → bitAt 63 s = true := by decide
  refine ⟨tamperEnd_sameRegs 63 d, ?_, ?_, ?_, fun s h => ?_⟩
  · rw [tamperEnd_frame]
  · rw [tamperEnd_frame]
  · rw [tamperEnd_frame]
  · rw [tamperEnd_bits 63 d h, every s h, Bool.not_true, Bool.false_or]

theorem tamperFound_none (d : Dev) : tamperFound 0 d = tamperEnd 63 d := by
  simp [tamperFound, tamperAlarm, bitAt]

/-! ### The sources that alarm [06 R132] -/

/-- The latches of the six sources. -/
def tamperLatches : List Fld := [F.TP_STAT_LOOP, F.TP_STAT_MESH, F.TP_STAT_VGL, F.TP_STAT_TEMP, F.TP_STAT_XSTOP, F.TP_STAT_DBG]

theorem tamperLatch_mem (s : Nat) : tamperLatch s ∈ tamperLatches := by
  unfold tamperLatch
  by_cases h : s < 6
  · rw [List.getD_eq_getElem _ _ h]
    exact List.getElem_mem h
  · rw [List.getD_eq_default _ _ (Nat.le_of_not_lt h)]
    exact List.mem_cons_self

theorem tamperLatches_apart : ∀ f ∈ tamperLatches, ∀ g ∈ tamperLatches, f.key = g.key → f = g := by decide

theorem tamperLatch_width (s : Nat) : (tamperLatch s).width = 1 := (by decide : ∀ f ∈ tamperLatches, f.width = 1) _ (tamperLatch_mem s)

theorem sourceShown_r_other (s : Nat) (d : Dev) {f : Fld} (h : f.key ∉ (F.TP_LIVE_SRC :: tamperLatches).map Fld.key) :
    (sourceShown s d).r f = d.r f := by
  rw [List.map_cons, List.mem_cons, not_or] at h
  have latch : f.key ≠ (tamperLatch s).key := fun same => h.2 (same ▸ List.mem_map_of_mem (tamperLatch_mem s))
  rw [sourceShown, Dev.orBit, r_w_other _ _ h.1, set_r_other d latch]

theorem sourceShown_latch (n s : Nat) (d : Dev) : (sourceShown n d).r (tamperLatch s) = (d.set (tamperLatch n)).r (tamperLatch s) := by
  rw [sourceShown, Dev.orBit, r_w_other _ _ (tamperLatch_not_live s).symm]

theorem sourceShown_latches (s : Nat) (d : Dev) : (sourceShown s d).r (tamperLatch s) = 1 := by
  rw [sourceShown_latch, set_r_same (f := tamperLatch s) d (tamperLatch_width s)]

/-- A latch that is set stays so when another source alarms. -/
theorem sourceShown_keeps (n s : Nat) (d : Dev) (latched : d.r (tamperLatch s) = 1) : (sourceShown n d).r (tamperLatch s) = 1 := by
  by_cases same : (tamperLatch s).key = (tamperLatch n).key
  · rw [tamperLatches_apart _ (tamperLatch_mem s) _ (tamperLatch_mem n) same, sourceShown_latches]
  · rw [sourceShown_latch, set_r_other d same, latched]

/-- The sources in `m` show as alarming. -/
def sourcesShown (m : Nat) (d : Dev) : Dev := forAll ((List.range 6).filter fun s => bitAt m s) sourceShown d

theorem sourcesShown_latch {m s : Nat} (h : s < 6) (source : bitAt m s = true) (d : Dev) : (sourcesShown m d).r (tamperLatch s) = 1 :=
  forAll_reaches (P := fun e => e.r (tamperLatch s) = 1) (fun n e => sourceShown_keeps n s e) (fun e => sourceShown_latches s e)
    ((mem_sources h).mpr source) d

theorem sourcesShown_r_other (m : Nat) (d : Dev) {f : Fld} (h : f.key ∉ (F.TP_LIVE_SRC :: tamperLatches).map Fld.key) :
    (sourcesShown m d).r f = d.r f := forAll_same (fun e => e.r f) (fun s e _ => sourceShown_r_other s e h) d

theorem forAll_sourceShown_bits (l : List Nat) (d : Dev) {s : Nat} (h : s < 6) :
    bitAt ((forAll l sourceShown d).r F.TP_LIVE_SRC) s = (decide (s ∈ l) || bitAt (d.r F.TP_LIVE_SRC) s) := by
  induction l generalizing d with
  | nil => simp [forAll]
  | cons n l ih =>
    refine (ih (sourceShown n d)).trans ?_
    rw [sourceShown_bit n s h, ← Bool.or_assoc, Bool.or_right_comm, Bool.or_comm _ (decide (n = s)), ← Bool.decide_or]
    simp only [List.mem_cons, eq_comm]

theorem sourcesShown_bits (m : Nat) (d : Dev) {s : Nat} (h : s < 6) :
    bitAt ((sourcesShown m d).r F.TP_LIVE_SRC) s = (bitAt m s || bitAt (d.r F.TP_LIVE_SRC) s) := by
  refine (forAll_sourceShown_bits _ d h).trans ?_
  simp [h]

/-! ### The alarm of one handshake [06 R132, R133, R135] -/

/-- From `d` to `t` an alarm has been detected: beside the clocks, memory and the Sower, the core, the boot state and the fuses stand as they were, and an
idle OTP engine stays so. -/
structure Detected (d t : Dev) : Prop extends Latches d t where
  co : t.co = d.co
  bt : t.bt = d.bt
  fuses : t.ot.fuses = d.ot.fuses
  idle : d.ot.job = none → t.ot.job = none

theorem Detected.refl (d : Dev) : Detected d d := ⟨.refl d, rfl, rfl, rfl, id⟩

theorem Detected.trans {d e t : Dev} (h : Detected d e) (k : Detected e t) : Detected d t :=
  ⟨h.toLatches.trans k.toLatches, k.co.trans h.co, k.bt.trans h.bt, k.fuses.trans h.fuses, k.idle ∘ h.idle⟩

theorem detected_w (d : Dev) (f : Fld) (v : Nat) : Detected d (d.w f v) := ⟨latches_w d f v, rfl, rfl, rfl, id⟩

theorem detected_sourceShown (s : Nat) (d : Dev) : Detected d (sourceShown s d) := (detected_w d _ 1).trans (detected_w _ _ _)

theorem detected_kyFail (e : Nat) (d : Dev) : Detected d (kyFail e d) := ⟨⟨rfl, rfl, rfl, rfl⟩, rfl, rfl, rfl, id⟩

theorem detected_keyJobAbort (d : Dev) : Detected d (keyJobAbort d) := by
  unfold keyJobAbort
  split
  · split
    · exact .refl d
    · exact detected_kyFail ..
  · exact .refl d

theorem detected_zeroKyBuf (d : Dev) : Detected d (zeroKyBuf d) :=
  forAll_keeps (P := Detected d) (f := fun i e => e.w (F.KY_BUF_W i) 0) (fun _ e _ he => he.trans (detected_w e _ 0)) (.refl d)

theorem detected_kregClear (d : Dev) : Detected d (kregClear d) := ⟨kregClear_latches d, rfl, rfl, rfl, id⟩

theorem detected_keyAbort (d : Dev) : Detected d (keyAbort d) := by
  rw [keyAbort_eq]
  exact ((detected_keyJobAbort d).trans (detected_zeroKyBuf _)).trans (detected_kregClear _)

theorem otAbort_job (d : Dev) : (otAbort d).ot.job = d.ot.job.map fun j => if j.req.owner = .latch then j else { j with abort := true } := rfl

theorem detected_otAbort (d : Dev) : Detected d (otAbort d) :=
  ⟨otAbort_latches d, rfl, rfl, rfl, fun idle => by rw [otAbort_job, idle]; rfl⟩

theorem detected_beadDue (d : Dev) : Detected d (beadDue d) := by
  unfold beadDue
  split
  · exact detected_w ..
  · split
    · exact ⟨⟨rfl, rfl, rfl, rfl⟩, rfl, rfl, rfl, id⟩
    · exact detected_w ..

/-- The sources in `m` are latched, and what they meet is aborted. -/
def sourcesLatched (m : Nat) (d : Dev) : Dev := otAbort (keyAbort (sourcesShown m d))

theorem detected_sourcesLatched (m : Nat) (d : Dev) : Detected d (sourcesLatched m d) := by
  have shown : Detected d (sourcesShown m d) := forAll_keeps (P := Detected d) (fun s e _ he => he.trans (detected_sourceShown s e)) (.refl d)
  exact (shown.trans (detected_keyAbort _)).trans (detected_otAbort _)

/-- At the onset of an alarm quarantine is pending and a bead is due. -/
theorem tamperDetect_onsets (m : Nat) (d : Dev) : tamperDetect m d =
    if d.r F.TP_LIVE_SRC = 0 then beadDue ((sourcesLatched m d).set F.TP_STAT_QPEND) else sourcesLatched m d := by
  rw [tamperDetect_eq]
  simp only [decide_eq_true_eq]
  rfl

theorem detected_tamperDetect (m : Nat) (d : Dev) : Detected d (tamperDetect m d) := by
  rw [tamperDetect_onsets]
  split
  · exact ((detected_sourcesLatched m d).trans (detected_w ..)).trans (detected_beadDue _)
  · exact detected_sourcesLatched m d

/-- The aborts write fields of the key engine alone. -/
theorem sourcesLatched_r (m : Nat) (d : Dev) {f : Fld} (h : f.key < 32 * 0x40003000 ∨ 32 * 0x40004000 ≤ f.key) :
    (sourcesLatched m d).r f = (sourcesShown m d).r f := by
  rw [sourcesLatched, otAbort_r, keyAbort_r_other _ h]

/-- The fields that the onset of an alarm writes. -/
def onsetFields : List Fld := [F.TP_STAT_QPEND, F.TP_STAT_CFULL, F.OT_WIN_PEND]

theorem tamperDetect_r (m : Nat) (d : Dev) {f : Fld} (h : f.key ∉ onsetFields.map Fld.key) : (tamperDetect m d).r f = (sourcesLatched m d).r f := by
  simp only [onsetFields, List.map_cons, List.map_nil, List.mem_cons, List.not_mem_nil, or_false, not_or] at h
  obtain ⟨qpend, full, latch⟩ := h
  rw [tamperDetect_onsets]
  split
  · rw [beadDue_r_other _ full latch, set_r_other _ qpend]
  · rfl

theorem tamperDetect_kfull (m : Nat) (d : Dev) : (tamperDetect m d).r F.KY_STAT_KFULL = 0 := by
  rw [tamperDetect_r m d (by decide), sourcesLatched, otAbort_r, keyAbort_kfull]

theorem tamperDetect_latched {m s : Nat} (h : s < 6) (source : bitAt m s = true) (d : Dev) : (tamperDetect m d).r (tamperLatch s) = 1 := by
  have apart : ∀ g ∈ tamperLatches, g.key ∉ onsetFields.map Fld.key ∧ 32 * 0x40004000 ≤ g.key := by decide
  obtain ⟨onset, block⟩ := apart _ (tamperLatch_mem s)
  rw [tamperDetect_r m d onset, sourcesLatched_r m d (.inr block), sourcesShown_latch h source]

theorem tamperDetect_bits (m : Nat) (d : Dev) {s : Nat} (h : s < 6) :
    bitAt ((tamperDetect m d).r F.TP_LIVE_SRC) s = (bitAt m s || bitAt (d.r F.TP_LIVE_SRC) s) := by
  rw [tamperDetect_r m d (by decide), sourcesLatched_r m d (by decide), sourcesShown_bits m d h]

/-- Detection leaves the state of the boot alone. -/
theorem tamperDetect_lstate (m : Nat) (d : Dev) : (tamperDetect m d).r F.SYS_BOOT_LSTATE = d.r F.SYS_BOOT_LSTATE := by
  rw [tamperDetect_r m d (by decide), sourcesLatched_r m d (by decide), sourcesShown_r_other m d (by decide)]

/-- A bead that the counter has room for, with no OTP command under way, stands in the latch. -/
theorem beadDue_pends {d : Dev} (room : ctrFull d 1 = false) (idle : d.ot.job = none) : beadDue d = d.set F.OT_WIN_PEND := by
  have owner : otOwner d ≠ some .latch := by simp [otOwner, idle]
  simp [beadDue, room, owner]

/-- Where no source was live quarantine is pending, and so is a bead where the counter has room for one. -/
theorem tamperDetect_begins {m : Nat} {d : Dev} (quiet : d.r F.TP_LIVE_SRC = 0) (idle : d.ot.job = none) :
    (tamperDetect m d).r F.TP_STAT_QPEND = 1 ∧ (ctrFull d 1 = false → (tamperDetect m d).r F.OT_WIN_PEND = 1) := by
  have latched := (detected_sourcesLatched m d).trans (detected_w _ F.TP_STAT_QPEND 1)
  rw [tamperDetect_onsets, if_pos quiet]
  refine ⟨?_, fun room => ?_⟩
  · rw [beadDue_r_other _ (by decide) (by decide), set_r_same _ rfl]
  · have room' : ctrFull ((sourcesLatched m d).set F.TP_STAT_QPEND) 1 = false := by
      rw [← room, ctrFull, ctrFull]
      exact congrArg (fun n => decide (beadCount 1 ≤ n)) (securityCount_congr latched.fuses 1)
    rw [beadDue_pends room' (latched.idle idle), set_r_same _ rfl]

/-- Where a source was live already, no second quarantine and no second bead become pending. -/
theorem tamperDetect_goesOn {m : Nat} {d : Dev} (live : d.r F.TP_LIVE_SRC ≠ 0) :
    (tamperDetect m d).r F.TP_STAT_QPEND = d.r F.TP_STAT_QPEND ∧ (tamperDetect m d).r F.OT_WIN_PEND = d.r F.OT_WIN_PEND := by
  rw [tamperDetect_onsets, if_neg live]
  exact ⟨(sourcesLatched_r m d (by decide)).trans (sourcesShown_r_other m d (by decide)),
    (sourcesLatched_r m d (by decide)).trans (sourcesShown_r_other m d (by decide))⟩

end Sys2Proof.Proofs
end

section
/-! PROOFS. What a device that enters quarantine loses and keeps, and the statement about tamper alarms [06 R132-R136]. -/

namespace Sys2Proof.Proofs

open Sys2Proof.Machine Sys2Proof.Laws

/-! ### The event line leaves the verb under way and the boot state alone [11 R217, R218] -/

/-- From `d` to `t` lines have been held or sent: no verb began or ended, and the boot state stands. -/
structure LinesMoved (d t : Dev) : Prop where
  wait : t.st.wait = d.st.wait
  bt : t.bt = d.bt

theorem LinesMoved.refl (d : Dev) : LinesMoved d d := ⟨rfl, rfl⟩

theorem LinesMoved.trans {d e t : Dev} (h : LinesMoved d e) (k : LinesMoved e t) : LinesMoved d t := ⟨k.wait.trans h.wait, k.bt.trans h.bt⟩

theorem linesMoved_ite {d e t : Dev} {c : Prop} [Decidable c] (h : LinesMoved d e) (k : LinesMoved d t) : LinesMoved d (if c then e else t) := by
  split
  · exact h
  · exact k

theorem linesMoved_inc (d : Dev) (f : Fld) : LinesMoved d (d.inc f) := ⟨rfl, rfl⟩

theorem linesMoved_onSt (d : Dev) {g : Interp → Interp} (h : (g d.st).wait = d.st.wait) : LinesMoved d (d.onSt g) := ⟨h, rfl⟩

theorem linesMoved_sendBytes (p : Nat) (bs : List Nat) (d : Dev) : LinesMoved d (sendBytes p bs d) :=
  linesMoved_ite ⟨rfl, rfl⟩ ⟨rfl, rfl⟩

theorem linesMoved_flushN (n : Nat) (d : Dev) : LinesMoved d (flushN n d) := by
  induction n generalizing d with
  | zero => exact .refl d
  | succ n ih =>
    rw [flushN]
    split
    next => exact .refl d
    next =>
      refine linesMoved_ite (.refl d) (linesMoved_ite (.trans ?_ (ih _)) (linesMoved_ite (.trans ?_ (ih _)) (.refl d)))
      · exact ⟨rfl, rfl⟩
      · exact (linesMoved_onSt d rfl).trans (linesMoved_sendBytes ..)

theorem linesMoved_sendEvent (text : List Nat) (d : Dev) : LinesMoved d (sendEvent text d) :=
  (linesMoved_onSt d rfl).trans (linesMoved_flushN _ _)

theorem linesMoved_flushEventsN (n : Nat) (d : Dev) : LinesMoved d (flushEventsN n d) := by
  induction n generalizing d with
  | zero => exact .refl d
  | succ n ih =>
    rw [flushEventsN]
    split
    next => exact .refl d
    next =>
      refine linesMoved_ite (.trans ?_ (ih _)) (.refl d)
      exact (linesMoved_onSt d rfl).trans (linesMoved_ite (linesMoved_inc ..) (linesMoved_sendEvent ..))

theorem linesMoved_monitorEvent (i : Nat) (ws : List (List Nat)) (d : Dev) : LinesMoved d (monitorEvent i ws d) := by
  have held (text : List Nat) : LinesMoved d (holdEvent text d) := linesMoved_ite (linesMoved_inc ..) (linesMoved_onSt d rfl)
  have pumped (e : Dev) : LinesMoved e (pumpOut e) :=
    linesMoved_ite ((linesMoved_flushN _ e).trans (linesMoved_flushEventsN _ _)) (.refl e)
  exact linesMoved_ite ((held _).trans (pumped _)) (.refl d)

/-! ### Where no occurrence fires, ending all light leaves the boot state alone -/

theorem aimOff_bt (b : Nat) (d : Dev) : (aimOff b d).bt = d.bt :=
  forAll_same Dev.bt (f := fun c e => sinkOff c e.ns e) (fun _ _ _ => rfl) _

theorem releaseLines_bt (l : List Nat) (d : Dev) : (releaseLines l d).bt = d.bt :=
  forAll_same Dev.bt (fun b e _ => forAll_same Dev.bt (f := fun r e => releaseLine b r e.ns e) (fun _ _ _ => rfl) e) d

theorem lightOff_bt {d : Dev} (free : d.sw.slots = []) : (lightOff d).bt = d.bt := by
  rw [lightOff, releaseLines_bt, endAllLight_unfired (slotsIf_noSlots free _)]
  exact (forAll_same Dev.bt (f := trigOff) (fun _ _ _ => rfl) _).trans (forAll_same Dev.bt (fun b e _ => aimOff_bt b e) d)

/-! ### Quarantine [06 R134, R136; 07 R158] -/

theorem aimAt_bt (t : Nat) (d : Dev) : (d.aimAt t).bt = d.bt := by
  unfold Dev.aimAt
  split
  · rfl
  · split <;> rfl

theorem supplyReset_bt (d : Dev) : (supplyReset d).bt = d.bt := aimAt_bt ..

theorem tamperEntry_bt (d : Dev) : (tamperEntry d).bt = d.bt := by
  rw [tamperEntry_eq]
  exact supplyReset_bt d

theorem tamperEntry_co (d : Dev) : (tamperEntry d).co = monitorOnly d.co := by rw [tamperEntry_eq, (aside_supplyReset d).co]

theorem ramDropped_byte (d : Dev) (x : Nat) :
    (ramDropped d).byte x = if inProg x = true ∨ (dataBase ≤ x ∧ x < monBase) then memDefault else d.byte x := by
  have prog : (x < progBase ∨ progBase + progSize ≤ x) ↔ ¬ inProg x = true := by simp only [inProg, decide_eq_true_eq]; omega
  have data : (x < dataBase ∨ dataBase + (monBase - dataBase) ≤ x) ↔ ¬ (dataBase ≤ x ∧ x < monBase) := by simp only [dataBase, monBase]; omega
  rw [ramDropped, byte_clearMem, byte_clearMem]
  simp only [prog, data]
  by_cases p : inProg x = true <;> by_cases m : dataBase ≤ x ∧ x < monBase <;> simp [p, m]

theorem quarantined_byte (d : Dev) (x : Nat) : (quarantined d).byte x = (ramDropped (quarantineDark d)).byte x :=
  byte_congr ((stateQuarantine_mem _).trans (verbsDropped_latches _).mem) x

theorem verbsDropped_wait (d : Dev) : (verbsDropped d).st.wait = none := rfl
theorem verbsDropped_bt (d : Dev) : (verbsDropped d).bt = d.bt := rfl
theorem verbsDropped_co (d : Dev) : (verbsDropped d).co = d.co := rfl

theorem verbsDropped_r_other (d : Dev) {f : Fld} (full : f.key ≠ F.KY_STAT_KFULL.key) (attr : f.key ≠ F.KY_STAT_KATTR.key) :
    (verbsDropped d).r f = d.r f := kregClear_r_other d full attr

theorem ramDropped_bt (d : Dev) : (ramDropped d).bt = d.bt := rfl
theorem ramDropped_co (d : Dev) : (ramDropped d).co = d.co := rfl

theorem stateQuarantine_bt (d : Dev) : (stateQuarantine d).bt = { d.bt with header := [] } := rfl
theorem stateQuarantine_co (d : Dev) : (stateQuarantine d).co = d.co := rfl
theorem stateQuarantine_st (d : Dev) : (stateQuarantine d).st = d.st := rfl

/-- What a device that has entered quarantine has lost. -/
structure QuarantineLost (t : Dev) : Prop where
  qpend : t.r F.TP_STAT_QPEND = 0
  lstate : t.r F.SYS_BOOT_LSTATE = 5
  blen : t.r F.SYS_BLEN_N = 0
  kfull : t.r F.KY_STAT_KFULL = 0
  wait : t.st.wait = none
  header : t.bt.header = []
  prog : ∀ a, inProg a = true → t.byte a = memDefault
  data : ∀ a, dataBase ≤ a → a < monBase → t.byte a = memDefault

theorem quarantineLost_enterQuarantine (d : Dev) : QuarantineLost (enterQuarantine d) := by
  obtain ⟨ws, eq⟩ := enterQuarantine_eq d
  have lines := linesMoved_monitorEvent 6 ws (quarantined d)
  have event := aside_enterQuarantine d
  obtain ⟨lstate, qpend, prog, _⟩ := enterQuarantine_reached d
  rw [← eq] at lines
  refine ⟨qpend, lstate, (event.r _ (by decide)).trans ?_, enterQuarantine_noKey d, lines.wait.trans ?_, ?_, prog, fun a low high => ?_⟩
  · rw [quarantined, stateQuarantine_r, r_w_same]
    rfl
  · rw [quarantined, stateQuarantine_st, verbsDropped_wait]
  · rw [lines.bt, quarantined, stateQuarantine_bt]
  · rw [byte_congr event.mem, quarantined_byte, ramDropped_byte, if_pos (.inr ⟨low, high⟩)]

/-- The fields that the entry into quarantine writes. -/
def quarantineFields : List Fld := [F.TP_STAT_QPEND, F.KY_STAT_KFULL, F.KY_STAT_KATTR, F.SYS_BOOT_LSTATE, F.SYS_BLEN_N]

/-- What the entry into quarantine does, and leaves, where no slot is in use. -/
structure QuarantineEntered (d t : Dev) : Prop where
  r : ∀ f : Fld, Kept f → f.key ∉ quarantineFields.map Fld.key → t.r f = d.r f
  co : t.co = monitorOnly d.co
  bt : t.bt = { d.bt with header := [] }
  byte : ∀ a, inProg a = false → ¬ (dataBase ≤ a ∧ a < monBase) → t.byte a = d.byte a

theorem quarantineEntered_enterQuarantine {d : Dev} (free : d.sw.slots = []) : QuarantineEntered d (enterQuarantine d) := by
  obtain ⟨ws, eq⟩ := enterQuarantine_eq d
  have lines := linesMoved_monitorEvent 6 ws (quarantined d)
  have event := aside_enterQuarantine d
  have entry := tamperEntry_latches d
  have free' : (tamperEntry d).sw.slots = [] := (congrArg Sower.slots entry.sw).trans free
  have dark := aside_lightOff free'
  rw [← eq] at lines
  refine ⟨fun f kept other => (event.r f kept).trans ?_, event.co.trans ?_, lines.bt.trans ?_, fun a prog data => (byte_congr event.mem a).trans ?_⟩
  · simp only [quarantineFields, List.map_cons, List.map_nil, List.mem_cons, List.not_mem_nil, or_false, not_or] at other
    obtain ⟨qpend, full, attr, lstate, blen⟩ := other
    rw [quarantined, stateQuarantine_r, r_w_other _ _ blen, r_w_other _ _ lstate, verbsDropped_r_other _ full attr, ramDropped_r, quarantineDark,
      clr_r_other _ qpend, dark.r f kept, tamperEntry_r d kept]
  · rw [quarantined, stateQuarantine_co, verbsDropped_co, ramDropped_co, quarantineDark, clr_co, dark.co, tamperEntry_co]
  · rw [quarantined, stateQuarantine_bt, verbsDropped_bt, ramDropped_bt, quarantineDark, clr_bt, lightOff_bt free', tamperEntry_bt]
  · have mem : (quarantineDark d).mem = d.mem := by rw [quarantineDark, clr_mem, dark.mem, entry.mem]
    rw [quarantined_byte, ramDropped_byte, if_neg (by simp [prog, data]), byte_congr mem]

/-! ### The alarm of sources other than XCLK [06 R132-R134] -/

theorem bitAt_complement {m : Nat} (h : m < 64) {s : Nat} (hs : s < 6) : bitAt (63 - m) s = !bitAt m s := by
  revert s m
  decide

/-- Without XCLK's, the sources found alarm as they are. -/
theorem tamperAlarm_others {m : Nat} (some : m ≠ 0) (other : bitAt m 4 = false) (d : Dev) : tamperAlarm m d = alarm m d := by
  simp [tamperAlarm, other, some]

/-- In the reset ladder an alarm waits for the monitor. -/
theorem alarm_resetting (m : Nat) {d : Dev} (ladder : d.ck.ladder = .resetting) : alarm m d = tamperDetect m d := by
  have ladder' : (tamperDetect m d).ck.ladder = .resetting := (congrArg Ck.ladder (detected_tamperDetect m d).ck).trans ladder
  have waits : tamperRespond (tamperDetect m d) = tamperDetect m d := by simp [tamperRespond, ladder']
  have down : (tamperDetect m d).awake = false := by simp [Dev.awake, ladder']
  simp [alarm, waits, down]

/-- From `e` to `t` a request that quiesces may have been woken, and sources may have stopped. -/
structure AlarmShown (e t : Dev) : Prop where
  r : ∀ f : Fld, f.key ≠ F.TP_LIVE_SRC.key → t.r f = e.r f
  mem : t.mem = e.mem
  st : t.st = e.st
  bt : t.bt = e.bt
  co : t.co = e.co

theorem alarmShown_onCk (e : Dev) (g : Ck → Ck) : AlarmShown e (e.onCk g) := ⟨fun _ _ => rfl, rfl, rfl, rfl, rfl⟩

theorem alarmShown_tamperEnd (n : Nat) (e : Dev) : AlarmShown e (tamperEnd n e) := by
  have frame := tamperEnd_frame n e
  exact ⟨fun f other => tamperEnd_sameRegs n e f (by simpa using other), by rw [frame], by rw [frame], by rw [frame], by rw [frame]⟩

theorem AlarmShown.trans {d e t : Dev} (h : AlarmShown d e) (k : AlarmShown e t) : AlarmShown d t :=
  ⟨fun f other => (k.r f other).trans (h.r f other), k.mem.trans h.mem, k.st.trans h.st, k.bt.trans h.bt, k.co.trans h.co⟩

/-- In Run, before quarantine and with XCLK running, an alarm is quarantine at once. -/
theorem alarmShown_run (n m : Nat) {d : Dev} (run : d.ck.ladder = .run) (before : d.r F.SYS_BOOT_LSTATE ≠ 5) (heard : d.ck.silent = false) :
    AlarmShown (enterQuarantine (tamperDetect m d)) (tamperEnd n (alarm m d)) := by
  have ck := (detected_tamperDetect m d).ck
  have responds : tamperRespond (tamperDetect m d) = enterQuarantine (tamperDetect m d) := by
    simp [tamperRespond, ck, run, heard, tamperDetect_lstate m d, before]
  rw [alarm, responds]
  split
  · exact (alarmShown_onCk ..).trans (alarmShown_tamperEnd ..)
  · exact alarmShown_tamperEnd ..

theorem AlarmShown.lost {e t : Dev} (h : AlarmShown e t) (k : QuarantineLost e) : QuarantineLost t :=
  ⟨(h.r _ (by decide)).trans k.qpend, (h.r _ (by decide)).trans k.lstate, (h.r _ (by decide)).trans k.blen, (h.r _ (by decide)).trans k.kfull,
    (congrArg Interp.wait h.st).trans k.wait, (congrArg Boot.header h.bt).trans k.header, fun a prog => (byte_congr h.mem a).trans (k.prog a prog),
    fun a low high => (byte_congr h.mem a).trans (k.data a low high)⟩

/-- The latches stand in quarantine. -/
theorem tamperLatch_stands (s : Nat) :
    Kept (tamperLatch s) ∧ (tamperLatch s).key ∉ quarantineFields.map Fld.key ∧ (tamperLatch s).key ≠ F.TP_LIVE_SRC.key :=
  (by decide : ∀ f ∈ tamperLatches, Kept f ∧ f.key ∉ quarantineFields.map Fld.key ∧ f.key ≠ F.TP_LIVE_SRC.key) _ (tamperLatch_mem s)

/-! ### The commands -/

theorem exec_tamperAlarm (sources : BitVec 6) (s : State) : exec (.tamperAlarm sources) s = onDev (tamperFound sources.toNat) s := rfl

theorem exec_tamperAlarm_xclk (s : State) : exec (.tamperAlarm 16) s = .next { s with dev := tamperEnd 47 (xclkStop s.dev) } := rfl

theorem exec_tamperAlarmClear (s : State) : exec .tamperAlarmClear s = onDev tamperAlarmClear s := rfl

/-- An alarm found in the reset ladder is latched and aborts what it meets; the sources not found have stopped. -/
theorem tamperFound_resetting {m : Nat} (small : m < 64) (some : m ≠ 0) (other : bitAt m 4 = false) {d : Dev} (ladder : d.ck.ladder = .resetting)
    (idle : d.ot.job = none) :
    (∀ s, s < 6 → (bitAt m s = true → (tamperFound m d).r (tamperLatch s) = 1) ∧
      bitAt ((tamperFound m d).r F.TP_LIVE_SRC) s = (bitAt m s || (decide (s = 4) && bitAt (d.r F.TP_LIVE_SRC) s && !d.ck.xrun))) ∧
    (tamperFound m d).r F.KY_STAT_KFULL = 0 ∧ (tamperFound m d).mem = d.mem ∧ (tamperFound m d).ck = d.ck ∧
    (d.r F.TP_LIVE_SRC = 0 → (tamperFound m d).r F.TP_STAT_QPEND = 1 ∧ (ctrFull d 1 = false → (tamperFound m d).r F.OT_WIN_PEND = 1)) ∧
    (d.r F.TP_LIVE_SRC ≠ 0 → (tamperFound m d).r F.TP_STAT_QPEND = d.r F.TP_STAT_QPEND ∧ (tamperFound m d).r F.OT_WIN_PEND = d.r F.OT_WIN_PEND) := by
  have detected := detected_tamperDetect m d
  have frame := tamperEnd_frame (63 - m) (tamperDetect m d)
  have regs {f : Fld} (h : f.key ∉ [F.TP_LIVE_SRC].map Fld.key) : (tamperEnd (63 - m) (tamperDetect m d)).r f = (tamperDetect m d).r f :=
    tamperEnd_sameRegs _ _ f h
  rw [tamperFound, tamperAlarm_others some other, alarm_resetting m ladder]
  refine ⟨fun s h => ⟨fun source => ?_, ?_⟩, (regs (by decide)).trans (tamperDetect_kfull m d), (congrArg Dev.mem frame).trans detected.mem,
    (congrArg Dev.ck frame).trans detected.ck, fun quiet => ?_, fun live => ?_⟩
  · rw [regs (by simpa using (tamperLatch_stands s).2.2), tamperDetect_latched h source]
  · rw [tamperEnd_bits _ _ h, tamperDetect_bits m d h, bitAt_complement small h, Bool.not_not, detected.ck]
    by_cases xclk : s = 4
    · subst xclk
      simp [other]
    · cases bitAt m s <;> simp [xclk]
  · rw [regs (by decide), regs (by decide)]
    exact tamperDetect_begins quiet idle
  · rw [regs (by decide), regs (by decide)]
    exact tamperDetect_goesOn live

/-- Settles O20: an alarm is its detection, what the ladder makes of it, and the end of the sources that are not found; in Run it is the entry into
quarantine. -/
theorem tamperAlarms : Obligations.TamperAlarms := by
  unfold Obligations.TamperAlarms
  refine ⟨fun sources => ?_, ?_, ?_⟩
  · intro m some other
    refine ⟨does_of_onDev (exec_tamperAlarm sources) fun d ⟨ladder, idle, _⟩ => tamperFound_resetting sources.isLt some other ladder idle,
      does_of_onDev (exec_tamperAlarm sources) fun d ⟨run, before, heard⟩ => ?_, fun s => ⟨_, exec_xclkStop s, exec_tamperAlarm_xclk s⟩⟩
    have found : tamperFound sources.toNat d = tamperEnd (63 - sources.toNat) (alarm sources.toNat d) :=
      congrArg (tamperEnd _) (tamperAlarm_others some other d)
    have shown := alarmShown_run (63 - sources.toNat) sources.toNat run before heard
    rw [← found] at shown
    obtain ⟨qpend, lstate, blen, kfull, wait, header, prog, data⟩ := shown.lost (quarantineLost_enterQuarantine _)
    refine ⟨qpend, lstate, blen, kfull, wait, header, prog, data, fun free _ => ?_⟩
    have detected := detected_tamperDetect sources.toNat d
    have entered := quarantineEntered_enterQuarantine ((congrArg Sower.slots detected.sw).trans free)
    have co : (tamperFound sources.toNat d).co = monitorOnly d.co := by rw [shown.co, entered.co, detected.co]
    refine ⟨fun s h source => ?_, by rw [co]; rfl, by rw [co]; rfl, by rw [co]; rfl, by rw [co]; rfl, by rw [shown.bt, entered.bt, detected.bt],
      fun a prog data => ?_⟩
    · obtain ⟨kept, stays, live⟩ := tamperLatch_stands s
      rw [shown.r _ live, entered.r _ kept stays, tamperDetect_latched h source]
    · rw [byte_congr shown.mem, entered.byte a prog data, byte_congr detected.mem]
  · exact does_of_onDev (exec_tamperAlarm 0) fun d _ => tamperFound_none d ▸ tamperEnd_all d
  · exact does_of_onDev exec_tamperAlarmClear fun d _ => tamperEnd_all d

end Sys2Proof.Proofs
end

section
/-! PROOFS. What an instruction's delivery leaves, stores that are posted, and the system instructions [07 R141-R143, R147, R150; 08 R170, R176, Table IS-12]. -/

namespace Sys2Proof.Proofs

open Sys2Proof.Machine Sys2Proof.Laws

/-! ### The device after a command -/

theorem onDev_dev {g : Dev → Dev} {s u : State} (h : onDev g s = .next u) : u.dev = g s.dev := by
  injection h with same
  rw [← same]

/-! ### Stores are posted [07 R147; 08 R170, R176] -/

@[simp] theorem eaImm_fetched (d : Dev) (a : Nat) (imm : BitVec 16) : eaImm (fetched d) a imm = eaImm d a imm := by
  rw [eaImm, fetched_wr, eaImm]

@[simp] theorem eaIdx_fetched (d : Dev) (a b : Nat) : eaIdx (fetched d) a b = eaIdx d a b := by
  rw [eaIdx, fetched_wr, fetched_wr, eaIdx]

/-- A store whose address does not change with its delivery is posted behind those that wait. -/
theorem storeInstr_posts {rs : List Nat} {ea : Dev → Nat} {n : Nat} {r : BitVec 4} {d : Dev} (ready : CpuReady d)
    (free : (r.toNat :: rs).any (busyReg d) = false) (same : ea (fetched d) = ea d) (fault : dataFault d true n (ea d) = 0)
    (room : d.co.wb.length < 4) : storeInstr rs ea n r.toNat d = post r n (ea d) d := by
  rw [storeInstr_ready rs ea n r.toNat ready free (by rw [fetched_fault, same, fault]) room, same, post]

/-- With four stores waiting a store is not issued. -/
theorem storeInstr_full {rs : List Nat} {ea : Dev → Nat} {n s : Nat} {d : Dev} (ready : CpuReady d) (free : (s :: rs).any (busyReg d) = false)
    (same : ea (fetched d) = ea d) (fault : dataFault d true n (ea d) = 0) (full : 4 ≤ d.co.wb.length) : storeInstr rs ea n s d = stall d := by
  rw [storeInstr, instr_ready _ _ ready free]
  simp only [same, fetched_fault, fault, fetched_wb, full, if_true, ne_eq, not_true_eq_false, if_false]

theorem exec_stw (r a : BitVec 4) (imm : BitVec 16) (s : State) :
    exec (.stw r a imm) s = onDev (storeInstr [a.toNat] (fun e => eaImm e a.toNat imm) 4 r.toNat) s := rfl

/-- Settles O47: each store is the one shape with its own address and width. -/
theorem storesPost : Obligations.StoresPost := by
  unfold Obligations.StoresPost
  intro r a b imm c
  refine ⟨runs_of_onDev (exec_stw r a imm) ?_, runs_of_onDev (fun _ => rfl) ?_, runs_of_onDev (fun _ => rfl) ?_, runs_of_onDev (fun _ => rfl) ?_,
    runs_of_onDev (fun _ => rfl) ?_, does_of_onDev (exec_stw r a imm) ?_⟩
  · exact fun d ⟨⟨ready, free⟩, fault, room⟩ => storeInstr_posts ready free (eaImm_fetched ..) fault room
  · exact fun d ⟨⟨ready, free⟩, fault, room⟩ => storeInstr_posts ready free (eaImm_fetched ..) fault room
  · exact fun d ⟨⟨ready, free⟩, fault, room⟩ => storeInstr_posts ready free (eaImm_fetched ..) fault room
  · exact fun d ⟨⟨ready, free⟩, fault, room⟩ => storeInstr_posts ready free (eaIdx_fetched ..) fault room
  · exact fun d ⟨⟨ready, free⟩, fault, room⟩ => storeInstr_posts ready free rfl fault room
  · intro d ⟨⟨ready, free⟩, fault, full⟩
    have stalls : storeInstr [a.toNat] (fun e => eaImm e a.toNat imm) 4 r.toNat d = stall d :=
      storeInstr_full ready free (eaImm_fetched ..) fault full
    rw [stalls]
    exact ⟨rfl, rfl, rfl, rfl⟩

/-! ### What delivery leaves [07 R142, R143] -/

theorem cacheHit_frame (a : Nat) (d : Dev) : cacheHit a d = { d with regs := (cacheHit a d).regs, co := (cacheHit a d).co } := by
  unfold cacheHit
  simp only
  split
  · rfl
  · split <;> rfl

theorem fetched_frame (d : Dev) : fetched d = { d with regs := (fetched d).regs, co := (fetched d).co } := by
  unfold fetched
  simp only
  split
  · rw [cacheHit_frame]
    rfl
  · rfl

@[simp] theorem fetched_ck (d : Dev) : (fetched d).ck = d.ck := by rw [fetched_frame]

theorem imageRuns_congr {d e : Dev} (image : e.co.image = d.co.image) (halted : e.co.halted = d.co.halted) (ck : e.ck = d.ck)
    (boot : e.r F.SYS_BOOT_LSTATE = d.r F.SYS_BOOT_LSTATE) : imageRuns e = imageRuns d := by
  rw [imageRuns, imageRuns, image, halted, Dev.awake, Dev.awake, darkened, darkened, ck, boot]

theorem fetched_imageRuns (d : Dev) : imageRuns (fetched d) = imageRuns d :=
  imageRuns_congr (by rw [fetched_co]) (by rw [fetched_co]) (fetched_ck d) (fetched_r d _ (by decide))

/-- Of the core, which sources are pending depends on nothing. -/
@[simp] theorem irqAbove_onCo (d : Dev) (g : Cpu → Cpu) (lv : Nat) : irqAbove (d.onCo g) lv = irqAbove d lv := rfl

/-! ### NOP, SYNC, WAIT, MFSTAT and BRK [07 R141, R150; 08 Table IS-12] -/

theorem syncDone_fetched (d : Dev) : syncDone (fetched d) = syncDone d := by
  have inv := fetched_b d F.IC_CTL_INV (by decide)
  have auto := fetched_b d F.CORE_VSET_AUTO (by decide)
  rw [syncDone, fetched_wb, fetched_loads, inv, auto, fetched_co, syncDone]

theorem syncInstr_done {d : Dev} (ready : CpuReady d) (done : syncDone d = true) (settled : d.co.vwait = false) :
    syncInstr d = advancePc (fetched d) := by
  have stays : (fetched d).onCo (fun k => { k with vwait := false }) = fetched d := by
    have here : (fetched d).co.vwait = false := by rw [fetched_co, settled]
    rw [Dev.onCo, ← here]
  rw [syncInstr, fetch_ready _ ready, syncDone_fetched, if_pos done, stays]

theorem syncInstr_waits {d : Dev} (ready : CpuReady d) (pending : syncDone d = false) : syncInstr d = d := by
  rw [syncInstr, fetch_ready _ ready, syncDone_fetched, pending, if_neg Bool.false_ne_true]

/-- The core stands in WAIT at the next instruction. -/
def standing (d : Dev) : Dev := (advancePc (fetched d)).onCo fun k => { k with waiting := true }

theorem waitInstr_standing {d : Dev} (ready : CpuReady d) (none : d.r F.CK_LADDER_REQ = 0) : waitInstr d = waitWake (standing d) := by
  have free : (standing d).b F.CK_LADDER_REQ = false := b_of_zero ((fetched_r d _ (by decide)).trans none)
  rw [waitInstr, fetch_ready _ ready]
  exact congrArg waitWake (if_neg (by rw [← standing, free]; exact Bool.false_ne_true))

theorem standing_runs (d : Dev) : imageRuns (standing d) = imageRuns d :=
  (imageRuns_congr (d := fetched d) (e := standing d) rfl rfl rfl rfl).trans (fetched_imageRuns d)

theorem standing_irqAbove (d : Dev) : irqAbove (standing d) (standing d).co.level = irqAbove (fetched d) d.co.level := by
  have level : (standing d).co.level = d.co.level := fetched_level d
  rw [level, standing, irqAbove_onCo, advancePc, goTo, irqAbove_onCo]

theorem standing_pc (d : Dev) : (standing d).co.pc = (d.co.pc + 4) % 2 ^ 32 := by rw [standing, onCo_co, advancePc, goTo, onCo_co, fetched_pc]

theorem standing_mem (d : Dev) : (standing d).mem = d.mem := by rw [standing, onCo_mem, advancePc, goTo, onCo_mem, fetched_mem]

theorem waitWake_stays {d : Dev} (none : irqAbove d d.co.level = none) : waitWake d = d := by simp [waitWake, none]

theorem waitWake_ends {d : Dev} (runs : imageRuns d = true) (waits : d.co.waiting = true) (some : (irqAbove d d.co.level).isSome = true) :
    waitWake d = (d.onCo fun k => { k with waiting := false }).onCk fun c => { c with woken := c.woken || c.ask.isSome } :=
  if_pos ⟨runs, waits, some⟩

/-- STAT as a word, with its flags written as terms of the sum [07 Table CO-10]. -/
theorem statWord_eq (k : Cpu) : statWord k =
    (if k.n then 2 ^ 31 else 0) + (if k.z then 2 ^ 30 else 0) + (if k.c then 2 ^ 29 else 0) + (if k.v then 2 ^ 28 else 0) +
      (if k.ie then 2 ^ 8 else 0) + k.level % 16 := by
  have term (b : Bool) (n : Nat) : bit b * n = if b then n else 0 := by cases b <;> simp [bit]
  simp only [statWord, term]

theorem brkInstr_debug {d : Dev} (ready : CpuReady d) (path : d.r F.KY_LC_DBGEN = 1) :
    brkInstr d = (advancePc (fetched d)).onCo fun k => { k with halted := true } := by
  have enabled : (fetched d).b F.KY_LC_DBGEN = true := by rw [fetched_b d _ (by decide), b_of_ne (by omega)]
  rw [brkInstr, fetch_ready _ ready, if_pos enabled]
  rfl

/-- Settles O53: each instruction acts on what its delivery leaves; WAIT stands and then asks what a waking source asks. -/
theorem systemInstructions : Obligations.SystemInstructions := by
  unfold Obligations.SystemInstructions
  refine ⟨runs_of_onDev (fun _ => rfl) fun d ready => fetch_ready advancePc ready, runs_of_onDev (fun _ => rfl) ?_, runs_of_onDev (fun _ => rfl) ?_,
    runs_of_onDev (fun _ => rfl) ?_, does_of_onDev (fun _ => rfl) ?_, fun t => runs_of_onDev (fun _ => rfl) ?_,
    runs_of_onDev (fun _ => rfl) fun d ⟨ready, path⟩ => brkInstr_debug ready path⟩
  · intro d ⟨ready, stores, loads, inv, settled⟩
    exact syncInstr_done ready (by simp [syncDone, stores, loads, inv, settled]) settled
  · intro d ⟨ready, pending⟩
    refine syncInstr_waits ready ?_
    rcases pending with stores | loads | inv
    · simp [syncDone, stores]
    · simp [syncDone, loads]
    · simp [syncDone, inv]
  · intro d ⟨ready, request, quiet⟩
    rw [waitInstr_standing ready request, waitWake_stays ((standing_irqAbove d).trans quiet), standing]
  · intro d ⟨ready, request, source⟩
    have above : (irqAbove (standing d) (standing d).co.level).isSome = true := by rw [standing_irqAbove, source]
    rw [waitInstr_standing ready request, waitWake_ends ((standing_runs d).trans ready.1) rfl above]
    refine ⟨rfl, ?_, ?_⟩
    · rw [onCk_co, onCo_co, standing_pc]
    · rw [onCk_mem, onCo_mem, standing_mem]
  · intro d ⟨ready, free⟩
    have done := result_ready [] t.toNat (fun e => BitVec.ofNat 32 (statWord e.co)) noFlags ready free
    rw [done, noFlags, fetched_stat, statWord_eq, retire]

end Sys2Proof.Proofs
end

section
/-! PROOFS. Near memory: loads that see the posted stores, and the write buffer as it drains [07 R147-R149; 08 R170-R172, R176]. -/

namespace Sys2Proof.Proofs

open Sys2Proof.Machine Sys2Proof.Laws

/-! ### Near memory [07 Table CO-3, R144; 09 Table AS-1] -/

/-- Near RAM is neither far nor core control space. -/
theorem inRam_near {a : Nat} (ram : inRam a = true) : isFar a = false ∧ a / 0x1000 ≠ 0xE0000 := by
  simp only [inRam, inProg, Bool.or_eq_true, decide_eq_true_eq] at ram
  simp only [isFar, Bool.or_eq_false_iff, decide_eq_false_iff_not]
  simp only [progBase, progSize, dataBase, dataSize, keepBase, keepSize] at ram
  omega

theorem dataFault_ram {d : Dev} {write : Bool} {n a : Nat} (aligned : a % n = 0) (guard : guardOk d (if write then .w else .r) a = true)
    (ram : inRam a = true) : dataFault d write n a = 0 := by
  simp [dataFault, aligned, guard, (inRam_near ram).1, ram]

theorem coreReg_page {a : Nat} (reg : coreReg a = true) : a / 0x1000 = 0xE0000 := by
  simp only [coreReg, Bool.and_eq_true, decide_eq_true_eq] at reg
  exact reg.1

/-- A register of the core control space, whose words are 4-aligned. -/
theorem coreReg_near {a : Nat} (reg : coreReg a = true) : isFar a = false ∧ inRam a = false ∧ ¬ a < 0x10000 := by
  have page := coreReg_page reg
  simp only [isFar, inRam, inProg, Bool.or_eq_false_iff, decide_eq_false_iff_not]
  simp only [progBase, progSize, dataBase, dataSize, keepBase, keepSize]
  omega

theorem dataFault_coreReg {d : Dev} {write : Bool} {a : Nat} (aligned : a % 4 = 0) (guard : guardOk d (if write then .w else .r) a = true)
    (reg : coreReg a = true) : dataFault d write 4 a = 0 := by
  obtain ⟨far, ram, rom⟩ := coreReg_near reg
  simp [dataFault, aligned, guard, far, ram, rom, reg]

/-! ### Near loads [07 R148; 08 R170, R171, R176] -/

theorem nearLoad_ram {d : Dev} {n a : Nat} (ram : inRam a = true) : nearLoad d n a = { d with rd := (forwarded d).load n a } :=
  if_neg (inRam_near ram).2

theorem loadInstr_ram {rs : List Nat} {ea : Dev → Nat} {n : Nat} {sgn : Bool} {t : BitVec 4} {d : Dev} (ready : CpuReady d)
    (free : (t.toNat :: rs).any (busyReg d) = false) (same : ea (fetched d) = ea d) (near : NearAt .r n (ea d) d) :
    loadInstr rs ea n sgn t.toNat d = loadRetire t n sgn (ea d) d := by
  obtain ⟨aligned, guard, ram⟩ := near
  have fault : dataFault (fetched d) false n (ea (fetched d)) = 0 := by rw [fetched_fault, same, dataFault_ram aligned guard ram]
  rw [loadInstr_near rs ea n sgn t.toNat ready free fault (by rw [same, (inRam_near ram).1]), same, nearLoad_ram ram, loadRetire]

theorem extendLoad_word (v : Nat) : extendLoad 4 false v = BitVec.ofNat 32 v := BitVec.eq_of_toNat_eq (by simp [extendLoad])

theorem crAddr_aligned (c : Nat) : crAddr c % 4 = 0 := by unfold crAddr; omega

/-- MFC takes what the register's read gives, once the stores posted to the core control space are done. -/
theorem mfc_takes {t : BitVec 4} {c : BitVec 12} {d : Dev} (ready : CpuReady d) (free : FreeRegs [t] d)
    (guard : guardOk d .r (crAddr c.toNat) = true) (reg : coreReg (crAddr c.toNat) = true) :
    loadInstr [] (fun _ => crAddr c.toNat) 4 false t.toNat d =
      advancePc ({ busRead (crAddr c.toNat) (fetched d) with rd := (busRead (crAddr c.toNat) (forwardedRegs (fetched d))).rd }.setW t.toNat
        (BitVec.ofNat 32 (busRead (crAddr c.toNat) (forwardedRegs (fetched d))).rd)) := by
  have fault : dataFault (fetched d) false 4 (crAddr c.toNat) = 0 := by
    rw [fetched_fault, dataFault_coreReg (crAddr_aligned _) guard reg]
  rw [loadInstr_near [] (fun _ => crAddr c.toNat) 4 false t.toNat ready free fault (coreReg_near reg).1, nearLoad, if_pos (coreReg_page reg), extendLoad_word]

theorem forwardedRegs_none {d : Dev} (none : d.co.wb.all (fun p => decide (p.addr / 0x1000 ≠ 0xE0000)) = true) : forwardedRegs d = d := by
  have steps (l : List Posted) (h : l.all (fun p => decide (p.addr / 0x1000 ≠ 0xE0000)) = true) (e : Dev) :
      l.foldl (fun m p => if p.addr / 0x1000 = 0xE0000 then busWrite p.addr p.data m else m) e = e := by
    induction l generalizing e with
    | nil => rfl
    | cons p l ih =>
      obtain ⟨other, rest⟩ := Bool.and_eq_true_iff.mp h
      rw [List.foldl_cons, if_neg (of_decide_eq_true other), ih rest]
  exact steps _ none d

theorem forwardedRegs_one {d : Dev} {p : Posted} (one : d.co.wb = [p]) (page : p.addr / 0x1000 = 0xE0000) :
    forwardedRegs d = coreWrite p.addr p.data d := by
  rw [forwardedRegs, one, List.foldl_cons, List.foldl_nil, if_pos page, busWrite_core _ _ page]

/-- The registers of the core control space that show nothing but their fields, and are not written by a store of their own kind. -/
theorem busRead_fields {a : Nat} (named : a ∈ [0xE0000000, 0xE0000010, 0xE000001C]) (d : Dev) : busRead a d = { d with rd := plainRead d a } := by
  simp only [List.mem_cons, List.not_mem_nil, or_false] at named
  rcases named with rfl | rfl | rfl <;> rfl

theorem coreWrite_fields {a : Nat} (named : a ∈ [0xE0000000, 0xE0000010, 0xE000001C]) (v : Nat) (d : Dev) : coreWrite a v d = plainWrite a v d := by
  simp only [List.mem_cons, List.not_mem_nil, or_false] at named
  rcases named with rfl | rfl | rfl <;> rfl

theorem fldsAt_vbase : fldsAt 0xE0000010 = [F.VBASE_BASE] := by decide

theorem vbase_read (v : Nat) (d : Dev) : plainRead (plainWrite 0xE0000010 v d) 0xE0000010 = v / 512 % 2 ^ 23 * 512 := by
  have base : (plainWrite 0xE0000010 v d).r F.VBASE_BASE = v / 512 % 2 ^ 23 := by
    rw [plainWrite, fldsAt_vbase, List.foldl_cons, List.foldl_nil, fieldWrite_r_same]
    show bitsAt v 9 23 = _
    rw [bitsAt, Nat.shiftRight_eq_div_pow]
  rw [plainRead, fldsAt_vbase, List.foldl_cons, List.foldl_nil, base, if_neg (by decide), Nat.zero_add]
  rfl

/-- CORE_ID and IC_STAT have no field that a write changes. -/
theorem readOnly_write {a : Nat} (named : a ∈ [0xE0000000, 0xE000001C]) (v : Nat) (d : Dev) : plainWrite a v d = d := by
  simp only [List.mem_cons, List.not_mem_nil, or_false] at named
  rcases named with rfl | rfl <;> rfl

/-- Where one store to the register is posted, MFC takes what the register will hold. -/
theorem mfc_sees {t : BitVec 4} {c : BitVec 12} {d : Dev} {p : Posted} {v : Nat} (due : Due [t] d) (guard : guardOk d .r (crAddr c.toNat) = true)
    (one : d.co.wb = [p]) (same : p.addr = crAddr c.toNat) (named : crAddr c.toNat ∈ [0xE0000000, 0xE0000010, 0xE000001C])
    (held : plainRead (plainWrite (crAddr c.toNat) p.data (fetched d)) (crAddr c.toNat) = v) :
    loadInstr [] (fun _ => crAddr c.toNat) 4 false t.toNat d = advancePc ({ fetched d with rd := v }.setW t.toNat (BitVec.ofNat 32 v)) := by
  have reg : ∀ a ∈ [0xE0000000, 0xE0000010, 0xE000001C], coreReg a = true := by decide
  have page := coreReg_page (reg _ named)
  obtain ⟨ready, free⟩ := due
  rw [mfc_takes ready free guard (reg _ named), busRead_fields named, busRead_fields named,
    forwardedRegs_one (p := p) ((fetched_wb d).trans one) (by rw [same, page]), same, coreWrite_fields named, held]

/-- Settles O46: a near load is one shape with its own address, width and sign; MFC reads its register as the posted stores leave it. -/
theorem nearLoads : Obligations.NearLoads := by
  unfold Obligations.NearLoads
  intro t a b imm c
  refine ⟨runs_of_onDev (fun _ => rfl) ?_, runs_of_onDev (fun _ => rfl) ?_, runs_of_onDev (fun _ => rfl) ?_, runs_of_onDev (fun _ => rfl) ?_,
    runs_of_onDev (fun _ => rfl) ?_, runs_of_onDev (fun _ => rfl) ?_, runs_of_onDev (fun _ => rfl) ?_,
    fun p => ⟨fun vbase => runs_of_onDev (fun _ => rfl) ?_, fun fixed => runs_of_onDev (fun _ => rfl) ?_⟩⟩
  · exact fun d ⟨⟨ready, free⟩, near⟩ => loadInstr_ram ready free (eaImm_fetched ..) near
  · exact fun d ⟨⟨ready, free⟩, near⟩ => loadInstr_ram ready free (eaImm_fetched ..) near
  · exact fun d ⟨⟨ready, free⟩, near⟩ => loadInstr_ram ready free (eaImm_fetched ..) near
  · exact fun d ⟨⟨ready, free⟩, near⟩ => loadInstr_ram ready free (eaImm_fetched ..) near
  · exact fun d ⟨⟨ready, free⟩, near⟩ => loadInstr_ram ready free (eaImm_fetched ..) near
  · exact fun d ⟨⟨ready, free⟩, near⟩ => loadInstr_ram ready free (eaIdx_fetched ..) near
  · intro d ⟨⟨ready, free⟩, guard, reg, others⟩
    rw [mfc_takes ready free guard reg, forwardedRegs_none (by rw [fetched_wb]; exact others)]
  · intro d ⟨due, guard, one, same⟩
    exact mfc_sees due guard one same (by rw [vbase]; decide) (by rw [vbase, vbase_read])
  · intro d ⟨due, guard, one, same⟩
    have named : crAddr c.toNat ∈ [0xE0000000, 0xE0000010, 0xE000001C] := by
      simp only [List.mem_cons, List.not_mem_nil, or_false] at fixed ⊢
      omega
    exact mfc_sees due guard one same named (by rw [readOnly_write fixed])

/-! ### The write buffer drains [07 R147, R149] -/

theorem store_frame (n : Nat) (d : Dev) (a v : Nat) : d.store n a v = { d with mem := (d.store n a v).mem } := by
  induction n generalizing d a v with
  | zero => rfl
  | succ n ih => rw [Dev.store, ih]; rfl

theorem store_regs (n : Nat) (d : Dev) (a v : Nat) : (d.store n a v).regs = d.regs := by rw [store_frame]

theorem store_co (n : Nat) (d : Dev) (a v : Nat) : (d.store n a v).co = d.co := by rw [store_frame]

/-- The device without its oldest posted store. -/
def drained (r : List Posted) (d : Dev) : Dev := d.onCo fun k => { k with wb := r }

section

variable {d : Dev} {p : Posted} {r : List Posted} (front : d.co.wb = p :: r)
include front

theorem writeBufferDrain_front : writeBufferDrain d =
    if inRam p.addr then (drained r d).store p.width p.addr p.data
    else if isFar p.addr then
      pump 2 (if farFails (drained r d) true p.width p.addr then (drained r d).onCo fun k => { k with fails := k.fails ++ [(p.addr, none)] }
              else busWrite p.addr p.data (drained r d))
    else busWrite p.addr p.data (drained r d) := by
  unfold writeBufferDrain
  rw [front]
  rfl

theorem writeBufferDrain_ram (ram : inRam p.addr = true) : writeBufferDrain d = (drained r d).store p.width p.addr p.data := by
  rw [writeBufferDrain_front front, if_pos ram]

theorem writeBufferDrain_core (ram : inRam p.addr = false) (far : isFar p.addr = false) :
    writeBufferDrain d = busWrite p.addr p.data (drained r d) := by
  rw [writeBufferDrain_front front, ram, far, if_neg Bool.false_ne_true, if_neg Bool.false_ne_true]

theorem writeBufferDrain_far (ram : inRam p.addr = false) (far : isFar p.addr = true) : writeBufferDrain d =
    pump 2 (if farFails (drained r d) true p.width p.addr then (drained r d).onCo fun k => { k with fails := k.fails ++ [(p.addr, none)] }
            else busWrite p.addr p.data (drained r d)) := by
  rw [writeBufferDrain_front front, ram, if_neg Bool.false_ne_true, if_pos far]

end

theorem writeBufferDrain_empty {d : Dev} (empty : d.co.wb = []) : writeBufferDrain d = d := by
  unfold writeBufferDrain
  rw [empty]

theorem pump_noLoads {d : Dev} (none : d.co.loads = []) (n : Nat) : pump n d = d := by
  cases n with
  | zero => rfl
  | succ n =>
    unfold pump
    rw [none]
    rfl

/-- Settles O48: the front of the buffer decides between near memory, a block behind far space, and the core's own registers. -/
theorem drainStores : Obligations.DrainStores := by
  unfold Obligations.DrainStores
  refine ⟨fun p r => ⟨does_of_onDev (fun _ => rfl) ?_, runs_of_onDev (fun _ => rfl) ?_, runs_of_onDev (fun _ => rfl) ?_,
    runs_of_onDev (fun _ => rfl) ?_⟩, runs_of_onDev (fun _ => rfl) fun d empty => writeBufferDrain_empty empty⟩
  · intro d ⟨front, ram⟩
    rw [writeBufferDrain_ram front ram]
    exact ⟨load_store_same .., fun x outside => byte_store_other _ (drained r d) _ _ x outside, store_regs .., store_co ..⟩
  · exact fun d ⟨front, ram, far⟩ => writeBufferDrain_core front ram far
  · intro d ⟨front, ram, far, sound⟩
    rw [writeBufferDrain_far front ram far, drained, sound, if_neg Bool.false_ne_true]
  · intro d ⟨front, ram, far, noLoads, fails⟩
    rw [writeBufferDrain_far front ram far, drained, fails, if_pos rfl]
    exact pump_noLoads (d := (drained r d).onCo fun k => { k with fails := k.fails ++ [(p.addr, none)] }) noLoads 2

/-! ### A near load after the store [07 R148] -/

/-- Behind the other posted stores, the last one gives what a load of its address and width reads. -/
theorem forwarded_last {d : Dev} {l : List Posted} {p : Posted} (wb : d.co.wb = l ++ [p]) (ram : inRam p.addr = true) :
    (forwarded d).load p.width p.addr = p.data % 256 ^ p.width := by
  rw [forwarded, wb, List.foldl_append, List.foldl_cons, List.foldl_nil, if_pos ram, load_store_same]

theorem post_wr (r : BitVec 4) (n x : Nat) (d : Dev) (k : Nat) : (post r n x d).wr k = d.wr k := fetched_wr d k

theorem post_mem (r : BitVec 4) (n x : Nat) (d : Dev) : (post r n x d).mem = d.mem := fetched_mem d

theorem post_wb (r : BitVec 4) (n x : Nat) (d : Dev) :
    ∃ i, (post r n x d).co.wb = d.co.wb ++ [⟨i, x, n, (d.wr r.toNat).toNat % 256 ^ n⟩] :=
  ⟨(fetched d).co.nextLoad, congrArg (· ++ _) (fetched_wb d)⟩

theorem loadRetire_wr {t : BitVec 4} (named : t.toNat ≠ 0) (n : Nat) (sgn : Bool) (x : Nat) (d : Dev) :
    (loadRetire t n sgn x d).wr t.toNat = extendLoad n sgn ((forwarded (fetched d)).load n x) :=
  (wr_setW { fetched d with rd := (forwarded (fetched d)).load n x } t.toNat t.toNat _).trans (if_pos ⟨rfl, named⟩)

theorem loadRetire_mem (t : BitVec 4) (n : Nat) (sgn : Bool) (x : Nat) (d : Dev) : (loadRetire t n sgn x d).mem = d.mem :=
  (setW_mem { fetched d with rd := (forwarded (fetched d)).load n x } t.toNat _).trans (fetched_mem d)

/-- Settles O49: the store is the last of the buffer, so the load reads what it posted. -/
theorem loadSeesLatestStore : Obligations.LoadSeesLatestStore := by
  unfold Obligations.LoadSeesLatestStore
  intro r t a imm s u named ⟨ready, free⟩ fault ram room stored ⟨ready', free'⟩ near
  have posted : u.dev = post r 4 (eaImm s.dev a.toNat imm) s.dev := by
    have posts : exec (.stw r a imm) s = onDev (post r 4 (eaImm s.dev a.toNat imm)) s :=
      onDev_congr (storeInstr_posts ready free (eaImm_fetched ..) fault room)
    exact onDev_dev (posts.symm.trans stored)
  have address : eaImm u.dev a.toNat imm = eaImm s.dev a.toNat imm := by rw [posted, eaImm, post_wr, eaImm]
  obtain ⟨i, wb⟩ := post_wb r 4 (eaImm s.dev a.toNat imm) s.dev
  have read : (forwarded (fetched u.dev)).load 4 (eaImm s.dev a.toNat imm) = (s.dev.wr r.toNat).toNat := by
    have last := forwarded_last (d := fetched u.dev) (by rw [fetched_wb, posted]; exact wb) ram
    have word : (s.dev.wr r.toNat).toNat % 256 ^ 4 % 256 ^ 4 = (s.dev.wr r.toNat).toNat := by
      rw [Nat.mod_mod]
      exact Nat.mod_eq_of_lt (s.dev.wr r.toNat).isLt
    exact last.trans word
  have loaded : exec (.ldw t a imm) u = onDev (loadRetire t 4 false (eaImm u.dev a.toNat imm)) u :=
    onDev_congr (loadInstr_ram ready' free' (eaImm_fetched ..) near)
  refine ⟨_, loaded, ?_, ?_⟩
  · show (loadRetire t 4 false (eaImm u.dev a.toNat imm) u.dev).wr t.toNat = _
    rw [loadRetire_wr named, address, read]
    exact (extendLoad_word _).trans (BitVec.ofNat_toNat 32 _)
  · show (loadRetire t 4 false (eaImm u.dev a.toNat imm) u.dev).mem = _
    rw [loadRetire_mem, posted, post_mem]

end Sys2Proof.Proofs
end

section
/-! PROOFS. Entry to handlers: the frame in memory, what entry reads, and the exceptions [07 R152-R158; 09 R180-R182]. -/

namespace Sys2Proof.Proofs

open Sys2Proof.Machine Sys2Proof.Laws

/-! ### Words in memory [00 R7] -/

theorem storeBytes_append (bs cs : List Nat) (d : Dev) (a : Nat) :
    d.storeBytes a (bs ++ cs) = (d.storeBytes a bs).storeBytes (a + bs.length) cs := by
  induction bs generalizing d a with
  | nil => rfl
  | cons b bs ih => rw [List.cons_append, Dev.storeBytes, ih, Dev.storeBytes, List.length_cons, Nat.add_assoc, Nat.add_comm 1]

theorem storeBytes_leBytes (n : Nat) (d : Dev) (a v : Nat) : d.storeBytes a (leBytes n v) = d.store n a v := by
  induction n generalizing d a v with
  | zero => rfl
  | succ n ih =>
    have low : BitVec.ofNat 8 (v % 256) = BitVec.ofNat 8 v := BitVec.eq_of_toNat_eq (by simp)
    rw [leBytes, Dev.storeBytes, ih, low, Dev.store]

theorem storeBytes_frame (bs : List Nat) (d : Dev) (a : Nat) : d.storeBytes a bs = { d with mem := (d.storeBytes a bs).mem } := by
  induction bs generalizing d a with
  | nil => rfl
  | cons b bs ih => rw [Dev.storeBytes, ih]; rfl

@[simp] theorem storeBytes_regs (bs : List Nat) (d : Dev) (a : Nat) : (d.storeBytes a bs).regs = d.regs := by rw [storeBytes_frame]

@[simp] theorem storeBytes_co (bs : List Nat) (d : Dev) (a : Nat) : (d.storeBytes a bs).co = d.co := by rw [storeBytes_frame]

/-- Words, least significant byte first, one behind the other. -/
def wordBytes (ws : List Nat) : List Nat := ws.flatMap (leBytes 4)

theorem wordBytes_length (ws : List Nat) : (wordBytes ws).length = 4 * ws.length := by
  induction ws with
  | nil => rfl
  | cons w ws ih =>
    have split : wordBytes (w :: ws) = leBytes 4 w ++ wordBytes ws := rfl
    rw [split, List.length_append, leBytes_length, ih, List.length_cons, Nat.mul_succ, Nat.add_comm]

/-- Words that are stored read back modulo 2^32. -/
theorem load_storeWords (ws : List Nat) (d : Dev) (a : Nat) {i : Nat} (h : i < ws.length) :
    (d.storeBytes a (wordBytes ws)).load 4 (a + 4 * i) = ws.getD i 0 % 2 ^ 32 := by
  induction ws generalizing d a i with
  | nil => cases h
  | cons w ws ih =>
    have split : d.storeBytes a (wordBytes (w :: ws)) = (d.store 4 a w).storeBytes (a + 4) (wordBytes ws) := by
      have bytes : wordBytes (w :: ws) = leBytes 4 w ++ wordBytes ws := rfl
      rw [bytes, storeBytes_append, storeBytes_leBytes, leBytes_length]
    rw [split]
    cases i with
    | zero =>
      rw [load_congr 4 _ (d.store 4 a w) _ fun j hj => byte_storeBytes_other _ _ _ _ (by omega)]
      exact load_store_same 4 d a w
    | succ i =>
      have next := ih (d.store 4 a w) (a + 4) (i := i) (Nat.lt_of_succ_lt_succ h)
      rwa [Nat.add_assoc, Nat.add_comm 4, ← Nat.mul_succ] at next

theorem load_same {d e : Dev} (h : e.mem = d.mem) (n a : Nat) : e.load n a = d.load n a := load_congr n e d a fun _ _ => byte_congr h _

/-! ### What entry reads [07 R152, R153, R159] -/

/-- The guard regions read nothing below their own registers. -/
theorem guardOk_congr {d e : Dev} (same : ∀ f : Fld, 32 * 0xE0000200 ≤ f.key → e.r f = d.r f) : guardOk e = guardOk d := by
  funext p a
  have above (n k : Nat) (lo width rst : Nat) (acc : Acc) : 32 * 0xE0000200 ≤ Fld.key ⟨0xE0000200 + k + 16 * n, lo, width, acc, rst⟩ := by
    simp only [Fld.key]
    omega
  have en n : e.r (F.GUARD_ATTR_EN n) = d.r (F.GUARD_ATTR_EN n) := same _ (above n 8 ..)
  have base n : e.r (F.GUARD_BASE_BASE n) = d.r (F.GUARD_BASE_BASE n) := same _ (above n 0 ..)
  have lim n : e.r (F.GUARD_LIM_LIM n) = d.r (F.GUARD_LIM_LIM n) := same _ (above n 4 ..)
  have read n : e.r (F.GUARD_ATTR_R n) = d.r (F.GUARD_ATTR_R n) := same _ (above n 8 ..)
  have write n : e.r (F.GUARD_ATTR_W n) = d.r (F.GUARD_ATTR_W n) := same _ (above n 8 ..)
  have exec n : e.r (F.GUARD_ATTR_X n) = d.r (F.GUARD_ATTR_X n) := same _ (above n 8 ..)
  simp only [guardOk, Dev.b, en, base, lim, read, write, exec]

/-- The fields that delivery and the record of an exception move. -/
def recordFields : List Fld := [F.IC_STAT_HIT, F.CO_FCAUSE_ENTRY, F.CO_FCAUSE_IMP, F.CO_FPC_ADDR, F.CO_FADDR_ADDR]

/-- From `d` to `e` nothing moved that entry to a handler reads. -/
structure SameForEntry (d e : Dev) : Prop where
  wr : ∀ r, e.wr r = d.wr r
  mem : e.mem = d.mem
  loads : e.co.loads = d.co.loads
  wb : e.co.wb = d.co.wb
  level : e.co.level = d.co.level
  ie : e.co.ie = d.co.ie
  n : e.co.n = d.co.n
  z : e.co.z = d.co.z
  c : e.co.c = d.co.c
  v : e.co.v = d.co.v
  r : ∀ f : Fld, f.key ∉ recordFields.map Fld.key → e.r f = d.r f

theorem SameForEntry.refl (d : Dev) : SameForEntry d d := ⟨fun _ => rfl, rfl, rfl, rfl, rfl, rfl, rfl, rfl, rfl, rfl, fun _ _ => rfl⟩

theorem SameForEntry.trans {d e t : Dev} (h : SameForEntry d e) (k : SameForEntry e t) : SameForEntry d t :=
  ⟨fun r => (k.wr r).trans (h.wr r), k.mem.trans h.mem, k.loads.trans h.loads, k.wb.trans h.wb, k.level.trans h.level, k.ie.trans h.ie, k.n.trans h.n,
    k.z.trans h.z, k.c.trans h.c, k.v.trans h.v, fun f hf => (k.r f hf).trans (h.r f hf)⟩

theorem sameForEntry_fetched (d : Dev) : SameForEntry d (fetched d) :=
  ⟨fetched_wr d, fetched_mem d, fetched_loads d, fetched_wb d, fetched_level d, fetched_ie d, fetched_n d, fetched_z d, fetched_c d, fetched_v d,
    fun f h => fetched_r d f fun same => h (same ▸ by decide)⟩

theorem sameForEntry_w (d : Dev) {g : Fld} (v : Nat) (record : g.key ∈ recordFields.map Fld.key) : SameForEntry d (d.w g v) :=
  ⟨fun _ => rfl, rfl, rfl, rfl, rfl, rfl, rfl, rfl, rfl, rfl, fun _ h => r_w_other d v fun same => h (same ▸ record)⟩

section

variable {d e : Dev} (same : SameForEntry d e)
include same

theorem SameForEntry.guard : guardOk e = guardOk d := by
  refine guardOk_congr fun f high => same.r f fun record => ?_
  have low : ∀ k ∈ recordFields.map Fld.key, k < 32 * 0xE0000200 := by decide
  exact absurd (low _ record) (Nat.not_lt.mpr high)

theorem SameForEntry.frameOk (p : Perm) (base : Nat) : frameOk e p base = frameOk d p base := by rw [Machine.frameOk, same.guard, Machine.frameOk]

theorem SameForEntry.frameBusy : frameBusy e = frameBusy d := by
  have busy : busyReg e = busyReg d := funext fun r => by rw [busyReg, same.loads, busyReg]
  rw [Machine.frameBusy, busy, Machine.frameBusy]

theorem SameForEntry.frameWords (pc : Nat) : frameWords e pc = frameWords d pc := by
  have stat : statWord e.co = statWord d.co := by simp only [statWord, same.n, same.z, same.c, same.v, same.ie, same.level]
  simp only [Machine.frameWords, same.wr, stat]

end

/-- The vector of an entry reads VBASE, FETCH_MODE and memory. -/
theorem vectorOf_congr {d e : Dev} (mem : ∀ a, e.byte a = d.byte a) (base : e.r F.VBASE_BASE = d.r F.VBASE_BASE)
    (xip : e.r F.FETCH_MODE_XIPEN = d.r F.FETCH_MODE_XIPEN) (n : Nat) : vectorOf e n = vectorOf d n := by
  have word (a : Nat) : e.load 4 a = d.load 4 a := load_congr 4 e d a fun _ _ => mem _
  have reach (a : Nat) : executable e a = executable d a := by rw [executable, Dev.b, xip, executable, Dev.b]
  simp only [vectorOf, base, word, reach]

/-! ### The frame [07 R153, Table CO-6] -/

section

variable (pc : Nat) (d : Dev)

theorem stacked_eq : stacked pc d = (d.storeBytes (d.wr 14 - 40).toNat (wordBytes (frameWords d pc))).setW 14 (d.wr 14 - 40) := rfl

theorem stacked_regs : (stacked pc d).regs = d.regs := by rw [stacked_eq, setW_regs, storeBytes_regs]

theorem stacked_co : (stacked pc d).co = { d.co with w := Tab.setD d.co.w 14 0 (d.wr 14 - 40).toNat } := by
  rw [stacked_eq, Dev.setW, if_neg (by decide), storeBytes_co]

theorem stacked_wr (r : Nat) : (stacked pc d).wr r = if r = 14 then d.wr 14 - 40 else d.wr r := by
  have stays : (d.storeBytes (d.wr 14 - 40).toNat (wordBytes (frameWords d pc))).wr r = d.wr r := by rw [Dev.wr, storeBytes_co, Dev.wr]
  rw [stacked_eq, wr_setW, stays]
  simp

theorem stacked_byte (x : Nat) :
    (stacked pc d).byte x = (d.storeBytes (d.wr 14 - 40).toNat (wordBytes (frameWords d pc))).byte x := byte_congr (setW_mem ..) x

theorem frameWords_length : (frameWords d pc).length = 10 := rfl

theorem stacked_load {i : Nat} (h : i < 10) : (stacked pc d).load 4 ((d.wr 14 - 40).toNat + 4 * i) = (frameWords d pc).getD i 0 % 2 ^ 32 := by
  rw [load_congr 4 _ _ _ fun j _ => stacked_byte pc d _]
  exact load_storeWords _ _ _ (by rwa [frameWords_length])

theorem stacked_sameBytes : SameBytes (d.wr 14 - 40).toNat 40 d (stacked pc d) := by
  intro x outside
  rw [stacked_byte, byte_storeBytes_other _ _ _ _ (by rwa [wordBytes_length, frameWords_length])]

end

/-- Devices alike for entry have alike frames. -/
theorem SameForEntry.stacked_vector {d e : Dev} (same : SameForEntry d e) (pc n : Nat) : vectorOf (stacked pc e) n = vectorOf (stacked pc d) n := by
  refine vectorOf_congr (fun a => ?_) ?_ ?_ n
  · rw [stacked_byte, stacked_byte, same.wr, same.frameWords]
    have bytes (bs : List Nat) (s : Nat) : (e.storeBytes s bs).byte a = (d.storeBytes s bs).byte a := by
      by_cases inside : s ≤ a ∧ a < s + bs.length
      · obtain ⟨i, rfl⟩ := Nat.exists_eq_add_of_le inside.1
        rw [byte_storeBytes_same _ _ _ _ (by omega), byte_storeBytes_same _ _ _ _ (by omega)]
      · rw [byte_storeBytes_other _ _ _ _ (by omega), byte_storeBytes_other _ _ _ _ (by omega), byte_congr same.mem]
    exact bytes _ _
  · rw [r_congr (stacked_regs pc e), r_congr (stacked_regs pc d), same.r _ (by decide)]
  · rw [r_congr (stacked_regs pc e), r_congr (stacked_regs pc d), same.r _ (by decide)]

theorem SameForEntry.canEnter {d e : Dev} (same : SameForEntry d e) {n pc : Nat} (can : CanEnter n pc d) : CanEnter n pc e := by
  obtain ⟨free, frame, vector⟩ := can
  exact ⟨same.frameBusy.trans free, by rw [same.frameOk, same.wr, frame], by rw [same.stacked_vector, vector]⟩

/-! ### Entry [07 R149, R152, R153] -/

/-- The handler at `v` is due at level `lv`. -/
def handling (v lv : Nat) (d : Dev) : Dev := d.onCo fun k => { k with pc := v, level := lv, waiting := false, missed := false, stalled := false }

theorem startHandler_vector {e v : Nat} {d : Dev} (vector : vectorOf d e = some v) (lv : Nat) : startHandler e lv d = handling v lv d := by
  rw [startHandler, vector, handling]

theorem enterHandler_stacks {e pc : Nat} {d : Dev} (can : CanEnter e pc d) (lv : Nat) :
    ∃ v, vectorOf (stacked pc d) e = some v ∧ enterHandler pc e lv d = handling v lv (stacked pc d) := by
  obtain ⟨-, frame, vector⟩ := can
  obtain ⟨v, vector⟩ := Option.isSome_iff_exists.mp vector
  refine ⟨v, vector, ?_⟩
  have whole : enterHandler pc e lv d = startHandler e lv (stacked pc d) := by
    rw [enterHandler, if_pos frame, BitVec.ofNat_toNat, BitVec.setWidth_eq]
    rfl
  rw [whole, startHandler_vector vector]

theorem enterHandler_noFrame {e pc lv : Nat} {d : Dev} (bad : frameOk d .w (d.wr 14 - 40).toNat = false) : enterHandler pc e lv d = lockupReset d := by
  rw [enterHandler, if_neg (by rw [bad]; exact Bool.false_ne_true)]

theorem handling_co (v lv : Nat) (d : Dev) :
    (handling v lv d).co = { d.co with pc := v, level := lv, waiting := false, missed := false, stalled := false } := rfl

theorem handling_mem (v lv : Nat) (d : Dev) : (handling v lv d).mem = d.mem := rfl

theorem handling_regs (v lv : Nat) (d : Dev) : (handling v lv d).regs = d.regs := rfl

theorem handling_wr (v lv : Nat) (d : Dev) (r : Nat) : (handling v lv d).wr r = d.wr r := rfl

theorem handling_vector (v lv : Nat) (d : Dev) (e : Nat) : vectorOf (handling v lv d) e = vectorOf d e := vectorOf_congr (fun _ => rfl) rfl rfl e

/-- Entry as the statements see it, from a device `x` that is alike for entry. -/
theorem enterHandler_entered {e pc : Nat} {d x : Dev} (same : SameForEntry d x) (can : CanEnter e pc x) (lv : Nat) :
    Entered e pc lv d (enterHandler pc e lv x) := by
  obtain ⟨v, vector, enters⟩ := enterHandler_stacks can lv
  rw [enters]
  refine ⟨fun i h => ?_, fun a outside => ?_, fun r => ?_, ?_, ?_, ?_⟩
  · rw [← same.frameWords, ← same.wr 14, load_same (handling_mem v lv _)]
    exact stacked_load pc x h
  · rw [← same.wr 14] at outside
    rw [byte_congr (handling_mem v lv _), stacked_sameBytes pc x a outside, byte_congr same.mem]
  · rw [handling_wr, stacked_wr, same.wr, same.wr]
  · rw [handling_co]
  · rw [handling_vector, vector, handling_co]
  · rw [handling_co, stacked_co]
    exact ⟨same.ie, same.n, same.z, same.c, same.v⟩

theorem enterHandler_regs {e pc : Nat} {d : Dev} (can : CanEnter e pc d) (lv : Nat) : (enterHandler pc e lv d).regs = d.regs := by
  obtain ⟨v, -, enters⟩ := enterHandler_stacks can lv
  rw [enters, handling_regs, stacked_regs]

/-- The core after entry: sp, pc and the level, and nothing that holds it up. -/
theorem enterHandler_co {e pc : Nat} {d : Dev} (can : CanEnter e pc d) (lv : Nat) : ∃ w v, (enterHandler pc e lv d).co =
    { d.co with w := w, pc := v, level := lv, waiting := false, missed := false, stalled := false } := by
  obtain ⟨v, -, enters⟩ := enterHandler_stacks can lv
  exact ⟨_, v, by rw [enters, handling_co, stacked_co]⟩

/-! ### Exceptions [07 R153, R157, R158] -/

/-- The cause and the pc of exception `e` are kept. -/
def causeKept (e pc : Nat) (d : Dev) : Dev := ((d.w F.CO_FCAUSE_ENTRY e).w F.CO_FCAUSE_IMP (bit (decide (e = 6)))).w F.CO_FPC_ADDR pc

/-- So is the address, where one is involved. -/
def recorded (e pc : Nat) (addr : Option Nat) (d : Dev) : Dev := addr.elim (causeKept e pc d) fun a => (causeKept e pc d).w F.CO_FADDR_ADDR a

theorem raise_records {e pc : Nat} {addr : Option Nat} {d : Dev} (low : d.co.level < 8) (free : frameBusy d = false) :
    raise e pc addr d = enterHandler pc e 8 (recorded e pc addr d) := by
  rw [raise_enters e pc addr low free]
  cases addr <;> rfl

theorem sameForEntry_recorded (e pc : Nat) (addr : Option Nat) (d : Dev) : SameForEntry d (recorded e pc addr d) := by
  have cause : SameForEntry d (causeKept e pc d) :=
    ((sameForEntry_w d e (by decide)).trans (sameForEntry_w _ _ (by decide))).trans (sameForEntry_w _ pc (by decide))
  cases addr with
  | none => exact cause
  | some a => exact cause.trans (sameForEntry_w _ a (by decide))

/-- Outside FADDR the record is the same with an address as without. -/
theorem recorded_r (e pc : Nat) (addr : Option Nat) (d : Dev) {f : Fld} (h : f.key ≠ F.CO_FADDR_ADDR.key) :
    (recorded e pc addr d).r f = (causeKept e pc d).r f := by
  cases addr with
  | none => rfl
  | some a => exact r_w_other _ a h

theorem recorded_entry {e : Nat} (small : e < 16) (pc : Nat) (addr : Option Nat) (d : Dev) : (recorded e pc addr d).r F.CO_FCAUSE_ENTRY = e := by
  rw [recorded_r _ _ _ _ (by decide), causeKept, r_w_other _ _ (by decide), r_w_other _ _ (by decide), r_w_same]
  exact Nat.mod_eq_of_lt small

theorem recorded_imp (e pc : Nat) (addr : Option Nat) (d : Dev) : (recorded e pc addr d).r F.CO_FCAUSE_IMP = bit (decide (e = 6)) := by
  rw [recorded_r _ _ _ _ (by decide), causeKept, r_w_other _ _ (by decide), r_w_same]
  cases decide (e = 6) <;> rfl

theorem recorded_pc (e pc : Nat) (addr : Option Nat) (d : Dev) : (recorded e pc addr d).r F.CO_FPC_ADDR = pc % 2 ^ 32 := by
  rw [recorded_r _ _ _ _ (by decide), causeKept, r_w_same]
  rfl

theorem recorded_co (e pc : Nat) (addr : Option Nat) (d : Dev) : (recorded e pc addr d).co = d.co := by cases addr <;> rfl

/-- What `raise` leaves of the core where the handler can be entered. -/
theorem raise_co {e pc : Nat} {addr : Option Nat} {x : Dev} (low : x.co.level < 8) (can : CanEnter e pc x) : ∃ w v, (raise e pc addr x).co =
    { x.co with w := w, pc := v, level := 8, waiting := false, missed := false, stalled := false } := by
  have enters := (sameForEntry_recorded e pc addr x).canEnter can
  rw [raise_records low can.1, ← recorded_co e pc addr x]
  exact enterHandler_co enters 8

theorem raise_imp {e pc : Nat} {addr : Option Nat} {x : Dev} (low : x.co.level < 8) (can : CanEnter e pc x) :
    (raise e pc addr x).r F.CO_FCAUSE_IMP = bit (decide (e = 6)) := by
  have enters := (sameForEntry_recorded e pc addr x).canEnter can
  rw [raise_records low can.1, r_congr (enterHandler_regs enters 8), recorded_imp]

/-- An exception whose handler can be entered is taken, from a device alike for entry. -/
theorem raise_takes {e pc : Nat} (small : e < 16) {addr : Option Nat} {d x : Dev} (same : SameForEntry d x) (low : x.co.level < 8)
    (can : CanEnter e pc x) : TakesException e pc addr d (raise e pc addr x) := by
  have record := sameForEntry_recorded e pc addr x
  have enters := record.canEnter can
  have regs := enterHandler_regs enters 8
  rw [raise_records low can.1]
  refine ⟨(r_congr regs _).trans (recorded_entry small ..), (r_congr regs _).trans (recorded_pc ..), fun a here => (r_congr regs _).trans ?_,
    enterHandler_entered (same.trans record) enters 8⟩
  rw [here]
  exact r_w_same _ _ a

/-- The same at the instruction due, once it is delivered. -/
theorem raise_fetched {e : Nat} (small : e < 16) {addr : Option Nat} {d : Dev} (low : d.co.level < 8) (can : CanEnter e d.co.pc (fetched d)) :
    TakesException e d.co.pc addr d (raise e (fetched d).co.pc addr (fetched d)) := by
  rw [fetched_pc]
  exact raise_takes small (sameForEntry_fetched d) ((fetched_level d).trans_lt low) can

theorem undef_fetched {d : Dev} (low : d.co.level < 8) (can : CanEnter 1 d.co.pc (fetched d)) :
    TakesException 1 d.co.pc none d (undef (fetched d)) := raise_fetched (by decide) low can

/-- A load or a store whose checks fail raises what they name. -/
theorem loadInstr_faults {rs : List Nat} {ea : Dev → Nat} {n t : Nat} {sgn : Bool} {d : Dev} (ready : CpuReady d)
    (free : (t :: rs).any (busyReg d) = false) (same : ea (fetched d) = ea d) {f : Nat} (fault : dataFault d false n (ea d) = f) (bad : f ≠ 0) :
    loadInstr rs ea n sgn t d = raise f (fetched d).co.pc (some (ea d)) (fetched d) := by
  rw [loadInstr, instr_ready _ _ ready free]
  simp only [same, fetched_fault, fault, if_pos bad]

theorem storeInstr_faults {rs : List Nat} {ea : Dev → Nat} {n s : Nat} {d : Dev} (ready : CpuReady d) (free : (s :: rs).any (busyReg d) = false)
    (same : ea (fetched d) = ea d) {f : Nat} (fault : dataFault d true n (ea d) = f) (bad : f ≠ 0) :
    storeInstr rs ea n s d = raise f (fetched d).co.pc (some (ea d)) (fetched d) := by
  rw [storeInstr, instr_ready _ _ ready free]
  simp only [same, fetched_fault, fault, if_pos bad]

theorem dataFault_align {d : Dev} {write : Bool} {n a : Nat} (odd : a % n ≠ 0) : dataFault d write n a = 2 := by simp [dataFault, odd]

theorem dataFault_guard {d : Dev} {write : Bool} {n a : Nat} (aligned : a % n = 0) (denied : guardOk d (if write then .w else .r) a = false) :
    dataFault d write n a = 4 := by simp [dataFault, aligned, denied]

/-- From 0x80000000 on no byte is mapped. -/
theorem dataFault_unmapped {d : Dev} {a : Nat} (guard : guardOk d .r a = true) (high : 0x80000000 ≤ a) : dataFault d false 1 a = 5 := by
  have far : isFar a = false := by
    simp only [isFar, Bool.or_eq_false_iff, decide_eq_false_iff_not]
    omega
  have ram : inRam a = false := by
    simp only [inRam, inProg, Bool.or_eq_false_iff, decide_eq_false_iff_not]
    simp only [progBase, progSize, dataBase, dataSize, keepBase, keepSize]
    omega
  have rom : ¬ a < 0x10000 := by omega
  simp [dataFault, Nat.mod_one, guard, far, ram, rom]

theorem brkInstr_raises {d : Dev} (ready : CpuReady d) (closed : d.r F.KY_LC_DBGEN = 0) :
    brkInstr d = raise 8 (fetched d).co.pc none (fetched d) := by
  have disabled : (fetched d).b F.KY_LC_DBGEN = false := by rw [fetched_b d _ (by decide), b_of_zero closed]
  rw [brkInstr, fetch_ready _ ready, if_neg (by rw [disabled]; exact Bool.false_ne_true)]

/-- An instruction is to be fetched: neither WAIT nor a BUSI nor an interrupt comes first. -/
abbrev Fetches (d : Dev) : Prop := imageRuns d = true ∧ d.co.waiting = false ∧ d.co.busi = none ∧ irqNow d = none

theorem fetch_misaligned {d : Dev} (due : Fetches d) (odd : d.co.pc % 4 ≠ 0) (act : Dev → Dev) : fetch act d = raise 2 d.co.pc (some d.co.pc) d := by
  obtain ⟨runs, awake, busi, quiet⟩ := due
  simp [fetch, runs, awake, busi, quiet, odd]

theorem fetch_outside {d : Dev} (due : Fetches d) (aligned : d.co.pc % 4 = 0) (outside : executable d d.co.pc = false) (act : Dev → Dev) :
    fetch act d = raise 3 d.co.pc (some d.co.pc) d := by
  obtain ⟨runs, awake, busi, quiet⟩ := due
  simp [fetch, runs, awake, busi, quiet, aligned, outside]

theorem interruptEntry_takes {d : Dev} {src lv : Nat} (runs : imageRuns d = true) (busi : d.co.busi = none) (irq : irqNow d = some (src, lv))
    (free : frameBusy d = false) : interruptEntry d = enterHandler d.co.pc (16 + src) lv d := by
  simp [interruptEntry, runs, irq, free, busi]

/-- A command whose operands are of the right shape. -/
theorem exec_undefinedEncoding {w : Word} (undefined : definedWord w.toNat = false) (s : State) :
    exec (.undefinedEncoding w) s = onDev (fetch undef) s := if_pos (decide_eq_true undefined)

/-- Settles O54: each cause reaches `raise`, which keeps it and enters the handler, or at level 8 is a lockup reset. -/
theorem exceptions : Obligations.Exceptions := by
  unfold Obligations.Exceptions
  refine ⟨fun w undefined => ⟨does_of_onDev (exec_undefinedEncoding undefined) ?_, runs_of_onDev (exec_undefinedEncoding undefined) ?_⟩,
    fun t a imm => ⟨does_of_onDev (fun _ => rfl) ?_, does_of_onDev (fun _ => rfl) ?_, does_of_onDev (fun _ => rfl) ?_⟩,
    does_of_onDev (fun _ => rfl) ?_, does_of_onDev (fun _ => rfl) ?_, does_of_onDev (fun _ => rfl) ?_, runs_of_onDev (fun _ => rfl) ?_⟩
  · intro d ⟨ready, low, can⟩
    rw [fetch_ready _ ready]
    exact undef_fetched low can
  · intro d ⟨ready, high⟩
    rw [fetch_ready _ ready]
    exact raise_double _ _ _ (high.trans_eq (fetched_level d).symm)
  · intro d ⟨⟨ready, free⟩, low, odd, can⟩
    have raises := loadInstr_faults (rs := [a.toNat]) (ea := fun e => eaImm e a.toNat imm) (sgn := false) ready free (eaImm_fetched d a.toNat imm) (dataFault_align odd) (by decide)
    rw [raises]
    exact raise_fetched (by decide) low can
  · intro d ⟨⟨ready, free⟩, low, denied, can⟩
    have raises := storeInstr_faults (rs := [a.toNat]) (ea := fun e => eaImm e a.toNat imm) ready free (eaImm_fetched d a.toNat imm) (dataFault_guard (Nat.mod_one _) denied) (by decide)
    obtain ⟨w, v, co⟩ := raise_co (addr := some (eaImm d a.toNat imm)) ((fetched_level d).trans_lt low) can
    rw [raises]
    refine ⟨raise_fetched (by decide) low can, ?_⟩
    rw [fetched_pc, co, fetched_wb]
  · intro d ⟨⟨ready, free⟩, low, guard, high, can⟩
    have raises := loadInstr_faults (rs := [a.toNat]) (ea := fun e => eaImm e a.toNat imm) (sgn := false) ready free (eaImm_fetched d a.toNat imm) (dataFault_unmapped guard high) (by decide)
    rw [raises]
    exact raise_fetched (by decide) low can
  · intro d ⟨ready, closed, low, can⟩
    rw [brkInstr_raises ready closed]
    exact raise_fetched (by decide) low can
  · intro d ⟨runs, awake, busi, quiet, odd, low, can⟩
    rw [fetch_misaligned ⟨runs, awake, busi, quiet⟩ odd]
    exact raise_takes (by decide) (.refl d) low can
  · intro d ⟨runs, awake, busi, quiet, aligned, outside, low, can⟩
    rw [fetch_outside ⟨runs, awake, busi, quiet⟩ aligned outside]
    exact raise_takes (by decide) (.refl d) low can
  · intro d ⟨runs, busi, source, free, bad⟩
    obtain ⟨⟨src, lv⟩, irq⟩ := Option.isSome_iff_exists.mp source
    rw [interruptEntry_takes runs busi irq free, enterHandler_noFrame bad]

end Sys2Proof.Proofs
end

section
/-! PROOFS. Interrupts: the source that is taken, the frame that RETI unstacks, and the round trip [07 R151-R155; 08 Table IS-12]. -/

namespace Sys2Proof.Proofs

open Sys2Proof.Machine Sys2Proof.Laws

/-! ### The source that is taken [07 R151] -/

/-- Source `k` does not come before source `s` of level `l`: its level is lower, or it has a higher number at the same one. -/
abbrev Outranked (d : Dev) (s l k : Nat) : Prop := irqPending d k = true → irqLevel d k ≤ l ∧ (irqLevel d k = l → s ≤ k)

/-- `o` is what the sources below number `n` make of the search above `lv`. -/
def BestSource (d : Dev) (lv n : Nat) (o : Option (Nat × Nat)) : Prop :=
  match o with
  | none => ∀ k, k < n → irqPending d k = true → irqLevel d k ≤ lv
  | some (s, l) => s < n ∧ irqPending d s = true ∧ irqLevel d s = l ∧ lv < l ∧ ∀ k, k < n → Outranked d s l k

/-- The level that a source has to exceed where the search has found `o`. -/
def levelOf (o : Option (Nat × Nat)) : Nat := match o with | some x => x.2 | none => 0

/-- The search's step at source `s`. -/
def irqStep (d : Dev) (lv : Nat) (o : Option (Nat × Nat)) (s : Nat) : Option (Nat × Nat) :=
  if decide (max lv (levelOf o) < irqLevel d s) && irqPending d s then some (s, irqLevel d s) else o

theorem irqAbove_eq (d : Dev) (lv : Nat) : irqAbove d lv = (List.range 64).foldl (irqStep d lv) none := rfl

theorem bestSource_step {d : Dev} {lv n : Nat} {o : Option (Nat × Nat)} (found : BestSource d lv n o) : BestSource d lv (n + 1) (irqStep d lv o n) := by
  by_cases better : max lv (levelOf o) < irqLevel d n ∧ irqPending d n = true
  · have takes : irqStep d lv o n = some (n, irqLevel d n) := if_pos (by simpa using better)
    obtain ⟨higher, pending⟩ := better
    rw [takes]
    refine ⟨Nat.lt_succ_self n, pending, rfl, by omega, fun k small source => ?_⟩
    rcases Nat.lt_succ_iff_lt_or_eq.mp small with before | rfl
    · have below : irqLevel d k < irqLevel d n := by
        cases o with
        | none => exact (found k before source).trans_lt (by omega)
        | some x =>
          obtain ⟨-, -, -, -, outranked⟩ := found
          exact (outranked k before source).1.trans_lt ((Nat.le_max_right lv x.2).trans_lt higher)
      omega
    · exact ⟨le_rfl, fun _ => le_rfl⟩
  · have keeps : irqStep d lv o n = o := if_neg (by simpa using better)
    have last (source : irqPending d n = true) : irqLevel d n ≤ max lv (levelOf o) := Nat.not_lt.mp fun higher => better ⟨higher, source⟩
    rw [keeps]
    cases o with
    | none =>
      intro k small source
      rcases Nat.lt_succ_iff_lt_or_eq.mp small with before | rfl
      · exact found k before source
      · exact (last source).trans (by simp [levelOf])
    | some x =>
      obtain ⟨old, pending, level, above, outranked⟩ := found
      refine ⟨Nat.lt_succ_of_lt old, pending, level, above, fun k small source => ?_⟩
      rcases Nat.lt_succ_iff_lt_or_eq.mp small with before | rfl
      · exact outranked k before source
      · exact ⟨(last source).trans (max_le above.le le_rfl), fun _ => old.le⟩

theorem bestSource_irqAbove (d : Dev) (lv : Nat) : BestSource d lv 64 (irqAbove d lv) := by
  have all (n : Nat) : BestSource d lv n ((List.range n).foldl (irqStep d lv) none) := by
    induction n with
    | zero => exact fun k small => absurd small (Nat.not_lt_zero k)
    | succ n ih =>
      rw [List.range_succ, List.foldl_append]
      exact bestSource_step ih
  rw [irqAbove_eq]
  exact all 64

/-- The source that is taken is pending above LEVEL with IE set, and comes before every other. -/
theorem irqNow_spec {d : Dev} {src lv : Nat} (irq : irqNow d = some (src, lv)) : d.co.ie = true ∧ src < 64 ∧ irqPending d src = true ∧
    irqLevel d src = lv ∧ d.co.level < lv ∧ ∀ k, k < 64 → Outranked d src lv k := by
  unfold irqNow at irq
  split at irq
  next ie =>
    have found := bestSource_irqAbove d d.co.level
    rw [irq] at found
    exact ⟨ie, found⟩
  · cases irq

/-! ### The frame is unstacked [07 R155, Table CO-6] -/

section

variable (f : Nat → Nat) (g : Nat → Word) (is : List Nat) (d : Dev)

/-- Register `f i` takes `g i`, for every `i` of a list in turn. -/
def setWs : Dev := is.foldl (fun e i => e.setW (f i) (g i)) d

theorem setWs_wr_other {k : Nat} (h : k ∉ is.map f) : (setWs f g is d).wr k = d.wr k := by
  induction is generalizing d with
  | nil => rfl
  | cons i is ih =>
    obtain ⟨first, rest⟩ := not_or.mp (mt List.mem_cons.mpr h)
    exact (ih (d.setW (f i) (g i)) rest).trans (by rw [wr_setW, if_neg fun same => first same.1])

theorem setWs_wr_mem {j : Nat} (apart : (is.map f).Nodup) (h : j ∈ is) (named : f j ≠ 0) : (setWs f g is d).wr (f j) = g j := by
  induction is generalizing d with
  | nil => cases h
  | cons i is ih =>
    obtain ⟨first, rest⟩ := List.nodup_cons.mp apart
    rcases List.mem_cons.mp h with rfl | later
    · exact (setWs_wr_other f g is (d.setW (f j) (g j)) first).trans (by rw [wr_setW, if_pos ⟨rfl, named⟩])
    · exact ih (d.setW (f i) (g i)) rest later

theorem setWs_mem : (setWs f g is d).mem = d.mem := by
  induction is generalizing d with
  | nil => rfl
  | cons i is ih => exact (ih (d.setW (f i) (g i))).trans (setW_mem ..)

end

/-- The register and the word of place `i` of a frame. -/
def framed (d : Dev) : Dev := setWs (fun i => frameRegs.getD i 0) (fun i => BitVec.ofNat 32 (frameWord d (4 * i))) (List.range 8) d

/-- The instruction at `pc` is due at level `lv`. -/
def resumed (pc lv : Nat) (d : Dev) : Dev := d.onCo fun k => { k with pc := pc, level := lv }

theorem resumed_wr (pc lv : Nat) (d : Dev) (r : Nat) : (resumed pc lv d).wr r = d.wr r := rfl

theorem resumed_mem (pc lv : Nat) (d : Dev) : (resumed pc lv d).mem = d.mem := rfl

theorem resumed_co (pc lv : Nat) (d : Dev) : (resumed pc lv d).co = { d.co with pc := pc, level := lv } := rfl

theorem setStat_wr (v : Word) (d : Dev) (r : Nat) : (setStat v d).wr r = d.wr r := rfl

theorem setStat_mem (v : Word) (d : Dev) : (setStat v d).mem = d.mem := rfl

theorem setStat_co (v : Word) (d : Dev) : (setStat v d).co =
    { d.co with n := v.getLsbD 31, z := v.getLsbD 30, c := v.getLsbD 29, v := v.getLsbD 28, ie := v.getLsbD 8 } := rfl

theorem unstack_eq (d : Dev) : unstack d = resumed (frameWord d 32) (frameWord d 36 % 16)
    (setStat (BitVec.ofNat 32 (frameWord d 36)) ((framed d).setW 14 (d.wr 14 + 40))) := rfl

/-- RETI has gone back: the frame's words stand in their registers, and memory is as it was. -/
def Returned (d t : Dev) : Prop :=
  (∀ i, i < 8 → t.wr (frameRegs.getD i 0) = BitVec.ofNat 32 (frameWord d (4 * i))) ∧ t.wr 14 = d.wr 14 + 40 ∧
    (∀ r, 8 ≤ r → r < 14 → t.wr r = d.wr r) ∧ t.co.pc = frameWord d 32 ∧ t.co.level = frameWord d 36 % 16 ∧ t.co.n = (frameWord d 36).testBit 31 ∧
    t.co.z = (frameWord d 36).testBit 30 ∧ t.co.c = (frameWord d 36).testBit 29 ∧ t.co.v = (frameWord d 36).testBit 28 ∧
    t.co.ie = (frameWord d 36).testBit 8 ∧ t.mem = d.mem

theorem unstack_wr (d : Dev) (r : Nat) : (unstack d).wr r = if r = 14 then d.wr 14 + 40 else (framed d).wr r := by
  rw [unstack_eq, resumed_wr, setStat_wr, wr_setW]
  simp

theorem frameRegs_named {i : Nat} (h : i < 8) : frameRegs.getD i 0 ≠ 0 ∧ frameRegs.getD i 0 ≠ 14 := by
  revert i; decide

theorem frameRegs_other {r : Nat} (low : 8 ≤ r) (high : r < 14) : r ∉ (List.range 8).map fun i => frameRegs.getD i 0 := by
  revert r; decide

theorem unstack_returns (d : Dev) : Returned d (unstack d) := by
  have bit {i : Nat} (h : i < 32) : (BitVec.ofNat 32 (frameWord d 36)).getLsbD i = (frameWord d 36).testBit i := by
    rw [BitVec.getLsbD_ofNat, decide_eq_true h, Bool.true_and]
  refine ⟨fun i h => ?_, ?_, fun r low high => ?_, ?_⟩
  · rw [unstack_wr, if_neg (frameRegs_named h).2]
    exact setWs_wr_mem (fun i => frameRegs.getD i 0) _ _ d (by decide) (List.mem_range.mpr h) (frameRegs_named h).1
  · rw [unstack_wr, if_pos rfl]
  · rw [unstack_wr, if_neg (Nat.ne_of_lt high)]
    exact setWs_wr_other _ _ _ d (frameRegs_other low high)
  · rw [unstack_eq, resumed_co, setStat_co, resumed_mem, setStat_mem, setW_mem, framed, setWs_mem]
    exact ⟨rfl, rfl, bit (by decide), bit (by decide), bit (by decide), bit (by decide), bit (by decide), rfl⟩

/-! ### RETI [07 R155, R158] -/

theorem store_mem_congr {d e : Dev} (same : e.mem = d.mem) (n a v : Nat) : (e.store n a v).mem = (d.store n a v).mem := by
  induction n generalizing d e a v with
  | zero => exact same
  | succ n ih => exact ih (by rw [Dev.setByte, Dev.setByte, same]) _ _

/-- What near loads see depends on the write buffer and memory. -/
theorem forwarded_mem_congr {d e : Dev} (wb : e.co.wb = d.co.wb) (mem : e.mem = d.mem) : (forwarded e).mem = (forwarded d).mem := by
  have steps (l : List Posted) {a b : Dev} (same : b.mem = a.mem) :
      (l.foldl (fun m p => if inRam p.addr then m.store p.width p.addr p.data else m) b).mem =
        (l.foldl (fun m p => if inRam p.addr then m.store p.width p.addr p.data else m) a).mem := by
    induction l generalizing a b with
    | nil => exact same
    | cons p l ih =>
      refine ih ?_
      beta_reduce
      split
      · exact store_mem_congr same _ _ _
      · exact same
  rw [forwarded, forwarded, wb]
  exact steps _ mem

theorem frameWord_congr {d e : Dev} (wb : e.co.wb = d.co.wb) (mem : e.mem = d.mem) (sp : e.wr 14 = d.wr 14) (o : Nat) :
    frameWord e o = frameWord d o := by rw [frameWord, sp, load_same (forwarded_mem_congr wb mem), frameWord]

theorem frameWord_fetched (d : Dev) (o : Nat) : frameWord (fetched d) o = frameWord d o :=
  frameWord_congr (fetched_wb d) (fetched_mem d) (fetched_wr d 14) o

theorem returned_fetched {d t : Dev} (h : Returned (fetched d) t) : Returned d t := by
  simpa only [Returned, frameWord_fetched, fetched_wr, fetched_mem] using h

/-- The source to which RETI chains: one eligible at the stacked level and IE. -/
def chained (d : Dev) : Option (Nat × Nat) := if (frameWord d 36).testBit 8 then irqAbove (fetched d) (frameWord d 36 % 16) else none

section

variable {d : Dev} (ready : CpuReady d) (free : FreeRegs [14] d) (raised : d.co.level ≠ 0) (frame : frameOk d .r (d.wr 14).toNat = true)
include ready free raised frame

theorem retiInstr_chained : retiInstr d = match chained d with
    | some (s, l) => startHandler (16 + s) l (fetched d)
    | none => if frameBusy d then d else unstack (fetched d) := by
  have same := sameForEntry_fetched d
  have sound : frameOk (fetched d) .r (d.wr 14).toNat = true := by rw [same.frameOk, frame]
  have level : (fetched d).co.level ≠ 0 := by rwa [fetched_level]
  have free' : [14].any (busyReg d) = false := free
  rw [retiInstr, instr_ready _ _ ready free', if_neg level, fetched_wr, sound, if_neg Bool.noConfusion]
  simp only [frameWord_fetched, fetched_frameBusy, bitAt]
  rfl

theorem retiInstr_chains {src lv v : Nat} (source : chained d = some (src, lv)) (vector : vectorOf (fetched d) (16 + src) = some v) :
    retiInstr d = handling v lv (fetched d) := by
  rw [retiInstr_chained ready free raised frame, source]
  exact startHandler_vector vector lv

theorem retiInstr_unstacks (none : chained d = none) (idle : frameBusy d = false) : retiInstr d = unstack (fetched d) := by
  rw [retiInstr_chained ready free raised frame, none, idle]
  rfl

end

theorem retiInstr_undef {d : Dev} (ready : CpuReady d) (free : FreeRegs [14] d) (zero : d.co.level = 0) : retiInstr d = undef (fetched d) := by
  have free' : [14].any (busyReg d) = false := free
  rw [retiInstr, instr_ready _ _ ready free', if_pos ((fetched_level d).trans zero)]

theorem exec_reti (s : State) : exec .reti s = onDev retiInstr s := rfl

theorem exec_interruptEntry (s : State) : exec .interruptEntry s = onDev interruptEntry s := rfl

theorem reti_does : Does .reti (fun d => Due [14] d ∧ d.co.level ≠ 0 ∧ frameOk d .r (d.wr 14).toNat = true ∧ frameBusy d = false ∧ chained d = none)
    Returned := by
  refine does_of_onDev exec_reti fun d ⟨⟨ready, free⟩, raised, frame, idle, quiet⟩ => ?_
  rw [retiInstr_unstacks ready free raised frame quiet idle]
  exact returned_fetched (unstack_returns _)

/-- A BUSI that has arrived goes before an interrupt. -/
theorem interruptEntry_busi {d : Dev} (waits : d.co.busi ≠ none) : Machine.interruptEntry d = d := by
  have some : d.co.busi.isSome = true := Option.isSome_iff_ne_none.mpr waits
  unfold Machine.interruptEntry
  split
  · split
    · rfl
    · exact if_pos (.inr some)
  · rfl

/-- Settles O55: entry is the frame and the handler; the search finds the best source; RETI unstacks, chains, or at level 0 is undefined. -/
theorem interruptEntry : Obligations.InterruptEntry := by
  unfold Obligations.InterruptEntry
  refine ⟨fun src lv => does_of_onDev exec_interruptEntry ?_, fun d src lv irq => ?_, reti_does, fun src lv v => does_of_onDev exec_reti ?_,
    does_of_onDev exec_reti ?_⟩
  · intro d ⟨runs, busi, irq, can⟩
    rw [interruptEntry_takes runs busi irq can.1]
    obtain ⟨w, v, co⟩ := enterHandler_co can lv
    exact ⟨enterHandler_entered (.refl d) can lv, enterHandler_regs can lv, by rw [co]⟩
  · exact irqNow_spec irq
  · intro d ⟨⟨ready, free⟩, raised, frame, ie, irq, vector⟩
    have source : chained d = some (src, lv) := by rw [chained, if_pos ie, irq]
    rw [retiInstr_chains ready free raised frame source vector]
    exact ⟨rfl, rfl, by rw [handling_co, fetched_co], by rw [handling_mem, fetched_mem]⟩
  · intro d ⟨⟨ready, free⟩, zero, can⟩
    rw [retiInstr_undef ready free zero]
    exact undef_fetched (by omega) can

/-! ### The round trip [07 R153, R155] -/

/-- The bits of STAT: flags, IE and LEVEL. -/
theorem statWord_bits {k : Cpu} (low : k.level < 16) : (statWord k).testBit 31 = k.n ∧ (statWord k).testBit 30 = k.z ∧ (statWord k).testBit 29 = k.c ∧
    (statWord k).testBit 28 = k.v ∧ (statWord k).testBit 8 = k.ie ∧ statWord k % 16 = k.level ∧ statWord k < 2 ^ 32 := by
  have value (b : Bool) : bit b < 2 ∧ (decide (bit b = 1)) = b := by cases b <;> decide
  have flag {b : Bool} {i : Nat} (h : statWord k / 2 ^ i % 2 = bit b) : (statWord k).testBit i = b := by
    rw [Nat.testBit_eq_decide_div_mod_eq, h, (value b).2]
  have n := (value k.n).1
  have z := (value k.z).1
  have c := (value k.c).1
  have v := (value k.v).1
  have ie := (value k.ie).1
  refine ⟨flag ?_, flag ?_, flag ?_, flag ?_, flag ?_, ?_, ?_⟩ <;> (rw [statWord]; omega)

/-- Where no store waits, a device that holds the frame of an entry reads its words. -/
theorem entered_frameWord {e pc lv : Nat} {d u x : Dev} (entered : Entered e pc lv d u) (co : x.co = u.co) (mem : x.mem = u.mem) (wb : u.co.wb = [])
    {i : Nat} (h : i < 10) : frameWord x (4 * i) = (frameWords d pc).getD i 0 % 2 ^ 32 := by
  obtain ⟨words, -, wr, -⟩ := entered
  have sp : x.wr 14 = d.wr 14 - 40 := by
    have same : x.wr 14 = u.wr 14 := by rw [Dev.wr, co, Dev.wr]
    rw [same, wr, if_pos rfl]
  have plain : forwarded x = x := by rw [forwarded, co, wb, List.foldl_nil]
  rw [frameWord, plain, sp, load_same mem, words i h]

/-- The general registers: w0, those of the frame, sp, and those that entry leaves. -/
theorem register_cases {r : Nat} (h : r < 16) : r = 0 ∨ (∃ i, i < 8 ∧ frameRegs.getD i 0 = r) ∨ r = 14 ∨ (8 ≤ r ∧ r < 14) := by
  revert r; decide

theorem frameWords_reg (d : Dev) (pc : Nat) {i : Nat} (h : i < 8) : (frameWords d pc).getD i 0 = (d.wr (frameRegs.getD i 0)).toNat := by
  interval_cases i <;> rfl

/-- What RETI restores of the frame of an entry. -/
theorem returned_entered {e pc lv : Nat} {d u x t : Dev} (entered : Entered e pc lv d u) (co : x.co = u.co) (mem : x.mem = u.mem) (wb : u.co.wb = [])
    (low : d.co.level < 16) (small : pc < 2 ^ 32) (back : Returned x t) :
    (∀ r, r < 16 → t.wr r = d.wr r) ∧ t.co.pc = pc ∧ t.co.level = d.co.level ∧ t.co.ie = d.co.ie ∧ t.co.n = d.co.n ∧ t.co.z = d.co.z ∧
      t.co.c = d.co.c ∧ t.co.v = d.co.v := by
  have word {i : Nat} (h : i < 10) := entered_frameWord entered co mem wb h
  obtain ⟨n, z, c, v, ie, level, fits⟩ := statWord_bits low
  have stat : frameWord x 36 = statWord d.co := (word (i := 9) (by decide)).trans (Nat.mod_eq_of_lt fits)
  have resume : frameWord x 32 = pc := (word (i := 8) (by decide)).trans (Nat.mod_eq_of_lt small)
  have wr (r : Nat) : x.wr r = if r = 14 then d.wr 14 - 40 else d.wr r := by
    obtain ⟨-, -, wr, -⟩ := entered
    have same : x.wr r = u.wr r := by rw [Dev.wr, co, Dev.wr]
    rw [same, wr]
  obtain ⟨frame, sp, others, pc', level', n', z', c', v', ie', -⟩ := back
  rw [stat] at level' n' z' c' v' ie'
  refine ⟨fun r h => ?_, pc'.trans resume, level'.trans level, ie'.trans ie, n'.trans n, z'.trans z, c'.trans c, v'.trans v⟩
  rcases register_cases h with rfl | ⟨i, first, rfl⟩ | rfl | ⟨low, high⟩
  · rfl
  · rw [frame i first, word (by omega), frameWords_reg d pc first, Nat.mod_eq_of_lt (BitVec.isLt _), BitVec.ofNat_toNat, BitVec.setWidth_eq]
  · rw [sp, wr, if_pos rfl, BitVec.sub_add_cancel]
  · rw [others r low high, wr, if_neg (Nat.ne_of_lt high)]

/-- Settles O56: the words that RETI takes are those that entry stored. -/
theorem entryThenReturn : Obligations.EntryThenReturn := by
  unfold Obligations.EntryThenReturn
  intro s u x v src lv runs irq can wb low small takes co mem ⟨ready, free⟩ idle frame quiet back
  obtain ⟨ie, -, -, -, above, -⟩ := irqNow_spec irq
  have busi : s.dev.co.busi = Option.none := by
    by_contra waits
    have here : u.dev = s.dev := (onDev_dev takes).trans (interruptEntry_busi waits)
    obtain ⟨-, -, none, -⟩ := ready
    exact waits (by rw [← here, ← co, none])
  have handler : u.dev = enterHandler s.dev.co.pc (16 + src) lv s.dev := by
    rw [onDev_dev takes, interruptEntry_takes runs busi irq can.1]
  have entered : Entered (16 + src) s.dev.co.pc lv s.dev u.dev := by rw [handler]; exact enterHandler_entered (.refl _) can lv
  have empty : u.dev.co.wb = [] := by
    obtain ⟨w, v, here⟩ := enterHandler_co can lv
    rw [handler, here, wb]
  have stat : frameWord x.dev 36 = statWord s.dev.co :=
    (entered_frameWord entered co mem empty (i := 9) (by decide)).trans (Nat.mod_eq_of_lt (statWord_bits low).2.2.2.2.2.2)
  have raised : x.dev.co.level ≠ 0 := by
    obtain ⟨-, -, -, level, -⟩ := entered
    rw [co, level]
    omega
  have none : chained x.dev = none := by
    obtain ⟨-, -, -, -, ie', level, -⟩ := statWord_bits low
    rw [chained, stat, ie', level, ie, if_pos rfl, quiet]
  have returned : Returned x.dev v.dev := by
    rw [onDev_dev back, retiInstr_unstacks ready free raised frame none idle]
    exact returned_fetched (unstack_returns _)
  exact returned_entered entered co mem empty low small returned

end Sys2Proof.Proofs
end

section
/-! PROOFS. The core's events: WAIT's end, reports of failed far accesses, XIP lines, the throttle and the cache [07 R139-R143, R150, R157, R158]. -/

namespace Sys2Proof.Proofs

open Sys2Proof.Machine Sys2Proof.Laws

/-! ### WAIT's end [07 R141] -/

theorem waitWake_no {d : Dev} (no : imageRuns d = false ∨ d.co.waiting = false ∨ irqAbove d d.co.level = none) : waitWake d = d := by
  refine if_neg fun ⟨runs, waits, source⟩ => ?_
  rcases no with halted | awake | quiet
  · exact Bool.false_ne_true (halted.symm.trans runs)
  · exact Bool.false_ne_true (awake.symm.trans waits)
  · rw [quiet] at source
    cases source

/-! ### BUSI [07 R153, R157, R158] -/

/-- A BUSI for address `a` has arrived. -/
def reported (a : Nat) (d : Dev) : Dev := d.onCo fun k => { k with busi := some a }

theorem reported_taken {d : Dev} (busi : d.co.busi = none) (a : Nat) : (reported a d).onCo (fun k => { k with busi := none }) = d := by
  have here : (reported a d).onCo (fun k => { k with busi := none }) = { d with co := { d.co with busi := none } } := rfl
  rw [here, ← busi]

theorem reported_frameBusy (a : Nat) (d : Dev) : frameBusy (reported a d) = frameBusy d := rfl

theorem busiEnter_takes {d : Dev} (busi : d.co.busi = none) (free : frameBusy d = false) (a : Nat) :
    busiEnter (reported a d) = raise 6 d.co.pc (some a) d := by
  have taken := reported_taken busi a
  have free' : frameBusy (reported a d) = false := free
  have some : (reported a d).co.busi = Option.some a := rfl
  unfold busiEnter
  rw [some]
  simp only [free', Bool.false_eq_true, if_false, taken]
  rfl

theorem busiEnter_waits {d : Dev} (busy : frameBusy d = true) (a : Nat) : busiEnter (reported a d) = reported a d := by
  have busy' : frameBusy (reported a d) = true := busy
  have some : (reported a d).co.busi = Option.some a := rfl
  unfold busiEnter
  rw [some]
  simp only [busy', if_true]

/-- The first failure is no longer to be reported. -/
def failTold (r : List (Nat × Option Nat)) (d : Dev) : Dev := d.onCo fun k => { k with fails := r }

theorem reported_failTold (a : Nat) (r : List (Nat × Option Nat)) (d : Dev) :
    reported a (failTold r d) = d.onCo fun k => { k with fails := r, busi := some a } := rfl

theorem busiReport_first {d : Dev} {a : Nat} {l : Option Nat} {r : List (Nat × Option Nat)} (runs : imageRuns d = true) (busi : d.co.busi = none)
    (fails : d.co.fails = (a, l) :: r) : busiReport d =
      if 8 ≤ (loadFailed l (reported a (failTold r d))).co.level then lockupReset (loadFailed l (reported a (failTold r d)))
      else busiEnter (loadFailed l (reported a (failTold r d))) := by
  unfold busiReport
  rw [if_pos ⟨runs, busi⟩, fails]
  rfl

theorem busiReport_none {d : Dev} (fails : d.co.fails = []) : busiReport d = d := by
  unfold busiReport
  rw [fails]
  split <;> rfl

/-- The failed load `l`, the only one outstanding, leaves 0 in its register. -/
def loadTold (l : FarLoad) (d : Dev) : Dev := (d.setW l.dst 0).onCo fun k => { k with loads := [], fails := [] }

theorem loadFailed_only {d : Dev} {l : FarLoad} (loads : d.co.loads = [l]) (a : Nat) :
    loadFailed (some l.id) (reported a (failTold [] d)) = reported a (loadTold l d) := by
  have found : (reported a (failTold [] d)).co.loads.find? (fun x => decide (x.id = l.id)) = some l := by
    show d.co.loads.find? _ = _
    rw [loads]
    simp
  have gone : (d.co.loads.filter fun x => decide (x.id ≠ l.id)) = [] := by
    rw [loads]
    simp
  have left : loadFailed (some l.id) (reported a (failTold [] d)) = pump 2 (((reported a (failTold [] d)).setW l.dst 0).onCo fun k =>
      { k with loads := k.loads.filter fun x => x.id ≠ l.id }) := by
    rw [loadFailed, found]
    rfl
  have same : (((reported a (failTold [] d)).setW l.dst 0).onCo fun k => { k with loads := k.loads.filter fun x => x.id ≠ l.id }) =
      reported a (loadTold l d) := by
    unfold loadTold Dev.setW
    split
    · exact congrArg (fun x => { d with co := { d.co with fails := [], busi := some a, loads := x } }) gone
    · exact congrArg (fun x => { d with co := { d.co with w := Tab.setD d.co.w l.dst 0 0, fails := [], busi := some a, loads := x } }) gone
  rw [left, same]
  exact pump_noLoads rfl 2

theorem loadTold_busi (l : FarLoad) (d : Dev) : (loadTold l d).co.busi = d.co.busi := by
  unfold loadTold Dev.setW
  split <;> rfl

theorem loadTold_pc (l : FarLoad) (d : Dev) : (loadTold l d).co.pc = d.co.pc := setW_pc ..

theorem loadTold_level (l : FarLoad) (d : Dev) : (loadTold l d).co.level = d.co.level := setW_level ..

/-- A failed store, or a failure whose load is gone: BUSI is taken, waits for the frame's registers, or at level 8 is a lockup reset. -/
theorem busiReport_takes {d : Dev} {a : Nat} {r : List (Nat × Option Nat)} (runs : imageRuns d = true) (busi : d.co.busi = none)
    (fails : d.co.fails = (a, none) :: r) (low : d.co.level < 8) (free : frameBusy d = false) :
    busiReport d = raise 6 d.co.pc (some a) (failTold r d) := by
  have level : (loadFailed none (reported a (failTold r d))).co.level = d.co.level := rfl
  rw [busiReport_first runs busi fails, level, if_neg (Nat.not_le.mpr low)]
  exact busiEnter_takes (d := failTold r d) busi free a

theorem busiReport_waits {d : Dev} {a : Nat} {r : List (Nat × Option Nat)} (runs : imageRuns d = true) (busi : d.co.busi = none)
    (fails : d.co.fails = (a, none) :: r) (low : d.co.level < 8) (busy : frameBusy d = true) : busiReport d = reported a (failTold r d) := by
  have level : (loadFailed none (reported a (failTold r d))).co.level = d.co.level := rfl
  rw [busiReport_first runs busi fails, level, if_neg (Nat.not_le.mpr low)]
  exact busiEnter_waits (d := failTold r d) busy a

theorem busiReport_double {d : Dev} {a : Nat} {r : List (Nat × Option Nat)} (runs : imageRuns d = true) (busi : d.co.busi = none)
    (fails : d.co.fails = (a, none) :: r) (high : 8 ≤ d.co.level) : busiReport d = lockupReset (reported a (failTold r d)) := by
  rw [busiReport_first runs busi fails]
  exact if_pos high

theorem busiReport_load {d : Dev} {a : Nat} {l : FarLoad} (runs : imageRuns d = true) (busi : d.co.busi = none)
    (fails : d.co.fails = [(a, some l.id)]) (loads : d.co.loads = [l]) (low : d.co.level < 8) (free : frameBusy (loadTold l d) = false) :
    busiReport d = raise 6 d.co.pc (some a) (loadTold l d) := by
  have level : (reported a (loadTold l d)).co.level = d.co.level := loadTold_level l d
  rw [busiReport_first runs busi fails, loadFailed_only loads, level, if_neg (Nat.not_le.mpr low),
    busiEnter_takes ((loadTold_busi l d).trans busi) free, loadTold_pc]

/-- An exception of the device with the failure told is one of the device. -/
theorem takes_failTold {d t : Dev} {e pc : Nat} {addr : Option Nat} {r : List (Nat × Option Nat)} (h : TakesException e pc addr (failTold r d) t) :
    TakesException e pc addr d t := h

theorem fetch_busi {d : Dev} (busi : d.co.busi ≠ none) (act : Dev → Dev) : fetch act d = d :=
  if_pos (.inr (.inr (.inl (Option.isSome_iff_ne_none.mpr busi))))

/-! ### XIP lines [07 R142] -/

theorem cacheInsert_rest (a : Nat) (bs : List Nat) (d : Dev) :
    (cacheInsert a bs d).co = { d.co with cache := (cacheInsert a bs d).co.cache, used := (cacheInsert a bs d).co.used } ∧
      (cacheInsert a bs d).regs = d.regs ∧ (cacheInsert a bs d).mem = d.mem ∧ (cacheInsert a bs d).sp = d.sp := by
  unfold cacheInsert
  split <;> exact ⟨rfl, rfl, rfl, rfl⟩

theorem nextFill_noLoads {d : Dev} (none : d.co.loads = []) : nextFill d = Option.none := by
  rw [nextFill, none]
  rfl

section

variable {d : Dev} {o : BusOp} {a : Nat} (bus : d.sp.bus = some o) (op : o.op = .fill a)
include bus op

theorem xipFillDone_fill (bs : List Nat) : xipFillDone bs d =
    if d.sp.fill ≠ some a then d
    else if 32 ≤ bs.length then (if o.stop ≤ d.ns then fillDone a bs d else d)
    else if o.stop ≤ d.ns + (32 - bs.length) * byteClocks d o.sel * o.period then lineServes a bs d else d := by
  unfold xipFillDone
  simp only [bus, op]

theorem xipFillDone_whole {bs : List Nat} (whole : bs.length = 32) (ended : o.stop ≤ d.ns) (fill : d.sp.fill = some a) :
    xipFillDone bs d = fillDone a bs d := by
  rw [xipFillDone_fill bus op, if_neg (not_not.mpr fill), if_pos whole.ge, if_pos ended]

theorem xipFillDone_part {bs : List Nat} (part : bs.length < 32) (fill : d.sp.fill = some a) : xipFillDone bs d =
    if o.stop ≤ d.ns + (32 - bs.length) * byteClocks d o.sel * o.period then lineServes a bs d else d := by
  rw [xipFillDone_fill bus op, if_neg (not_not.mpr fill), if_neg (Nat.not_le.mpr part)]

end

theorem xipFillDone_unwanted {d : Dev} (none : d.sp.fill = none) (bs : List Nat) : xipFillDone bs d = d := by
  unfold xipFillDone
  split
  · split
    · exact if_pos (by rw [none]; exact nofun)
    · rfl
  · rfl

theorem exec_xipLineFillDone {line : Bytes} (fits : line.length ≤ 32) (s : State) :
    exec (.xipLineFillDone line) s = onDev (xipFillDone (Bytes.nats line)) s := if_pos (decide_eq_true fits)

theorem lineServes_loads {d : Dev} (none : d.co.loads = []) (a : Nat) (bs : List Nat) : (lineServes a bs d).co.loads = [] := by
  simp [lineServes, none]

/-- A whole line stands in the line buffer, and another line is asked for where a load waits for one. -/
theorem fillDone_serves (a : Nat) (bs : List Nat) (d : Dev) : let t := fillDone a bs d
    t.co.line = some (a, bs) ∧ t.co.pc = d.co.pc ∧ t.co.w = d.co.w ∧ t.regs = d.regs ∧ t.mem = d.mem ∧ t.sp.bus = d.sp.bus ∧
      (d.co.loads = [] → t.sp.fill ≠ some a) := by
  obtain ⟨co, regs, mem, sp⟩ := cacheInsert_rest a bs d
  refine ⟨rfl, ?_, ?_, ?_, ?_, ?_, fun none => ?_⟩
  · exact (congrArg Cpu.pc co :)
  · exact (congrArg Cpu.w co :)
  · rw [← regs]
    rfl
  · rw [← mem]
    rfl
  · exact (congrArg Serial.bus sp :)
  · have loads : (cacheInsert a bs d).co.loads = [] := (congrArg Cpu.loads co).trans none
    have fill : (fillDone a bs d).sp.fill = nextFill (lineServes a bs (cacheInsert a bs d)) := rfl
    rw [fill, nextFill_noLoads (lineServes_loads loads a bs)]
    exact nofun

/-! ### The throttle [07 R139, R140] -/

theorem aimAt_target (d : Dev) {t : Nat} (small : t < 64) : (d.aimAt t).r F.CORE_VSTAT_TARGET = t := by
  unfold Dev.aimAt
  split
  · assumption
  · split
    · exact (r_w_same ..).trans (Nat.mod_eq_of_lt small)
    · rw [clr_r_other _ (by decide)]
      exact (r_w_same ..).trans (Nat.mod_eq_of_lt small)

theorem aimAt_settled (d : Dev) (t : Nat) : (d.aimAt t).r F.CORE_VSTAT_SETTLED =
    if d.r F.CORE_VSTAT_TARGET = t ∨ (nearCode t d.co.vcaAt = true ∧ nearCode t (d.r F.CORE_VSTAT_TARGET) = true) then d.r F.CORE_VSTAT_SETTLED
    else 0 := by
  by_cases still : d.r F.CORE_VSTAT_TARGET = t
  · rw [Dev.aimAt, if_pos still, if_pos (.inl still)]
  · by_cases close : nearCode t d.co.vcaAt = true ∧ nearCode t (d.r F.CORE_VSTAT_TARGET) = true
    · rw [Dev.aimAt, if_neg still, if_pos (Bool.and_eq_true_iff.mpr close), if_pos (.inr close), r_w_other _ _ (by decide)]
    · rw [Dev.aimAt, if_neg still, if_neg (mt Bool.and_eq_true_iff.mp close), if_neg (not_or.mpr ⟨still, close⟩), clr_r_same]

theorem aimAt_sameRegs (d : Dev) (t : Nat) : SameRegs [F.CORE_VSTAT_TARGET, F.CORE_VSTAT_SETTLED] d (d.aimAt t) := by
  have target := sameRegs_w d F.CORE_VSTAT_TARGET t
  unfold Dev.aimAt
  split
  · exact fun _ _ => rfl
  · split
    · exact sameRegs_congr target (by decide)
    · exact sameRegs_append target (sameRegs_w _ F.CORE_VSTAT_SETTLED 0)

theorem aimAt_frame (d : Dev) (t : Nat) : d.aimAt t = { d with regs := (d.aimAt t).regs } := by
  unfold Dev.aimAt
  split
  · rfl
  · split <;> rfl

/-- From `d` to `t` the target has been evaluated to `goal`: TARGET, DEMAND and SETTLED follow, and nothing else changes. -/
def Aims (goal : Nat) (d t : Dev) : Prop :=
  t.r F.CORE_VSTAT_TARGET = goal ∧ t.r F.CORE_VSTAT_DEMAND = bit (demandNow d) ∧
    t.r F.CORE_VSTAT_SETTLED = (if d.r F.CORE_VSTAT_TARGET = goal ∨ ((goal ≤ d.co.vcaAt + 2 ∧ d.co.vcaAt ≤ goal + 2) ∧
        (goal ≤ d.r F.CORE_VSTAT_TARGET + 2 ∧ d.r F.CORE_VSTAT_TARGET ≤ goal + 2)) then d.r F.CORE_VSTAT_SETTLED else 0) ∧
    SameRegs [F.CORE_VSTAT_TARGET, F.CORE_VSTAT_DEMAND, F.CORE_VSTAT_SETTLED] d t ∧ t = { d with regs := t.regs }

/-- Demand is shown. -/
def demandShown (d : Dev) : Dev := d.w F.CORE_VSTAT_DEMAND (bit (demandNow d))

theorem demandShown_r (d : Dev) {f : Fld} (h : f.key ≠ F.CORE_VSTAT_DEMAND.key) : (demandShown d).r f = d.r f := r_w_other d _ h

theorem aims_aimAt (d : Dev) {goal : Nat} (small : goal < 64) : Aims goal d ((demandShown d).aimAt goal) := by
  have target := demandShown_r d (f := F.CORE_VSTAT_TARGET) (by decide)
  have settled := demandShown_r d (f := F.CORE_VSTAT_SETTLED) (by decide)
  have same := aimAt_sameRegs (demandShown d) goal
  refine ⟨aimAt_target _ small, ?_, ?_, ?_, ?_⟩
  · rw [same _ (by decide), demandShown, r_w_same]
    cases demandNow d <;> rfl
  · have near (x y : Nat) : nearCode x y = true ↔ x ≤ y + 2 ∧ y ≤ x + 2 := decide_eq_true_iff
    simp only [aimAt_settled, target, settled, near]
    rfl
  · exact sameRegs_congr (sameRegs_append (sameRegs_w d F.CORE_VSTAT_DEMAND _) same) (by decide)
  · rw [aimAt_frame]
    rfl

/-- The range of the automatic throttle. -/
def inRange (x : Nat) (d : Dev) : Nat := min (max x (vMin d)) (vMax d)

theorem vMin_le_vMax (d : Dev) : vMin d ≤ vMax d := Nat.le_max_left ..

theorem vMax_lt (d : Dev) : vMax d < 64 := by
  unfold vMax vMin
  omega

theorem inRange_lt (x : Nat) (d : Dev) : inRange x d < 64 := (Nat.min_le_right ..).trans_lt (vMax_lt d)

theorem inRange_vMax (d : Dev) : inRange (vMax d) d = vMax d := by rw [inRange, Nat.max_eq_left (vMin_le_vMax d), Nat.min_self]

/-- What the target of R139 is before it is held in the range. -/
def freeTarget (tick : Bool) (d : Dev) : Nat :=
  if demandNow d then vMax d
  else if tick && d.co.waiting then max (vMin d) (d.r F.CORE_VSTAT_TARGET - (d.r F.CORE_VSET_DOWN + 1)) else d.r F.CORE_VSTAT_TARGET

theorem throttle_auto (tick : Bool) {d : Dev} (auto : d.r F.CORE_VSET_AUTO = 1) : throttle tick d = (demandShown d).aimAt (inRange (freeTarget tick d) d) := by
  have on : (demandShown d).b F.CORE_VSET_AUTO = true := b_of_ne (by rw [demandShown_r d (by decide), auto]; decide)
  have low : vMin (demandShown d) = vMin d := by rw [vMin, demandShown_r d (by decide), vMin]
  have high : vMax (demandShown d) = vMax d := by rw [vMax, low, demandShown_r d (by decide), vMax]
  have target := demandShown_r d (f := F.CORE_VSTAT_TARGET) (by decide)
  have down := demandShown_r d (f := F.CORE_VSET_DOWN) (by decide)
  have whole : throttle tick d = if (demandShown d).b F.CORE_VSET_AUTO = false then (demandShown d).aimAt (min ((demandShown d).r F.CORE_VSET_VSET) 55)
      else (demandShown d).aimAt (min (max (if demandNow d then vMax (demandShown d)
        else if tick && (demandShown d).co.waiting then
          max (vMin (demandShown d)) ((demandShown d).r F.CORE_VSTAT_TARGET - ((demandShown d).r F.CORE_VSET_DOWN + 1))
        else (demandShown d).r F.CORE_VSTAT_TARGET) (vMin (demandShown d))) (vMax (demandShown d))) := rfl
  rw [whole, on, if_neg Bool.noConfusion, low, high, target, down]
  rfl

theorem throttle_manual (tick : Bool) {d : Dev} (manual : d.r F.CORE_VSET_AUTO = 0) :
    throttle tick d = (demandShown d).aimAt (min (d.r F.CORE_VSET_VSET) 55) := by
  have off : (demandShown d).b F.CORE_VSET_AUTO = false := b_of_zero (by rw [demandShown_r d (by decide), manual])
  have code := demandShown_r d (f := F.CORE_VSET_VSET) (by decide)
  rw [← code]
  exact if_pos off

theorem throttle_aims_auto (tick : Bool) {d : Dev} (auto : d.r F.CORE_VSET_AUTO = 1) : Aims (inRange (freeTarget tick d) d) d (throttle tick d) :=
  throttle_auto tick auto ▸ aims_aimAt d (inRange_lt ..)

theorem throttle_aims_manual (tick : Bool) {d : Dev} (manual : d.r F.CORE_VSET_AUTO = 0) : Aims (min (d.r F.CORE_VSET_VSET) 55) d (throttle tick d) :=
  throttle_manual tick manual ▸ aims_aimAt d (by omega)

/-- Under demand the target is VMAX. -/
theorem throttle_demand (tick : Bool) {d : Dev} (auto : d.r F.CORE_VSET_AUTO = 1) (demand : demandNow d = true) : Aims (vMax d) d (throttle tick d) := by
  have goal : inRange (freeTarget tick d) d = vMax d := by rw [freeTarget, if_pos demand, inRange_vMax]
  exact goal ▸ throttle_aims_auto tick auto

/-- At a tick in WAIT it falls. -/
theorem throttle_falls {d : Dev} (auto : d.r F.CORE_VSET_AUTO = 1) (idle : demandNow d = false) (waits : d.co.waiting = true) :
    Aims (inRange (d.r F.CORE_VSTAT_TARGET - (d.r F.CORE_VSET_DOWN + 1)) d) d (throttle true d) := by
  have target : freeTarget true d = max (vMin d) (d.r F.CORE_VSTAT_TARGET - (d.r F.CORE_VSET_DOWN + 1)) := by simp [freeTarget, idle, waits]
  have goal : inRange (freeTarget true d) d = inRange (d.r F.CORE_VSTAT_TARGET - (d.r F.CORE_VSET_DOWN + 1)) d := by
    rw [target, inRange, inRange, Nat.max_comm (vMin d), Nat.max_assoc, Nat.max_self]
  exact goal ▸ throttle_aims_auto true auto

/-- Else it stays, held in the range. -/
theorem throttle_stays {tick : Bool} {d : Dev} (auto : d.r F.CORE_VSET_AUTO = 1) (idle : demandNow d = false) (still : (tick && d.co.waiting) = false) :
    Aims (inRange (d.r F.CORE_VSTAT_TARGET) d) d (throttle tick d) := by
  have goal : inRange (freeTarget tick d) d = inRange (d.r F.CORE_VSTAT_TARGET) d := by
    rw [freeTarget, idle, still, if_neg Bool.false_ne_true, if_neg Bool.false_ne_true]
  exact goal ▸ throttle_aims_auto tick auto

theorem throttleTick_acts {d : Dev} (auto : d.r F.CORE_VSET_AUTO = 1) (runs : aclkRuns d = true) : throttleTick d = throttle true d := by
  have on : d.b F.CORE_VSET_AUTO = true := b_of_ne (by rw [auto]; decide)
  exact if_pos (by rw [on, runs]; rfl)

theorem throttleTick_rests {d : Dev} (off : d.r F.CORE_VSET_AUTO = 0 ∨ aclkRuns d = false) : throttleTick d = d := by
  refine if_neg ?_
  rcases off with manual | stopped
  · rw [b_of_zero manual]
    exact Bool.false_ne_true
  · rw [stopped, Bool.and_false]
    exact Bool.false_ne_true

/-! ### CORE_VSET [07 R139, R140, R150] -/

/-- The settings of CORE_VSET. -/
def vsetFields : List Fld := [F.CORE_VSET_AUTO, F.CORE_VSET_VMAX, F.CORE_VSET_VMIN, F.CORE_VSET_DOWN, F.CORE_VSET_DQ, F.CORE_VSET_DI, F.CORE_VSET_DW,
  F.CORE_VSET_VSET]

/-- The device awake evaluates the target, and SYNC waits until VCA has settled at it. -/
def vsetEvaluated (d : Dev) : Dev := if d.asleep then d
  else { throttle false d with co := { (throttle false d).co with vwait := !(throttle false d).b F.CORE_VSTAT_SETTLED } }

/-- The settings are written. -/
@[irreducible] def vsetSettings (v : Nat) (d : Dev) : Dev := vsetFields.foldl (fun d f => d.w f (bitsAt v f.lo f.width)) d

theorem fldsAt_vset : fldsAt 0xE0000020 = vsetFields := by decide

/-- Every one of them is RW, so that the settings are a plain write. -/
theorem vsetSettings_plain (v : Nat) (d : Dev) : vsetSettings v d = plainWrite 0xE0000020 v d := by
  rw [vsetSettings, plainWrite, fldsAt_vset]
  rfl

theorem vsetSettings_r (v : Nat) (d : Dev) {f : Fld} (h : f ∈ vsetFields) : (vsetSettings v d).r f = bitsAt v f.lo f.width := by
  have apart : ((fldsAt 0xE0000020).map Fld.key).Nodup := by decide
  have rw' : ∀ f ∈ vsetFields, f.acc = .rw := by decide
  rw [vsetSettings_plain, plainWrite_r_mem v d apart (fldsAt_vset ▸ h), fieldAfter, rw' f h]

theorem vsetSettings_frame (v : Nat) (d : Dev) : vsetSettings v d = { d with regs := (vsetSettings v d).regs } := by
  rw [vsetSettings_plain]
  exact plainWrite_frame ..

theorem vsetWrite_eq (v : Nat) (d : Dev) : vsetWrite v d = vsetEvaluated (vsetSettings v d) := by
  unfold vsetWrite vsetEvaluated vsetSettings vsetFields
  rfl

theorem vsetSettings_asleep (v : Nat) (d : Dev) : (vsetSettings v d).asleep = d.asleep := by rw [vsetSettings_frame]; rfl

theorem vsetWrite_asleep {d : Dev} (asleep : d.asleep = true) (v : Nat) : vsetWrite v d = vsetSettings v d := by
  rw [vsetWrite_eq, vsetEvaluated, if_pos ((vsetSettings_asleep v d).trans asleep)]

theorem vsetWrite_awake {d : Dev} (awake : d.asleep = false) (v : Nat) : vsetWrite v d =
    { throttle false (vsetSettings v d) with co :=
      { (throttle false (vsetSettings v d)).co with vwait := !(throttle false (vsetSettings v d)).b F.CORE_VSTAT_SETTLED } } := by
  rw [vsetWrite_eq, vsetEvaluated, if_neg (by rw [vsetSettings_asleep, awake]; exact Bool.false_ne_true)]

/-- The evaluation of the target touches no setting and nothing but registers. -/
theorem throttle_keeps (tick : Bool) (d : Dev) : SameRegs [F.CORE_VSTAT_TARGET, F.CORE_VSTAT_DEMAND, F.CORE_VSTAT_SETTLED] d (throttle tick d) ∧
    throttle tick d = { d with regs := (throttle tick d).regs } := by
  have evaluated : throttle tick d = (demandShown d).aimAt (min ((demandShown d).r F.CORE_VSET_VSET) 55) ∨
      ∃ x, throttle tick d = (demandShown d).aimAt x := by
    unfold throttle
    simp only
    split
    · exact .inl rfl
    · exact .inr ⟨_, rfl⟩
  have keeps (x : Nat) : SameRegs [F.CORE_VSTAT_TARGET, F.CORE_VSTAT_DEMAND, F.CORE_VSTAT_SETTLED] d ((demandShown d).aimAt x) ∧
      (demandShown d).aimAt x = { d with regs := ((demandShown d).aimAt x).regs } := by
    refine ⟨sameRegs_congr (sameRegs_append (sameRegs_w d F.CORE_VSTAT_DEMAND _) (aimAt_sameRegs _ x)) (by decide), ?_⟩
    rw [aimAt_frame]
    rfl
  rcases evaluated with eq | ⟨x, eq⟩
  · rw [eq]
    exact keeps _
  · rw [eq]
    exact keeps x

theorem vsetWrite_settings (v : Nat) (d : Dev) : (∀ f ∈ vsetFields, (vsetWrite v d).r f = bitsAt v f.lo f.width) ∧
    vsetWrite v d = { d with regs := (vsetWrite v d).regs, co := { d.co with vwait := (vsetWrite v d).co.vwait } } := by
  have frame := vsetSettings_frame v d
  obtain ⟨same, only⟩ := throttle_keeps false (vsetSettings v d)
  have apart : ∀ f ∈ vsetFields, f.key ∉ [F.CORE_VSTAT_TARGET, F.CORE_VSTAT_DEMAND, F.CORE_VSTAT_SETTLED].map Fld.key := by decide
  rcases Bool.eq_false_or_eq_true d.asleep with asleep | awake
  · rw [vsetWrite_asleep asleep]
    have co : (vsetSettings v d).co = d.co := by rw [frame]
    exact ⟨fun f h => vsetSettings_r v d h, by rw [co]; exact frame⟩
  · rw [vsetWrite_awake awake]
    refine ⟨fun f h => (same f (apart f h)).trans (vsetSettings_r v d h), ?_⟩
    rw [only, frame]

/-- With AUTO clear the target is VSET at once, and SYNC waits where VCA has to settle. -/
theorem vsetWrite_manual {v : Word} (manual : v.getLsbD 31 = false) {d : Dev} (awake : d.asleep = false) :
    (vsetWrite v.toNat d).r F.CORE_VSTAT_TARGET = min (v.toNat % 64) 55 ∧
      ((vsetWrite v.toNat d).co.vwait = true ↔ (vsetWrite v.toNat d).r F.CORE_VSTAT_SETTLED = 0) := by
  have auto : (vsetSettings v.toNat d).r F.CORE_VSET_AUTO = 0 := by
    have bit : bitsAt v.toNat 31 1 = 0 := by
      have clear : v.toNat.testBit 31 = false := manual
      rw [Nat.testBit_eq_decide_div_mod_eq, decide_eq_false_iff_not] at clear
      rw [bitsAt, Nat.shiftRight_eq_div_pow]
      omega
    exact (vsetSettings_r _ d (by decide)).trans bit
  have code : (vsetSettings v.toNat d).r F.CORE_VSET_VSET = v.toNat % 64 := vsetSettings_r _ d (by decide)
  obtain ⟨target, -⟩ := throttle_aims_manual false auto
  rw [vsetWrite_awake awake]
  refine ⟨(target.trans (by rw [code])), ?_⟩
  show (!(throttle false (vsetSettings v.toNat d)).b F.CORE_VSTAT_SETTLED) = true ↔ (throttle false (vsetSettings v.toNat d)).r F.CORE_VSTAT_SETTLED = 0
  simp [Dev.b]

theorem vsetSettings_sameRegs (v : Nat) (d : Dev) : SameRegs (fldsAt 0xE0000020) d (vsetSettings v d) := by
  rw [vsetSettings_plain]
  exact plainWrite_sameRegs 0xE0000020 v d

theorem vcaSettled_eq (d : Dev) : vcaSettled d = (d.set F.CORE_VSTAT_SETTLED).onCo fun k =>
    { k with vwait := false, vcaAt := d.r F.CORE_VSTAT_TARGET } := by
  have target : (d.set F.CORE_VSTAT_SETTLED).r F.CORE_VSTAT_TARGET = d.r F.CORE_VSTAT_TARGET := set_r_other d (by decide)
  rw [← target]
  rfl

/-! ### The commands -/

theorem exec_busiReport (s : State) : exec .busiReport s = onDev busiReport s := rfl

theorem exec_waitWake (s : State) : exec .waitWake s = onDev waitWake s := rfl

theorem exec_throttleTick (s : State) : exec .throttleTick s = onDev throttleTick s := rfl

theorem exec_demandChange (s : State) : exec .demandChange s = onDev (throttle false) s := rfl

theorem exec_coreVsetWrite (v : Word) (s : State) : exec (.coreVsetWrite v) s = onDev (vsetWrite v.toNat) s := rfl

/-- Settles O21: each event by what it does in each of its cases. -/
theorem coreEvents : Obligations.CoreEvents := by
  unfold Obligations.CoreEvents
  refine ⟨runs_of_onDev exec_waitWake fun d ⟨runs, waits, source⟩ => waitWake_ends runs waits source,
    runs_of_onDev exec_waitWake fun d no => waitWake_no no,
    fun a r => ⟨does_of_onDev exec_busiReport ?_, runs_of_onDev exec_busiReport ?_, runs_of_onDev exec_busiReport ?_⟩,
    runs_of_onDev (fun _ => rfl) fun d busi => fetch_busi busi advancePc, fun a l => does_of_onDev exec_busiReport ?_,
    runs_of_onDev exec_busiReport fun d fails => busiReport_none fails,
    fun a o line whole op => ⟨does_of_onDev (exec_xipLineFillDone whole.le) ?_, runs_of_onDev (exec_xipLineFillDone whole.le) ?_⟩,
    fun a o part short op => ⟨does_of_onDev (exec_xipLineFillDone short.le) ?_, runs_of_onDev (exec_xipLineFillDone short.le) ?_⟩,
    ⟨does_of_onDev exec_throttleTick ?_, does_of_onDev exec_throttleTick ?_, does_of_onDev exec_throttleTick ?_,
      runs_of_onDev exec_throttleTick fun d off => throttleTick_rests off, does_of_onDev exec_demandChange ?_, does_of_onDev exec_demandChange ?_,
      does_of_onDev exec_demandChange ?_⟩,
    fun v manual => does_of_onDev (exec_coreVsetWrite v) ?_,
    fun v => ⟨does_of_onDev (exec_coreVsetWrite v) ?_, does_of_onDev (exec_coreVsetWrite v) ?_⟩,
    runs_of_onDev (fun _ => rfl) fun d _ => vcaSettled_eq d, runs_of_onDev (fun _ => rfl) fun d _ => rfl, runs_of_onDev (fun _ => rfl) fun d _ => rfl,
    runs_of_onDev (fun _ => rfl) fun d _ => rfl⟩
  · intro d ⟨runs, busi, fails, low, can⟩
    obtain ⟨w, v, co⟩ := raise_co (addr := some a) (x := failTold r d) low can
    rw [busiReport_takes runs busi fails low can.1]
    refine ⟨takes_failTold (raise_takes (by decide) (.refl _) low can), raise_imp (x := failTold r d) low can, ?_, ?_⟩
    · rw [co]
      rfl
    · rw [co]
      exact busi
  · intro d ⟨runs, busi, fails, low, busy⟩
    rw [busiReport_waits runs busi fails low busy, reported_failTold]
  · intro d ⟨runs, busi, fails, high⟩
    rw [busiReport_double runs busi fails high, reported_failTold]
  · intro d ⟨runs, busi, fails, loads, low, can⟩
    have level : (loadTold l d).co.level < 8 := (loadTold_level l d).trans_lt low
    obtain ⟨w, v, co⟩ := raise_co (addr := some a) level can
    have loads' : (raise 6 d.co.pc (some a) (loadTold l d)).co.loads = [] := by rw [co]; rfl
    have fails' : (raise 6 d.co.pc (some a) (loadTold l d)).co.fails = [] := by rw [co]; rfl
    rw [busiReport_load runs busi fails loads low can.1]
    have takes : TakesException 6 d.co.pc (some a) (loadTold l d) (raise 6 d.co.pc (some a) (loadTold l d)) :=
      raise_takes (by decide) (.refl _) level can
    exact ⟨takes, loads', fails'⟩
  · intro d ⟨bus, ended, fill⟩
    rw [xipFillDone_whole bus op ((nats_length line).trans whole) ended fill]
    exact fillDone_serves a _ d
  · exact fun d none => xipFillDone_unwanted none _
  · intro d ⟨bus, fill, come⟩
    rw [xipFillDone_part bus op ((nats_length part).trans_lt short) fill, nats_length, if_pos come]
    exact ⟨rfl, rfl, rfl, rfl, rfl, rfl, rfl⟩
  · intro d ⟨bus, fill, early⟩
    rw [xipFillDone_part bus op ((nats_length part).trans_lt short) fill, nats_length, if_neg (Nat.not_le.mpr early)]
  · intro d ⟨auto, runs, demand⟩
    rw [throttleTick_acts auto runs]
    exact throttle_demand true auto demand
  · intro d ⟨auto, runs, idle, waits⟩
    rw [throttleTick_acts auto runs]
    exact throttle_falls auto idle waits
  · intro d ⟨auto, runs, idle, awake⟩
    rw [throttleTick_acts auto runs]
    exact throttle_stays auto idle awake
  · exact fun d ⟨auto, demand⟩ => throttle_demand false auto demand
  · exact fun d ⟨auto, idle⟩ => throttle_stays (tick := false) auto idle rfl
  · exact fun d manual => throttle_aims_manual false manual
  · intro d awake
    obtain ⟨settings, frame⟩ := vsetWrite_settings v.toNat d
    obtain ⟨target, waits⟩ := vsetWrite_manual manual awake
    exact ⟨fldsAt_vset ▸ settings, target, waits, (congrArg Dev.co frame :), (congrArg Dev.mem frame :)⟩
  · intro d _
    obtain ⟨settings, frame⟩ := vsetWrite_settings v.toNat d
    exact ⟨fldsAt_vset ▸ settings, frame⟩
  · intro d asleep
    rw [vsetWrite_asleep asleep]
    exact ⟨vsetSettings_sameRegs v.toNat d, (congrArg Dev.co (vsetSettings_frame v.toNat d) :)⟩

end Sys2Proof.Proofs
end

section
/-! PROOFS. A service of CALLM that fails its statement: EVENT with the store of event lines full and no response open [07 R160; 11 R218]. -/

namespace Sys2Proof.Proofs

open Sys2Proof.Machine Sys2Proof.Laws

/-- Image code calls EVENT with the text `FAULT` in near RAM at 0x10003000, sixteen event lines held, and no response open: nothing keeps the held
lines from going out on the UART. -/
@[irreducible] def fullStoreIdle : Dev :=
  let d : Dev := { ck := { ladder := .run, boot := .up, xrun := true, host := true },
                   co := { w := [(1, 0x10003000)], image := true, pc := 0x10001000 },
                   st := { store := List.replicate 16 [65] } }
  (d.w F.SYS_BOOT_LSTATE 4).storeBytes 0x10003000 (ascii "FAULT" ++ [0])

theorem fullStoreIdle_notResponding : responding fullStoreIdle = false := by decide +kernel

theorem fullStoreIdle_due : Due [1, 2, 3, 4, 5, 6, 7, 15] fullStoreIdle ∧ fullStoreIdle.co.wb = [] := by decide +kernel

theorem fullStoreIdle_text : textAt fullStoreIdle 241 (fullStoreIdle.wr 1).toNat = some (ascii "FAULT") ∧
    eventNames.findIdx? (fun n => decide (ascii n = (ascii "FAULT").takeWhile fun c => !isSep c)) = some 3 ∧
    (eventForm (eventPath fullStoreIdle) (ascii "FAULT") fullStoreIdle).length ≤ 240 := by decide +kernel

theorem fullStoreIdle_full : eventOn fullStoreIdle 3 = true ∧ 16 ≤ fullStoreIdle.st.store.length := by decide +kernel

theorem callmEvent_dev {s u : State} (h : exec .callmEvent s = .next u) : u.dev = callm 7 svcEvent s.dev :=
  onDev_dev (g := callm 7 svcEvent) h

/-- EVENT counts the line that finds no place, and then sends the sixteen that were held. -/
theorem svcEvent_flushes_fullStoreIdle : (callm 7 svcEvent fullStoreIdle).st.store = [] := by decide +kernel

/-- Refutes O26: the clause for sixteen held lines does not ask that a response be open. At `fullStoreIdle` none is, so that EVENT, having
counted the line that is lost, sends the sixteen held lines: the monitor's state does not stay as it was. -/
theorem not_services : ¬ Obligations.Services := by
  unfold Obligations.Services
  intro h
  obtain ⟨-, -, -, -, -, -, -, -, -, -, -, -, event, -⟩ := h
  obtain ⟨-, full, -⟩ := event (ascii "FAULT") 3
  obtain ⟨u, run, -, -, -, same, -, -⟩ := full ⟨fullStoreIdle, []⟩ ⟨⟨fullStoreIdle_due, fullStoreIdle_text⟩, fullStoreIdle_full⟩
  have after : u.dev = callm 7 svcEvent fullStoreIdle := callmEvent_dev run
  have kept : u.dev.st.store = fullStoreIdle.st.store := by rw [same]
  have full16 := fullStoreIdle_full.2
  rw [← kept, after, svcEvent_flushes_fullStoreIdle] at full16
  exact absurd full16 (by decide)

end Sys2Proof.Proofs
end

section
/-! PROOFS. Every command is a function of the device alone, behind the check of its operands' form [08 R163; 07 R142; 17 R332]. -/

namespace Sys2Proof.Proofs

open Sys2Proof.Machine

/-- The meaning of every command is a function of the device, which runs where the operands have their form: true of each by its own meaning. -/
theorem exec_onDevIf (c : Instr) : ∃ f : Dev → Dev, ∀ s, exec c s = onDevIf c.wellFormed f s := by
  cases c <;> exact ⟨_, fun _ => rfl⟩

theorem exec_pending {c : Instr} {s t : State} (next : exec c s = .next t) : t.pending = s.pending := by
  obtain ⟨f, command⟩ := exec_onDevIf c
  rw [command, onDevIf] at next
  split at next
  · cases next
    rfl
  · cases next

/-- Settles O2: every command is a function of the device behind the check of its operands, so it leaves the queue alone. -/
theorem commandsLeaveTheQueue : Obligations.CommandsLeaveTheQueue := by
  unfold Obligations.CommandsLeaveTheQueue
  refine ⟨fun c s formed => ?_, fun c s ill => ?_, fun s t next => ?_⟩
  · obtain ⟨f, command⟩ := exec_onDevIf c
    exact ⟨{ s with dev := f s.dev }, by rw [command, formed]; rfl, rfl⟩
  · obtain ⟨f, command⟩ := exec_onDevIf c
    rw [command, ill]
    rfl
  · obtain ⟨d, queue⟩ := s
    cases queue with
    | nil =>
      cases next
      rfl
    | cons c rest => exact exec_pending next

end Sys2Proof.Proofs
end

section
/-! PROOFS. A word that decodes encodes what it decodes to: it is written by its own fields [08 R162, R163, R165, R168, R174, Tables IS-2 to IS-4]. -/

namespace Sys2Proof.Proofs

open Sys2Proof.Machine

/-! ### Fields -/

@[simp] theorem ofNat_wordField_toNat (w lo n : Nat) : (BitVec.ofNat n (wordField w lo n)).toNat = wordField w lo n := by simp [wordField]

@[simp] theorem regField_toNat (w lo : Nat) : (regField w lo).toNat = wordField w lo 4 := ofNat_wordField_toNat w lo 4

@[simp] theorem immField_toNat (w : Nat) : (immField w).toNat = wordField w 0 16 := ofNat_wordField_toNat w 0 16

@[simp] theorem fiveField_toNat (w lo : Nat) : (fiveField w lo).toNat = wordField w lo 5 := ofNat_wordField_toNat w lo 5

theorem zeroField_eq_some {f : Nat} {i j : Instr} : zeroField f i = some j ↔ f = 0 ∧ i = j := by simp [zeroField]

/-! ### Words by their own fields -/

section
variable {w : Nat}

theorem wordR_of_fields (op : wordField w 26 6 = 0) (mid : wordField w 6 4 = 0) (small : w < 2 ^ 32) :
    wordR (wordField w 0 6) (regField w 22).toNat (regField w 18).toNat (regField w 14).toNat (regField w 10).toNat = w := by
  simp only [regField_toNat, wordField, wordR] at *
  omega

theorem wordI_of_fields (mid : wordField w 16 2 = 0) (small : w < 2 ^ 32) :
    wordI (wordField w 26 6) (regField w 22).toNat (regField w 18).toNat (immField w).toNat = w := by
  simp only [regField_toNat, immField_toNat, wordField, wordI] at *
  omega

theorem wordF_of_fields (low : wordField w 0 8 = 0) (small : w < 2 ^ 32) :
    wordF (wordField w 26 6) (regField w 22).toNat (regField w 18).toNat (fiveField w 13).toNat (fiveField w 8).toNat = w := by
  simp only [regField_toNat, fiveField_toNat, wordField, wordF] at *
  omega

/-! ### What each format decodes -/

/-- The R format: only MULLU and MULLS, functions 0x21 and 0x22, have no field that must be 0 beside [9:6]. -/
theorem encodeWord_of_decodeR {i : Instr} (op : wordField w 26 6 = 0) (small : w < 2 ^ 32) (dec : decodeR w = some i) : encodeWord i = some w := by
  unfold decodeR at dec
  simp only at dec
  split at dec
  · cases dec
  next mid =>
    have fields := wordR_of_fields op (not_not.mp mid) small
    split at dec
    case h_22 fn | h_23 fn =>
      cases dec
      rw [fn] at fields
      exact congrArg some fields
    all_goals
      simp only [zeroField_eq_some, Nat.add_eq_zero_iff, reduceCtorEq] at dec
    all_goals
      next fn =>
      obtain ⟨zero, rfl⟩ := dec
      simp only [fn, zero] at fields
      exact congrArg some fields

/-- The I and F formats: the bit fields EXTU, EXTS and INS end by bit 31, SHI's immediate is below 128, and of the rest only fields are 0. -/
theorem encodeWord_of_decodeI {i : Instr} (small : w < 2 ^ 32) (dec : decodeI w = some i) : encodeWord i = some w := by
  unfold decodeI at dec
  simp only at dec
  split at dec
  all_goals
    simp only [zeroField_eq_some, Nat.add_eq_zero_iff, reduceCtorEq] at dec
  case h_10 op | h_11 op | h_12 op =>
    obtain ⟨⟨low, fits⟩, rfl⟩ := dec
    have inside : ¬ 32 < (fiveField w 13).toNat + (fiveField w 8).toNat + 1 := fun runs => absurd fits (by rw [if_pos runs]; exact one_ne_zero)
    have fields := wordF_of_fields low small
    rw [op] at fields
    exact (if_neg inside).trans (congrArg some fields)
  case h_7 op =>
    obtain ⟨⟨mid, few⟩, rfl⟩ := dec
    have fields := wordI_of_fields mid small
    rw [op] at fields
    exact (if_pos (by omega)).trans (congrArg some fields)
  all_goals
    next op =>
    obtain ⟨zero, rfl⟩ := dec
    have fields := wordI_of_fields (by simp only [zero]) small
    simp only [op, zero] at fields
    exact congrArg some fields

theorem encodeWord_of_decodeSys {i : Instr} (op : wordField w 26 6 = 0x30) (mid : wordField w 12 6 = 0) (small : w < 2 ^ 32)
    (dec : decodeSys w = some i) : encodeWord i = some w := by
  obtain ⟨high, low⟩ : wordField w 16 2 = 0 ∧ wordField w 0 16 = wordField w 0 12 := by
    simp only [wordField] at *
    omega
  have fields := wordI_of_fields high small
  rw [op, immField_toNat, low] at fields
  unfold decodeSys at dec
  simp only at dec
  split at dec
  all_goals
    simp only [zeroField_eq_some, Nat.add_eq_zero_iff, reduceCtorEq] at dec
  all_goals
    next k =>
    obtain ⟨zero, rfl⟩ := dec
    simp only [k, zero] at fields
    exact congrArg some fields

/-- In order of the major opcodes: B, CALL, SYS, MFC and MTC. -/
theorem encodeWord_of_decodeBJS {i : Instr} (small : w < 2 ^ 32) (dec : decodeBJS w = some i) : encodeWord i = some w := by
  unfold decodeBJS at dec
  simp only at dec
  split at dec
  case h_1 op =>
    split at dec
    · cases dec
    next defined =>
      cases dec
      refine (if_neg (by rwa [regField_toNat])).trans (congrArg some ?_)
      simp only [regField_toNat, BitVec.toNat_ofNat, wordField] at *
      omega
  case h_2 op =>
    cases dec
    refine congrArg some ?_
    simp only [BitVec.toNat_ofNat, wordField] at *
    omega
  case h_3 op =>
    split at dec
    next mid => exact encodeWord_of_decodeSys op mid small dec
    · cases dec
  case h_4 op | h_5 op =>
    obtain ⟨zero, rfl⟩ := zeroField_eq_some.mp dec
    refine congrArg some ?_
    simp only [regField_toNat, BitVec.toNat_ofNat, wordField, wordI] at *
    omega
  case h_6 => cases dec

theorem encodeWord_of_decodeWord {i : Instr} (small : w < 2 ^ 32) (dec : decodeWord w = some i) : encodeWord i = some w := by
  unfold decodeWord at dec
  split at dec
  next op => exact encodeWord_of_decodeR op small dec
  · split at dec
    · exact encodeWord_of_decodeI small dec
    · exact encodeWord_of_decodeBJS small dec

end

/-- Settles O59: in each format the fields that are no operand are fixed by the instruction, so the word is written by its operands. -/
theorem undefinedFields : Obligations.UndefinedFields := by
  unfold Obligations.UndefinedFields
  exact fun w i small dec => encodeWord_of_decodeWord small dec

end Sys2Proof.Proofs
end

section
/-! PROOFS. A word that is written for an instruction decodes to it: each format gives its fields back [08 R162, R163, Tables IS-2 to IS-4, IS-12]. -/

namespace Sys2Proof.Proofs

open Sys2Proof.Machine

/-! ### The fields of a word, by its format [08 Table IS-2] -/

/-- The fields of a word in the R format. -/
structure FieldsR (w fn : Nat) (d a b e : BitVec 4) : Prop where
  small : w < 2 ^ 32
  op : wordField w 26 6 = 0
  mid : wordField w 6 4 = 0
  fn : wordField w 0 6 = fn
  d : regField w 22 = d
  a : regField w 18 = a
  b : regField w 14 = b
  e : regField w 10 = e

/-- The fields of a word in the I format. -/
structure FieldsI (w op : Nat) (d a : BitVec 4) (imm : BitVec 16) : Prop where
  small : w < 2 ^ 32
  op : wordField w 26 6 = op
  mid : wordField w 16 2 = 0
  d : regField w 22 = d
  a : regField w 18 = a
  imm : immField w = imm

/-- The fields of a word in the F format. -/
structure FieldsF (w op : Nat) (d a : BitVec 4) (lsb wm : BitVec 5) : Prop where
  small : w < 2 ^ 32
  op : wordField w 26 6 = op
  low : wordField w 0 8 = 0
  d : regField w 22 = d
  a : regField w 18 = a
  lsb : fiveField w 13 = lsb
  wm : fiveField w 8 = wm

/-- The fields of a word in the S format. -/
structure FieldsS (w op : Nat) (d a : BitVec 4) (k : Nat) : Prop where
  small : w < 2 ^ 32
  op : wordField w 26 6 = op
  mid : wordField w 12 6 = 0
  d : regField w 22 = d
  a : regField w 18 = a
  k : wordField w 0 12 = k

theorem ofNat_wordField_eq {w lo n : Nat} {v : BitVec n} (h : wordField w lo n = v.toNat) : BitVec.ofNat n (wordField w lo n) = v := by
  simp [h]

theorem fieldsR_wordR {fn : Nat} (small : fn < 64) (d a b e : BitVec 4) : FieldsR (wordR fn d.toNat a.toNat b.toNat e.toNat) fn d a b e := by
  have reg (r : BitVec 4) : r.toNat < 16 := r.isLt
  have hd := reg d
  have ha := reg a
  have hb := reg b
  have he := reg e
  constructor
  case d | a | b | e => exact ofNat_wordField_eq (by simp only [wordField, wordR]; omega)
  all_goals
    simp only [wordField, wordR]
    omega

theorem fieldsI_wordI {op : Nat} (small : op < 64) (d a : BitVec 4) (imm : BitVec 16) : FieldsI (wordI op d.toNat a.toNat imm.toNat) op d a imm := by
  have hd : d.toNat < 16 := d.isLt
  have ha : a.toNat < 16 := a.isLt
  have himm : imm.toNat < 65536 := imm.isLt
  constructor
  case d | a | imm => exact ofNat_wordField_eq (by simp only [wordField, wordI]; omega)
  all_goals
    simp only [wordField, wordI]
    omega

theorem fieldsF_wordF {op : Nat} (small : op < 64) (d a : BitVec 4) (lsb wm : BitVec 5) :
    FieldsF (wordF op d.toNat a.toNat lsb.toNat wm.toNat) op d a lsb wm := by
  have hd : d.toNat < 16 := d.isLt
  have ha : a.toNat < 16 := a.isLt
  have hlsb : lsb.toNat < 32 := lsb.isLt
  have hwm : wm.toNat < 32 := wm.isLt
  constructor
  case d | a | lsb | wm => exact ofNat_wordField_eq (by simp only [wordField, wordF]; omega)
  all_goals
    simp only [wordField, wordF]
    omega

theorem fieldsS_wordI {op k : Nat} (small : op < 64) (short : k < 2 ^ 12) (d a : BitVec 4) : FieldsS (wordI op d.toNat a.toNat k) op d a k := by
  have hd : d.toNat < 16 := d.isLt
  have ha : a.toNat < 16 := a.isLt
  constructor
  case d | a => exact ofNat_wordField_eq (by simp only [wordField, wordI]; omega)
  all_goals
    simp only [wordField, wordI]
    omega

/-! ### Words that spell an instruction -/

/-- The word `w` is below 2^32 and decodes to the instruction `i`. -/
def Spells (w : Nat) (i : Instr) : Prop := w < 2 ^ 32 ∧ decodeWord w = some i

theorem decodeWord_of_I {w : Nat} (low : 0 < wordField w 26 6) (high : wordField w 26 6 < 0x20) : decodeWord w = decodeI w := by
  rw [decodeWord, if_neg (by omega), if_pos high]

theorem decodeWord_of_BJS {w : Nat} (op : 0x20 ≤ wordField w 26 6) : decodeWord w = decodeBJS w := by
  rw [decodeWord, if_neg (by omega), if_neg (by omega)]

theorem spells_wordR {fn : Nat} {d a b e : BitVec 4} {i : Instr} (small : fn < 64) (dec : ∀ w, FieldsR w fn d a b e → decodeR w = some i) :
    Spells (wordR fn d.toNat a.toNat b.toNat e.toNat) i := by
  have fields := fieldsR_wordR small d a b e
  exact ⟨fields.small, (if_pos fields.op).trans (dec _ fields)⟩

theorem spells_wordI {op : Nat} {d a : BitVec 4} {imm : BitVec 16} {i : Instr} (low : 0 < op) (high : op < 0x20)
    (dec : ∀ w, FieldsI w op d a imm → decodeI w = some i) : Spells (wordI op d.toNat a.toNat imm.toNat) i := by
  have fields := fieldsI_wordI (high.trans (by decide)) d a imm
  exact ⟨fields.small, (decodeWord_of_I (by rwa [fields.op]) (by rwa [fields.op])).trans (dec _ fields)⟩

theorem spells_wordF {op : Nat} {d a : BitVec 4} {lsb wm : BitVec 5} {i : Instr} (low : 0 < op) (high : op < 0x20)
    (dec : ∀ w, FieldsF w op d a lsb wm → decodeI w = some i) : Spells (wordF op d.toNat a.toNat lsb.toNat wm.toNat) i := by
  have fields := fieldsF_wordF (high.trans (by decide)) d a lsb wm
  exact ⟨fields.small, (decodeWord_of_I (by rwa [fields.op]) (by rwa [fields.op])).trans (dec _ fields)⟩

theorem spells_wordS {op k : Nat} {d a : BitVec 4} {i : Instr} (low : 0x20 ≤ op) (high : op < 64) (short : k < 2 ^ 12)
    (dec : ∀ w, FieldsS w op d a k → decodeBJS w = some i) : Spells (wordI op d.toNat a.toNat k) i := by
  have fields := fieldsS_wordI high short d a
  exact ⟨fields.small, (decodeWord_of_BJS (by rwa [fields.op])).trans (dec _ fields)⟩

theorem spells_sys {k : Nat} {d a : BitVec 4} {i : Instr} (short : k < 2 ^ 12) (dec : ∀ w, FieldsS w 0x30 d a k → decodeSys w = some i) :
    Spells (wordI 0x30 d.toNat a.toNat k) i :=
  spells_wordS (by decide) (by decide) short fun w h => by simp only [decodeBJS, h.op, h.mid, if_true, dec w h]

theorem spells_bCond {cond : BitVec 4} (defined : cond.toNat ≠ 15) (disp : BitVec 22) :
    Spells (0x20 * 2 ^ 26 + cond.toNat * 2 ^ 22 + disp.toNat) (.bCond cond disp) := by
  have hcond : cond.toNat < 16 := cond.isLt
  have hdisp : disp.toNat < 4194304 := disp.isLt
  generalize hw : 0x20 * 2 ^ 26 + cond.toNat * 2 ^ 22 + disp.toNat = w
  have op : wordField w 26 6 = 0x20 := by simp only [wordField]; omega
  have code : wordField w 22 4 = cond.toNat := by simp only [wordField]; omega
  have rest : wordField w 0 22 = disp.toNat := by simp only [wordField]; omega
  refine ⟨by omega, (decodeWord_of_BJS op.ge).trans ?_⟩
  simp only [decodeBJS, op, code, defined, if_false, rest, regField, BitVec.ofNat_toNat, BitVec.setWidth_eq]

theorem spells_call (disp : BitVec 26) : Spells (0x21 * 2 ^ 26 + disp.toNat) (.call disp) := by
  have hdisp : disp.toNat < 67108864 := disp.isLt
  generalize hw : 0x21 * 2 ^ 26 + disp.toNat = w
  have op : wordField w 26 6 = 0x21 := by simp only [wordField]; omega
  have rest : wordField w 0 26 = disp.toNat := by simp only [wordField]; omega
  refine ⟨by omega, (decodeWord_of_BJS (by omega)).trans ?_⟩
  simp only [decodeBJS, op, rest, BitVec.ofNat_toNat, BitVec.setWidth_eq]

/-- The instructions by format, and within it by the register fields that they do not use. -/
theorem spells_of_encodeWord {i : Instr} {w : Nat} (enc : encodeWord i = some w) : Spells w i := by
  cases i with
  | add | adds | adc | sub | subs | sbc | and | ands | or | xor | andn | shl | shr | sar | ror | mul | divu | divs | remu | rems | ldwx | stwx =>
    cases enc
    exact spells_wordR (e := 0) (by decide) fun w h => by simp only [decodeR, h.mid, h.fn, h.d, h.a, h.b, h.e]; rfl
  | popc | clz | revb | sexb | sexh =>
    cases enc
    exact spells_wordR (b := 0) (e := 0) (by decide) fun w h => by simp only [decodeR, h.mid, h.fn, h.d, h.a, h.b, h.e]; rfl
  | jr | callr =>
    cases enc
    exact spells_wordR (d := 0) (b := 0) (e := 0) (by decide) fun w h => by simp only [decodeR, h.mid, h.fn, h.d, h.a, h.b, h.e]; rfl
  | mullu | mulls =>
    cases enc
    exact spells_wordR (by decide) fun w h => by simp only [decodeR, h.mid, h.fn, h.d, h.a, h.b, h.e]; rfl
  | addi | addsi | subsi | andi | ori | xori | ldw | ldhu | ldhs | ldbu | ldbs | stw | sth | stb =>
    cases enc
    exact spells_wordI (by decide) (by decide) fun w h => by simp only [decodeI, h.op, h.mid, h.d, h.a, h.imm]; rfl
  | movl | movh =>
    cases enc
    exact spells_wordI (a := 0) (by decide) (by decide) fun w h => by simp only [decodeI, h.op, h.mid, h.d, h.a, h.imm]; rfl
  | shi d a imm =>
    obtain ⟨few, word⟩ := Option.ite_none_right_eq_some.mp enc
    cases word
    exact spells_wordI (by decide) (by decide) fun w h => by simp only [decodeI, h.op, h.mid, h.d, h.a, h.imm, Nat.div_eq_of_lt few]; rfl
  | extu d a lsb wm | exts d a lsb wm | ins d a lsb wm =>
    obtain ⟨inside, word⟩ := Option.ite_none_left_eq_some.mp enc
    cases word
    exact spells_wordF (by decide) (by decide) fun w h => by simp only [decodeI, h.op, h.low, h.d, h.a, h.lsb, h.wm, inside, if_false]; rfl
  | nop | sync | wait | reti | brk =>
    cases enc
    exact spells_sys (d := 0) (a := 0) (by decide) fun w h => by simp only [decodeSys, h.d, h.a, h.k]; rfl
  | mfstat =>
    cases enc
    exact spells_sys (a := 0) (by decide) fun w h => by simp only [decodeSys, h.d, h.a, h.k]; rfl
  | mtstat =>
    cases enc
    exact spells_sys (d := 0) (by decide) fun w h => by simp only [decodeSys, h.d, h.a, h.k]; rfl
  | mfc d k =>
    cases enc
    exact spells_wordS (a := 0) (by decide) (by decide) k.isLt fun w h => by
      simp only [decodeBJS, h.op, h.mid, h.d, h.a, h.k, BitVec.ofNat_toNat, BitVec.setWidth_eq]; rfl
  | mtc a k =>
    cases enc
    exact spells_wordS (d := 0) (by decide) (by decide) k.isLt fun w h => by
      simp only [decodeBJS, h.op, h.mid, h.d, h.a, h.k, BitVec.ofNat_toNat, BitVec.setWidth_eq]; rfl
  | bCond cond disp =>
    obtain ⟨defined, word⟩ := Option.ite_none_left_eq_some.mp enc
    cases word
    exact spells_bCond defined disp
  | call disp =>
    cases enc
    exact spells_call disp
  | _ => cases enc

/-- Settles O57: the word of each format gives back the fields it was written from, and the format's decoder reads the instruction off them. -/
theorem decodeOfEncode : Obligations.DecodeOfEncode := by
  unfold Obligations.DecodeOfEncode
  intro i w enc
  obtain ⟨small, dec⟩ := spells_of_encodeWord enc
  exact ⟨dec, small, by rw [definedWord, dec]; rfl⟩

/-- Settles O58: each word is the encoding of its instruction, and encodings decode. -/
theorem wordsOfTheSpec : Obligations.WordsOfTheSpec := by
  unfold Obligations.WordsOfTheSpec
  have spelt {i : Instr} {w : Nat} (enc : encodeWord i = some w) : decodeWord w = some i := (spells_of_encodeWord enc).2
  exact ⟨spelt rfl, spelt rfl, spelt rfl, spelt rfl, spelt rfl, spelt rfl, spelt rfl, spelt rfl, rfl, rfl, rfl⟩

end Sys2Proof.Proofs
end

section
/-! PROOFS. Arithmetic that sets no flag, shifts by an immediate, and the halves of MOVL and MOVH [08 R161, R166, R167, Tables IS-6, IS-7, IS-9]. -/

namespace Sys2Proof.Proofs

open Sys2Proof.Machine Sys2Proof.Laws

/-! ### The shapes with one result -/

theorem runs_aluRR {c : Instr} {t a b : BitVec 4} (op : Word → Word → Word)
    (command : ∀ s, exec c s = onDev (aluRR op t.toNat a.toNat b.toNat) s) :
    Runs c (Due [t, a, b]) (fun d => retire t (op (d.wr a.toNat) (d.wr b.toNat)) d) :=
  runs_of_onDev command fun _ ⟨ready, free⟩ => aluRR_ready op _ _ _ ready free

theorem runs_aluR {c : Instr} {t a : BitVec 4} (op : Word → Word) (command : ∀ s, exec c s = onDev (aluR op t.toNat a.toNat) s) :
    Runs c (Due [t, a]) (fun d => retire t (op (d.wr a.toNat)) d) :=
  runs_of_onDev command fun _ ⟨ready, free⟩ => aluR_ready op _ _ ready free

/-! ### Halves and shifts -/

/-- The mask of width `w` has ones below bit `w` [08 Table IS-8]. -/
theorem getLsbD_maskW (w : Nat) {i : Nat} (h : i < 32) : (maskW w).getLsbD i = decide (i < w) := by
  rw [maskW, BitVec.getLsbD_ofNat, Nat.testBit_two_pow_sub_one, decide_eq_true h, Bool.true_and]

/-- MOVH keeps the low half of its register [08 Table IS-7]. -/
theorem movh_value (imm : BitVec 16) (x : Word) : (zext imm <<< 16) ||| (x &&& 0xFFFF) = imm ++ x.extractLsb' 0 16 := by
  have mask : (0xFFFF : Word) = maskW 16 := rfl
  refine BitVec.eq_of_getLsbD_eq fun i h => ?_
  rw [mask, BitVec.getLsbD_or, BitVec.getLsbD_and, getLsbD_maskW 16 h, BitVec.getLsbD_append]
  by_cases low : i < 16
  · simp [low]
  · simp [low, zext, h]

/-- SHI's immediate: its upper two bits choose the shift, its lower five are the amount [08 Table IS-7]. -/
theorem shiftBy_eq {n : Nat} (low : n < 32) :
    (∀ x, shiftBy x n = x <<< n) ∧ (∀ x, shiftBy x (32 + n) = x >>> n) ∧ (∀ x, shiftBy x (64 + n) = x.sshiftRight n) ∧
      (∀ x, shiftBy x (96 + n) = x.rotateRight n) := by
  have kind (k : Nat) : (32 * k + n) / 32 = k := by omega
  have amount (k : Nat) : (32 * k + n) % 32 = n := by omega
  simp only [shiftBy, shl, shr, sar, ror, Nat.div_eq_of_lt low, kind 1, kind 2, kind 3, Nat.mod_eq_of_lt low, amount 1, amount 2, amount 3,
    Nat.zero_mod, implies_true, and_self]

theorem runs_shi {t a : BitVec 4} {imm : BitVec 16} (v : Word → Word) (few : imm.toNat < 128) (value : ∀ x, shiftBy x imm.toNat = v x) :
    Runs (.shi t a imm) (Due [t, a]) (fun d => retire t (v (d.wr a.toNat)) d) := by
  have command (s : State) : exec (.shi t a imm) s = onDev (aluR (fun x => shiftBy x imm.toNat) t.toNat a.toNat) s :=
    congrArg (onDev · s) (if_neg (Nat.not_le.mpr few))
  rw [funext value] at command
  exact runs_aluR v command

theorem runs_shi_kinds (t a : BitVec 4) (imm : BitVec 16) {n : Nat} (low : n < 32) :
    (imm.toNat = n → Runs (.shi t a imm) (Due [t, a]) (fun d => retire t (d.wr a.toNat <<< n) d)) ∧
    (imm.toNat = 32 + n → Runs (.shi t a imm) (Due [t, a]) (fun d => retire t (d.wr a.toNat >>> n) d)) ∧
    (imm.toNat = 64 + n → Runs (.shi t a imm) (Due [t, a]) (fun d => retire t ((d.wr a.toNat).sshiftRight n) d)) ∧
    (imm.toNat = 96 + n → Runs (.shi t a imm) (Due [t, a]) (fun d => retire t ((d.wr a.toNat).rotateRight n) d)) := by
  obtain ⟨left, right, signed, rotated⟩ := shiftBy_eq low
  exact ⟨fun h => runs_shi (· <<< n) (by omega) fun x => by rw [h, left], fun h => runs_shi (· >>> n) (by omega) fun x => by rw [h, right],
    fun h => runs_shi (·.sshiftRight n) (by omega) fun x => by rw [h, signed],
    fun h => runs_shi (·.rotateRight n) (by omega) fun x => by rw [h, rotated]⟩

theorem runs_movl (t : BitVec 4) (imm : BitVec 16) : Runs (.movl t imm) (Due [t]) (fun d => retire t (imm.setWidth 32) d) :=
  runs_of_onDev (fun _ => rfl) fun _ ⟨ready, free⟩ => result_ready [] t.toNat (fun _ => zext imm) noFlags ready free

theorem runs_movh (t : BitVec 4) (imm : BitVec 16) :
    Runs (.movh t imm) (Due [t]) (fun d => retire t (imm ++ (d.wr t.toNat).extractLsb' 0 16) d) := by
  refine runs_of_onDev (fun _ => rfl) fun d ⟨ready, free⟩ => ?_
  have writes := result_ready [] t.toNat (fun e => (zext imm <<< 16) ||| (e.wr t.toNat &&& 0xFFFF)) noFlags ready free
  rw [writes, noFlags, fetched_wr, movh_value, retire]

/-- Settles O41: each instruction is one of the two shapes with its own operation. -/
theorem arithmeticThatSetsNoFlag : Obligations.ArithmeticThatSetsNoFlag := by
  unfold Obligations.ArithmeticThatSetsNoFlag
  exact ⟨fun t a b => ⟨runs_aluRR (· + ·) fun _ => rfl, runs_aluRR (· - ·) fun _ => rfl, runs_aluRR (· &&& ·) fun _ => rfl,
      runs_aluRR (· ||| ·) fun _ => rfl, runs_aluRR (· ^^^ ·) fun _ => rfl, runs_aluRR (fun x y => x &&& ~~~y) fun _ => rfl,
      runs_aluRR (fun x y => shl x y.toNat) fun _ => rfl, runs_aluRR (fun x y => shr x y.toNat) fun _ => rfl,
      runs_aluRR (fun x y => sar x y.toNat) fun _ => rfl, runs_aluRR (fun x y => ror x y.toNat) fun _ => rfl, runs_aluRR (· * ·) fun _ => rfl⟩,
    fun t a imm => ⟨runs_aluR (· + sext imm) fun _ => rfl, runs_aluR (· &&& zext imm) fun _ => rfl, runs_aluR (· ||| zext imm) fun _ => rfl,
      runs_aluR (· ^^^ zext imm) fun _ => rfl, fun n low => runs_shi_kinds t a imm low, runs_movl t imm, runs_movh t imm⟩⟩

end Sys2Proof.Proofs
end

section
/-! PROOFS. The flags of additions and subtractions, ANDS, and a write of STAT [08 R164, Table IS-12]. -/

namespace Sys2Proof.Proofs

open Sys2Proof.Machine Sys2Proof.Laws

/-! ### The flags of an addition [08 R164] -/

theorem addSum_eq (x y : Word) (cin : Bool) : addSum x y cin = x + y + (if cin then 1 else 0) := by
  refine BitVec.eq_of_toNat_eq ?_
  cases cin <;> simp [addSum, addWith, bit, BitVec.toNat_add]

theorem bit_le (b : Bool) : bit b ≤ 1 := by cases b <;> decide

/-- The carry is the top bit of the 33-bit sum. -/
theorem carry_eq (x y : Word) (cin : Bool) :
    decide (2 ^ 32 ≤ addWith x y cin) = (x.setWidth 33 + y.setWidth 33 + (if cin then 1 else 0)).getLsbD 32 := by
  have wide : (x.setWidth 33 + y.setWidth 33 + (if cin then 1 else 0)).toNat = addWith x y cin := by
    have hx := x.isLt
    have hy := y.isLt
    have carry := bit_le cin
    have carryBits : (if cin then 1 else 0 : BitVec 33).toNat = bit cin := by cases cin <;> rfl
    rw [addWith, BitVec.toNat_add, BitVec.toNat_add, BitVec.toNat_setWidth, BitVec.toNat_setWidth, carryBits]
    omega
  have top (v : BitVec 33) : decide (2 ^ 32 ≤ v.toNat) = v.getLsbD 32 :=
    (BitVec.msb_eq_decide v).symm.trans (BitVec.msb_eq_getLsbD_last v)
  rw [← wide, top]

/-- Operands of one sign and a sum of the other are those whose signed sum does not fit. -/
theorem overflow_eq (x y : Word) (cin : Bool) :
    ((x.msb == y.msb) && ((addSum x y cin).msb != x.msb)) = decide ((addSum x y cin).toInt ≠ x.toInt + y.toInt + (if cin then 1 else 0)) := by
  have sum : (addSum x y cin).toNat = (x.toNat + y.toNat + bit cin) % 2 ^ 32 := by rw [addSum, BitVec.toNat_ofNat, addWith]
  have carry := bit_le cin
  have carryInt : (if cin then 1 else 0 : Int) = bit cin := by cases cin <;> rfl
  have hx := x.isLt
  have hy := y.isLt
  simp only [carryInt, BitVec.toInt_eq_toNat_cond, BitVec.msb_eq_decide, sum]
  grind

theorem addFlags_eq (x y : Word) (cin : Bool) (d : Dev) :
    addFlags x y cin d = d.onCo fun k =>
      { k with
        n := (addSum x y cin).getLsbD 31
        z := addSum x y cin == 0
        c := (x.setWidth 33 + y.setWidth 33 + (if cin then 1 else 0)).getLsbD 32
        v := decide ((addSum x y cin).toInt ≠ x.toInt + y.toInt + (if cin then 1 else 0)) } := by
  rw [← overflow_eq, ← carry_eq]
  rfl

/-- An addition whose second operand and carry in do not change with its delivery. -/
theorem runs_aluAdd {c : Instr} {t a : BitVec 4} {rs : List (BitVec 4)} (y : Dev → Word) (cin : Dev → Bool) (sameY : ∀ d, y (fetched d) = y d)
    (sameC : ∀ d, cin (fetched d) = cin d) (command : ∀ s, exec c s = onDev (aluAdd (rs.map BitVec.toNat) t.toNat a.toNat y cin) s) :
    Runs c (Due (t :: a :: rs)) (fun d => addRetire t (d.wr a.toNat) (y d) (cin d) d) := by
  refine runs_of_onDev command fun d ⟨ready, free⟩ => ?_
  rw [aluAdd_ready _ _ _ _ _ ready free, sameY, sameC, addFlags_eq, addSum_eq, addRetire]

/-! ### ANDS and MTSTAT -/

theorem runs_ands (t a b : BitVec 4) : Runs (.ands t a b) (Due [t, a, b]) (fun d =>
    let r := d.wr a.toNat &&& d.wr b.toNat
    advancePc (((fetched d).onCo fun k => { k with n := r.getLsbD 31, z := r == 0 }).setW t.toNat r)) := by
  refine runs_of_onDev (fun _ => rfl) fun d ⟨ready, free⟩ => ?_
  have writes := result_ready [a.toNat, b.toNat] t.toNat (fun e => e.wr a.toNat &&& e.wr b.toNat)
    (fun e k => andFlags (e.wr a.toNat &&& e.wr b.toNat) k) ready free
  rw [writes, fetched_wr, fetched_wr]
  rfl

theorem runs_mtstat (a : BitVec 4) : Runs (.mtstat a) (Due [a]) (fun d =>
    let v := d.wr a.toNat
    advancePc ((fetched d).onCo fun k =>
      { k with n := v.getLsbD 31, z := v.getLsbD 30, c := v.getLsbD 29, v := v.getLsbD 28, ie := v.getLsbD 8 })) := by
  refine runs_of_onDev (fun _ => rfl) fun d ⟨ready, free⟩ => ?_
  have sets := instr_ready [a.toNat] (fun e => advancePc (setStat (e.wr a.toNat) e)) ready free
  rw [sets, fetched_wr]
  rfl

/-- Settles O42: each sum is the one shape with its own second operand and carry in, and its flags are those of the 33-bit and the signed sum. -/
theorem additionFlags : Obligations.AdditionFlags := by
  unfold Obligations.AdditionFlags
  intro t a b imm
  exact ⟨runs_aluAdd (rs := [b]) (·.wr b.toNat) (fun _ => false) (fetched_wr · _) (fun _ => rfl) fun _ => rfl,
    runs_aluAdd (rs := [b]) (·.wr b.toNat) (·.co.c) (fetched_wr · _) fetched_c fun _ => rfl,
    runs_aluAdd (rs := [b]) (fun d => ~~~(d.wr b.toNat)) (fun _ => true) (fun d => by rw [fetched_wr]) (fun _ => rfl) fun _ => rfl,
    runs_aluAdd (rs := [b]) (fun d => ~~~(d.wr b.toNat)) (·.co.c) (fun d => by rw [fetched_wr]) fetched_c fun _ => rfl,
    runs_aluAdd (rs := []) (fun _ => sext imm) (fun _ => false) (fun _ => rfl) (fun _ => rfl) fun _ => rfl,
    runs_aluAdd (rs := []) (fun _ => ~~~(sext imm)) (fun _ => true) (fun _ => rfl) (fun _ => rfl) fun _ => rfl,
    runs_ands t a b, runs_mtstat a⟩

end Sys2Proof.Proofs
end

section
/-! PROOFS. Bit fields and bit counts, bit by bit [08 R168, Table IS-8]. -/

namespace Sys2Proof.Proofs

open Sys2Proof.Machine Sys2Proof.Laws

/-! ### Bit fields -/

theorem extu_bit (x : Word) (lsb wm : Nat) {i : Nat} (h : i < 32) :
    (extu x lsb (wm + 1)).getLsbD i = (decide (i ≤ wm) && x.getLsbD (lsb + i)) := by
  simp only [extu, BitVec.getLsbD_and, BitVec.getLsbD_ushiftRight, getLsbD_maskW _ h, Nat.lt_succ_iff, Bool.and_comm]

/-- A left shift and the arithmetic right shift by the same amount leave the low bits, with copies of the topmost of them above. -/
theorem sshiftRight_shiftLeft_bit (x : Word) {wm : Nat} (fits : wm < 32) {i : Nat} (h : i < 32) :
    ((x <<< (32 - (wm + 1))).sshiftRight (32 - (wm + 1))).getLsbD i = x.getLsbD (min i wm) := by
  have shifted (j : Nat) (hj : j ≤ wm) : (x <<< (32 - (wm + 1))).getLsbD (32 - (wm + 1) + j) = x.getLsbD j := by
    have inside : 32 - (wm + 1) + j < 32 := by omega
    have above : ¬ 32 - (wm + 1) + j < 32 - (wm + 1) := by omega
    simp only [BitVec.getLsbD_shiftLeft, inside, above, decide_true, decide_false, Bool.not_false, Bool.true_and, Nat.add_sub_cancel_left]
  have top : 32 - 1 = 32 - (wm + 1) + wm := by omega
  rw [BitVec.getLsbD_sshiftRight, BitVec.msb_eq_getLsbD_last, top, shifted wm le_rfl, decide_eq_false (Nat.not_le.mpr h), Bool.not_false, Bool.true_and]
  split
  next low => rw [shifted i (by omega), min_eq_left (by omega)]
  next high => rw [min_eq_right (by omega)]

theorem exts_bit (x : Word) {lsb wm : Nat} (fits : lsb + wm + 1 ≤ 32) {i : Nat} (h : i < 32) :
    (exts x lsb (wm + 1)).getLsbD i = x.getLsbD (lsb + min i wm) := by
  rw [exts, sshiftRight_shiftLeft_bit _ (by omega) h, extu_bit x lsb wm (by omega), decide_eq_true (min_le_right i wm), Bool.true_and]

theorem ins_bit (x y : Word) (lsb wm : Nat) {i : Nat} (h : i < 32) :
    (insW x y lsb (wm + 1)).getLsbD i = if lsb ≤ i ∧ i ≤ lsb + wm then y.getLsbD (i - lsb) else x.getLsbD i := by
  have field : (!decide (i < lsb) && decide (i - lsb < wm + 1)) = decide (lsb ≤ i ∧ i ≤ lsb + wm) := by
    rw [← decide_not, ← Bool.decide_and, decide_eq_decide]
    omega
  simp only [insW, BitVec.getLsbD_or, BitVec.getLsbD_and, BitVec.getLsbD_not, BitVec.getLsbD_shiftLeft, h, decide_true, Bool.true_and,
    getLsbD_maskW _ (Nat.lt_of_le_of_lt (Nat.sub_le i lsb) h), field]
  rw [Bool.and_comm (y.getLsbD _), ← Bool.and_assoc, field]
  split
  next within => simp only [within, and_self, decide_true, Bool.not_true, Bool.and_false, Bool.false_or, Bool.true_and]
  next outside => simp only [outside, decide_false, Bool.not_false, Bool.and_true, Bool.false_and, Bool.or_false]

/-! ### Counts, bytes and sign extension -/

theorem popc_card (x : Word) : (popc x).toNat = (Finset.univ.filter fun i : Fin 32 => x.getLsbD i = true).card := by
  have few : ((List.range 32).filter fun i => x.getLsbD i).length ≤ 32 := List.length_filter_le _ _
  calc (popc x).toNat = ((List.range 32).filter fun i => x.getLsbD i).length := by
        rw [popc, BitVec.toNat_ofNat, Nat.mod_eq_of_lt (by omega)]
    _ = ((Finset.range 32).filter fun i => x.getLsbD i = true).card := by simp [Finset.filter, Finset.range, Multiset.range]
    _ = _ := by rw [Finset.card_filter, Finset.card_filter, Fin.sum_univ_eq_sum_range fun i => if x.getLsbD i = true then 1 else 0]

theorem clz_zero : (clz 0).toNat = 32 := rfl

/-- The leading 1 stands at the base-2 logarithm. -/
theorem clz_leading {x : Word} (some : x ≠ 0) :
    (clz x).toNat < 32 ∧ x.getLsbD (31 - (clz x).toNat) = true ∧ ∀ i, 31 - (clz x).toNat < i → x.getLsbD i = false := by
  have pos : x.toNat ≠ 0 := by simpa [← BitVec.toNat_inj] using some
  have top : Nat.log2 x.toNat < 32 := (Nat.log2_lt pos).mpr x.isLt
  have count : (clz x).toNat = 31 - Nat.log2 x.toNat := by
    rw [clz, if_neg some, BitVec.toNat_ofNat]
    omega
  have place : 31 - (clz x).toNat = Nat.log2 x.toNat := by omega
  refine ⟨by omega, ?_, fun i above => ?_⟩
  · rw [place]
    exact Nat.testBit_of_two_pow_le_and_two_pow_add_one_gt (Nat.log2_self_le pos) Nat.lt_log2_self
  · rw [place] at above
    exact Nat.testBit_lt_two_pow (Nat.lt_of_lt_of_le Nat.lt_log2_self (Nat.pow_le_pow_right two_pos above))

theorem revb_bit (x : Word) {i : Nat} (h : i < 32) : (revb x).getLsbD i = x.getLsbD (8 * (3 - i / 8) + i % 8) := by
  simp only [revb, BitVec.getLsbD_append, BitVec.getLsbD_extractLsb']
  split_ifs
  all_goals
    rw [decide_eq_true (by omega), Bool.true_and]
    exact congrArg x.getLsbD (by omega)

theorem signExtend_low_bit (x : Word) {n : Nat} (pos : 0 < n) {i : Nat} (h : i < 32) :
    ((x.extractLsb' 0 n).signExtend 32).getLsbD i = x.getLsbD (min i (n - 1)) := by
  simp only [BitVec.getLsbD_signExtend, BitVec.getLsbD_extractLsb', BitVec.msb_eq_getLsbD_last, h, decide_true, Bool.true_and, Nat.zero_add]
  split
  next low => rw [decide_eq_true low, Bool.true_and, min_eq_left (by omega)]
  next high => rw [decide_eq_true (by omega), Bool.true_and, min_eq_right (by omega)]

/-! ### The instructions, where the field ends by bit 31 [08 R168] -/

section
variable {t a : BitVec 4} {lsb wm : BitVec 5} (fits : lsb.toNat + wm.toNat + 1 ≤ 32)
include fits

theorem runs_extu : Runs (.extu t a lsb wm) (Due [t, a]) (fun d => retire t (extu (d.wr a.toNat) lsb.toNat (wm.toNat + 1)) d) :=
  runs_aluR (fun x => extu x lsb.toNat (wm.toNat + 1)) fun s => congrArg (onDev · s) (if_neg (Nat.not_lt.mpr fits))

theorem runs_exts : Runs (.exts t a lsb wm) (Due [t, a]) (fun d => retire t (exts (d.wr a.toNat) lsb.toNat (wm.toNat + 1)) d) :=
  runs_aluR (fun x => exts x lsb.toNat (wm.toNat + 1)) fun s => congrArg (onDev · s) (if_neg (Nat.not_lt.mpr fits))

theorem runs_ins : Runs (.ins t a lsb wm) (Due [t, a])
    (fun d => retire t (insW (d.wr t.toNat) (d.wr a.toNat) lsb.toNat (wm.toNat + 1)) d) := by
  refine runs_of_onDev (fun s => congrArg (onDev · s) (if_neg (Nat.not_lt.mpr fits))) fun d ⟨ready, free⟩ => aluRR_ready _ _ _ _ ready ?_
  rw [List.any_cons, Bool.or_eq_false_iff]
  exact ⟨(Bool.or_eq_false_iff.mp free).1, free⟩

end

/-- Settles O43: each instruction is its shape with the model's own function, whose bits the lemmas above give. -/
theorem bitFieldsAndCounts : Obligations.BitFieldsAndCounts := by
  unfold Obligations.BitFieldsAndCounts
  exact ⟨fun t a lsb wm fits => ⟨⟨(extu · lsb.toNat (wm.toNat + 1)), runs_extu fits, fun x i h => extu_bit x _ _ h⟩,
      ⟨(exts · lsb.toNat (wm.toNat + 1)), runs_exts fits, fun x i h => exts_bit x fits h⟩,
      ⟨(insW · · lsb.toNat (wm.toNat + 1)), runs_ins fits, fun x y i h => ins_bit x y _ _ h⟩⟩,
    fun t a => ⟨⟨popc, runs_aluR popc fun _ => rfl, popc_card⟩,
      ⟨clz, runs_aluR clz fun _ => rfl, fun x => ⟨fun zero => by rw [zero, clz_zero], clz_leading⟩⟩,
      ⟨revb, runs_aluR revb fun _ => rfl, fun x i h => revb_bit x h⟩,
      ⟨sexb, runs_aluR sexb fun _ => rfl, fun x i h => signExtend_low_bit x (by decide) h⟩,
      ⟨sexh, runs_aluR sexh fun _ => rfl, fun x i h => signExtend_low_bit x (by decide) h⟩⟩⟩

end Sys2Proof.Proofs
end

section
/-! PROOFS. The double-word products, and quotients with their remainders [08 R169]. -/

namespace Sys2Proof.Proofs

open Sys2Proof.Machine Sys2Proof.Laws

/-! ### Long products [08 R169] -/

/-- The low word of a 64-bit product. -/
def lowWord (p : Nat) : Word := BitVec.ofNat 32 p

/-- The high word of a 64-bit product. -/
def highWord (p : Nat) : Word := BitVec.ofNat 32 (p / 2 ^ 32)

theorem runs_mulLong {c : Instr} {t u a b : BitVec 4} (op : Word → Word → Nat)
    (command : ∀ s, exec c s = onDev (mulLong op t.toNat u.toNat a.toNat b.toNat) s) :
    Runs c (Due [t, u, a, b]) (fun d => advancePc (((fetched d).setW t.toNat (lowWord (op (d.wr a.toNat) (d.wr b.toNat)))).setW u.toNat
      (highWord (op (d.wr a.toNat) (d.wr b.toNat))))) := by
  refine runs_of_onDev command fun d ⟨ready, free⟩ => ?_
  have acts := instr_ready [t.toNat, u.toNat, a.toNat, b.toNat] (fun e =>
    advancePc ((e.setW t.toNat (lowWord (op (e.wr a.toNat) (e.wr b.toNat)))).setW u.toNat (highWord (op (e.wr a.toNat) (e.wr b.toNat))))) ready free
  rw [fetched_wr, fetched_wr] at acts
  exact acts

theorem mulU_lt (x y : Word) : mulU x y < 2 ^ 64 := by
  have square : (2 : Nat) ^ 64 = 2 ^ 32 * 2 ^ 32 := by norm_num
  rw [square]
  exact Nat.mul_lt_mul'' x.isLt y.isLt

theorem words_toNat {p : Nat} (h : p < 2 ^ 64) : (lowWord p).toNat + 2 ^ 32 * (highWord p).toNat = p := by
  simp only [lowWord, highWord, BitVec.toNat_ofNat]
  omega

/-- Where the high word is signed, the two are the product of 64 bits, signed. -/
theorem words_toInt (p : Nat) : ((lowWord p).toNat : Int) + 2 ^ 32 * (highWord p).toInt = (p : Int).bmod (2 ^ 64) := by
  simp only [lowWord, highWord, BitVec.toNat_ofNat, BitVec.toInt_eq_toNat_cond, Int.bmod]
  omega

theorem mulS_bmod (x y : Word) : (mulS x y : Int).bmod (2 ^ 64) = x.toInt * y.toInt := by
  have high : x.toInt * y.toInt ≤ 2 ^ 62 := BitVec.toInt_mul_toInt_le
  have low : -2 ^ 62 ≤ x.toInt * y.toInt := BitVec.le_toInt_mul_toInt
  have wrapped : (mulS x y : Int) = x.toInt * y.toInt % 2 ^ 64 := Int.toNat_of_nonneg (Int.emod_nonneg _ (by norm_num))
  rw [wrapped]
  exact (Int.emod_bmod _ (2 ^ 64)).trans (Int.bmod_eq_of_le_mul_two (by push_cast; omega) (by push_cast; omega))

/-! ### Quotients and remainders [08 R169] -/

theorem divU_remU {x y : Word} (some : y ≠ 0) : x.toNat = (divU x y).toNat * y.toNat + (remU x y).toNat ∧ (remU x y).toNat < y.toNat := by
  have pos : 0 < y.toNat := Nat.pos_of_ne_zero (by simpa [← BitVec.toNat_inj] using some)
  have hx := x.isLt
  have quot : (divU x y).toNat = x.toNat / y.toNat := by
    rw [divU, if_neg some, BitVec.toNat_ofNat, Nat.mod_eq_of_lt (Nat.lt_of_le_of_lt (Nat.div_le_self ..) hx)]
  have rest : (remU x y).toNat = x.toNat % y.toNat := by
    rw [remU, if_neg some, BitVec.toNat_ofNat, Nat.mod_eq_of_lt (Nat.lt_of_le_of_lt (Nat.mod_le ..) hx)]
  rw [quot, rest]
  exact ⟨(Nat.div_add_mod' ..).symm, Nat.mod_lt _ pos⟩

theorem divS_toInt {x y : Word} (some : y ≠ 0) (fits : ¬(x = 0x80000000 ∧ y = 0xFFFFFFFF)) : (divS x y).toInt = x.toInt.tdiv y.toInt := by
  rw [divS, if_neg some, BitVec.toInt_ofInt, ← BitVec.toInt_sdiv]
  exact BitVec.toInt_sdiv_of_ne_or_ne x y (not_and_or.mp fits)

theorem remS_toInt {x y : Word} (some : y ≠ 0) : (remS x y).toInt = x.toInt.tmod y.toInt := by
  rw [remS, if_neg some, ← BitVec.toInt_srem, BitVec.ofInt_toInt]

theorem divS_remS {x y : Word} (some : y ≠ 0) (fits : ¬(x = 0x80000000 ∧ y = 0xFFFFFFFF)) :
    x.toInt = (divS x y).toInt * y.toInt + (remS x y).toInt ∧ (remS x y).toInt.natAbs < y.toInt.natAbs ∧
      ((remS x y).toInt = 0 ∨ (remS x y).toInt.sign = x.toInt.sign) := by
  have pos : 0 < y.toInt.natAbs := Int.natAbs_pos.mpr fun zero => some (BitVec.eq_of_toInt_eq zero)
  rw [divS_toInt some fits, remS_toInt some, Int.natAbs_tmod, Int.sign_tmod]
  refine ⟨(Int.tdiv_mul_add_tmod ..).symm, Nat.mod_lt _ pos, ?_⟩
  split
  next divides => exact .inl (Int.tmod_eq_zero_of_dvd divides)
  next => exact .inr rfl

/-- Settles O44: the two words are those of the 64-bit product, and quotient and remainder are those of the integers wherever they fit. -/
theorem longProductAndDivision : Obligations.LongProductAndDivision := by
  unfold Obligations.LongProductAndDivision
  refine ⟨fun t u a b => ⟨
      ⟨fun x y => lowWord (mulU x y), fun x y => highWord (mulU x y), runs_mulLong mulU fun _ => rfl, fun x y => words_toNat (mulU_lt x y)⟩,
      ⟨fun x y => lowWord (mulS x y), fun x y => highWord (mulS x y), runs_mulLong mulS fun _ => rfl,
        fun x y => (words_toInt _).trans (mulS_bmod x y)⟩⟩,
    fun t a b => ⟨divU, remU, divS, remS, runs_aluRR divU fun _ => rfl, runs_aluRR remU fun _ => rfl, runs_aluRR divS fun _ => rfl,
      runs_aluRR remS fun _ => rfl, fun x y => ⟨?_, divU_remU, ?_, divS_remS⟩⟩⟩
  · intro zero
    exact ⟨if_pos zero, if_pos zero, if_pos zero, if_pos zero⟩
  · rintro ⟨rfl, rfl⟩
    decide

end Sys2Proof.Proofs
end

section
/-! PROOFS. Branches, calls and jumps [08 R165, R173; 07 R157]. -/

namespace Sys2Proof.Proofs

open Sys2Proof.Machine Sys2Proof.Laws

/-! ### Branches [08 R165] -/

/-- B goes to its target where its condition holds, and to the next instruction otherwise. -/
theorem runs_branch {cond : BitVec 4} (defined : cond.toNat ≠ 15) (disp : BitVec 22) : Runs (.bCond cond disp) CpuReady (fun d =>
    goTo (if condTrue cond.toNat d.co then (BitVec.ofNat 32 d.co.pc + 4 * disp.signExtend 32).toNat else (d.co.pc + 4) % 2 ^ 32) (fetched d)) := by
  refine runs_of_onDev (fun _ => rfl) fun d ready => ?_
  rw [branch_ready _ _ ready defined]
  split
  · rfl
  · rw [advancePc, fetched_pc]

theorem branch_undefined {c : Nat} {disp : BitVec 22} {d : Dev} (ready : CpuReady d) (none : c = 15) : branch c disp d = undef (fetched d) := by
  rw [branch, fetch_ready _ ready, if_pos none]

/-- Settles O51: the codes 0 to 14 branch on their condition, of which the fifteen clauses are the values; code 15 raises. -/
theorem branches : Obligations.Branches := by
  unfold Obligations.Branches
  intro disp
  have tests (cond : BitVec 4) (defined : cond.toNat ≠ 15) := runs_branch defined disp
  refine ⟨tests 0 (by decide), tests 1 (by decide), tests 2 (by decide), tests 3 (by decide), tests 4 (by decide), tests 5 (by decide),
    tests 6 (by decide), tests 7 (by decide), tests 8 (by decide), tests 9 (by decide), tests 10 (by decide), tests 11 (by decide),
    tests 12 (by decide), tests 13 (by decide), tests 14 (by decide),
    does_of_onDev (fun _ => rfl) fun d ⟨ready, low, can⟩ => ?_⟩
  rw [branch_undefined ready (by decide)]
  exact undef_fetched low can

/-! ### Calls and jumps [08 R173] -/

theorem runs_call (disp : BitVec 26) : Runs (.call disp) (Due [15])
    (fun d => goTo (BitVec.ofNat 32 d.co.pc + 4 * disp.signExtend 32).toNat ((fetched d).setW 15 (BitVec.ofNat 32 (d.co.pc + 4)))) := by
  refine runs_of_onDev (fun _ => rfl) fun d ⟨ready, free⟩ => ?_
  rw [callTo, instr_ready [15] _ ready free, fetched_pc, branchTo]

theorem jumpReg_ready {link : Bool} {a : Nat} {d : Dev} (ready : CpuReady d) (free : (if link then [a, 15] else [a]).any (busyReg d) = false) :
    jumpReg link a d = if (d.wr a).toNat % 4 ≠ 0 then raise 2 (fetched d).co.pc (some (d.wr a).toNat) (fetched d)
      else goTo (d.wr a).toNat (if link then (fetched d).setW 15 (BitVec.ofNat 32 (d.co.pc + 4)) else fetched d) := by
  rw [jumpReg, instr_ready _ _ ready free, fetched_wr, fetched_pc]

/-- Settles O52: CALL goes to its target, and the one shape of JR and CALLR first asks whether the target is aligned. -/
theorem callsAndJumps : Obligations.CallsAndJumps := by
  unfold Obligations.CallsAndJumps
  refine ⟨runs_call, fun a => ⟨runs_of_onDev (fun _ => rfl) ?_, runs_of_onDev (fun _ => rfl) ?_, does_of_onDev (fun _ => rfl) ?_⟩⟩
  · intro d ⟨⟨ready, free⟩, aligned⟩
    exact (jumpReg_ready (link := false) ready free).trans (if_neg (not_not.mpr aligned))
  · intro d ⟨⟨ready, free⟩, aligned⟩
    exact (jumpReg_ready (link := true) ready free).trans (if_neg (not_not.mpr aligned))
  · intro d ⟨⟨ready, free⟩, odd, low, can⟩
    rw [jumpReg_ready (link := true) ready free, if_pos odd]
    exact raise_fetched (by decide) low can

end Sys2Proof.Proofs
end

section
/-! PROOFS. A DROP that fails its statement: a packet whose stored words have come up to CUT, and which FLUSH has left unseen [10 R196, R199, R200, R204]. -/

namespace Sys2Proof.Proofs

open Sys2Proof.Machine Sys2Proof.Laws

/-- The characters of a line arrive, one after the other. -/
def typed (cs : List Byte) (d : Dev) : Dev := cs.foldl (fun d c => uartCharacter c true d) d

/-- In Run the characters `ABCDEF` come to Q0, whose CUT is 0: with the header byte they store one word and begin the next. In a later FCLK cycle `G`
completes the second word, a write of Q0_CTL sets CUT to 1, which makes the packet visible, and Q0 is flushed: FLUSH comes first in its cycle, so that
what it discards is the queue as it stood before the word and before the write, with one word of the packet stored and the packet not visible. That
cycle then ends. -/
@[irreducible] def flushedAtCut : Dev :=
  let run : Dev := { ck := { ladder := .run, boot := .up, xrun := true, host := true } }
  let begun := tick^[4] (typed [65, 66, 67, 68, 69, 70] (run.w F.UA_CTL_RXEN 1))
  tick^[4] (queueFlush 0 (busWrite 0x40005000 0x100 (typed [71] begun)))

theorem qMet_eq_bind (i : Fin 2) (d : Dev) :
    qMet i d = (Tab.get? d.qp i.val).bind fun c => if c.cyc = (d.ns + d.ck.phase) / 4 then some c else none := by
  unfold qMet
  cases Tab.get? d.qp i.val <;> rfl

/-- Nothing has met Q0 in the present cycle, no pop waits, and no word is stored. -/
theorem flushedAtCut_empty : qMet 0 flushedAtCut = none ∧ (flushedAtCut.q 0).waits = [] ∧ (flushedAtCut.q 0).words = [] := by decide +kernel

theorem flushedAtCut_unseen : (flushedAtCut.q 0).seen = false := by decide +kernel

/-- What follows a DROP asks whether the packet has come up to CUT, and finds that it has. -/
theorem queueDrop_seen_flushedAtCut : ((queueDrop 0 flushedAtCut).q 0).seen = true := by decide +kernel

theorem queueDrop_dev {i : Fin 2} {s u : State} (h : exec (.queueDrop i) s = .next u) : u.dev = queueDrop i s.dev :=
  onDev_dev (g := queueDrop i) h

/-- Refutes O24: DROP's clause for a queue that holds no end of a packet says that the open packet stays as visible as it was. At `flushedAtCut` the open
packet has as many words stored as CUT asks for and is not visible, and DROP makes it visible. -/
theorem not_queues : ¬ Obligations.Queues := by
  unfold Obligations.Queues
  intro h
  obtain ⟨queue, -⟩ := h
  obtain ⟨-, -, -, -, -, -, -, -, -, dropOpen, -⟩ := queue 0
  obtain ⟨unmet, noPop, noWord⟩ := flushedAtCut_empty
  have noEnd : ∀ w ∈ (flushedAtCut.q 0).words, w.eop = false := by simp [noWord]
  obtain ⟨u, run, -, emptied, -⟩ := dropOpen ⟨flushedAtCut, []⟩ ⟨(qMet_eq_bind 0 _).symm.trans unmet, noPop, noEnd⟩
  have kept : (u.dev.q 0).seen = (flushedAtCut.q 0).seen := by rw [emptied]
  rw [queueDrop_dev run, queueDrop_seen_flushedAtCut, flushedAtCut_unseen] at kept
  exact absurd kept (by decide)

end Sys2Proof.Proofs
end

section
/-! PROOFS. A PAGE MAP that fails its statement: a held event line that has become too long for the form of its path is lost and counted once the
answer has left [11 R207, R217, R218; 12 R242]. -/

namespace Sys2Proof.Proofs

open Sys2Proof.Machine Sys2Proof.Laws

/-- After START the UART path is in machine form, select 1 has a device, no page is mapped, and one event line is held: 240 characters with its `!`, as
many as console form takes, and 243 with the suffix of machine form. -/
@[irreducible] def longEventHeld : Dev :=
  let d : Dev := { ck := { ladder := .run, boot := .up, xrun := true, host := true }, co := { image := true },
                   st := { machU := true, store := [List.replicate 239 65] } }
  (d.w F.SYS_BOOT_LSTATE 4).w (F.SP_ID_PRESENT 1) 1

/-- The line `PAGE MAP f=3 page=9 sel=1 addr=0x400` without its verb and object, and its arguments. -/
def mapText : Bytes := (ascii "f=3 page=9 sel=1 addr=0x400").map (BitVec.ofNat 8)
def mapArgs : List (List Nat × List Nat) :=
  [(ascii "f", ascii "3"), (ascii "page", ascii "9"), (ascii "sel", ascii "1"), (ascii "addr", ascii "0x400")]

/-- The form of PAGE MAP [12 Table SV-8]. -/
def mapForm : Form := ⟨[], pageKeys ++ [numKey "sel" 0 3 true, numKey "addr" 0 (2 ^ 28 - 1) true]⟩

/-- The host UART, without a tag. -/
def untagged : Via := ⟨0, none, 0⟩

theorem longEventHeld_ready : LineReady untagged longEventHeld ∧ started longEventHeld = true := by decide +kernel

theorem mapText_line : lineArgs "PAGE MAP" "PAGE" mapText = some ⟨[ascii "MAP"], mapArgs⟩ := by decide +kernel

theorem mapArgs_fit : Fits mapForm ⟨[], mapArgs⟩ ∧ (valsOf mapForm ⟨[], mapArgs⟩).num "addr" % 1024 = 0 := by decide +kernel

theorem longEventHeld_maps :
    longEventHeld.r (F.SP_ID_PRESENT ((valsOf mapForm ⟨[], mapArgs⟩).num "sel")) ≠ 0 ∧ longEventHeld.gr.plots = [] := by decide +kernel

theorem longEventHeld_uncounted : longEventHeld.r F.UA_STAT_EVCNT = 0 := by decide +kernel

theorem pageMap_counts_longEventHeld :
    (verbLine (Via.ctx untagged) "PAGE MAP" [] [] (Bytes.nats mapText) longEventHeld).r F.UA_STAT_EVCNT = 1 := by decide +kernel

theorem pageMap_dev {via : Via} {text : Bytes} {s u : State} (h : exec (.pageMap via text) s = .next u) :
    u.dev = verbLine (Via.ctx via) "PAGE MAP" [] [] (Bytes.nats text) s.dev :=
  onDev_dev (g := verbLine (Via.ctx via) "PAGE MAP" [] [] (Bytes.nats text)) h

/-- Refutes O31: the clause for PAGE MAP with every plot free says that no register changes. At `longEventHeld` the answer OK lets the held event line
go; it is too long in machine form, so it is lost, and UA_STAT.EVCNT counts it. -/
theorem not_furrowPageChannelAndBankVerbs : ¬ Obligations.FurrowPageChannelAndBankVerbs := by
  unfold Obligations.FurrowPageChannelAndBankVerbs
  intro h
  obtain ⟨furrowAndPage, -⟩ := h
  obtain ⟨-, -, -, -, -, -, -, -, -, -, -, -, -, page⟩ := furrowAndPage untagged mapText (ascii "0") mapArgs 0 (by decide +kernel) (by decide)
  obtain ⟨-, -, mapFree, -⟩ := page
  obtain ⟨ready, started⟩ := longEventHeld_ready
  obtain ⟨fit, aligned⟩ := mapArgs_fit
  obtain ⟨present, free⟩ := longEventHeld_maps
  obtain ⟨u, run, -, -, -, -, regs, -⟩ := mapFree ⟨longEventHeld, []⟩ ⟨⟨⟨ready, started, mapText_line⟩, fit, aligned⟩, present, free⟩
  have kept : u.dev.r F.UA_STAT_EVCNT = longEventHeld.r F.UA_STAT_EVCNT := r_congr regs _
  rw [pageMap_dev run, pageMap_counts_longEventHeld, longEventHeld_uncounted] at kept
  exact absurd kept (by decide)

end Sys2Proof.Proofs
end

section
/-! PROOFS. The line of a built-in verb with its operands, and what an answer leaves alone [11 R211, R216-R220, Table SL-4]. -/

namespace Sys2Proof.Proofs

open Sys2Proof.Machine Sys2Proof.Laws

/-! ### From a line to its handler [11 R211, Table SL-4] -/

theorem verbNames_found (n : Fin 21) : builtinVerbs.find? (fun x => decide (x.2 = upper (ascii (verbNames.getD n "")))) =
    some (.builtin n, ascii (verbNames.getD n "")) ∧ (ascii (verbNames.getD n "")).contains 61 = false := by
  revert n; decide

/-- A built-in verb written in full stands for itself, and its name is no argument. -/
theorem verbNames_resolve {n : Nat} {verb : String} (name : verbNames[n]? = some verb) (d : Dev) :
    resolve d (ascii verb) = .ok (.builtin n) ∧ (ascii verb).contains 61 = false := by
  obtain ⟨below, rfl⟩ := List.getElem?_eq_some_iff.mp name
  obtain ⟨found, plain⟩ := verbNames_found ⟨n, below⟩
  rw [List.getD_eq_getElem _ _ below] at found plain
  exact ⟨resolve_builtin found d, plain⟩

/-- The line of a built-in verb that is allowed, fits its handler's form and passes its handler's check. -/
theorem verbLine_acts {via : Via} {d : Dev} {name verb : String} {text : Bytes} {a b : List Nat} {t : Toks} {n : Nat} {h : Handler}
    (ready : LineReady via d) (args : lineArgs name verb text = some t) (isVerb : verbNames[n]? = some verb) (handler : handlerOf d a b n t = some h)
    (allowed : verbState d n t = 0) (fits : Fits h.form h.toks) (passes : h.check (valsOf h.form h.toks) = 0) :
    verbLine (Via.ctx via) name a b (Bytes.nats text) d = answers via (fun c => h.act c (valsOf h.form h.toks)) d := by
  obtain ⟨ts, toks, split⟩ := lineArgs_some args
  obtain ⟨named, plain⟩ := verbNames_resolve isVerb d
  obtain ⟨numbers, values⟩ := fits
  rw [verbLine_ready ready, runLine_builtin toks split plain named]
  unfold runBuiltin
  simp only [handler, allowed, numbers, values, passes]
  rfl

/-! ### What an answer leaves alone [11 R216-R220] -/

/-- What the interpreter has sent: from `d` to `t` only the transmit sides, the lines and events that wait to leave, and two counts have moved. -/
structure Spoken (d t : Dev) : Prop where
  frame : t = { d with regs := t.regs, ua := t.ua, sp := t.sp, sr := { d.sr with lines := t.sr.lines },
                       st := { d.st with out := t.st.out, store := t.st.store, rose := t.st.rose } }
  regs : SameRegs [F.SYS_BOOTERR_CODE, F.UA_STAT_EVCNT] d t

namespace Spoken

variable {d e t : Dev}

theorem refl (d : Dev) : Spoken d d := ⟨rfl, fun _ _ => rfl⟩

theorem trans (h : Spoken d e) (k : Spoken e t) : Spoken d t :=
  ⟨k.frame.trans (by rw [h.frame]), fun f hf => (k.regs f hf).trans (h.regs f hf)⟩

theorem ite {c : Prop} [Decidable c] (h : Spoken d e) (k : Spoken d t) : Spoken d (if c then e else t) := by
  split
  · exact h
  · exact k

variable (h : Spoken d t)
include h

theorem mem : t.mem = d.mem := by rw [h.frame]
theorem co : t.co = d.co := by rw [h.frame]
theorem hp : t.hp = d.hp := by rw [h.frame]
theorem en : t.en = d.en := by rw [h.frame]
theorem evPath : t.st.evPath = d.st.evPath := by rw [h.frame]
theorem wait : t.st.wait = d.st.wait := by rw [h.frame]
theorem off : t.st.off = d.st.off := by rw [h.frame]
theorem scale0 : t.st.scale0 = d.st.scale0 := by rw [h.frame]
theorem scale1 : t.st.scale1 = d.st.scale1 := by rw [h.frame]
/-- In the ring block no more than lines wait. -/
theorem ring : t.sr = { d.sr with lines := t.sr.lines } := by rw [h.frame]
theorem enc (m : Nat) : t.enc m = d.enc m := by rw [Dev.enc, Dev.enc, h.frame]

theorem r {f : Fld} (other : f.key ∉ [F.SYS_BOOTERR_CODE, F.UA_STAT_EVCNT].map Fld.key) : t.r f = d.r f := h.regs f other

end Spoken

theorem spoken_flushN (n : Nat) (d : Dev) : Spoken d (flushN n d) := by
  induction n generalizing d with
  | zero => exact .refl d
  | succ n ih =>
    unfold flushN
    split
    · exact .refl d
    next p m bs r _ =>
      have taken : Spoken d (d.onSt fun s => { s with out := r }) := ⟨rfl, fun _ _ => rfl⟩
      have tunnelled : Spoken (d.onSt fun s => { s with out := r }) (queueLine 11 m bs (d.onSt fun s => { s with out := r })) := ⟨rfl, fun _ _ => rfl⟩
      have sent : Spoken (d.onSt fun s => { s with out := r }) (sendBytes p bs (d.onSt fun s => { s with out := r })) :=
        .ite ⟨rfl, fun _ _ => rfl⟩ ⟨rfl, fun _ _ => rfl⟩
      exact .ite (.refl d) (.ite ((taken.trans tunnelled).trans (ih _)) (.ite ((taken.trans sent).trans (ih _)) (.refl d)))

theorem spoken_queueOut (p m : Nat) (bs : List Nat) (d : Dev) : Spoken d (queueOut p m bs d) :=
  Spoken.trans (e := d.onSt fun s => { s with out := s.out ++ [(p, m, bs)] }) ⟨rfl, fun _ _ => rfl⟩ (spoken_flushN _ _)

theorem spoken_sendLine (c : Ctx) (text : List Nat) (d : Dev) : Spoken d (sendLine c text d) := spoken_queueOut ..

theorem spoken_prompt (p : Nat) (d : Dev) : Spoken d (prompt p d) := .ite (spoken_queueOut ..) (.refl d)

theorem spoken_flushEventsN (n : Nat) (d : Dev) : Spoken d (flushEventsN n d) := by
  induction n generalizing d with
  | zero => exact .refl d
  | succ n ih =>
    unfold flushEventsN
    split
    · exact .refl d
    next l r _ =>
      have taken : Spoken d (d.onSt fun s => { s with store := r }) := ⟨rfl, fun _ _ => rfl⟩
      have counted (e : Dev) : Spoken e (e.inc F.UA_STAT_EVCNT) := ⟨rfl, sameRegs_congr (sameRegs_w e _ _) (by decide)⟩
      exact .ite ((taken.trans (.ite (counted _) (spoken_queueOut ..))).trans (ih _)) (.refl d)

theorem spoken_codeNoted (e : Nat) (d : Dev) : Spoken d (codeNoted e d) :=
  .ite ⟨rfl, sameRegs_congr (sameRegs_w d _ e) (by decide)⟩ (.refl d)

theorem spoken_sendLines (c : Ctx) (ls : List (List Nat)) (d : Dev) : Spoken d (ls.foldl (fun d l => sendLine c l d) d) := by
  induction ls generalizing d with
  | nil => exact .refl d
  | cons l ls ih => exact (spoken_sendLine c l d).trans (ih _)

theorem spoken_respond (c : Ctx) (ls : List (List Nat)) (e : Nat) (d : Dev) : Spoken d (respond c ls e d) :=
  ((spoken_codeNoted e d).trans ((spoken_sendLines c ls _).trans (spoken_sendLine c _ _))).trans
    ((spoken_prompt c.path _).trans (spoken_flushEventsN _ _))

/-- A verb that acts by `g` and answers OK. -/
theorem spoken_answers (via : Via) (g : Dev → Dev) (d : Dev) :
    Spoken (g (acceptLine (Via.ctx via) d)) (answers via (fun c e => ok c (g e)) d) :=
  (spoken_respond (Via.ctx via) [] 0 (g (acceptLine (Via.ctx via) d))).trans ⟨rfl, fun _ _ => rfl⟩

/-- Before a line is taken no verb is in progress. -/
theorem responding_wait {d : Dev} (free : responding d = false) : d.st.wait = none := by
  simp only [responding, Bool.or_eq_false_iff, Option.isSome_eq_false_iff, Option.isNone_iff_eq_none] at free
  obtain ⟨⟨wait, -⟩, -⟩ := free
  exact wait

theorem responding_tun {d : Dev} (free : responding d = false) : d.st.tun = none := by
  simp only [responding, Bool.or_eq_false_iff, Option.isSome_eq_false_iff, Option.isNone_iff_eq_none] at free
  exact free.2

/-! ### The values of a line [12 R229] -/

/-- A value given is one that its key's kind reads. -/
theorem formVals_read {f : Form} {pos : List (List Nat)} {args : List (List Nat × List Nat)} {k : String} {v : Val}
    (given : (formVals f pos args).get? k = some v) : ∃ key ∈ f.keys, key.name = k ∧ ∃ t, readVal key.kind t = .ok v := by
  obtain ⟨x, found, rfl⟩ := Option.map_eq_some_iff.mp given
  have named : x.1 = k := by simpa using List.find?_some found
  obtain ⟨a, -, value⟩ := List.mem_filterMap.mp (List.mem_of_find?_eq_some found)
  obtain ⟨key, isKey, read⟩ := Option.bind_eq_some_iff.mp value
  split at read
  next v' ok =>
    obtain rfl := (Option.some.inj read).symm
    exact ⟨key, List.mem_of_find?_eq_some isKey, named, a.2, ok⟩
  · cases read

/-- A number is at most its key's upper bound. -/
theorem readVal_le {m : Dim} {lo hi : Int} {t : List Nat} {v : Val} (read : readVal (.num m lo hi) t = .ok v) : ∃ n : Int, v = .int n ∧ n ≤ hi := by
  simp only [readVal] at read
  split at read
  · cases read
  next n _ =>
    split at read
    next range =>
      obtain ⟨-, le, -⟩ := range
      exact ⟨n, (Except.ok.inj read).symm, le⟩
    · cases read

/-- A word's number is its place in the key's list. -/
theorem readVal_word {ws : List String} {t : List Nat} {v : Val} (read : readVal (.word ws) t = .ok v) : ∃ i, v = .word i ∧ i < ws.length := by
  simp only [readVal] at read
  split at read
  next i found => exact ⟨i, (Except.ok.inj read).symm, (List.findIdx?_eq_some_iff_findIdx_eq.mp found).1⟩
  · cases read

/-- Key `k` of the form takes numbers up to `hi` at most, or one of `hi + 1` words at most. -/
def KeyBound (f : Form) (k : String) (hi : Nat) : Prop :=
  ∀ key ∈ f.keys, key.name = k → (∃ m lo top, key.kind = .num m lo top ∧ top ≤ (hi : Int)) ∨ ∃ ws, key.kind = .word ws ∧ ws.length ≤ hi + 1

theorem num_le_of_keyBound {f : Form} {k : String} {hi : Nat} (bound : KeyBound f k hi) (pos : List (List Nat)) (args : List (List Nat × List Nat)) :
    (formVals f pos args).num k ≤ hi := by
  unfold Args.num
  cases given : (formVals f pos args).get? k with
  | none => exact Nat.zero_le _
  | some v =>
    obtain ⟨key, member, named, t, read⟩ := formVals_read given
    rcases bound key member named with ⟨m, lo, top, kind, low⟩ | ⟨ws, kind, low⟩
    · obtain ⟨n, rfl, le⟩ := readVal_le (kind ▸ read)
      exact Int.toNat_le.mpr (le.trans low)
    · obtain ⟨i, rfl, below⟩ := readVal_word (kind ▸ read)
      exact Nat.le_of_lt_succ (below.trans_le low)

end Sys2Proof.Proofs
end

section
/-! PROOFS. The OTP verbs: what they ask of the engine, and the statement about them [05 R96-R101; 12 R238, Table SV-6]. -/

namespace Sys2Proof.Proofs

open Sys2Proof.Machine Sys2Proof.Laws

/-! ### A line of an OTP verb -/

/-- A line of the OTP verb `name` that fits the form `f` is taken while an image runs. -/
abbrev OtpLine (via : Via) (text : Bytes) (args : List (List Nat × List Nat)) (name obj : String) (f : Form) (d : Dev) : Prop :=
  LineReady via d ∧ started d = true ∧ lineArgs name "OTP" text = some ⟨[ascii obj], args⟩ ∧ Fits f ⟨[], args⟩

section

variable {via : Via} {text : Bytes} {args : List (List Nat × List Nat)} {name obj : String} {f : Form} {d : Dev}

theorem otpLine_acts {check : Args → Nat} {act : Ctx → Args → Dev → Dev} (line : OtpLine via text args name obj f d)
    (handler : otpHandler ⟨[ascii obj], args⟩ = some ⟨f, ⟨[], args⟩, check, act⟩) (passes : check (valsOf f ⟨[], args⟩) = 0) :
    verbLine (Via.ctx via) name [] [] (Bytes.nats text) d = answers via (fun c => act c (valsOf f ⟨[], args⟩)) d := by
  obtain ⟨ready, after, words, fits⟩ := line
  exact verbLine_acts ready words (n := 6) rfl handler (verbState_started after (by decide)) fits passes

/-! ### The handlers of Table SV-6 -/

theorem otpHandler_read : otpHandler ⟨[ascii "READ"], args⟩ = some ⟨⟨[], [wordOrLock]⟩, ⟨[], args⟩, fun _ => 0, doOtpRead⟩ := rfl

theorem otpHandler_margin : otpHandler ⟨[ascii "MARGIN"], args⟩ = some ⟨⟨[], [wordOrLock]⟩, ⟨[], args⟩, fun _ => 0,
    fun c a => otpAsk c Obj.margin (wordArg a) { owner := .verb, code := 3, word := wordArg a }⟩ := rfl

theorem otpHandler_check : otpHandler ⟨[ascii "CHECK"], args⟩ = some ⟨⟨[], [wordKey "ctr" ctrNames true]⟩, ⟨[], args⟩, fun _ => 0,
    fun c a => otpAsk c Obj.check (a.num "ctr") { owner := .verb, code := 7, ctr := a.num "ctr" }⟩ := rfl

theorem otpHandler_sense : otpHandler ⟨[ascii "SENSE"], args⟩ = some ⟨⟨[], []⟩, ⟨[], args⟩, fun _ => 0,
    fun c _ => otpAsk c Obj.sense 0 { owner := .verb, code := 9 }⟩ := rfl

theorem otpHandler_burn : otpHandler ⟨[ascii "BURN"], args⟩ =
    some ⟨⟨[], [numKey "word" 0 511 true, numKey "data" 0 0xFFFFFFFF true]⟩, ⟨[], args⟩, fun _ => 0,
      fun c a => otpBurn c Obj.burn (a.num "word") { owner := .verb, code := 4, word := a.num "word", data := a.num "data" }⟩ := rfl

theorem otpHandler_reburn : otpHandler ⟨[ascii "REBURN"], args⟩ = some ⟨⟨[], [numKey "word" 0 511 true]⟩, ⟨[], args⟩, fun _ => 0,
    fun c a => otpBurn c Obj.reburn (a.num "word") { owner := .verb, code := 5, word := a.num "word" }⟩ := rfl

theorem otpHandler_revoke : otpHandler ⟨[ascii "REVOKE"], args⟩ = some ⟨⟨[], [numKey "slot" 0 2 true]⟩, ⟨[], args⟩, fun _ => 0,
    fun c a => otpBurn c Obj.revoke (11 + a.num "slot") { owner := .verb, code := 6, ctr := 11 + a.num "slot" }⟩ := rfl

theorem otpHandler_lock : otpHandler ⟨[ascii "LOCK"], args⟩ = some ⟨⟨[], [numKey "wlk" 0 255, numKey "xlk" 0 255]⟩, ⟨[], args⟩,
    fun a => if a.has "wlk" ∨ a.has "xlk" then 0 else 10, fun c a => otpBurn c Obj.lock 0 { owner := .verb, code := 8, data := lockArg a }⟩ := rfl

end

/-! ### What a verb asks of the engine [05 R96, R98] -/

/-- The engine is idle, and the pending-burn latch asks for nothing. -/
abbrev OtpIdle (d : Dev) : Prop := d.ot.job = none ∧ d.ot.wait = [] ∧ d.r F.OT_WIN_PEND = 0

/-- The line is accepted and its verb waits. -/
def otpWaiting (via : Via) (obj arg : Nat) (d : Dev) : Dev :=
  d.onSt fun s => { s with evPath := (Via.ctx via).path, evMember := (Via.ctx via).member, wait := some (Via.ctx via, .otp obj arg) }

/-- The engine has taken the request `q`. -/
def otpTaken (q : OtReq) (d : Dev) : Dev := (d.onOt fun o => { o with job := some { req := q } }).set F.OT_STAT_BUSY

/-- From `d` to `t` the verb has begun to wait: no other part of the interpreter and no memory has moved. -/
abbrev OtpWaits (via : Via) (obj arg : Nat) (d t : Dev) : Prop :=
  t.st = { d.st with evPath := (Via.ctx via).path, evMember := (Via.ctx via).member, wait := some (Via.ctx via, .otp obj arg) } ∧ t.mem = d.mem

/-- The verb waits for the job `j`, which the engine has begun. -/
abbrev OtpBegun (via : Via) (obj arg : Nat) (j : OtJob) (d t : Dev) : Prop :=
  OtpWaits via obj arg d t ∧ t.ot = { d.ot with job := some j } ∧ t.r F.OT_STAT_BUSY = 1 ∧ SameRegs [F.OT_STAT_BUSY] d t

/-- The verb waits for its request `q`, which stands behind the others. -/
abbrev OtpQueued (via : Via) (obj arg : Nat) (q : OtReq) (d t : Dev) : Prop :=
  OtpWaits via obj arg d t ∧ t.ot = { d.ot with wait := d.ot.wait ++ [q] } ∧ t.regs = d.regs

section

variable {via : Via} {obj arg : Nat} {q : OtReq} {d : Dev}

/-- A verb that begins to wait and then acts by `g`. -/
theorem byVerb_waitVerb (g : Dev → Dev) (c : Ctx) (l : Long) (d : Dev) :
    byVerb (fun d => byVerb g (waitVerb c l d)) d = (g (waitVerb c l d)).onSt fun s => { s with rose := d.st.rose } := rfl

theorem answers_otpAsk (via : Via) (obj arg : Nat) (q : OtReq) (d : Dev) : answers via (fun c => otpAsk c obj arg q) d =
    (otAsk q (otpWaiting via obj arg d)).onSt fun s => { s with rose := d.st.rose } := byVerb_waitVerb (otAsk q) _ _ _

theorem answers_otpBurn_met (met : windowMet d = true) : answers via (fun c => otpBurn c obj arg q) d = answers via (fun c => otpAsk c obj arg q) d := by
  refine answers_congr (if_neg ?_)
  rw [show windowMet (acceptLine (Via.ctx via) d) = true from met]
  exact Bool.noConfusion

theorem answers_otpBurn_unmet (unmet : windowMet d = false) : answers via (fun c => otpBurn c obj arg q) d = answers via (er 40) d :=
  answers_congr (if_pos unmet)

theorem otAsk_idle (idle : OtpIdle d) : otAsk q d = otRun q (otpTaken q d) := by
  obtain ⟨job, wait, pend⟩ := idle
  unfold otAsk
  rw [latchServe_waits (.inl pend)]
  exact if_pos ⟨by rw [job]; rfl, wait⟩

theorem otAsk_busy (busy : d.ot.job ≠ none) : otAsk q d = d.onOt fun o => { o with wait := o.wait ++ [q] } := by
  unfold otAsk
  rw [latchServe_taken busy]
  exact if_neg fun h => busy (Option.isNone_iff_eq_none.mp h.1)

theorem otpAsk_queues (busy : d.ot.job ≠ none) : OtpQueued via obj arg q d (answers via (fun c => otpAsk c obj arg q) d) := by
  rw [answers_otpAsk, otAsk_busy (d := otpWaiting via obj arg d) busy]
  exact ⟨⟨rfl, rfl⟩, rfl, rfl⟩

theorem otpTaken_busy : (otpTaken q d).r F.OT_STAT_BUSY = 1 := set_r_same (d.onOt fun o => { o with job := some { req := q } }) rfl

theorem otpTaken_r_other {f : Fld} (other : f.key ≠ F.OT_STAT_BUSY.key) : (otpTaken q d).r f = d.r f := set_r_other _ other

/-- Where the job taken goes on as `j`, the verb waits for it. -/
theorem otpAsk_begins (idle : OtpIdle d) {j : OtJob}
    (run : otRun q (otpTaken q (otpWaiting via obj arg d)) = (otpTaken q (otpWaiting via obj arg d)).onOt fun o => { o with job := some j }) :
    OtpBegun via obj arg j d (answers via (fun c => otpAsk c obj arg q) d) := by
  rw [answers_otpAsk, otAsk_idle (d := otpWaiting via obj arg d) idle, run]
  exact ⟨⟨rfl, rfl⟩, rfl, otpTaken_busy, sameRegs_w (d.onOt fun o => { o with job := some { req := q } }) F.OT_STAT_BUSY 1⟩

/-! ### The commands that burn nothing -/

theorem otpMargin_begins (idle : OtpIdle d) (w : Nat) : OtpBegun via obj arg
    { req := { owner := .verb, code := 3, word := w }, data := some (if readsZero d (w / 64) = true then 0 else margh d w),
      weak := decide (weakBits d w ≠ 0) } d
    (answers via (fun c => otpAsk c obj arg { owner := .verb, code := 3, word := w }) d) := by
  refine otpAsk_begins idle ?_
  rw [otRun_margh rfl, readsZero, otpTaken_r_other (by decide)]
  rfl

theorem otpCheck_begins (idle : OtpIdle d) {c : Nat} (known : c < 14) : OtpBegun via obj arg
    { req := { owner := .verb, code := 7, ctr := c }, weak := ctrWeak d c } d
    (answers via (fun x => otpAsk x obj arg { owner := .verb, code := 7, ctr := c }) d) := by
  refine otpAsk_begins idle ?_
  rw [otRun_check rfl (ctrWords_known known)]
  rfl

theorem otpSense_begins (idle : OtpIdle d) {t : Dev} (h : answers via (fun x => otpAsk x obj arg { owner := .verb, code := 9 }) d = t) :
    OtpWaits via obj arg d t ∧ t.r F.OT_STAT_BUSY = 1 ∧ t.ot.job = some { req := { owner := .verb, code := 9 } } ∧ t.ot.fuses = d.ot.fuses ∧
      ∀ x, margh d x ≠ 0 → weakBits d x = 0 → shadowOf t x = margl d x := by
  have all := sensed_senseAll (otpTaken { owner := .verb, code := 9 } (otpWaiting via obj arg d))
  rw [answers_otpAsk, otAsk_idle (d := otpWaiting via obj arg d) idle, otRun_sense rfl] at h
  subst h
  refine ⟨⟨?_, all.worked.mem⟩, (all.r _ (by decide)).trans (set_r_same _ rfl), all.job, all.fuses, fun x burned strong => ?_⟩
  · rw [all.frame]
    rfl
  · exact (senseAll_shadows (d := otpTaken _ (otpWaiting via obj arg d)) burned ((all.weakBits x).trans strong)).trans (all.margl x)

/-! ### The commands that burn: their first pulse [05 R101] -/

/-- A job of the request `q` whose burn of word `w` has its first pulse. -/
abbrev firstJob (q : OtReq) (w target : Nat) (d : Dev) : OtJob :=
  { req := q, cur := some ⟨w, target, target &&& (0xFFFFFFFF ^^^ margl d w), 0, d.ns⟩, retries := some 0, fail := some 0 }

theorem otpTaken_windowMet : windowMet (otpTaken q d) = windowMet d := windowMet_congr (otpTaken_r_other (by decide))

theorem otpTaken_burnable {w : Nat} (free : Burnable w d) : Burnable w (otpTaken q d) := by
  obtain ⟨region, unlocked, plain⟩ := free
  refine ⟨region, ?_, plain⟩
  rwa [wlk, otpTaken_r_other (by decide)]

theorem otpBurn_begins (idle : OtpIdle d) (met : windowMet d = true) {w target : Nat} (new : target &&& (0xFFFFFFFF ^^^ margl d w) ≠ 0)
    (run : otRun q (otpTaken q (otpWaiting via obj arg d)) = otTasks [(w, target)] (otpTaken q (otpWaiting via obj arg d))) :
    OtpBegun via obj arg (firstJob q w target d) d (answers via (fun c => otpBurn c obj arg q) d) := by
  rw [answers_otpBurn_met met]
  refine otpAsk_begins idle (run.trans ?_)
  rw [otTasks_pulses (d := otpTaken q (otpWaiting via obj arg d)) [] new (otpTaken_windowMet.trans met)]
  rfl

end

/-! ### The increment of a revocation counter [05 R107, Table OT-5] -/

/-- The bead of signer slot `i`. -/
theorem ctrWords_revoke {i : Nat} (slot : i ≤ 2) : ctrWords (11 + i) = [(280, 2 ^ i)] := by
  interval_cases i <;> rfl

section

variable {i : Nat} {d : Dev} (slot : i ≤ 2) (room : ctrFull d (11 + i) = false)
include slot room

/-- A revocation counter with room has its bead unburned. -/
theorem revoke_unburned : (margh d 280).testBit i = false := by
  rw [ctrFull, beadCount, securityCount, ctrWords_revoke slot] at room
  by_contra burned
  rw [Bool.not_eq_false] at burned
  have bead : margh d 280 &&& 2 ^ i = 2 ^ i := by rw [Nat.and_two_pow, burned, Bool.toNat_true, Nat.one_mul]
  simp [bead] at room

theorem revoke_nextBead : nextBead d (11 + i) = some (280, 2 ^ i) := by
  have found : (List.range 32).find? (fun k => bitAt (2 ^ i) k && !bitAt (margh d 280) k) = some i := by
    refine List.find?_range_eq_some.mpr ⟨?_, List.mem_range.mpr (by omega), fun k low => ?_⟩
    · simp [bitAt, revoke_unburned slot room]
    · simp [bitAt, Nat.testBit_two_pow_of_ne low.ne']
  rw [nextBead, ctrWords_revoke slot, List.findSome?_cons, found]
  rfl

theorem revoke_incTasks : incTasks d (11 + i) = [(280, weakBits d 280 ||| 2 ^ i)] := by
  simp [incTasks, revoke_nextBead slot room, ctrWords_revoke slot]

theorem revoke_new : (weakBits d 280 ||| 2 ^ i) &&& (0xFFFFFFFF ^^^ margl d 280) ≠ 0 := by
  have clear : (margl d 280).testBit i = false := by
    have high := revoke_unburned slot room
    rw [margh, Nat.testBit_or, Bool.or_eq_false_iff] at high
    exact high.1
  have ones : (0xFFFFFFFF : Nat).testBit i = true := by interval_cases i <;> rfl
  intro none
  have bit := congrArg (Nat.testBit · i) none
  simp [clear, ones] at bit

theorem incCmd_revoke (met : windowMet d = true) :
    incCmd (11 + i) d = otTasks [(280, weakBits d 280 ||| 2 ^ i)] (d.onJob fun j => { j with weak := ctrWordsWeak d (11 + i) }) := by
  have known : ctrWords (11 + i) ≠ [] := by rw [ctrWords_revoke slot]; exact List.cons_ne_nil _ _
  unfold incCmd
  rw [if_neg known, if_neg (by simp [room]), if_neg (by simp [met]), revoke_incTasks slot room]

end

/-! ### Under the supplies that the comparators give [05 R99] -/

/-- A job under way is still under way, whatever the comparators give: a pulse that is cut ends no job. -/
theorem setWindow_busy (v : Nat) {d : Dev} (busy : d.ot.job ≠ none) : (setWindow v d).ot.job ≠ none := by
  have kept (e : Nat) (g : Dev) (h : g.ot.job ≠ none) : (otFail e g).ot.job ≠ none := by simpa [otFail, Dev.onJob, Dev.onOt] using h
  unfold setWindow cutIfLeft
  split
  · exact busy
  · split
    · exact busy
    · refine kept _ _ ?_
      rw [(sensed_resense _ _).job]
      simpa [Dev.onJob, Dev.onOt, burnBits, Dev.draw, winOk] using busy

theorem setWindow_idle (v : Nat) {d : Dev} (idle : OtpIdle d) : OtpIdle (setWindow v d) := by
  obtain ⟨job, wait, pend⟩ := idle
  have ot := setWindow_ot v job
  exact ⟨ot ▸ job, ot ▸ wait, (setWindow_r v job (by decide)).trans pend⟩

theorem setWindow_burnable (v : Nat) {d : Dev} (job : d.ot.job = none) {w : Nat} (free : Burnable w d) : Burnable w (setWindow v d) := by
  obtain ⟨region, unlocked, plain⟩ := free
  exact ⟨region, (setWindow_wlk v job _).trans unlocked, plain⟩

section

variable {via : Via} {obj arg v : Nat} {q : OtReq} {d : Dev} (idle : OtpIdle d)
include idle

/-- The supplies do not touch what the job taken looks at: its first pulse is that of `d`. -/
theorem firstJob_setWindow (w target : Nat) : firstJob q w target (setWindow v d) = firstJob q w target d := by
  rw [firstJob, firstJob, margl_congr (congrArg Otp.fuses (setWindow_ot v idle.1)), setWindow_ns v idle.1]

theorem otpTaken_fuses : (otpTaken q (otpWaiting via obj arg (setWindow v d))).ot.fuses = d.ot.fuses := by
  rw [show (otpTaken q (otpWaiting via obj arg (setWindow v d))).ot.fuses = (setWindow v d).ot.fuses from rfl, setWindow_ot v idle.1]

theorem otpTaken_alive (alive : lifeCycle d ≠ 3) : lifeCycle (otpTaken q (otpWaiting via obj arg (setWindow v d))) ≠ 3 := by
  rwa [lifeCycle_congr (otpTaken_fuses idle)]

variable (met : windowMet (setWindow v d) = true) (alive : lifeCycle d ≠ 3)
include met

/-- A burn that has bits left begins with its first pulse. -/
theorem otpBurn_begins_under {w target : Nat} (new : target &&& (0xFFFFFFFF ^^^ margl d w) ≠ 0)
    (run : otRun q (otpTaken q (otpWaiting via obj arg (setWindow v d))) = otTasks [(w, target)] (otpTaken q (otpWaiting via obj arg (setWindow v d)))) :
    OtpBegun via obj arg (firstJob q w target d) (setWindow v d) (answers via (fun c => otpBurn c obj arg q) (setWindow v d)) := by
  rw [← firstJob_setWindow (v := v) idle]
  refine otpBurn_begins (setWindow_idle v idle) met ?_ run
  rwa [margl_congr (congrArg Otp.fuses (setWindow_ot v idle.1))]

include alive

theorem otpBurn_burns {w target : Nat} (free : Burnable w d) (fits : target &&& otReservedBits w = 0) (new : target &&& (0xFFFFFFFF ^^^ margl d w) ≠ 0) :
    OtpBegun via obj arg (firstJob { owner := .verb, code := 4, word := w, data := target } w target d) (setWindow v d)
      (answers via (fun c => otpBurn c obj arg { owner := .verb, code := 4, word := w, data := target }) (setWindow v d)) := by
  refine otpBurn_begins_under idle met new ?_
  rw [otRun_burn (otpTaken_alive idle alive) rfl]
  exact burnCmd_passes (otpTaken_burnable (d := otpWaiting via obj arg (setWindow v d)) (setWindow_burnable v idle.1 free)) fits

theorem otpBurn_reburns {w : Nat} (free : Burnable w d) (fits : weakBits d w &&& otReservedBits w = 0) (weak : weakBits d w ≠ 0) :
    OtpBegun via obj arg (firstJob { owner := .verb, code := 5, word := w } w (weakBits d w) d) (setWindow v d)
      (answers via (fun c => otpBurn c obj arg { owner := .verb, code := 5, word := w }) (setWindow v d)) := by
  refine otpBurn_begins_under idle met ((weakBits_new d w).symm ▸ weak) ?_
  rw [otRun_reburn (otpTaken_alive idle alive) rfl, weakBits_congr (otpTaken_fuses idle)]
  exact burnCmd_passes (otpTaken_burnable (d := otpWaiting via obj arg (setWindow v d)) (setWindow_burnable v idle.1 free)) fits

theorem otpBurn_locks {bits : Nat} (fits : bits < 65536) (new : bits &&& (0xFFFFFFFF ^^^ margl d otLockWord) ≠ 0) :
    OtpBegun via obj arg (firstJob { owner := .verb, code := 8, data := bits } otLockWord bits d) (setWindow v d)
      (answers via (fun c => otpBurn c obj arg { owner := .verb, code := 8, data := bits }) (setWindow v d)) := by
  refine otpBurn_begins_under idle met new (otRun_lock (q := { owner := .verb, code := 8, data := bits }) ?_ rfl fits)
  simp [otDenied, otpTaken_alive idle alive]

end

theorem ctrWordsWeak_congr {d t : Dev} (fuses : t.ot.fuses = d.ot.fuses) (c : Nat) : ctrWordsWeak t c = ctrWordsWeak d c := by
  simp only [ctrWordsWeak, weakBits_congr fuses]

/-- REVOKE begins its increment with the first pulse on its slot's bead and the word's weak bits. -/
theorem otpBurn_revokes {via : Via} {obj arg : Nat} {d : Dev} (idle : OtpIdle d) (met : windowMet d = true) (alive : lifeCycle d ≠ 3) {i : Nat}
    (slot : i ≤ 2) (room : ctrFull d (11 + i) = false) :
    OtpBegun via obj arg { firstJob { owner := .verb, code := 6, ctr := 11 + i } 280 (weakBits d 280 ||| 2 ^ i) d with weak := ctrWordsWeak d (11 + i) }
      d (answers via (fun c => otpBurn c obj arg { owner := .verb, code := 6, ctr := 11 + i }) d) := by
  rw [answers_otpBurn_met met]
  refine otpAsk_begins idle ?_
  generalize taken : otpTaken { owner := .verb, code := 6, ctr := 11 + i } (otpWaiting via obj arg d) = e
  have window : windowMet e = true := by rw [← taken]; exact otpTaken_windowMet.trans met
  have alive' : lifeCycle e ≠ 3 := by subst taken; exact alive
  have room' : ctrFull e (11 + i) = false := by subst taken; exact room
  rw [otRun_inc (by simp [otDenied, alive']) rfl, incCmd_revoke slot room' window,
    otTasks_pulses (w := 280) (target := weakBits e 280 ||| 2 ^ i) (d := e.onJob fun j => { j with weak := ctrWordsWeak e (11 + i) }) []
      (revoke_new slot room') window]
  subst taken
  rfl

/-! ### The commands of the verbs that burn: their line is taken under the supplies given -/

/-- The line `text` of the verb `name` under the supplies `win`. -/
def burnLine (name : String) (via : Via) (text : Bytes) (win : BitVec 2) (d : Dev) : Dev :=
  verbLine (Via.ctx via) name [] [] (Bytes.nats text) (setWindow win.toNat d)

section

variable (via : Via) (text : Bytes) (win : BitVec 2) (s : State)

theorem exec_otpBurn : exec (.otpBurn via text win) s = onDev (burnLine "OTP BURN" via text win) s := rfl
theorem exec_otpReburn : exec (.otpReburn via text win) s = onDev (burnLine "OTP REBURN" via text win) s := rfl
theorem exec_otpRevoke : exec (.otpRevoke via text win) s = onDev (burnLine "OTP REVOKE" via text win) s := rfl
theorem exec_otpLock : exec (.otpLock via text win) s = onDev (burnLine "OTP LOCK" via text win) s := rfl

end

section

variable {via : Via} {text : Bytes} {win : BitVec 2} {args : List (List Nat × List Nat)} {d : Dev}

/-- A burning verb whose line fits and passes its check comes to otpBurn on its operands. -/
theorem burnLine_acts {name obj : String} {f : Form} {check arg : Args → Nat} {o : Nat} {q : Args → OtReq}
    (line : OtpLine via text args name obj f (setWindow win.toNat d))
    (handler : otpHandler ⟨[ascii obj], args⟩ = some ⟨f, ⟨[], args⟩, check, fun c a => otpBurn c o (arg a) (q a)⟩)
    (passes : check (valsOf f ⟨[], args⟩) = 0) :
    burnLine name via text win d =
      answers via (fun c => otpBurn c o (arg (valsOf f ⟨[], args⟩)) (q (valsOf f ⟨[], args⟩))) (setWindow win.toNat d) :=
  otpLine_acts line handler passes

theorem burnLine_queues {name obj : String} {f : Form} {check arg : Args → Nat} {o : Nat} {q : Args → OtReq} {j : OtJob}
    (line : OtpLine via text args name obj f (setWindow win.toNat d))
    (handler : otpHandler ⟨[ascii obj], args⟩ = some ⟨f, ⟨[], args⟩, check, fun c a => otpBurn c o (arg a) (q a)⟩)
    (passes : check (valsOf f ⟨[], args⟩) = 0) (met : windowMet (setWindow win.toNat d) = true) (job : d.ot.job = some j) :
    OtpQueued via o (arg (valsOf f ⟨[], args⟩)) (q (valsOf f ⟨[], args⟩)) (setWindow win.toNat d) (burnLine name via text win d) := by
  rw [burnLine_acts line handler passes, answers_otpBurn_met met]
  exact otpAsk_queues (setWindow_busy _ (by simp [job]))

theorem burnLine_unmet {name obj : String} {f : Form} {check arg : Args → Nat} {o : Nat} {q : Args → OtReq}
    (line : OtpLine via text args name obj f (setWindow win.toNat d))
    (handler : otpHandler ⟨[ascii obj], args⟩ = some ⟨f, ⟨[], args⟩, check, fun c a => otpBurn c o (arg a) (q a)⟩)
    (passes : check (valsOf f ⟨[], args⟩) = 0) (unmet : windowMet (setWindow win.toNat d) = false) :
    burnLine name via text win d = answers via (er 40) (setWindow win.toNat d) := by
  rw [burnLine_acts line handler passes, answers_otpBurn_unmet unmet]

end

/-! ### The operands of Table SV-6 -/

/-- READ is a verb of the monitor too. -/
theorem verbState_otpRead {d : Dev} (awake : d.r F.SYS_BOOT_LSTATE ≠ 5) (args : List (List Nat × List Nat)) :
    verbState d 6 ⟨[ascii "READ"], args⟩ = 0 := by
  have subset : (objIs "read" ⟨[ascii "READ"], args⟩).isSome = true := rfl
  simp [verbState, awake, subset]

theorem ctr_known (args : List (List Nat × List Nat)) :
    (valsOf ⟨[], [wordKey "ctr" ctrNames true]⟩ ⟨[], args⟩).num "ctr" < 14 :=
  Nat.lt_succ_of_le (num_le_of_keyBound (by simp [KeyBound, wordKey, ctrNames]) _ _)

theorem slot_known (args : List (List Nat × List Nat)) : (valsOf ⟨[], [numKey "slot" 0 2 true]⟩ ⟨[], args⟩).num "slot" ≤ 2 :=
  num_le_of_keyBound (by simp [KeyBound, numKey]) _ _

theorem lockArg_fits (args : List (List Nat × List Nat)) : lockArg (valsOf ⟨[], [numKey "wlk" 0 255, numKey "xlk" 0 255]⟩ ⟨[], args⟩) < 65536 := by
  have wlk : (valsOf ⟨[], [numKey "wlk" 0 255, numKey "xlk" 0 255]⟩ ⟨[], args⟩).num "wlk" ≤ 255 :=
    num_le_of_keyBound (by simp [KeyBound, numKey]) _ _
  have xlk : (valsOf ⟨[], [numKey "wlk" 0 255, numKey "xlk" 0 255]⟩ ⟨[], args⟩).num "xlk" ≤ 255 :=
    num_le_of_keyBound (by simp [KeyBound, numKey]) _ _
  unfold lockArg
  omega

/-- Settles O29: each verb's line comes down to what its handler asks of the engine; an idle engine takes the request at once, and a request that finds a
job under way stands behind the others. -/
theorem otpVerbs : Obligations.OtpVerbs := by
  unfold Obligations.OtpVerbs
  intro via text win args
  refine ⟨runs_of_onDev (fun _ => rfl) ?read, does_of_onDev (fun _ => rfl) ?margin, does_of_onDev (fun _ => rfl) ?check,
    does_of_onDev (fun _ => rfl) ?sense, does_of_onDev (exec_otpBurn via text win) ?burn, does_of_onDev (exec_otpReburn via text win) ?reburn,
    does_of_onDev (exec_otpRevoke via text win) ?revoke, does_of_onDev (exec_otpLock via text win) ?lock,
    fun j => ⟨does_of_onDev (fun _ => rfl) ?margin_queued, does_of_onDev (fun _ => rfl) ?check_queued, does_of_onDev (fun _ => rfl) ?sense_queued,
      does_of_onDev (exec_otpBurn via text win) ?burn_queued, does_of_onDev (exec_otpReburn via text win) ?reburn_queued,
      does_of_onDev (exec_otpRevoke via text win) ?revoke_queued, does_of_onDev (exec_otpLock via text win) ?lock_queued⟩,
    runs_of_onDev (exec_otpBurn via text win) ?burn_unmet, runs_of_onDev (exec_otpReburn via text win) ?reburn_unmet,
    runs_of_onDev (exec_otpRevoke via text win) ?revoke_unmet, runs_of_onDev (exec_otpLock via text win) ?lock_unmet⟩
  case read =>
    intro d ⟨ready, awake, words, fits⟩
    exact verbLine_acts ready words (n := 6) rfl otpHandler_read (verbState_otpRead awake args) fits rfl
  case margin =>
    intro d ⟨line, idle⟩
    rw [otpLine_acts line otpHandler_margin rfl]
    exact otpMargin_begins idle _
  case check =>
    intro d ⟨line, idle⟩
    rw [otpLine_acts line otpHandler_check rfl]
    exact otpCheck_begins idle (ctr_known args)
  case sense =>
    intro d ⟨line, _, idle⟩
    exact otpSense_begins idle (otpLine_acts line otpHandler_sense rfl).symm
  case burn =>
    intro d ⟨line, met, idle, ⟨alive, region, unlocked, used, bead, fits⟩, new⟩
    rw [burnLine_acts line otpHandler_burn rfl]
    exact otpBurn_burns idle met alive ⟨region, unlocked, used, bead⟩ fits new
  case reburn =>
    intro d ⟨line, met, idle, ⟨alive, region, unlocked, used, bead, fits⟩, weak⟩
    rw [burnLine_acts line otpHandler_reburn rfl]
    exact otpBurn_reburns idle met alive ⟨region, unlocked, used, bead⟩ fits weak
  case revoke =>
    intro d ⟨line, met, idle, alive, room⟩
    have ot := setWindow_ot win.toNat idle.1
    have fuses : (setWindow win.toNat d).ot.fuses = d.ot.fuses := by rw [ot]
    rw [burnLine_acts line otpHandler_revoke rfl]
    obtain ⟨waits, engine, busy, -⟩ := otpBurn_revokes (via := via) (obj := Obj.revoke)
      (arg := 11 + (valsOf ⟨[], [numKey "slot" 0 2 true]⟩ ⟨[], args⟩).num "slot") (setWindow_idle win.toNat idle) met
      (by rwa [lifeCycle_congr fuses]) (slot_known args) (by rwa [ctrFull, securityCount_congr fuses])
    refine ⟨waits, busy, ?_, ?_, ?_⟩
    · rw [pulseNow, engine]
      rfl
    · rw [engine, ← fuses]
    · rw [engine, ctrWordsWeak_congr fuses]
      rfl
  case lock =>
    intro d ⟨line, named, met, idle, alive, new⟩
    rw [burnLine_acts line otpHandler_lock (if_pos named)]
    exact otpBurn_locks idle met alive (lockArg_fits args) new
  case margin_queued =>
    intro d ⟨line, job⟩
    rw [otpLine_acts line otpHandler_margin rfl]
    exact otpAsk_queues (by simp [job])
  case check_queued =>
    intro d ⟨line, job⟩
    rw [otpLine_acts line otpHandler_check rfl]
    exact otpAsk_queues (by simp [job])
  case sense_queued =>
    intro d ⟨line, _, job⟩
    rw [otpLine_acts line otpHandler_sense rfl]
    exact otpAsk_queues (by simp [job])
  case burn_queued => exact fun d ⟨line, met, job⟩ => burnLine_queues line otpHandler_burn rfl met job
  case reburn_queued => exact fun d ⟨line, met, job⟩ => burnLine_queues line otpHandler_reburn rfl met job
  case revoke_queued => exact fun d ⟨line, met, job⟩ => burnLine_queues line otpHandler_revoke rfl met job
  case lock_queued => exact fun d ⟨line, named, met, job⟩ => burnLine_queues line otpHandler_lock (if_pos named) met job
  case burn_unmet => exact fun d ⟨line, unmet⟩ => burnLine_unmet line otpHandler_burn rfl unmet
  case reburn_unmet => exact fun d ⟨line, unmet⟩ => burnLine_unmet line otpHandler_reburn rfl unmet
  case revoke_unmet => exact fun d ⟨line, unmet⟩ => burnLine_unmet line otpHandler_revoke rfl unmet
  case lock_unmet => exact fun d ⟨line, named, unmet⟩ => burnLine_unmet line otpHandler_lock (if_pos named) unmet

end Sys2Proof.Proofs
end

section
/-! PROOFS. One field of a register edited as software would, and what a queue's write does beside its registers [07 R139; 10 R195-R204; 12 R237]. -/

namespace Sys2Proof.Proofs

open Sys2Proof.Machine Sys2Proof.Laws

/-! ### The word with a field replaced -/

theorem putField_eq (w : Nat) (f : Fld) (v : Nat) :
    putField w f v = 2 ^ f.lo * (2 ^ f.width * (w / 2 ^ f.lo / 2 ^ f.width) + v % 2 ^ f.width) + w % 2 ^ f.lo := by
  have outer := Nat.div_add_mod w (2 ^ f.lo)
  have inner := Nat.div_add_mod (w / 2 ^ f.lo) (2 ^ f.width)
  rw [putField, bitsAt, Nat.shiftRight_eq_div_pow]
  refine (congrArg (· + _) (Nat.sub_eq_of_eq_add ?_)).trans (b := 2 ^ f.lo * (2 ^ f.width * (w / 2 ^ f.lo / 2 ^ f.width)) + w % 2 ^ f.lo + _) ?_
  · conv_lhs => rw [← outer, ← inner]
    ring
  · ring

/-- The field's bits are the value's, and every other bit stays. -/
theorem testBit_putField (w : Nat) (f : Fld) (v i : Nat) :
    (putField w f v).testBit i = if f.lo ≤ i ∧ i < f.lo + f.width then v.testBit (i - f.lo) else w.testBit i := by
  rw [putField_eq, Nat.testBit_two_pow_mul_add _ (Nat.mod_lt _ (Nat.two_pow_pos _)), Nat.testBit_two_pow_mul_add _ (Nat.mod_lt _ (Nat.two_pow_pos _)),
    Nat.testBit_mod_two_pow, Nat.testBit_mod_two_pow, Nat.testBit_div_two_pow, Nat.testBit_div_two_pow]
  by_cases below : i < f.lo
  · simp [below, Nat.not_le.mpr below]
  · by_cases inside : i - f.lo < f.width
    · rw [if_neg below, if_pos inside, if_pos (by omega)]
      simp [inside]
    · rw [if_neg below, if_neg inside, if_neg (by omega), show i - f.lo - f.width + f.width + f.lo = i by omega]

theorem testBit_bitsAt (v lo n i : Nat) : (bitsAt v lo n).testBit i = (decide (i < n) && v.testBit (lo + i)) := by
  rw [bitsAt, Nat.testBit_mod_two_pow, Nat.testBit_shiftRight]

theorem bitsAt_putField_same (w : Nat) (f : Fld) (v : Nat) : bitsAt (putField w f v) f.lo f.width = v % 2 ^ f.width := by
  refine Nat.eq_of_testBit_eq fun i => ?_
  rw [testBit_bitsAt, testBit_putField, Nat.testBit_mod_two_pow]
  by_cases inside : i < f.width
  · simp [inside]
  · simp [inside]

theorem bitsAt_putField_other (w : Nat) {f g : Fld} (v : Nat) (apart : g.lo + g.width ≤ f.lo ∨ f.lo + f.width ≤ g.lo) :
    bitsAt (putField w f v) g.lo g.width = bitsAt w g.lo g.width := by
  refine Nat.eq_of_testBit_eq fun i => ?_
  rw [testBit_bitsAt, testBit_bitsAt, testBit_putField]
  by_cases inside : i < g.width
  · rw [if_neg (by omega)]
  · simp [inside]

/-! ### What the settling of a queue leaves alone -/

/-- From `d` to `t` queue `i` has settled: memory, the interpreter and every field that is not the queue's stand as they were. -/
structure QueueSettled (i : Fin 2) (d t : Dev) : Prop where
  mem : t.mem = d.mem
  st : t.st = d.st
  regs : SameRegs (F.SYS_COIN_TAG :: qFields i.val) d t

section

variable {i : Fin 2} {d e t : Dev}

theorem QueueSettled.refl (d : Dev) : QueueSettled i d d := ⟨rfl, rfl, fun _ _ => rfl⟩

theorem QueueSettled.trans (h : QueueSettled i d e) (k : QueueSettled i e t) : QueueSettled i d t :=
  ⟨k.mem.trans h.mem, k.st.trans h.st, fun f hf => (k.regs f hf).trans (h.regs f hf)⟩

theorem QueueSettled.ite {c : Prop} [Decidable c] (h : QueueSettled i d e) (k : QueueSettled i d t) : QueueSettled i d (if c then e else t) := by
  split
  · exact h
  · exact k

theorem settled_regs (mem : t.mem = d.mem) (st : t.st = d.st) (regs : t.regs = d.regs) : QueueSettled i d t := ⟨mem, st, fun f _ => r_congr regs f⟩

theorem settled_w {f : Fld} (own : f ∈ F.SYS_COIN_TAG :: qFields i.val) (v : Nat) (d : Dev) : QueueSettled i d (d.w f v) :=
  ⟨rfl, rfl, fun _ other => r_w_other d v fun same => other (same ▸ List.mem_map_of_mem own)⟩

theorem settled_onQ (g : Queue → Queue) (d : Dev) : QueueSettled i d (d.onQ i g) := .ite (settled_regs rfl rfl rfl) (settled_regs rfl rfl rfl)

theorem settled_qUnhold (d : Dev) : QueueSettled i d (qUnhold i d) := by
  unfold qUnhold
  split
  · exact .refl d
  next w _ =>
    have stored := (settled_onQ (i := i) (fun q => { q with words := q.words ++ [w], hold := none }) d).trans
      (settled_w (f := F.Q_STAT_PKT i.val) (by simp [qFields]) 1 _)
    exact .ite (.ite (stored.trans (settled_w (by simp [qFields]) 1 _)) stored) (.refl d)

theorem settled_qFullCheck (d : Dev) : QueueSettled i d (qFullCheck i d) :=
  .ite ((settled_onQ _ d).trans (settled_w (by simp [qFields]) 1 _)) (.refl d)

theorem settled_qCutCheck (d : Dev) : QueueSettled i d (qCutCheck i d) :=
  .ite ((settled_onQ _ d).trans (settled_w (by simp [qFields]) 1 _)) (.refl d)

theorem settled_qLatchTag (w : QWord) (d : Dev) : QueueSettled i d (qLatchTag i w d) := by
  have step {f : Fld} (own : f ∈ F.SYS_COIN_TAG :: qFields i.val) {e : Dev} (v : Nat) (h : QueueSettled i d e) : QueueSettled i d (e.w f v) :=
    h.trans (settled_w own v e)
  exact step (by simp [qFields]) _ (step (by simp [qFields]) _ (step (by simp [qFields]) _ (step (by simp [qFields]) _
    (step (by simp [qFields]) _ (step (by simp [qFields]) _ (.refl d))))))

/-- A pop's result goes to its far load, where it has one. -/
theorem settled_loadResult (load : Option Nat) (v : Nat) (d : Dev) :
    QueueSettled i d (match load with | none => d | some n => d.loadResult n v) := by
  cases load with
  | none => exact .refl d
  | some n => exact settled_regs rfl rfl rfl

theorem settled_qDeliver (load : Option Nat) (tie : Bool) (w : QWord) (d : Dev) : QueueSettled i d (qDeliver i load tie w d) := by
  have latched := (settled_qLatchTag (i := i) w d).trans (settled_onQ (fun q => { q with lastPop := w.data }) _)
  have tied (e : Dev) : QueueSettled i e (if tie then (e.set (F.Q_TAG_COIN i.val)).coin Tag.qu else e) :=
    .ite ((settled_w (by simp [qFields]) 1 e).trans (settled_w (f := F.SYS_COIN_TAG) (by simp) _ _)) (.refl e)
  exact (latched.trans (tied _)).trans (settled_loadResult load w.data _)

theorem settled_qTimedOut (load : Option Nat) (d : Dev) : QueueSettled i d (qTimedOut i load d) :=
  (((settled_qLatchTag _ d).trans (settled_w (by simp [qFields]) 1 _)).trans (settled_onQ _ _)).trans (settled_loadResult load 0 _)

theorem settled_qServe (n : Nat) (d : Dev) : QueueSettled i d (qServe i n d) := by
  induction n generalizing d with
  | zero => exact .refl d
  | succ n ih =>
    unfold qServe
    split
    next p ps w _ _ _ =>
      exact .ite (.refl d) (.ite (((settled_onQ _ d).trans (settled_qTimedOut _ _)).trans (ih _))
        ((((settled_onQ _ d).trans (settled_qDeliver _ _ w _)).trans (settled_qUnhold _)).trans (ih _)))
    · exact .refl d

theorem settled_qWatermark (d : Dev) : QueueSettled i d (qWatermark i d) := by
  have set {f : Fld} (own : f ∈ F.SYS_COIN_TAG :: qFields i.val) (v : Nat) (e : Dev) : QueueSettled i e (e.w f v) := settled_w own v e
  have shown (v : Nat) (m : Tab QMark) : QueueSettled i d { d.w (F.Q_STAT_WM i.val) v with qm := m } :=
    (set (f := F.Q_STAT_WM i.val) (by simp [qFields]) v d).trans (settled_regs rfl rfl rfl)
  exact .ite (.refl d) (.ite (((shown _ _).trans (set (by simp [qFields]) _ _)).trans (set (by simp [qFields]) _ _))
    (.ite ((shown _ _).trans (set (by simp [qFields]) 1 _)) ((shown _ _).trans (set (by simp [qFields]) 1 _))))

theorem settled_qSettle (d : Dev) : QueueSettled i d (qSettle i d) :=
  ((((settled_qUnhold d).trans (settled_qFullCheck _)).trans (settled_qCutCheck _)).trans (settled_qServe _ _)).trans (settled_qWatermark _)

end

end Sys2Proof.Proofs
end

section
/-! PROOFS. The verbs SET, GET and TRACE [12 R237, R249, Table SV-5]. -/

namespace Sys2Proof.Proofs

open Sys2Proof.Machine Sys2Proof.Laws

/-! ### The parameters of Table SV-5, edited one by one -/

/-- From `d` to `t` field `f` has taken the code `v`; memory and the interpreter stand as they were. -/
structure Edited (f : Fld) (v : Nat) (d t : Dev) : Prop where
  value : t.r f = v % 2 ^ f.width
  mem : t.mem = d.mem
  st : t.st = d.st

section

variable {f : Fld} {v : Nat} {d : Dev}

/-- A write that gives field `f` its own bits of the word edits it. -/
theorem edited_of_write (value : ∀ w, (busWrite f.addr w d).r f = bitsAt w f.lo f.width) (mem : ∀ w, (busWrite f.addr w d).mem = d.mem)
    (st : ∀ w, (busWrite f.addr w d).st = d.st) : Edited f v d (editField f v d) :=
  ⟨(value _).trans (bitsAt_putField_same _ f v), mem _, st _⟩

/-- A plain write gives an RW field its own bits. -/
theorem plainWrite_r_rw (w : Nat) (apart : ((fldsAt f.addr).map Fld.key).Nodup) (here : f ∈ fldsAt f.addr) (access : f.acc = .rw) :
    (plainWrite f.addr w d).r f = bitsAt w f.lo f.width := by
  rw [plainWrite_r_mem w d apart here, fieldAfter, access]

theorem plainWrite_mem (a w : Nat) (d : Dev) : (plainWrite a w d).mem = d.mem := by rw [plainWrite_frame]

theorem plainWrite_st (a w : Nat) (d : Dev) : (plainWrite a w d).st = d.st := by rw [plainWrite_frame]

theorem edited_plain (plain : f.addr ∈ plainRegs) (here : f ∈ fldsAt f.addr) (access : f.acc = .rw) : Edited f v d (editField f v d) := by
  have write (w : Nat) := busWrite_plainRegs w d plain
  refine edited_of_write (fun w => ?_) (fun w => ?_) fun w => ?_
  · rw [write, plainWrite_r_rw w (plainRegs_apart plain) here access]
  · rw [write, plainWrite_mem]
  · rw [write, plainWrite_st]

theorem edited_vset (setting : f ∈ vsetFields) : Edited f v d (editField f v d) := by
  have addr : f.addr = 0xE0000020 := by revert f; decide
  have write (w : Nat) : busWrite f.addr w d = vsetWrite w d := by rw [addr, busWrite_coreVset]
  refine edited_of_write (fun w => ?_) (fun w => ?_) fun w => ?_
  · rw [write, (vsetWrite_settings w d).1 f setting]
  · rw [write, (vsetWrite_settings w d).2]
  · rw [write, (vsetWrite_settings w d).2]

theorem edited_watermark {i : Fin 2} (write : ∀ w, busWrite f.addr w d = qSettle i (plainWrite f.addr w d))
    (apart : ((fldsAt f.addr).map Fld.key).Nodup) (here : f ∈ fldsAt f.addr) (access : f.acc = .rw)
    (other : f.key ∉ (F.SYS_COIN_TAG :: qFields i.val).map Fld.key) : Edited f v d (editField f v d) := by
  have settled (w : Nat) := settled_qSettle (i := i) (plainWrite f.addr w d)
  refine edited_of_write (fun w => ?_) (fun w => ?_) fun w => ?_
  · rw [write, (settled w).regs f other, plainWrite_r_rw w apart here access]
  · rw [write, (settled w).mem, plainWrite_mem]
  · rw [write, (settled w).st, plainWrite_st]

end

theorem uaCtlWritten_frame (d : Dev) : uaCtlWritten d = { d with ua := (uaCtlWritten d).ua } := by
  unfold uaCtlWritten
  split <;> rfl

theorem edited_ltmo (v : Nat) (d : Dev) : Edited F.UA_CTL_LTMO v d (editField F.UA_CTL_LTMO v d) := by
  have write (w : Nat) : busWrite F.UA_CTL_LTMO.addr w d = uaCtlWritten (plainWrite F.UA_CTL_LTMO.addr w d) := rfl
  refine edited_of_write (fun w => ?_) (fun w => ?_) fun w => ?_
  · rw [write, r_congr (e := plainWrite F.UA_CTL_LTMO.addr w d) (by rw [uaCtlWritten_frame]), plainWrite_r_rw w (by decide) (by decide) rfl]
  · rw [write, uaCtlWritten_frame, plainWrite_mem]
  · rw [write, uaCtlWritten_frame, plainWrite_st]

/-- CK_LADDER takes AUTOHOLD, and may take a request. -/
theorem edited_autohold (v : Nat) (d : Dev) : Edited F.CK_LADDER_AUTOHOLD v d (editField F.CK_LADDER_AUTOHOLD v d) := by
  have write (w : Nat) : busWrite F.CK_LADDER_AUTOHOLD.addr w d = d.w F.CK_LADDER_AUTOHOLD (bitsAt w 8 1) ∨
      busWrite F.CK_LADDER_AUTOHOLD.addr w d = (d.w F.CK_LADDER_AUTOHOLD (bitsAt w 8 1)).w F.CK_LADDER_REQ (w % 8) := ite_eq_or_eq ..
  have taken (w : Nat) : (d.w F.CK_LADDER_AUTOHOLD (bitsAt w 8 1)).r F.CK_LADDER_AUTOHOLD = bitsAt w 8 1 :=
    (r_w_same ..).trans (Nat.mod_mod _ _)
  refine edited_of_write (fun w => ?_) (fun w => ?_) fun w => ?_
  all_goals rcases write w with eq | eq
  all_goals rw [eq]
  · exact taken w
  · exact (r_w_other _ _ (by decide)).trans (taken w)
  all_goals rfl

/-- Each parameter's edit writes its field, and leaves memory and the interpreter alone. -/
theorem edited_param {p : Param} (param : p ∈ params) (v : Nat) (d : Dev) : Edited p.fld v d (editField p.fld v d) := by
  simp only [params, List.mem_cons, List.not_mem_nil, or_false] at param
  rcases param with rfl | rfl | rfl | rfl | rfl | rfl | rfl | rfl | rfl | rfl | rfl | rfl
  · exact edited_plain (by decide) (by decide) rfl
  · exact edited_vset (by decide)
  · exact edited_vset (by decide)
  · exact edited_vset (by decide)
  · exact edited_vset (by decide)
  · exact edited_watermark (i := 0) (fun _ => rfl) (by decide) (by decide) rfl (by decide)
  · exact edited_watermark (i := 0) (fun _ => rfl) (by decide) (by decide) rfl (by decide)
  · exact edited_watermark (i := 1) (fun _ => rfl) (by decide) (by decide) rfl (by decide)
  · exact edited_watermark (i := 1) (fun _ => rfl) (by decide) (by decide) rfl (by decide)
  · exact edited_ltmo v d
  · exact edited_autohold v d
  · exact edited_plain (by decide) (by decide) rfl

/-- Every parameter's field is another than the two counts an answer may move. -/
theorem param_unspoken {p : Param} (param : p ∈ params) : p.fld.key ∉ [F.SYS_BOOTERR_CODE, F.UA_STAT_EVCNT].map Fld.key := by
  simp only [params, List.mem_cons, List.not_mem_nil, or_false] at param
  rcases param with rfl | rfl | rfl | rfl | rfl | rfl | rfl | rfl | rfl | rfl | rfl | rfl <;> decide

/-! ### The lines of SET, GET and TRACE -/

/-- The form of SET. -/
abbrev setForm : Form := ⟨[], params.map fun p => ⟨p.name, p.kind, false⟩⟩

/-- The line `text` of the verb `verb` is taken while an image runs. -/
abbrev VerbLine (via : Via) (text : Bytes) (name verb : String) (t : Toks) (d : Dev) : Prop :=
  LineReady via d ∧ started d = true ∧ lineArgs name verb text = some t

section

variable {via : Via} {text : Bytes} {d : Dev}

/-- Before the line no verb and no tunnelled line is in progress. -/
theorem verbLine_free {name verb : String} {t : Toks} (line : VerbLine via text name verb t d) : responding d = false := by
  obtain ⟨⟨-, -, free, -⟩, -⟩ := line
  exact free

/-- A line without a form of its own acts at once. -/
theorem verbLine_plain {name verb : String} {t u : Toks} {n : Nat} {act : Ctx → Dev → Dev} (line : VerbLine via text name verb t d)
    (isVerb : verbNames[n]? = some verb) (other : n ≠ 4 ∧ n ≠ 5) (handler : handlerOf d [] [] n t = some (plainHandler u act))
    (bare : Fits ⟨[], []⟩ u) :
    verbLine (Via.ctx via) name [] [] (Bytes.nats text) d = answers via act d := by
  obtain ⟨ready, running, words⟩ := line
  exact verbLine_acts ready words isVerb handler (verbState_started running other) bare rfl

theorem setLine_acts {args : List (List Nat × List Nat)} {p : Param}
    (line : VerbLine via text "SET" "SET" ⟨[], args⟩ d) (fits : Fits setForm ⟨[], args⟩)
    (given : params.find? (fun p => (valsOf setForm ⟨[], args⟩).has p.name) = some p) (one : (valsOf setForm ⟨[], args⟩).keys.length = 1) :
    verbLine (Via.ctx via) "SET" [] [] (Bytes.nats text) d =
      answers via (fun c d => ok c (editField p.fld (p.code ((valsOf setForm ⟨[], args⟩).num p.name)) d)) d := by
  obtain ⟨ready, running, words⟩ := line
  have acts := verbLine_acts (a := []) (b := []) ready words (n := 9) rfl rfl (verbState_started running (by decide)) fits (if_pos one)
  rw [acts]
  refine answers_congr ?_
  simp only [setHandler]
  rw [given]

/-! ### The handlers of GET and TRACE -/

theorem bare_fits : Fits ⟨[], []⟩ ⟨[], []⟩ := ⟨rfl, rfl⟩

theorem getHandler_all {x : List Nat} (all : isWord "all" x = true) :
    getHandler ⟨[x], []⟩ = some (plainHandler ⟨[], []⟩ fun c d => okWith (params.map (paramLine d)) c d) := if_pos all

theorem getHandler_param {x : List Nat} {p : Param} (given : params.find? (fun p => isWord p.name x) = some p) (other : isWord "all" x = false) :
    getHandler ⟨[x], []⟩ = some (plainHandler ⟨[], []⟩ fun c d => okWith [paramLine d p] c d) := by
  refine (if_neg (by simp [other])).trans ?_
  rw [given]
  rfl

theorem traceHandler_on {xs : List (List Nat)} {is : List Nat} (names : traceNames true xs = some is) :
    traceHandler ⟨ascii "ON" :: xs, []⟩ = some (plainHandler ⟨[], []⟩ (doTrace true is)) := by
  have on : isWord "on" (ascii "ON") = true := by decide
  simp only [traceHandler, on, if_true, names]
  rfl

theorem traceHandler_off {xs : List (List Nat)} {is : List Nat} (names : traceNames false xs = some is) :
    traceHandler ⟨ascii "OFF" :: xs, []⟩ = some (plainHandler ⟨[], []⟩ (doTrace false is)) := by
  have off : isWord "on" (ascii "OFF") = false ∧ isWord "off" (ascii "OFF") = true := by decide
  simp only [traceHandler, off.1, off.2, Bool.false_eq_true, if_false, if_true, names]
  rfl

theorem traceHandler_show : traceHandler ⟨[ascii "SHOW"], []⟩ = some (plainHandler ⟨[], []⟩ doTraceShow) := rfl

/-! ### The events that TRACE turns on and off -/

/-- The events `is` are turned on, or off. -/
def traced (on : Bool) (is : List Nat) (d : Dev) : Dev :=
  d.onSt fun s =>
    { s with off := (List.range 12).filter fun i => decide (i ≠ 6) && (if on then s.off.contains i && !is.contains i else s.off.contains i || is.contains i) }

section

variable {is : List Nat} {t : Dev} {i : Nat} (event : i < 12)
include event

theorem eventOn_traced_on (off : t.st.off = (traced true is d).st.off) : eventOn t i = (decide (i = 6) || is.contains i || eventOn d i) := by
  rw [eventOn, off]
  simp only [traced, Dev.onSt, List.contains_eq_mem, List.mem_filter, List.mem_range, event, eventOn]
  by_cases tamper : i = 6
  · simp [tamper]
  · by_cases named : i ∈ is
    · simp [tamper, named]
    · simp [tamper, named]

theorem eventOn_traced_off (off : t.st.off = (traced false is d).st.off) : eventOn t i = (decide (i = 6) || (!is.contains i && eventOn d i)) := by
  rw [eventOn, off]
  simp only [traced, Dev.onSt, List.contains_eq_mem, List.mem_filter, List.mem_range, event, eventOn]
  by_cases tamper : i = 6
  · simp [tamper]
  · by_cases named : i ∈ is
    · simp [tamper, named]
    · simp [tamper, named]

end

end

/-- Settles O28: SET comes down to one edit of its parameter's field, which the answer does not touch; TRACE to the list of the events turned off. -/
theorem parameterAndTraceVerbs : Obligations.ParameterAndTraceVerbs := by
  unfold Obligations.ParameterAndTraceVerbs
  intro via text x xs args p
  refine ⟨fun given one => ⟨runs_of_onDev (fun _ => rfl) ?set, does_of_onDev (fun _ => rfl) ?set_holds⟩,
    fun given other => runs_of_onDev (fun _ => rfl) ?get, runs_of_onDev (fun _ => rfl) ?get_all,
    fun is names => does_of_onDev (fun _ => rfl) ?on_holds, fun is names => does_of_onDev (fun _ => rfl) ?off_holds,
    fun is names => runs_of_onDev (fun _ => rfl) ?on, fun is names => runs_of_onDev (fun _ => rfl) ?off, runs_of_onDev (fun _ => rfl) ?shown⟩
  case set => exact fun d ⟨line, fits⟩ => setLine_acts line fits given one
  case set_holds =>
    intro d ⟨line, fits, _⟩
    have param : p ∈ params := List.mem_of_find?_eq_some given
    have edited := edited_param param (p.code ((valsOf setForm ⟨[], args⟩).num p.name)) (acceptLine (Via.ctx via) d)
    have spoken := spoken_answers via (editField p.fld (p.code ((valsOf setForm ⟨[], args⟩).num p.name))) d
    rw [setLine_acts line fits given one]
    refine ⟨(spoken.r (param_unspoken param)).trans edited.value, ?_, ?_, spoken.mem.trans edited.mem⟩
    · rw [spoken.evPath, edited.st]
      rfl
    · rw [spoken.wait, edited.st]
      exact responding_wait (verbLine_free line)
  case get =>
    intro d line
    exact verbLine_plain line (n := 10) rfl (by decide) (getHandler_param given other) bare_fits
  case get_all =>
    intro d ⟨line, all⟩
    exact verbLine_plain line (n := 10) rfl (by decide) (getHandler_all all) bare_fits
  case on => exact fun d line => verbLine_plain line (n := 20) rfl (by decide) (traceHandler_on names) bare_fits
  case off => exact fun d line => verbLine_plain line (n := 20) rfl (by decide) (traceHandler_off names) bare_fits
  case shown => exact fun d line => verbLine_plain line (n := 20) rfl (by decide) traceHandler_show bare_fits
  case on_holds =>
    intro d line
    rw [verbLine_plain line (n := 20) rfl (by decide) (traceHandler_on names) bare_fits]
    have spoken := spoken_answers via (traced true is) d
    exact ⟨fun i event => eventOn_traced_on (d := acceptLine (Via.ctx via) d) event spoken.off, spoken.evPath, spoken.mem, spoken.co⟩
  case off_holds =>
    intro d line
    rw [verbLine_plain line (n := 20) rfl (by decide) (traceHandler_off names) bare_fits]
    have spoken := spoken_answers via (traced false is) d
    exact ⟨fun i event => eventOn_traced_off (d := acceptLine (Via.ctx via) d) event spoken.off, spoken.evPath, spoken.mem, spoken.co⟩

end Sys2Proof.Proofs
end

section
/-! PROOFS. The lines of the HEAD, RING and ENC verbs, and the HEAD verbs [12 R245-R247; 20 R393-R395]. -/

namespace Sys2Proof.Proofs

open Sys2Proof.Machine Sys2Proof.Laws

/-! ### A unit's number -/

section

variable {x : List Nat} {n : Nat} (number : numberIn .plain x = .ok (n : Int))
include number

/-- The unit of the line is the number it names. -/
theorem unit_number (ks : List Key) (lo hi : Int) (args : List (List Nat × List Nat)) : (formVals ⟨[(lo, hi)], ks⟩ [x] args).p 0 = n := by
  unfold formVals Args.p
  rw [List.map_cons, number]
  rfl

theorem unitNo_number (args : List (List Nat × List Nat)) : unitNo ⟨[x], args⟩ = n := by
  unfold unitNo
  simp only
  rw [number]
  rfl

/-- A line with nothing but a unit in range fits. -/
theorem unit_fits {hi : Int} (range : (n : Int) ≤ hi) : Fits ⟨[(0, hi)], []⟩ ⟨[x], []⟩ := by
  have read : readVal (.num .plain 0 hi) x = .ok (.int n) := by
    have inRange : (0 : Int) ≤ n ∧ (n : Int) ≤ hi ∧ milliOk .plain x = true := ⟨Int.natCast_nonneg n, range, rfl⟩
    have byNumber : readVal (.num .plain 0 hi) x =
        if (0 : Int) ≤ n ∧ (n : Int) ≤ hi ∧ milliOk .plain x = true then Except.ok (Val.int n) else Except.error 8 :=
      congrArg (fun r : Except Nat Int => (match r with
        | .error e => .error e
        | .ok v => if 0 ≤ v ∧ v ≤ hi ∧ milliOk .plain x = true then .ok (.int v) else .error 8 : Except Nat Val)) number
    exact byNumber.trans (if_pos inRange)
  have isNumber : numErr (.num .plain 0 0) x = 0 :=
    congrArg (fun r : Except Nat Int => match r with | .error e => e | .ok _ => 0) number
  constructor
  · show firstErr [numErr (.num .plain 0 0) x] = 0
    rw [isNumber]
    rfl
  · show firstErr ([valErr (readVal (.num .plain 0 hi) x)].filter (· = 10) ++ [valErr (readVal (.num .plain 0 hi) x)] ++ []) = 0
    rw [read]
    rfl

end

/-! ### What a verb leaves that waits or answers -/

section

variable {via : Via} {d : Dev} {g : Dev → Dev}

/-- From `d` to `t` a verb has begun to wait for `l`. -/
abbrev VerbWaits (via : Via) (l : Long) (d t : Dev) : Prop :=
  t.st = { d.st with evPath := (Via.ctx via).path, evMember := (Via.ctx via).member, wait := some (Via.ctx via, l) } ∧ t.mem = d.mem

/-- From `d` to `t` a verb has answered. -/
abbrev VerbSaid (via : Via) (d t : Dev) : Prop := t.st.wait = none ∧ t.st.evPath = (Via.ctx via).path ∧ t.mem = d.mem

/-- What a verb that waits has done is what its command does to the accepted line. -/
theorem answers_wait (via : Via) (l : Long) (g : Dev → Dev) (d : Dev) : answers via (fun c d => waitVerb c l (g d)) d =
    (waitVerb (Via.ctx via) l (g (acceptLine (Via.ctx via) d))).onSt fun s => { s with rose := d.st.rose } := rfl

theorem waits_of_st {e : Dev} (l : Long) (st : e.st = (acceptLine (Via.ctx via) d).st) (mem : e.mem = d.mem) :
    VerbWaits via l d ((waitVerb (Via.ctx via) l e).onSt fun s => { s with rose := d.st.rose }) := by
  refine ⟨?_, mem⟩
  simp only [waitVerb, Dev.onSt, st]
  rfl

/-- A verb whose command leaves memory, the waiting verb and the event path alone has answered. -/
theorem said_of_kept (free : responding d = false) (wait : (g (acceptLine (Via.ctx via) d)).st.wait = d.st.wait)
    (path : (g (acceptLine (Via.ctx via) d)).st.evPath = (Via.ctx via).path) (mem : (g (acceptLine (Via.ctx via) d)).mem = d.mem) :
    VerbSaid via d (answers via (fun c e => ok c (g e)) d) := by
  have spoken := spoken_answers via g d
  exact ⟨spoken.wait.trans (wait.trans (responding_wait free)), spoken.evPath.trans path, spoken.mem.trans mem⟩

/-- So does one whose command does not touch the interpreter. -/
theorem said_of_st (free : responding d = false) (st : (g (acceptLine (Via.ctx via) d)).st = (acceptLine (Via.ctx via) d).st)
    (mem : (g (acceptLine (Via.ctx via) d)).mem = d.mem) : VerbSaid via d (answers via (fun c e => ok c (g e)) d) :=
  said_of_kept free (by rw [st]; rfl) (by rw [st]; rfl) mem

end

/-! ### A line of a HEAD verb -/

/-- A line of the HEAD verb `obj` about port `n` that has no arguments is taken while an image runs. -/
abbrev HeadLine (via : Via) (text : Bytes) (x : List Nat) (args : List (List Nat × List Nat)) (name obj : String) (d : Dev) : Prop :=
  VerbLine via text name "HEAD" ⟨[ascii obj, x], args⟩ d ∧ args = []

theorem headHandler_set (x : List Nat) (args : List (List Nat × List Nat)) : headHandler ⟨[ascii "SET", x], args⟩ =
    some ⟨⟨[(0, 5)], [⟨"skew", .num .ns 0 1000, false⟩, wordKey "policy" ["same", "any"]]⟩, ⟨[x], args⟩, fun _ => 0, doHeadSet⟩ := rfl

theorem headHandler_on (x : List Nat) : headHandler ⟨[ascii "ON", x], []⟩ =
    some ⟨⟨[(0, 5)], []⟩, ⟨[x], []⟩, fun _ => 0, fun c a => doHeadOn (a.p 0) c⟩ := rfl

theorem headHandler_hitch (x : List Nat) : headHandler ⟨[ascii "HITCH", x], []⟩ =
    some ⟨⟨[(0, 5)], []⟩, ⟨[x], []⟩, fun _ => 0, fun c a => doHeadHitch (a.p 0) c⟩ := rfl

theorem headHandler_off (x : List Nat) : headHandler ⟨[ascii "OFF", x], []⟩ =
    some ⟨⟨[(0, 5)], []⟩, ⟨[x], []⟩, fun _ => 0, fun c a d => ok c (hpOff (a.p 0) d)⟩ := rfl

theorem headHandler_show (x : List Nat) : headHandler ⟨[ascii "SHOW", x], []⟩ =
    some ⟨⟨[(0, 5)], []⟩, ⟨[x], []⟩, fun _ => 0, fun c a => doHeadShow (a.p 0) c⟩ := rfl

section

variable {via : Via} {text : Bytes} {x : List Nat} {args : List (List Nat × List Nat)} {n : Nat} {d : Dev}
  (number : numberIn .plain x = .ok (n : Int)) (port : n < 6)
include number port

/-- The line of a HEAD verb without keys acts on its port. -/
theorem headLine_acts {name obj : String} {act : Nat → Ctx → Dev → Dev} (line : HeadLine via text x args name obj d)
    (handler : headHandler ⟨[ascii obj, x], []⟩ = some ⟨⟨[(0, 5)], []⟩, ⟨[x], []⟩, fun _ => 0, fun c a => act (a.p 0) c⟩) :
    verbLine (Via.ctx via) name [] [] (Bytes.nats text) d = answers via (act n) d := by
  obtain ⟨⟨ready, running, words⟩, rfl⟩ := line
  have acts := verbLine_acts (a := []) (b := []) ready words (n := 15) rfl handler (verbState_started running (by decide)) (unit_fits number (by omega)) rfl
  rw [acts]
  exact answers_congr (congrArg (fun p => act p (Via.ctx via) (acceptLine (Via.ctx via) d)) (unit_number number [] 0 5 []))

end

/-! ### A hitching begun [20 R393] -/

/-- Port `p` is HITCHING, its first HELLO is due, and nothing else waits there. -/
abbrev Hitching (p : Nat) (t : Dev) : Prop :=
  t.r (F.HP_STAT_STATE p) = 1 ∧ (t.head p).hello = true ∧ (t.head p).param = false ∧ (t.head p).await = .none ∧ (t.head p).tries = 0 ∧
    (t.head p).due = 0 ∧ (t.head p).bye = false

/-- The fields that a hitching's start can write. -/
def hitchFields (p : Nat) : List Fld := [F.HP_LAT_LAT p, F.HP_PER_PERIOD p, F.HP_WIN_WINDOW p, F.HP_STAT_STATE p]

/-- From `d` to `t` port `p`'s block has changed: its head, and those fields alone that `fs` names. -/
structure PortChanged (p : Nat) (fs : List Fld) (d t : Dev) : Prop where
  frame : t = { d with regs := t.regs, hp := t.hp }
  heads : ∀ j, j ≠ p → t.head j = d.head j
  regs : SameRegs fs d t

theorem PortChanged.st {p : Nat} {fs : List Fld} {d t : Dev} (h : PortChanged p fs d t) : t.st = d.st := by rw [h.frame]

theorem PortChanged.mem {p : Nat} {fs : List Fld} {d t : Dev} (h : PortChanged p fs d t) : t.mem = d.mem := by rw [h.frame]

theorem PortChanged.trans {p : Nat} {fs gs : List Fld} {d e t : Dev} (h : PortChanged p fs d e) (k : PortChanged p gs e t) :
    PortChanged p (fs ++ gs) d t :=
  ⟨k.frame.trans (by rw [h.frame]), fun j other => (k.heads j other).trans (h.heads j other), sameRegs_append h.regs k.regs⟩

theorem portChanged_onH (p : Nat) (g : Head → Head) (d : Dev) : PortChanged p [] d (d.onH p g) :=
  ⟨rfl, fun j other => by rw [head_onH, if_neg other], fun _ _ => rfl⟩

theorem portChanged_w (p : Nat) (f : Fld) (v : Nat) (d : Dev) : PortChanged p [f] d (d.w f v) := ⟨rfl, fun _ _ => rfl, sameRegs_w d f v⟩

theorem portChanged_hitchRestore (p : Nat) (d : Dev) : PortChanged p [F.HP_LAT_LAT p, F.HP_PER_PERIOD p, F.HP_WIN_WINDOW p] d (hitchRestore p d) := by
  unfold hitchRestore
  split
  · exact (((portChanged_w p _ _ d).trans (portChanged_w p _ _ _)).trans (portChanged_w p _ _ _)).trans (portChanged_onH p _ _)
  · exact ⟨rfl, fun _ _ => rfl, fun _ _ => rfl⟩

theorem portChanged_hitchStart (p : Nat) (d : Dev) : PortChanged p (hitchFields p) d (hitchStart p d) :=
  (((portChanged_hitchRestore p d).trans (portChanged_onH p _ _)).trans (portChanged_w p _ 1 _)).trans (portChanged_onH p _ _)

theorem hitchStart_hitching (p : Nat) (d : Dev) : Hitching p (hitchStart p d) := by
  have quiet : (hitchStart p d).head p = { (hitchQuiet p (hitchRestore p d)).head p with hello := true, bye := false } := by
    rw [hitchStart, head_onH, if_pos rfl]
    rfl
  refine ⟨r_w_same (hitchQuiet p (hitchRestore p d)) (F.HP_STAT_STATE p) 1, ?_⟩
  rw [quiet, hitchQuiet, head_onH, if_pos rfl]
  exact ⟨rfl, rfl, rfl, rfl, rfl, rfl⟩

/-- Port `p` has left service by OFF or HITCH, before its slots are withdrawn. -/
def outOfService (p : Nat) (d : Dev) : Dev :=
  dropStaging p ((((hitchQuiet p (headNote p d)).w (F.HP_STAT_STATE p) 3).w (F.HP_STAT_LCAUSE p) 4).onH p fun h =>
    { h with notices := [], taints := [], flowDue := false, trig := false, checks := [], bye := false })

/-- What the Sower saw is kept in the heads alone. -/
theorem headNote_heads (p : Nat) (d : Dev) : ∃ hs, headNote p d = { d with hp := hs } := by
  unfold headNote
  split
  · split
    · exact ⟨d.hp, rfl⟩
    · exact ⟨_, rfl⟩
  · exact ⟨_, rfl⟩

theorem outOfService_kept (p : Nat) (d : Dev) :
    (outOfService p d).sw = d.sw ∧ (outOfService p d).mem = d.mem := by
  obtain ⟨hs, noted⟩ := headNote_heads p d
  unfold outOfService
  rw [noted]
  exact ⟨rfl, rfl⟩

/-- With no slot to withdraw that is all. -/
theorem leaveService_unslotted (p : Nat) {d : Dev} (none : d.sw.slots = []) : leaveService p 3 4 d = outOfService p d := by
  obtain ⟨sower, -⟩ := outOfService_kept p d
  have slots : (outOfService p d).sw.slots = [] := by rw [sower, none]
  unfold leaveService
  simp only
  rw [if_neg (by decide)]
  exact congrArg (fun l => forAll l (withdraw true) (outOfService p d)) (slotsIf_noSlots slots _)

theorem outOfService_lcause (p : Nat) (d : Dev) : (outOfService p d).r (F.HP_STAT_LCAUSE p) = 4 :=
  r_w_same ((hitchQuiet p (headNote p d)).w (F.HP_STAT_STATE p) 3) (F.HP_STAT_LCAUSE p) 4

theorem hitchStart_lcause (p : Nat) (d : Dev) : (hitchStart p d).r (F.HP_STAT_LCAUSE p) = d.r (F.HP_STAT_LCAUSE p) := by
  refine (portChanged_hitchStart p d).regs _ ?_
  simp [hitchFields, Fld.key, F.HP_STAT_LCAUSE, F.HP_LAT_LAT, F.HP_PER_PERIOD, F.HP_WIN_WINDOW, F.HP_STAT_STATE]
  omega

/-! ### The commands ON, HITCH and OFF by the port's state [20 R393-R395, Table HP-5] -/

section

variable {p : Nat} {d : Dev} (port : p < 6)

theorem hpOn_hitching (state : d.r (F.HP_STAT_STATE p) = 1) : hpOn p d = d := if_neg fun h => by simp [state] at h

include port

theorem hpOn_fallow (state : d.r (F.HP_STAT_STATE p) = 3) : hpOn p d = hitchStart p d := if_pos ⟨port, state⟩

theorem hpHitch_off (state : d.r (F.HP_STAT_STATE p) = 1 ∨ d.r (F.HP_STAT_STATE p) = 3) : hpHitch p d = hitchStart p d := by
  have off : portOn d p = false := by rcases state with h | h <;> simp [portOn, h]
  refine (if_neg (by omega)).trans ?_
  rw [off]
  rfl

theorem hpHitch_on (state : d.r (F.HP_STAT_STATE p) = 2) : hpHitch p d = hitchStart p (leaveService p 3 4 d) := by
  have on : portOn d p = true := by simp [portOn, port, state]
  refine (if_neg (by omega)).trans ?_
  rw [on]
  rfl

theorem hpOff_on (state : d.r (F.HP_STAT_STATE p) = 2) (quiet : (d.head p).bye = false) :
    hpOff p d = d.onH p fun h => { h with bye := true, byeEnd := d.ns + 1000000 } := by
  have on : portOn d p = true := by simp [portOn, port, state]
  exact (if_neg (by simp [state])).trans (if_pos ⟨on, quiet⟩)

omit port

/-- OFF has nothing to do at a port out of service, or where its BYE waits already. -/
theorem hpOff_done (state : d.r (F.HP_STAT_STATE p) = 0 ∨ d.r (F.HP_STAT_STATE p) = 3 ∨ (d.r (F.HP_STAT_STATE p) = 2 ∧ (d.head p).bye = true)) :
    hpOff p d = d := by
  rcases state with h | h | ⟨h, bye⟩
  · simp [hpOff, portOn, h]
  · simp [hpOff, portOn, h]
  · simp [hpOff, portOn, h, bye]

/-- OFF abandons a hitch. -/
theorem hpOff_hitching (state : d.r (F.HP_STAT_STATE p) = 1) : (hpOff p d).r (F.HP_STAT_STATE p) = 3 ∧ (hpOff p d).r (F.HP_STAT_LCAUSE p) = 4 ∧
    ((hpOff p d).head p).hello = false ∧ ((hpOff p d).head p).await = .none ∧ (hpOff p d).st = d.st ∧ (hpOff p d).mem = d.mem := by
  have restored := portChanged_hitchRestore p d
  have apart : (F.HP_STAT_STATE p).key ≠ (F.HP_STAT_LCAUSE p).key := by simp [Fld.key, F.HP_STAT_STATE, F.HP_STAT_LCAUSE]
  have quiet : (hitchQuiet p (hitchRestore p d)).head p = { (hitchRestore p d).head p with
      hello := false, param := false, poll := false, await := .none, tries := 0, due := 0, silent := 0, changed := false } := by
    rw [hitchQuiet, head_onH, if_pos rfl]
  have off : hpOff p d = ((hitchQuiet p (hitchRestore p d)).w (F.HP_STAT_STATE p) 3).w (F.HP_STAT_LCAUSE p) 4 := if_pos state
  have head : (hpOff p d).head p = (hitchQuiet p (hitchRestore p d)).head p := by rw [off]; rfl
  rw [head, quiet, off]
  exact ⟨(r_w_other _ _ apart).trans (r_w_same ..), r_w_same .., rfl, rfl, restored.st, restored.mem⟩

end

/-! ### The verbs ON, HITCH and OFF -/

section

variable {via : Via} {p : Nat} {d : Dev} (port : p < 6)

theorem answers_headOn_waits (absent : d.r (F.HP_STAT_STATE p) ≠ 0) (off : d.r (F.HP_STAT_STATE p) ≠ 2) :
    answers via (doHeadOn p) d = answers via (fun c d => waitVerb c (.head p false) (hpOn p d)) d :=
  answers_congr ((if_neg absent).trans (if_neg off))

theorem answers_headHitch_waits (present : d.r (F.HP_STAT_STATE p) ≠ 0) :
    answers via (doHeadHitch p) d = answers via (fun c d => waitVerb c (.head p true) (hpHitch p d)) d :=
  answers_congr (if_neg present)

/-- A hitching begun by a verb that waits for its end. -/
theorem hitchStart_waits (l : Long) {g : Dev → Dev} (start : g (acceptLine (Via.ctx via) d) = hitchStart p (acceptLine (Via.ctx via) d)) :
    Hitching p (answers via (fun c d => waitVerb c l (g d)) d) ∧ VerbWaits via l d (answers via (fun c d => waitVerb c l (g d)) d) ∧
      ∀ j, j ≠ p → (answers via (fun c d => waitVerb c l (g d)) d).head j = d.head j := by
  rw [answers_wait, start]
  have changed := portChanged_hitchStart p (acceptLine (Via.ctx via) d)
  exact ⟨hitchStart_hitching p (acceptLine (Via.ctx via) d), waits_of_st l changed.st changed.mem, changed.heads⟩

include port

theorem headOn_fallow (state : d.r (F.HP_STAT_STATE p) = 3) : Hitching p (answers via (doHeadOn p) d) ∧
    VerbWaits via (.head p false) d (answers via (doHeadOn p) d) ∧ ∀ j, j ≠ p → (answers via (doHeadOn p) d).head j = d.head j := by
  rw [answers_headOn_waits (by omega) (by omega)]
  exact hitchStart_waits _ (hpOn_fallow (d := acceptLine (Via.ctx via) d) port state)

theorem headHitch_off (state : d.r (F.HP_STAT_STATE p) = 1 ∨ d.r (F.HP_STAT_STATE p) = 3) : Hitching p (answers via (doHeadHitch p) d) ∧
    VerbWaits via (.head p true) d (answers via (doHeadHitch p) d) ∧ ∀ j, j ≠ p → (answers via (doHeadHitch p) d).head j = d.head j := by
  rw [answers_headHitch_waits (by omega)]
  exact hitchStart_waits _ (hpHitch_off (d := acceptLine (Via.ctx via) d) port state)

/-- HITCH of a port ON takes it out of service first. -/
theorem headHitch_on (state : d.r (F.HP_STAT_STATE p) = 2) (none : d.sw.slots = []) : Hitching p (answers via (doHeadHitch p) d) ∧
    (answers via (doHeadHitch p) d).r (F.HP_STAT_LCAUSE p) = 4 ∧ (answers via (doHeadHitch p) d).st.wait = some (Via.ctx via, .head p true) ∧
    (answers via (doHeadHitch p) d).mem = d.mem := by
  have hitch := hpHitch_on (d := acceptLine (Via.ctx via) d) port state
  rw [leaveService_unslotted p (d := acceptLine (Via.ctx via) d) none] at hitch
  rw [answers_headHitch_waits (by omega), answers_wait, hitch]
  obtain ⟨-, kept⟩ := outOfService_kept p (acceptLine (Via.ctx via) d)
  have mem : (hitchStart p (outOfService p (acceptLine (Via.ctx via) d))).mem = d.mem := (portChanged_hitchStart p _).mem.trans kept
  have lcause := outOfService_lcause p (acceptLine (Via.ctx via) d)
  generalize outOfService p (acceptLine (Via.ctx via) d) = e at *
  exact ⟨hitchStart_hitching p e, (hitchStart_lcause p e).trans lcause, rfl, mem⟩

end

/-! ### The verb SET -/

theorem skew_register {p : Nat} (port : p < 6) :
    F.HP_TCFG_SKEW p ∈ fldsAt (F.HP_TCFG_SKEW p).addr ∧ ((fldsAt (F.HP_TCFG_SKEW p).addr).map Fld.key).Nodup := by
  revert p
  decide

theorem busWrite_skew {p : Nat} (port : p < 6) (v : Nat) (d : Dev) : busWrite (F.HP_TCFG_SKEW p).addr v d = plainWrite (F.HP_TCFG_SKEW p).addr v d := by
  interval_cases p <;> rfl

theorem editField_skew {p : Nat} (port : p < 6) (v : Nat) (d : Dev) :
    (editField (F.HP_TCFG_SKEW p) v d).r (F.HP_TCFG_SKEW p) = v % 2 ^ 10 ∧ SameRegs (fldsAt (F.HP_TCFG_SKEW p).addr) d (editField (F.HP_TCFG_SKEW p) v d) ∧
      editField (F.HP_TCFG_SKEW p) v d = { d with regs := (editField (F.HP_TCFG_SKEW p) v d).regs } := by
  obtain ⟨here, apart⟩ := skew_register port
  unfold editField
  rw [busWrite_skew port]
  exact ⟨(plainWrite_r_rw _ apart here rfl).trans (bitsAt_putField_same _ (F.HP_TCFG_SKEW p) v), plainWrite_sameRegs _ _ d, plainWrite_frame ..⟩

/-- Port `p`'s bit of HP_POLICY as SET writes it. -/
def policySet (p v : Nat) (d : Dev) : Dev := if v = 1 then d.orBit F.HP_POLICY_ANY p else d.clrBit F.HP_POLICY_ANY p

theorem policySet_frame (p v : Nat) (d : Dev) : policySet p v d = { d with regs := (policySet p v d).regs } := by
  unfold policySet
  split
  · rfl
  · exact clrBit_frame ..

theorem policySet_other (p v : Nat) (d : Dev) : SameRegs [F.HP_POLICY_ANY] d (policySet p v d) := by
  unfold policySet
  split
  · exact sameRegs_w d _ _
  · exact sameRegs_clrBit d _ _

theorem policySet_bits {p i : Nat} (v : Nat) (d : Dev) (bit : i < 6) :
    bitAt ((policySet p v d).r F.HP_POLICY_ANY) i = if i = p then decide (v = 1) else bitAt (d.r F.HP_POLICY_ANY) i := by
  unfold policySet
  by_cases any : v = 1
  · rw [if_pos any]
    by_cases own : i = p
    · rw [if_pos own, decide_eq_true any, own]
      exact orBit_bit d F.HP_POLICY_ANY (own ▸ bit)
    · rw [if_neg own, Dev.orBit, r_w_same, bitAt, Nat.testBit_mod_two_pow, Nat.testBit_or, Nat.testBit_two_pow_of_ne (Ne.symm own), Bool.or_false,
        decide_eq_true (show i < F.HP_POLICY_ANY.width from bit), Bool.true_and, bitAt]
  · rw [if_neg any, clrBit_bits d F.HP_POLICY_ANY p bit, decide_eq_false any]
    by_cases own : i = p
    · simp [own]
    · simp [own, Ne.symm own]

/-- The settings that SET writes at port `p`. -/
def headSettings (a : Args) (p : Nat) (d : Dev) : Dev :=
  let d := if a.has "skew" then editField (F.HP_TCFG_SKEW p) (a.num "skew") d else d
  if a.has "policy" then policySet p (a.num "policy") d else d

section

variable {a : Args} {p : Nat} (port : p < 6) (d : Dev)
include port

theorem headSettings_frame : headSettings a p d = { d with regs := (headSettings a p d).regs } := by
  obtain ⟨-, -, frame⟩ := editField_skew port (a.num "skew") d
  unfold headSettings
  by_cases skew : a.has "skew" = true
  · rw [if_pos skew]
    split
    · rw [policySet_frame, frame]
    · exact frame
  · rw [if_neg skew]
    split
    · exact policySet_frame ..
    · rfl

theorem headSettings_skew (range : a.num "skew" ≤ 1000) :
    (headSettings a p d).r (F.HP_TCFG_SKEW p) = if a.has "skew" = true then a.num "skew" else d.r (F.HP_TCFG_SKEW p) := by
  have apart : (F.HP_TCFG_SKEW p).key ∉ [F.HP_POLICY_ANY].map Fld.key := by revert p; decide
  have policy (e : Dev) : (if a.has "policy" = true then policySet p (a.num "policy") e else e).r (F.HP_TCFG_SKEW p) = e.r (F.HP_TCFG_SKEW p) := by
    split
    · exact policySet_other _ _ e _ apart
    · rfl
  unfold headSettings
  rw [policy]
  split
  · obtain ⟨value, -, -⟩ := editField_skew port (a.num "skew") d
    exact value.trans (Nat.mod_eq_of_lt (by omega))
  · rfl

theorem headSettings_policy {i : Nat} (bit : i < 6) : bitAt ((headSettings a p d).r F.HP_POLICY_ANY) i =
    if i = p ∧ a.has "policy" = true then decide (a.num "policy" = 1) else bitAt (d.r F.HP_POLICY_ANY) i := by
  have apart : F.HP_POLICY_ANY.key ∉ (fldsAt (F.HP_TCFG_SKEW p).addr).map Fld.key := by revert p; decide
  have skew : (if a.has "skew" = true then editField (F.HP_TCFG_SKEW p) (a.num "skew") d else d).r F.HP_POLICY_ANY = d.r F.HP_POLICY_ANY := by
    split
    · obtain ⟨-, same, -⟩ := editField_skew port (a.num "skew") d
      exact same _ apart
    · rfl
  unfold headSettings
  by_cases given : a.has "policy" = true
  · simp only [given, if_true, and_true]
    rw [policySet_bits _ _ bit, skew]
  · simp only [given, Bool.false_eq_true, if_false, and_false]
    rw [skew]

end

section

variable {via : Via} {text : Bytes} {x : List Nat} {args : List (List Nat × List Nat)} {n : Nat} {d : Dev} (number : numberIn .plain x = .ok (n : Int))

/-- The form of HEAD SET [12 R245]. -/
abbrev headForm : Form := ⟨[(0, 5)], [⟨"skew", .num .ns 0 1000, false⟩, wordKey "policy" ["same", "any"]]⟩

/-- The values of HEAD SET's line. -/
abbrev headVals (x : List Nat) (args : List (List Nat × List Nat)) : Args := valsOf headForm ⟨[x], args⟩

theorem headSet_acts (line : VerbLine via text "HEAD SET" "HEAD" ⟨[ascii "SET", x], args⟩ d)
    (fits : Fits headForm ⟨[x], args⟩) :
    verbLine (Via.ctx via) "HEAD SET" [] [] (Bytes.nats text) d = answers via (fun c => doHeadSet c (headVals x args)) d := by
  obtain ⟨ready, running, words⟩ := line
  exact verbLine_acts (a := []) (b := []) ready words (n := 15) rfl (headHandler_set x args) (verbState_started running (by decide)) fits rfl

include number in
theorem answers_headSet : answers via (fun c => doHeadSet c (headVals x args)) d = answers via (fun c e => ok c (headSettings (headVals x args) n e)) d := by
  refine answers_congr ?_
  rw [← unit_number number [⟨"skew", .num .ns 0 1000, false⟩, wordKey "policy" ["same", "any"]] 0 5 args]
  rfl

theorem headVals_skew (x : List Nat) (args : List (List Nat × List Nat)) : (headVals x args).num "skew" ≤ 1000 :=
  num_le_of_keyBound (by simp [KeyBound, wordKey]) _ _

end

end Sys2Proof.Proofs
end

section
/-! PROOFS. The RING verbs: what each request does to the ring block [12 R246; 21 R406, R413, R416]. -/

namespace Sys2Proof.Proofs

open Sys2Proof.Machine Sys2Proof.Laws

/-! ### What a request leaves alone -/

/-- From `d` to `t` a request has been at work: registers, the ring block and the staging of event records are all that has changed. -/
def RingWork (d t : Dev) : Prop := t = { d with regs := t.regs, sr := t.sr, q1 := t.q1 }

section

variable {d e t : Dev}

theorem RingWork.trans (h : RingWork d e) (k : RingWork e t) : RingWork d t := by
  unfold RingWork at h k
  exact k.trans (by rw [h])

theorem RingWork.st (h : RingWork d t) : t.st = d.st := by rw [h]

theorem RingWork.mem (h : RingWork d t) : t.mem = d.mem := by rw [h]

theorem ringWork_onR (d : Dev) (g : Ring → Ring) : RingWork d (d.onR g) := rfl

theorem ringWork_queueCtrl (d : Dev) (typ arg data : Nat) : RingWork d (queueCtrl typ arg data d) := ringWork_onR ..

theorem ringWork_w (d : Dev) (f : Fld) (v : Nat) : RingWork d (d.w f v) := rfl

theorem ringWork_evRecord (t c u a : Nat) (d : Dev) : RingWork d (evRecord t c u a d) := by
  unfold evRecord evRecordAt
  split <;> rfl

theorem ringWork_srEvent (c : Nat) (f : Fld) (u : Nat) (d : Dev) : RingWork d (srEvent c f u d) := by
  unfold srEvent
  simp only
  split
  · exact (ringWork_w d f 1).trans (ringWork_evRecord _ _ _ _ _)
  · exact ringWork_w d f 1

/-- Where no line is being forwarded, a change of state ends none. -/
theorem setState_untunnelled (free : d.st.tun = none) (n : Nat) : ∃ ls, setState n d = (d.w F.SR_STAT_STATE n).onR fun s => { s with lines := ls } := by
  have idle (e : Dev) (same : e.st = d.st) : tunnelSent e = e := by rw [tunnelSent, same, free]
  unfold setState
  simp only
  split
  · exact ⟨d.sr.lines, rfl⟩
  · exact ⟨d.sr.lines.filter fun c => decide (c.typ ≠ 10), idle _ rfl⟩

theorem ringWork_setState (free : d.st.tun = none) (n : Nat) : RingWork d (setState n d) := by
  obtain ⟨ls, state⟩ := setState_untunnelled free n
  rw [state]
  exact (ringWork_w d _ n).trans (ringWork_onR _ _)

end

/-- The fields that an event record can write. -/
def eventRecordFields : List Fld := [F.Q_STAT_EVLOST 1, F.Q_LOST_EV 1]

theorem evRecord_regs (t c u a : Nat) (d : Dev) : SameRegs eventRecordFields d (evRecord t c u a d) := by
  unfold evRecord evRecordAt
  split
  · exact fun _ _ => rfl
  · exact sameRegs_append (fs := [F.Q_STAT_EVLOST 1]) (gs := [F.Q_LOST_EV 1]) (sameRegs_w d _ 1) (sameRegs_w (d.set _) _ _)

theorem srEvent_regs (c : Nat) (f : Fld) (u : Nat) (d : Dev) : SameRegs eventRecordFields (d.set f) (srEvent c f u d) := by
  unfold srEvent
  simp only
  split
  · exact evRecord_regs _ _ _ _ _
  · exact fun _ _ => rfl

theorem srEvent_sr (c : Nat) (f : Fld) (u : Nat) (d : Dev) : (srEvent c f u d).sr = d.sr := by
  unfold srEvent evRecord evRecordAt
  simp only
  split
  · split <;> rfl
  · rfl

/-! ### UP [21 R406] -/

/-- The registers of a master whose ring-up begins. -/
def masterRegs (d : Dev) : Dev := ((((d.w F.SR_STAT_STATE 1).set F.SR_STAT_MASTER).set F.SR_STAT_ADDRV).w F.SR_STAT_ADDR 0).w F.SR_MEM_MEM 0

theorem masterRegs_r (d : Dev) : (masterRegs d).r F.SR_STAT_STATE = 1 ∧ (masterRegs d).r F.SR_STAT_MASTER = 1 ∧
    (masterRegs d).r F.SR_STAT_ADDRV = 1 ∧ (masterRegs d).r F.SR_STAT_ADDR = 0 ∧ (masterRegs d).r F.SR_MEM_MEM = 0 := by
  refine ⟨?_, ?_, ?_, ?_, r_w_same ..⟩
  all_goals rw [masterRegs, r_w_other _ _ (by decide)]
  case refine_4 => exact r_w_same ..
  all_goals rw [r_w_other _ _ (by decide)]
  case refine_3 => exact set_r_same _ rfl
  all_goals rw [set_r_other _ (by decide)]
  case refine_2 => exact set_r_same _ rfl
  rw [set_r_other _ (by decide)]
  exact r_w_same ..

section

variable {d : Dev} (free : d.st.tun = none)
include free

theorem ringUp_regs : (ringUp d).regs = (masterRegs d).regs := by
  obtain ⟨ls, state⟩ := setState_untunnelled free 1
  rw [ringUp, state]
  rfl

theorem ringUp_ring : (ringUp d).sr.step = .discovery ∧ (ringUp d).sr.stepEnd = d.ns + 4000 ∧ (ringUp d).sr.ctrl = [⟨0, 1, 1, 0⟩] := by
  obtain ⟨ls, state⟩ := setState_untunnelled free 1
  obtain ⟨-, -, -, addr, -⟩ := masterRegs_r d
  have ctrl : (ringUp d).sr.ctrl = [⟨ringAddr (ringUp d), 1, 1, 0⟩] := rfl
  refine ⟨rfl, ?_, ?_⟩
  · rw [ringUp, state]
    rfl
  · rw [ctrl, ringAddr, r_congr (ringUp_regs free), addr]

theorem ringUp_work : RingWork d (ringUp d) :=
  (((((ringWork_setState free 1).trans (ringWork_w _ F.SR_STAT_MASTER 1)).trans (ringWork_w _ F.SR_STAT_ADDRV 1)).trans
    (ringWork_w _ F.SR_STAT_ADDR 0)).trans (ringWork_w _ F.SR_MEM_MEM 0)).trans ((ringWork_onR _ _).trans (ringWork_queueCtrl _ 1 1 0))

end

/-! ### DOWN [21 R416] -/

section

variable {d : Dev} (master : isMaster d = true)
include master

theorem reqDown_master : reqDown d = (true, (srEvent 2 F.SR_EV_DOWN 0 ((((setState 0 d).clr F.SR_STAT_MASTER).clr F.SR_STAT_ADDRV).onR fun s =>
    { s with downLeft := 8, step := .none, watchdog := none, held := [], ctrl := [] })).w F.SR_MEM_MEM 0) := if_pos master

theorem reqDown_ring : (reqDown d).2.sr.downLeft = 8 ∧ (reqDown d).2.sr.watchdog = none := by
  have ring (e : Dev) : ((srEvent 2 F.SR_EV_DOWN 0 e).w F.SR_MEM_MEM 0).sr = e.sr := srEvent_sr 2 F.SR_EV_DOWN 0 e
  rw [reqDown_master master, ring]
  exact ⟨rfl, rfl⟩

variable (free : d.st.tun = none)
include free

theorem reqDown_work : RingWork d (reqDown d).2 := by
  rw [reqDown_master master]
  exact (((((ringWork_setState free 0).trans (ringWork_w _ F.SR_STAT_MASTER 0)).trans (ringWork_w _ F.SR_STAT_ADDRV 0)).trans (ringWork_onR _ _)).trans
    (ringWork_srEvent 2 F.SR_EV_DOWN 0 _)).trans (ringWork_w _ F.SR_MEM_MEM 0)

theorem reqDown_regs : (reqDown d).2.r F.SR_STAT_STATE = 0 ∧ (reqDown d).2.r F.SR_STAT_MASTER = 0 ∧ (reqDown d).2.r F.SR_STAT_ADDRV = 0 ∧
    (reqDown d).2.r F.SR_MEM_MEM = 0 ∧ (reqDown d).2.r F.SR_EV_DOWN = 1 := by
  obtain ⟨ls, state⟩ := setState_untunnelled free 0
  generalize quiet : (((setState 0 d).clr F.SR_STAT_MASTER).clr F.SR_STAT_ADDRV).onR (fun s =>
    { s with downLeft := 8, step := .none, watchdog := none, held := [], ctrl := [] }) = e
  have down : (reqDown d).2 = (srEvent 2 F.SR_EV_DOWN 0 e).w F.SR_MEM_MEM 0 := by rw [reqDown_master master, quiet]
  have below : e.regs = (((d.w F.SR_STAT_STATE 0).clr F.SR_STAT_MASTER).clr F.SR_STAT_ADDRV).regs := by
    rw [← quiet, state]
    rfl
  have event := srEvent_regs 2 F.SR_EV_DOWN 0 e
  have kept {f : Fld} (mem : f.key ≠ F.SR_MEM_MEM.key) (own : f.key ∉ eventRecordFields.map Fld.key) (ev : f.key ≠ F.SR_EV_DOWN.key) :
      (reqDown d).2.r f = (((d.w F.SR_STAT_STATE 0).clr F.SR_STAT_MASTER).clr F.SR_STAT_ADDRV).r f := by
    rw [down, r_w_other _ _ mem, event f own, set_r_other e ev, r_congr below]
  refine ⟨?_, ?_, ?_, ?_, ?_⟩
  · rw [kept (by decide) (by decide) (by decide), clr_r_other _ (by decide), clr_r_other _ (by decide)]
    exact r_w_same ..
  · rw [kept (by decide) (by decide) (by decide), clr_r_other _ (by decide)]
    exact clr_r_same ..
  · rw [kept (by decide) (by decide) (by decide)]
    exact clr_r_same ..
  · rw [down]
    exact r_w_same ..
  · rw [down, r_w_other _ _ (by decide), event _ (by decide)]
    exact set_r_same e rfl

end

/-! ### JOIN and LEAVE [21 R413] -/

section

variable {d : Dev} (free : d.st.tun = none)
include free

theorem sendJoin_work (out : srState d ≠ 2) : RingWork d (sendJoin d) ∧ (sendJoin d).r F.SR_STAT_STATE = 5 ∧ (sendJoin d).sr.join = true ∧
    (sendJoin d).sr.admitted = false ∧ (sendJoin d).sr.ctrl = d.sr.ctrl ++ [⟨d.r F.SR_STAT_ADDR, 6, 0, 0⟩] := by
  have join : sendJoin d = setState 5 (queueCtrl 6 0 0 (d.onR fun s => { s with join := true, admitted := false })) := if_neg out
  obtain ⟨ls, state⟩ := setState_untunnelled (d := queueCtrl 6 0 0 (d.onR fun s => { s with join := true, admitted := false })) free 5
  rw [join, state]
  exact ⟨rfl, r_w_same (queueCtrl 6 0 0 _) F.SR_STAT_STATE 5, rfl, rfl, rfl⟩

theorem ringLeave_work (member : isMaster d = false) (addressed : d.b F.SR_STAT_ADDRV = true) (up : srState d = 2) (none : d.sw.slots = [])
    (quiet : d.sr.ctrl = []) : RingWork d (ringLeave d) ∧ (ringLeave d).r F.SR_STAT_STATE = 4 ∧ (ringLeave d).r F.SR_STAT_ADDR = d.r F.SR_STAT_ADDR ∧
    (ringLeave d).sr.ctrl = [⟨d.r F.SR_STAT_ADDR, 7, 0, 0⟩] ∧ (ringLeave d).sr.join = false := by
  have unarmed : armedAll d = 0 := by simp [armedAll, slotsIf_noSlots none]
  have stops : ringStops d = d.onR fun s =>
      { s with rpos := (ringStops d).sr.rpos, shownPos := (ringStops d).sr.shownPos, shownVel := (ringStops d).sr.shownVel } := by
    unfold ringStops
    split
    · rw [withdrawSource_unarmed 2 ((armedAll_onR d _).trans unarmed)]
      rfl
    · rfl
  generalize stopped : ringStops d = e at stops
  have leave : ringLeave d = setState 4 (queueCtrl 7 0 0 (e.onR fun s =>
      { s with join := false, admitted := false, ctrl := s.ctrl.filter fun c => decide (c.typ ≠ 6) })) := by
    rw [← stopped]
    exact if_neg (by simp [member, addressed, up])
  have ctrl : e.sr.ctrl = [] := by rw [stops]; exact quiet
  have regs : e.regs = d.regs := by rw [stops]; rfl
  have st : e.st = d.st := by rw [stops]; rfl
  generalize asked : queueCtrl 7 0 0 (e.onR fun s =>
      { s with join := false, admitted := false, ctrl := s.ctrl.filter fun c => decide (c.typ ≠ 6) }) = q at leave
  have own : q.sr.ctrl = [⟨d.r F.SR_STAT_ADDR, 7, 0, 0⟩] := by
    rw [← asked]
    show e.sr.ctrl.filter _ ++ [⟨e.r F.SR_STAT_ADDR, 7, 0, 0⟩] = _
    rw [ctrl, r_congr regs]
    rfl
  have work : RingWork d q := by rw [← asked, stops]; rfl
  obtain ⟨ls, state⟩ := setState_untunnelled (d := q) (by rw [work.st, free]) 4
  rw [leave, state]
  refine ⟨work.trans rfl, r_w_same q F.SR_STAT_STATE 4, (r_w_other q (f := F.SR_STAT_STATE) 4 (by decide)).trans ?_, own, ?_⟩
  · rw [← asked]
    exact r_congr regs _
  · rw [← asked]
    rfl

end

end Sys2Proof.Proofs
end

section
/-! PROOFS. The ENC verbs: the settings of an input, and the load of its position [12 R247; 15 R300]. -/

namespace Sys2Proof.Proofs

open Sys2Proof.Machine Sys2Proof.Laws

/-! ### The settings of an input -/

/-- The fields of ENn_CFG. -/
def cfgFields (n : Nat) : List Fld := [F.EN_CFG_NAVG n, F.EN_CFG_FILTER n, F.EN_CFG_ZGATE n, F.EN_CFG_INV n, F.EN_CFG_TERM n, F.EN_CFG_MODE n]

/-- The fields of ENn_CFG that SET writes. -/
def cfgKeys (n : Nat) : List Fld := [F.EN_CFG_MODE n, F.EN_CFG_TERM n, F.EN_CFG_FILTER n]

/-- Every field of ENn_CFG holds what fits it. -/
abbrev CfgFits (n : Nat) (d : Dev) : Prop := ∀ y ∈ cfgFields n, d.r y < 2 ^ y.width

/-- The parts of a word of ENn_CFG. -/
theorem cfgWord_parts (navg : Nat) {filter zgate inv term mode : Nat} (h8 : filter < 2 ^ 8) (h4 : zgate < 2 ^ 1) (h3 : inv < 2 ^ 1) (h2 : term < 2 ^ 1)
    (h1 : mode < 2 ^ 1) : bitsAt (0 + navg * 2 ^ 16 + filter * 2 ^ 8 + zgate * 2 ^ 4 + inv * 2 ^ 3 + term * 2 ^ 2 + mode * 2 ^ 1) 1 1 = mode ∧
    bitsAt (0 + navg * 2 ^ 16 + filter * 2 ^ 8 + zgate * 2 ^ 4 + inv * 2 ^ 3 + term * 2 ^ 2 + mode * 2 ^ 1) 2 1 = term ∧
    bitsAt (0 + navg * 2 ^ 16 + filter * 2 ^ 8 + zgate * 2 ^ 4 + inv * 2 ^ 3 + term * 2 ^ 2 + mode * 2 ^ 1) 8 8 = filter := by
  simp only [bitsAt, Nat.shiftRight_eq_div_pow]
  omega

section

variable {n : Nat} (input : n < 2)
include input

theorem fldsAt_cfg : fldsAt (F.EN_CFG_MODE n).addr = cfgFields n := by
  interval_cases n <;> rfl

theorem cfgFields_apart : ((cfgFields n).map Fld.key).Nodup := by
  interval_cases n <;> decide

theorem busWrite_cfg (v : Nat) (d : Dev) : busWrite (F.EN_CFG_MODE n).addr v d = plainWrite (F.EN_CFG_MODE n).addr v d := by
  interval_cases n <;> rfl

theorem plainRead_cfg (d : Dev) : plainRead d (F.EN_CFG_MODE n).addr = 0 + d.r (F.EN_CFG_NAVG n) * 2 ^ 16 + d.r (F.EN_CFG_FILTER n) * 2 ^ 8 +
    d.r (F.EN_CFG_ZGATE n) * 2 ^ 4 + d.r (F.EN_CFG_INV n) * 2 ^ 3 + d.r (F.EN_CFG_TERM n) * 2 ^ 2 + d.r (F.EN_CFG_MODE n) * 2 ^ 1 := by
  interval_cases n <;> rfl

/-- The word of the register holds each field's value in its place. -/
theorem bitsAt_cfg {d : Dev} (fits : CfgFits n d) {g : Fld} (key : g ∈ cfgKeys n) : bitsAt (plainRead d (F.EN_CFG_MODE n).addr) g.lo g.width = d.r g := by
  simp only [CfgFits, cfgFields, List.forall_mem_cons, List.not_mem_nil, false_implies, implies_true, and_true] at fits
  obtain ⟨navg, filter, zgate, inv, term, mode⟩ := fits
  obtain ⟨modePart, termPart, filterPart⟩ := cfgWord_parts (d.r (F.EN_CFG_NAVG n)) filter zgate inv term mode
  rw [plainRead_cfg input]
  simp only [cfgKeys, List.mem_cons, List.not_mem_nil, or_false] at key
  rcases key with rfl | rfl | rfl
  · exact modePart
  · exact termPart
  · exact filterPart

variable {f : Fld} (key : f ∈ cfgKeys n) (v : Nat) (d : Dev)
include key

theorem editField_cfg : editField f v d = plainWrite (F.EN_CFG_MODE n).addr (putField (plainRead d (F.EN_CFG_MODE n).addr) f v) d := by
  have addr : f.addr = (F.EN_CFG_MODE n).addr := by
    simp only [cfgKeys, List.mem_cons, List.not_mem_nil, or_false] at key
    rcases key with rfl | rfl | rfl <;> rfl
  rw [editField, addr, busWrite_cfg input]

theorem editField_cfg_bits {y : Fld} (field : y ∈ cfgFields n) :
    (editField f v d).r y = bitsAt (putField (plainRead d (F.EN_CFG_MODE n).addr) f v) y.lo y.width := by
  have access : y.acc = .rw := by
    simp only [cfgFields, List.mem_cons, List.not_mem_nil, or_false] at field
    rcases field with rfl | rfl | rfl | rfl | rfl | rfl <;> rfl
  rw [editField_cfg input key, plainWrite_r_mem _ d (by rw [fldsAt_cfg input]; exact cfgFields_apart input) (by rw [fldsAt_cfg input]; exact field),
    fieldAfter, access]

theorem editField_cfg_fits : CfgFits n (editField f v d) := fun _ field => by
  rw [editField_cfg_bits input key v d field]
  exact bitsAt_lt _ _ _

theorem editField_cfg_frame : editField f v d = { d with regs := (editField f v d).regs } := by
  rw [editField_cfg input key]
  exact plainWrite_frame ..

theorem editField_cfg_same : (editField f v d).r f = v % 2 ^ f.width := by
  have field : f ∈ cfgFields n := by
    simp only [cfgKeys, List.mem_cons, List.not_mem_nil, or_false] at key
    rcases key with rfl | rfl | rfl <;> simp [cfgFields]
  rw [editField_cfg_bits input key v d field, bitsAt_putField_same]

theorem editField_cfg_other {d : Dev} (fits : CfgFits n d) {g : Fld} (other : g ∈ cfgKeys n) (apart : g.lo + g.width ≤ f.lo ∨ f.lo + f.width ≤ g.lo) :
    (editField f v d).r g = d.r g := by
  have field : g ∈ cfgFields n := by
    simp only [cfgKeys, List.mem_cons, List.not_mem_nil, or_false] at other
    rcases other with rfl | rfl | rfl <;> simp [cfgFields]
  rw [editField_cfg_bits input key v d field, bitsAt_putField_other _ v apart, bitsAt_cfg input fits other]

end

/-- The field of key `k` is written where the line gives the key. -/
def cfgPut (a : Args) (k : String) (f : Fld) (d : Dev) : Dev := if a.has k then editField f (a.num k) d else d

section

variable {n : Nat} (input : n < 2) {f : Fld} (key : f ∈ cfgKeys n) (a : Args) (k : String) {d : Dev}
include input key

theorem cfgPut_frame (d : Dev) : cfgPut a k f d = { d with regs := (cfgPut a k f d).regs } := by
  unfold cfgPut
  split
  · exact editField_cfg_frame input key _ d
  · rfl

theorem cfgPut_same (d : Dev) (range : a.num k < 2 ^ f.width) : (cfgPut a k f d).r f = if a.has k = true then a.num k else d.r f := by
  unfold cfgPut
  split
  · exact (editField_cfg_same input key _ d).trans (Nat.mod_eq_of_lt range)
  · rfl

theorem cfgPut_fits (fits : CfgFits n d) : CfgFits n (cfgPut a k f d) := by
  unfold cfgPut
  split
  · exact editField_cfg_fits input key _ d
  · exact fits

theorem cfgPut_other (fits : CfgFits n d) {g : Fld} (other : g ∈ cfgKeys n) (apart : g.lo + g.width ≤ f.lo ∨ f.lo + f.width ≤ g.lo) :
    (cfgPut a k f d).r g = d.r g := by
  unfold cfgPut
  split
  · exact editField_cfg_other input key _ fits other apart
  · rfl

end

/-- The fields that SET writes. -/
def encFields (a : Args) (n : Nat) (d : Dev) : Dev :=
  cfgPut a "filter" (F.EN_CFG_FILTER n) (cfgPut a "term" (F.EN_CFG_TERM n) (cfgPut a "mode" (F.EN_CFG_MODE n) d))

/-- The scale that SET writes. -/
def scalePut (a : Args) (n : Nat) (d : Dev) : Dev :=
  if a.has "scale" then d.onSt fun s => if n = 1 then { s with scale1 := a.num "scale" } else { s with scale0 := a.num "scale" } else d

section

variable {n : Nat} (input : n < 2) {a : Args} {d : Dev}
include input

theorem encFields_frame (a : Args) (d : Dev) : encFields a n d = { d with regs := (encFields a n d).regs } := by
  unfold encFields
  rw [cfgPut_frame input (by simp [cfgKeys]), cfgPut_frame input (f := F.EN_CFG_TERM n) (by simp [cfgKeys]),
    cfgPut_frame input (f := F.EN_CFG_MODE n) (by simp [cfgKeys])]

/-- Each field holds what its key gives, or what it held. -/
theorem encFields_r (fits : CfgFits n d) (mode : a.num "mode" ≤ 1) (term : a.num "term" ≤ 1) (filter : a.num "filter" ≤ 255) :
    ∀ k ∈ [("mode", F.EN_CFG_MODE n), ("term", F.EN_CFG_TERM n), ("filter", F.EN_CFG_FILTER n)],
      (encFields a n d).r k.2 = if a.has k.1 = true then a.num k.1 else d.r k.2 := by
  have isMode : F.EN_CFG_MODE n ∈ cfgKeys n := by simp [cfgKeys]
  have isTerm : F.EN_CFG_TERM n ∈ cfgKeys n := by simp [cfgKeys]
  have isFilter : F.EN_CFG_FILTER n ∈ cfgKeys n := by simp [cfgKeys]
  have fits1 := cfgPut_fits input isMode a "mode" fits
  have fits2 := cfgPut_fits input isTerm a "term" fits1
  have modeTerm : (F.EN_CFG_MODE n).lo + (F.EN_CFG_MODE n).width ≤ (F.EN_CFG_TERM n).lo := (by decide : 1 + 1 ≤ 2)
  have modeFilter : (F.EN_CFG_MODE n).lo + (F.EN_CFG_MODE n).width ≤ (F.EN_CFG_FILTER n).lo := (by decide : 1 + 1 ≤ 8)
  have termFilter : (F.EN_CFG_TERM n).lo + (F.EN_CFG_TERM n).width ≤ (F.EN_CFG_FILTER n).lo := (by decide : 2 + 1 ≤ 8)
  unfold encFields
  simp only [List.forall_mem_cons, List.not_mem_nil, false_implies, implies_true, and_true]
  refine ⟨?_, ?_, ?_⟩
  · rw [cfgPut_other input isFilter a _ fits2 isMode (.inl modeFilter), cfgPut_other input isTerm a _ fits1 isMode (.inl modeTerm)]
    exact cfgPut_same input isMode a _ d (Nat.lt_succ_of_le mode)
  · rw [cfgPut_other input isFilter a _ fits2 isTerm (.inl termFilter), cfgPut_same input isTerm a _ _ (Nat.lt_succ_of_le term),
      cfgPut_other input isMode a _ fits isTerm (.inr modeTerm)]
  · rw [cfgPut_same input isFilter a _ _ (Nat.lt_succ_of_le filter), cfgPut_other input isTerm a _ fits1 isFilter (.inr termFilter),
      cfgPut_other input isMode a _ fits isFilter (.inr modeFilter)]

theorem scalePut_scales : scaleOf (scalePut a n d) n = (if a.has "scale" = true then a.num "scale" else scaleOf d n) ∧
    scaleOf (scalePut a n d) (1 - n) = scaleOf d (1 - n) := by
  unfold scalePut
  by_cases given : a.has "scale" = true
  · rw [if_pos given, if_pos given]
    interval_cases n <;> exact ⟨rfl, rfl⟩
  · rw [if_neg given, if_neg given]
    exact ⟨rfl, rfl⟩

end

theorem scalePut_frame (a : Args) (n : Nat) (d : Dev) :
    scalePut a n d = { d with st := { d.st with scale0 := (scalePut a n d).st.scale0, scale1 := (scalePut a n d).st.scale1 } } := by
  unfold scalePut
  split
  · by_cases one : n = 1
    · simp only [one, if_true]
      rfl
    · simp only [one, if_false]
      rfl
  · rfl

/-! ### The load of a position [15 R300] -/

theorem enc_onE (d : Dev) (k m : Nat) (g : Enc → Enc) : (d.onE k g).enc m = if m = k then g (d.enc m) else d.enc m := by
  unfold Dev.enc Dev.onE
  by_cases h : m = k
  · subst h; simp [Dev.enc]
  · simp [h, tab_getD_setD_other d.en {} {} _ h]

/-- The two words of ENn_PSET. -/
def psetPut (n v : Nat) (d : Dev) : Dev := (d.w (F.EN_PSETL_POS n) (v % 2 ^ 32)).w (F.EN_PSETH_POS n) (v / 2 ^ 32)

/-- Input `n` stands at position `v`, and its lost-count marks are clear. -/
def positioned (n v : Nat) (d : Dev) : Dev :=
  (((d.onE n fun e => { e with pos := v }).clr (F.EN_STAT_LQ n)).clr (F.EN_STAT_LN n)).clr (F.EN_STAT_LF n)

section

variable {n v : Nat} {d : Dev}

theorem psetPut_read (range : v < 2 ^ 48) : (psetPut n v d).r (F.EN_PSETL_POS n) + 2 ^ 32 * (psetPut n v d).r (F.EN_PSETH_POS n) = v := by
  have apart : (F.EN_PSETL_POS n).key ≠ (F.EN_PSETH_POS n).key := by simp [Fld.key, F.EN_PSETL_POS, F.EN_PSETH_POS]
  have low : (psetPut n v d).r (F.EN_PSETL_POS n) = v % 2 ^ 32 := (r_w_other _ _ apart).trans ((r_w_same ..).trans (Nat.mod_mod _ _))
  have high : (psetPut n v d).r (F.EN_PSETH_POS n) = v / 2 ^ 32 := (r_w_same ..).trans (Nat.mod_eq_of_lt (show v / 2 ^ 32 < 2 ^ 16 by omega))
  rw [low, high, Nat.mod_add_div]

/-- With no furrow in use, and no count in this FCLK cycle, the load is all that happens. -/
theorem positionLoad_free (range : v < 2 ^ 48) (none : d.sw.furrows = []) (untied : d.ties Dev.fclk (d.enc n).net.1 = false) :
    positionLoad n (psetPut n v d) = positioned n v (psetPut n v d) := by
  have unsown : inputSown (psetPut n v d) n = false := by
    show (d.sw.furrows.any _) = false
    rw [none]
    rfl
  have still : ((psetPut n v d).ties Dev.fclk ((psetPut n v d).enc n).net.1) = false := untied
  have place : ((Int.ofNat v + 0) % (tltMod : Int)).toNat = v := by
    have small : (v : Int) < ((2 ^ 48 : Nat) : Int) := by exact_mod_cast range
    rw [Int.ofNat_eq_natCast, add_zero, tltMod, Int.emod_eq_of_lt (Int.natCast_nonneg v) small, Int.toNat_natCast]
  have kept (l : List Nat) : forAll l renextSource (positioned n v (psetPut n v d)) = positioned n v (psetPut n v d) := by
    refine forAll_keeps (P := fun e => e = positioned n v (psetPut n v d)) (fun src e _ same => ?_) rfl
    have unbound : boundTo e src = [] := by
      rw [same]
      show ((d.sw.furrows.filter _).map _) = []
      rw [none]
      rfl
    rw [renextSource, unbound]
    exact same
  unfold positionLoad
  simp only [unsown, still, psetPut_read range, Bool.false_eq_true, if_false, place]
  exact kept _

theorem positioned_stat (d : Dev) : (positioned n v d).r (F.EN_STAT_LQ n) = 0 ∧ (positioned n v d).r (F.EN_STAT_LN n) = 0 ∧
    (positioned n v d).r (F.EN_STAT_LF n) = 0 := by
  have qn : (F.EN_STAT_LQ n).key ≠ (F.EN_STAT_LN n).key := by simp [Fld.key, F.EN_STAT_LQ, F.EN_STAT_LN]
  have qf : (F.EN_STAT_LQ n).key ≠ (F.EN_STAT_LF n).key := by simp [Fld.key, F.EN_STAT_LQ, F.EN_STAT_LF]
  have nf : (F.EN_STAT_LN n).key ≠ (F.EN_STAT_LF n).key := by simp [Fld.key, F.EN_STAT_LN, F.EN_STAT_LF]
  exact ⟨(clr_r_other _ qf).trans ((clr_r_other _ qn).trans (clr_r_same ..)), (clr_r_other _ nf).trans (clr_r_same ..), clr_r_same ..⟩

theorem positioned_enc (d : Dev) (m : Nat) : (positioned n v d).enc m = if m = n then { d.enc m with pos := v } else d.enc m :=
  enc_onE d n m fun e => { e with pos := v }

end

/-! ### A line of an ENC verb -/

/-- The forms of ENC SET and of ENC ZERO at scale `k` [12 R247]. -/
abbrev encForm : Form := ⟨[(0, 1)], [wordKey "mode" ["rs422", "se"], wordKey "term" ["off", "on"], numKey "filter" 0 255,
  ⟨"scale", .num .milli 0 1000000000, false⟩]⟩
abbrev zeroForm (k : Nat) : Form := ⟨[(0, 1)], [⟨"pos", .num (.pos k) 0 (2 ^ 48 - 1), true⟩]⟩

section

variable {via : Via} {text : Bytes} {x : List Nat} {args : List (List Nat × List Nat)} {n : Nat} {d : Dev}

theorem encHandler_set (d : Dev) (x : List Nat) (args : List (List Nat × List Nat)) :
    encHandler d ⟨[ascii "SET", x], args⟩ = some ⟨encForm, ⟨[x], args⟩, fun _ => 0, doEncSet⟩ := rfl

theorem encHandler_zero (d : Dev) (x : List Nat) (args : List (List Nat × List Nat)) :
    encHandler d ⟨[ascii "ZERO", x], args⟩ = some ⟨zeroForm (scaleOf d (unitNo ⟨[x], args⟩)), ⟨[x], args⟩, fun _ => 0, doEncZero⟩ := rfl

theorem encHandler_show (d : Dev) (x : List Nat) :
    encHandler d ⟨[ascii "SHOW", x], []⟩ = some ⟨⟨[(0, 1)], []⟩, ⟨[x], []⟩, fun _ => 0, fun c a => doEncShow (a.p 0) c⟩ := rfl

theorem encSet_acts (line : VerbLine via text "ENC SET" "ENC" ⟨[ascii "SET", x], args⟩ d) (fits : Fits encForm ⟨[x], args⟩) :
    verbLine (Via.ctx via) "ENC SET" [] [] (Bytes.nats text) d = answers via (fun c => doEncSet c (valsOf encForm ⟨[x], args⟩)) d := by
  obtain ⟨ready, running, words⟩ := line
  exact verbLine_acts (a := []) (b := []) ready words (n := 17) rfl (encHandler_set d x args) (verbState_started running (by decide)) fits rfl

variable (number : numberIn .plain x = .ok (n : Int))
include number

theorem answers_encSet : answers via (fun c => doEncSet c (valsOf encForm ⟨[x], args⟩)) d =
    answers via (fun c e => ok c (scalePut (valsOf encForm ⟨[x], args⟩) n (encFields (valsOf encForm ⟨[x], args⟩) n e))) d := by
  have unit : (valsOf encForm ⟨[x], args⟩).p 0 = n := unit_number number _ 0 1 args
  refine answers_congr ?_
  unfold doEncSet scalePut encFields cfgPut
  rw [unit]

theorem encZero_acts (line : VerbLine via text "ENC ZERO" "ENC" ⟨[ascii "ZERO", x], args⟩ d) (fits : Fits (zeroForm (scaleOf d n)) ⟨[x], args⟩) :
    verbLine (Via.ctx via) "ENC ZERO" [] [] (Bytes.nats text) d =
      answers via (fun c => doEncZero c (valsOf (zeroForm (scaleOf d n)) ⟨[x], args⟩)) d := by
  obtain ⟨ready, running, words⟩ := line
  have handler := encHandler_zero d x args
  rw [unitNo_number number] at handler
  exact verbLine_acts (a := []) (b := []) ready words (n := 17) rfl handler (verbState_started running (by decide)) fits rfl

theorem zero_unit (k : Nat) : (valsOf (zeroForm k) ⟨[x], args⟩).p 0 = n := unit_number number _ 0 1 args

theorem answers_encZero_held (k : Nat) (held : inputHeld d n = true) :
    answers via (fun c => doEncZero c (valsOf (zeroForm k) ⟨[x], args⟩)) d = answers via (er 80) d := by
  refine answers_congr ?_
  unfold doEncZero
  simp only [zero_unit number]
  exact if_pos held

theorem answers_encZero_free (k : Nat) (free : inputHeld d n = false) :
    answers via (fun c => doEncZero c (valsOf (zeroForm k) ⟨[x], args⟩)) d =
      answers via (fun c e => ok c (positionLoad n (psetPut n ((valsOf (zeroForm k) ⟨[x], args⟩).num "pos") e))) d := by
  refine answers_congr ?_
  unfold doEncZero
  simp only [zero_unit number]
  exact if_neg (by rw [show inputHeld (acceptLine (Via.ctx via) d) n = false from free]; exact Bool.false_ne_true)

theorem encShow_acts (input : n < 2) (line : VerbLine via text "ENC SHOW" "ENC" ⟨[ascii "SHOW", x], []⟩ d) :
    verbLine (Via.ctx via) "ENC SHOW" [] [] (Bytes.nats text) d = answers via (doEncShow n) d := by
  obtain ⟨ready, running, words⟩ := line
  have acts := verbLine_acts (a := []) (b := []) ready words (n := 17) rfl (encHandler_show d x) (verbState_started running (by decide))
    (unit_fits number (by omega)) rfl
  rw [acts]
  exact answers_congr (congrArg (fun p => doEncShow p (Via.ctx via) (acceptLine (Via.ctx via) d)) (unit_number number [] 0 1 []))

end

end Sys2Proof.Proofs
end

section
/-! PROOFS. The statement about the HEAD, RING and ENC verbs [12 R245-R247; 15 R300; 20 R394; 21 R406, R413, R416]. -/

namespace Sys2Proof.Proofs

open Sys2Proof.Machine Sys2Proof.Laws

theorem skew_unspoken {n : Nat} (port : n < 6) : (F.HP_TCFG_SKEW n).key ∉ [F.SYS_BOOTERR_CODE, F.UA_STAT_EVCNT].map Fld.key := by
  revert n
  decide

theorem port_unspoken {n : Nat} (port : n < 6) :
    ∀ f ∈ [F.HP_STAT_STATE n, F.HP_STAT_LCAUSE n], f.key ∉ [F.SYS_BOOTERR_CODE, F.UA_STAT_EVCNT].map Fld.key := by
  revert n
  decide

theorem input_unspoken {n : Nat} (input : n < 2) :
    ∀ f ∈ [F.EN_CFG_MODE n, F.EN_CFG_TERM n, F.EN_CFG_FILTER n, F.EN_STAT_LQ n, F.EN_STAT_LN n, F.EN_STAT_LF n],
      f.key ∉ [F.SYS_BOOTERR_CODE, F.UA_STAT_EVCNT].map Fld.key := by
  revert n
  decide

/-! ### A line of a RING verb -/

section

variable {via : Via} {text : Bytes} {args : List (List Nat × List Nat)} {d : Dev}

/-- A line of the RING verb `obj` is taken while an image runs. -/
abbrev RingLine (via : Via) (text : Bytes) (args : List (List Nat × List Nat)) (name obj : String) (d : Dev) : Prop :=
  VerbLine via text name "RING" ⟨[ascii obj], args⟩ d ∧ args = []

theorem ringLine_acts {name obj : String} {act : Ctx → Dev → Dev} (line : RingLine via text args name obj d)
    (handler : ringHandler ⟨[ascii obj], []⟩ = some (plainHandler ⟨[], []⟩ act)) :
    verbLine (Via.ctx via) name [] [] (Bytes.nats text) d = answers via act d := by
  obtain ⟨words, rfl⟩ := line
  exact verbLine_plain words (n := 16) rfl (by decide) handler bare_fits

theorem ringHandler_up : ringHandler ⟨[ascii "UP"], []⟩ = some (plainHandler ⟨[], []⟩ doRingUp) := rfl
theorem ringHandler_down : ringHandler ⟨[ascii "DOWN"], []⟩ = some (plainHandler ⟨[], []⟩ (ringAsk reqDown)) := rfl
theorem ringHandler_join : ringHandler ⟨[ascii "JOIN"], []⟩ = some (plainHandler ⟨[], []⟩ (ringAsk reqJoin)) := rfl
theorem ringHandler_leave : ringHandler ⟨[ascii "LEAVE"], []⟩ = some (plainHandler ⟨[], []⟩ (ringAsk reqLeave)) := rfl
theorem ringHandler_show : ringHandler ⟨[ascii "SHOW"], []⟩ = some (plainHandler ⟨[], []⟩ doRingShow) := rfl

/-- A request that is accepted acts and answers OK. -/
theorem answers_ringAsk {req : Dev → Bool × Dev} {g : Dev → Dev}
    (accepted : req (acceptLine (Via.ctx via) d) = (true, g (acceptLine (Via.ctx via) d))) :
    answers via (ringAsk req) d = answers via (fun c e => ok c (g e)) d := by
  refine answers_congr ?_
  unfold ringAsk
  rw [accepted]
  rfl

theorem answers_ringAsk_refused {req : Dev → Bool × Dev} (refused : req (acceptLine (Via.ctx via) d) = (false, acceptLine (Via.ctx via) d)) :
    answers via (ringAsk req) d = answers via (er 86) d := by
  refine answers_congr ?_
  unfold ringAsk
  rw [refused]
  rfl

theorem answers_ringUp (down : srState d = 0) (free : isMaster d = false) :
    answers via doRingUp d = answers via (fun c e => waitVerb c .ringUp (ringUp e)) d := by
  have accepted : reqUp (acceptLine (Via.ctx via) d) = (true, ringUp (acceptLine (Via.ctx via) d)) := if_pos ⟨down, free⟩
  refine answers_congr ?_
  unfold doRingUp
  rw [accepted]
  rfl

theorem answers_ringUp_refused (busy : srState d ≠ 0 ∨ isMaster d = true) : answers via doRingUp d = answers via (er 86) d := by
  have refused : reqUp (acceptLine (Via.ctx via) d) = (false, acceptLine (Via.ctx via) d) := by
    refine if_neg fun h => ?_
    rcases busy with up | master
    · exact up h.1
    · exact Bool.false_ne_true (h.2.symm.trans master)
  refine answers_congr ?_
  unfold doRingUp
  rw [refused]
  rfl

end

/-! ### What the verbs bring about -/

section

variable {via : Via} {d : Dev}

/-- ON of a port HITCHING waits, and nothing else changes. -/
theorem headOn_hitching {n : Nat} (hitching : d.r (F.HP_STAT_STATE n) = 1) : (answers via (doHeadOn n) d).hp = d.hp ∧
    (answers via (doHeadOn n) d).regs = d.regs ∧ VerbWaits via (.head n false) d (answers via (doHeadOn n) d) := by
  rw [answers_headOn_waits (by omega) (by omega), answers_wait, hpOn_hitching (d := acceptLine (Via.ctx via) d) hitching]
  exact ⟨rfl, rfl, waits_of_st _ rfl rfl⟩

/-- UP makes the device a master in ring-up, its DISC cell waiting, and waits for the end. -/
theorem ringUp_waits (free : d.st.tun = none) : let t := answers via (fun c e => waitVerb c .ringUp (ringUp e)) d
    t.r F.SR_STAT_STATE = 1 ∧ t.r F.SR_STAT_MASTER = 1 ∧ t.r F.SR_STAT_ADDRV = 1 ∧ t.r F.SR_STAT_ADDR = 0 ∧ t.r F.SR_MEM_MEM = 0 ∧
      t.sr.step = .discovery ∧ t.sr.stepEnd = d.ns + 4000 ∧ t.sr.ctrl = [⟨0, 1, 1, 0⟩] ∧ VerbWaits via .ringUp d t := by
  have regs := ringUp_regs (d := acceptLine (Via.ctx via) d) free
  obtain ⟨step, stepEnd, ctrl⟩ := ringUp_ring (d := acceptLine (Via.ctx via) d) free
  have work := ringUp_work (d := acceptLine (Via.ctx via) d) free
  obtain ⟨state, master, addrv, addr, mem⟩ := masterRegs_r (acceptLine (Via.ctx via) d)
  have r (f : Fld) : (answers via (fun c e => waitVerb c .ringUp (ringUp e)) d).r f = (masterRegs (acceptLine (Via.ctx via) d)).r f := r_congr regs f
  simp only [r]
  exact ⟨state, master, addrv, addr, mem, step, stepEnd, ctrl, waits_of_st _ work.st work.mem⟩

/-- DOWN of the master. -/
theorem ringDown_holds (free : responding d = false) (master : isMaster d = true) : let t := answers via (ringAsk reqDown) d
    t.r F.SR_STAT_STATE = 0 ∧ t.r F.SR_STAT_MASTER = 0 ∧ t.r F.SR_STAT_ADDRV = 0 ∧ t.r F.SR_MEM_MEM = 0 ∧ t.sr.downLeft = 8 ∧ t.r F.SR_EV_DOWN = 1 ∧
      t.sr.watchdog = none ∧ VerbSaid via d t := by
  have untunnelled : (acceptLine (Via.ctx via) d).st.tun = none := responding_tun free
  have spoken := spoken_answers via (fun e => (reqDown e).2) d
  obtain ⟨state, mast, addrv, mem, down⟩ := reqDown_regs (d := acceptLine (Via.ctx via) d) master untunnelled
  obtain ⟨downLeft, watchdog⟩ := reqDown_ring (d := acceptLine (Via.ctx via) d) master
  have work := reqDown_work (d := acceptLine (Via.ctx via) d) master untunnelled
  simp only
  rw [answers_ringAsk (g := fun e => (reqDown e).2) (by rw [reqDown_master (d := acceptLine (Via.ctx via) d) master]), spoken.r (by decide),
    spoken.r (by decide), spoken.r (by decide), spoken.r (by decide), spoken.r (by decide), spoken.ring]
  exact ⟨state, mast, addrv, mem, downLeft, down, watchdog, said_of_st free work.st work.mem⟩

theorem reqJoin_member (member : isMaster d = false) (addressed : d.b F.SR_STAT_ADDRV = true) :
    reqJoin d = if srState d = 4 ∨ srState d = 3 then (true, sendJoin d) else (true, d) := if_neg (by simp [member, addressed])

theorem reqJoin_up (member : isMaster d = false) (addressed : d.b F.SR_STAT_ADDRV = true) (up : srState d = 2) : reqJoin d = (true, d) :=
  (reqJoin_member member addressed).trans (if_neg (by simp [up]))

/-- JOIN is not for a master, nor for a device without an address. -/
theorem reqJoin_other (other : ¬(d.r F.SR_STAT_MASTER = 0 ∧ d.r F.SR_STAT_ADDRV ≠ 0)) : reqJoin d = (false, d) := by
  refine if_pos ?_
  by_cases free : d.r F.SR_STAT_MASTER = 0
  · exact .inr (b_of_zero (not_not.mp fun addressed => other ⟨free, addressed⟩))
  · exact .inl (b_of_ne free)

theorem reqLeave_member (member : isMaster d = false) : reqLeave d = (true, ringLeave d) :=
  if_neg (by rw [member]; exact Bool.false_ne_true)

/-- JOIN of a member that is out. -/
theorem ringJoin_holds (free : responding d = false) (member : isMaster d = false) (addressed : d.b F.SR_STAT_ADDRV = true)
    (out : srState d = 3 ∨ srState d = 4) : let t := answers via (ringAsk reqJoin) d
    t.r F.SR_STAT_STATE = 5 ∧ t.sr.join = true ∧ t.sr.admitted = false ∧ t.sr.ctrl = d.sr.ctrl ++ [⟨d.r F.SR_STAT_ADDR, 6, 0, 0⟩] ∧
      VerbSaid via d t := by
  have untunnelled : (acceptLine (Via.ctx via) d).st.tun = none := responding_tun free
  have spoken := spoken_answers via sendJoin d
  have accepted : reqJoin (acceptLine (Via.ctx via) d) = (true, sendJoin (acceptLine (Via.ctx via) d)) :=
    (reqJoin_member (d := acceptLine (Via.ctx via) d) member addressed).trans (if_pos out.symm)
  obtain ⟨work, state, join, admitted, ctrl⟩ := sendJoin_work (d := acceptLine (Via.ctx via) d) untunnelled
    (show srState d ≠ 2 by rcases out with h | h <;> rw [h] <;> decide)
  simp only
  rw [answers_ringAsk accepted, spoken.r (by decide), spoken.ring]
  exact ⟨state, join, admitted, ctrl, said_of_st free work.st work.mem⟩

/-- LEAVE of a member that is UP. -/
theorem ringLeave_holds (free : responding d = false) (member : isMaster d = false) (addressed : d.b F.SR_STAT_ADDRV = true) (up : srState d = 2)
    (none : d.sw.slots = []) (quiet : d.sr.ctrl = []) : let t := answers via (ringAsk reqLeave) d
    t.r F.SR_STAT_STATE = 4 ∧ t.sr.ctrl = [⟨d.r F.SR_STAT_ADDR, 7, 0, 0⟩] ∧ t.sr.join = false ∧ t.r F.SR_STAT_ADDR = d.r F.SR_STAT_ADDR ∧
      VerbSaid via d t := by
  have untunnelled : (acceptLine (Via.ctx via) d).st.tun = .none := responding_tun free
  have spoken := spoken_answers via ringLeave d
  have accepted := reqLeave_member (d := acceptLine (Via.ctx via) d) member
  obtain ⟨work, state, addr, ctrl, join⟩ := ringLeave_work (d := acceptLine (Via.ctx via) d) untunnelled member addressed up none quiet
  simp only
  rw [answers_ringAsk accepted, spoken.r (by decide), spoken.r (by decide), spoken.ring]
  exact ⟨state, ctrl, join, addr, said_of_st free work.st work.mem⟩

/-- LEAVE where there is nothing to leave. -/
theorem ringLeave_nothing (nothing : d.b F.SR_STAT_ADDRV = false ∨ srState d = 4 ∨ srState d = 0) : ringLeave d = d := if_pos (.inr nothing)

/-- SET of an input. -/
theorem encSet_holds {n : Nat} (input : n < 2) {a : Args} (free : responding d = false) (fits : CfgFits n d)
    (mode : a.num "mode" ≤ 1) (term : a.num "term" ≤ 1) (filter : a.num "filter" ≤ 255) :
    let t := answers via (fun c e => ok c (scalePut a n (encFields a n e))) d
    (∀ k ∈ [("mode", F.EN_CFG_MODE n), ("term", F.EN_CFG_TERM n), ("filter", F.EN_CFG_FILTER n)],
      t.r k.2 = if a.has k.1 = true then a.num k.1 else d.r k.2) ∧ scaleOf t n = (if a.has "scale" = true then a.num "scale" else scaleOf d n) ∧
      scaleOf t (1 - n) = scaleOf d (1 - n) ∧ t.en = d.en ∧ VerbSaid via d t := by
  intro t
  have spoken : Spoken (scalePut a n (encFields a n (acceptLine (Via.ctx via) d))) t := spoken_answers via (fun e => scalePut a n (encFields a n e)) d
  have fields := encFields_frame input a (acceptLine (Via.ctx via) d)
  have scaled := scalePut_frame a n (encFields a n (acceptLine (Via.ctx via) d))
  obtain ⟨own, other⟩ := scalePut_scales input (a := a) (d := encFields a n (acceptLine (Via.ctx via) d))
  have held := encFields_r input (d := acceptLine (Via.ctx via) d) fits mode term filter
  have regs : (scalePut a n (encFields a n (acceptLine (Via.ctx via) d))).regs = (encFields a n (acceptLine (Via.ctx via) d)).regs := by rw [scaled]
  have before (m : Nat) : scaleOf (encFields a n (acceptLine (Via.ctx via) d)) m = scaleOf d m := by rw [fields]; rfl
  have after (m : Nat) : scaleOf t m = scaleOf (scalePut a n (encFields a n (acceptLine (Via.ctx via) d))) m := by
    rw [scaleOf, scaleOf, spoken.scale0, spoken.scale1]
  refine ⟨fun k key => ?_, (after n).trans (own.trans (by rw [before])), (after _).trans (other.trans (before _)), ?_, said_of_kept free ?_ ?_ ?_⟩
  · have unspoken : k.2.key ∉ [F.SYS_BOOTERR_CODE, F.UA_STAT_EVCNT].map Fld.key := by
      refine input_unspoken input k.2 ?_
      simp only [List.mem_cons, List.not_mem_nil, or_false] at key
      rcases key with rfl | rfl | rfl <;> simp
    exact (spoken.r unspoken).trans ((r_congr regs _).trans (held k key))
  · rw [spoken.en, scaled, fields]
    rfl
  all_goals rw [scaled, fields]
  all_goals rfl

/-- ZERO of an input that no furrow uses. -/
theorem encZero_holds {n v : Nat} (input : n < 2) (free : responding d = false) (range : v < 2 ^ 48) (unused : d.sw.furrows = [])
    (untied : d.ties Dev.fclk (d.enc n).net.1 = false) : let t := answers via (fun c e => ok c (positionLoad n (psetPut n v e))) d
    (t.enc n).pos = v ∧ t.r (F.EN_STAT_LQ n) = 0 ∧ t.r (F.EN_STAT_LN n) = 0 ∧ t.r (F.EN_STAT_LF n) = 0 ∧ (t.enc n).vel = (d.enc n).vel ∧
      (t.enc n).edges = (d.enc n).edges ∧ (∀ m, m ≠ n → t.enc m = d.enc m) ∧ VerbSaid via d t := by
  intro t
  have spoken : Spoken (positionLoad n (psetPut n v (acceptLine (Via.ctx via) d))) t := spoken_answers via (fun e => positionLoad n (psetPut n v e)) d
  have load := positionLoad_free (d := acceptLine (Via.ctx via) d) range unused untied
  have said : VerbSaid via d t := said_of_st free (by rw [load]; rfl) (by rw [load]; rfl)
  rw [load] at spoken
  obtain ⟨lq, ln, lf⟩ := positioned_stat (n := n) (v := v) (psetPut n v (acceptLine (Via.ctx via) d))
  have enc (m : Nat) : t.enc m = if m = n then { d.enc m with pos := v } else d.enc m := (spoken.enc m).trans (positioned_enc _ m)
  have unspoken := input_unspoken input
  refine ⟨?_, (spoken.r (unspoken _ (by simp))).trans lq, (spoken.r (unspoken _ (by simp))).trans ln, (spoken.r (unspoken _ (by simp))).trans lf, ?_, ?_,
    fun m other => by rw [enc, if_neg other], said⟩
  all_goals rw [enc, if_pos rfl]

end

theorem encVals_bounds (x : List Nat) (args : List (List Nat × List Nat)) : (valsOf encForm ⟨[x], args⟩).num "mode" ≤ 1 ∧
    (valsOf encForm ⟨[x], args⟩).num "term" ≤ 1 ∧ (valsOf encForm ⟨[x], args⟩).num "filter" ≤ 255 :=
  ⟨num_le_of_keyBound (by simp [KeyBound, wordKey, numKey]) _ _, num_le_of_keyBound (by simp [KeyBound, wordKey, numKey]) _ _,
    num_le_of_keyBound (by simp [KeyBound, wordKey, numKey]) _ _⟩

theorem zeroVals_bound (k : Nat) (x : List Nat) (args : List (List Nat × List Nat)) : (valsOf (zeroForm k) ⟨[x], args⟩).num "pos" < 2 ^ 48 :=
  Nat.lt_succ_of_le (num_le_of_keyBound (hi := 2 ^ 48 - 1) (by simp [KeyBound]) _ _)

theorem inputHeld_unused {d : Dev} (unused : d.sw.furrows = []) (n : Nat) : inputHeld d n = false := by
  simp [inputHeld, inputSown, anySown, boundTo, unused]

/-- Settles O32: each verb's line comes down to its command on the accepted line, and what the answer leaves alone carries the command's effect over. -/
theorem headRingAndEncoderVerbs : Obligations.HeadRingAndEncoderVerbs := by
  unfold Obligations.HeadRingAndEncoderVerbs
  intro via text x args n
  refine ⟨fun number port => ?head, ?ring, fun number input => ?enc⟩
  case head =>
    refine ⟨runs_of_onDev (fun _ => rfl) ?set, does_of_onDev (fun _ => rfl) ?set_holds, runs_of_onDev (fun _ => rfl) ?on_absent,
      runs_of_onDev (fun _ => rfl) ?on_on, does_of_onDev (fun _ => rfl) ?on_fallow, does_of_onDev (fun _ => rfl) ?on_hitching,
      runs_of_onDev (fun _ => rfl) ?hitch_absent, does_of_onDev (fun _ => rfl) ?hitch_off, does_of_onDev (fun _ => rfl) ?hitch_on,
      runs_of_onDev (fun _ => rfl) ?off_on, does_of_onDev (fun _ => rfl) ?off_hitching, runs_of_onDev (fun _ => rfl) ?off_done,
      runs_of_onDev (fun _ => rfl) ?shown⟩
    case set => exact fun d ⟨line, fits⟩ => headSet_acts line fits
    case set_holds =>
      intro d ⟨line, fits, _⟩
      have frame := headSettings_frame port (a := headVals x args) (acceptLine (Via.ctx via) d)
      have spoken := spoken_answers via (headSettings (headVals x args) n) d
      have free := verbLine_free line
      rw [headSet_acts line fits, answers_headSet number]
      refine ⟨?_, fun i bit => ?_, ?_, said_of_st free (by rw [frame]) (by rw [frame]; rfl)⟩
      · exact (spoken.r (skew_unspoken port)).trans (headSettings_skew port _ (headVals_skew x args))
      · rw [spoken.r (by decide)]
        exact headSettings_policy port _ bit
      · rw [spoken.hp, frame]
        rfl
    case on_absent =>
      intro d ⟨line, absent⟩
      rw [headLine_acts (name := "HEAD ON") number port line (headHandler_on x)]
      exact answers_congr (if_pos absent)
    case on_on =>
      intro d ⟨line, on⟩
      rw [headLine_acts (name := "HEAD ON") number port line (headHandler_on x)]
      exact answers_congr ((if_neg (by rw [show (acceptLine (Via.ctx via) d).r (F.HP_STAT_STATE n) = 2 from on]; decide)).trans (if_pos on))
    case on_fallow =>
      intro d ⟨line, fallow⟩
      rw [headLine_acts (name := "HEAD ON") number port line (headHandler_on x)]
      exact headOn_fallow port fallow
    case on_hitching =>
      intro d ⟨line, hitching⟩
      rw [headLine_acts (name := "HEAD ON") number port line (headHandler_on x)]
      exact headOn_hitching hitching
    case hitch_absent =>
      intro d ⟨line, absent⟩
      rw [headLine_acts (name := "HEAD HITCH") number port line (headHandler_hitch x)]
      exact answers_congr (if_pos absent)
    case hitch_off =>
      intro d ⟨line, off⟩
      rw [headLine_acts (name := "HEAD HITCH") number port line (headHandler_hitch x)]
      exact headHitch_off port off
    case hitch_on =>
      intro d ⟨line, on, unslotted, _⟩
      rw [headLine_acts (name := "HEAD HITCH") number port line (headHandler_hitch x)]
      exact headHitch_on port on unslotted
    case off_on =>
      intro d ⟨line, on, quiet⟩
      rw [headLine_acts (name := "HEAD OFF") (act := fun p c d => ok c (hpOff p d)) number port line (headHandler_off x)]
      exact answers_congr (congrArg (ok (Via.ctx via)) (hpOff_on (d := acceptLine (Via.ctx via) d) port on quiet))
    case off_hitching =>
      intro d ⟨line, hitching⟩
      have free := verbLine_free line.1
      obtain ⟨state, lcause, hello, await, st, mem⟩ := hpOff_hitching (d := acceptLine (Via.ctx via) d) hitching
      have spoken := spoken_answers via (hpOff n) d
      rw [headLine_acts (name := "HEAD OFF") (act := fun p c d => ok c (hpOff p d)) number port line (headHandler_off x)]
      refine ⟨(spoken.r (port_unspoken port _ (by simp))).trans state, (spoken.r (port_unspoken port _ (by simp))).trans lcause, ?_, ?_,
        said_of_st free st mem⟩
      · rw [Dev.head, spoken.hp]
        exact hello
      · rw [Dev.head, spoken.hp]
        exact await
    case off_done =>
      intro d ⟨line, done⟩
      rw [headLine_acts (name := "HEAD OFF") (act := fun p c d => ok c (hpOff p d)) number port line (headHandler_off x)]
      exact answers_congr (congrArg (ok (Via.ctx via)) (hpOff_done (d := acceptLine (Via.ctx via) d) done))
    case shown => exact fun d line => headLine_acts (name := "HEAD SHOW") number port line (headHandler_show x)
  case ring =>
    refine ⟨does_of_onDev (fun _ => rfl) ?up, runs_of_onDev (fun _ => rfl) ?up_refused, does_of_onDev (fun _ => rfl) ?down,
      runs_of_onDev (fun _ => rfl) ?down_refused, does_of_onDev (fun _ => rfl) ?join, runs_of_onDev (fun _ => rfl) ?join_up,
      runs_of_onDev (fun _ => rfl) ?join_refused, does_of_onDev (fun _ => rfl) ?leave, runs_of_onDev (fun _ => rfl) ?leave_nothing,
      runs_of_onDev (fun _ => rfl) ?leave_refused, runs_of_onDev (fun _ => rfl) ?shown⟩
    case up =>
      intro d ⟨line, down, free⟩
      rw [ringLine_acts (name := "RING UP") line ringHandler_up, answers_ringUp down (b_of_zero free)]
      exact ringUp_waits (responding_tun (verbLine_free line.1))
    case up_refused =>
      intro d ⟨line, busy⟩
      rw [ringLine_acts (name := "RING UP") line ringHandler_up, answers_ringUp_refused (busy.imp_right b_of_ne)]
    case down =>
      intro d ⟨line, master⟩
      rw [ringLine_acts (name := "RING DOWN") line ringHandler_down]
      exact ringDown_holds (verbLine_free line.1) (b_of_ne master)
    case down_refused =>
      intro d ⟨line, free⟩
      rw [ringLine_acts (name := "RING DOWN") line ringHandler_down]
      exact answers_ringAsk_refused (if_neg (by rw [show isMaster (acceptLine (Via.ctx via) d) = false from b_of_zero free]; decide))
    case join =>
      intro d ⟨line, ⟨free, addressed⟩, out⟩
      rw [ringLine_acts (name := "RING JOIN") line ringHandler_join]
      exact ringJoin_holds (verbLine_free line.1) (b_of_zero free) (b_of_ne addressed) out
    case join_up =>
      intro d ⟨line, ⟨free, addressed⟩, up⟩
      rw [ringLine_acts (name := "RING JOIN") line ringHandler_join]
      exact answers_ringAsk (g := id) (reqJoin_up (d := acceptLine (Via.ctx via) d) (b_of_zero free) (b_of_ne addressed) up)
    case join_refused =>
      intro d ⟨line, other⟩
      rw [ringLine_acts (name := "RING JOIN") line ringHandler_join]
      exact answers_ringAsk_refused (reqJoin_other (d := acceptLine (Via.ctx via) d) other)
    case leave =>
      intro d ⟨line, ⟨free, addressed⟩, up, unslotted, _, quiet⟩
      rw [ringLine_acts (name := "RING LEAVE") line ringHandler_leave]
      exact ringLeave_holds (verbLine_free line.1) (b_of_zero free) (b_of_ne addressed) up unslotted quiet
    case leave_nothing =>
      intro d ⟨line, free, nothing⟩
      rw [ringLine_acts (name := "RING LEAVE") line ringHandler_leave]
      refine answers_ringAsk (g := id) ?_
      have left := ringLeave_nothing (d := acceptLine (Via.ctx via) d) (nothing.imp_left b_of_zero)
      rw [reqLeave_member (d := acceptLine (Via.ctx via) d) (b_of_zero free), left]
      rfl
    case leave_refused =>
      intro d ⟨line, master⟩
      rw [ringLine_acts (name := "RING LEAVE") line ringHandler_leave]
      exact answers_ringAsk_refused (if_pos (b_of_ne (d := acceptLine (Via.ctx via) d) master))
    case shown => exact fun d line => ringLine_acts (name := "RING SHOW") line ringHandler_show
  case enc =>
    refine ⟨runs_of_onDev (fun _ => rfl) ?set, does_of_onDev (fun _ => rfl) ?set_holds, runs_of_onDev (fun _ => rfl) ?zero_held,
      does_of_onDev (fun _ => rfl) ?zero, runs_of_onDev (fun _ => rfl) ?shown⟩
    case set => exact fun d ⟨line, fits⟩ => encSet_acts line fits
    case set_holds =>
      intro d ⟨line, fits, cfg⟩
      rw [fldsAt_cfg input] at cfg
      rw [encSet_acts line fits, answers_encSet number]
      obtain ⟨mode, term, filter⟩ := encVals_bounds x args
      exact encSet_holds input (verbLine_free line) cfg mode term filter
    case zero_held =>
      intro d ⟨⟨line, fits⟩, held⟩
      rw [encZero_acts number line fits, answers_encZero_held number _ held]
    case zero =>
      intro d ⟨⟨line, fits⟩, unused, untied⟩
      rw [encZero_acts number line fits, answers_encZero_free number _ (inputHeld_unused unused n)]
      exact encZero_holds input (verbLine_free line) (zeroVals_bound _ x args) unused (decide_eq_false untied)
    case shown =>
      intro d ⟨line, bare⟩
      subst bare
      exact encShow_acts number input line

end Sys2Proof.Proofs
end
